-- ==== Sys2Proof/Word.lean ====
section
/-! DEFINITION. The word types of the device (00_scope.md: registers are 32 bits wide) and their plainest arithmetic. -/

namespace Sys2Proof

/-- A register word of 32 bits; bit 0 is the least significant bit. -/
abbrev Word := BitVec 32

/-- One byte of a memory. -/
abbrev Byte := BitVec 8

/-- A 64-bit quantity, held in two consecutive registers (R8). -/
abbrev Long := BitVec 64

/-- The low word of a 64-bit quantity, at the lower offset (R8). -/
def Long.lo (x : Long) : Word := x.truncate 32

/-- The high word of a 64-bit quantity, at the offset 0x4 above the low word (R8). -/
def Long.hi (x : Long) : Word := (x >>> 32).truncate 32

/-- The 64-bit quantity of a low and a high word (R8). -/
def Long.ofWords (lo hi : Word) : Long := hi ++ lo

end Sys2Proof
end

