-- ==== Sys2Proof/Syntax.lean ====
section
/-! DEFINITION. The commands of the block: one constructor per row of spec/opcode_table.json, with what the row's step takes from outside. -/

namespace Sys2Proof

/-- A lane number of either side (R4). -/
abbrev Lane := Fin 8

/-- A Squad number (R206). -/
abbrev Sq := Fin 16

/-- The agent that issues an access (R41): its master ID, the engine or DMA channel within a Squad (R49), and whether it is a
user-level agent (R228). -/
structure Who where
  mid : Fin 32
  sub : Nat := 0
  user : Bool := false
  deriving DecidableEq, Repr

/-- What the Pacer finds in one captured block of 4,096 decisions (R97 to R100): how often each level occurs, how many symbols
differ from the one before, the reasons of R99 that the block itself shows, the predicted SNRs in 0.01 dB, whether blind
acquisition has converged (R94 phase 4), and the time since the entry to TRAIN in ms. -/
structure Block where
  occ0 : Nat
  occ1 : Nat
  occ2 : Nat
  occ3 : Nat
  trans : Nat
  calStep : Bool
  late : Bool
  left : Bool
  snrCand : Nat
  snrRef : Nat
  blindDone : Bool
  ms : Nat
  deriving DecidableEq, Repr

/-- How many of the samples of a window carried one pattern of nine levels a[n+3] to a[n-5] (entry j meets tap j of R116), on
sub-DAC `sub` (R118). -/
structure TxSamples where
  num : Nat
  levels : List (Fin 4)
  sub : Fin 2
  deriving DecidableEq, Repr

/-- A flagged symbol of a received RS codeword (R154, R155): the line lane that carried it, its position, the rule E0 to E2 that
flagged it, the margin of its inner codeword, and whether its value is wrong. -/
structure Flag where
  lane : Lane
  pos : Nat
  rule : Fin 3
  margin : Nat
  wrong : Bool
  deriving DecidableEq, Repr

/-- The kinds of 66-bit blocks that rate matching tells apart (R162). -/
inductive Blk where
  | idle | term | other
  deriving DecidableEq, Repr

/-- The line or the host side. -/
inductive Side where
  | line | host
  deriving DecidableEq, Repr

/-- What a stream shows of the trigger: the number of the trigger record since the start, the records written from it on by the
decision, and the symbol of the instant within it. -/
structure StreamTrig where
  pos : Nat
  after : Nat
  sym : Nat
  deriving DecidableEq, Repr

/-- What an enabled stream brings at DONE: the time of its trigger record (R247), and the bytes of its banks from its first bank on. -/
structure StreamData where
  align : Word
  bytes : List Byte
  deriving DecidableEq, Repr

/-- What the pipeline shows of a tagged instruction (R233, R235): its program counter, its fetch cycle, the cycles after fetch at
which it entered decode, operand, execute and writeback (none where it did not), and its flags: fabric, cache and load-use stall,
trapped, squashed. -/
structure Tagged where
  pc : Word
  stamp : Word
  stages : List (Option Nat)
  flags : BitVec 5
  deriving DecidableEq, Repr

/-- What a conversion finds: one code, or the up and the down code of an open-wire conversion (R283). -/
structure Conv where
  up : BitVec 16
  down : BitVec 16
  deriving DecidableEq, Repr

/-- Where a stored bit flips (R313, R322): a bit of a protected word, by its place, or a bit of one of the three copies of a voted
word. -/
inductive FlipAt where
  | word (loc : Nat) (bit : Fin 39)
  | vote (word : Fin 5) (copy : Fin 3) (bit : Fin 32)
  deriving DecidableEq, Repr

/-- The instructions of the TAP (R456). -/
inductive TapInstr where
  | bypass | idcode | samplePreload | extest | clamp | highz | extestPulse | extestTrain
  deriving DecidableEq, Repr

/-- The width of an access. -/
inductive Size where
  | byte | half | word
  deriving DecidableEq, Repr

/-- What a register write may meet outside the device: where each stream stands at a trigger (R242), whether a write of the journal
fails (R408), the flash slots that cannot be read (R404), and the program counter of the engine that writes (R213). -/
structure Facts where
  trigs : List StreamTrig
  jbad : Bool
  bad : List (Fin 2)
  pc : Word
  deriving DecidableEq, Repr

/-- Who reads (R316): a master that reads an address, a Stride engine that fetches an instruction at an offset of its program memory, or
hardware of a lane, the coding path or the filter that reads a word of its own memories. -/
inductive Consumer where
  | master (w : Who) (addr : Word) (size : Size) (pc : Word)
  | fetch (n : Sq) (e : Fin 64) (off : Fin 0x40000)
  | hardware (loc : Nat)
  deriving DecidableEq, Repr

/-- A transfer that an image programs (R215): rows of words, with the distance from one row to the next on either side, in bytes. -/
structure DmaMove where
  src : Word
  dst : Word
  words : Nat
  rows : Nat
  srcStep : Nat
  dstStep : Nat
  deriving DecidableEq, Repr

/-- An SPI frame (R344): whether its CMD is one of R344 and it reaches byte 5, its LEN and ADDR. -/
structure SpiHead where
  header : Bool
  len : BitVec 8
  addr : Word
  deriving DecidableEq, Repr

/-- A Baton request (R351): the bytes A, type, guest, tag, L, ADDR, data and CRC, and whether a Manchester violation came before the CRC. -/
structure BatonFrame where
  a : BitVec 8
  typ : BitVec 4
  guest : Bool
  tag : BitVec 3
  l : BitVec 8
  addr : Word
  data : List Word
  crc : BitVec 16
  violation : Bool
  deriving DecidableEq, Repr

/-- One command of the block: a row of spec/opcode_table.json, with what it takes from outside. -/
inductive Instr where
  /-- REG_WRITE (R5) -/
  | regWrite (w : Who) (addr : Word) (size : Size) (v : Word) (x : Facts)
  /-- SHADOW_WRITE (R46) -/
  | shadowWrite (w : Who) (p : Fin 256) (r : Fin 1024) (v : Word)
  /-- SOFT_RST (R7) -/
  | softRst (w : Who) (p : Fin 256) (v : Word)
  /-- SOFT_RESET_COMPLETE (R43) -/
  | softResetComplete (p : Fin 256)
  /-- CLK_OFF (R43) -/
  | clkOff (w : Who) (p : Fin 256) (v : Word)
  /-- WLOCK (R44) -/
  | wlock (w : Who) (p : Fin 256) (v : Word)
  /-- EVT_STATUS_CLEAR (R335) -/
  | evtStatusClear (w : Who) (p : Fin 256) (v : Word)
  /-- EVT_FORCE (R337) -/
  | evtForce (w : Who) (p : Fin 256) (v : Word)
  /-- ARM (R43) -/
  | arm (w : Who) (p : Fin 256) (v : Word)
  /-- COMMIT (R47) -/
  | commit (w : Who) (v : Word)
  /-- COMMIT_DECIDE (R48) -/
  | commitDecide
  /-- COMMIT_DEADLINE (R48) -/
  | commitDeadline
  /-- COMMIT_GATE (R48) -/
  | commitGate (p : Fin 256) (base : Lane)
  /-- WIDE_READ_LO (R49) -/
  | wideReadLo (w : Who) (p : Fin 256) (r : Fin 1024)
  /-- WIDE_READ_HI (R49) -/
  | wideReadHi (w : Who) (p : Fin 256) (r : Fin 1024)
  /-- WIDE_WRITE_LO (R51) -/
  | wideWriteLo (w : Who) (p : Fin 256) (r : Fin 1024) (v : Word)
  /-- WIDE_WRITE_HI (R51) -/
  | wideWriteHi (w : Who) (p : Fin 256) (r : Fin 1024) (v : Word)
  /-- LRX_EN_SET (R92) -/
  | lrxEnSet (w : Who) (n : Lane) (v : Word)
  /-- LRX_EN_CLEAR (R62) -/
  | lrxEnClear (w : Who) (n : Lane) (v : Word)
  /-- SIG_DET (R61) -/
  | sigDet (sd : Side) (n : Lane)
  /-- LOS (R61) -/
  | los (sd : Side) (n : Lane)
  /-- CDR_LOCK (R64) -/
  | cdrLock (sd : Side) (n : Lane) (freq : Int) (phase : Nat)
  /-- CDR_UNLOCK (R64) -/
  | cdrUnlock (sd : Side) (n : Lane) (freq : Int)
  /-- FREQ_RANGE (R64) -/
  | freqRange (sd : Side) (n : Lane) (high : Bool)
  /-- CDR_LOSS_TIMEOUT (R92) -/
  | cdrLossTimeout (sd : Side) (n : Lane)
  /-- AGC_DONE (R59) -/
  | agcDone (sd : Side) (n : Lane) (gain peak snr : Nat)
  /-- CLIP_WINDOW_END (R60) -/
  | clipWindowEnd (n : Lane) (count : Nat)
  /-- ADC_CAL_RUN (R68) -/
  | adcCalRun (w : Who) (n : Lane) (v : Word)
  /-- CAL_RUN_START (R69) -/
  | calRunStart (n : Lane)
  /-- CAL_OBSERVATION_END (R69) -/
  | calObservationEnd (n : Lane) (targets : List Word)
  /-- CAL_APPLY (R69) -/
  | calApply (n : Lane)
  /-- PRBS_LOCK (R77) -/
  | prbsLock (sd : Side) (n : Lane)
  /-- PRBS_LOCK_LOST (R77) -/
  | prbsLockLost (sd : Side) (n : Lane)
  /-- PRBS_ERR (R78) -/
  | prbsErr (sd : Side) (n : Lane) (bits errBits errSyms : Nat)
  /-- CNT_OVF (R78) -/
  | cntOvf (sd : Side) (n : Lane) (bits errBits errSyms : Nat)
  /-- PRBS_SNAP (R78) -/
  | prbsSnap (sd : Side) (w : Who) (n : Lane) (v : Word)
  /-- PRBS_CLR (R78) -/
  | prbsClr (sd : Side) (w : Who) (n : Lane) (v : Word)
  /-- PEAK_SEARCH_DWELL_END (R94) -/
  | peakSearchDwellEnd (n : Lane) (snr : Nat)
  /-- TRAIN_TIMEOUT (R95) -/
  | trainTimeout (n : Lane)
  /-- LANE_FAULT_DWELL_END (R92) -/
  | laneFaultDwellEnd (n : Lane)
  /-- PACER_CYCLE (R97) -/
  | pacerCycle (n : Lane) (b : Block)
  /-- HANDOFF_START (R104) -/
  | handoffStart (n : Lane)
  /-- HANDOFF_STEP (R103) -/
  | handoffStep (n : Lane)
  /-- HANDOFF_DONE (R104) -/
  | handoffDone (n : Lane)
  /-- HOLD_REQ (R102) -/
  | holdReq (w : Who) (n : Lane) (v : Word)
  /-- PACER_AUTO (R110) -/
  | pacerAuto (w : Who) (n : Lane) (v : Word)
  /-- PACER_SWAP (R110) -/
  | pacerSwap (w : Who) (n : Lane) (v : Word)
  /-- PACER_RESTART (R110) -/
  | pacerRestart (w : Who) (n : Lane) (v : Word)
  /-- PACE_CFG_WRITE (R91) -/
  | paceCfgWrite (w : Who) (n : Lane) (v : Word)
  /-- PACE_UNITS_READY (R107) -/
  | paceUnitsReady (n : Lane)
  /-- PACE_APPLIED (R106) -/
  | paceApplied (n : Lane)
  /-- LTX_EN_SET (R127) -/
  | ltxEnSet (w : Who) (n : Lane) (v : Word)
  /-- LTX_EN_CLEAR (R132) -/
  | ltxEnClear (w : Who) (n : Lane) (v : Word)
  /-- LTX_START_POWERED (R127) -/
  | ltxStartPowered (n : Lane)
  /-- UNSQUELCH_RAMP_STEP (R129) -/
  | unsquelchRampStep (sd : Side) (n : Lane)
  /-- UNSQUELCH_RAMP_END (R129) -/
  | unsquelchRampEnd (sd : Side) (n : Lane)
  /-- SQUELCH_REQ (R128) -/
  | squelchReq (sd : Side) (w : Who) (n : Lane) (v : Word)
  /-- FOLLOW_CLR (R128) -/
  | followClr (w : Who) (n : Lane) (v : Word)
  /-- OUT_FAULT (R128) -/
  | outFault (sd : Side) (n : Lane)
  /-- FADE_COPY_DONE (R121) -/
  | fadeCopyDone (n : Lane)
  /-- FADE_START (R121) -/
  | fadeStart (n : Lane)
  /-- FADE_STEP (R121) -/
  | fadeStep (n : Lane)
  /-- FADE_DONE (R121) -/
  | fadeDone (n : Lane)
  /-- SKEW_FINE_STEP (R124) -/
  | skewFineStep (n : Lane)
  /-- SWING_SLEW_STEP (R125) -/
  | swingSlewStep (n : Lane)
  /-- DAC_CAL_RUN (R130) -/
  | dacCalRun (w : Who) (n : Lane) (v : Word)
  /-- LTX_CAL_START (R130) -/
  | ltxCalStart (n : Lane)
  /-- LTX_CAL_OBSERVATION_END (R130) -/
  | ltxCalObservationEnd (n : Lane) (counts : List Nat) (targets : List Word)
  /-- LTX_CAL_APPLY (R130) -/
  | ltxCalApply (n : Lane)
  /-- LTX_CAL_RETRY (R132) -/
  | ltxCalRetry (n : Lane)
  /-- LTX_CLIP_WINDOW_END (R119) -/
  | ltxClipWindowEnd (n : Lane) (ss : List TxSamples)
  /-- ERR_INJ (R133) -/
  | errInj (sd : Side) (w : Who) (n : Lane) (v : Word)
  /-- INNER_ENCODE (R143) -/
  | innerEncode (n : Lane) (bits : BitVec 120)
  /-- INNER_CODEWORD_DECODE (R141) -/
  | innerCodewordDecode (n : Lane) (soft : List (BitVec 4))
  /-- CW_LOCK (R142) -/
  | cwLock (n : Lane) (offset : Nat)
  /-- CW_LOCK_LOST (R142) -/
  | cwLockLost (n : Lane)
  /-- INNER_FAIL_THR (R170) -/
  | innerFailThr (n : Lane) (fails : Nat)
  /-- AM_LOCK (R147) -/
  | amLock (n : Lane)
  /-- AM_LOST (R147) -/
  | amLost (n : Lane)
  /-- HOST_RS_DECODE (R147) -/
  | hostRsDecode (n : Lane) (data : BitVec 5440) (errs : Nat)
  /-- LAP_START (R158) -/
  | lapStart (n : Lane) (lat : BitVec 24)
  /-- LAP_HEADER_RECEIVED (R166) -/
  | lapHeaderReceived (n : Lane) (h : BitVec 480) (spaced : Bool) (arrival : Int) (latRx : BitVec 24)
  /-- RS_CODEWORD_DECODE (R155) -/
  | rsCodewordDecode (n : Lane) (fs : List Flag) (errs : Nat) (slot23 : Option Nat)
  /-- RATE_MATCH_BLOCK (R162) -/
  | rateMatchBlock (n : Lane) (b : Blk) (taken : Nat)
  /-- TUNE_WINDOW_END (R157) -/
  | tuneWindowEnd (n : Lane)
  /-- CODING_CNT_CLR (R171) -/
  | codingCntClr (w : Who) (p : Fin 5) (v : Word)
  /-- HRX_EN_SET (R186) -/
  | hrxEnSet (w : Who) (n : Lane) (v : Word)
  /-- HRX_EN_CLEAR (R186) -/
  | hrxEnClear (w : Who) (n : Lane) (v : Word)
  /-- HTX_EN_SET (R180) -/
  | htxEnSet (w : Who) (n : Lane) (v : Word)
  /-- HTX_EN_CLEAR (R186) -/
  | htxEnClear (w : Who) (n : Lane) (v : Word)
  /-- HTX_START_POWERED (R180) -/
  | htxStartPowered (n : Lane)
  /-- WARMUP_FRAME_RECEIVED (R185) -/
  | warmupFrameReceived (n : Lane) (syms : List (Fin 4)) (spaced : Bool)
  /-- WARMUP_FRAME_START (R183) -/
  | warmupFrameStart (n : Lane)
  /-- WARMUP_TAP_UPDATE (R185) -/
  | warmupTapUpdate (n : Lane)
  /-- SEARCH_MEASURE_END (R188) -/
  | searchMeasureEnd (n : Lane) (snr : Nat)
  /-- REQ_TIMEOUT (R188) -/
  | reqTimeout (n : Lane)
  /-- HANDOVER (R189) -/
  | handover (n : Lane) (ms : Nat)
  /-- STATIC_ACCEPT (R192) -/
  | staticAccept (n : Lane) (snr ms : Nat)
  /-- ATTEMPT_TIMER_EXPIRY (R190) -/
  | attemptTimerExpiry (n : Lane)
  /-- HOST_FAULT_DWELL_END (R190) -/
  | hostFaultDwellEnd (n : Lane)
  /-- HOST_TABLE_REFRESH (R175) -/
  | hostTableRefresh (n : Lane) (snr : Nat)
  /-- HOST_FFE_LMS_UPDATE (R175) -/
  | hostFfeLmsUpdate (n : Lane) (signs : List Int)
  /-- HOST_GATE_WINDOW (R176) -/
  | hostGateWindow (n : Lane) (b : Block)
  /-- HTX_FIR_RAMP_STEP (R179) -/
  | htxFirRampStep (n : Lane)
  /-- HTX_SWING_SLEW_STEP (R181) -/
  | htxSwingSlewStep (n : Lane)
  /-- REF_ACTIVITY_LOSS (R195) -/
  | refActivityLoss (r : Fin 2)
  /-- REF_FREQ_CHECK (R195) -/
  | refFreqCheck (r : Fin 2) (count : Nat)
  /-- REF_OK (R195) -/
  | refOk (r : Fin 2) (ppm : List Int)
  /-- PLL_UNLOCK (R204) -/
  | pllUnlock (k : Fin 3)
  /-- SYNTH_GLIDE_END (R197) -/
  | synthGlideEnd (sd : Side) (n : Lane)
  /-- RCLK_CFG_WRITE (R198) -/
  | rclkCfgWrite (w : Who) (k : Fin 2) (v : Word)
  /-- SQUAD_HALT_REQ (R207) -/
  | squadHaltReq (w : Who) (n : Sq) (v : Word)
  /-- SQUAD_HALTED (R207) -/
  | squadHalted (n : Sq)
  /-- SQUAD_RUN (R207) -/
  | squadRun (w : Who) (n : Sq) (v : Word)
  /-- ENGINE_TRAP (R213) -/
  | engineTrap (n : Sq) (e : Fin 64) (cause : Fin 6) (pc addr : Word)
  /-- ENGINE_WATCHDOG (R212) -/
  | engineWatchdog (n : Sq) (e : Fin 64) (pc : Word)
  /-- AUTO_RECOVER (R214) -/
  | autoRecover (n : Sq)
  /-- DMA_TRANSFER (R215) -/
  | dmaTransfer (n : Sq) (c : Fin 4) (m : DmaMove)
  /-- DMA_CLR (R216) -/
  | dmaClr (w : Who) (n : Sq) (v : Word)
  /-- RELOAD_GO (R217) -/
  | reloadGo (w : Who) (n : Sq)
  /-- RELOAD_START (R218) -/
  | reloadStart (n : Sq)
  /-- RELOAD_VERIFY (R218) -/
  | reloadVerify (n : Sq) (id : Word)
  /-- RELOAD_DONE (R218) -/
  | reloadDone (n : Sq)
  /-- LEND (R220) -/
  | lend (w : Who) (n : Sq) (v : Word)
  /-- LEND_RELEASE (R221) -/
  | lendRelease (n : Sq)
  /-- SQUAD_IDENT (R224) -/
  | squadIdent (w : Who) (n : Sq) (tag : BitVec 8)
  /-- STATS (R224) -/
  | stats (w : Who) (n : Sq) (tag : BitVec 8)
  /-- EXCLUDE (R224) -/
  | exclude (w : Who) (n : Sq) (tag : BitVec 8)
  /-- INCLUDE (R224) -/
  | include (w : Who) (n : Sq) (tag : BitVec 8)
  /-- ENG_MAP (R224) -/
  | engMap (w : Who) (n : Sq) (tag : BitVec 8)
  /-- CMD_DONE (R223) -/
  | cmdDone (n : Sq) (util longest skipped : Word)
  /-- CMD_TIMEOUT (R223) -/
  | cmdTimeout (n : Sq)
  /-- SPLIT_CLR (R231) -/
  | splitClr (w : Who) (v : Word)
  /-- CNT_WRITE (R231) -/
  | cntWrite (w : Who) (k : Fin 128) (v : Word)
  /-- SPLIT_CNT_WRAP (R230) -/
  | splitCntWrap (k : Fin 128) (n : Nat)
  /-- BW_WIN_WRITE (R232) -/
  | bwWinWrite (w : Who) (v : Word)
  /-- BW_WINDOW_END (R232) -/
  | bwWindowEnd (bytes : List Word)
  /-- TAG_INSTRUCTION (R233) -/
  | tagInstruction (t : Tagged)
  /-- TAG_CLR (R233) -/
  | tagClr (w : Who)
  /-- CAPTURE_START (R240) -/
  | captureStart (w : Who)
  /-- CAPTURE_RELEASE (R240) -/
  | captureRelease (w : Who)
  /-- CAPTURE_ABORT (R240) -/
  | captureAbort (w : Who)
  /-- SW_TRIG (R242) -/
  | swTrig (w : Who) (ts : List StreamTrig)
  /-- TRIGGER_CONDITION (R242) -/
  | triggerCondition (ts : List StreamTrig)
  /-- TRIG_IN_EDGE (R242) -/
  | trigInEdge (rising : Bool) (ts : List StreamTrig)
  /-- AUTO_TRIGGER_TIMEOUT (R244) -/
  | autoTriggerTimeout (ts : List StreamTrig)
  /-- TRIG_OUT_PULSE_END (R245) -/
  | trigOutPulseEnd
  /-- CAP_DONE (R240) -/
  | capDone (xs : List StreamData)
  /-- SKEW_RUN (R246) -/
  | skewRun (w : Who)
  /-- SKEW_CAL_DONE (R246) -/
  | skewCalDone (vals : List (BitVec 16))
  /-- ANA_GO (R249) -/
  | anaGo (w : Who)
  /-- ANA_END (R249) -/
  | anaEnd (eye : List (Nat × Nat × Nat)) (halt : Option (Nat × Word))
  /-- ANA_CLEAR (R250) -/
  | anaClear (w : Who)
  /-- THERMAL_READING (R255) -/
  | thermalReading (raws : List (BitVec 12))
  /-- SENS_CLR (R256) -/
  | sensClr (w : Who) (v : Word)
  /-- CAL_TEMP_CHECK (R265) -/
  | calTempCheck
  /-- CAL_CMD_RUN (R266) -/
  | calCmdRun (w : Who) (v : Word)
  /-- STORE (R266) -/
  | store (w : Who) (v : Word)
  /-- RESTORE_PREV (R266) -/
  | restorePrev (w : Who) (v : Word)
  /-- RELOAD_STORE (R266) -/
  | reloadStore (w : Who) (v : Word)
  /-- STORE_DUE (R268) -/
  | storeDue
  /-- STORE_WRITE_DONE (R268) -/
  | storeWriteDone (bad : List (Nat × Word))
  /-- MADC_EN (R277) -/
  | madcEn (w : Who) (u : Fin 2) (v : Word)
  /-- MADC_CORE_POWERED (R277) -/
  | madcCorePowered (u : Fin 2)
  /-- MADC_START (R278) -/
  | madcStart (w : Who) (u : Fin 2) (v : Word)
  /-- MADC_STOP (R278) -/
  | madcStop (w : Who) (u : Fin 2) (v : Word)
  /-- MADC_PASS_START (R278) -/
  | madcPassStart (u : Fin 2) (late : Bool)
  /-- MADC_CONVERSION_END (R278) -/
  | madcConversionEnd (u : Fin 2) (x : Conv)
  /-- URG_REQ (R281) -/
  | urgReq (w : Who) (u : Fin 2) (v : Word)
  /-- URG_DONE (R281) -/
  | urgDone (u : Fin 2) (x : Conv)
  /-- MADC_OFFSET_RUN_START (R286) -/
  | madcOffsetRunStart
  /-- MADC_OFFSET_RUN_END (R285) -/
  | madcOffsetRunEnd (u : Fin 2) (target : BitVec 16)
  /-- SYNC_IN_EDGE (R289) -/
  | syncInEdge (rising : Bool)
  /-- FILTER_RESET (R289) -/
  | filterReset (w : Who) (v : Word)
  /-- FILTER_OUTPUT (R287) -/
  | filterOutput (c : Fin 8) (live new : Int)
  /-- HDAC_TICK (R300) -/
  | hdacTick (c : Fin 8)
  /-- HDAC_CODE_WRITE (R300) -/
  | hdacCodeWrite (w : Who) (c : Fin 8) (v : Word)
  /-- SPAN_HOLD_END (R302) -/
  | spanHoldEnd (c : Fin 8)
  /-- SPAN_SWITCH_DONE (R302) -/
  | spanSwitchDone (c : Fin 8)
  /-- SW_CLR (R303) -/
  | swClr (w : Who) (v : Word)
  /-- DAC_CLR_N_FALL (R303) -/
  | dacClrNFall
  /-- DAC_CLR_N_RISE (R304) -/
  | dacClrNRise
  /-- SCRUB_WORD (R319) -/
  | scrubWord
  /-- SCRUB_PERIOD_END (R321) -/
  | scrubPeriodEnd
  /-- SCRUB_RESTART (R321) -/
  | scrubRestart (w : Who) (v : Word)
  /-- SCRUB_CLR (R326) -/
  | scrubClr (w : Who) (v : Word)
  /-- HOST_MEMORY_READ (R316) -/
  | hostMemoryRead (c : Consumer) (bad : List (Fin 2))
  /-- COACH_MEMORY_EXCEPTION (R317) -/
  | coachMemoryException (loc : Nat) (bad : List (Fin 2))
  /-- REFEREE_EVENT (R328) -/
  | refereeEvent (p : Fin 256) (src : Fin 32)
  /-- REACTION_END (R328) -/
  | reactionEnd (p : Fin 256) (src : Fin 32)
  /-- WATCH_WINDOW_CLOSE (R333) -/
  | watchWindowClose (i : Fin 6) (w : Fin 32)
  /-- WATCH_CFG_WRITE (R333) -/
  | watchCfgWrite (who : Who) (i : Fin 6) (w : Fin 32) (win : Bool) (v : Word)
  /-- LOG_CLR (R340) -/
  | logClr (w : Who) (v : Word)
  /-- FIRST_CLR (R340) -/
  | firstClr (w : Who) (v : Word)
  /-- SPI_WRITE (R346) -/
  | spiWrite (h : SpiHead) (ws : List Word) (cut : Bool) (x : Facts)
  /-- SPI_READ (R347) -/
  | spiRead (h : SpiHead) (cut late : Option Nat)
  /-- BATON_WRITE (R352) -/
  | batonWrite (f : BatonFrame) (x : Facts)
  /-- BATON_READ (R352) -/
  | batonRead (f : BatonFrame)
  /-- BATON_POLL (R355) -/
  | batonPoll (f : BatonFrame)
  /-- BATON_RESPONSE (R354) -/
  | batonResponse
  /-- BATON_RESP_TIMEOUT (R354) -/
  | batonRespTimeout
  /-- POLL_SLOT (R355) -/
  | pollSlot (late : Bool)
  /-- STARTING_CALL (R358) -/
  | startingCall (lead : Nat) (cells : List Nat)
  /-- SEND (R360) -/
  | send (w : Who) (c : Fin 16) (v : Word)
  /-- DONE (R361) -/
  | done (w : Who) (c : Fin 16)
  /-- DOORBELL_CLEAR (R361) -/
  | doorbellClear (w : Who) (r : Fin 4) (v : Word)
  /-- MBOX_TIMEOUT (R362) -/
  | mboxTimeout (c : Fin 16)
  /-- RX_RESET_SPI (R363) -/
  | rxResetSpi (w : Who) (v : Word)
  /-- RX_RESET_BATON (R363) -/
  | rxResetBaton (w : Who) (v : Word)
  /-- LOCK_READ (R366) -/
  | lockRead (w : Who) (i : Fin 32)
  /-- LOCK_RELEASE (R368) -/
  | lockRelease (w : Who) (i : Fin 32) (v : Word)
  /-- RELEASE_ALL (R368) -/
  | releaseAll (w : Who) (v : Word)
  /-- POWER_REQ (R376) -/
  | powerReq (w : Who) (v : Word)
  /-- POWER_REQ_DEFERRED_START (R376) -/
  | powerReqDeferredStart
  /-- SLEEP_GROUP_RESPONSE (R377) -/
  | sleepGroupResponse
  /-- BATON_ACTIVITY_WAKE (R382) -/
  | batonActivityWake
  /-- CS_N_WAKE (R382) -/
  | csNWake
  /-- ALARM (R385) -/
  | alarm
  /-- WAKE (R383) -/
  | wake
  /-- WAKE_RESTORE (R381) -/
  | wakeRestore
  /-- LANE_RESTORE_RELEASE (R381) -/
  | laneRestoreRelease (sd : Side) (n : Lane)
  /-- XTAL_FAIL (R384) -/
  | xtalFail
  /-- XTAL_OK (R384) -/
  | xtalOk
  /-- ALARM_WRITE (R385) -/
  | alarmWrite (w : Who) (v : Word)
  /-- VIO_LOW (R386) -/
  | vioLow
  /-- VIO_OK (R386) -/
  | vioOk
  /-- VAON_POWER_UP (R392) -/
  | vaonPowerUp
  /-- RESET_ASSERT (R391) -/
  | resetAssert (power : Bool)
  /-- RESET_RELEASE (R392) -/
  | resetRelease (sel : Fin 4) (addr : Fin 64)
  /-- BOOT_ATTEMPT (R404) -/
  | bootAttempt (bad : List (Fin 2)) (jbad : Bool)
  /-- HOST_LOAD (R403) -/
  | hostLoad (w : Who)
  /-- BOOT_GOOD (R406) -/
  | bootGood (w : Who) (jbad : Bool)
  /-- BOOT_WATCHDOG (R406) -/
  | bootWatchdog (bad : List (Fin 2))
  /-- WALK_EXIT (R411) -/
  | walkExit (w : Who) (jbad : Bool)
  /-- IDENT (R417) -/
  | ident (c : Fin 2)
  /-- ATTEST (R422) -/
  | attest (c : Fin 2)
  /-- VERIFY_SLOT (R417) -/
  | verifySlot (c : Fin 2) (bad : List (Fin 2))
  /-- ACTIVATE (R414) -/
  | activate (c : Fin 2) (bad : List (Fin 2)) (jbad : Bool)
  /-- CONFIRM (R416) -/
  | confirm (c : Fin 2) (jbad : Bool)
  /-- RB_PROGRAM_DEFERRED (R401) -/
  | rbProgramDeferred
  /-- FLASH_ERASE (R427) -/
  | flashErase (w : Who) (v : Word)
  /-- FLASH_PROGRAM (R427) -/
  | flashProgram (w : Who) (v : Word)
  /-- OTP_PROGRAM (R427) -/
  | otpProgram (w : Who) (v : Word)
  /-- OTP_READ (R427) -/
  | otpRead (w : Who) (v : Word)
  /-- NVM_OP_DONE (R427) -/
  | nvmOpDone (held : Option (List Byte))
  /-- NVM_TIMEOUT (R427) -/
  | nvmTimeout (held : List Byte)
  /-- LC_REQ (R420) -/
  | lcReq (w : Who) (v : Word) (bad : List (Fin 2))
  /-- LC_CHANGE (R421) -/
  | lcChange (seed : BitVec 256)
  /-- TRIAL_GO (R429) -/
  | trialGo (w : Who) (v : Word)
  /-- TRIAL_ABORT (R435) -/
  | trialAbort (w : Who) (v : Word)
  /-- TRIAL_VECTOR (R433) -/
  | trialVector (bad : List (Nat × Word × BitVec 2)) (word : Word)
  /-- TRIAL_RESUME (R436) -/
  | trialResume
  /-- TAP_INSTRUCTION (R456) -/
  | tapInstruction (i : TapInstr)
  /-- TAP_RESET (R458) -/
  | tapReset
  /-- RAIL_FAULT (R466) -/
  | railFault
  /-- VAON_LOSS (R466) -/
  | vaonLoss
  /-- CURRENT_LIMIT (R298) -/
  | currentLimit (c : Fin 8) (on : Bool)
  /-- MEMORY_BIT_FLIP (R313) -/
  | memoryBitFlip (x : FlipAt)
  /-- PLL_LOCK (R204) -/
  | pllLock (k : Fin 3)
  deriving DecidableEq, Repr

end Sys2Proof
end

