-- ==== Sys2Proof/Machine/Crc.lean ====
section
/-! DEFINITION. The check words: the reflected CRC-32 of R268 and R433, and the CRC-16/CCITT of R353. -/

namespace Sys2Proof.Machine

/-- One bit of the reflected CRC-32 with polynomial 0x04C1_1DB7 (R268). -/
def crc32Bit (r : Word) : Word := if r.getLsbD 0 then (r >>> 1) ^^^ 0xEDB88320 else r >>> 1

/-- One word fed to the CRC-32, least significant byte first (R433). -/
def crc32Word (r w : Word) : Word := Nat.repeat crc32Bit 32 (r ^^^ w)

/-- The CRC-32 of a list of words (R268). -/
def crc32 (l : List Word) : Word := ~~~ l.foldl crc32Word 0xFFFFFFFF

/-- One byte fed to the CRC-16/CCITT with polynomial 0x1021, most significant bit first (R353). -/
def crc16Byte (r : BitVec 16) (b : Byte) : BitVec 16 :=
  Nat.repeat (fun r => if r.getLsbD 15 then (r <<< 1) ^^^ 0x1021 else r <<< 1) 8 (r ^^^ (b.zeroExtend 16 <<< 8))

/-- The CRC-16/CCITT of a list of bytes, from 0xFFFF (R353). -/
def crc16 (l : List Byte) : BitVec 16 := l.foldl crc16Byte 0xFFFF

end Sys2Proof.Machine
end

