-- ==== Sys2Proof/Config.lean ====
section
/-! DEFINITION. What an implementation fixes and the spec leaves open: constants with no body, so that no proof can see a value of them. Each is named in the assumption log. -/

namespace Sys2Proof

/-- R12, R96, R98: the coefficient `i` of the FFE taps (0 to 63), Volterra terms (64 to 78) and MLSE entries (79 to 142) of the
`k`-th set that the engines train. The spec gives the widths and no training rule. -/
opaque Config.trained : Nat → Nat → BitVec 12

/-- R94 phase 4: the nominal equally spaced MLSE table, whose levels the spec does not state. -/
opaque Config.nominalMlse : Nat → BitVec 10

/-- R145, R169: the content of a codeword that is made of error-marked blocks; the spec gives no bits for it. -/
opaque Config.erroredWord : Nat → BitVec 5440

/-- R162: how many codewords the rate-matching buffer of FEC_HTX holds; the spec names its overflow and not its size. -/
opaque Config.rateBuffer : Nat

/-- R326: the syndrome that the SECDED decoder finds for a pattern of flipped bits; the spec does not give the code. -/
opaque Config.syndrome : BitVec 39 → BitVec 7

/-- R434: the signatures that the boot ROM expects of a logic test, by test code and vector count; the spec does not give them. -/
opaque Config.trialSig : Nat → Nat → BitVec 32

/-- R257: the used value of a sensor for which the rule names none, such as a sensor that is SUSPECT and has never been OK. -/
opaque Config.sensorUsed : Nat → BitVec 12

/-- R36: the contents of the boot ROM, by byte address; the spec does not give them. -/
opaque Config.bootRom : Nat → BitVec 8

/-- R456: Paluth's manufacturer code, which the spec leaves to the BSDL file. -/
opaque Config.manufacturer : BitVec 11

end Sys2Proof
end

