-- ==== Sys2Proof/Machine/RegMap.lean ====
section
/-! DEFINITION. The register maps of the 91 pages: for every register its offset, its fields with their access codes, reset values and the rule by which a written code is stored. Written from the register tables of the spec (R43, R46, R81, R113, R136, R171, R202 to R204, R227, R235, R253, R273, R274, R295, R296, R311, R326, R340 to R342, R370 to R373, R389, R390, R425 to R428, R440). -/

namespace Sys2Proof.Machine

/-- The access codes of R5. -/
inductive Access where
  | ro | rw | w1c | w1t | wo
  deriving DecidableEq, Repr

/-- How a written code is stored, where the Meaning column of a field limits it. -/
inductive Norm where
  /-- stored as written -/
  | any
  /-- codes outside lo to hi are stored as the nearer limit -/
  | clamp (lo hi : Nat)
  /-- codes above the limit are stored as the code given -/
  | over (limit dflt : Nat)
  /-- two's-complement values outside lo to hi are stored as the nearer limit; w is the field's width -/
  | sclamp (w : Nat) (lo hi : Int)
  /-- LEND.count (R227): the next lower multiple of 8, values above 32 as 32 -/
  | mul8
  /-- CH_CFG.rx (R372): 3 to 15 are stored as 0 -/
  | receiver
  deriving DecidableEq, Repr

/-- One field of a register (the columns Bits, Access, Reset, and the storing rule of Meaning). -/
structure FSpec where
  hi : Nat
  lo : Nat
  acc : Access
  rst : Nat
  norm : Norm := .any
  deriving DecidableEq, Repr

/-- One row of a register map: `cnt` registers `stride` bytes apart from `off`. -/
structure RSpec where
  name : String
  off : Nat
  fs : List FSpec
  cnt : Nat := 1
  stride : Nat := 4
  shadow : Bool := false
  deriving DecidableEq, Repr

def rw (hi lo rst : Nat) (norm : Norm := .any) : FSpec := ⟨hi, lo, .rw, rst, norm⟩
def ro (hi lo : Nat) (rst : Nat := 0) : FSpec := ⟨hi, lo, .ro, rst, .any⟩
def w1c (hi lo : Nat) : FSpec := ⟨hi, lo, .w1c, 0, .any⟩
def w1t (hi lo : Nat) : FSpec := ⟨hi, lo, .w1t, 0, .any⟩
def wo (hi lo : Nat) : FSpec := ⟨hi, lo, .wo, 0, .any⟩

/-- The kinds of pages (R42: all pages of one row are one kind). -/
inductive PageKind where
  | device | clocks | power | referee | intc | timekeeper | thermal | security | boot | nvm
  | mbox | locks | spi | baton | madc | filter | hdac | capture | split | scrub | trial | mode | cal
  | sub | lrx | ltx | hrx | htx | fecLtx | fecLrx | fecHrx | fecHtx | framer | squad | pacer
  deriving DecidableEq, Repr

/-- One row of the page index of R42: the lowest page of a kind, how many pages it has, its name, and the
REFEREE.BLOCKS bit of its first page, if its pages have block bits. -/
structure KindRow where
  kind : PageKind
  base : Nat
  count : Nat
  block : Option Nat
  deriving DecidableEq, Repr

/-- The page index of R42. -/
def kindRows : List KindRow :=
  [ ⟨.device, 0x00, 1, none⟩, ⟨.clocks, 0x01, 1, some 53⟩, ⟨.power, 0x02, 1, some 54⟩,
    ⟨.referee, 0x03, 1, none⟩, ⟨.intc, 0x04, 1, none⟩, ⟨.timekeeper, 0x05, 1, some 58⟩,
    ⟨.thermal, 0x06, 1, some 59⟩, ⟨.security, 0x07, 1, some 55⟩, ⟨.boot, 0x08, 1, none⟩,
    ⟨.nvm, 0x09, 1, some 56⟩, ⟨.mbox, 0x0A, 1, none⟩, ⟨.locks, 0x0B, 1, none⟩,
    ⟨.spi, 0x0C, 1, none⟩, ⟨.baton, 0x0D, 1, none⟩, ⟨.madc, 0x0E, 2, some 60⟩,
    ⟨.filter, 0x10, 1, some 62⟩, ⟨.hdac, 0x11, 1, some 63⟩, ⟨.capture, 0x12, 1, none⟩,
    ⟨.split, 0x13, 1, none⟩, ⟨.scrub, 0x14, 1, some 57⟩, ⟨.trial, 0x15, 1, none⟩,
    ⟨.mode, 0x16, 1, none⟩, ⟨.cal, 0x17, 1, none⟩ ] ++
  [ ⟨.sub, 0x18, 6, none⟩, ⟨.lrx, 0x20, 8, some 0⟩, ⟨.ltx, 0x28, 8, some 8⟩,
    ⟨.hrx, 0x30, 8, some 16⟩, ⟨.htx, 0x38, 8, some 24⟩, ⟨.fecLtx, 0x40, 1, some 48⟩,
    ⟨.fecLrx, 0x41, 1, some 49⟩, ⟨.fecHrx, 0x42, 1, some 50⟩, ⟨.fecHtx, 0x43, 1, some 51⟩,
    ⟨.framer, 0x44, 1, some 52⟩, ⟨.squad, 0x50, 16, some 32⟩, ⟨.pacer, 0x60, 8, none⟩ ]

/-- The row of R42 that holds page `p`, if the page slot has a page. -/
def rowOf (p : Nat) : Option KindRow :=
  kindRows.find? fun r => decide (r.base ≤ p ∧ p < r.base + r.count)

/-- The kind of page `p`. -/
def kindOf (p : Nat) : Option PageKind := (rowOf p).map (·.kind)

/-- The REFEREE.BLOCKS bit of page `p`, if it has one (R42). -/
def blockBit (p : Nat) : Option Nat :=
  (rowOf p).bind fun r => r.block.map (· + (p - r.base))

/-- The pages with a block bit, in rising page number (R42). -/
def blockPages : List Nat := (List.range 0x68).filter fun p => (blockBit p).isSome

/-- Every implemented page, in rising number (R14: 91 of them). -/
def allPages : List Nat := (List.range 0x68).filter fun p => (rowOf p).isSome

/-- The L4 subsystem page of a page (R14): none for the DEVICE page and for the subsystem pages themselves. -/
def subsystemOf (p : Nat) : Option Nat :=
  match kindOf p with
  | some .lrx | some .ltx | some .pacer | some .cal => some 0x18
  | some .hrx | some .htx => some 0x19
  | some .fecLtx | some .fecLrx | some .fecHrx | some .fecHtx | some .framer => some 0x1A
  | some .squad | some .split | some .capture => some 0x1B
  | some .timekeeper | some .thermal | some .madc | some .filter | some .hdac => some 0x1C
  | some .clocks | some .power | some .referee | some .intc | some .security | some .boot | some .nvm
  | some .mbox | some .locks | some .spi | some .baton | some .scrub | some .trial | some .mode => some 0x1D
  | some .device | some .sub | none => none

/-- A page of the MANAGEMENT subsystem (R14). -/
def isManagement (p : Nat) : Bool := subsystemOf p == some 0x1D

/-- The number of event sources of a page kind, from the Events section of its chapter. -/
def PageKind.sources : PageKind → Nat
  | .device => 0 | .clocks => 8 | .power => 4 | .referee => 2 | .intc => 0 | .timekeeper => 6
  | .thermal => 9 | .security => 5 | .boot => 6 | .nvm => 5 | .mbox => 5 | .locks => 0 | .spi => 2
  | .baton => 3 | .madc => 5 | .filter => 6 | .hdac => 6 | .capture => 9 | .split => 4 | .scrub => 11
  | .trial => 4 | .mode => 2 | .cal => 7 | .sub => 32 | .lrx => 16 | .ltx => 16 | .hrx => 12 | .htx => 4
  | .fecLtx => 4 | .fecLrx => 10 | .fecHrx => 6 | .fecHtx => 5 | .framer => 7 | .squad => 6 | .pacer => 9

/-- The FLT_SEV_LO reset value of a page kind (FLT_SEV_HI resets to 0 on every page). -/
def PageKind.sevReset : PageKind → Nat
  | .clocks => 0x0000C805 | .power => 0x00000084 | .timekeeper => 0x00000012 | .thermal => 0x00033058
  | .security => 0x00000011 | .nvm => 0x000001A0 | .madc => 0x00000010 | .filter => 0x00000800
  | .hdac => 0x00000810 | .scrub => 0x00058888 | .lrx => 0xE0000084 | .ltx => 0xE0000010
  | .hrx => 0x00800824 | .htx => 0x00000030 | .fecLtx => 0x00000086 | .fecLrx => 0x00080024
  | .fecHrx => 0x00000824 | .fecHtx => 0x00000221 | .framer => 0x00000584 | .squad => 0x0000008A
  | .device | .referee | .intc | .boot | .mbox | .locks | .spi | .baton | .capture | .split | .trial
  | .mode | .cal | .sub | .pacer => 0

/-- The common header of R43. EVT bits above the sources of a page, and the severity fields of a page without a
block bit (R45), are left out: they read 0 and discard writes. PAGE_STATE holds its `applied` bit and `busy`; its
other bits follow the page. -/
def headerRegs (k : PageKind) : List RSpec :=
  let n := k.sources
  let block := (kindRows.find? (·.kind == k)).bind (·.block) |>.isSome
  let src (f : FSpec) : List FSpec := if n = 0 then [] else [f]
  [ ⟨"PAGE_ID", 0x000, [], 1, 4, false⟩,
    ⟨"PAGE_STATE", 0x004, [ro 4 4 1, ro 3 3], 1, 4, false⟩,
    ⟨"PAGE_CTRL", 0x008, [rw 2 2 0, rw 1 1 0, w1t 0 0], 1, 4, false⟩,
    ⟨"PAGE_LOCK", 0x00C, [ro 15 8, rw 0 0 0], 1, 4, false⟩,
    ⟨"EVT_STATUS", 0x010, src (w1c (n - 1) 0), 1, 4, false⟩,
    ⟨"EVT_ENABLE", 0x014, src (rw (n - 1) 0 0), 1, 4, false⟩,
    ⟨"EVT_FORCE", 0x018, src (w1t (n - 1) 0), 1, 4, false⟩,
    ⟨"FLT_SEV_LO", 0x01C, if block then src (rw (2 * min n 16 - 1) 0 k.sevReset) else [], 1, 4, false⟩,
    ⟨"FLT_SEV_HI", 0x020, if block && decide (16 < n) then [rw (2 * (n - 16) - 1) 0 0] else [], 1, 4, false⟩,
    ⟨"EVT_ROUTE", 0x024, [rw 2 2 0, rw 1 1 1, rw 0 0 0], 1, 4, false⟩,
    ⟨"ARM", 0x028, [rw 0 0 0], 1, 4, false⟩ ]

/-- A register whose 32 bits are one RO field with reset 0. -/
def roWord (name : String) (off : Nat) (cnt : Nat := 1) (stride : Nat := 4) : RSpec :=
  ⟨name, off, [ro 31 0], cnt, stride, false⟩

/-- A register whose 32 bits are one RW field. -/
def rwWord (name : String) (off : Nat) (rst : Nat := 0) (cnt : Nat := 1) (stride : Nat := 4) : RSpec :=
  ⟨name, off, [rw 31 0 rst], cnt, stride, false⟩

/-- The checker registers of R81 at 0x080 to 0x0B4, which the HRX pages hold in the same layout (R202). -/
def prbsRegs : List RSpec :=
  [ ⟨"PRBS_CTRL", 0x080, [rw 11 8 0, w1t 5 5, w1t 4 4, rw 3 3 0, rw 2 0 0 (.over 4 0)], 1, 4, false⟩,
    ⟨"PRBS_STATUS", 0x084, [ro 15 8, ro 0 0], 1, 4, false⟩,
    roWord "BITS_LO" 0x088, ⟨"BITS_HI", 0x08C, [ro 15 0], 1, 4, false⟩,
    roWord "ERR_BIT_LO" 0x090, ⟨"ERR_BIT_HI", 0x094, [ro 15 0], 1, 4, false⟩,
    roWord "ERR_SYM_LO" 0x098, ⟨"ERR_SYM_HI", 0x09C, [ro 15 0], 1, 4, false⟩,
    roWord "SNAP_BITS_LO" 0x0A0, ⟨"SNAP_BITS_HI", 0x0A4, [ro 15 0], 1, 4, false⟩,
    roWord "SNAP_ERR_BIT_LO" 0x0A8, ⟨"SNAP_ERR_BIT_HI", 0x0AC, [ro 15 0], 1, 4, false⟩,
    roWord "SNAP_ERR_SYM_LO" 0x0B0, ⟨"SNAP_ERR_SYM_HI", 0x0B4, [ro 15 0], 1, 4, false⟩ ]

/-- LRXn (R81). -/
def lrxRegs : List RSpec :=
  [ ⟨"LANE_CTRL", 0x040, [rw 4 4 0, rw 3 3 0, rw 0 0 0], 1, 4, false⟩,
    ⟨"STATUS", 0x044, [ro 6 6, ro 5 5, ro 4 4, ro 3 3, ro 2 0], 1, 4, false⟩,
    ⟨"FE_CFG", 0x048, [rw 18 18 0, rw 17 16 1, rw 15 8 0x18 (.clamp 0 72), rw 5 0 0x0C (.clamp 0 24)], 1, 4, false⟩,
    ⟨"FE_LIVE", 0x04C, [ro 18 18, ro 17 16 1, ro 15 8 0x18, ro 5 0 0x0C], 1, 4, false⟩,
    ⟨"SD_CFG", 0x050, [rw 9 8 1, rw 7 0 0x32 (.clamp 30 100)], 1, 4, false⟩,
    ⟨"AGC_CFG", 0x054, [rw 19 16 8, rw 7 0 0x40 (.clamp 0x20 0xFF)], 1, 4, false⟩,
    ⟨"TR_CFG", 0x058, [rw 2 0 2 (.clamp 0 4)], 1, 4, false⟩,
    ⟨"TR_STATUS", 0x05C, [ro 21 16, ro 15 0], 1, 4, false⟩,
    ⟨"ADC_CAL", 0x060, [rw 10 10 1, rw 9 9 1, rw 8 8 1, rw 7 4 4 (.clamp 0 8), w1t 3 3, rw 1 0 0 (.clamp 0 2)], 1, 4, false⟩,
    ⟨"CAL_LIMIT", 0x064, [rw 23 16 0x10, rw 15 8 0x10, rw 7 0 0x10], 1, 4, false⟩,
    roWord "CAL_COUNT" 0x068, roWord "CAL_TIME_LO" 0x070, roWord "CAL_TIME_HI" 0x074,
    ⟨"CAL_RESULT", 0x078, [ro 5 4, ro 3 3, ro 2 2, ro 1 1, ro 0 0], 1, 4, false⟩ ] ++ prbsRegs ++
  [ ⟨"LOOPBACK", 0x0C0, [rw 1 0 0], 1, 4, true⟩,
    ⟨"SLICE_COR", 0x400, [ro 27 20, ro 19 10, ro 9 0], 256, 4, false⟩,
    ⟨"SLICE_MEAS", 0x800, [ro 27 20, ro 19 10, ro 9 0], 256, 4, false⟩ ]

/-- PACERn (R113). -/
def pacerRegs : List RSpec :=
  [ ⟨"CTRL", 0x040, [w1t 3 3, w1t 2 2, rw 1 1 0, rw 0 0 1], 1, 4, false⟩,
    ⟨"STATUS", 0x044, [ro 13 13, ro 12 8, ro 7 4, ro 3 3, ro 2 2, ro 1 1, ro 0 0], 1, 4, false⟩,
    ⟨"CYCLE", 0x048, [rw 9 0 0x00A (.clamp 2 1000)], 1, 4, false⟩,
    ⟨"ACCEPT_CFG", 0x04C, [rw 26 16 0x5DC, rw 7 0 0x0A], 1, 4, false⟩,
    ⟨"GATE_CFG", 0x050, [rw 31 28 4 (.clamp 1 15), rw 27 24 2 (.clamp 1 15), rw 22 16 0x32, rw 13 8 0x20, rw 5 0 0x12], 1, 4, false⟩,
    ⟨"HANDOFF_CFG", 0x054, [rw 3 0 6 (.clamp 0 10)], 1, 4, false⟩,
    ⟨"PACE_CFG", 0x058, [rw 2 0 7], 1, 4, false⟩,
    ⟨"PACE_STATUS", 0x05C, [ro 12 12, ro 10 8 7, ro 6 4 7, ro 2 0 7], 1, 4, false⟩,
    ⟨"TRAIN_CFG", 0x060, [rw 27 20 0x0C (.clamp 1 255), rw 19 16 4 (.clamp 1 15), rw 11 0 0x3E8 (.clamp 1 4095)], 1, 4, false⟩,
    ⟨"TRAIN_STATUS", 0x064, [ro 31 16, ro 11 8, ro 2 0], 1, 4, false⟩,
    ⟨"SOFT_CFG", 0x068, [rw 3 0 8], 1, 4, true⟩,
    ⟨"EQ_CFG", 0x06C, [rw 5 0 0x0F], 1, 4, false⟩,
    ⟨"SNR", 0x070, [ro 31 16, ro 15 0], 1, 4, false⟩,
    ⟨"ENGINES", 0x074, [ro 6 0], 1, 4, false⟩,
    roWord "ACCEPT_CNT" 0x078, roWord "REJECT_CNT" 0x07C, roWord "REPLACE_CNT" 0x080,
    roWord "GATE_FAIL_CNT" 0x084, roWord "SKIP_CNT" 0x088, roWord "HANDOFF_CNT" 0x08C,
    roWord "LAST_ACCEPT_LO" 0x090, roWord "LAST_ACCEPT_HI" 0x094,
    ⟨"GATE_LAST", 0x098, [ro 31 24, ro 23 16, ro 15 8, ro 7 0], 1, 4, false⟩,
    ⟨"GATE_LAST2", 0x09C, [ro 8 8, ro 6 0], 1, 4, false⟩ ] ++
  [ ⟨"BANK_A.FFE", 0x400, [rw 11 0 0], 64, 4, false⟩, ⟨"BANK_A.VOLT", 0x500, [rw 11 0 0], 15, 4, false⟩,
    ⟨"BANK_A.MLSE", 0x540, [rw 9 0 0], 64, 4, false⟩,
    ⟨"BANK_B.FFE", 0x800, [rw 11 0 0], 64, 4, false⟩, ⟨"BANK_B.VOLT", 0x900, [rw 11 0 0], 15, 4, false⟩,
    ⟨"BANK_B.MLSE", 0x940, [rw 9 0 0], 64, 4, false⟩,
    ⟨"PARK.FFE", 0xC00, [ro 11 0], 64, 4, false⟩, ⟨"PARK.VOLT", 0xD00, [ro 11 0], 15, 4, false⟩ ]

/-- One set of the LTX pages at base `o` (R136); SH is RW and shadow, the banks RO. -/
def ltxSetRegs (nm : String) (o : Nat) (sh : Bool) : List RSpec :=
  let f (hi rst : Nat) : FSpec := if sh then rw hi 0 rst else ro hi 0 rst
  [ ⟨nm ++ ".FIR", o, [f 9 0], 3, 4, sh⟩, ⟨nm ++ ".FIR[3]", o + 0xC, [f 9 0x100], 1, 4, sh⟩,
    ⟨nm ++ ".FIR[4]", o + 0x10, [f 9 0], 5, 4, sh⟩, ⟨nm ++ ".LVL_GAIN", o + 0x40, [f 9 0x280], 1, 4, sh⟩,
    ⟨nm ++ ".LVL_OFS", o + 0x44, [f 7 0], 4, 4, sh⟩, ⟨nm ++ ".PD", o + 0x100, [f 7 0], 64, 4, sh⟩ ]

/-- LTXn (R136). -/
def ltxRegs : List RSpec :=
  [ ⟨"LANE_CTRL", 0x040, [rw 1 1 0, rw 0 0 0], 1, 4, false⟩,
    ⟨"STATUS", 0x044, [ro 29 24, ro 20 16, ro 15 15, ro 14 14, ro 13 13, ro 12 12, ro 11 11, ro 10 10, ro 9 9,
      ro 8 8, ro 7 7, ro 6 6, ro 5 5, ro 1 0], 1, 4, false⟩,
    ⟨"OUT_CFG", 0x048, [rw 9 8 2, rw 6 0 0x32 (.clamp 0 100)], 1, 4, false⟩,
    ⟨"OUT_LIVE", 0x04C, [ro 6 0 0x32], 1, 4, false⟩,
    ⟨"SQUELCH", 0x050, [rw 1 1 1, rw 0 0 0], 1, 4, false⟩,
    ⟨"FADE_CFG", 0x054, [rw 3 0 6 (.clamp 0 10)], 1, 4, false⟩,
    ⟨"SKEW_CFG", 0x058, [rw 11 8 0, rw 5 0 0], 1, 4, false⟩,
    ⟨"SKEW_LIVE", 0x05C, [ro 11 8, ro 5 0], 1, 4, false⟩,
    ⟨"DAC_CAL", 0x060, [rw 7 4 4 (.clamp 0 8), w1t 3 3, rw 1 0 0 (.clamp 0 2)], 1, 4, false⟩,
    ⟨"CAL_LIMIT", 0x064, [rw 5 0 8], 1, 4, false⟩,
    roWord "CAL_COUNT" 0x068, roWord "CAL_TIME_LO" 0x070, roWord "CAL_TIME_HI" 0x074,
    ⟨"CAL_RESULT", 0x078, [ro 5 4, ro 3 3, ro 2 2, ro 1 1, ro 0 0], 1, 4, false⟩,
    ⟨"CLIP_CFG", 0x07C, [rw 3 0 8], 1, 4, false⟩, roWord "CLIP_CNT" 0x080,
    ⟨"PRBS_GEN", 0x084, [w1t 7 7, rw 3 3 0, rw 2 0 0 (.over 4 0)], 1, 4, false⟩,
    ⟨"LVL_COR", 0x300, [ro 7 0], 8, 4, false⟩, ⟨"LVL_MEAS", 0x320, [ro 7 0], 8, 4, false⟩ ] ++
  ltxSetRegs "SH" 0x400 true ++ ltxSetRegs "BANK_A" 0x800 false ++ ltxSetRegs "BANK_B" 0xC00 false

/-- HRXn (R202). -/
def hrxRegs : List RSpec :=
  [ ⟨"LANE_CTRL", 0x040, [rw 4 4 0, rw 3 3 0, rw 1 1 0, rw 0 0 0], 1, 4, false⟩,
    ⟨"STATUS", 0x044, [ro 11 8, ro 6 6, ro 5 5, ro 4 4, ro 3 3, ro 2 0], 1, 4, false⟩,
    ⟨"RATE", 0x048, [rw 1 0 0 (.over 2 0)], 1, 4, true⟩,
    ⟨"FE_CFG", 0x04C, [rw 17 16 1, rw 15 8 0x18 (.clamp 0 72), rw 5 0 0x10 (.clamp 0 30)], 1, 4, false⟩,
    ⟨"FE_LIVE", 0x050, [ro 17 16 1, ro 15 8 0x18, ro 5 0 0x10], 1, 4, false⟩,
    ⟨"SD_CFG", 0x054, [rw 9 8 1, rw 7 0 0x32 (.clamp 30 100)], 1, 4, false⟩,
    ⟨"TR_CFG", 0x058, [rw 2 0 2 (.clamp 0 4)], 1, 4, false⟩,
    ⟨"TR_STATUS", 0x05C, [ro 21 16, ro 15 0], 1, 4, false⟩,
    ⟨"TRN_CFG", 0x060, [rw 27 16 0x1F4 (.clamp 1 4095), rw 15 12 4 (.clamp 1 15), rw 11 11 1, rw 10 8 3, rw 0 0 1], 1, 4, false⟩,
    ⟨"TRN_CFG2", 0x064, [rw 31 24 0x40 (.clamp 1 255), rw 19 12 0x0A (.clamp 1 255), rw 10 0 0x640], 1, 4, false⟩,
    ⟨"TRN_STATUS", 0x068, [ro 31 16, ro 11 8, ro 4 4, ro 3 3, ro 2 0], 1, 4, false⟩,
    roWord "WU_RX" 0x06C, roWord "WU_TX" 0x070, ⟨"SNR", 0x074, [ro 15 0], 1, 4, false⟩,
    ⟨"TRN_CNT", 0x078, [ro 31 16, ro 15 0], 1, 4, false⟩,
    ⟨"AGC_CFG", 0x07C, [rw 7 0 0x40 (.clamp 0x20 0xFF)], 1, 4, false⟩ ] ++ prbsRegs ++
  [ ⟨"LOOPBACK", 0x0C0, [rw 1 0 0], 1, 4, true⟩, ⟨"FFE", 0x100, [ro 11 0], 24, 4, false⟩,
    ⟨"MLSE", 0x180, [ro 9 0], 16, 4, false⟩ ]

/-- HTXn (R203). -/
def htxRegs : List RSpec :=
  [ ⟨"LANE_CTRL", 0x040, [rw 1 1 0, rw 0 0 0], 1, 4, false⟩,
    ⟨"STATUS", 0x044, [ro 15 14, ro 13 13, ro 12 12, ro 11 8, ro 5 5, ro 1 0], 1, 4, false⟩,
    ⟨"OUT_CFG", 0x048, [rw 5 0 0x28 (.clamp 0 50)], 1, 4, false⟩,
    ⟨"OUT_LIVE", 0x04C, [ro 5 0 0x28], 1, 4, false⟩,
    ⟨"SQUELCH", 0x050, [rw 0 0 0], 1, 4, false⟩,
    ⟨"FIR_CFG0", 0x054, [rw 31 24 0x3F (.sclamp 8 16 63), rw 23 16 0 (.sclamp 8 (-24) 0), rw 15 8 0 (.sclamp 8 (-12) 12),
      rw 7 0 0 (.sclamp 8 (-8) 8)], 1, 4, true⟩,
    ⟨"FIR_CFG1", 0x058, [rw 15 8 0 (.sclamp 8 (-12) 12), rw 7 0 0 (.sclamp 8 (-24) 0)], 1, 4, true⟩,
    ⟨"FIR_LIVE0", 0x05C, [ro 31 24 0x3F, ro 23 16, ro 15 8, ro 7 0], 1, 4, false⟩,
    ⟨"FIR_LIVE1", 0x060, [ro 15 8, ro 7 0], 1, 4, false⟩,
    ⟨"PRBS_GEN", 0x064, [w1t 7 7, rw 3 3 0, rw 2 0 0 (.over 4 0)], 1, 4, false⟩,
    ⟨"COEF_CNT", 0x068, [ro 31 16, ro 15 0], 1, 4, false⟩ ]

/-- CLOCKS (R204). -/
def clocksRegs : List RSpec :=
  [ ⟨"REF_CFG", 0x040, [rw 5 5 0, rw 4 4 0, rw 1 1 1, rw 0 0 0], 1, 4, true⟩,
    ⟨"REF_STATUS", 0x044, [ro 1 1, ro 0 0], 1, 4, false⟩,
    ⟨"PLL_STATUS", 0x048, [ro 6 6, ro 5 4, ro 3 2, ro 1 0], 1, 4, false⟩,
    ⟨"RCLK_CFG", 0x04C, [rw 27 16 8 (.clamp 2 4095), rw 6 6 1, rw 5 1 0 (.over 17 0), rw 0 0 0], 2, 4, false⟩,
    ⟨"RCLK_STATUS", 0x054, [ro 1 1, ro 0 0], 1, 4, false⟩ ]

/-- FEC_LTX (R171). -/
def fecLtxRegs : List RSpec :=
  [ ⟨"CTRL", 0x040, [rw 0 0 0], 1, 4, false⟩, ⟨"STATUS", 0x044, [ro 23 16, ro 15 8, ro 7 0], 1, 4, false⟩,
    ⟨"FILL_CFG", 0x060, [rw 3 0 4 (.clamp 4 15)], 8, 4, true⟩, ⟨"FIFO", 0x080, [ro 4 0], 8, 4, false⟩,
    ⟨"CNT_CTRL", 0x0A0, [w1t 0 0], 1, 4, false⟩,
    roWord "FILL_CNT_LO" 0x100 8 0x10, roWord "FILL_CNT_HI" 0x104 8 0x10,
    roWord "DROP_CNT_LO" 0x108 8 0x10, roWord "DROP_CNT_HI" 0x10C 8 0x10 ]

/-- FEC_LRX (R171). The counter block of lane n starts at 0x200 + 0x50 × n and holds nine 64-bit counters. -/
def fecLrxRegs : List RSpec :=
  [ ⟨"INNER_CFG", 0x040, [rw 1 0 2 (.clamp 0 2)], 8, 4, true⟩,
    ⟨"ERASE_CFG", 0x060, [rw 13 8 0x1E (.clamp 0 30), rw 7 4 3, rw 1 1 1, rw 0 0 1], 8, 4, true⟩,
    ⟨"TUNE_CFG", 0x080, [rw 15 8 0x0A (.clamp 1 255), rw 0 0 0], 8, 4, false⟩,
    ⟨"LANE_STAT", 0x0A0, [ro 13 8, ro 2 2, ro 1 1, ro 0 0], 8, 4, false⟩,
    ⟨"THR_CFG", 0x0C0, [rw 11 8 0xC, rw 4 0 0x0F (.clamp 1 30)], 1, 4, false⟩,
    ⟨"CNT_CTRL", 0x0C4, [w1t 0 0], 1, 4, false⟩ ] ++
  ((List.range 8).map fun n => roWord "COUNTERS" (0x200 + 0x50 * n) 18)

/-- FEC_HRX (R171). -/
def fecHrxRegs : List RSpec :=
  [ ⟨"THR_CFG", 0x040, [rw 4 0 0x0F (.clamp 1 30)], 1, 4, false⟩, ⟨"STATUS", 0x044, [ro 7 0], 1, 4, false⟩,
    ⟨"CNT_CTRL", 0x048, [w1t 0 0], 1, 4, false⟩, roWord "COUNTERS" 0x100 64 ]

/-- FEC_HTX (R171). -/
def fecHtxRegs : List RSpec :=
  [ ⟨"RATE_CFG", 0x040, [rw 11 8 5, rw 3 0 3], 8, 4, true⟩, ⟨"STATUS", 0x060, [ro 15 8], 1, 4, false⟩,
    ⟨"CNT_CTRL", 0x064, [w1t 0 0], 1, 4, false⟩, roWord "COUNTERS" 0x100 64 ]

/-- FRAMER (R23, R171). -/
def framerRegs : List RSpec :=
  [ ⟨"PORT_MAP", 0x040, [rw 23 16 0, rw 15 0 0], 1, 4, true⟩,
    ⟨"LANE_STAT", 0x080, [ro 31 16, ro 7 7, ro 6 4, ro 1 0], 8, 4, false⟩,
    ⟨"GRP_STAT", 0x0A0, [ro 3 3, ro 2 2, ro 1 1, ro 0 0], 8, 4, false⟩,
    ⟨"LAT_TX", 0x0C0, [ro 31 24, ro 23 0], 8, 4, false⟩, ⟨"LAT_RX", 0x0E0, [ro 31 24, ro 23 0], 8, 4, false⟩,
    ⟨"CNT_CTRL", 0x100, [w1t 0 0], 1, 4, false⟩, roWord "COUNTERS" 0x200 64 ]

/-- SQUADn (R227). -/
def squadRegs : List RSpec :=
  [ ⟨"CTRL", 0x040, [rw 2 2 1, w1t 1 1, w1t 0 0], 1, 4, false⟩,
    ⟨"STATE", 0x044, [ro 14 8, ro 2 0], 1, 4, false⟩,
    ⟨"TRAP_STATUS", 0x048, [ro 23 16, ro 13 8, ro 2 0], 1, 4, false⟩,
    roWord "TRAP_PC" 0x04C, roWord "TRAP_ADDR" 0x050,
    ⟨"RELOAD", 0x054, [w1t 0 0], 1, 4, false⟩,
    ⟨"RELOAD_STATUS", 0x058, [ro 31 16, ro 2 2, ro 1 0], 1, 4, false⟩,
    ⟨"LEND", 0x060, [rw 18 16 0, rw 5 0 0 .mul8], 1, 4, false⟩,
    ⟨"LEND_LIVE", 0x064, [ro 24 24, ro 18 16, ro 5 0], 1, 4, false⟩,
    ⟨"IMG_ID", 0x068, [ro 31 16, ro 15 0], 1, 4, false⟩,
    ⟨"DMA_STATUS", 0x070, [ro 3 2, ro 1 0], 4, 4, false⟩, roWord "DMA_ADDR" 0x080 4,
    ⟨"DMA_CLR", 0x090, [w1t 3 0], 1, 4, false⟩,
    ⟨"CMD", 0x0A0, [rw 15 8 0, rw 7 0 0], 1, 4, false⟩, rwWord "ARG" 0x0A4 0 4,
    ⟨"CMD_STATUS", 0x0B4, [ro 23 16, ro 11 8, ro 1 1, ro 0 0], 1, 4, false⟩,
    roWord "RESP" 0x0B8 4, roWord "ENGINE_MAP_LO" 0x0C8, roWord "ENGINE_MAP_HI" 0x0CC ]

/-- SPLIT (R235). -/
def splitRegs : List RSpec :=
  [ ⟨"CTRL", 0x040, [w1t 2 2, rw 1 1 0, rw 0 0 0], 1, 4, false⟩,
    ⟨"OVF", 0x080, [w1c 31 0], 4, 4, false⟩,
    ⟨"BW_WIN", 0x0C0, [rw 15 0 0x03E8 (.clamp 1 65535)], 1, 4, false⟩,
    ⟨"BW_CFG", 0x100, [rw 7 7 0, rw 6 5 3 (.clamp 1 3), rw 4 0 0 (.over 25 0)], 8, 4, false⟩,
    rwWord "BW_THR" 0x120 0 8, roWord "BW_LAST" 0x140 8, roWord "BW_MAX" 0x160 8,
    ⟨"TAG_CFG", 0x200, [rw 29 29 1, rw 28 24 0x0C (.clamp 8 20), rw 21 16 0, rw 12 8 0 (.over 16 0), rw 7 4 8 (.clamp 1 15), rw 0 0 0], 1, 4, false⟩,
    ⟨"TAG_STATUS", 0x204, [ro 31 16, ro 4 0], 1, 4, false⟩, ⟨"TAG_CTRL", 0x208, [w1t 0 0], 1, 4, false⟩,
    ⟨"CNT_CFG", 0x400, [rw 15 15 0, rw 14 14 0, rw 13 8 0, rw 5 0 0 (.over 13 0)], 128, 4, true⟩,
    rwWord "CNT" 0x600 0 128, roWord "TAG_REC" 0x800 128 ]

/-- CAPTURE (R253). BW_CFG.dir and similar fields whose code 0 is stored as another code carry it in Norm. -/
def captureRegs : List RSpec :=
  [ ⟨"CTRL", 0x040, [w1t 4 4, w1t 3 3, w1t 2 2, w1t 1 1, w1t 0 0], 1, 4, false⟩,
    ⟨"STATUS", 0x044, [ro 15 8, ro 6 6, ro 5 5, ro 4 4, ro 2 0], 1, 4, false⟩,
    ⟨"MODE_CFG", 0x048, [rw 8 4 8 (.clamp 0 16), rw 1 0 0 (.over 2 0)], 1, 4, true⟩,
    ⟨"AUTO_TMO", 0x04C, [rw 23 0 0x3E8 (.clamp 1 10000000)], 1, 4, true⟩,
    ⟨"TRIG_CFG", 0x050, [rw 29 28 0, rw 27 24 0, rw 23 16 0, rw 9 8 0 (.clamp 1 3), rw 6 4 0, rw 3 3 0, rw 2 0 0 (.over 5 0)], 1, 4, true⟩,
    ⟨"TRIG_OUT_CFG", 0x054, [rw 11 4 1 (.clamp 1 255), rw 0 0 0], 1, 4, false⟩,
    roWord "TRIG_TIME_LO" 0x058, roWord "TRIG_TIME_HI" 0x05C,
    ⟨"STREAM_CFG", 0x060, [rw 23 20 0, rw 19 16 0, rw 11 8 0, rw 6 5 0, rw 4 2 0, rw 1 1 0, rw 0 0 0], 8, 4, true⟩,
    ⟨"STREAM_STATUS", 0x080, [ro 31 31, ro 30 30, ro 29 29, ro 28 28, ro 27 20, ro 19 0], 8, 4, false⟩,
    ⟨"STREAM_POS", 0x0A0, [ro 20 20, ro 19 0], 8, 4, false⟩, roWord "ALIGN" 0x0C0 8,
    ⟨"SKEW", 0x0E0, [ro 31 31, ro 15 0], 16, 4, false⟩,
    ⟨"ANA_CFG", 0x120, [rw 29 24 0x20 (.clamp 1 32), rw 22 20 0, rw 18 18 0, rw 17 17 0, rw 16 16 0, rw 15 12 0xF, rw 11 8 0, rw 6 4 0, rw 1 0 0], 1, 4, false⟩,
    ⟨"ANA_CTRL", 0x124, [w1t 1 1, w1t 0 0], 1, 4, false⟩,
    ⟨"ANA_STATUS", 0x128, [ro 31 20, ro 16 16, ro 13 8, ro 2 0], 1, 4, false⟩,
    ⟨"MASK_VIOL", 0x12C, [ro 15 0], 1, 4, false⟩,
    ⟨"MASK_GEO", 0x140, [rw 31 31 0, rw 28 24 0, rw 20 16 0, rw 15 8 0, rw 7 0 0], 16, 8, false⟩,
    rwWord "MASK_LIM" 0x144 0 16 8, roWord "MASK_HITS" 0x1C0 16 ]

/-- THERMAL (R273). -/
def thermalRegs : List RSpec :=
  [ ⟨"PACE_CFG", 0x040, [rw 28 28 0, rw 27 20 1 (.clamp 1 255), rw 19 16 4 (.clamp 1 15), rw 15 12 4 (.clamp 1 15),
      rw 11 0 0x190 (.sclamp 12 160 460)], 1, 4, true⟩,
    ⟨"TRIP_CFG", 0x044, [rw 19 16 5 (.clamp 1 15), rw 11 0 0x1D8 (.sclamp 12 440 500)], 1, 4, true⟩,
    ⟨"STATUS", 0x048, [ro 27 16, ro 12 8, ro 2 2, ro 1 1, ro 0 0], 1, 4, false⟩,
    ⟨"LEVEL", 0x04C, [ro 23 0 0xFFFFFF], 1, 4, false⟩,
    ⟨"SENS_FAILED", 0x050, [ro 23 0], 1, 4, false⟩, ⟨"SENS_SUSPECT", 0x054, [ro 23 0], 1, 4, false⟩,
    ⟨"SENS_UNCHECKED", 0x058, [ro 23 0], 1, 4, false⟩, ⟨"SENS_CLR", 0x05C, [w1t 23 0], 1, 4, false⟩,
    ⟨"INTERLOCK", 0x060, [ro 1 1, ro 0 0], 1, 4, false⟩, ⟨"TRIP_CNT", 0x064, [ro 15 0], 1, 4, false⟩,
    ⟨"TRIM", 0x068, [ro 0 0], 1, 4, false⟩,
    ⟨"TEMP", 0x080, [ro 31 30 3, ro 27 16, ro 11 0], 24, 4, false⟩ ]

/-- CAL (R274). -/
def calRegs : List RSpec :=
  [ ⟨"TRIG_CFG", 0x040, [rw 10 10 1, rw 9 9 1, rw 8 8 1, rw 5 0 8 (.clamp 2 40)], 1, 4, true⟩,
    ⟨"STORE_CFG", 0x044, [rw 8 8 1, rw 7 0 0x0A (.clamp 1 255)], 1, 4, false⟩,
    ⟨"CMD", 0x048, [wo 19 16, wo 8 8, wo 7 0], 1, 4, false⟩,
    ⟨"STATUS", 0x04C, [ro 31 16, ro 15 8, ro 5 5, ro 4 4, ro 3 3, ro 2 2, ro 1 1, ro 0 0], 1, 4, false⟩,
    ⟨"REF_TEMP", 0x050, [ro 27 16, ro 11 0], 8, 4, false⟩, ⟨"MADC_REF", 0x070, [ro 11 0], 1, 4, false⟩,
    roWord "STORE_CNT" 0x074, roWord "LAST_STORE_LO" 0x078, roWord "LAST_STORE_HI" 0x07C ]

/-- MADCn (R295); on MADC1 SEQ_CFG.ilv is reserved, which `regSpec` takes off. -/
def madcRegs : List RSpec :=
  [ ⟨"CTRL", 0x040, [w1t 2 2, w1t 1 1, rw 0 0 0], 1, 4, false⟩,
    ⟨"STATUS", 0x044, [ro 15 15, ro 14 14, ro 13 13, ro 12 8, ro 1 0], 1, 4, false⟩,
    ⟨"SEQ_CFG", 0x048, [rw 31 16 1 (.clamp 1 65535), rw 13 13 0, rw 12 12 0, rw 9 8 0 (.clamp 0 1), rw 4 0 0], 1, 4, true⟩,
    ⟨"URG_REQ", 0x04C, [w1t 31 31, rw 10 8 0, rw 5 5 0, rw 4 0 0 (.over 30 16)], 1, 4, false⟩,
    ⟨"URG_STATUS", 0x050, [ro 31 31, ro 30 30, ro 29 29, ro 28 28, ro 27 27, ro 15 0], 1, 4, false⟩,
    ⟨"OW_THR", 0x054, [rw 15 0 0x0800], 1, 4, false⟩,
    ⟨"OFS_COR", 0x058, [ro 15 0], 1, 4, false⟩, ⟨"OFS_MEAS", 0x05C, [ro 15 0], 1, 4, false⟩,
    roWord "CAL_COUNT" 0x060, roWord "CAL_TIME_LO" 0x068, roWord "CAL_TIME_HI" 0x06C,
    roWord "SLIP_CNT" 0x074, roWord "OPEN_MAP" 0x078,
    ⟨"ENTRY", 0x080, [rw 10 8 0, rw 5 5 0, rw 4 0 0 (.over 30 16)], 32, 4, true⟩,
    ⟨"RESULT", 0x100, [ro 31 31, ro 30 30, ro 15 0], 32, 4, false⟩ ]

/-- FILTER (R296). -/
def filterRegs : List RSpec :=
  [ ⟨"CTRL", 0x040, [rw 3 2 1 (.clamp 1 3), rw 1 1 0, w1t 0 0], 1, 4, false⟩,
    ⟨"STATUS", 0x044, [ro 31 24, ro 23 16, ro 12 8, ro 2 2, ro 1 1, ro 0 0], 1, 4, false⟩,
    ⟨"USER_CFG", 0x048, [rw 1 0 0], 1, 4, true⟩,
    ⟨"FCH_CFG", 0x080, [rw 13 9 0, rw 8 8 0, rw 4 2 0 (.over 4 0), rw 1 1 0, rw 0 0 0], 8, 4, true⟩,
    ⟨"OUT", 0x0A0, [ro 31 31, ro 30 30, ro 29 29, ro 28 28, ro 27 24, ro 23 0], 8, 4, false⟩,
    ⟨"HI_THR", 0x0C0, [rw 23 0 0xFFFFFF], 8, 4, false⟩, ⟨"LO_THR", 0x0E0, [rw 23 0 0], 8, 4, false⟩,
    ⟨"HYST", 0x100, [rw 23 0 0x100], 8, 4, false⟩, ⟨"CH_EVT", 0x120, [w1c 15 8, w1c 7 0], 1, 4, false⟩,
    roWord "RESET_TIME_LO" 0x128, roWord "RESET_TIME_HI" 0x12C,
    ⟨"USER_SH", 0x400, [rw 17 0 0], 64, 4, true⟩, ⟨"USER_A", 0x800, [ro 17 0], 64, 4, false⟩,
    ⟨"USER_B", 0xC00, [ro 17 0], 64, 4, false⟩ ]

/-- HDAC (R311). Channel c has a block at 0x080 + 0x20 × c. -/
def hdacRegs : List RSpec :=
  [ ⟨"CTRL", 0x040, [rw 0 0 0], 1, 4, false⟩,
    ⟨"STATUS", 0x044, [ro 25 25, ro 24 24, ro 23 16, ro 15 8, ro 7 0], 1, 4, false⟩,
    ⟨"CFG", 0x080, [rw 5 4 0, rw 1 1 0, rw 0 0 0], 8, 0x20, true⟩,
    ⟨"CODE", 0x084, [rw 11 0 0], 8, 0x20, false⟩,
    ⟨"SLEW", 0x088, [rw 25 16 1 (.clamp 1 1000), rw 7 0 1 (.clamp 1 255)], 8, 0x20, false⟩,
    ⟨"CLR", 0x08C, [rw 27 16 0, rw 11 0 0], 8, 0x20, false⟩,
    ⟨"GEN_CFG", 0x090, [rw 23 16 1 (.clamp 1 255), rw 10 0 0], 8, 0x20, true⟩,
    ⟨"LIVE", 0x094, [ro 16 16, ro 15 13, ro 12 12, ro 11 0], 8, 0x20, false⟩ ]

/-- SCRUB (R326). -/
def scrubRegs : List RSpec :=
  [ ⟨"CTRL", 0x040, [rw 15 8 0x0A (.clamp 1 60), w1t 2 2, w1t 1 1, rw 0 0 1], 1, 4, false⟩,
    ⟨"STATUS", 0x044, [ro 31 16, ro 8 8, ro 4 0], 1, 4, false⟩,
    roWord "PASS_CNT" 0x048, roWord "LATE_CNT" 0x04C, ⟨"REGION_SKIP", 0x050, [ro 23 0], 1, 4, false⟩,
    roWord "LAST_PASS_LO" 0x058, roWord "LAST_PASS_HI" 0x05C, roWord "CORR_CNT" 0x060, roWord "POISON_CNT" 0x064,
    roWord "DEMAND_CORR" 0x068, roWord "DEMAND_UNCORR" 0x06C, roWord "LAST_ERR_ADDR" 0x070,
    ⟨"LAST_ERR", 0x074, [ro 28 24, ro 23 16, ro 8 2, ro 1 1, ro 0 0], 1, 4, false⟩,
    roWord "VOTE_CNT" 0x078, ⟨"VOTE_INFO", 0x07C, [ro 2 0], 1, 4, false⟩ ]

/-- REFEREE (R340), INTC (R341) and the subsystem pages (R342). -/
def refereeRegs : List RSpec :=
  [ ⟨"CFG", 0x040, [rw 10 10 0, rw 9 8 0, rw 1 0 3 (.clamp 1 3)], 1, 4, false⟩,
    ⟨"STATUS", 0x044, [ro 3 3, ro 2 2, ro 1 1, ro 0 0], 1, 4, false⟩,
    roWord "BLOCKS_LO" 0x048, roWord "BLOCKS_HI" 0x04C, roWord "SEV_MAP" 0x050 4,
    ⟨"CTRL", 0x060, [w1t 1 1, w1t 0 0], 1, 4, false⟩,
    ⟨"FIRST_FAULT", 0x064, [ro 31 31, ro 23 16, ro 12 8, ro 2 2, ro 1 0], 1, 4, false⟩,
    roWord "FIRST_TIME_LO" 0x068, roWord "FIRST_TIME_HI" 0x06C,
    ⟨"LOG_STATUS", 0x070, [ro 31 16, ro 12 8, ro 5 0], 1, 4, false⟩, roWord "LOG" 0x100 128 ]

def intcRegs : List RSpec :=
  [ ⟨"CTRL", 0x040, [rw 0 0 1], 1, 4, false⟩, ⟨"STATUS", 0x044, [ro 0 0], 1, 4, false⟩, roWord "PEND" 0x080 8 ]

def subRegs : List RSpec :=
  [ ⟨"SUMMARY", 0x040, [ro 2 2, ro 1 1, ro 0 0], 1, 4, false⟩,
    ⟨"WATCH_CFG", 0x100, [rw 31 31 0, rw 28 24 0, rw 23 16 0, rw 7 0 1 (.clamp 1 255)], 32, 0x10, false⟩,
    ⟨"WATCH_WIN", 0x104, [rw 15 0 0x03E8 (.clamp 1 65535)], 32, 0x10, false⟩,
    ⟨"WATCH_STAT", 0x108, [ro 31 24, ro 16 16, ro 7 0], 32, 0x10, false⟩ ]

/-- SPI (R370), BATON (R371), MBOX (R372) and LOCKS (R373). -/
def spiRegs : List RSpec :=
  [ ⟨"CFG", 0x040, [rw 3 0 4 (.clamp 1 15)], 1, 4, false⟩, ⟨"LAST_STATUS", 0x044, [ro 7 0], 1, 4, false⟩,
    roWord "ERR_ADDR" 0x048, roWord "FRAME_CNT" 0x04C, roWord "ERR_CNT" 0x050, roWord "LATE_CNT" 0x054 ]

def batonRegs : List RSpec :=
  [ ⟨"ADDR", 0x040, [ro 6 0], 1, 4, false⟩, ⟨"GROUP", 0x044, [rw 15 0 0], 1, 4, false⟩,
    ⟨"CFG", 0x048, [rw 5 0 8 (.clamp 2 60)], 1, 4, false⟩, ⟨"LAST_STATUS", 0x04C, [ro 7 0], 1, 4, false⟩,
    roWord "ERR_ADDR" 0x050, ⟨"LATE_STATUS", 0x054, [ro 7 0], 1, 4, false⟩, roWord "RX_CNT" 0x058,
    roWord "CRC_ERR" 0x05C, roWord "FRAME_ERR" 0x060, roWord "RESP_CNT" 0x064, roWord "LATE_CNT" 0x068 ]

def mboxRegs : List RSpec :=
  [ ⟨"CH_CFG", 0x040, [rw 20 16 0 .receiver, rw 15 0 0], 16, 4, false⟩,
    ⟨"CH_STATUS", 0x080, [ro 31 31, ro 30 30, ro 29 29, ro 28 28, ro 27 27, ro 20 16, ro 4 0], 16, 4, false⟩,
    ⟨"SEND", 0x0C0, [wo 4 0], 16, 4, false⟩, ⟨"DONE", 0x100, [w1t 0 0], 16, 4, false⟩,
    ⟨"DOORBELL", 0x140, [w1c 31 16, w1c 15 0], 4, 4, false⟩, rwWord "DB_MASK" 0x150 0xFFFFFFFF 4,
    ⟨"RX_RESET", 0x160, [w1t 2 2, w1t 1 1], 1, 4, false⟩, rwWord "SLOT" 0x400 0 256 ]

def locksRegs : List RSpec :=
  [ ⟨"LOCK", 0x040, [wo 31 0], 32, 4, false⟩, roWord "OWNER" 0x0C0 8,
    ⟨"RELEASE_ALL", 0x0E0, [w1t 8 8, wo 4 0], 1, 4, false⟩ ]

/-- MODE (R46). -/
def modeRegs : List RSpec :=
  [ ⟨"COMMIT", 0x040, [wo 29 0], 1, 4, false⟩, ⟨"COMMIT_STATUS", 0x044, [ro 31 31, ro 30 30, ro 29 0], 1, 4, false⟩,
    ⟨"DEADLINE", 0x048, [rw 9 0 0x064 (.clamp 1 1000)], 1, 4, false⟩ ]

/-- POWER (R389) and TIMEKEEPER (R390). -/
def powerRegs : List RSpec :=
  [ ⟨"REQ", 0x040, [w1t 31 31, rw 1 0 0 (.over 2 0)], 1, 4, false⟩,
    ⟨"STATUS", 0x044, [ro 7 7, ro 6 4, ro 2 2, ro 1 0], 1, 4, false⟩,
    roWord "SLEEP_REFUSE" 0x050 4, ⟨"REFUSE_WHY", 0x060, [ro 3 0], 1, 4, false⟩ ]

def timekeeperRegs : List RSpec :=
  [ ⟨"CTRL", 0x040, [rw 0 0 1], 1, 4, false⟩, ⟨"CLK_STATUS", 0x044, [ro 2 2, ro 1 1, ro 0 0], 1, 4, false⟩,
    rwWord "TK_TIME_LO" 0x048, rwWord "TK_TIME_HI" 0x04C,
    ⟨"WAKE_CFG", 0x050, [rw 2 2 1, rw 1 1 1, rw 0 0 0], 1, 4, false⟩,
    rwWord "ALARM_LO" 0x058, rwWord "ALARM_HI" 0x05C, ⟨"ALARM_STATE", 0x060, [ro 0 0], 1, 4, false⟩,
    ⟨"WAKE_STATUS", 0x064, [ro 31 16, ro 2 0], 1, 4, false⟩,
    roWord "LAST_WAKE_LO" 0x068, roWord "LAST_WAKE_HI" 0x06C, ⟨"BOOT_TRY", 0x070, [ro 3 0], 1, 4, false⟩ ]

/-- BOOT (R425), SECURITY (R426), NVM (R427) and DEVICE (R428). -/
def bootRegs : List RSpec :=
  [ ⟨"CTRL", 0x040, [w1t 1 1, w1t 0 0], 1, 4, false⟩,
    ⟨"STATUS", 0x044, [ro 27 24, ro 19 16, ro 12 12, ro 11 11, ro 9 8, ro 5 5, ro 4 4, ro 1 0], 1, 4, false⟩,
    ⟨"WALK_REASON", 0x048, [ro 15 8, ro 7 0], 1, 4, false⟩,
    ⟨"FAIL_HIST", 0x04C, [ro 23 16, ro 15 8, ro 7 0], 1, 4, false⟩, ⟨"HOST_LOAD", 0x050, [w1t 0 0], 1, 4, false⟩,
    ⟨"ACT_STATUS", 0x054, [ro 23 16, ro 8 8, ro 4 4, ro 2 0], 1, 4, false⟩, ⟨"VERIFIED", 0x058, [ro 1 0], 1, 4, false⟩,
    roWord "IMG_VER_LO" 0x060, roWord "IMG_VER_HI" 0x064 ]

def securityRegs : List RSpec :=
  [ ⟨"LC", 0x040, [ro 2 0], 1, 4, false⟩, ⟨"KEY_STATUS", 0x044, [ro 7 4, ro 3 0], 1, 4, false⟩,
    ⟨"RB_COUNT", 0x048, [ro 6 0], 1, 4, false⟩, roWord "RB_LO" 0x050, roWord "RB_HI" 0x054,
    roWord "ID_PUB" 0x060 8, roWord "ATT_CNT" 0x080, roWord "REPORT0" 0x400 108, roWord "REPORT1" 0x600 108 ]

def nvmRegs : List RSpec :=
  [ ⟨"CMD", 0x040, [w1t 31 31, rw 27 24 0, rw 8 0 0 (.clamp 1 256)], 1, 4, false⟩,
    ⟨"ADDR", 0x044, [rw 23 0 0], 1, 4, false⟩, rwWord "OTP_DATA" 0x048,
    ⟨"STATUS", 0x04C, [ro 7 7, ro 3 0], 1, 4, false⟩,
    ⟨"LC_REQ", 0x050, [w1t 31 31, rw 4 4 0, rw 2 0 0], 1, 4, false⟩,
    ⟨"LC_STATUS", 0x054, [ro 7 7, ro 3 0], 1, 4, false⟩, rwWord "BUF" 0x100 0 64 ]

def deviceRegs : List RSpec :=
  [ ⟨"DEV_ID", 0x040, [ro 31 16 0x8400, ro 15 8, ro 7 0 1], 1, 4, false⟩, roWord "ROM_VER" 0x044,
    roWord "LOT_LO" 0x048, ⟨"LOT_HI", 0x04C, [ro 15 0], 1, 4, false⟩, ⟨"DIE", 0x050, [ro 28 24, ro 23 16, ro 15 8], 1, 4, false⟩,
    ⟨"TEST", 0x054, [ro 15 8, ro 7 0], 1, 4, false⟩, roWord "READY_MAP" 0x080 8 ]

/-- TRIAL (R440). -/
def trialRegs : List RSpec :=
  [ ⟨"CMD", 0x040, [w1t 31 31, w1t 30 30, rw 3 0 0], 1, 4, false⟩,
    ⟨"TARGET", 0x044, [rw 23 16 0, rw 13 8 0, rw 3 0 0], 1, 4, false⟩,
    ⟨"STATUS", 0x048, [ro 31 31, ro 23 16, ro 11 8, ro 7 4, ro 3 3, ro 2 0], 1, 4, false⟩,
    roWord "SIG" 0x04C, roWord "EXP_SIG" 0x050, roWord "VEC" 0x054, roWord "EXP_VEC" 0x058,
    ⟨"FAIL_CP", 0x05C, [ro 15 0], 1, 4, false⟩, roWord "RUN_TIME_LO" 0x060, roWord "RUN_TIME_HI" 0x064, roWord "RUN_CNT" 0x068 ]

/-- The block registers of a page kind, after the common header. -/
def blockRegs : PageKind → List RSpec
  | .device => deviceRegs | .clocks => clocksRegs | .power => powerRegs | .referee => refereeRegs
  | .intc => intcRegs | .timekeeper => timekeeperRegs | .thermal => thermalRegs | .security => securityRegs
  | .boot => bootRegs | .nvm => nvmRegs | .mbox => mboxRegs | .locks => locksRegs | .spi => spiRegs
  | .baton => batonRegs | .madc => madcRegs | .filter => filterRegs | .hdac => hdacRegs | .capture => captureRegs
  | .split => splitRegs | .scrub => scrubRegs | .trial => trialRegs | .mode => modeRegs | .cal => calRegs
  | .sub => subRegs | .lrx => lrxRegs | .ltx => ltxRegs | .hrx => hrxRegs | .htx => htxRegs
  | .fecLtx => fecLtxRegs | .fecLrx => fecLrxRegs | .fecHrx => fecHrxRegs | .fecHtx => fecHtxRegs
  | .framer => framerRegs | .squad => squadRegs | .pacer => pacerRegs

/-- A row of a register map holds the register at `off`. -/
def RSpec.covers (r : RSpec) (off : Nat) : Bool :=
  decide (r.off ≤ off) && decide ((off - r.off) % r.stride = 0) && decide ((off - r.off) / r.stride < r.cnt)

/-- The register at offset `off` of page `p`, if the map has one. An offset without one reads 0 and discards writes (R38).
On MADC1 the ilv field of SEQ_CFG is reserved (R295); on Squads 0 to 7 LEND is reserved (R220); on an even Split counter
CNT_CFG.chain is stored as 0 (R230). -/
def regSpec (p off : Nat) : Option RSpec :=
  match kindOf p with
  | none => none
  | some k =>
    let r := ((if off < 0x40 then headerRegs k else blockRegs k).find? (·.covers off))
    if decide (p = 0x0F ∧ off = 0x48) then r.map fun r => { r with fs := r.fs.filter (·.hi != 13) }
    else if decide (0x50 ≤ p ∧ p < 0x58 ∧ off = 0x60) then r.map fun r => { r with fs := [] }
    else if decide (p = 0x13 ∧ 0x400 ≤ off ∧ off < 0x600 ∧ off % 8 = 0) then r.map fun r => { r with fs := r.fs.filter (·.hi != 15) }
    else r

/-- The reset value of a register (R7): its fields' reset values in their places. -/
def resetWord (p off : Nat) : Word :=
  match regSpec p off with
  | none => 0
  | some r => r.fs.foldl (fun w f => w ||| (BitVec.ofNat 32 f.rst <<< f.lo)) 0

/-- A register is a shadow register, applied through mode commit (R46). -/
def isShadow (p off : Nat) : Bool := ((regSpec p off).map (·.shadow)).getD false

/-- The shadow registers of a page, by offset. -/
def shadowOffs (p : Nat) : List Nat :=
  match kindOf p with
  | none => []
  | some k => (blockRegs k).flatMap fun r => if r.shadow then (List.range r.cnt).map (r.off + r.stride * ·) else []

/-- A two's-complement reading of the low `w` bits of a code. -/
def signed (w v : Nat) : Int := if v % 2 ^ w < 2 ^ (w - 1) then (v % 2 ^ w : Nat) else ((v % 2 ^ w : Nat) : Int) - (2 ^ w : Nat)

/-- The code of `w` bits that stands for a value in two's complement. -/
def unsigned (w : Nat) (x : Int) : Nat := (x % ((2 ^ w : Nat) : Int)).toNat

/-- The code that is stored when `v` is written (the Meaning column's storing rule). -/
def Norm.store (n : Norm) (v : Nat) : Nat :=
  match n with
  | .any => v
  | .clamp lo hi => min (max v lo) hi
  | .over limit dflt => if limit < v then dflt else v
  | .sclamp w lo hi => unsigned w (min (max (signed w v) lo) hi)
  | .mul8 => if 32 < v then 32 else v / 8 * 8
  | .receiver => if decide (3 ≤ v ∧ v ≤ 15) then 0 else v

/-- The bits of a field, in place. -/
def FSpec.mask (f : FSpec) : Word := BitVec.ofNat 32 (2 ^ (f.hi + 1 - f.lo) - 1) <<< f.lo

/-- What one field stores when `v` is written over `old` (R5, R6): RW takes the written code, W1C clears on 1, RO keeps,
W1T and WO read 0. -/
def FSpec.write (f : FSpec) (old v : Word) : Word :=
  match f.acc with
  | .ro => old &&& f.mask
  | .rw => (BitVec.ofNat 32 (f.norm.store ((v &&& f.mask) >>> f.lo).toNat) <<< f.lo) &&& f.mask
  | .w1c => old &&& ~~~ v &&& f.mask
  | .w1t => 0
  | .wo => 0

/-- CAPTURE.TRIG_CFG by its src: for src 3, kind 3 is stored as 0, and for src 2 and 3, thr 0 is stored as 1 (R242, R253). -/
def trigStore (w : Word) : Word :=
  let src := w.toNat % 8
  let w := if src = 3 ∧ w.toNat / 2 ^ 28 % 4 = 3 then w &&& 0x0FFFFFFF else w
  if (src = 2 ∨ src = 3) ∧ w.toNat / 2 ^ 16 % 256 = 0 then w ||| 0x00010000 else w

/-- What a register stores when `v` is written over `old`; reserved bits read 0 (R6). -/
def storeWord (p off : Nat) (old v : Word) : Word :=
  match regSpec p off with
  | none => old
  | some r =>
    let w := r.fs.foldl (fun w f => w ||| f.write old v) 0
    if p = 0x12 ∧ off = 0x050 then trigStore w else w

end Sys2Proof.Machine
end

