-- ==== Sys2Proof/Machine/Store.lean ====
section
/-! DEFINITION. Sparse tables from a number to a value, in one canonical form: keys strictly rising, and no entry equal to what an unlisted key reads as. The register words, the applied values and the memories are such tables. -/

namespace Sys2Proof.Machine

variable {α : Type}

/-- What key `k` reads as: the listed value, or what the blank gives for an unlisted key. -/
def tabGet (blank : Nat → α) (k : Nat) : List (Nat × α) → α
  | [] => blank k
  | e :: t => if e.1 = k then e.2 else tabGet blank k t

/-- The table without key `k`. -/
def tabErase (k : Nat) : List (Nat × α) → List (Nat × α)
  | [] => []
  | e :: t => if e.1 = k then tabErase k t else e :: tabErase k t

/-- The table with an entry for key `k` put before the first greater key. -/
def tabInsert (k : Nat) (v : α) : List (Nat × α) → List (Nat × α)
  | [] => [(k, v)]
  | e :: t => if k < e.1 then (k, v) :: e :: t else e :: tabInsert k v t

/-- The table after a write of `v` at `k`: writing what an unlisted key reads as removes the entry. -/
def tabSet [DecidableEq α] (blank : Nat → α) (k : Nat) (v : α) (l : List (Nat × α)) : List (Nat × α) :=
  if v = blank k then tabErase k l else tabInsert k v (tabErase k l)

/-- The canonical form, from a lower limit on the keys. -/
def tabWfFrom [DecidableEq α] (blank : Nat → α) (lo : Nat) : List (Nat × α) → Bool
  | [] => true
  | e :: t => decide (lo ≤ e.1) && decide (e.2 ≠ blank e.1) && tabWfFrom blank (e.1 + 1) t

/-- The canonical form: keys strictly rising, and no entry equal to what an unlisted key reads as. -/
def tabWf [DecidableEq α] (blank : Nat → α) (l : List (Nat × α)) : Bool := tabWfFrom blank 0 l

/-- Keep only the entries whose key passes the test. -/
def tabKeep (p : Nat → Bool) : List (Nat × α) → List (Nat × α)
  | [] => []
  | e :: t => if p e.1 then e :: tabKeep p t else tabKeep p t

end Sys2Proof.Machine
end

