-- ==== Sys2Proof/Machine/State.lean ====
section
/-! DEFINITION. The state of the device: the register words of the 91 pages, the applied values of the shadow registers, the state that the spec gives the blocks beside their registers, the memories, and the queue of the commands that wait. -/

namespace Sys2Proof.Machine

/-- Why a step stops. -/
inductive Fault where
  /-- raised by every command but a reset after a rail has left its limits outside reset: R466 says that the device's state is
  then undefined until RESET_N is asserted. Safe: nothing is said of what the device does. -/
  | stateUndefined
  deriving DecidableEq, Repr

/-- Why a command is refused. -/
inductive Refusal where
  /-- raised by the arm of a command whose meaning is not written. Safe: nothing is said of what the device does. -/
  | notModelled (mnemonic : String)
  deriving DecidableEq, Repr

/-- One coefficient set of a line equaliser (R84 to R86): the register words of 64 FFE taps, 15 Volterra terms and 64 MLSE entries. -/
structure EqSet where
  ffe : List Word
  volt : List Word
  mlse : List Word
  deriving DecidableEq, Repr

/-- A calibration run of a line lane between steps 1 and 5 (R69, R130): whether it is the training or enable run, whether its
targets are computed, and the settings sampled at step 1. -/
structure CalRun where
  forced : Bool
  computed : Bool
  mode : Nat
  en : Nat
  limit : Word
  deriving DecidableEq, Repr

/-- Why an LTX run waits before it may start (R127, R132): 1 ms after too few symbols, or for OUT_LIVE to reach OUT_CFG. -/
inductive CalWait where
  | none | retry | swing
  deriving DecidableEq, Repr

/-- A calibrated set that the CAL page can load or exchange (R266, R267). -/
structure CalSet where
  words : List Word
  deriving DecidableEq, Repr

/-- The state of a line receiver beside its registers: the FE_CFG and invert values taken at the last entry to TRAIN (R58), the
calibration run in progress (R69), the previous set (R267), whether PRBS_ERR has been raised since the last clear (R78). -/
structure LrxH where
  feTaken : Word
  invTaken : Nat
  run : Option CalRun
  prev : Option CalSet
  prbsErr : Bool
  deriving DecidableEq, Repr

/-- What a Handoff moves to (R104, R106): a set of the Pacer or of the host, or a pace target. -/
inductive Fade where
  | swap | pace
  deriving DecidableEq, Repr

/-- A swap that waits for the end of a Handoff or of a pace change (R53, R104, R110). -/
inductive Swap where
  | candidate (set : EqSet)
  | manual
  deriving DecidableEq, Repr

/-- A pace-level change between its step 1 and pace_applied (R106, R107). -/
inductive PaceStep where
  | waiting (unitsReady : Bool)
  | fading
  | boundary
  deriving DecidableEq, Repr

structure PaceChange where
  step : PaceStep
  level : Nat
  deriving DecidableEq, Repr

/-- The peaking search of R94 phase 5: the setting it started from, the best setting seen, and the direction it moves in. -/
inductive Climb where
  | up | down | back
  deriving DecidableEq, Repr

structure Search where
  start : Nat
  startSnr : Nat
  best : Nat
  bestSnr : Nat
  last : Nat
  climb : Climb
  deriving DecidableEq, Repr

/-- The state of a Pacer beside its registers: the main cursor taken at the last entry to TRAIN (R84), the pending candidate, the
deferred swap and the requested Handoff, the Handoff in progress and its zone exponent (R103, R104), the pace change (R106,
R107), the runs of failing and passing blocks (R101), the peaking search (R94), and whether a candidate has been accepted since
the entry to TRAIN (R31). -/
structure PacerH where
  main : Nat
  cand : Option EqSet
  pend : Option Swap
  req : Bool
  fade : Option Fade
  zone : Nat
  pace : Option PaceChange
  failRun : Nat
  passRun : Nat
  search : Option Search
  accepted : Bool
  deriving DecidableEq, Repr

/-- The state of a line transmitter beside its registers: whether the output stage is powered (R127 step 2) and step 5 is
reached, the invert and cm values taken at enable, the step of an unsquelch ramp (R129), the set on its way into the inactive
bank, the set that waits for a fade and the requested cross-fade (R121, R122), its zone exponent, the calibration run (R130) and
the previous set (R267), and how many bit errors have been injected into generated symbols (R133), and the glide of R197. -/
structure LtxH where
  powered : Bool
  step5 : Bool
  invert : Nat
  cm : Nat
  ramping : Bool
  ramp : Nat
  copy : Option (List Word)
  pend : Option (List Word)
  req : Bool
  zone : Nat
  run : Option CalRun
  again : Bool
  wait : CalWait
  prev : Option CalSet
  errInj : Nat
  glide : Bool
  deriving DecidableEq, Repr

/-- Where the coefficient search of a host lane stands (R188): at the preset, at a step of a tap, or at the request that takes a
step back. -/
inductive SearchStage where
  | preset | step | undo
  deriving DecidableEq, Repr

/-- The coefficient search of a host lane (R188): its stage, the place of the tap in the order of R188, whether it moves up, whether
this pass has kept a step, the requests sent, the SNR to beat, whether the last request waits for its echo, and whether a
measurement runs. -/
structure HSearch where
  stage : SearchStage
  tap : Nat
  up : Bool
  kept : Bool
  count : Nat
  base : Nat
  waiting : Bool
  measuring : Bool
  deriving DecidableEq, Repr

/-- The state of a host receiver beside its registers: the FE_CFG and invert values taken at the last entry to TRAIN (R58), whether
PRBS_ERR has been raised since the last clear (R78), whether the attempt is a Warm-up and its TRN_CFG and TRN_CFG2 (R193, R202),
the matching and missing markers in a row (R185), the valid frames in a row in RUN and HOLD (R191) and those with rx_ready (R189),
the control word sent (R184), the search, whether the partner has announced data (R189), and the runs of gate windows (R176). -/
structure HrxH where
  feTaken : Word
  invTaken : Nat
  prbsErr : Bool
  wu : Bool
  cfg : Word
  cfg2 : Word
  matches' : Nat
  misses : Nat
  valid3 : Nat
  ready16 : Nat
  ctl : BitVec 16
  search : Option HSearch
  announced : Bool
  failRun : Nat
  passRun : Nat
  deriving DecidableEq, Repr

/-- A partner's request that waits for its frame (R185): its control word, and how many frames have started since. -/
structure Service where
  ctl : BitVec 16
  frames : Nat
  deriving DecidableEq, Repr

/-- The movement of the FIR taps of a host transmitter in DATA (R179): the words FIR_LIVE0 and FIR_LIVE1 it leaves and reaches, and
the step in use. -/
structure FirRamp where
  from0 : Word
  from1 : Word
  to0 : Word
  to1 : Word
  step : Nat
  deriving DecidableEq, Repr

/-- The state of a host transmitter beside its registers: the output stage powered and the unsquelch ramp (R180), the invert value
taken at enable, the glide of R197, the countdown in progress (R189), the seq of the last request served, the request that waits,
the answer being sent (R185), the movement of the taps (R179), and the bit errors injected (R133). -/
structure HtxH where
  powered : Bool
  ramping : Bool
  ramp : Nat
  invert : Nat
  glide : Bool
  countdown : Option Nat
  lastSeq : Nat
  service : Option Service
  ack : Nat
  result : Nat
  fir : Option FirRamp
  errInj : Nat
  deriving DecidableEq, Repr

/-- One entry of the event log (R336). -/
structure LogEntry where
  seq : Nat
  page : Nat
  src : Nat
  sev : Nat
  esc : Bool
  forced : Bool
  time : Long
  deriving DecidableEq, Repr

/-- A call of the management firmware by the Referee (R329, R334): the page, the source, the severity whose action runs. -/
structure FwCall where
  page : Nat
  src : Nat
  sev : Nat
  deriving DecidableEq, Repr

/-- The moving part of an escalation watcher (R333, R334): firings, window open, events in the window. -/
structure WatchH where
  hits : Nat
  isOpen : Bool
  count : Nat
  deriving DecidableEq, Repr

/-- The Referee beside its registers: the (page, source) pairs whose reaction is in progress (R328), the log, oldest entry first,
with the slot written next, the next sequence number and the entries overwritten (R336), the first fault, the moving parts of the
watchers of the subsystem pages (watcher w of subsystem page 0x18 + i at 32 i + w), and the calls made to the firmware. -/
structure RefH where
  busy : List (Nat × Nat)
  log : List LogEntry
  head : Nat
  seq : Nat
  overwritten : Nat
  first : Option LogEntry
  watch : List (Nat × WatchH)
  calls : List FwCall
  deriving DecidableEq, Repr

/-- How an access ended (R39). -/
inductive Status where
  | ok | off | uncorr | denied | unmapped
  deriving DecidableEq, Repr

/-- What the last access returned on its link: the model's own field for the answer a master gets (R39). -/
structure Resp where
  status : Status
  data : List Word
  deriving DecidableEq, Repr

/-- Whether the device can act: VAON absent (R390), held in reset (R391), running, or undefined after a rail fault (R466). -/
inductive Life where
  | unpowered | held | on | undefined
  deriving DecidableEq, Repr

/-- A unit of a commit that applies at one gate (R25, R48, R481): a page, or the share of one port group in a page that serves
several. -/
structure GateUnit where
  page : Nat
  /-- the group's lowest lane, for a page that serves several groups -/
  group : Option Nat
  deriving DecidableEq, Repr

/-- A mode commit (R47, R48): none, written and not decided, or decided with the units whose gates are still to come. -/
inductive CommitPhase where
  | idle
  | undecided (targets : Nat)
  | decided (targets : Nat) (gates : List GateUnit)
  deriving DecidableEq, Repr

/-- What a codeword place of an interleave block carries (R150, R151): filler, or the 544 symbols of an RS codeword, symbol i in
bits 10 i to 10 i + 9. -/
inductive Place where
  | filler
  | word (data : BitVec 5440)
  deriving DecidableEq, Repr

/-- The coding path of lane `n`: the PRBS31 generators toward line and host (R143, R150), the last inner codeword sent and the
header and position of the Lap in progress (R148, R149), the buffer of decoded host codewords (R158), the last payload delivered
with its validity and erasure flag (R141, R154), the Lap tracking of the receiver (R166, R167), the blocks in the rate-matching
buffer and the blocks of Local Fault sent since the last whole codeword (R162, R163), and the counters at the start of the tuning
window (R157). -/
structure CodeLane where
  prbsTx : BitVec 31
  prbsRx : BitVec 31
  sent : BitVec 128
  hdr : BitVec 480
  pos : Nat
  fifo : List (BitVec 5440)
  got : BitVec 120
  gotValid : Bool
  flag : Nat
  margin : Nat
  lapLock : Bool
  firstMatch : Bool
  miss : Nat
  idBad : Bool
  phase : Int
  buf : Nat
  lfBlocks : Nat
  tuneHit : Long
  tuneFalse : Long
  deriving DecidableEq, Repr

/-- The coding path of a Segmented group, held at its lowest lane: the next lap_cnt to send and the filler map of the Lap in
progress (R149, R158), the interleave block in progress and its places (R151), the last received lap_cnt whose filler slots were
counted and whether slot 23 has shown a correctable codeword (R161), whether the last Laps measured in each direction carried
codewords in slot 0 (R165), and whether the skew is out of range (R167). -/
structure CodeGroup where
  lap : BitVec 32
  map : BitVec 24
  blk : Option Nat
  places : List Place
  fillLap : Option (BitVec 32)
  infOk : Bool
  latTx : Bool
  latRx : Bool
  skewBad : Bool
  deriving DecidableEq, Repr

/-- The coding path beside its registers; `corrLrx` and `corrHrx` are the times of the last rs_corr_thr events (R170). -/
structure CodeH where
  lanes : Vector CodeLane 8
  groups : Vector CodeGroup 8
  corrLrx : Option Long
  corrHrx : Option Long
  deriving DecidableEq, Repr

/-- Engines lent to a Pacer (R220). -/
structure Loan where
  pacer : Nat
  count : Nat
  deriving DecidableEq, Repr

/-- A change of LEND on its way (R221): none, waiting for the host Squad to release engines, for the Pacer's next cycle, or for the
end of the Pacer's cycle to return engines. -/
inductive LendMove where
  | none | releasing | joining | returning
  deriving DecidableEq, Repr

/-- The state of a Squad beside its registers: the engines excluded (R225), the engines that have trapped since it ran (R213), a halt
in progress (R207), the reload reason it gives its lane and the verified image of step 6 (R218), the manifest digest of its image
(R224), the loan (R220) and the change of it. -/
structure SquadH where
  excl : List Nat
  trapped : List Nat
  halting : Bool
  reloading : Bool
  verified : Bool
  digest : List Byte
  lent : Option Loan
  move : LendMove
  deriving DecidableEq, Repr

/-- The errors of a SECDED word (R313, R320): the flipped bits among the 32 data bits and the 7 check bits above them, and whether the
scrubber has poisoned it. -/
structure Ecc where
  flips : BitVec 39
  poison : Bool
  deriving DecidableEq, Repr

/-- The bits in which each of the three copies of a voted word differs from what was written (R322). -/
structure Votes where
  a : Word
  b : Word
  c : Word
  deriving DecidableEq, Repr

/-- A Time trial run beside its registers (R429 to R437): TARGET as it was at go, whether the run is suspended, the signature, expected
signature and vector count of the last checkpoint, and the first checkpoint whose signature differed. -/
structure TrialH where
  target : Word
  suspended : Bool
  cpSig : Word
  cpExp : Word
  cpVec : Nat
  badCp : Option Nat
  deriving DecidableEq, Repr

/-- The tagging of SPLIT beside its registers (R233): the LFSR and the interval in progress, in instructions. -/
structure SplitH where
  lfsr : BitVec 23
  interval : Nat
  deriving DecidableEq, Repr

/-- The capture unit beside its registers (R240 to R250): for each stream the valid records it will hold and whether its trigger record
is overwritten, the level of TRIG_OUT, and for the analysis in progress ANA_CFG, the masks and limits as sampled, and its engines. -/
structure CapH where
  count : List Nat
  lost : List Nat
  trigOut : Bool
  anaCfg : Word
  geo : List Word
  lim : List Word
  engines : List Nat
  deriving DecidableEq, Repr

/-- The temperature functions beside their registers (R256 to R262): for each sensor the consecutive deviating readings and the used
value of its last reading in OK, the sensors whose clear acts at the next reading, the reading at which each line lane's thermal level
last stepped, the readings in a row below the release temperature, and the readings taken. -/
structure ThermH where
  count : List Nat
  lastOk : List (Option Int)
  clr : Word
  lastStep : List (Option Nat)
  release : Nat
  reads : Nat
  deriving DecidableEq, Repr

/-- The calibration store beside its registers (R265 to R270): the sequence numbers of copies A and B, the copy being written, whether
that write is the retry of a failed one, the CMD word of a RELOAD_STORE that waits, and the offset requests of the monitor
converters that wait for their start. -/
structure CalH where
  seqA : Word
  seqB : Word
  copy : Option Bool
  retry : Bool
  reload : Option Word
  ofsPending : Bool
  deriving DecidableEq, Repr

/-- A monitor converter beside its registers (R277 to R286): the core powered, a start that waits for it, a pass in progress, a stop after
the conversion in progress, the ow of the urgent request in progress, and the previous offset. -/
structure MadcH where
  powered : Bool
  starting : Bool
  pass : Bool
  stopping : Bool
  urgOw : Bool
  prev : Option Word
  deriving DecidableEq, Repr

/-- The filter chain beside its registers (R289 to R292): for each channel the outputs since its last reset and those given in the
fade in progress, the user set that waits for the end of a fade, and whether USER_SH has been written since the last copy. -/
structure FilterH where
  outs : List Nat
  faded : List Nat
  pend : Option (List Word)
  dirty : Bool
  deriving DecidableEq, Repr

/-- Where a span change of an HDAC channel stands (R302): steps 1, 2, 3 and 4. -/
inductive SpanStep where
  | slew | hold | switch | back
  deriving DecidableEq, Repr

/-- A span change and the span it leads to. -/
structure SpanChange where
  step : SpanStep
  dest : Nat
  deriving DecidableEq, Repr

/-- A housekeeping DAC beside its registers (R300 to R309): whether `settled` is awaited, whether the last target was limited, the
generator's value, its direction and its LFSR, the span change in progress or suspended, and the pending span. -/
structure HdacH where
  arm : Bool
  limited : Bool
  gen : Int
  up : Bool
  lfsr : BitVec 16
  span : Option SpanChange
  pend : Option Nat
  deriving DecidableEq, Repr

/-- The scrubber beside its registers (R319, R321): the next word of the region, the regions skipped in this pass, whether the
pass has read every region and waits for the end of its period, and whether that end has come before it. -/
structure ScrubH where
  idx : Nat
  skip : Word
  waits : Bool
  late : Bool
  deriving DecidableEq, Repr

/-- A Baton request whose response is to be sent (R354, R355): its tag, whether it is a POLL of a group, whether a frame error was
found, the outcome code, and the words read. -/
structure BatonReq where
  tag : Nat
  poll : Bool
  err : Bool
  outcome : Nat
  words : List Word
  deriving DecidableEq, Repr

/-- What the device last sent on a management link (R344, R351): the status byte and the data words. -/
structure Reply where
  status : Byte
  words : List Word
  deriving DecidableEq, Repr

/-- An entry to IDLE or DOZE in progress: its target, and the next page group (R377). -/
structure SleepEntry where
  target : Nat
  group : Nat
  deriving DecidableEq, Repr

/-- The power states beside their registers: the entry in progress, the request that waits for a commit (R376), the wake source that is
latched (R382, R388), whether a wake runs (R383), and the lanes that wait for their Squads, line lane n in bit n and host lane n in
bit 8 + n (R375, R381). -/
structure PowerH where
  entry : Option SleepEntry
  deferred : Option Nat
  wake : Option Nat
  waking : Bool
  held : BitVec 16
  deriving DecidableEq, Repr

/-- What the firmware that starts was started by (R404, R414, R317). -/
inductive StartKind where
  | attempt | activation | restart
  deriving DecidableEq, Repr

/-- Where the boot ROM stands: nothing to do, about to start an attempt, or a firmware started whose boot good is awaited (R404, R406). -/
inductive BootPhase where
  | idle | rom | started (k : StartKind)
  deriving DecidableEq, Repr

/-- A failed attempt whose FAIL record is still to be written (R404). -/
structure FailRec where
  slot : Nat
  attempt : Nat
  cause : Nat
  deriving DecidableEq, Repr

/-- The boot sequence beside its registers: the phase, the cause of the next start (R394), the count before the attempt in progress,
if one is in progress (R408), whether that attempt was cut by a reset, the failed attempt to journal, whether the source is the
host (R402), the manifest of the running package with its firmware length (R396, R397), whether the save set was restored at this
start (R381), and the OTP programs of a CONFIRM that wait: the rollback count and the key slots to revoke (R401). -/
structure BootH where
  phase : BootPhase
  cause : Nat
  before : Option Nat
  cancel : Bool
  failed : Option FailRec
  manifest : List Byte
  fwLen : Nat
  restored : Bool
  advance : Nat
  revoke : Nat
  deriving DecidableEq, Repr

/-- An operation of the NVM page in progress (R427). -/
inductive NvmOp where
  | erase (sector : Nat)
  | program (addr : Nat) (data : List Byte)
  | otp (word : Nat) (data : Word)
  | read (word : Nat)
  deriving DecidableEq, Repr

/-- The non-volatile memory beside its registers: the OTP words (R399), the operation in progress, and the life-cycle transition in
progress (R420, R421). -/
structure NvmH where
  otp : List (Nat × Word)
  op : Option NvmOp
  lc : Option Nat
  deriving DecidableEq, Repr

/-- The shadow of a wide value: its register address and the word it holds (R49, R51). -/
abbrev WideShadow := Option (Nat × Word)

/-- The device without its byte memories and its queue. -/
structure Dev where
  life : Life
  /-- pages that a power state or the boot sequence has stopped, in rising number (R39, R374, R392) -/
  offPages : List Nat
  /-- pages in soft reset (R43) -/
  inReset : List Nat
  /-- register words (reads of a shadow register return its shadow copy) -/
  regs : List (Nat × Word)
  /-- applied values of the shadow registers (R46) -/
  live : List (Nat × Word)
  /-- the shadow values held at the decision tick of a commit (R48) -/
  samp : List (Nat × Word)
  /-- pages whose shadow registers have been written since the decision tick (R48) -/
  late : List Nat
  commit : CommitPhase
  tk : Long
  /-- the model's own counter of free values drawn -/
  free : Nat
  resp : Resp
  /-- FAULT_N held low (R332) -/
  faultN : Bool
  /-- the thermal trip is asserted (R262) -/
  trip : Bool
  /-- the ball DAC_CLR_N is low (R303) -/
  clrLow : Bool
  ref : RefH
  lrx : Vector LrxH 8
  pacer : Vector PacerH 8
  ltx : Vector LtxH 8
  hrx : Vector HrxH 8
  htx : Vector HtxH 8
  code : CodeH
  squad : Vector SquadH 16
  /-- the Squads whose reload request waits, in the order of arrival, and the Squad that the loader serves (R217) -/
  loader : List Nat
  serving : Option Nat
  /-- the memory words with an error (R313), by their management address or beyond 2^32 by `hiddenLoc` -/
  ecc : List (Nat × Ecc)
  /-- the voted words whose copies disagree, by the row order of R322 -/
  votes : List (Nat × Votes)
  trial : TrialH
  madc : Vector MadcH 2
  filt : FilterH
  therm : ThermH
  cal : CalH
  cap : CapH
  split : SplitH
  boot : BootH
  nvm : NvmH
  hdac : Vector HdacH 8
  scrub : ScrubH
  power : PowerH
  /-- the Baton request that waits for its response, and what was last sent on the SPI and the Baton link -/
  baton : Option BatonReq
  spiReply : Reply
  batonReply : Reply
  /-- the read and the write shadows of wide values, by master and engine or channel (R49, R51) -/
  wideR : List (Nat × WideShadow)
  wideW : List (Nat × WideShadow)
  /-- the coding pages whose most recent commit has not been applied (R31) -/
  unapplied : List Nat
  /-- the current instruction of the TAP (R456) -/
  tap : TapInstr
  /-- the mailbox channels whose timer runs, one bit each (R360, R362) -/
  mboxTimer : BitVec 16
  /-- the Coach runs its firmware (R28) -/
  coachUp : Bool
  deriving DecidableEq, Repr

/-- The state of the block. -/
structure State where
  dev : Dev
  mem : List Host.Cell
  /-- the commands that wait, first in, first out -/
  pending : List Instr
  deriving DecidableEq, Repr

/-! Reset -/

/-- The hidden parts of the lanes at reset. Before the first entry to TRAIN the values taken are the reset values of FE_CFG and invert, so
that STATUS reads 0 (R58, R81). -/
def LrxH.reset : LrxH := ⟨0x0001180C, 0, none, none, false⟩
def PacerH.reset : PacerH := ⟨0, none, none, false, none, 0, none, 0, 0, none, false⟩
def LtxH.reset : LtxH := ⟨false, false, 0, 0, false, 0, none, none, false, 0, none, false, .none, none, 0, false⟩
def HrxH.reset : HrxH := ⟨0, 0, false, false, 0, 0, 0, 0, 0, 0, 0, none, false, 0, 0⟩
def HtxH.reset : HtxH := ⟨false, false, 0, 0, false, none, 0, none, 0, 0, none, 0⟩
/-- The coding path of a lane at reset. The PRBS31 generators start at all ones (R143, R150 give no value). -/
def CodeLane.reset : CodeLane := ⟨-1, -1, 0, 0, 0, [], 0, false, 0, 0, false, false, 0, false, 0, 0, 0, 0, 0⟩
def CodeGroup.reset : CodeGroup := ⟨0, 0, none, [], none, false, false, false, false⟩
def SquadH.reset : SquadH := ⟨[], [], false, false, false, [], none, .none⟩
def TrialH.reset : TrialH := ⟨0, false, 0, 0, 0, none⟩
def ThermH.reset : ThermH := ⟨List.replicate 24 0, List.replicate 24 none, 0, List.replicate 8 none, 0, 0⟩
def MadcH.reset : MadcH := ⟨false, false, false, false, false, none⟩
def FilterH.reset : FilterH := ⟨List.replicate 8 0, List.replicate 8 0, none, false⟩
def CapH.reset : CapH := ⟨List.replicate 8 0, List.replicate 8 0, false, 0, [], [], []⟩
def HdacH.reset : HdacH := ⟨false, false, 0, true, 1, none, none⟩
def RefH.reset : RefH := ⟨[], [], 0, 0, 0, none, [], []⟩

/-- The non-volatile memory of a part as it ships: MANUFACTURE, bit 0 of OTP word 16 (R419), and no other bit. -/
def NvmH.reset : NvmH := ⟨[(16, 1)], none, none⟩

/-- The device held in reset (R391), before its first boot: every register at its reset value. -/
def Dev.reset : Dev where
  life := .held
  offPages := []
  inReset := []
  regs := []
  live := []
  samp := []
  late := []
  commit := .idle
  tk := 0
  free := 0
  resp := ⟨.ok, []⟩
  faultN := false
  trip := false
  clrLow := false
  ref := .reset
  lrx := .replicate 8 .reset
  pacer := .replicate 8 .reset
  ltx := .replicate 8 .reset
  hrx := .replicate 8 .reset
  htx := .replicate 8 .reset
  code := ⟨.replicate 8 .reset, .replicate 8 .reset, none, none⟩
  squad := .replicate 16 .reset
  loader := []
  serving := none
  ecc := []
  votes := []
  trial := .reset
  madc := .replicate 2 .reset
  filt := .reset
  therm := .reset
  cal := ⟨0, 0, none, false, none, false⟩
  cap := .reset
  split := ⟨1, 0⟩
  boot := ⟨.idle, 0, none, false, none, [], 0, false, 0, 0⟩
  nvm := .reset
  hdac := .replicate 8 .reset
  scrub := ⟨0, 0, false, false⟩
  power := ⟨none, none, none, false, 0⟩
  baton := none
  spiReply := ⟨0, []⟩
  batonReply := ⟨0, []⟩
  wideR := []
  wideW := []
  unapplied := []
  tap := .idcode
  mboxTimer := 0
  coachUp := false

/-- The machine right after reset: held in reset, with nothing written in its memories and no command waiting. -/
def State.reset : State := ⟨.reset, [], []⟩

end Sys2Proof.Machine
end

