-- ==== Sys2Proof/Machine/Ops.lean ====
section
/-! DEFINITION. The named operations over the registers that every meaning uses: reading and writing a register or a field, raising an event to the Referee (R328 to R336), and the hidden parts of the lanes. -/

namespace Sys2Proof.Machine

/-! Registers -/

/-- The key of a register: its byte address within the register pages (R36). -/
def regKey (p off : Nat) : Nat := p * 4096 + off

/-- What a register that is not listed holds: its reset value (R7). -/
def resetAt (k : Nat) : Word := resetWord (k / 4096) (k % 4096)

/-- The word that register `off` of page `p` holds. -/
def Dev.rd (d : Dev) (p off : Nat) : Word := tabGet resetAt (regKey p off) d.regs

/-- The management address of a register (R36). -/
def regAddr (p off : Nat) : Nat := 0x00100000 + regKey p off

/-- The device with register `off` of page `p` holding `w`. A full-word write replaces any error of the word (R318). -/
def Dev.wr (d : Dev) (p off : Nat) (w : Word) : Dev :=
  { d with regs := tabSet resetAt (regKey p off) w d.regs, ecc := tabErase (regAddr p off) d.ecc }

/-- The applied value of a shadow register (R46). -/
def Dev.lrd (d : Dev) (p off : Nat) : Word := tabGet resetAt (regKey p off) d.live

def Dev.lwr (d : Dev) (p off : Nat) (w : Word) : Dev := { d with live := tabSet resetAt (regKey p off) w d.live }

/-- A field of a register: its offset, its lowest bit and its width. -/
structure Fld where
  off : Nat
  lo : Nat
  w : Nat
  deriving DecidableEq, Repr

/-- The code in bits [lo + w - 1 : lo] of a word. -/
def getBits (x : Word) (lo w : Nat) : Nat := x.toNat / 2 ^ lo % 2 ^ w

/-- The word with bits [lo + w - 1 : lo] replaced by a code, taken modulo 2^w. -/
def setBits (x : Word) (lo w v : Nat) : Word :=
  (x &&& ~~~ (BitVec.ofNat 32 (2 ^ w - 1) <<< lo)) ||| (BitVec.ofNat 32 (v % 2 ^ w) <<< lo)

def Dev.g (d : Dev) (p : Nat) (f : Fld) : Nat := getBits (d.rd p f.off) f.lo f.w

def Dev.s (d : Dev) (p : Nat) (f : Fld) (v : Nat) : Dev := d.wr p f.off (setBits (d.rd p f.off) f.lo f.w v)

/-- The applied value of a field of a shadow register. -/
def Dev.lg (d : Dev) (p : Nat) (f : Fld) : Nat := getBits (d.lrd p f.off) f.lo f.w

/-- A one-bit field is 1. -/
def Dev.b (d : Dev) (p : Nat) (f : Fld) : Bool := d.g p f == 1

def Dev.sb (d : Dev) (p : Nat) (f : Fld) (v : Bool) : Dev := d.s p f (if v then 1 else 0)

/-- Adds one to a 32-bit counter, which wraps. -/
def Dev.inc (d : Dev) (p off : Nat) : Dev := d.wr p off (d.rd p off + 1)

/-- Adds to a 32-bit counter, which wraps. -/
def Dev.add (d : Dev) (p off n : Nat) : Dev := d.wr p off (d.rd p off + BitVec.ofNat 32 n)

/-- Adds one to a field that saturates at its largest code. -/
def Dev.incSat (d : Dev) (p : Nat) (f : Fld) : Dev := d.s p f (min (d.g p f + 1) (2 ^ f.w - 1))

/-- The 64-bit quantity whose low word is at `off` (R8). -/
def Dev.rd64 (d : Dev) (p off : Nat) : Long := Long.ofWords (d.rd p off) (d.rd p (off + 4))

def Dev.wr64 (d : Dev) (p off : Nat) (v : Long) : Dev := (d.wr p off v.lo).wr p (off + 4) v.hi

/-- Words at `off`, `off + 4`, ... -/
def Dev.wrs (d : Dev) (p off : Nat) : List Word → Dev
  | [] => d
  | w :: t => (d.wr p off w).wrs p (off + 4) t

def Dev.rds (d : Dev) (p off : Nat) : Nat → List Word
  | 0 => []
  | n + 1 => d.rd p off :: d.rds p (off + 4) n

/-- Applies `f` when the condition holds. -/
def Dev.when (d : Dev) (c : Bool) (f : Dev → Dev) : Dev := if c then f d else d

/-- Applies one update for every lane in turn. -/
def Dev.eachLane (d : Dev) (f : Lane → Dev → Dev) : Dev := (List.finRange 8).foldl (fun d n => f n d) d

/-! Pages -/

def pLrx (n : Lane) : Nat := 0x20 + n.val
def pLtx (n : Lane) : Nat := 0x28 + n.val
def pHrx (n : Lane) : Nat := 0x30 + n.val
def pHtx (n : Lane) : Nat := 0x38 + n.val
def pSquad (n : Sq) : Nat := 0x50 + n.val
def pPacer (n : Lane) : Nat := 0x60 + n.val

/-- PAGE_STATE.applied (R43). -/
def fApplied : Fld := ⟨0x004, 4, 1⟩
/-- PAGE_CTRL.clk_off and sleep_req (R43). -/
def fClkOff : Fld := ⟨0x008, 2, 1⟩
def fSleepReq : Fld := ⟨0x008, 1, 1⟩
/-- PAGE_LOCK.wlock and owner (R43, R44). -/
def fWlock : Fld := ⟨0x00C, 0, 1⟩
def fOwner : Fld := ⟨0x00C, 8, 8⟩
/-- ARM.arm (R43). -/
def fArm : Fld := ⟨0x028, 0, 1⟩
/-- EVT_ROUTE.host_int, coach and baton (R43). -/
def fHostInt : Fld := ⟨0x024, 0, 1⟩
def fCoachInt : Fld := ⟨0x024, 1, 1⟩
def fBatonInt : Fld := ⟨0x024, 2, 1⟩

/-- The page is powered (R39, R43). -/
def Dev.powered (d : Dev) (p : Nat) : Bool := !d.offPages.contains p

/-- POWER.STATUS.state (R389); code 2 is DOZE, which no master can read. -/
def fPowerState : Fld := ⟨0x044, 0, 2⟩

/-- The page group of an entry to IDLE or DOZE that a page belongs to (R377), 0 for the TIMEKEEPER page. -/
def sleepGroup (p : Nat) : Nat :=
  if p = 0x12 ∨ p = 0x15 then 1
  else if (0x20 ≤ p ∧ p < 0x40) ∨ (0x60 ≤ p ∧ p < 0x68) then 2
  else if 0x40 ≤ p ∧ p ≤ 0x44 then 3
  else if 0x50 ≤ p ∧ p < 0x60 then 4
  else if [0x0E, 0x0F, 0x10, 0x11, 0x06, 0x17, 0x13].contains p then 5
  else if p = 0x05 then 0 else 6

/-- A page is quiesced by an entry that its group has accepted, or by DOZE, which lasts until a wake is complete (R377, R383). -/
def Dev.quiesced (d : Dev) (p : Nat) : Bool :=
  d.g 0x02 fPowerState == 2 ||
    match d.power.entry with
    | some e => sleepGroup p != 0 && decide (sleepGroup p < e.group)
    | none => false

/-- The page answers accesses and its function works: powered, its clock running, not in soft reset, and not quiesced (R39, R377). -/
def Dev.running (d : Dev) (p : Nat) : Bool := d.powered p && !d.b p fClkOff && !d.inReset.contains p && !d.quiesced p

/-! Events and the Referee -/

/-- The number of event sources of a page. -/
def sourcesOf (p : Nat) : Nat := ((kindOf p).map (·.sources)).getD 0

/-- EVT_STATUS bit `s` of page `p`. -/
def Dev.evt (d : Dev) (p s : Nat) : Bool := (d.rd p 0x010).getLsbD s

/-- The severity of source `s` of page `p` (R43). -/
def Dev.sev (d : Dev) (p s : Nat) : Nat := getBits (d.rd p (if s < 16 then 0x01C else 0x020)) (2 * (s % 16)) 2

/-- Writes an entry to the event log, a ring of 32 (R336). -/
def Dev.logAdd (d : Dev) (page src sev : Nat) (esc forced : Bool) : Dev :=
  let e : LogEntry := ⟨d.ref.seq, page, src, sev, esc, forced, d.tk⟩
  let full := d.ref.log.length == 32
  { d with ref := { d.ref with
      log := (if full then d.ref.log.drop 1 else d.ref.log) ++ [e]
      head := (d.ref.head + 1) % 32
      seq := (d.ref.seq + 1) % 65536
      overwritten := if full then min (d.ref.overwritten + 1) 65535 else d.ref.overwritten } }

/-- Records a first fault, if none is held (R336). -/
def Dev.firstAdd (d : Dev) (page src sev : Nat) (esc forced : Bool) : Dev :=
  match d.ref.first with
  | some _ => d
  | none => { d with ref := { d.ref with first := some ⟨0, page, src, sev, esc, forced, d.tk⟩ } }

/-- Calls the management firmware (R329). -/
def Dev.call (d : Dev) (page src sev : Nat) : Dev :=
  { d with ref := { d.ref with calls := d.ref.calls ++ [⟨page, src, sev⟩] } }

def watchBlank : Nat → WatchH := fun _ => ⟨0, false, 0⟩

/-- The moving part of watcher `w` of subsystem page `sp`. -/
def Dev.watch (d : Dev) (sp w : Nat) : WatchH := tabGet watchBlank (32 * (sp - 0x18) + w) d.ref.watch

def Dev.setWatch (d : Dev) (sp w : Nat) (h : WatchH) : Dev :=
  { d with ref := { d.ref with watch := tabSet watchBlank (32 * (sp - 0x18) + w) h d.ref.watch } }

/-- WATCH_CFG[w] (R342). -/
def fWatchEn (w : Nat) : Fld := ⟨0x100 + 0x10 * w, 31, 1⟩
def fWatchSrc (w : Nat) : Fld := ⟨0x100 + 0x10 * w, 24, 5⟩
def fWatchPage (w : Nat) : Fld := ⟨0x100 + 0x10 * w, 16, 8⟩
def fWatchN (w : Nat) : Fld := ⟨0x100 + 0x10 * w, 0, 8⟩

/-- Sets EVT_STATUS bit `s` of page `p` (R43). -/
def Dev.setEvt (d : Dev) (p s : Nat) : Dev := d.wr p 0x010 (d.rd p 0x010 ||| BitVec.twoPow 32 s)

/-- Watcher `w` of subsystem page `sp` fires on an event of source `src` of page `p` (R334). -/
def Dev.watchFire (d : Dev) (sp w p src : Nat) : Dev :=
  let h := d.watch sp w
  ((((d.setEvt sp w).logAdd sp w 3 true false).firstAdd sp w 3 true false).call p src 3).setWatch sp w
    ⟨min (h.hits + 1) 255, false, 0⟩

/-- Watcher `w` of subsystem page `sp` counts an event of source `src` of page `p`, if it watches that pair (R333). -/
def Dev.watchCount (d : Dev) (sp p src w : Nat) : Dev :=
  if d.b sp (fWatchEn w) && d.g sp (fWatchPage w) == p && d.g sp (fWatchSrc w) == src then
    let h := d.watch sp w
    let c := h.count + 1
    if d.g sp (fWatchN w) ≤ c then d.watchFire sp w p src else d.setWatch sp w ⟨h.hits, true, c⟩
  else d

/-- The Referee's reaction to an event that is not lost (R328, R329, R333, R336). -/
def Dev.referee (d : Dev) (p src : Nat) (forced : Bool) : Dev :=
  let sv := d.sev p src
  let d := { d with ref := { d.ref with busy := d.ref.busy ++ [(p, src)] } }
  let d := d.when (decide (getBits (d.rd 0x03 0x040) 8 2 ≤ sv)) (·.logAdd p src sv false forced)
  let d := d.when (decide (2 ≤ sv)) (·.firstAdd p src sv false forced)
  let d := d.when (decide (1 ≤ sv)) (·.call p src sv)
  match subsystemOf p with
  | none => d
  | some sp => (List.range 32).foldl (fun d w => d.watchCount sp p src w) d

/-- Source `src` of page `p` raises an event (R328). A source whose page has no block bit never reaches the Referee (R42); an
event within the reaction to an earlier one of the same source is lost to it, and so is one that meets a Referee without power (R387). -/
def Dev.raise (d : Dev) (p src : Nat) (forced : Bool := false) : Dev :=
  if src < sourcesOf p && d.powered p then
    let lost := d.ref.busy.contains (p, src)
    let d := d.setEvt p src
    if (blockBit p).isSome && !lost && d.powered 0x03 then d.referee p src forced else d
  else d

/-- Raises the event when the condition holds. -/
def Dev.raiseIf (d : Dev) (c : Bool) (p src : Nat) : Dev := if c then d.raise p src else d

/-! Hidden parts of the lanes -/

def Dev.lx (d : Dev) (n : Lane) : LrxH := d.lrx.get n
def Dev.pc (d : Dev) (n : Lane) : PacerH := d.pacer.get n
def Dev.tx (d : Dev) (n : Lane) : LtxH := d.ltx.get n
def Dev.hx (d : Dev) (n : Lane) : HtxH := d.htx.get n
def Dev.hr (d : Dev) (n : Lane) : HrxH := d.hrx.get n

def Dev.sq (d : Dev) (n : Sq) : SquadH := d.squad.get n
def Dev.updSquad (d : Dev) (n : Sq) (f : SquadH → SquadH) : Dev := { d with squad := d.squad.set n.val (f (d.sq n)) }
def Dev.md (d : Dev) (u : Fin 2) : MadcH := d.madc.get u
def Dev.updMadc (d : Dev) (u : Fin 2) (f : MadcH → MadcH) : Dev := { d with madc := d.madc.set u.val (f (d.md u)) }
def Dev.hd (d : Dev) (c : Fin 8) : HdacH := d.hdac.get c
def Dev.updHdac (d : Dev) (c : Fin 8) (f : HdacH → HdacH) : Dev := { d with hdac := d.hdac.set c.val (f (d.hd c)) }
def Dev.updHrx (d : Dev) (n : Lane) (f : HrxH → HrxH) : Dev := { d with hrx := d.hrx.set n.val (f (d.hr n)) }
def Dev.updHtx (d : Dev) (n : Lane) (f : HtxH → HtxH) : Dev := { d with htx := d.htx.set n.val (f (d.hx n)) }
def Dev.updLrx (d : Dev) (n : Lane) (f : LrxH → LrxH) : Dev := { d with lrx := d.lrx.set n.val (f (d.lx n)) }
def Dev.updPacer (d : Dev) (n : Lane) (f : PacerH → PacerH) : Dev := { d with pacer := d.pacer.set n.val (f (d.pc n)) }
def Dev.updLtx (d : Dev) (n : Lane) (f : LtxH → LtxH) : Dev := { d with ltx := d.ltx.set n.val (f (d.tx n)) }

/-- Draws a free value: the counter it is applied to, and the device with the counter advanced. -/
def Dev.drawn (d : Dev) : Dev := { d with free := d.free + 1 }

end Sys2Proof.Machine
end

