-- ==== Sys2Proof/Machine/Line.lean ====
section
/-! DEFINITION. What the line receiver, the Pacer and the line transmitter share: their fields, calibration runs (R66 to R75, R130 to R132), pace levels (R89 to R91, R106 to R109), swaps (R53, R104), hold reasons (R102) and the lane states (R92, R94). -/

namespace Sys2Proof.Machine

/-! Fields of LRXn (R81) -/

def fLrxEn : Fld := ⟨0x040, 0, 1⟩
def fLrxFeManual : Fld := ⟨0x040, 3, 1⟩
def fLrxInvert : Fld := ⟨0x040, 4, 1⟩
def fLrxState : Fld := ⟨0x044, 0, 3⟩
def fLrxSigDet : Fld := ⟨0x044, 3, 1⟩
def fLrxCdrLock : Fld := ⟨0x044, 4, 1⟩
def fLrxCalBusy : Fld := ⟨0x044, 5, 1⟩
def fLrxCalPending : Fld := ⟨0x044, 6, 1⟩
def fFeLivePeak : Fld := ⟨0x04C, 0, 6⟩
def fFeLiveGain : Fld := ⟨0x04C, 8, 8⟩
def fFeLiveAc : Fld := ⟨0x04C, 18, 1⟩
def fAgcClipExp : Fld := ⟨0x054, 16, 4⟩
def fTrFreq : Fld := ⟨0x05C, 0, 16⟩
def fTrPhase : Fld := ⟨0x05C, 16, 6⟩
def fAdcStep : Fld := ⟨0x060, 0, 2⟩
def fAdcEn : Fld := ⟨0x060, 8, 3⟩
def fLoopback : Fld := ⟨0x0C0, 0, 2⟩
/-- CAL_RESULT of LRXn and LTXn (R81, R136). -/
def fCalApplied : Fld := ⟨0x078, 0, 1⟩
def fCalClamped : Fld := ⟨0x078, 1, 1⟩
def fCalAbandoned : Fld := ⟨0x078, 2, 1⟩
def fCalMeasValid : Fld := ⟨0x078, 3, 1⟩
def fCalReason : Fld := ⟨0x078, 4, 2⟩

/-- The line lane states of LRXn.STATUS.lane_state (R81). -/
def stOff : Nat := 0
def stSeek : Nat := 1
def stTrain : Nat := 2
def stRun : Nat := 3
def stHold : Nat := 4
def stFault : Nat := 5

def Dev.laneState (d : Dev) (n : Lane) : Nat := d.g (pLrx n) fLrxState

/-- The lane delivers a valid output (R93). -/
def Dev.laneValid (d : Dev) (n : Lane) : Bool := d.laneState n == stRun || d.laneState n == stHold

/-! Fields of PACERn (R113) -/

def fPcAuto : Fld := ⟨0x040, 0, 1⟩
def fPcHoldReq : Fld := ⟨0x040, 1, 1⟩
def fLiveBank : Fld := ⟨0x044, 0, 1⟩
def fPcFade : Fld := ⟨0x044, 1, 1⟩
def fPcSwapPending : Fld := ⟨0x044, 2, 1⟩
def fPcTraining : Fld := ⟨0x044, 3, 1⟩
def fHoldSrc : Fld := ⟨0x044, 4, 4⟩
def fHoldGate : Fld := ⟨0x044, 4, 1⟩
def fHoldReload : Fld := ⟨0x044, 5, 1⟩
def fHoldHost : Fld := ⟨0x044, 6, 1⟩
def fHoldEngines : Fld := ⟨0x044, 7, 1⟩
def fHandoffStep : Fld := ⟨0x044, 8, 5⟩
def fMlse16 : Fld := ⟨0x044, 13, 1⟩
def fMargin : Fld := ⟨0x04C, 0, 8⟩
def fSnrMin : Fld := ⟨0x04C, 16, 11⟩
def fOccMin : Fld := ⟨0x050, 0, 6⟩
def fOccMax : Fld := ⟨0x050, 8, 6⟩
def fTransMin : Fld := ⟨0x050, 16, 7⟩
def fFailN : Fld := ⟨0x050, 24, 4⟩
def fPassN : Fld := ⟨0x050, 28, 4⟩
def fZoneExp : Fld := ⟨0x054, 0, 4⟩
def fPaceMax : Fld := ⟨0x058, 0, 3⟩
def fPaceLive : Fld := ⟨0x05C, 0, 3⟩
def fPaceTarget : Fld := ⟨0x05C, 4, 3⟩
def fPaceThermal : Fld := ⟨0x05C, 8, 3⟩
def fPaceBusy : Fld := ⟨0x05C, 12, 1⟩
def fFailLim : Fld := ⟨0x060, 16, 4⟩
def fPhase : Fld := ⟨0x064, 0, 3⟩
def fFails : Fld := ⟨0x064, 8, 4⟩
def fLastMs : Fld := ⟨0x064, 16, 16⟩
def fSoftScale : Fld := ⟨0x068, 0, 4⟩
def fEqMain : Fld := ⟨0x06C, 0, 6⟩
def fSnrRef : Fld := ⟨0x070, 0, 16⟩
def fSnrCand : Fld := ⟨0x070, 16, 16⟩
def fEngines : Fld := ⟨0x074, 0, 7⟩

/-! Pace levels (R89 to R91) -/

/-- FFE taps in use at a pace level (R89). -/
def paceTaps : Nat → Nat
  | 7 => 64 | 6 => 48 | 5 => 48 | 4 => 32 | 3 => 32 | 2 => 32 | 1 => 24 | _ => 16

/-- Volterra terms in use at a pace level (R89). -/
def paceTerms : Nat → Nat
  | 7 => 15 | 6 => 15 | 5 => 9 | 4 => 9 | 3 => 5 | 2 => 5 | _ => 0

/-- The MLSE runs 16 states at a pace level (R89). -/
def paceMlse16 (l : Nat) : Bool := decide (3 ≤ l)

/-- Tap `i` is enabled at a pace level, with main cursor `m` (R90). -/
def tapOn (l m i : Nat) : Bool :=
  let n := paceTaps l
  let lo := (m : Int) - (m * n / 64 : Nat)
  decide (lo ≤ i ∧ (i : Int) < lo + n)

/-- Volterra term `t` is enabled at a pace level (R89). -/
def termOn (l t : Nat) : Bool := decide (t < paceTerms l)

/-- The effective pace level: the lower of the host limit and the thermal level (R91). -/
def Dev.effLevel (d : Dev) (n : Lane) : Nat := min (d.g (pPacer n) fPaceMax) (d.g (pPacer n) fPaceThermal)

/-- The level in the datapath of a lane in TRAIN, by the phase (R91, R94). -/
def Dev.trainLevel (d : Dev) (n : Lane) : Nat :=
  if d.g (pPacer n) fPhase = 4 then min 2 (d.g (pPacer n) fPaceTarget) else d.g (pPacer n) fPaceTarget

/-- The datapath of lane `n` runs at level `l` (R89). -/
def Dev.setLevel (d : Dev) (n : Lane) (l : Nat) : Dev :=
  (d.s (pPacer n) fPaceLive l).sb (pPacer n) fMlse16 (paceMlse16 l)

/-! Banks (R103, R113) -/

/-- The offset of bank A or B. -/
def bankOff (bank : Nat) : Nat := if bank = 0 then 0x400 else 0x800

/-- The offsets of the words of an equaliser bank, from its base (R113). -/
def eqOffs : List Nat :=
  (List.range 64).map (4 * ·) ++ (List.range 15).map (0x100 + 4 * ·) ++ (List.range 64).map (0x140 + 4 * ·)

def Dev.liveBank (d : Dev) (n : Lane) : Nat := d.g (pPacer n) fLiveBank

/-- Writes a coefficient set into a bank. -/
def Dev.putSet (d : Dev) (n : Lane) (bank : Nat) (e : EqSet) : Dev :=
  ((d.wrs (pPacer n) (bankOff bank) e.ffe).wrs (pPacer n) (bankOff bank + 0x100) e.volt).wrs (pPacer n) (bankOff bank + 0x140) e.mlse

/-- The coefficient set that a bank holds. -/
def Dev.getSet (d : Dev) (n : Lane) (bank : Nat) : EqSet :=
  ⟨d.rds (pPacer n) (bankOff bank) 64, d.rds (pPacer n) (bankOff bank + 0x100) 15, d.rds (pPacer n) (bankOff bank + 0x140) 64⟩

/-- Step `s` of a Handoff or cross-fade between two values (R103). -/
def fadeStep (cS cT : Int) (s : Nat) : Int := cS + (cT - cS) * s / 16

/-- The value in use, during a Handoff, of the `w`-bit coefficient at `off` from the base of a bank (R103). -/
def Dev.eqInUse (d : Dev) (n : Lane) (w off : Nat) : Int :=
  let s := d.g (pPacer n) fHandoffStep
  let live := d.liveBank n
  let cS := signed w (d.rd (pPacer n) (bankOff live + off)).toNat
  if s = 0 then cS else fadeStep cS (signed w (d.rd (pPacer n) (bankOff (1 - live) + off)).toNat) s

/-- Half-to-even rounding of a quotient. -/
def roundHalfEven (num : Int) (den : Nat) : Int :=
  let q := num / den
  let r := num - q * den
  if 2 * r < den then q else if (den : Int) < 2 * r then q + 1 else if q % 2 = 0 then q else q + 1

/-- Averages the four entries that differ in c, for the change to 4 states (R106). -/
def mlseTo4 (e : List Word) : List Word :=
  (List.range 64).map fun j =>
    let b := j / 4 * 4
    let v (i : Nat) : Int := signed 10 ((e.getD (b + i) 0).toNat)
    BitVec.ofNat 32 (unsigned 10 (roundHalfEven (v 0 + v 1 + v 2 + v 3) 4))

/-- Spreads the entries with c = 0, for the change to 16 states (R107). -/
def mlseTo16 (e : List Word) : List Word := (List.range 64).map fun j => e.getD (j / 4 * 4) 0

/-- A pace target is built in the inactive bank from the live set, and PARK takes the terms that the new level removes (R106,
R107, R109). -/
def Dev.buildTarget (d : Dev) (n : Lane) (level : Nat) : Dev :=
  let p := pPacer n
  let old := d.g p fPaceLive
  let m := (d.pc n).main
  let live := d.getSet n (d.liveBank n)
  let on (old' : Bool) (new' : Bool) (x park : Word) : Word := if new' then (if old' then x else park) else (if old' then 0 else x)
  let ffe := (List.range 64).map fun i => on (tapOn old m i) (tapOn level m i) (live.ffe.getD i 0) (d.rd p (0xC00 + 4 * i))
  let volt := (List.range 15).map fun t => on (termOn old t) (termOn level t) (live.volt.getD t 0) (d.rd p (0xD00 + 4 * t))
  let mlse := if paceMlse16 old && !paceMlse16 level then mlseTo4 live.mlse
    else if !paceMlse16 old && paceMlse16 level then mlseTo16 live.mlse else live.mlse
  let park (old' new' : Bool) (x q : Word) : Word := if old' && !new' then x else q
  let pf := (List.range 64).map fun i => park (tapOn old m i) (tapOn level m i) (live.ffe.getD i 0) (d.rd p (0xC00 + 4 * i))
  let pv := (List.range 15).map fun t => park (termOn old t) (termOn level t) (live.volt.getD t 0) (d.rd p (0xD00 + 4 * t))
  ((d.putSet n (1 - d.liveBank n) ⟨ffe, volt, mlse⟩).wrs p 0xC00 pf).wrs p 0xD00 pv

/-- A newly trained coefficient set: its values are free (R12, R96, R98). -/
def trainedSet (k : Nat) : EqSet :=
  ⟨(List.range 64).map fun i => (Config.trained k i).zeroExtend 32,
   (List.range 15).map fun t => (Config.trained k (64 + t)).zeroExtend 32,
   (List.range 64).map fun j => ((Config.trained k (79 + j)).truncate 10).zeroExtend 32⟩

/-! Calibration of the converters (R68 to R75, R130 to R132, R265) -/

/-- THERMAL.TEMP[i].used and state (R273). -/
def fTempUsed (i : Nat) : Fld := ⟨0x080 + 4 * i, 16, 12⟩
def fTempState (i : Nat) : Fld := ⟨0x080 + 4 * i, 30, 2⟩
/-- CAL.REF_TEMP[n] (R274). -/
def fRefLrx (n : Lane) : Fld := ⟨0x050 + 4 * n.val, 0, 12⟩
def fRefLtx (n : Lane) : Fld := ⟨0x050 + 4 * n.val, 16, 12⟩
def fAutoStore : Fld := ⟨0x044, 8, 1⟩
def fStorePending : Fld := ⟨0x04C, 1, 1⟩

/-- A run of a lane has reached step 5: its reference takes the used value of sensor `n` (R265); a sensor that is OFF has none. -/
def Dev.calReference (d : Dev) (n : Lane) (ref : Fld) : Dev :=
  d.when (d.g 0x06 (fTempState n.val) != 3) fun d => d.s 0x17 ref (d.g 0x06 (fTempUsed n.val))

/-- A run has applied: with auto_store, a store write is due (R268). -/
def Dev.calStoreMark (d : Dev) : Dev := d.when (d.b 0x17 fAutoStore) (·.sb 0x17 fStorePending true)

/-- One field of a correction word after a run: its target, or a move toward it by at most the limit (R69, R130). -/
def calMove (mode w limit : Nat) (live target : Int) : Int × Bool :=
  if mode = 1 then
    if (limit : Int) < target - live then (live + limit, true)
    else if (limit : Int) < live - target then (live - limit, true)
    else (target, false)
  else (target, let _ := w; false)

/-- A SLICE_COR word after a run that applies (R66, R69, R72): excluded fields keep their values. -/
def sliceMove (r : CalRun) (live target : Word) : Word × Bool :=
  let f (k lo w : Nat) (acc : Word × Bool) : Word × Bool :=
    if r.en.testBit k then
      let m := calMove r.mode w (getBits r.limit (8 * k) 8) (signed w (getBits live lo w)) (signed w (getBits target lo w))
      (setBits acc.1 lo w (unsigned w m.1), acc.2 || m.2)
    else acc
  f 2 20 8 (f 1 10 10 (f 0 0 10 (live &&& 0x0FFFFFFF, false)))

/-- A request for a run of LRXn (R68, R75): it merges with a pending one, and outside RUN it is deferred. -/
def Dev.lrxCalRequest (d : Dev) (n : Lane) : Dev :=
  let was := d.b (pLrx n) fLrxCalPending
  let d := d.sb (pLrx n) fLrxCalPending true
  d.raiseIf (!was && d.laneState n != stRun) (pLrx n) 8

/-- CAL_RESULT after an abandoned run: meas_valid and clamped stay (R75, R81). -/
def Dev.calResultAbandoned (d : Dev) (p reason : Nat) : Dev :=
  ((d.sb p fCalAbandoned true).sb p fCalApplied false).s p fCalReason reason

/-- The run of LRXn in progress is abandoned, with a reason; `keep` says whether its request stays pending (R73, R75). -/
def Dev.lrxCalAbandon (d : Dev) (n : Lane) (reason : Nat) (keep : Bool) : Dev :=
  match (d.lx n).run with
  | none => d
  | some r =>
    let d := d.updLrx n fun h => { h with run := none }
    let d := d.sb (pLrx n) fLrxCalBusy false
    let d := d.calResultAbandoned (pLrx n) reason
    let d := d.when (keep && !r.forced) (·.sb (pLrx n) fLrxCalPending true)
    d.raise (pLrx n) 6

/-- The run and the pending request are discarded without an event (R75). -/
def Dev.lrxCalDiscard (d : Dev) (n : Lane) : Dev :=
  ((d.updLrx n fun h => { h with run := none }).sb (pLrx n) fLrxCalBusy false).sb (pLrx n) fLrxCalPending false

/-! Swaps and pace changes (R53, R104, R106 to R108) -/

/-- The Pacer holds no candidate and no deferred candidate any more (R27, R92, R106). A host swap stays deferred (R110). -/
def Dev.dropCandidate (d : Dev) (n : Lane) : Dev :=
  match (d.pc n).pend with
  | some (.candidate _) => (d.updPacer n fun h => { h with cand := none, pend := none }).sb (pPacer n) fPcSwapPending false
  | _ => d.updPacer n fun h => { h with cand := none }

/-- A deferred swap of any kind is discarded (R102). -/
def Dev.dropPending (d : Dev) (n : Lane) : Dev :=
  (d.updPacer n fun h => { h with pend := none }).sb (pPacer n) fPcSwapPending false

/-- A swap starts at the next block boundary: a candidate is written to the inactive bank, and a Handoff is requested (R104). -/
def Dev.startSwap (d : Dev) (n : Lane) (w : Swap) : Dev :=
  let d := match w with
    | .candidate e => d.putSet n (1 - d.liveBank n) e
    | .manual => d
  d.updPacer n fun h => { h with req := true }

/-- A Handoff is in progress or about to start. -/
def Dev.swapBusy (d : Dev) (n : Lane) : Bool := (d.pc n).req || (d.pc n).fade.isSome

/-- A swap request: deferred while a Handoff or a pace change is in progress; a newer one replaces a deferred one (R53, R104, R110). -/
def Dev.requestSwap (d : Dev) (n : Lane) (w : Swap) : Dev :=
  if d.swapBusy n || (d.pc n).pace.isSome then
    let replaced := (d.pc n).pend.isSome
    let d := (d.updPacer n fun h => { h with pend := some w }).sb (pPacer n) fPcSwapPending true
    if replaced then (d.inc (pPacer n) 0x080).raise (pPacer n) 3 else d
  else d.startSwap n w

/-- A deferred swap starts, if nothing is in its way (R104, R110). -/
def Dev.startDeferred (d : Dev) (n : Lane) : Dev :=
  if d.swapBusy n || (d.pc n).pace.isSome then d else
  match (d.pc n).pend with
  | none => d
  | some w => (d.dropPending n).startSwap n w

/-- The pace change ends without pace_applied: replaced by the live level before its step 2, or cut off by the lane state. -/
def Dev.paceDrop (d : Dev) (n : Lane) : Dev := (d.updPacer n fun h => { h with pace := none }).sb (pPacer n) fPaceBusy false

/-- In RUN or HOLD, a pace change starts from step 1 with the newest effective level, or replaces one that has not begun its step 2
(R27, R106 to R108). -/
def Dev.paceStart (d : Dev) (n : Lane) : Dev :=
  let tgt := d.g (pPacer n) fPaceTarget
  let cur := d.g (pPacer n) fPaceLive
  let replaceable := match (d.pc n).pace with
    | none => true
    | some ⟨.waiting _, _⟩ => true
    | some _ => false
  if !replaceable then d
  else if tgt = cur then (d.paceDrop n).startDeferred n
  else
    let d := (d.updPacer n fun h => { h with pace := some ⟨.waiting (decide (tgt < cur)), tgt⟩ }).sb (pPacer n) fPaceBusy true
    d.dropCandidate n

/-- An input of the effective level has changed (R91). -/
def Dev.paceUpdate (d : Dev) (n : Lane) : Dev :=
  let p := pPacer n
  if d.effLevel n = d.g p fPaceTarget then d else
  let d := d.s p fPaceTarget (d.effLevel n)
  if d.laneState n = stTrain then d.setLevel n (d.trainLevel n)
  else if d.laneValid n then d.paceStart n
  else d

end Sys2Proof.Machine
end

