-- ==== Sys2Proof/Machine/Lanes.lean ====
section
/-! DEFINITION. The states of a line lane and the transitions between them (R92 to R96, R101, R102, R105), with what each does to the Pacer, to calibration and to the blocks that follow the lane. -/

namespace Sys2Proof.Machine

/-! What follows a lane -/

/-- The applied coding mode of lane `n` is Segmented (R21, R23). -/
def Dev.segmented (d : Dev) (n : Lane) : Bool := (d.lrd 0x44 0x040).getLsbD (16 + n.val)

/-- STREAM_CFG[s] as applied, and STREAM_STATUS[s].lane_inv (R253). -/
def fStrEn (s : Nat) : Fld := ⟨0x060 + 4 * s, 0, 1⟩
def fStrSide (s : Nat) : Fld := ⟨0x060 + 4 * s, 1, 1⟩
def fStrLane (s : Nat) : Fld := ⟨0x060 + 4 * s, 2, 3⟩
def fStrInv (s : Nat) : Fld := ⟨0x080 + 4 * s, 28, 1⟩
def fCapState : Fld := ⟨0x044, 0, 3⟩

/-- The source lane of a stream leaves RUN and HOLD during a capture (R251). Side 0 is the line side. -/
def Dev.captureLaneLeft (d : Dev) (side : Nat) (n : Lane) : Dev :=
  if d.g 0x12 fCapState == 1 || d.g 0x12 fCapState == 2 then
    (List.range 8).foldl (fun d s =>
      d.when (d.lg 0x12 (fStrEn s) == 1 && d.lg 0x12 (fStrSide s) == side && d.lg 0x12 (fStrLane s) == n.val)
        (·.sb 0x12 (fStrInv s) true)) d
  else d

/-! Leaving the states in which the Pacer works -/

/-- The Pacer of lane `n` stops: the Handoff stops, and the pending candidate, the deferred swap and the pace change go (R92,
R105). -/
def Dev.pacerStop (d : Dev) (n : Lane) : Dev :=
  let p := pPacer n
  let d := d.updPacer n fun h => { h with cand := none, pend := none, req := false, fade := none, pace := none,
                                          search := none, accepted := false }
  ((((d.sb p fPcFade false).s p fHandoffStep 0).sb p fPcSwapPending false).sb p fPaceBusy false)
    |>.s p fPhase 0 |>.sb p fPcTraining false

/-- A lane leaves TRAIN, RUN or HOLD: the Pacer stops, a calibration run is abandoned, and a transmitter that follows the lane
holds its last rate (R75, R92, R197, R251). -/
def Dev.laneStop (d : Dev) (n : Lane) (reason : Nat) : Dev :=
  let d := d.when (d.laneValid n) (·.captureLaneLeft 0 n)
  let d := d.lrxCalAbandon n reason (d.laneState n != stTrain)
  (d.pacerStop n).updHtx n fun h => { h with glide := false }

def Dev.laneTo (d : Dev) (n : Lane) (st : Nat) : Dev := d.s (pLrx n) fLrxState st

/-- The lane enters SEEK from any state but OFF (R92). -/
def Dev.laneSeek (d : Dev) (n : Lane) (reason : Nat) : Dev := (d.laneStop n reason).laneTo n stSeek

/-- The lane enters TRAIN at phase 1: the front end takes its settings, the main cursor its tap, the counters go to 0, and the
training calibration merges a pending request (R58, R73, R84, R91, R94, R113). -/
def Dev.laneTrain (d : Dev) (n : Lane) : Dev :=
  let p := pPacer n
  let l := pLrx n
  let d := d.laneTo n stTrain
  let d := d.wr l 0x04C (d.rd l 0x048)
  let d := d.updLrx n fun h => { h with feTaken := d.rd l 0x048, invTaken := d.g l fLrxInvert }
  let d := d.updPacer n fun h => { h with main := d.g p fEqMain, cand := none, pend := none, failRun := 0, passRun := 0,
                                          accepted := false }
  let d := d.sb l fLrxCalPending false
  let d := d.wrs p 0x078 [0, 0, 0, 0, 0, 0]
  let d := (d.s p fPhase 1).sb p fPcTraining true
  d.setLevel n (d.g p fPaceTarget)

/-- The engines serve the lane: neither the reload nor the engines reason holds (R102). -/
def Dev.enginesHere (d : Dev) (n : Lane) : Bool := !d.b (pPacer n) fHoldReload && !d.b (pPacer n) fHoldEngines

/-- Training moves to phase `k`; with fe_manual, phases 2 and 5 are skipped. Phase 4 loads the initial set and clears PARK
(R94, R109). -/
def Dev.trainPhase (d : Dev) (n : Lane) (k : Nat) (snr : Nat) : Dev :=
  let p := pPacer n
  let k := if d.b (pLrx n) fLrxFeManual && (k == 2 || k == 5) then k + 1 else k
  let d := d.s p fPhase k
  let d := d.sb p fPcTraining (d.enginesHere n || decide (k ≤ 3))
  let d := d.setLevel n (d.trainLevel n)
  if k = 4 then
    let ffe := (List.range 64).map fun i => if i = (d.pc n).main then (1024 : Word) else 0
    let volt := (List.range 15).map fun _ => (0 : Word)
    let mlse := (List.range 64).map fun j => (Config.nominalMlse j).zeroExtend 32
    let d := d.putSet n (d.liveBank n) ⟨ffe, volt, mlse⟩
    (d.wrs p 0xC00 (List.replicate 64 0)).wrs p 0xD00 (List.replicate 15 0)
  else if k = 5 then
    let s0 := d.g (pLrx n) fFeLivePeak
    let d := d.updPacer n fun h => { h with search := some ⟨s0, snr, s0, snr, snr, if s0 = 24 then .down else .up⟩ }
    d.s (pLrx n) fFeLivePeak (if s0 = 24 then 23 else s0 + 1)
  else d

/-! HOLD -/

/-- RUN and HOLD follow the hold reasons (R92, R102): on entry to HOLD a pending swap goes and a run is abandoned; back in RUN the
Pacer resumes from the live set. -/
def Dev.holdUpdate (d : Dev) (n : Lane) : Dev :=
  let any := d.g (pPacer n) fHoldSrc != 0
  if d.laneState n = stRun ∧ any then ((d.lrxCalAbandon n 1 true).dropPending n).laneTo n stHold
  else if d.laneState n = stHold ∧ !any then (d.updPacer n fun h => { h with cand := none }).laneTo n stRun
  else d

/-- A hold reason sets or clears (R102). In TRAIN the engines reason pauses the training phases from 4 on. -/
def Dev.setHold (d : Dev) (n : Lane) (f : Fld) (on : Bool) : Dev :=
  let p := pPacer n
  if d.b p f = on then d else
  let had := d.enginesHere n
  let d := d.sb p f on
  let lost := had && !d.enginesHere n && d.laneState n == stTrain
  let d := d.raiseIf ((on && f == fHoldEngines) || lost) p 8
  let d := d.when (d.laneState n == stTrain) fun d => d.sb p fPcTraining (d.enginesHere n || decide (d.g p fPhase ≤ 3))
  d.holdUpdate n

/-- The lane enters RUN from TRAIN: PACERn is ready, first_accept is raised, and in Concatenated mode HTXn glides to the followed
rate (R92, R96, R197). -/
def Dev.laneRun (d : Dev) (n : Lane) (ms : Nat) : Dev :=
  let p := pPacer n
  let d := d.laneTo n stRun
  let d := ((d.s p fPhase 0).sb p fPcTraining false).s p fFails 0
  let d := d.s p fLastMs (min ms 65535)
  let d := (d.updPacer n fun h => { h with accepted := true, search := none, failRun := 0, passRun := 0 }).raise p 0
  let d := d.when (!d.segmented n) (·.updHtx n fun h => { h with glide := true })
  let d := d.when (d.g p fPaceTarget != d.g p fPaceLive) (·.paceStart n)
  d.holdUpdate n

/-- The lane goes to OFF at once: signal detect and timing recovery are off, without events; the run and the pending request are
discarded (R62, R75, R92). -/
def Dev.laneOff (d : Dev) (n : Lane) : Dev :=
  let d := d.when (d.laneValid n) (·.captureLaneLeft 0 n)
  let d := (d.lrxCalDiscard n).pacerStop n
  let d := d.updHtx n fun h => { h with glide := false }
  ((d.laneTo n stOff).sb (pLrx n) fLrxSigDet false).sb (pLrx n) fLrxCdrLock false

/-- The signal is there and the lane is in SEEK: it enters TRAIN, and phase 1 ends at once where timing is locked (R92, R94). -/
def Dev.laneTryTrain (d : Dev) (n : Lane) : Dev :=
  if d.laneState n = stSeek ∧ d.b (pLrx n) fLrxSigDet then
    let d := d.laneTrain n
    if d.b (pLrx n) fLrxCdrLock then d.trainPhase n 2 0 else d
  else d

/-- Signal detect and timing recovery as a near-end parallel loopback sets them (R62, R64). -/
def Dev.lanePar (d : Dev) (n : Lane) : Dev :=
  let par := d.lg (pLrx n) fLoopback == 2
  (d.sb (pLrx n) fLrxSigDet par).sb (pLrx n) fLrxCdrLock par

/-- en written 1: OFF to SEEK (R92). -/
def Dev.laneEnable (d : Dev) (n : Lane) : Dev :=
  if d.laneState n = stOff then (d.laneTo n stSeek).lanePar n else d

/-- The lane restarts from SEEK, if it is enabled (R25, R79, R92). -/
def Dev.laneRestart (d : Dev) (n : Lane) (reason : Nat) : Dev :=
  if d.laneState n = stOff then d else (d.laneSeek n reason).lanePar n

end Sys2Proof.Machine
end

