-- ==== Sys2Proof/Machine/Mem.lean ====
section
/-! DEFINITION. The byte memories of the management address space (R36), their error-correcting words (R313 to R318, R320) and the voted words (R322, R323). -/

namespace Sys2Proof.Machine

/-! Bytes and words -/

/-- What a byte that nothing has written reads as: 0xFF in the flash window, 0x00 elsewhere. -/
def memBlank (a : Nat) : Byte := if 0x03000000 ≤ a ∧ a < 0x04000000 then 0xFF else 0

def memGet (m : List Host.Cell) (a : Nat) : Byte := tabGet memBlank a m
def memSet (m : List Host.Cell) (a : Nat) (b : Byte) : List Host.Cell := tabSet memBlank a b m

/-- The canonical form of the memory. -/
abbrev memWf (m : List Host.Cell) : Bool := tabWf memBlank m

/-- The word at `a`, its lowest byte at the lowest address. -/
def memWord (m : List Host.Cell) (a : Nat) : Word := memGet m (a + 3) ++ memGet m (a + 2) ++ memGet m (a + 1) ++ memGet m a

def memSetWord (m : List Host.Cell) (a : Nat) (w : Word) : List Host.Cell :=
  memSet (memSet (memSet (memSet m a (w.extractLsb' 0 8)) (a + 1) (w.extractLsb' 8 8)) (a + 2) (w.extractLsb' 16 8))
    (a + 3) (w.extractLsb' 24 8)

/-- Bytes written from `a` on. -/
def memSetBytes (m : List Host.Cell) (a : Nat) : List Byte → List Host.Cell
  | [] => m
  | b :: t => memSetBytes (memSet m a b) (a + 1) t

def memBytes (m : List Host.Cell) (a : Nat) : Nat → List Byte
  | 0 => []
  | n + 1 => memGet m a :: memBytes m (a + 1) n

/-- The `n` bytes from `a` on read as nothing written. -/
def memForget (m : List Host.Cell) (a n : Nat) : List Host.Cell := tabKeep (fun k => !(decide (a ≤ k) && decide (k < a + n))) m

/-- The `n` bytes from `src` on are copied to `dst`; the ranges are disjoint and read the same where nothing is written. -/
def memCopy (m : List Host.Cell) (src dst n : Nat) : List Host.Cell :=
  (m.filter fun c => decide (src ≤ c.1) && decide (c.1 < src + n)).foldl (fun m c => memSet m (c.1 - src + dst) c.2)
    (memForget m dst n)

/-! The regions of R314 -/

/-- The Squad windows of R36. -/
def squadWindow (n : Nat) : Nat := 0x01000000 + n * 0x00100000
def sramBase : Nat := 0x00200000
def captureBase : Nat := 0x00400000
def tkRamBase : Nat := 0x02000000
def flashBase : Nat := 0x03000000

/-- The place of a protected word that has no management address: a word of a buffer of page `p`. -/
def hiddenLoc (p idx : Nat) : Nat := 2 ^ 32 + p * 2 ^ 20 + idx

/-- The page whose memory holds a word that lies in register page `p` at `off`: LRXn for the PACER banks (R111). -/
def lanePage (p off : Nat) : Option (Nat × Nat) :=
  match kindOf p with
  | some .mbox => if 0x400 ≤ off then some (2, 0x14) else none
  | some .pacer => if 0x400 ≤ off then some (20, p - 0x60 + 0x20) else none
  | some .lrx | some .ltx => if 0x400 ≤ off then some (20, p) else none
  | some .hrx => if 0x100 ≤ off then some (21, p) else none
  | some .filter => if 0x400 ≤ off then some (23, p) else none
  | _ => none

/-- The scrub region of a word and the page on which its errors are reported (R314). -/
def regionOf (loc : Nat) : Option (Nat × Nat) :=
  if 2 ^ 32 ≤ loc then
    let p := (loc - 2 ^ 32) / 2 ^ 20
    let i := (loc - 2 ^ 32) % 2 ^ 20
    match kindOf p with
    | some .ltx | some .lrx => if i < 896 then some (20, p) else none
    | some .hrx => if i < 64 then some (21, p) else none
    | some .fecLtx | some .fecLrx | some .fecHrx | some .fecHtx => if i < 16384 then some (22, p) else none
    | some .filter => if i < 256 then some (23, p) else none
    | _ => none
  else if 0x00100000 ≤ loc ∧ loc < 0x00200000 then lanePage ((loc - 0x00100000) / 4096) (loc % 4096)
  else if 0x00200000 ≤ loc ∧ loc < 0x00300000 then some (0, 0x14)
  else if 0x00400000 ≤ loc ∧ loc < 0x00600000 then some (19, 0x12)
  else if 0x01000000 ≤ loc ∧ loc < 0x02000000 then
    if loc % 0x00100000 < 0x000C0000 then some (3 + (loc - 0x01000000) / 0x00100000, 0x50 + (loc - 0x01000000) / 0x00100000) else none
  else if 0x02000000 ≤ loc ∧ loc < 0x02002000 then some (1, 0x14)
  else none

/-- The source of ecc_corr on the page of a region; ecc_uncorr is the next source. -/
def eccSource (region p : Nat) : Nat :=
  match kindOf p with
  | some .scrub => 2 + 2 * region
  | some .lrx | some .ltx => 13
  | some .hrx => 10
  | some .fecLtx | some .squad => 2
  | some .fecLrx => 8
  | some .fecHrx | some .filter => 4
  | some .fecHtx => 3
  | some .capture => 7
  | _ => 31

/-- The words of a scrub region (R314). -/
def regionWords (r : Nat) : Nat :=
  if r = 0 then 262144 else if r = 1 then 2048 else if r = 2 then 256 else if r ≤ 18 then 196608
  else [524288, 32768, 8192, 65536, 1024].getD (r - 19) 0

/-- Word `i` of a scrub region. A line lane has 4,096 words: the memories of its LRX, LTX and PACER pages, then those without an
address; a host lane has 1,024, a coding page 16,384. -/
def regionLoc (r i : Nat) : Nat :=
  if r = 0 then sramBase + 4 * i
  else if r = 1 then tkRamBase + 4 * i
  else if r = 2 then regAddr 0x0A (0x400 + 4 * i)
  else if r ≤ 18 then squadWindow (r - 3) + 4 * i
  else if r = 19 then captureBase + 4 * i
  else if r = 20 then
    let n := i / 4096
    let k := i % 4096
    if k < 768 then regAddr (0x20 + n) (0x400 + 4 * k)
    else if k < 1536 then regAddr (0x28 + n) (0x400 + 4 * (k - 768))
    else if k < 2304 then regAddr (0x60 + n) (0x400 + 4 * (k - 1536))
    else if k < 3200 then hiddenLoc (0x20 + n) (k - 2304)
    else hiddenLoc (0x28 + n) (k - 3200)
  else if r = 21 then
    let k := i % 1024
    if k < 960 then regAddr (0x30 + i / 1024) (0x100 + 4 * k) else hiddenLoc (0x30 + i / 1024) (k - 960)
  else if r = 22 then hiddenLoc (0x40 + i / 16384) (i % 16384)
  else if i < 768 then regAddr 0x10 (0x400 + 4 * i)
  else hiddenLoc 0x10 (i - 768)

/-! Errors of words -/

def eccBlank : Nat → Ecc := fun _ => ⟨0, false⟩

def Dev.eccAt (d : Dev) (loc : Nat) : Ecc := tabGet eccBlank loc d.ecc
def Dev.setEcc (d : Dev) (loc : Nat) (e : Ecc) : Dev := { d with ecc := tabSet eccBlank loc e d.ecc }

/-- How many bits of a word are flipped. -/
def Ecc.count (e : Ecc) : Nat := ((List.range 39).filter fun i => e.flips.getLsbD i).length

/-- A read finds the word uncorrectable: poisoned, or with two or more flipped bits (R313, R320). -/
def Ecc.uncorr (e : Ecc) : Bool := e.poison || decide (2 ≤ e.count)

/-- A read corrects the word (R313). -/
def Ecc.corr (e : Ecc) : Bool := !e.poison && e.count == 1

/-- The flipped data bits. -/
def Ecc.mask (e : Ecc) : Word := e.flips.truncate 32

/-- The errors of the `n` bytes from `a` on are gone (R318). -/
def Dev.eccForget (d : Dev) (a n : Nat) : Dev :=
  { d with ecc := tabKeep (fun k => !(decide (a ≤ k) && decide (k < a + n))) d.ecc }

/-- SCRUB.LAST_ERR and LAST_ERR_ADDR record a word (R326). -/
def Dev.lastErr (d : Dev) (loc master : Nat) (e : Ecc) : Dev :=
  let region := ((regionOf loc).map (·.1)).getD 0
  let addr := if 2 ^ 32 ≤ loc then loc % 2 ^ 20 else loc
  let d := d.wr 0x14 0x070 (BitVec.ofNat 32 addr)
  ((((d.s 0x14 ⟨0x074, 24, 5⟩ region).s 0x14 ⟨0x074, 16, 8⟩ master).s 0x14 ⟨0x074, 2, 7⟩ (Config.syndrome e.flips).toNat)
    |>.sb 0x14 ⟨0x074, 1, 1⟩ e.poison).sb 0x14 ⟨0x074, 0, 1⟩ e.uncorr

/-- A demand read of a word by a master, 0xFF for lane, coding and filter hardware (R315, R316). -/
def Dev.demandRead (d : Dev) (loc master : Nat) : Dev :=
  let e := d.eccAt loc
  match regionOf loc with
  | none => d
  | some (region, p) =>
    if e.uncorr then ((d.inc 0x14 0x06C).lastErr loc master e).raise p (eccSource region p + 1)
    else if e.corr then ((d.inc 0x14 0x068).lastErr loc master e).raise p (eccSource region p)
    else d

/-! Memory of the state -/

def State.word (s : State) (a : Nat) : Word := memWord s.mem a

/-- A full-word write (R318). -/
def State.setWord (s : State) (a : Nat) (w : Word) : State :=
  { s with mem := memSetWord s.mem a w, dev := s.dev.eccForget a 4 }

/-- The memory from `a` on is cleared or lost. -/
def State.forget (s : State) (a n : Nat) : State := { s with mem := memForget s.mem a n, dev := s.dev.eccForget a n }

def State.copy (s : State) (src dst n : Nat) : State := { s with mem := memCopy s.mem src dst n, dev := s.dev.eccForget dst n }

/-- A bit of the word at `loc` flips (R313). What a read delivers changes where the word becomes, is, or stops being uncorrectable. -/
def State.flip (s : State) (loc bit : Nat) : State :=
  if (regionOf loc).isNone ∨ 39 ≤ bit then s else
  let e := s.dev.eccAt loc
  let e' : Ecc := { e with flips := e.flips ^^^ BitVec.twoPow 39 bit }
  let diff : Word := (if e.uncorr then e.mask else 0) ^^^ (if e'.uncorr then e'.mask else 0)
  let s :=
    if 2 ^ 32 ≤ loc then s
    else if 0x00100000 ≤ loc ∧ loc < 0x00200000 then
      let p := (loc - 0x00100000) / 4096
      { s with dev := s.dev.wr p (loc % 4096) (s.dev.rd p (loc % 4096) ^^^ diff) }
    else s.setWord loc (s.word loc ^^^ diff)
  { s with dev := s.dev.setEcc loc e' }

/-! Voted words (R322, R323) -/

def votesBlank : Nat → Votes := fun _ => ⟨0, 0, 0⟩

/-- The bits in which the majority differs from what was written. -/
def Votes.majority (v : Votes) : Word := (v.a &&& v.b) ||| (v.a &&& v.c) ||| (v.b &&& v.c)

/-- The five voted words: the register that holds each, and whether it is the applied value of a shadow register (R322). -/
def votedAt (i : Nat) : Nat × Nat × Bool :=
  [(0x07, 0x040, false), (0x07, 0x044, false), (0x08, 0x044, false), (0x06, 0x040, true), (0x06, 0x044, true)].getD i (0, 0, false)

/-- The bits of the register that belong to the voted word `i` (R322): LC.state, KEY_STATUS, the latched BOOT_SEL and the active slot,
t_pace, and thr with hyst. -/
def voteBits (i : Nat) : Word := [0x7, 0xFF, 0x310, 0xFFF, 0xF0FFF].getD i 0

/-- What the voted word `i` reads as changes by a mask. -/
def Dev.voteXor (d : Dev) (i : Nat) (m : Word) : Dev :=
  let v := votedAt i
  if v.2.2 then d.lwr v.1 v.2.1 (d.lrd v.1 v.2.1 ^^^ m) else d.wr v.1 v.2.1 (d.rd v.1 v.2.1 ^^^ m)

/-- One copy of a voted word flips a bit (R323). -/
def Dev.voteFlip (d : Dev) (i copy bit : Nat) : Dev :=
  if !(voteBits i).getLsbD bit then d else
  let v := tabGet votesBlank i d.votes
  let b := BitVec.twoPow 32 bit
  let v' : Votes := if copy = 0 then { v with a := v.a ^^^ b } else if copy = 1 then { v with b := v.b ^^^ b } else { v with c := v.c ^^^ b }
  { d.voteXor i (v.majority ^^^ v'.majority) with votes := tabSet votesBlank i v' d.votes }

/-- A voted word is written: all three copies take the value (R322). -/
def Dev.voteWrite (d : Dev) (i : Nat) : Dev := { d with votes := tabErase i d.votes }

/-- A voted word is read: disagreeing copies are repaired (R323). -/
def Dev.voteRead (d : Dev) (i : Nat) : Dev :=
  let v := tabGet votesBlank i d.votes
  if v.a = v.b ∧ v.b = v.c then d
  else (((d.voteWrite i).inc 0x14 0x078).s 0x14 ⟨0x07C, 0, 3⟩ i).raise 0x14 8

end Sys2Proof.Machine
end

