-- ==== Sys2Proof/Machine/Service.lean ====
section
/-! DEFINITION. What the blocks share of the Squads (R206 to R227) and of the Time trial (R429 to R437): fields, the loans in effect, the engine map, and the run of a test with its preconditions, suspension and judging. -/

namespace Sys2Proof.Machine

/-! Squads -/

def fAutoRecover : Fld := ⟨0x040, 2, 1⟩
def fSqState : Fld := ⟨0x044, 0, 3⟩
def fTrapCount : Fld := ⟨0x048, 16, 8⟩
def fTrapEngine : Fld := ⟨0x048, 8, 6⟩
def fTrapCause : Fld := ⟨0x048, 0, 3⟩
def fReloadCount : Fld := ⟨0x058, 16, 16⟩
def fReloadQueued : Fld := ⟨0x058, 2, 1⟩
def fReloadResult : Fld := ⟨0x058, 0, 2⟩
def fLendPacer : Fld := ⟨0x060, 16, 3⟩
def fLendCount : Fld := ⟨0x060, 0, 6⟩
def fRefused : Fld := ⟨0x064, 24, 1⟩
def fDmaState (c : Nat) : Fld := ⟨0x070 + 4 * c, 0, 2⟩
def fDmaCause (c : Nat) : Fld := ⟨0x070 + 4 * c, 2, 2⟩
def fCmdOp : Fld := ⟨0x0A0, 0, 8⟩
def fCmdTag : Fld := ⟨0x0A0, 8, 8⟩
def fCmdLastTag : Fld := ⟨0x0B4, 16, 8⟩
def fCmdCode : Fld := ⟨0x0B4, 8, 4⟩
def fCmdCollide : Fld := ⟨0x0B4, 1, 1⟩
def fCmdBusy : Fld := ⟨0x0B4, 0, 1⟩

/-- The Squad states of STATE.state (R207). -/
def sqOff : Nat := 0
def sqLoading : Nat := 1
def sqRunning : Nat := 2
def sqHalted : Nat := 3
def sqTrapped : Nat := 4
def sqReloading : Nat := 5

def Dev.sqState (d : Dev) (n : Sq) : Nat := d.g (pSquad n) fSqState
def Dev.sqRuns (d : Dev) (n : Sq) : Bool := d.sqState n == sqRunning

/-- The master ID of a Squad (R41). -/
def sqMaster (n : Sq) : Nat := 16 + n.val

/-- The lane of a Squad: line lane n of Squads 0 to 7, host lane n - 8 of Squads 8 to 15 (R206). -/
def sqLane (n : Sq) : Lane := Fin.ofNat 8 n.val

/-- The line Squad of lane `n`. -/
def lineSq (n : Lane) : Sq := ⟨n.val, by omega⟩
def hostSq (n : Lane) : Sq := ⟨8 + n.val, by omega⟩

/-- The host Squads in rising number. -/
def hostSquads : List Sq := [8, 9, 10, 11, 12, 13, 14, 15]

/-- The loan in effect of host Squad `n`: only while it is RUNNING (R222). -/
def Dev.loanLive (d : Dev) (n : Sq) : Option Loan := if d.sqRuns n then (d.sq n).lent else none

/-- Engines lent to the Pacer of lane `q`. -/
def Dev.lentTo (d : Dev) (q : Lane) : Nat :=
  (hostSquads.map fun h => match d.loanLive h with
    | some l => if l.pacer = q.val then l.count else 0
    | none => 0).sum

/-! TRIAL (R440) -/

def pTrial : Nat := 0x15
def fTrBusy : Fld := ⟨0x048, 31, 1⟩
def fTrSusp : Fld := ⟨0x048, 16, 8⟩
def fTrRefuse : Fld := ⟨0x048, 8, 4⟩
def fTrTest : Fld := ⟨0x048, 4, 4⟩
def fTrEcc : Fld := ⟨0x048, 3, 1⟩
def fTrResult : Fld := ⟨0x048, 0, 3⟩

def Dev.trialRuns (d : Dev) (test : Nat) : Bool := d.b pTrial fTrBusy && d.g pTrial fTrTest == test
def Dev.trialInst (d : Dev) : Nat := getBits d.trial.target 0 4
def Dev.trialEngine (d : Dev) : Nat := getBits d.trial.target 8 6
def Dev.trialMask (d : Dev) : Nat := getBits d.trial.target 16 8

/-- Engine `e` of Squad `n` is held by the Time trial (R225, R429). -/
def Dev.inTrial (d : Dev) (n : Sq) (e : Nat) : Bool := d.trialRuns 3 && d.trialInst == n.val && d.trialEngine == e

/-- PACERn.ENGINES.count: none while Squad n does not run, its own engines in use and the lent ones otherwise (R113, R221, R222). -/
def Dev.enginesOf (d : Dev) (q : Lane) : Nat :=
  if d.sqRuns (lineSq q) then 64 - ((List.range 64).filter fun e => (d.sq (lineSq q)).excl.contains e || d.inTrial (lineSq q) e).length + d.lentTo q else 0

/-- SQUADn.ENGINE_MAP: the engines that work for the Squad's own lane (R225). -/
def Dev.engineMap (d : Dev) (n : Sq) : Long :=
  if !d.sqRuns n then 0 else
  let lent := ((d.sq n).lent.map (·.count)).getD 0
  (List.range 64).foldl (fun m e =>
    if decide (e < 64 - lent) && !(d.sq n).excl.contains e && !d.inTrial n e then m ||| BitVec.twoPow 64 e else m) 0

/-- The number of engines in a map. -/
def mapCount (m : Long) : Nat := ((List.range 64).filter fun e => m.getLsbD e).length

/-! Preconditions of R429 -/

/-- The lanes' enables. -/
def fEn : Fld := ⟨0x040, 0, 1⟩

/-- A lane carries traffic: TRAIN, RUN or HOLD (R431). -/
def Dev.lineBusy (d : Dev) (n : Lane) : Bool := d.laneState n == stTrain || d.laneState n == stRun || d.laneState n == stHold
def Dev.hostBusy (d : Dev) (n : Lane) : Bool :=
  d.g (pHrx n) ⟨0x044, 0, 3⟩ == 2 || d.g (pHrx n) ⟨0x044, 0, 3⟩ == 3 || d.g (pHrx n) ⟨0x044, 0, 3⟩ == 4

def lanes : List Lane := List.finRange 8

/-- The target carries traffic (R431 reason 2). -/
def Dev.trialTraffic (d : Dev) (test inst : Nat) : Bool :=
  match test with
  | 10 => d.lineBusy (Fin.ofNat 8 inst)
  | 11 => d.hostBusy (Fin.ofNat 8 inst)
  | 12 => lanes.any fun n => d.lineBusy n || d.hostBusy n
  | _ => false

/-- Engine `e` is neither lent nor excluded, and an EXCLUDE of it would be accepted (R224, R429). -/
def Dev.engineFree (d : Dev) (n : Sq) (e : Nat) : Bool :=
  !(d.sq n).excl.contains e && decide (e < 64 - ((d.sq n).lent.map (·.count)).getD 0) &&
    decide (32 ≤ mapCount (d.engineMap n &&& ~~~ BitVec.twoPow 64 e))

/-- The target of a test meets the precondition of R429. Test 3 stays within it while its Squad reloads (R436). -/
def Dev.trialReady (d : Dev) (test : Nat) (target : Word) : Bool :=
  let inst := getBits target 0 4
  let mask := getBits target 16 8
  match test with
  | 1 => decide (sramBase + 0x1000 + d.boot.fwLen ≤ sramBase + inst * 0x10000) || decide (sramBase + inst * 0x10000 + 0x10000 ≤ sramBase + 0x1000)
  | 2 => d.sqState (Fin.ofNat 16 inst) == sqHalted
  | 3 =>
    let n := Fin.ofNat 16 inst
    (d.sqRuns n && d.engineFree n (getBits target 8 6)) || (d.b pTrial fTrBusy && (d.sq n).reloading)
  | 4 => d.b (0x0E + inst) fEn && d.lg 0x0E ⟨0x048, 13, 1⟩ == 0
  | 5 => (List.range 8).all fun c => !mask.testBit c || d.lg 0x11 ⟨0x080 + 0x20 * c, 0, 1⟩ == 0
  | 6 => d.g 0x12 fCapState == 0
  | 9 => (List.range 8).all fun c => d.lg 0x10 ⟨0x080 + 4 * c, 0, 1⟩ == 0
  | 10 => !d.b (pLrx (Fin.ofNat 8 inst)) fEn && !d.b (pLtx (Fin.ofNat 8 inst)) fEn
  | 11 => !d.b (pHrx (Fin.ofNat 8 inst)) fEn && !d.b (pHtx (Fin.ofNat 8 inst)) fEn
  | 12 => lanes.all fun n => !d.b (pLrx n) fEn && !d.b (pLtx n) fEn && !d.b (pHrx n) fEn && !d.b (pHtx n) fEn
  | _ => true

/-! A run -/

/-- The run of the test ends and is judged; cut short, it returns to its last checkpoint (R435). -/
def Dev.trialEnd (d : Dev) (cut : Bool) : Dev :=
  let d := d.when cut fun d =>
    (((d.wr pTrial 0x04C d.trial.cpSig).wr pTrial 0x050 d.trial.cpExp).wr pTrial 0x054 (BitVec.ofNat 32 d.trial.cpVec))
  let fail := d.rd pTrial 0x04C != d.rd pTrial 0x050
  let pass := !fail && d.rd pTrial 0x054 == d.rd pTrial 0x058
  let d := d.s pTrial fTrResult (if fail then 2 else if pass then 1 else 3)
  let d := d.when fail fun d => d.s pTrial ⟨0x05C, 0, 16⟩ (d.trial.badCp.getD 0)
  let d := ((d.sb pTrial fTrBusy false).wr64 pTrial 0x060 d.tk).inc pTrial 0x068
  let d := { d with trial := { d.trial with suspended := false } }
  (d.raise pTrial 0).raiseIf fail pTrial 1

/-- A service request suspends the run; the 17th suspension ends it (R436, R437). -/
def Dev.trialRequest (d : Dev) : Dev :=
  if d.trial.suspended then d else
  let d := ({ d with trial := { d.trial with suspended := true } }.incSat pTrial fTrSusp).raise pTrial 2
  d.when (decide (17 ≤ d.g pTrial fTrSusp)) (·.trialEnd true)

/-- The region of the test in progress holds the word at `loc` (R429, R436). -/
def Dev.trialHolds (d : Dev) (loc : Nat) : Bool :=
  d.b pTrial fTrBusy &&
    match d.g pTrial fTrTest with
    | 1 => decide (sramBase + d.trialInst * 0x10000 ≤ loc ∧ loc < sramBase + d.trialInst * 0x10000 + 0x10000)
    | 2 => decide (squadWindow d.trialInst ≤ loc ∧ loc < squadWindow d.trialInst + 0xC0000)
    | 3 =>
      let base := squadWindow d.trialInst + 0x40000 + d.trialEngine * 0x2000
      decide (base ≤ loc ∧ loc < base + 0x2000)
    | 6 => decide (captureBase ≤ loc ∧ loc < captureBase + 0x200000)
    | 7 => decide (tkRamBase ≤ loc ∧ loc < tkRamBase + 0x2000)
    | 8 => decide (regAddr 0x0A 0x400 ≤ loc ∧ loc < regAddr 0x0A 0x800)
    | 9 => decide (regAddr 0x10 0x400 ≤ loc ∧ loc < regAddr 0x10 0x1000)
    | _ => false

/-- An access by a master other than the Time trial controller to the region under test (R436). -/
def Dev.trialAccess (d : Dev) (loc : Nat) : Dev := d.when (d.trialHolds loc) (·.trialRequest)

/-- A reload, halt or trap of a Squad whose engine is under test (R436). -/
def Dev.trialSquad (d : Dev) (n : Sq) : Dev := d.when (d.trialRuns 3 && d.trialInst == n.val) (·.trialRequest)

/-- A run whose target has left its precondition is suspended and does not resume (R437). -/
def Dev.trialSettle (d : Dev) : Dev :=
  if d.b pTrial fTrBusy && !d.trialReady (d.g pTrial fTrTest) d.trial.target then
    let d := d.trialRequest
    d.when (d.b pTrial fTrBusy) (·.trialEnd true)
  else d

end Sys2Proof.Machine
end

