-- ==== Sys2Proof/Machine/Flags.lean ====
section
/-! DEFINITION. The level-derived signals of the Referee (R331, R332, R335), and how a command acts on the device: its effect, after which the levels follow. -/

namespace Sys2Proof.Machine

/-- REFEREE.CFG.fault_min and force_fault (R340). -/
def fFaultMin : Fld := ⟨0x040, 0, 2⟩
def fForceFault : Fld := ⟨0x040, 10, 1⟩

/-- The highest severity among the EVT_STATUS bits that are set on page `p`, 0 when there is none (R331). -/
def Dev.sevMax (d : Dev) (p : Nat) : Nat :=
  (List.range 32).foldl (fun m s => if d.evt p s then max m (d.sev p s) else m) 0

/-- Page `p` holds FAULT_N low (R332): a subsystem page with any EVT_STATUS bit, a block with a bit of severity fault_min or more. -/
def Dev.pageFault (d : Dev) (p : Nat) : Bool :=
  if 0x18 ≤ p ∧ p ≤ 0x1D then d.rd p 0x010 != 0
  else (blockBit p).isSome && (List.range 32).any fun s => d.evt p s && decide (d.g 0x03 fFaultMin ≤ d.sev p s)

/-- A cause of FAULT_N holds (R332). Only pages with a listed EVT_STATUS can be one: the others hold its reset value 0. In DOZE
only the thermal trip counts. -/
def Dev.faultCause (d : Dev) : Bool :=
  d.trip || (d.g 0x02 fPowerState != 2 &&
    (d.b 0x03 fForceFault || d.regs.any fun e => e.1 % 4096 == 0x010 && d.pageFault (e.1 / 4096)))

/-- FAULT_N follows its causes, and REFEREE sources 0 and 1 report its edges (R332, R340). Out of service it is released. -/
def Dev.faultSettle (d : Dev) : Dev :=
  let c := d.faultCause
  if c = d.faultN then d else ({ d with faultN := c }).raise 0x03 (if c then 0 else 1)

/-- What follows the state after a command: a Time trial run whose target has left its precondition ends (R437), and FAULT_N follows
its causes. -/
def Dev.settle (d : Dev) : Dev :=
  match d.life with
  | .on => d.trialSettle.faultSettle
  | _ => { d with faultN := false }

/-- The outcome of a command's effect. -/
abbrev Out := Host.Outcome State Fault Refusal

/-- A command acts on a device that runs; one that is unpowered or held in reset ignores it, and after a rail fault the state is
undefined (R391, R466). -/
def actState (s : State) (f : State → State) : Out :=
  match s.dev.life with
  | .on => let t := f s; .next { t with dev := t.dev.settle }
  | .undefined => .fault .stateUndefined
  | _ => .next s

/-- A command that acts on the device and leaves the memories alone. -/
def act (s : State) (f : Dev → Dev) : Out :=
  match s.dev.life with
  | .on => .next { s with dev := (f s.dev).settle }
  | .undefined => .fault .stateUndefined
  | _ => .next s

/-- A command that acts on the device by `f` while it runs, and by `g`, on what reset does not hold, while it is in reset or without
power. -/
def actPin (s : State) (f g : Dev → Dev) : Out :=
  match s.dev.life with
  | .on => .next { s with dev := (f s.dev).settle }
  | .undefined => .fault .stateUndefined
  | _ => .next { s with dev := g s.dev }

/-- A command of a page's own function acts while the page runs: powered, clocked, not in soft reset and not quiesced (R39, R43, R377). -/
def actOn (p : Nat) (s : State) (f : Dev → Dev) : Out := act s fun d => d.when (d.running p) f

def actStateOn (p : Nat) (s : State) (f : State → State) : Out := actState s fun s => if s.dev.running p then f s else s

end Sys2Proof.Machine
end

