-- ==== Sys2Proof/Machine/Operands.lean ====
section
/-! DEFINITION. The operand forms of an access: how an access to a register page is judged (R37 to R40, R44), and how a command that is a register write is carried out. -/

namespace Sys2Proof.Machine

/-- A write to a coefficient bank that is not open to it: R53, R110, R120 and R292. -/
def Dev.bankDenied (d : Dev) (p off : Nat) : Bool :=
  match kindOf p with
  | some .ltx => decide (0x800 ≤ off)
  | some .filter => decide (0x800 ≤ off)
  | some .pacer =>
    if 0x400 ≤ off ∧ off < 0xC00 then
      d.b p fPcAuto || d.b p fPcFade || (if off < 0x800 then d.g p fLiveBank == 0 else d.g p fLiveBank == 1)
    else false
  | _ => false

/-- A mailbox slot met by master 3 or 4 (R359). -/
def slotDenied (w : Who) (p off : Nat) : Bool :=
  decide (p = 0x0A ∧ 0x400 ≤ off) && (w.mid.val == 3 || w.mid.val == 4)

/-- A guest access: a user-level access over the Baton bus (R356). -/
def guestAccess (w : Who) : Bool := w.user && w.mid.val == 2

/-- A write that an access rule forbids (R39): a page locked by another master (R44), a bank in use, a slot not open to the master
(R359), a guest's write (R356), or a write to SPLIT by a user-level agent (R228). -/
def Dev.denied (d : Dev) (w : Who) (p off : Nat) : Bool :=
  (d.b p fWlock && d.g p fOwner != w.mid.val && w.mid.val != 0) || d.bankDenied p off || slotDenied w p off ||
    guestAccess w || (w.user && p == 0x13)

/-- A read that an access rule forbids: a slot not open to the master (R359), a guest's read of a LOCK (R356), or a block register
of SPLIT for a user-level agent while user_en is 0 (R228). -/
def Dev.readDenied (d : Dev) (w : Who) (p off : Nat) : Bool :=
  slotDenied w p off || (guestAccess w && p == 0x0B && decide (0x040 ≤ off ∧ off < 0x0C0)) || (w.user && p == 0x13 && decide (0x040 ≤ off) && !d.b 0x13 ⟨0x040, 0, 1⟩)

/-- How a write to register `off` of page `p` ends (R38, R39, R40). -/
def Dev.writeStatus (d : Dev) (w : Who) (p off : Nat) : Status :=
  if (kindOf p).isNone then .unmapped
  else if d.denied w p off then .denied
  else if !d.powered p || d.inReset.contains p || d.quiesced p then .off
  else if d.b p fClkOff && off != 0x008 then .off
  else .ok

/-- How a read of register `off` of page `p` ends (R38, R39, R40). -/
def Dev.readStatus (d : Dev) (w : Who) (p off : Nat) : Status :=
  if (kindOf p).isNone then .unmapped
  else if d.readDenied w p off then .denied
  else if off = 0x000 ∨ off = 0x004 then .ok
  else if d.running p then .ok
  else .off

/-- A write to register `off` of page `p` that has the effect `f` when its outcome is OK, and none otherwise (R39). -/
def Dev.access (d : Dev) (w : Who) (p off : Nat) (f : Dev → Dev) : Dev :=
  match d.writeStatus w p off with
  | .ok => { f d with resp := ⟨.ok, []⟩ }
  | s => { d with resp := ⟨s, []⟩ }

/-- The same for a write that a rule of the register forbids when `bad` holds: DENIED comes before OFF (R39). -/
def Dev.accessUnless (d : Dev) (bad : Bool) (w : Who) (p off : Nat) (f : Dev → Dev) : Dev :=
  if bad && (kindOf p).isSome then { d with resp := ⟨.denied, []⟩ } else d.access w p off f

/-- The same for a write whose effect reaches the memories. -/
def State.accessUnless (s : State) (bad : Bool) (w : Who) (p off : Nat) (f : State → State) : State :=
  let e := if bad && (kindOf p).isSome then .denied else s.dev.writeStatus w p off
  let t := if e = .ok then f s else s
  { t with dev := { t.dev with resp := ⟨e, []⟩ } }

/-- A read of register `off` of page `p` whose answer and effect are given by `f` when its outcome is OK (R39). -/
def Dev.readAccess (d : Dev) (w : Who) (p off : Nat) (f : Dev → Dev × Word) : Dev :=
  match d.readStatus w p off with
  | .ok => let r := f d; { r.1 with resp := ⟨.ok, [r.2]⟩ }
  | s => { d with resp := ⟨s, [0]⟩ }

/-- Stores a written word by the access codes of the register (R5, R6). -/
def Dev.store (d : Dev) (p off : Nat) (v : Word) : Dev := d.wr p off (storeWord p off (d.rd p off) v)

/-- A write stores into a shadow register: the shadow copy changes, ARM clears, and applied reads 0 (R43, R46). -/
def Dev.storeShadow (d : Dev) (p off : Nat) (v : Word) : Dev :=
  let d := ((d.store p off v).sb p fArm false).sb p fApplied false
  match d.commit with
  | .decided .. => if d.late.contains p then d else { d with late := d.late ++ [p] }
  | _ => d

/-! Mode commit (R46, R47) -/

def fCommitBusy : Fld := ⟨0x044, 31, 1⟩
def fCommitFailed : Fld := ⟨0x044, 30, 1⟩
def fMissing : Fld := ⟨0x044, 0, 30⟩

/-- The pages that bit `b` of MODE.COMMIT names (R46). -/
def commitPages (b : Nat) : List Nat :=
  if b < 8 then [0x20 + b, 0x28 + b, 0x60 + b]
  else if b < 16 then [0x30 + (b - 8), 0x38 + (b - 8)]
  else [[0x44], [0x40], [0x41], [0x42], [0x43], [0x01], [0x17], [0x06], [0x0E], [0x0F], [0x10], [0x11], [0x12], [0x13]].getD (b - 16) []

/-- A commit of the named targets is requested (R47): discarded while one is busy; with no target it only clears failed and missing. A
coding page named by it is not ready until it has applied (R31). -/
def Dev.commitRequest (d : Dev) (targets : Nat) : Dev :=
  match d.commit with
  | .idle =>
    let d := (d.sb 0x16 fCommitFailed false).s 0x16 fMissing 0
    if targets = 0 then d else
    let coding := ((List.range 30).flatMap fun b => if targets.testBit b then commitPages b else []).filter fun p => decide (0x40 ≤ p ∧ p < 0x45)
    { d with commit := .undecided targets, unapplied := d.unapplied.filter (!coding.contains ·) ++ coding }.sb 0x16 fCommitBusy true
  | _ => d

/-- A write to MODE.COMMIT (R47). -/
def Dev.commitWrite (d : Dev) (w : Who) (v : Word) : Dev := d.access w 0x16 0x040 (·.commitRequest (getBits v 0 30))

end Sys2Proof.Machine
end

