-- ==== Sys2Proof/Machine/Filter.lean ====
section
/-! DEFINITION. The filter chain: channels, resets, thresholds and the user bank pair (R287 to R292). -/

namespace Sys2Proof.Machine

def pFilt : Nat := 0x10
def fSyncEn : Fld := ⟨0x040, 1, 1⟩
def fSyncEdge : Fld := ⟨0x040, 2, 2⟩
def fFltBank : Fld := ⟨0x044, 0, 1⟩
def fFltFade : Fld := ⟨0x044, 1, 1⟩
def fFltPending : Fld := ⟨0x044, 2, 1⟩
def fFltStep : Fld := ⟨0x044, 8, 5⟩
def fFltSettling (c : Nat) : Fld := ⟨0x044, 16 + c, 1⟩
def fStarved (c : Nat) : Fld := ⟨0x044, 24 + c, 1⟩
def fFchEn (c : Nat) : Fld := ⟨0x080 + 4 * c, 0, 1⟩
def fFchPreset (c : Nat) : Fld := ⟨0x080 + 4 * c, 2, 3⟩
def fFchUnit (c : Nat) : Fld := ⟨0x080 + 4 * c, 8, 1⟩
def fFchEntry (c : Nat) : Fld := ⟨0x080 + 4 * c, 9, 5⟩
def fOutValue (c : Nat) : Fld := ⟨0x0A0 + 4 * c, 0, 24⟩
def fOutSeq (c : Nat) : Fld := ⟨0x0A0 + 4 * c, 24, 4⟩
def fOutLo (c : Nat) : Fld := ⟨0x0A0 + 4 * c, 28, 1⟩
def fOutHi (c : Nat) : Fld := ⟨0x0A0 + 4 * c, 29, 1⟩
def fOutSat (c : Nat) : Fld := ⟨0x0A0 + 4 * c, 30, 1⟩
def fOutSettling (c : Nat) : Fld := ⟨0x0A0 + 4 * c, 31, 1⟩

/-- The user FIR in steps of 2^-17 over the last 64 outputs of the CIC stage, newest first (R287, R292). -/
def userFir (taps : List Word) (hist : List Int) : Int :=
  roundHalfEven (((List.range 64).map fun j => signed 18 (taps.getD j 0).toNat * hist.getD j 0).sum) (2 ^ 17)

def Dev.chanOn (d : Dev) (c : Nat) : Bool := d.lg pFilt (fFchEn c) == 1
def Dev.chanUser (d : Dev) (c : Nat) : Bool := d.lg pFilt (fFchPreset c) == 4

/-- A channel on the user preset that receives input. -/
def Dev.chanFades (d : Dev) (c : Nat) : Bool := d.chanOn c && d.chanUser c && !d.b pFilt (fStarved c)

/-! The user bank pair (R292) -/

def userOff (bank : Nat) : Nat := if bank = 0 then 0x800 else 0xC00

/-- A user set enters the inactive bank and fades in, or becomes live at once where no user channel runs (R292). -/
def Dev.userSwap (d : Dev) (taps : List Word) : Dev :=
  let target := 1 - d.g pFilt fFltBank
  let d := d.wrs pFilt (userOff target) taps
  if (List.range 8).any fun c => d.chanFades c then
    { (d.sb pFilt fFltFade true).s pFilt fFltStep 0 with filt := { d.filt with faded := List.replicate 8 0 } }
  else d.s pFilt fFltBank target

/-- A fade ends: the live bank changes and a pending set follows (R292). -/
def Dev.userFadeEnd (d : Dev) : Dev :=
  let d := (((d.s pFilt fFltBank (1 - d.g pFilt fFltBank)).sb pFilt fFltFade false).s pFilt fFltStep 0).raise pFilt 3
  match d.filt.pend with
  | none => d
  | some t => ({ d with filt := { d.filt with pend := none } }.sb pFilt fFltPending false).userSwap t

/-- A decimator reset during a fade: the target bank is live, and a pending set at once (R293). -/
def Dev.userFadeCut (d : Dev) : Dev :=
  if !d.b pFilt fFltFade then d else
  let d := (((d.s pFilt fFltBank (1 - d.g pFilt fFltBank)).sb pFilt fFltFade false).s pFilt fFltStep 0).raise pFilt 3
  match d.filt.pend with
  | none => d
  | some t =>
    let target := 1 - d.g pFilt fFltBank
    ({ d with filt := { d.filt with pend := none } }.sb pFilt fFltPending false).wrs pFilt (userOff target) t |>.s pFilt fFltBank target

/-! Resets (R289, R290) -/

/-- The decimator of channel `c` is reset (R289, R291). -/
def Dev.chanReset (d : Dev) (c : Nat) : Dev :=
  let d := d.when (d.chanUser c) (·.userFadeCut)
  let d := { d with filt := { d.filt with outs := d.filt.outs.set c 0 } }
  (((d.sb pFilt (fOutHi c) false).sb pFilt (fOutLo c) false).s pFilt (fOutSeq c) 0).sb pFilt (fFltSettling c) true

/-- Every enabled channel is reset, by CTRL.reset or SYNC_IN (R289). -/
def Dev.filterReset (d : Dev) : Dev :=
  let d := (List.range 8).foldl (fun d c => d.when (d.chanOn c) (·.chanReset c)) d
  (d.wr64 pFilt 0x128 d.tk).raise pFilt 2

/-- The source of channel `c` converts its entry: the unit runs and the entry lies within its sequence (R284, R290). -/
def Dev.chanFed (d : Dev) (c : Nat) : Bool :=
  let u := d.lg pFilt (fFchUnit c)
  d.g (0x0E + u) ⟨0x044, 0, 2⟩ == 1 && decide (d.lg pFilt (fFchEntry c) ≤ d.lg (0x0E + u) ⟨0x048, 0, 5⟩)

/-- The channels follow their sources: without input a channel is starved, and when inputs resume it is reset (R290). -/
def Dev.filterSync (d : Dev) : Dev :=
  (List.range 8).foldl (fun d c =>
    if !d.chanOn c then d.sb pFilt (fStarved c) false
    else if !d.chanFed c then d.sb pFilt (fStarved c) true
    else if d.b pFilt (fStarved c) then (d.sb pFilt (fStarved c) false).chanReset c
    else d) d

/-- The channels fed by a unit are reset (R289). -/
def Dev.unitReset (d : Dev) (u : Nat) : Dev :=
  (List.range 8).foldl (fun d c => d.when (d.chanOn c && d.lg pFilt (fFchUnit c) == u) (·.chanReset c)) d

/-- A write to FILTER.CTRL (R289). -/
def Dev.filterCtrlWrite (d : Dev) (w : Who) (v : Word) : Dev :=
  d.access w pFilt 0x040 fun d => (d.store pFilt 0x040 v).when (v.getLsbD 0) (·.filterReset)

/-- A commit of FILTER applies: `old` is the device before, with its applied values (R289, R292). -/
def Dev.filterCommit (d : Dev) (old : Dev) : Dev :=
  let userChanged := d.lrd pFilt 0x048 != old.lrd pFilt 0x048
  let d := (List.range 8).foldl (fun d c =>
    d.when (d.lrd pFilt (0x080 + 4 * c) != old.lrd pFilt (0x080 + 4 * c) || (userChanged && d.chanUser c)) (·.chanReset c)) d
  let d := d.filterSync
  if !d.filt.dirty then d else
  let taps := (List.range 64).map fun j => d.lrd pFilt (0x400 + 4 * j)
  let d := { d with filt := { d.filt with dirty := false } }
  if d.b pFilt fFltFade then { d with filt := { d.filt with pend := some taps } }.sb pFilt fFltPending true
  else d.userSwap taps

/-! Outputs (R287 to R292) -/

/-- The thresholds judge an output of channel `c` (R291). -/
def Dev.thresholds (d : Dev) (c : Nat) (y : Int) : Dev :=
  let hi : Int := d.g pFilt ⟨0x0C0 + 4 * c, 0, 24⟩
  let lo : Int := d.g pFilt ⟨0x0E0 + 4 * c, 0, 24⟩
  let h : Int := d.g pFilt ⟨0x100 + 4 * c, 0, 24⟩
  let d :=
    if !d.b pFilt (fOutHi c) && decide (hi ≤ y) then
      ((d.sb pFilt (fOutHi c) true).sb pFilt ⟨0x120, c, 1⟩ true).raise pFilt 0
    else d.when (d.b pFilt (fOutHi c) && decide (y < hi - h)) (·.sb pFilt (fOutHi c) false)
  if !d.b pFilt (fOutLo c) && decide (y ≤ lo) then
    ((d.sb pFilt (fOutLo c) true).sb pFilt ⟨0x120, 8 + c, 1⟩ true).raise pFilt 1
  else d.when (d.b pFilt (fOutLo c) && decide (lo + h < y)) (·.sb pFilt (fOutLo c) false)

/-- Channel `c` completes an output. `live` is what its filter gives, `new` what the bank that fades in would give, in 1/256 LSB
(R287, R291, R292). -/
def Dev.filterOutput (d : Dev) (c : Nat) (live new : Int) : Dev :=
  if !d.chanOn c || d.b pFilt (fStarved c) then d else
  let fades := d.b pFilt fFltFade && d.chanUser c && decide (d.filt.faded.getD c 0 < 16)
  let s := d.filt.faded.getD c 0 + 1
  let y := if fades then roundHalfEven ((16 - s) * live + s * new) 16
    else if d.b pFilt fFltFade && d.chanUser c then new else live
  let n := d.filt.outs.getD c 0 + 1
  let settling := decide (n ≤ if d.chanUser c then 34 else 18)
  let v := max 0 (min 0xFFFFFF y)
  let d := { d with filt := { d.filt with outs := d.filt.outs.set c n } }
  let d := ((d.s pFilt (fOutValue c) v.toNat).s pFilt (fOutSeq c) n).sb pFilt (fOutSat c) (v != y)
  let d := (d.sb pFilt (fOutSettling c) settling).sb pFilt (fFltSettling c) settling
  let d := d.when (!settling) (·.thresholds c v)
  if !fades then d else
  let d := { d with filt := { d.filt with faded := d.filt.faded.set c s } }
  let d := d.s pFilt fFltStep (max s (d.g pFilt fFltStep))
  d.when ((List.range 8).all fun k => !d.chanFades k || decide (16 ≤ d.filt.faded.getD k 0)) (·.userFadeEnd)

/-- FILTER_RESET (R289): CTRL written with reset = 1. -/
def execFilterReset (w : Who) (v : Word) (s : State) : Out := act s (·.filterCtrlWrite w (v ||| 1))
/-- FILTER_OUTPUT (R287). -/
def execFilterOutput (c : Fin 8) (live new : Int) (s : State) : Out := actOn (pFilt) s (·.filterOutput c.val live new)

end Sys2Proof.Machine
end

