-- ==== Sys2Proof/Machine/Madc.lean ====
section
/-! DEFINITION. The monitor converters: sequencer, urgent conversions, open-wire detection, interleaving and offset runs (R275 to R286). -/

namespace Sys2Proof.Machine

def pMadc (u : Fin 2) : Nat := 0x0E + u.val
def fSeqState : Fld := ⟨0x044, 0, 2⟩
def fSeqEntry : Fld := ⟨0x044, 8, 5⟩
def fOfsBusy : Fld := ⟨0x044, 13, 1⟩
def fOfsPending : Fld := ⟨0x044, 14, 1⟩
def fOfsPrev : Fld := ⟨0x044, 15, 1⟩
def fSeqLast : Fld := ⟨0x048, 0, 5⟩
def fSeqMode : Fld := ⟨0x048, 8, 2⟩
def fSeqSync : Fld := ⟨0x048, 12, 1⟩
def fSeqIlv : Fld := ⟨0x048, 13, 1⟩
def fSeqPeriod : Fld := ⟨0x048, 16, 16⟩
def fUrgOw : Fld := ⟨0x04C, 5, 1⟩
def fUrgCode : Fld := ⟨0x050, 0, 16⟩
def fUrgCollide : Fld := ⟨0x050, 27, 1⟩
def fUrgRefused : Fld := ⟨0x050, 28, 1⟩
def fUrgOpen : Fld := ⟨0x050, 29, 1⟩
def fUrgValid : Fld := ⟨0x050, 30, 1⟩
def fUrgBusy : Fld := ⟨0x050, 31, 1⟩
def fOwThr : Fld := ⟨0x054, 0, 16⟩
def fEntryOw (e : Nat) : Fld := ⟨0x080 + 4 * e, 5, 1⟩
def fOpenMap (e : Nat) : Fld := ⟨0x078, e, 1⟩

/-- The units are interleaved (R284). -/
def Dev.interleaved (d : Dev) : Bool := d.lg 0x0E fSeqIlv == 1

/-- Unit `u` is slaved (R284). -/
def Dev.slaved (d : Dev) (u : Fin 2) : Bool := u == 1 && d.interleaved

def Dev.seqRuns (d : Dev) (u : Fin 2) : Bool := d.g (pMadc u) fSeqState == 1

/-- The slots of an entry (R278). -/
def owSlots (ow : Nat) : Nat := if ow = 1 then 4 else 1

/-- The consistency check of a unit fails (R279). -/
def Dev.madcBad (d : Dev) (u : Fin 2) : Bool :=
  let p := pMadc u
  decide (d.g p fSeqPeriod < ((List.range (d.g p fSeqLast + 1)).map fun e => owSlots (d.g p (fEntryOw e))).sum) ||
    (u == 0 && d.b p fSeqIlv && (d.g p fSeqLast != 0 || d.b p (fEntryOw 0)))

/-! Codes (R276, R283) -/

/-- The delivered code: the raw code less OFS_COR / 16, half to even, limited (R276). -/
def Dev.delivered (d : Dev) (u : Fin 2) (raw : BitVec 16) : Nat :=
  (max 0 (min 65535 (roundHalfEven (16 * raw.toNat - signed 16 (d.rd (pMadc u) 0x058).toNat) 16))).toNat

/-- The delivered result and the open flag (R283). -/
def Dev.result (d : Dev) (u : Fin 2) (ow : Bool) (x : Conv) : Nat × Bool :=
  if ow then
    let a := d.delivered u x.up
    let b := d.delivered u x.down
    ((roundHalfEven (a + b) 2).toNat, decide (d.g (pMadc u) fOwThr < ((a : Int) - b).natAbs))
  else (d.delivered u x.up, false)

/-! The sequencer (R278 to R280) -/

/-- A pass starts at entry 0. -/
def Dev.passBegin (d : Dev) (u : Fin 2) : Dev := (d.updMadc u fun h => { h with pass := true, stopping := false }).s (pMadc u) fSeqEntry 0

/-- The sequence starts, or waits for its core (R277, R278). -/
def Dev.seqStart (d : Dev) (u : Fin 2) : Dev :=
  if d.seqRuns u || d.slaved u || !d.b (pMadc u) fEn then d
  else if (d.md u).powered then ((d.s (pMadc u) fSeqState 1).passBegin u).filterSync
  else d.updMadc u fun h => { h with starting := true }

/-- The sequence stops (R278, R290). -/
def Dev.seqStop (d : Dev) (u : Fin 2) : Dev :=
  let d := d.updMadc u fun h => { h with pass := false, stopping := false, starting := false }
  ((d.s (pMadc u) fSeqState 0).s (pMadc u) fSeqEntry 0).filterSync

/-- stop: after the conversion in progress; outside a conversion at once (R278). -/
def Dev.seqStopReq (d : Dev) (u : Fin 2) : Dev :=
  if d.slaved u then d
  else if d.seqRuns u && (d.md u).pass then d.updMadc u fun h => { h with stopping := true }
  else d.seqStop u

/-- en goes to 0: the core powers down, and an offset run returns to pending (R277, R284). -/
def Dev.madcOff (d : Dev) (u : Fin 2) : Dev :=
  let d := d.when (d.b (pMadc u) fOfsBusy) fun d => (d.sb (pMadc u) fOfsBusy false).sb (pMadc u) fOfsPending true
  ((d.updMadc u fun h => { h with powered := false }).sb (pMadc u) fUrgBusy false).seqStop u

/-- A write to MADCn.CTRL (R277, R278, R284, R293). -/
def Dev.madcCtrlWrite (d : Dev) (w : Who) (u : Fin 2) (v : Word) : Dev :=
  let p := pMadc u
  d.access w p 0x040 fun d =>
    let d := d.store p 0x040 v
    let d := d.when (d.slaved u) (·.sb p fEn true)
    let d := if d.b p fEn then d else d.madcOff u
    let d := d.when (v.getLsbD 2) (·.seqStopReq u)
    d.when (v.getLsbD 1 && !v.getLsbD 2) (·.seqStart u)

/-- The core is powered: what waited proceeds (R277). -/
def Dev.madcPowered (d : Dev) (u : Fin 2) : Dev :=
  if !d.b (pMadc u) fEn || (d.md u).powered then d else
  let wait := (d.md u).starting
  let d := d.updMadc u fun h => { h with powered := true, starting := false }
  d.when wait (·.seqStart u)

/-- A pass starts on its grid, or late with a slip (R278). -/
def Dev.passStart (d : Dev) (u : Fin 2) (late : Bool) : Dev :=
  if d.seqRuns u && (d.md u).powered && !(d.md u).pass then
    let d := d.passBegin u
    if late then (d.inc (pMadc u) 0x074).raise (pMadc u) 3 else d
  else d

/-- A code enters RESULT[e] of a page, with its open flag (R278, R283). -/
def Dev.putResult (d : Dev) (p e : Nat) (ow : Bool) (r : Nat × Bool) : Dev :=
  let d := d.wr p (0x100 + 4 * e) (BitVec.ofNat 32 (2 ^ 31 + (if r.2 then 2 ^ 30 else 0) + r.1))
  if !ow then d
  else if r.2 && !d.b p (fOpenMap e) then (d.sb p (fOpenMap e) true).raise p 2
  else d.sb p (fOpenMap e) r.2

/-- A conversion of the sequence ends (R278, R283, R284). -/
def Dev.convEnd (d : Dev) (u : Fin 2) (x : Conv) : Dev :=
  let p := pMadc u
  if d.slaved u then d.when (d.seqRuns 0 && (d.md 1).powered) (·.putResult 0x0E 0 false (d.result 1 false x))
  else if !d.seqRuns u || !(d.md u).pass || d.b p fUrgBusy then d else
  let e := d.g p fSeqEntry
  let ow := d.lg p (fEntryOw e) == 1
  let d := d.putResult p e ow (d.result u ow x)
  if (d.md u).stopping then d.seqStop u
  else if e < d.lg p fSeqLast then d.s p fSeqEntry (e + 1)
  else if d.lg p fSeqMode = 0 then (d.seqStop u).raise p 0
  else (d.updMadc u fun h => { h with pass := false }).s p fSeqEntry 0

/-- A running sequence restarts at entry 0 on a new grid (R279, R280). -/
def Dev.seqRestart (d : Dev) (u : Fin 2) : Dev := d.when (d.seqRuns u && !d.slaved u) (·.passBegin u)

/-- A commit of a unit applies (R279, R284, R289). -/
def Dev.madcCommit (d : Dev) (u : Fin 2) : Dev :=
  let d := (d.seqRestart u).unitReset u.val
  let d := if u = 0 then
      if d.interleaved then
        let d := d.updMadc 1 fun h => { h with pass := false, stopping := false, starting := false }
        ((d.sb 0x0F fEn true).s 0x0F fSeqState 2).s 0x0F fSeqEntry 0
      else d.when (d.g 0x0F fSeqState == 2) (·.s 0x0F fSeqState 0)
    else d
  d.filterSync

/-- An edge at SYNC_IN that FILTER.CTRL.sync_edge selects (R280, R289, R436). -/
def Dev.syncIn (d : Dev) (rising : Bool) : Dev :=
  let e := d.g pFilt fSyncEdge
  if e = 3 ∨ e = (if rising then 1 else 2) then
    let restart (u : Fin 2) (d : Dev) : Dev :=
      if d.running (pMadc u) && d.lg (pMadc u) fSeqSync == 1 && d.seqRuns u then
        (d.when (d.trialRuns 4 && d.trialInst == u.val) (·.trialRequest)).seqRestart u
      else d
    let d := restart 1 (restart 0 d)
    d.when (d.b pFilt fSyncEn && d.running pFilt) (·.filterReset)
  else d

/-! Urgent conversions (R281, R282) -/

/-- A write to URG_REQ (R281, R282, R436). -/
def Dev.urgWrite (d : Dev) (w : Who) (u : Fin 2) (v : Word) : Dev :=
  let p := pMadc u
  d.access w p 0x04C fun d =>
    let d := d.store p 0x04C v
    if !v.getLsbD 31 then d
    else if d.b p fUrgBusy then d.sb p fUrgCollide true
    else if !d.b p fEn || d.interleaved then d.sb p fUrgRefused true
    else
      let d := d.when (d.trialRuns 4 && d.trialInst == u.val) (·.trialRequest)
      let d := d.updMadc u fun h => { h with urgOw := v.getLsbD 5 }
      ((d.sb p fUrgRefused false).sb p fUrgCollide false).sb p fUrgBusy true

/-- The urgent conversion ends, and the sequence resumes at the interrupted entry (R281). -/
def Dev.urgDone (d : Dev) (u : Fin 2) (x : Conv) : Dev :=
  let p := pMadc u
  if !d.b p fUrgBusy || !(d.md u).powered then d else
  let r := d.result u (d.md u).urgOw x
  ((((d.s p fUrgCode r.1).sb p fUrgOpen r.2).sb p fUrgValid true).sb p fUrgBusy false).raise p 1

/-! Offset runs (R285, R286) -/

/-- The CAL page requests an offset run of both units; requests merge while one is pending (R286). The answer says whether the
request is new. -/
def Dev.ofsRequest (d : Dev) : Dev := (d.sb 0x0E fOfsPending true).sb 0x0F fOfsPending true

/-- A pending offset run starts on each unit whose core is powered (R285, R286). -/
def Dev.ofsStart (d : Dev) : Dev :=
  [(0 : Fin 2), 1].foldl (fun d u =>
    d.when (d.running (pMadc u) && d.b (pMadc u) fOfsPending && !d.b (pMadc u) fOfsBusy && (d.md u).powered) fun d =>
      (d.sb (pMadc u) fOfsPending false).sb (pMadc u) fOfsBusy true) d

/-- The offset run of a unit ends: its target enters OFS_COR (R265, R268, R285). -/
def Dev.ofsEnd (d : Dev) (u : Fin 2) (target : BitVec 16) : Dev :=
  let p := pMadc u
  if !d.b p fOfsBusy then d else
  let old := d.rd p 0x058
  let t : Word := target.zeroExtend 32
  let d := (d.wr p 0x05C t).wr p 0x058 t
  let d := (d.updMadc u fun h => { h with prev := some old }).sb p fOfsPrev true
  let d := ((d.inc p 0x060).wr64 p 0x068 d.tk).sb p fOfsBusy false
  let d := d.when (d.g 0x06 (fTempState 22) != 3) fun d => d.s 0x17 ⟨0x070, 0, 12⟩ (d.g 0x06 (fTempUsed 22))
  (d.calStoreMark).raise p 4

/-- OFS_COR is loaded by the CAL page; a run in progress is abandoned (R293). -/
def Dev.ofsLoad (d : Dev) (u : Fin 2) (w : Word) : Dev := (d.sb (pMadc u) fOfsBusy false).wr (pMadc u) 0x058 (w &&& 0xFFFF)

/-- RESTORE_PREV of a unit exchanges OFS_COR and the previous set (R286). -/
def Dev.ofsRestore (d : Dev) (u : Fin 2) : Dev :=
  match (d.md u).prev with
  | none => d
  | some w =>
    let old := d.rd (pMadc u) 0x058
    (d.ofsLoad u w).updMadc u fun h => { h with prev := some old }

/-! The meanings -/

/-- MADC_EN (R277): a write to CTRL. -/
def execMadcEn (w : Who) (u : Fin 2) (v : Word) (s : State) : Out := act s (·.madcCtrlWrite w u v)
/-- MADC_CORE_POWERED (R277). -/
def execMadcCorePowered (u : Fin 2) (s : State) : Out := actOn (pMadc u) s (·.madcPowered u)
/-- MADC_START (R278): CTRL written with start = 1. -/
def execMadcStart (w : Who) (u : Fin 2) (v : Word) (s : State) : Out := act s (·.madcCtrlWrite w u (v ||| 2))
/-- MADC_STOP (R278): CTRL written with stop = 1. -/
def execMadcStop (w : Who) (u : Fin 2) (v : Word) (s : State) : Out := act s (·.madcCtrlWrite w u (v ||| 4))
/-- MADC_PASS_START (R278). -/
def execMadcPassStart (u : Fin 2) (late : Bool) (s : State) : Out := actOn (pMadc u) s (·.passStart u late)
/-- MADC_CONVERSION_END (R278). -/
def execMadcConversionEnd (u : Fin 2) (x : Conv) (s : State) : Out := actOn (pMadc u) s (·.convEnd u x)
/-- URG_REQ (R281): written with go = 1. -/
def execUrgReq (w : Who) (u : Fin 2) (v : Word) (s : State) : Out := act s (·.urgWrite w u (v ||| 0x80000000))
/-- URG_DONE (R281). -/
def execUrgDone (u : Fin 2) (x : Conv) (s : State) : Out := actOn (pMadc u) s (·.urgDone u x)
/-- MADC_OFFSET_RUN_START (R286). -/
def execMadcOffsetRunStart (s : State) : Out := act s (·.ofsStart)
/-- MADC_OFFSET_RUN_END (R285). -/
def execMadcOffsetRunEnd (u : Fin 2) (target : BitVec 16) (s : State) : Out := actOn (pMadc u) s (·.ofsEnd u target)
/-- SYNC_IN_EDGE (R289). -/
def execSyncInEdge (rising : Bool) (s : State) : Out := act s (·.syncIn rising)

end Sys2Proof.Machine
end

