-- ==== Sys2Proof/Machine/Lrx.lean ====
section
/-! DEFINITION. The line receiver LRXn (R54 to R81): signal detect, timing recovery, the automatic gain control, live calibration of the converter, and the pattern checker that the line and host lanes share (R76 to R78, R199). -/

namespace Sys2Proof.Machine

/-! LANE_CTRL and the input -/

/-- A write to LRXn.LANE_CTRL (R62, R75, R92). -/
def Dev.lrxCtrlWrite (d : Dev) (w : Who) (n : Lane) (v : Word) : Dev :=
  d.access w (pLrx n) 0x040 fun d =>
    let d := d.store (pLrx n) 0x040 v
    if d.b (pLrx n) fLrxEn then d.laneEnable n else d.laneOff n

/-- A write to LRXn.FE_CFG: ac_cpl applies at once (R81). -/
def Dev.lrxFeWrite (d : Dev) (w : Who) (n : Lane) (v : Word) : Dev :=
  d.access w (pLrx n) 0x048 fun d =>
    let d := d.store (pLrx n) 0x048 v
    d.s (pLrx n) fFeLiveAc (getBits (d.rd (pLrx n) 0x048) 18 1)

/-- Near-end parallel loopback bypasses signal detect and timing recovery (R62, R64). -/
def Dev.lrxParallel (d : Dev) (n : Lane) : Bool := d.lg (pLrx n) fLoopback == 2

/-- The signal has been there for 2 us: sig_det rises, and a lane in SEEK enters TRAIN (R61, R92). -/
def Dev.lrxSigDet (d : Dev) (n : Lane) : Dev :=
  if d.b (pLrx n) fLrxEn then
    let was := d.b (pLrx n) fLrxSigDet
    ((d.sb (pLrx n) fLrxSigDet true).raiseIf (!was) (pLrx n) 0).laneTryTrain n
  else d

/-- The signal has been gone for 1 us: sig_det and cdr_lock fall, los is raised without cdr_unlock, and a lane in TRAIN, RUN or
HOLD goes to SEEK (R61, R64, R92). -/
def Dev.lrxLos (d : Dev) (n : Lane) : Dev :=
  if d.b (pLrx n) fLrxEn && d.b (pLrx n) fLrxSigDet && !d.lrxParallel n then
    let d := ((d.sb (pLrx n) fLrxSigDet false).sb (pLrx n) fLrxCdrLock false).raise (pLrx n) 1
    if d.laneState n = stTrain ∨ d.laneValid n then d.laneSeek n 1 else d
  else d

/-- The loop of lane `n` works on a signal. -/
def Dev.lrxLoop (d : Dev) (n : Lane) : Bool := d.b (pLrx n) fLrxEn && d.b (pLrx n) fLrxSigDet && !d.lrxParallel n

/-- The frequency estimate, in 0.01 ppm, is held at a limit of 300 ppm (R64). -/
def freqAtLimit (freq : Int) : Bool := decide (freq ≤ -30000 ∨ 30000 ≤ freq)

/-- The estimate as TR_STATUS.freq shows it: the loop holds it at the limit (R64). -/
def freqCode (freq : Int) : Nat := unsigned 16 (max (-30000) (min 30000 freq))

/-- The estimate has stayed within 2 ppm for 16 us: cdr_lock rises, and phase 1 of training ends (R64, R94). -/
def Dev.lrxCdrLock (d : Dev) (n : Lane) (freq : Int) (phase : Nat) : Dev :=
  if d.lrxLoop n && !freqAtLimit freq && !d.b (pLrx n) fLrxCdrLock then
    let d := ((d.s (pLrx n) fTrFreq (freqCode freq)).s (pLrx n) fTrPhase phase).sb (pLrx n) fLrxCdrLock true
    if d.laneState n = stTrain ∧ d.g (pPacer n) fPhase = 1 then d.trainPhase n 2 0 else d
  else d

/-- The estimate has left its 20 ppm band: cdr_lock falls, and cdr_unlock is raised (R64). -/
def Dev.lrxCdrUnlock (d : Dev) (n : Lane) (freq : Int) : Dev :=
  if d.lrxLoop n && d.b (pLrx n) fLrxCdrLock then
    ((d.s (pLrx n) fTrFreq (freqCode freq)).sb (pLrx n) fLrxCdrLock false).raise (pLrx n) 3
  else d

/-- The estimate reaches a limit: freq_range is raised, and lock is lost (R64). -/
def Dev.lrxFreqRange (d : Dev) (n : Lane) (high : Bool) : Dev :=
  if d.lrxLoop n then
    let d := (d.s (pLrx n) fTrFreq (freqCode (if high then 30000 else -30000))).raise (pLrx n) 4
    if d.b (pLrx n) fLrxCdrLock then (d.sb (pLrx n) fLrxCdrLock false).raise (pLrx n) 3 else d
  else d

/-- cdr_lock has stayed 0 for 100 us in RUN or HOLD: the lane goes to SEEK (R92). -/
def Dev.lrxCdrLoss (d : Dev) (n : Lane) : Dev :=
  if d.laneValid n && !d.b (pLrx n) fLrxCdrLock then d.laneSeek n 1 else d

/-- The automatic gain control has reached its target at a gain code: phase 2 of training ends (R59, R94). -/
def Dev.lrxAgcDone (d : Dev) (n : Lane) (gain : Nat) : Dev :=
  if d.laneState n = stTrain ∧ d.g (pPacer n) fPhase = 2 then
    (d.s (pLrx n) fFeLiveGain (min gain 72)).trainPhase n 3 0
  else d

/-- A window of 2^24 samples ends with a count of clipped samples (R60). -/
def Dev.lrxClipEnd (d : Dev) (n : Lane) (count : Nat) : Dev :=
  d.raiseIf (decide (2 ^ d.g (pLrx n) fAgcClipExp ≤ count) && d.b (pLrx n) fLrxEn) (pLrx n) 2

/-! Calibration of the converter -/

def fAdcRun : Fld := ⟨0x060, 3, 1⟩
def fCorWord : Nat := 0x400
def fMeasWord : Nat := 0x800

/-- A write to LRXn.ADC_CAL; a 1 in run requests a run (R68). -/
def Dev.adcCalWrite (d : Dev) (w : Who) (n : Lane) (v : Word) : Dev :=
  d.access w (pLrx n) 0x060 fun d =>
    let d := d.store (pLrx n) 0x060 v
    d.when (v.getLsbD 3) (·.lrxCalRequest n)

/-- A run starts: the training run in phase 3, which merges the pending request, or a pending run in RUN (R69 step 1, R73, R75). -/
def Dev.lrxCalStart (d : Dev) (n : Lane) : Dev :=
  let l := pLrx n
  let start (forced : Bool) (d : Dev) : Dev :=
    let r : CalRun := ⟨forced, false, if forced then 0 else d.g l fAdcStep, d.g l fAdcEn, d.rd l 0x064⟩
    ((d.updLrx n fun h => { h with run := some r }).sb l fLrxCalBusy true).sb l fLrxCalPending false
  if (d.lx n).run.isSome then d
  else if d.laneState n = stTrain ∧ d.g (pPacer n) fPhase = 3 then start true d
  else if d.laneState n = stRun ∧ d.b l fLrxCalPending then start false d
  else d

/-- The observation ends, and the targets of the 256 slices are in SLICE_MEAS (R69 steps 2 and 3). -/
def Dev.lrxCalObserved (d : Dev) (n : Lane) (targets : List Word) : Dev :=
  match (d.lx n).run with
  | some r =>
    if r.computed then d else
    let d := d.wrs (pLrx n) 0x800 ((List.range 256).map fun s => targets.getD s 0 &&& 0x0FFFFFFF)
    (d.updLrx n fun h => { h with run := some { r with computed := true } }).sb (pLrx n) fCalMeasValid true
  | none => d

/-- A run with this step mode and these enables applies (R72). -/
def CalRun.applies (r : CalRun) : Bool := decide (r.mode ≤ 1) && r.en != 0

/-- All corrections of a run enter at one block boundary, outside a Handoff, and step 5 completes the run (R69, R70, R72, R73,
R265, R267, R268). -/
def Dev.lrxCalApply (d : Dev) (n : Lane) : Dev :=
  let l := pLrx n
  match (d.lx n).run with
  | none => d
  | some r =>
    if !r.computed || (d.pc n).fade.isSome then d else
    let old := d.rds l 0x400 256
    let meas := d.rds l 0x800 256
    let moved := (List.range 256).map fun s => sliceMove r (old.getD s 0) (meas.getD s 0)
    let clamped := r.applies && moved.any (·.2)
    let d := if r.applies then
        let d := (d.wrs l 0x400 (moved.map (·.1))).updLrx n fun h => { h with prev := some ⟨old⟩ }
        (((d.inc l 0x068).wr64 l 0x070 d.tk).sb l fCalClamped clamped).calStoreMark
      else d
    let d := ((d.sb l fCalApplied r.applies).sb l fCalAbandoned false).s l fCalReason 0
    let d := (d.updLrx n fun h => { h with run := none }).sb l fLrxCalBusy false
    let d := (d.calReference n (fRefLrx n)).raise l 5
    let d := d.raiseIf clamped l 7
    if r.forced ∧ d.laneState n = stTrain ∧ d.g (pPacer n) fPhase = 3 then d.trainPhase n 4 0 else d

/-! The pattern checker of LRXn and HRXn, at the same offsets on both pages (R76 to R78, R199) -/

def fPrbsPattern : Fld := ⟨0x080, 0, 3⟩
def fPrbsErrExp : Fld := ⟨0x080, 8, 4⟩
def fPrbsLock : Fld := ⟨0x084, 0, 1⟩
def fPrbsLoss : Fld := ⟨0x084, 8, 8⟩

/-- 128 symbols agree with the pattern: the checker locks (R77). -/
def Dev.prbsLock (d : Dev) (p src : Nat) : Dev :=
  if d.g p fPrbsPattern = 0 ∨ d.b p fPrbsLock then d else (d.sb p fPrbsLock true).raise p src

/-- 64 of the last 256 symbols are in error: the checker loses lock (R77). -/
def Dev.prbsLost (d : Dev) (p src : Nat) : Dev :=
  if d.b p fPrbsLock then ((d.sb p fPrbsLock false).incSat p fPrbsLoss).raise p src else d

/-- A 48-bit counter counts `k` and wraps (R78): its new value and whether it wrapped. -/
def count48 (c : Long) (k : Nat) : Long × Bool :=
  (BitVec.ofNat 64 ((c.toNat + k) % 2 ^ 48), decide (2 ^ 48 ≤ c.toNat + k))

/-- The locked checker counts bits, bit errors and symbol errors. A counter that wraps raises cnt_ovf; once per clear, ERR_BIT
reaching 2^err_exp raises prbs_err (R78). `raised` says whether prbs_err has been raised since the clear. -/
def Dev.prbsCount (d : Dev) (p srcErr srcOvf : Nat) (raised : Bool) (bits errBits errSyms : Nat) : Dev × Bool :=
  if d.b p fPrbsLock then
    let a := count48 (d.rd64 p 0x088) bits
    let b := count48 (d.rd64 p 0x090) errBits
    let c := count48 (d.rd64 p 0x098) errSyms
    let d := ((d.wr64 p 0x088 a.1).wr64 p 0x090 b.1).wr64 p 0x098 c.1
    let reached := !raised && (b.2 || decide (2 ^ d.g p fPrbsErrExp ≤ b.1.toNat))
    ((d.raiseIf reached p srcErr).raiseIf (a.2 || b.2 || c.2) p srcOvf, raised || reached)
  else (d, raised)

/-- A write to PRBS_CTRL: snap copies the counters before clr zeroes them; the checker loses lock when the pattern is set off
or changed (R77, R78). -/
def Dev.prbsCtrlWrite (d : Dev) (w : Who) (p : Nat) (v : Word) : Dev :=
  d.access w p 0x080 fun d =>
    let old := d.rd p 0x080
    let d := d.store p 0x080 v
    let d := d.when (v.getLsbD 4) fun d => d.wrs p 0x0A0 (d.rds p 0x088 6)
    let d := d.when (v.getLsbD 5) fun d => (d.wrs p 0x088 [0, 0, 0, 0, 0, 0]).s p fPrbsLoss 0
    d.when (decide (getBits old 0 4 ≠ getBits (d.rd p 0x080) 0 4)) (·.sb p fPrbsLock false)

/-- A write to LRXn.PRBS_CTRL; clr lets prbs_err be raised again (R78). -/
def Dev.lrxPrbsWrite (d : Dev) (w : Who) (n : Lane) (v : Word) : Dev :=
  let ok := d.writeStatus w (pLrx n) 0x080 == .ok
  (d.prbsCtrlWrite w (pLrx n) v).when (ok && v.getLsbD 5) (·.updLrx n fun h => { h with prbsErr := false })

def Dev.lrxPrbsCount (d : Dev) (n : Lane) (bits errBits errSyms : Nat) : Dev :=
  let r := d.prbsCount (pLrx n) 11 12 (d.lx n).prbsErr bits errBits errSyms
  r.1.updLrx n fun h => { h with prbsErr := r.2 }

/-! The meanings -/

/-- LRX_EN_SET (R92): LANE_CTRL written with en = 1. -/
def execLrxEnSet (w : Who) (n : Lane) (v : Word) (s : State) : Out := act s (·.lrxCtrlWrite w n (v ||| 1))

/-- LRX_EN_CLEAR (R62): LANE_CTRL written with en = 0. -/
def execLrxEnClear (w : Who) (n : Lane) (v : Word) (s : State) : Out := act s (·.lrxCtrlWrite w n (v &&& ~~~ 1))

/-- CLIP_WINDOW_END (R60). -/
def execClipWindowEnd (n : Lane) (count : Nat) (s : State) : Out := actOn (pLrx n) s (·.lrxClipEnd n count)

/-- ADC_CAL_RUN (R68): ADC_CAL written with run = 1. -/
def execAdcCalRun (w : Who) (n : Lane) (v : Word) (s : State) : Out := act s (·.adcCalWrite w n (v ||| 8))

/-- CAL_RUN_START (R69). -/
def execCalRunStart (n : Lane) (s : State) : Out := actOn (pLrx n) s (·.lrxCalStart n)

/-- CAL_OBSERVATION_END (R69). -/
def execCalObservationEnd (n : Lane) (targets : List Word) (s : State) : Out := actOn (pLrx n) s (·.lrxCalObserved n targets)

/-- CAL_APPLY (R69). -/
def execCalApply (n : Lane) (s : State) : Out := actOn (pLrx n) s (·.lrxCalApply n)

end Sys2Proof.Machine
end

