-- ==== Sys2Proof/Machine/Pacer.lean ====
section
/-! DEFINITION. The Pacer, the Handoff and pace changes of a line lane (R92 to R113). -/

namespace Sys2Proof.Machine

def fDwell : Fld := ⟨0x060, 20, 8⟩
def fOcc (k : Nat) : Fld := ⟨0x098, 8 * k, 8⟩
def fGatePass : Fld := ⟨0x09C, 8, 1⟩
def fGateTrans : Fld := ⟨0x09C, 0, 7⟩

/-! Training (R94, R95) -/

/-- The peaking search moves to a setting, or ends in phase 6 (R94). -/
def Dev.searchTo (d : Dev) (n : Lane) (s : Search) (peak : Nat) : Dev :=
  (d.updPacer n fun h => { h with search := some s }).s (pLrx n) fFeLivePeak peak

def Dev.searchEnd (d : Dev) (n : Lane) : Dev := (d.updPacer n fun h => { h with search := none }).trainPhase n 6 0

/-- The search returns to a setting with one further dwell, unless that setting is in use (R94). -/
def Dev.searchBack (d : Dev) (n : Lane) (s : Search) (peak : Nat) : Dev :=
  if peak = d.g (pLrx n) fFeLivePeak then d.searchEnd n else d.searchTo n { s with climb := .back } peak

/-- A dwell of the peaking search ends with an SNR in 0.01 dB (R94 phase 5). -/
def Dev.peakDwellEnd (d : Dev) (n : Lane) (snr : Nat) : Dev :=
  match (d.pc n).search with
  | none => d
  | some s =>
    if d.laneState n != stTrain || d.g (pPacer n) fPhase != 5 || !d.enginesHere n then d else
    let cur := d.g (pLrx n) fFeLivePeak
    let rose := decide (s.last + 5 ≤ snr)
    let s' : Search := { s with last := snr, best := if s.bestSnr < snr then cur else s.best, bestSnr := max s.bestSnr snr }
    match s.climb with
    | .back => d.searchEnd n
    | .up =>
      if rose then (if cur = 24 then d.searchBack n s' s'.best else d.searchTo n s' (cur + 1))
      else if cur = s.start + 1 then
        (if s.start = 0 then d.searchBack n s' 0
         else d.searchTo n { s' with climb := .down, last := s.startSnr } (s.start - 1))
      else d.searchBack n s' s'.best
    | .down =>
      if rose then (if cur = 0 then d.searchBack n s' s'.best else d.searchTo n s' (cur - 1))
      else if cur + 1 = s.start then d.searchBack n s' s.start
      else d.searchBack n s' s'.best

/-- The training timer expires (R95). -/
def Dev.trainTimeout (d : Dev) (n : Lane) : Dev :=
  if d.laneState n = stTrain then
    let d := (d.incSat (pPacer n) fFails).raise (pPacer n) 7
    if d.g (pPacer n) fFailLim ≤ d.g (pPacer n) fFails then ((d.laneStop n 1).laneTo n stFault).raise (pLrx n) 15
    else d.laneSeek n 1
  else d

/-- One second in FAULT has passed (R92). -/
def Dev.faultDwellEnd (d : Dev) (n : Lane) : Dev := if d.laneState n = stFault then d.laneTo n stSeek else d

/-! The Pacer cycle (R97 to R101) -/

/-- The share of a count among the 4,096 decisions of a block, in percent, rounded down. -/
def share (k : Nat) : Nat := k * 100 / 4096

/-- A block passes the statistics gate (R100). -/
def Dev.gatePasses (d : Dev) (n : Lane) (b : Block) : Bool :=
  let p := pPacer n
  ([b.occ0, b.occ1, b.occ2, b.occ3].all fun k =>
    decide (d.g p fOccMin * 4096 ≤ k * 100) && decide (k * 100 ≤ d.g p fOccMax * 4096)) &&
  decide (d.g p fTransMin * 4096 ≤ b.trans * 100)

/-- GATE_LAST and GATE_LAST2 show the figures of a block (R100). -/
def Dev.gateFigures (d : Dev) (n : Lane) (b : Block) (pass : Bool) : Dev :=
  let p := pPacer n
  ((((((d.s p (fOcc 0) (share b.occ0)).s p (fOcc 1) (share b.occ1)).s p (fOcc 2) (share b.occ2)).s p (fOcc 3) (share b.occ3))
    |>.s p fGateTrans (share b.trans)).sb p fGatePass pass)

/-- In RUN and HOLD, runs of failing and passing blocks set and clear the gate hold reason; in manual mode it is not set (R101,
R110). -/
def Dev.gateStreaks (d : Dev) (n : Lane) (pass : Bool) : Dev :=
  let p := pPacer n
  let d := d.updPacer n fun h =>
    { h with failRun := if pass then 0 else h.failRun + 1, passRun := if pass then h.passRun + 1 else 0 }
  if !pass && d.b p fPcAuto && !d.b p fHoldGate && decide (d.g p fFailN ≤ (d.pc n).failRun) then
    (d.raise p 4).setHold n fHoldGate true
  else if pass && d.b p fHoldGate && decide (d.g p fPassN ≤ (d.pc n).passRun) then
    (d.raise p 5).setHold n fHoldGate false
  else d

/-- A block is skipped (R99). -/
def Dev.blockSkipped (d : Dev) (n : Lane) (b : Block) : Bool := b.calStep || b.late || b.left || (d.pc n).pace.isSome

def Dev.stampAccept (d : Dev) (n : Lane) : Dev := d.wr64 (pPacer n) 0x090 d.tk

/-- Draws a newly trained set (R12, R96, R98). -/
def Dev.trainSet (d : Dev) : EqSet × Dev := (trainedSet d.free, d.drawn)

/-- A passing block in TRAIN: the trained set goes into the live bank, phase 4 ends where blind acquisition has converged, and in
phase 6 with cdr_lock a candidate of snr_min or more is the first acceptance (R94, R96, R110). -/
def Dev.blockInTrain (d : Dev) (n : Lane) (b : Block) : Dev :=
  let p := pPacer n
  if !d.b p fPcAuto then (d.s p fSnrRef b.snrRef).s p fSnrCand 0 else
  let d := (d.s p fSnrRef b.snrRef).s p fSnrCand b.snrCand
  let (e, d) := d.trainSet
  let d := d.putSet n (d.liveBank n) e
  if d.g p fPhase = 6 ∧ d.b (pLrx n) fLrxCdrLock ∧ d.g p fSnrMin ≤ b.snrCand then
    let (c, d) := d.trainSet
    let d := (d.stampAccept n).updPacer n fun h => { h with cand := some c }
    d.laneRun n b.ms
  else if d.g p fPhase = 4 ∧ b.blindDone then d.trainPhase n 5 b.snrRef
  else d

/-- A passing block in RUN: a candidate is trained, or judged against the reference and accepted or rejected (R98, R110). -/
def Dev.blockInRun (d : Dev) (n : Lane) (b : Block) : Dev :=
  let p := pPacer n
  if !d.b p fPcAuto then (d.s p fSnrRef b.snrRef).s p fSnrCand 0 else
  match (d.pc n).cand with
  | none =>
    let (c, d) := d.trainSet
    d.updPacer n fun h => { h with cand := some c }
  | some e =>
    let d := (d.s p fSnrRef b.snrRef).s p fSnrCand b.snrCand
    let (c, d) := d.trainSet
    let d := d.updPacer n fun h => { h with cand := some c }
    if b.snrRef + d.g p fMargin ≤ b.snrCand then
      (((d.inc p 0x078).stampAccept n).raise p 1).requestSwap n (.candidate e)
    else d.inc p 0x07C

/-- One cycle of the Pacer on a captured block (R97 to R101). In HOLD it keeps capturing and gating, whatever the reason; in TRAIN
it works from phase 4 on, while the engines are there (R94, R95, R102). A block that fails the gate counts there and not as
skipped (R99). -/
def Dev.pacerCycle (d : Dev) (n : Lane) (b : Block) : Dev :=
  let p := pPacer n
  let st := d.laneState n
  let works := st == stRun || st == stHold || (st == stTrain && decide (4 ≤ d.g p fPhase) && d.enginesHere n)
  if !works then d else
  let pass := d.gatePasses n b
  let skipped := d.blockSkipped n b
  let d := d.gateFigures n b pass
  let d := d.when (st != stTrain) (·.gateStreaks n pass)
  if !pass then d.inc p 0x084
  else if skipped then d.inc p 0x088
  else if st = stTrain then d.blockInTrain n b
  else if st = stRun then d.blockInRun n b
  else d

/-! The Handoff (R103, R104, R110) -/

/-- A Handoff starts at a block boundary: a requested swap, or a pace change whose units are ready (R103, R104, R106, R107). -/
def Dev.handoffStart (d : Dev) (n : Lane) : Dev :=
  let p := pPacer n
  let begin (f : Fade) (d : Dev) : Dev :=
    let d := d.updPacer n fun h => { h with fade := some f, zone := d.g p fZoneExp }
    (d.sb p fPcFade true).s p fHandoffStep 1
  if !d.laneValid n || (d.pc n).fade.isSome then d
  else if (d.pc n).req then begin .swap (d.updPacer n fun h => { h with req := false })
  else match (d.pc n).pace with
    | some ⟨.waiting true, l⟩ =>
      begin .pace ((d.buildTarget n l).updPacer n fun h => { h with pace := some ⟨.fading, l⟩ })
    | _ => d

/-- A Handoff moves to its next step (R103). -/
def Dev.handoffStep (d : Dev) (n : Lane) : Dev :=
  let s := d.g (pPacer n) fHandoffStep
  if (d.pc n).fade.isSome ∧ s < 16 then d.s (pPacer n) fHandoffStep (s + 1) else d

/-- Step 16 of a Handoff ends: the bank roles change, and a deferred swap follows; after a pace Handoff in manual mode both banks
hold the target (R104, R106, R107, R110). -/
def Dev.handoffDone (d : Dev) (n : Lane) : Dev :=
  let p := pPacer n
  match (d.pc n).fade with
  | none => d
  | some f =>
    if d.g p fHandoffStep != 16 then d else
    let d := (((d.s p fLiveBank (1 - d.liveBank n)).sb p fPcFade false).s p fHandoffStep 0).inc p 0x08C
    let d := (d.updPacer n fun h => { h with fade := none }).raise p 2
    let d := match f, (d.pc n).pace with
      | .pace, some c =>
        let d := d.updPacer n fun h => { h with pace := some { c with step := .boundary } }
        d.when (!d.b p fPcAuto) fun d => d.putSet n (1 - d.liveBank n) (d.getSet n (d.liveBank n))
      | _, _ => d
    d.startDeferred n

/-! Pace changes (R106 to R108) -/

/-- The units of a higher level are ready (R107 step 2). -/
def Dev.paceUnitsReady (d : Dev) (n : Lane) : Dev :=
  match (d.pc n).pace with
  | some ⟨.waiting false, l⟩ => d.updPacer n fun h => { h with pace := some ⟨.waiting true, l⟩ }
  | _ => d

/-- The boundary of step 4: the MLSE and the live level change, and a newer level starts from step 1 (R106 to R108, R110). -/
def Dev.paceApplied (d : Dev) (n : Lane) : Dev :=
  match (d.pc n).pace with
  | some ⟨.boundary, l⟩ =>
    let d := (((d.setLevel n l).paceDrop n).updPacer n fun h => { h with cand := none }).raise (pPacer n) 6
    let d := d.when (d.g (pPacer n) fPaceTarget != l) (·.paceStart n)
    d.startDeferred n
  | _ => d

/-! Register writes -/

/-- A write to PACERn.CTRL: auto, the host hold reason, swap and restart (R102, R110). -/
def Dev.pacerCtrlWrite (d : Dev) (w : Who) (n : Lane) (v : Word) : Dev :=
  let p := pPacer n
  d.access w p 0x040 fun d =>
    let was := d.b p fPcAuto
    let d := d.store p 0x040 v
    let auto := d.b p fPcAuto
    let d := d.when (was && !auto) fun d => (d.dropCandidate n).s p fSnrCand 0
    let d := d.when (!was && auto) fun d => d.updPacer n fun h => { h with cand := none }
    let d := d.when (auto && v.getLsbD 3) (·.dropCandidate n)
    let d := d.setHold n fHoldHost (d.b p fPcHoldReq)
    d.when (!auto && v.getLsbD 2 && d.laneValid n) (·.requestSwap n .manual)

/-- A write to PACERn.PACE_CFG (R91). -/
def Dev.paceCfgWrite (d : Dev) (w : Who) (n : Lane) (v : Word) : Dev :=
  d.access w (pPacer n) 0x058 fun d => (d.store (pPacer n) 0x058 v).paceUpdate n

/-! The meanings -/

/-- PEAK_SEARCH_DWELL_END (R94). -/
def execPeakSearchDwellEnd (n : Lane) (snr : Nat) (s : State) : Out := actOn (pPacer n) s (·.peakDwellEnd n snr)

/-- TRAIN_TIMEOUT (R95). -/
def execTrainTimeout (n : Lane) (s : State) : Out := actOn (pLrx n) s (·.trainTimeout n)

/-- LANE_FAULT_DWELL_END (R92). -/
def execLaneFaultDwellEnd (n : Lane) (s : State) : Out := actOn (pLrx n) s (·.faultDwellEnd n)

/-- HANDOFF_START (R104). -/
def execHandoffStart (n : Lane) (s : State) : Out := actOn (pPacer n) s (·.handoffStart n)

/-- HANDOFF_STEP (R103). -/
def execHandoffStep (n : Lane) (s : State) : Out := actOn (pPacer n) s (·.handoffStep n)

/-- HANDOFF_DONE (R104). -/
def execHandoffDone (n : Lane) (s : State) : Out := actOn (pPacer n) s (·.handoffDone n)

/-- HOLD_REQ (R102): a write to CTRL. -/
def execHoldReq (w : Who) (n : Lane) (v : Word) (s : State) : Out := act s (·.pacerCtrlWrite w n v)

/-- PACER_AUTO (R110): a write to CTRL. -/
def execPacerAuto (w : Who) (n : Lane) (v : Word) (s : State) : Out := act s (·.pacerCtrlWrite w n v)

/-- PACER_SWAP (R110): CTRL written with swap = 1. -/
def execPacerSwap (w : Who) (n : Lane) (v : Word) (s : State) : Out := act s (·.pacerCtrlWrite w n (v ||| 4))

/-- PACER_RESTART (R110): CTRL written with restart = 1. -/
def execPacerRestart (w : Who) (n : Lane) (v : Word) (s : State) : Out := act s (·.pacerCtrlWrite w n (v ||| 8))

/-- PACE_CFG_WRITE (R91). -/
def execPaceCfgWrite (w : Who) (n : Lane) (v : Word) (s : State) : Out := act s (·.paceCfgWrite w n v)

/-- PACE_UNITS_READY (R107). -/
def execPaceUnitsReady (n : Lane) (s : State) : Out := actOn (pPacer n) s (·.paceUnitsReady n)

/-- PACE_APPLIED (R106). -/
def execPaceApplied (n : Lane) (s : State) : Out := actOn (pPacer n) s (·.paceApplied n)

end Sys2Proof.Machine
end

