-- ==== Sys2Proof/Machine/Ltx.lean ====
section
/-! DEFINITION. The line transmitter LTXn (R115 to R136): the transmit chain as functions, the coefficient sets and their cross-fade, skew and swing, start-up, squelch, and the calibration of level placement. -/

namespace Sys2Proof.Machine

/-- The boundary register controls the balls: traffic, the management links and the HDAC outputs have stopped (R456). -/
def Dev.tapHolds (d : Dev) : Bool :=
  match d.tap with
  | .bypass | .idcode | .samplePreload => false
  | .extest | .clamp | .highz | .extestPulse | .extestTrain => true

/-! Fields of LTXn (R136) -/

def fLtxEn : Fld := ⟨0x040, 0, 1⟩
def fLtxInvert : Fld := ⟨0x040, 1, 1⟩
def fTxState : Fld := ⟨0x044, 0, 2⟩
def fLtxLive : Fld := ⟨0x044, 6, 1⟩
def fLtxFade : Fld := ⟨0x044, 7, 1⟩
def fLtxCalBusy : Fld := ⟨0x044, 9, 1⟩
def fLtxCalPending : Fld := ⟨0x044, 10, 1⟩
def fFadeStep : Fld := ⟨0x044, 16, 5⟩
def fSqSrc : Fld := ⟨0x044, 24, 6⟩
/-- Squelch reason `k` of R128: 0 host, 1 thermal, 2 clr, 3 walk, 4 start, 5 out_fault. -/
def fSq (k : Nat) : Fld := ⟨0x044, 24 + k, 1⟩
def sqHost : Nat := 0
def sqThermal : Nat := 1
def sqClr : Nat := 2
def sqWalk : Nat := 3
def sqStart : Nat := 4
def sqOutFault : Nat := 5
def fOutSwing : Fld := ⟨0x048, 0, 7⟩
def fOutCm : Fld := ⟨0x048, 8, 2⟩
def fLiveSwing : Fld := ⟨0x04C, 0, 7⟩
def fSqReq : Fld := ⟨0x050, 0, 1⟩
def fFollowClr : Fld := ⟨0x050, 1, 1⟩
def fLtxZone : Fld := ⟨0x054, 0, 4⟩
def fSkewFine : Fld := ⟨0x058, 0, 6⟩
def fSkewCoarse : Fld := ⟨0x058, 8, 4⟩
def fSkewLiveFine : Fld := ⟨0x05C, 0, 6⟩
def fSkewLiveCoarse : Fld := ⟨0x05C, 8, 4⟩
def fDacStep : Fld := ⟨0x060, 0, 2⟩
def fCorMax : Fld := ⟨0x064, 0, 6⟩
def fLtxClipExp : Fld := ⟨0x07C, 0, 4⟩
def fGenPattern : Fld := ⟨0x084, 0, 3⟩
/-- LTXn.STATUS.tx_state. -/
def txOff : Nat := 0
def txStart : Nat := 1
def txRun : Nat := 2

def Dev.txState (d : Dev) (n : Lane) : Nat := d.g (pLtx n) fTxState

/-! Sets and banks (R120) -/

/-- The offsets of the words of a set from its base: FIR, gain, offsets, predistortion (R136). -/
def setOffs : List Nat :=
  (List.range 9).map (4 * ·) ++ [0x040] ++ (List.range 4).map (0x044 + 4 * ·) ++ (List.range 64).map (0x100 + 4 * ·)

/-- The base of bank A or B. -/
def ltxBank (bank : Nat) : Nat := if bank = 0 then 0x800 else 0xC00

def Dev.ltxLive (d : Dev) (n : Lane) : Nat := d.g (pLtx n) fLtxLive

/-- Writes the words of a set at a base. -/
def Dev.putWords (d : Dev) (p base : Nat) (offs : List Nat) (ws : List Word) : Dev :=
  (offs.zip ws).foldl (fun d e => d.wr p (base + e.1) e.2) d

/-- A set enters a bank. -/
def Dev.ltxPut (d : Dev) (n : Lane) (bank : Nat) (ws : List Word) : Dev := d.putWords (pLtx n) (ltxBank bank) setOffs ws

def Dev.ltxFlip (d : Dev) (n : Lane) : Dev := d.s (pLtx n) fLtxLive (1 - d.ltxLive n)

/-! The transmit chain (R115 to R118) -/

/-- The value in use of a `w`-bit signed word at `off` of the set (R103, R121). -/
def Dev.ltxUse (d : Dev) (n : Lane) (w off : Nat) : Int :=
  let live := d.ltxLive n
  let cS := signed w (d.rd (pLtx n) (ltxBank live + off)).toNat
  if d.b (pLtx n) fLtxFade then
    fadeStep cS (signed w (d.rd (pLtx n) (ltxBank (1 - live) + off)).toNat) (d.g (pLtx n) fFadeStep)
  else cS

/-- The gain in use, an unsigned code (R118). -/
def Dev.ltxGain (d : Dev) (n : Lane) : Int :=
  let live := d.ltxLive n
  let gain (bank : Nat) : Int := getBits (d.rd (pLtx n) (ltxBank bank + 0x040)) 0 10
  if d.b (pLtx n) fLtxFade then fadeStep (gain live) (gain (1 - live)) (d.g (pLtx n) fFadeStep) else gain live

/-- A level after mapping and inversion, in level order (R115). -/
def Dev.mapped (d : Dev) (n : Lane) (a : Nat) : Nat := if (d.tx n).invert = 1 then 3 - a else a

/-- The code of level placement before limiting, for the levels a[n + 3 - j], j = 0 to 8, on a sub-DAC (R116 to R118). -/
def Dev.ltxCode (d : Dev) (n : Lane) (levels : List (Fin 4)) (sub : Nat) : Int :=
  let l (j : Nat) : Nat := d.mapped n (levels.getD j 0).val
  let yf := (List.range 9).foldl (fun s j => s + d.ltxUse n 10 (4 * j) * (2 * (l j : Int) - 3)) 0
  let y := yf + 8 * d.ltxUse n 8 (0x100 + 4 * (16 * l 3 + 4 * l 4 + l 5))
  let o := d.ltxUse n 8 (0x044 + 4 * l 3)
  let c := signed 8 (d.rd (pLtx n) (0x300 + 4 * (4 * sub + l 3))).toNat
  roundHalfEven (128 * 4096 + d.ltxGain n * y + 1024 * (o + c)) 4096

/-- A sample is clipped (R119). -/
def clipped (code : Int) : Bool := decide (code < 0 ∨ 255 < code)

/-- The code that the DAC converts (R118). -/
def dacCode (code : Int) : Int := max 0 (min 255 code)

/-- A window of 2^24 samples ends: the clipped samples count, and clip is raised at the threshold (R119). -/
def Dev.ltxClipEnd (d : Dev) (n : Lane) (ss : List TxSamples) : Dev :=
  if d.txState n = txOff then d else
  let k := ss.foldl (fun k x => if clipped (d.ltxCode n x.levels x.sub.val) then k + x.num else k) 0
  (d.add (pLtx n) 0x080 k).raiseIf (decide (2 ^ d.g (pLtx n) fLtxClipExp ≤ k)) (pLtx n) 7

/-! Squelch (R128, R129) -/

/-- A squelch reason other than start is set. -/
def Dev.sqOthers (d : Dev) (n : Lane) : Bool := d.g (pLtx n) fSqSrc &&& 0b101111 != 0

/-- The output is driven: in RUN without a reason, or during a ramp. -/
def Dev.ltxDriven (d : Dev) (n : Lane) : Bool := (d.txState n == txRun && d.g (pLtx n) fSqSrc == 0) || (d.tx n).ramping

/-- An unsquelch ramp starts: the start reason is set, and the output is in step 1 (R129). -/
def Dev.ltxRamp (d : Dev) (n : Lane) : Dev :=
  (d.sb (pLtx n) (fSq sqStart) true).updLtx n fun h => { h with ramping := true, ramp := 1 }

/-- The event that a reason raises when it sets (R135). -/
def sqSource : Nat → Option Nat
  | 1 => some 2 | 2 => some 3 | 5 => some 15 | _ => none

/-- A squelch reason other than start sets or clears (R128, R129). -/
def Dev.ltxSq (d : Dev) (n : Lane) (k : Nat) (on : Bool) : Dev :=
  let p := pLtx n
  if d.b p (fSq k) = on then d
  else if on then
    let was := d.ltxDriven n
    let d := d.sb p (fSq k) true
    let d := d.updLtx n fun h => { h with ramping := false, ramp := 0 }
    let d := match sqSource k with
      | some s => d.raise p s
      | none => d
    d.raiseIf was p 0
  else
    let d := d.sb p (fSq k) false
    d.when (!d.sqOthers n && (d.tx n).powered && (d.txState n == txRun || (d.tx n).step5)) (·.ltxRamp n)

/-- The clr reason follows DAC_CLR_N while follow_clr is 1 (R128). -/
def Dev.ltxFollow (d : Dev) (n : Lane) : Dev := d.ltxSq n sqClr (d.clrLow && d.b (pLtx n) fFollowClr)

/-- A write to LTXn.SQUELCH (R128). -/
def Dev.ltxSquelchWrite (d : Dev) (w : Who) (n : Lane) (v : Word) : Dev :=
  d.access w (pLtx n) 0x050 fun d =>
    let d := d.store (pLtx n) 0x050 v
    (d.ltxSq n sqHost (d.b (pLtx n) fSqReq)).ltxFollow n

def Dev.ltxRampStep (d : Dev) (n : Lane) : Dev :=
  if (d.tx n).ramping ∧ (d.tx n).ramp < 16 then d.updLtx n fun h => { h with ramp := h.ramp + 1 } else d

/-- The ramp ends: the start reason clears, squelch_off is raised, and START becomes RUN (R127, R129). -/
def Dev.ltxRampEnd (d : Dev) (n : Lane) : Dev :=
  if (d.tx n).ramping ∧ (d.tx n).ramp = 16 then
    let d := (d.updLtx n fun h => { h with ramping := false, ramp := 0 }).sb (pLtx n) (fSq sqStart) false
    (d.raise (pLtx n) 1).s (pLtx n) fTxState txRun
  else d

/-- Step 5 of the start-up: the ramp, or RUN without one behind another reason (R127). -/
def Dev.ltxStep5 (d : Dev) (n : Lane) : Dev :=
  if d.txState n != txStart || (d.tx n).step5 then d else
  let d := d.updLtx n fun h => { h with step5 := true }
  if d.sqOthers n then (d.sb (pLtx n) (fSq sqStart) false).s (pLtx n) fTxState txRun else d.ltxRamp n

/-! Calibration of level placement (R130 to R132) -/

/-- A request for a run of LTXn (R130, R132): outside RUN it is deferred. -/
def Dev.ltxCalRequest (d : Dev) (n : Lane) : Dev :=
  let was := d.b (pLtx n) fLtxCalPending
  let d := d.sb (pLtx n) fLtxCalPending true
  d.raiseIf (!was && d.txState n != txRun) (pLtx n) 11

/-- A run of LTXn is abandoned (R127, R132): the enable run is repeated, any other request stays pending where `keep` says so,
after the wait. -/
def Dev.ltxCalAbandon (d : Dev) (n : Lane) (reason : Nat) (keep : Bool) (wait : CalWait) : Dev :=
  match (d.tx n).run with
  | none => d
  | some r =>
    let d := d.updLtx n fun h => { h with run := none, again := r.forced && keep, wait := wait }
    let d := (d.sb (pLtx n) fLtxCalBusy false).calResultAbandoned (pLtx n) reason
    let d := d.when (keep && !r.forced) (·.sb (pLtx n) fLtxCalPending true)
    d.raise (pLtx n) 9

/-- A run starts and samples its settings; the enable run merges the pending request (R127, R130 step 1, R132). -/
def Dev.ltxRunBegin (d : Dev) (n : Lane) (forced : Bool) : Dev :=
  let l := pLtx n
  let r : CalRun := ⟨forced, false, if forced then 0 else d.g l fDacStep, 1, d.rd l 0x064⟩
  ((d.updLtx n fun h => { h with run := some r, again := false, wait := .none }).sb l fLtxCalBusy true).sb l fLtxCalPending false

/-- A run that waits for nothing starts: the repeated enable run, or a pending run in RUN (R127, R130, R132). -/
def Dev.ltxCalStart (d : Dev) (n : Lane) : Dev :=
  if (d.tx n).run.isSome || (d.tx n).wait != .none then d
  else if d.txState n = txStart ∧ (d.tx n).powered ∧ (d.tx n).again then d.ltxRunBegin n true
  else if d.txState n = txRun ∧ d.b (pLtx n) fLtxCalPending then d.ltxRunBegin n false
  else d

/-- 1 ms after an abandon for too few symbols, the run is retried (R127, R132). -/
def Dev.ltxCalRetry (d : Dev) (n : Lane) : Dev :=
  if (d.tx n).wait = .retry then (d.updLtx n fun h => { h with wait := .none }).ltxCalStart n else d

/-- The observation ends with the symbols counted for the eight pairs and their targets (R130 step 3, R132). -/
def Dev.ltxCalObserved (d : Dev) (n : Lane) (counts : List Nat) (targets : List Word) : Dev :=
  match (d.tx n).run with
  | none => d
  | some r =>
    if r.computed then d
    else if (List.range 8).any (fun i => decide (counts.getD i 0 < 1024)) then d.ltxCalAbandon n 1 true .retry
    else
      let d := d.wrs (pLtx n) 0x320 ((List.range 8).map fun i => targets.getD i 0 &&& 0xFF)
      (d.updLtx n fun h => { h with run := some { r with computed := true } }).sb (pLtx n) fCalMeasValid true

/-- The corrections of a run enter at one block boundary, outside a cross-fade, and the run completes (R130, R131, R265, R267). -/
def Dev.ltxCalApply (d : Dev) (n : Lane) : Dev :=
  let l := pLtx n
  match (d.tx n).run with
  | none => d
  | some r =>
    if !r.computed || d.b l fLtxFade then d else
    let old := d.rds l 0x300 8
    let meas := d.rds l 0x320 8
    let moved := (List.range 8).map fun i =>
      let m := calMove r.mode 8 (getBits r.limit 0 6) (signed 8 (old.getD i 0).toNat) (signed 8 (meas.getD i 0).toNat)
      ((BitVec.ofNat 32 (unsigned 8 m.1) : Word), m.2)
    let clamped := r.applies && moved.any (·.2)
    let d := if r.applies then
        let d := (d.wrs l 0x300 (moved.map (·.1))).updLtx n fun h => { h with prev := some ⟨old⟩ }
        (((d.inc l 0x068).wr64 l 0x070 d.tk).sb l fCalClamped clamped).calStoreMark
      else d
    let d := ((d.sb l fCalApplied r.applies).sb l fCalAbandoned false).s l fCalReason 0
    let d := (d.updLtx n fun h => { h with run := none }).sb l fLtxCalBusy false
    let d := ((d.calReference n (fRefLtx n)).raise l 8).raiseIf clamped l 10
    d.when r.forced (·.ltxStep5 n)

/-- The run and the pending request are discarded without an event (R132). -/
def Dev.ltxCalDiscard (d : Dev) (n : Lane) : Dev :=
  ((d.updLtx n fun h => { h with run := none, again := false, wait := .none }).sb (pLtx n) fLtxCalBusy false).sb (pLtx n) fLtxCalPending false

/-- A write to LTXn.DAC_CAL; a 1 in run requests a run (R130). -/
def Dev.dacCalWrite (d : Dev) (w : Who) (n : Lane) (v : Word) : Dev :=
  d.access w (pLtx n) 0x060 fun d => (d.store (pLtx n) 0x060 v).when (v.getLsbD 3) (·.ltxCalRequest n)

/-! Swing and skew (R124, R125) -/

/-- A run that waits for the swing is repeated when OUT_LIVE equals OUT_CFG (R127, R132). -/
def Dev.swingArrived (d : Dev) (n : Lane) : Dev :=
  if (d.tx n).wait = .swing ∧ d.g (pLtx n) fLiveSwing = d.g (pLtx n) fOutSwing then
    (d.updLtx n fun h => { h with wait := .none }).ltxCalStart n
  else d

/-- A write to LTXn.OUT_CFG: while the lane is off the swing takes effect at once; while it is on, a change abandons a run
(R125, R132). -/
def Dev.outCfgWrite (d : Dev) (w : Who) (n : Lane) (v : Word) : Dev :=
  d.access w (pLtx n) 0x048 fun d =>
    let old := d.g (pLtx n) fOutSwing
    let d := d.store (pLtx n) 0x048 v
    let new := d.g (pLtx n) fOutSwing
    if d.txState n = txOff then d.s (pLtx n) fLiveSwing new
    else (d.when (old != new) (·.ltxCalAbandon n 1 true .swing)).swingArrived n

def towards (cur tgt : Nat) : Nat := if cur < tgt then cur + 1 else if tgt < cur then cur - 1 else cur

/-- OUT_LIVE moves 4 mVppd toward OUT_CFG (R125). -/
def Dev.swingStep (d : Dev) (n : Lane) : Dev :=
  if d.txState n = txOff then d
  else (d.s (pLtx n) fLiveSwing (towards (d.g (pLtx n) fLiveSwing) (d.g (pLtx n) fOutSwing))).swingArrived n

/-- SKEW_LIVE takes SKEW_CFG while the lane is off (R124). -/
def Dev.skewTake (d : Dev) (n : Lane) : Dev :=
  (d.s (pLtx n) fSkewLiveFine (d.g (pLtx n) fSkewFine)).s (pLtx n) fSkewLiveCoarse (d.g (pLtx n) fSkewCoarse)

def Dev.skewCfgWrite (d : Dev) (w : Who) (n : Lane) (v : Word) : Dev :=
  d.access w (pLtx n) 0x058 fun d => (d.store (pLtx n) 0x058 v).when (d.txState n == txOff) (·.skewTake n)

/-- The fine skew moves 1/64 UI toward SKEW_CFG; skew_done on arrival (R124). -/
def Dev.skewStep (d : Dev) (n : Lane) : Dev :=
  let cur := d.g (pLtx n) fSkewLiveFine
  let tgt := d.g (pLtx n) fSkewFine
  if d.txState n = txOff ∨ cur = tgt then d
  else (d.s (pLtx n) fSkewLiveFine (towards cur tgt)).raiseIf (towards cur tgt == tgt) (pLtx n) 12

/-! Enable and start-up (R127, R132) -/

/-- The lane enters START: invert, coarse skew and cm are taken, and an old out_fault reason clears (R127 step 1, R128). -/
def Dev.ltxEnable (d : Dev) (n : Lane) : Dev :=
  if d.txState n != txOff then d else
  let p := pLtx n
  let d := ((d.s p fTxState txStart).sb p (fSq sqStart) true).sb p (fSq sqOutFault) false
  let d := d.s p fSkewLiveCoarse (d.g p fSkewCoarse)
  d.updLtx n fun h => { h with powered := false, step5 := false, invert := d.g p fLtxInvert, cm := d.g p fOutCm,
                               ramping := false, ramp := 0 }

/-- The output stage is powered, and the enable calibration run begins (R127 steps 2 and 3). -/
def Dev.ltxPowered (d : Dev) (n : Lane) : Dev :=
  if d.txState n = txStart ∧ !(d.tx n).powered then
    (d.updLtx n fun h => { h with powered := true }).ltxRunBegin n true
  else d

/-- A fade ends at once, with the newest committed set live (R132). -/
def Dev.ltxSetsOff (d : Dev) (n : Lane) : Dev :=
  let h := d.tx n
  let live := d.ltxLive n
  let d := match h.pend with
    | some ws => d.ltxPut n live ws
    | none => match h.copy with
      | some ws => (d.ltxPut n (1 - live) ws).ltxFlip n
      | none => if d.b (pLtx n) fLtxFade || h.req then d.ltxFlip n else d
  ((d.updLtx n fun h => { h with pend := none, copy := none, req := false }).sb (pLtx n) fLtxFade false).s (pLtx n) fFadeStep 0

/-- The output stage turns off, and the lane is in OFF (R125, R127, R132). -/
def Dev.ltxStop (d : Dev) (n : Lane) : Dev :=
  let p := pLtx n
  let d := (d.ltxCalDiscard n).updLtx n fun h => { h with powered := false, step5 := false, ramping := false, ramp := 0 }
  let d := (d.s p fTxState txOff).sb p (fSq sqStart) false
  (d.s p fLiveSwing (d.g p fOutSwing)).skewTake n

/-- en written 0: OFF at once (R127, R132). -/
def Dev.ltxOff (d : Dev) (n : Lane) : Dev := if d.txState n = txOff then d else (d.ltxSetsOff n).ltxStop n

/-- An enabled lane restarts from START (R25). -/
def Dev.ltxRestart (d : Dev) (n : Lane) : Dev := if d.txState n = txOff then d else (d.ltxOff n).ltxEnable n

/-- A write to LTXn.LANE_CTRL (R127, R132). -/
def Dev.ltxCtrlWrite (d : Dev) (w : Who) (n : Lane) (v : Word) : Dev :=
  d.access w (pLtx n) 0x040 fun d =>
    let d := d.store (pLtx n) 0x040 v
    if d.b (pLtx n) fLtxEn then d.ltxEnable n else d.ltxOff n

/-! Commit and cross-fade (R121 to R123) -/

/-- A set of SH meets its gate (R121 to R123): copied and live at once in OFF, copied in START and RUN, and held pending where a
fade is on its way or in progress. -/
def Dev.ltxCommit (d : Dev) (n : Lane) (ws : List Word) : Dev :=
  let h := d.tx n
  if d.txState n = txOff then (d.ltxPut n (1 - d.ltxLive n) ws).ltxFlip n
  else if d.txState n = txRun ∧ (d.b (pLtx n) fLtxFade ∨ h.req ∨ h.copy.isSome) then
    (d.updLtx n fun h => { h with pend := some ws }).raise (pLtx n) (if h.pend.isSome then 6 else 5)
  else d.updLtx n fun h => { h with copy := some ws }

/-- The copy into the inactive bank is complete: live in START, a fade to come in RUN (R121, R123). -/
def Dev.fadeCopyDone (d : Dev) (n : Lane) : Dev :=
  match (d.tx n).copy with
  | none => d
  | some ws =>
    let d := (d.ltxPut n (1 - d.ltxLive n) ws).updLtx n fun h => { h with copy := none }
    if d.txState n = txStart then d.ltxFlip n else d.updLtx n fun h => { h with req := true }

def Dev.ltxFadeStart (d : Dev) (n : Lane) : Dev :=
  if (d.tx n).req && !d.b (pLtx n) fLtxFade then
    let d := d.updLtx n fun h => { h with req := false, zone := d.g (pLtx n) fLtxZone }
    (d.sb (pLtx n) fLtxFade true).s (pLtx n) fFadeStep 1
  else d

def Dev.ltxFadeStep (d : Dev) (n : Lane) : Dev :=
  let s := d.g (pLtx n) fFadeStep
  if d.b (pLtx n) fLtxFade ∧ s < 16 then d.s (pLtx n) fFadeStep (s + 1) else d

/-- Step 16 ends: the target bank is live, and a pending set is on its way into the other bank (R121, R122). -/
def Dev.ltxFadeDone (d : Dev) (n : Lane) : Dev :=
  if d.b (pLtx n) fLtxFade ∧ d.g (pLtx n) fFadeStep = 16 then
    let d := (((d.ltxFlip n).sb (pLtx n) fLtxFade false).s (pLtx n) fFadeStep 0).raise (pLtx n) 4
    d.updLtx n fun h => { h with copy := h.pend, pend := none }
  else d

/-! The generator (R133) -/

/-- A write to LTXn.PRBS_GEN; err_inj changes one bit of the next generated symbol (R133). -/
def Dev.ltxGenWrite (d : Dev) (w : Who) (n : Lane) (v : Word) : Dev :=
  d.access w (pLtx n) 0x084 fun d =>
    let d := d.store (pLtx n) 0x084 v
    d.when (v.getLsbD 7 && d.g (pLtx n) fGenPattern != 0 && d.txState n != txOff)
      (·.updLtx n fun h => { h with errInj := h.errInj + 1 })

/-! The meanings -/

/-- LTX_EN_SET (R127): LANE_CTRL written with en = 1. -/
def execLtxEnSet (w : Who) (n : Lane) (v : Word) (s : State) : Out := act s (·.ltxCtrlWrite w n (v ||| 1))

/-- LTX_EN_CLEAR (R132): LANE_CTRL written with en = 0. -/
def execLtxEnClear (w : Who) (n : Lane) (v : Word) (s : State) : Out := act s (·.ltxCtrlWrite w n (v &&& ~~~ 1))

/-- LTX_START_POWERED (R127). -/
def execLtxStartPowered (n : Lane) (s : State) : Out := actOn (pLtx n) s (·.ltxPowered n)

/-- FOLLOW_CLR (R128): a write to SQUELCH. -/
def execFollowClr (w : Who) (n : Lane) (v : Word) (s : State) : Out := act s (·.ltxSquelchWrite w n v)

/-- FADE_COPY_DONE (R121). -/
def execFadeCopyDone (n : Lane) (s : State) : Out := actOn (pLtx n) s (·.fadeCopyDone n)

/-- FADE_START (R121). -/
def execFadeStart (n : Lane) (s : State) : Out := actOn (pLtx n) s (·.ltxFadeStart n)

/-- FADE_STEP (R121). -/
def execFadeStep (n : Lane) (s : State) : Out := actOn (pLtx n) s (·.ltxFadeStep n)

/-- FADE_DONE (R121). -/
def execFadeDone (n : Lane) (s : State) : Out := actOn (pLtx n) s (·.ltxFadeDone n)

/-- SKEW_FINE_STEP (R124). -/
def execSkewFineStep (n : Lane) (s : State) : Out := actOn (pLtx n) s (·.skewStep n)

/-- SWING_SLEW_STEP (R125). -/
def execSwingSlewStep (n : Lane) (s : State) : Out := actOn (pLtx n) s (·.swingStep n)

/-- DAC_CAL_RUN (R130): DAC_CAL written with run = 1. -/
def execDacCalRun (w : Who) (n : Lane) (v : Word) (s : State) : Out := act s (·.dacCalWrite w n (v ||| 8))

/-- LTX_CAL_START (R130). -/
def execLtxCalStart (n : Lane) (s : State) : Out := actOn (pLtx n) s (·.ltxCalStart n)

/-- LTX_CAL_OBSERVATION_END (R130). -/
def execLtxCalObservationEnd (n : Lane) (counts : List Nat) (targets : List Word) (s : State) : Out :=
  actOn (pLtx n) s (·.ltxCalObserved n counts targets)

/-- LTX_CAL_APPLY (R130). -/
def execLtxCalApply (n : Lane) (s : State) : Out := actOn (pLtx n) s (·.ltxCalApply n)

/-- LTX_CAL_RETRY (R132). -/
def execLtxCalRetry (n : Lane) (s : State) : Out := actOn (pLtx n) s (·.ltxCalRetry n)

/-- LTX_CLIP_WINDOW_END (R119). -/
def execLtxClipWindowEnd (n : Lane) (ss : List TxSamples) (s : State) : Out := actOn (pLtx n) s (·.ltxClipEnd n ss)

end Sys2Proof.Machine
end

