-- ==== Sys2Proof/Machine/Thermal.lean ====
section
/-! DEFINITION. The temperature sensors, Pace control's thermal levels, the hardware trip and the temperature interlocks (R255 to R264). -/

namespace Sys2Proof.Machine

def pTherm : Nat := 0x06
def fTempRaw (i : Nat) : Fld := ⟨0x080 + 4 * i, 0, 12⟩
def fTPace : Fld := ⟨0x040, 0, 12⟩
def fPaceGain : Fld := ⟨0x040, 12, 4⟩
def fPaceHyst : Fld := ⟨0x040, 16, 4⟩
def fPaceStepMs : Fld := ⟨0x040, 20, 8⟩
def fPaceScope : Fld := ⟨0x040, 28, 1⟩
def fTripThr : Fld := ⟨0x044, 0, 12⟩
def fTripHyst : Fld := ⟨0x044, 16, 4⟩
def fTrip : Fld := ⟨0x048, 0, 1⟩
def fPaceActive : Fld := ⟨0x048, 1, 1⟩
def fAllFailed : Fld := ⟨0x048, 2, 1⟩
def fHotIdx : Fld := ⟨0x048, 8, 5⟩
def fHottest : Fld := ⟨0x048, 16, 12⟩
def fLevel (n : Lane) : Fld := ⟨0x04C, 3 * n.val, 3⟩
def fOtpOk : Fld := ⟨0x060, 0, 1⟩
def fFlashOk : Fld := ⟨0x060, 1, 1⟩
def fTripCnt : Fld := ⟨0x064, 0, 16⟩

/-- The states of TEMP[i].state (R256). -/
def snOk : Nat := 0
def snSuspect : Nat := 1
def snFailed : Nat := 2
def snOff : Nat := 3

/-- The core sensor named for a line lane (R255). -/
def coreSensor (n : Nat) : Nat := if n ≤ 2 then 16 else if n ≤ 4 then 17 else 18

/-- The neighbours of a sensor (R255). -/
def neighbours (i : Nat) : List Nat :=
  match i with
  | 0 => [1, 16, 22] | 7 => [6, 18, 23] | 8 => [9, 19, 22] | 15 => [14, 21, 23]
  | 16 => [17, 19, 1, 22] | 17 => [16, 18, 20, 4] | 18 => [17, 21, 6, 23]
  | 19 => [20, 16, 9, 22] | 20 => [19, 21, 17, 12] | 21 => [20, 18, 14, 23]
  | 22 => [16, 19, 0, 8] | 23 => [18, 21, 7, 15]
  | _ => if i < 7 then [i - 1, i + 1, coreSensor i] else [i - 1, i + 1, coreSensor (i - 8) + 3]

/-- The sensors of a main reading, 0 to 22. -/
def mainSensors : List Nat := List.range 23

/-- One sensor at a reading: its state, its consecutive deviating readings, its reading, its used value and the used value of its
last reading in OK, in steps of 0.25 °C. -/
structure Sensor where
  state : Nat
  count : Nat
  raw : Int
  used : Int
  lastOk : Option Int
  unchecked : Bool
  deriving DecidableEq, Repr

/-- Insertion into a rising list. -/
def insertInt (x : Int) : List Int → List Int
  | [] => [x]
  | y :: t => if x ≤ y then x :: y :: t else y :: insertInt x t

def sortInt (l : List Int) : List Int := l.foldr insertInt []

/-- Twice the median of the readings (R256). -/
def median2 (l : List Int) : Int :=
  let s := sortInt l
  let k := s.length / 2
  if s.length % 2 = 1 then 2 * s.getD k 0 else s.getD (k - 1) 0 + s.getD k 0

/-- The greatest of the values, if there are any. -/
def maxInt : List Int → Option Int
  | [] => none
  | x :: t => some (t.foldl max x)

/-- The sensors run: 0 to 22 outside DOZE, 23 always (R255). -/
def Dev.sensorRuns (d : Dev) (i : Nat) : Bool := d.g 0x02 fPowerState != 2 || i == 23

/-- The state of sensor `i` before a reading is judged: a cleared sensor and one that leaves OFF start in OK (R256). -/
def Dev.sensorBefore (d : Dev) (i : Nat) : Nat :=
  let st := d.g pTherm (fTempState i)
  if !d.sensorRuns i then snOff
  else if st = snOff ∨ (st = snFailed ∧ d.therm.clr.getLsbD i) then snOk else st

/-- The cross-check of sensor `i` (R256). -/
def Dev.sensorJudge (d : Dev) (raws : List Int) (i : Nat) : Sensor :=
  let raw := raws.getD i 0
  let st := d.sensorBefore i
  let old := signed 12 (d.g pTherm (fTempUsed i))
  let lastOk := d.therm.lastOk.getD i none
  let c := if d.g pTherm (fTempState i) = snFailed ∧ st = snOk then 0 else d.therm.count.getD i 0
  if st = snOff then ⟨snOff, 0, signed 12 (d.g pTherm (fTempRaw i)), 0, lastOk, false⟩
  else if st = snFailed then ⟨snFailed, c, raw, old, lastOk, false⟩
  else
    let nb := (neighbours i).filter fun j => d.sensorBefore j == snOk
    if nb.length < 2 then ⟨snOk, 0, raw, raw, some raw, true⟩
    else if 64 < (2 * raw - median2 (nb.map fun j => raws.getD j 0)).natAbs then
      let used := match lastOk with
        | some u => u
        | none => signed 12 (Config.sensorUsed (d.free + i)).toNat
      ⟨if 3 ≤ c + 1 then snFailed else snSuspect, c + 1, raw, used, lastOk, false⟩
    else ⟨snOk, 0, raw, raw, some raw, false⟩

/-- The used values: a FAILED sensor takes its substitute (R257). -/
def sensorUse (free : Nat) (l : List Sensor) : List Sensor :=
  let okUsed (ids : List Nat) : List Int := ids.filterMap fun j => match l[j]? with
    | some x => if x.state = snOk then some x.used else none
    | none => none
  (List.range 24).map fun i =>
    let x := l.getD i ⟨snOff, 0, 0, 0, none, false⟩
    if x.state = snFailed then
      match maxInt (okUsed (neighbours i)) with
      | some u => { x with used := u + 12 }
      | none => match maxInt (okUsed mainSensors) with
        | some u => { x with used := u + 12 }
        | none => { x with used := signed 12 (Config.sensorUsed (free + 24 + i)).toNat }
    else x

/-- The sensors in a state, as a map. -/
def sensorMap (p : Sensor → Bool) (l : List Sensor) : Word :=
  (List.range 24).foldl (fun w i => if (l[i]?.map p).getD false then w ||| BitVec.twoPow 32 i else w) 0

/-- The used values of the sensors that are not OFF, with their numbers. -/
def usedOf (ids : List Nat) (l : List Sensor) : List (Nat × Int) :=
  ids.filterMap fun i => match l[i]? with
    | some x => if x.state = snOff then none else some (i, x.used)
    | none => none

/-- A reading enters the registers of the sensors (R256 to R258). -/
def Dev.sensorStore (d : Dev) (l : List Sensor) : Dev :=
  let d := (List.range 24).foldl (fun d i =>
    let x := l.getD i ⟨snOff, 0, 0, 0, none, false⟩
    ((d.s pTherm (fTempState i) x.state).s pTherm (fTempUsed i) (unsigned 12 x.used)).s pTherm (fTempRaw i) (unsigned 12 x.raw)) d
  let d := (d.wr pTherm 0x050 (sensorMap (·.state == snFailed) l)).wr pTherm 0x054 (sensorMap (·.state == snSuspect) l)
  let d := d.wr pTherm 0x058 (sensorMap (·.unchecked) l)
  let hot := (usedOf mainSensors l).foldl (fun (m : Option (Nat × Int)) x => match m with
    | none => some x
    | some y => if y.2 < x.2 then some x else m) none
  let (i, u) := hot.getD (0, 0)
  (d.s pTherm fHottest (unsigned 12 u)).s pTherm fHotIdx i

/-- A sensor has entered a state at this reading. -/
def Dev.entered (d : Dev) (l : List Sensor) (st : Nat) : List Nat :=
  (List.range 24).filter fun i => (l[i]?.map (·.state)) == some st && d.g pTherm (fTempState i) != st

/-! Pace control (R259 to R261) -/

/-- The sensors that contribute to T_gov of a line lane (R259). -/
def Dev.govSensors (d : Dev) (n : Nat) : List Nat := if d.lg pTherm fPaceScope = 1 then mainSensors else [n, coreSensor n]

/-- The levels that a difference in 0.25 °C sheds: gain / 4 levels per °C (R259). -/
def shed (e : Int) (gain : Nat) : Nat := min 7 ((e * gain) / 16).toNat

/-- The thermal level of a line lane after a reading, by R257, R259 and R260; `bad` lists the sensors that have entered SUSPECT or
FAILED at it. -/
def Dev.paceLevel (d : Dev) (l : List Sensor) (allFailed : Bool) (bad : List Nat) (n : Nat) : Nat :=
  let cur := d.g pTherm (fLevel (Fin.ofNat 8 n))
  if allFailed then 0 else
  match maxInt ((usedOf (d.govSensors n) l).map (·.2)) with
  | none => cur
  | some t =>
    let e := t - signed 12 (d.lg pTherm fTPace)
    let down := shed e (d.lg pTherm fPaceGain)
    let up := shed (e + d.lg pTherm fPaceHyst) (d.lg pTherm fPaceGain)
    let due := match d.therm.lastStep.getD n none with
      | none => true
      | some r => decide (r + 10 * d.lg pTherm fPaceStepMs ≤ d.therm.reads)
    if !due then cur
    else if 7 - cur < down then (if (d.govSensors n).any bad.contains then cur else cur - 1)
    else if up < 7 - cur then cur + 1
    else cur

/-- The thermal levels are set: LEVEL, PACE_STATUS.thermal and the effective levels follow (R91, R259). -/
def Dev.setLevels (d : Dev) (new : List Nat) : Dev :=
  let d := d.eachLane fun n d =>
    let l := new.getD n.val 7
    if l = d.g pTherm (fLevel n) then d
    else ((d.s pTherm (fLevel n) l).s (pPacer n) fPaceThermal l).paceUpdate n
  d.sb pTherm fPaceActive (new.any fun l => decide (l < 7))

/-- Pace control at a reading (R259, R271). -/
def Dev.paceControl (d : Dev) (l : List Sensor) (allFailed : Bool) (bad : List Nat) : Dev :=
  let old := (List.range 8).map fun n => d.g pTherm (fLevel (Fin.ofNat 8 n))
  let new := (List.range 8).map fun n => d.paceLevel l allFailed bad n
  if new = old then d else
  let last := (List.range 8).map fun n => if new.getD n 0 = old.getD n 0 then d.therm.lastStep.getD n none else some d.therm.reads
  let d := ({ d with therm := { d.therm with lastStep := last } }.setLevels new).raise pTherm 5
  let d := d.raiseIf (old.all (· == 7)) pTherm 3
  d.raiseIf (new.all (· == 7)) pTherm 4

/-! The trip (R262) -/

/-- The trip asserts or releases (R262). -/
def Dev.setTrip (d : Dev) (on : Bool) : Dev :=
  let d := { d with trip := on, therm := { d.therm with release := 0 } }.sb pTherm fTrip on
  let d := d.when on (·.incSat pTherm fTripCnt)
  (d.eachLane fun n d => d.ltxSq n sqThermal on).raise pTherm (if on then 6 else 7)

/-- The trip judges the used values of sensors 0 to 22, or of sensor 23 alone in DOZE and with all_failed (R257, R262). -/
def Dev.tripJudge (d : Dev) (l : List Sensor) (alone : Bool) : Dev :=
  let vals := (usedOf (if alone then [23] else mainSensors) l).map (·.2)
  let thr := signed 12 (d.lg pTherm fTripThr)
  if !d.trip then d.when (vals.any fun v => decide (thr ≤ v)) (·.setTrip true)
  else if !vals.isEmpty && vals.all fun v => decide (v ≤ thr - 4 * d.lg pTherm fTripHyst) then
    if 10 ≤ d.therm.release + 1 then d.setTrip false
    else { d with therm := { d.therm with release := d.therm.release + 1 } }
  else { d with therm := { d.therm with release := 0 } }

/-! A reading -/

/-- The interlock windows of R264, in °C. -/
def windowOpen (vals : List Int) (allFailed : Bool) (lo hi : Int) : Bool :=
  !allFailed && !vals.isEmpty && vals.all fun v => decide (4 * lo ≤ v ∧ v ≤ 4 * hi)

/-- A reading of all sensors, once every 100 µs (R255 to R264). While the Coach restarts, the thermal levels hold (R261). -/
def Dev.reading (d : Dev) (raws : List (BitVec 12)) : Dev :=
  let raws := raws.map fun x => signed 12 x.toNat
  let l := sensorUse d.free ((List.range 24).map fun i => d.sensorJudge raws i)
  let isMain := d.sensorRuns 0
  let bad := d.entered l snSuspect ++ d.entered l snFailed
  let sus := !(d.entered l snSuspect).isEmpty
  let fail := !(d.entered l snFailed).isEmpty
  let unchk := sensorMap (·.unchecked) l &&& ~~~ d.rd pTherm 0x058 != 0
  let allFailed := isMain && !(mainSensors.any fun i => (l[i]?.map (·.state)) == some snOk)
  let was := d.b pTherm fAllFailed
  let d := d.sensorStore l
  let d := { d with free := d.free + 48
                    therm := { d.therm with count := l.map Sensor.count, lastOk := l.map Sensor.lastOk, clr := 0, reads := d.therm.reads + 1 } }
  let d := ((d.raiseIf sus pTherm 0).raiseIf fail pTherm 1).raiseIf unchk pTherm 2
  let d := (d.sb pTherm fAllFailed allFailed).raiseIf (allFailed && !was) pTherm 8
  let d := d.when (isMain && d.coachUp) (·.paceControl l allFailed bad)
  let d := d.tripJudge l (allFailed || !isMain)
  let vals := (usedOf mainSensors l).map (·.2)
  (d.sb pTherm fFlashOk (windowOpen vals allFailed 0 95)).sb pTherm fOtpOk (windowOpen vals allFailed 10 85)

/-- A write to SENS_CLR: the named FAILED sensors restart in OK at the next reading (R256). -/
def Dev.sensClrWrite (d : Dev) (w : Who) (v : Word) : Dev :=
  d.access w pTherm 0x05C fun d => { d with therm := { d.therm with clr := d.therm.clr ||| (v &&& d.rd pTherm 0x050) } }

/-- The consistency check of THERMAL fails: the shadow t_pace is at or above the shadow thr (R263). -/
def Dev.thermBad (d : Dev) : Bool := decide (signed 12 (d.g pTherm fTripThr) ≤ signed 12 (d.g pTherm fTPace))

/-- THERMAL_READING (R255). -/
def execThermalReading (raws : List (BitVec 12)) (s : State) : Out := act s (·.reading raws)
/-- SENS_CLR (R256). -/
def execSensClr (w : Who) (v : Word) (s : State) : Out := act s (·.sensClrWrite w v)

end Sys2Proof.Machine
end

