-- ==== Sys2Proof/Machine/Cal.lean ====
section
/-! DEFINITION. Calibration scheduling and the calibration store (R265 to R270, R272, R274). -/

namespace Sys2Proof.Machine

def pCal : Nat := 0x17
def fCalDelta : Fld := ⟨0x040, 0, 6⟩
def fTempEn : Fld := ⟨0x040, 8, 1⟩
def fCalMadcEn : Fld := ⟨0x040, 9, 1⟩
def fCalLtxEn : Fld := ⟨0x040, 10, 1⟩
def fStoreBusy : Fld := ⟨0x04C, 0, 1⟩
def fStoreEmpty : Fld := ⟨0x04C, 2, 1⟩
/-- STATUS.copy_a_ok and copy_b_ok; copy B is `true`. -/
def fCopyOk (b : Bool) : Fld := ⟨0x04C, if b then 4 else 3, 1⟩
def fDeferred : Fld := ⟨0x04C, 5, 1⟩
def fMadcRef : Fld := ⟨0x070, 0, 12⟩

/-! Requests (R265, R266) -/

/-- The used value of sensor `i` has moved from a reference by δ or more. -/
def Dev.moved (d : Dev) (i : Nat) (ref : Fld) : Bool :=
  decide (d.g pCal fCalDelta ≤ (signed 12 (d.g pTherm (fTempUsed i)) - signed 12 (d.g pCal ref)).natAbs)

/-- A request for a run of LRXn by the CAL page: run_req is raised if none was pending (R265). -/
def Dev.calLrx (d : Dev) (n : Lane) : Dev :=
  let was := d.b (pLrx n) fLrxCalPending
  (d.lrxCalRequest n).raiseIf (!was) pCal 0

def Dev.calLtx (d : Dev) (n : Lane) : Dev :=
  let was := d.b (pLtx n) fLtxCalPending
  (d.ltxCalRequest n).raiseIf (!was) pCal 0

/-- A request for an offset run of both monitor converters. -/
def Dev.calMadc (d : Dev) : Dev :=
  let was := d.b 0x0E fOfsPending && d.b 0x0F fOfsPending
  d.ofsRequest.raiseIf (!was) pCal 0

/-- The comparisons of R265 for one lane: none of a kind whose run is in progress. -/
def Dev.calLane (d : Dev) (n : Lane) : Dev :=
  let d := d.when (d.moved n.val (fRefLrx n) && !d.b (pLrx n) fLrxCalBusy) (·.calLrx n)
  d.when (d.b pCal fCalLtxEn && d.moved n.val (fRefLtx n) && !d.b (pLtx n) fLtxCalBusy) (·.calLtx n)

/-- The comparisons of R265, once every 1 ms. -/
def Dev.calCompare (d : Dev) : Dev :=
  if !d.b pCal fTempEn then d else
  let d := d.eachLane fun n d => d.calLane n
  d.when (d.b pCal fCalMadcEn && d.moved 22 fMadcRef && !d.b 0x0E fOfsBusy && !d.b 0x0F fOfsBusy) (·.calMadc)

/-! The store (R268, R269) -/

/-- The base of copy A or B in the flash window (R395). -/
def copyBase (b : Bool) : Nat := if b then flashBase + 0x804000 else flashBase + 0x800000

/-- The words of a copy, check word included: the sequence number, 271 words for each lane, the two offsets, MADC_REF and the CRC. -/
def copyWords : Nat := 2173

/-- The sequence number of a copy. -/
def Dev.copySeq (d : Dev) (b : Bool) : Word := if b then d.cal.seqB else d.cal.seqA

/-- Serial number `x` is newer than `y`, modulo 2^32 (R269). -/
def newer (x y : Word) : Bool := x != y && decide ((x - y).toNat < 2 ^ 31)

/-- The newest valid copy (R269). -/
def Dev.newest (d : Dev) : Option Bool :=
  match d.b pCal (fCopyOk false), d.b pCal (fCopyOk true) with
  | true, true => some (newer d.cal.seqB d.cal.seqA)
  | true, false => some false
  | false, true => some true
  | false, false => none

/-- The copy a write takes: an invalid one, or the one with the lower sequence number (R268 step 1). -/
def Dev.copyToWrite (d : Dev) : Bool :=
  if !d.b pCal (fCopyOk false) then false
  else if !d.b pCal (fCopyOk true) then true
  else !newer d.cal.seqB d.cal.seqA

/-- The values of one lane in the order of R268. -/
def Dev.storeLane (d : Dev) (n : Lane) : List Word :=
  let l := pLrx n
  let t := pLtx n
  d.rds l 0x400 256 ++ [d.rd l 0x068, d.rd l 0x070, d.rd l 0x074] ++ d.rds t 0x300 8 ++
    [d.rd t 0x068, d.rd t 0x070, d.rd t 0x074, d.rd pCal (0x050 + 4 * n.val)]

/-- The words of a copy with a sequence number (R268). -/
def Dev.storeWords (d : Dev) (seq : Word) : List Word :=
  let l := [seq] ++ lanes.flatMap d.storeLane ++ [d.rd 0x0E 0x058, d.rd 0x0F 0x058, d.rd pCal 0x070]
  l ++ [crc32 l]

/-- Words written from `a` on. -/
def memSetWords (m : List Host.Cell) (a : Nat) : List Word → List Host.Cell
  | [] => m
  | w :: t => memSetWords (memSetWord m a w) (a + 4) t

def memWords (m : List Host.Cell) (a : Nat) : Nat → List Word
  | 0 => []
  | n + 1 => memWord m a :: memWords m (a + 4) n

/-- The check word of the words of a copy verifies (R268 step 4). -/
def copyValid (l : List Word) : Bool := l.getLast? == some (crc32 l.dropLast)

/-- A store write starts: the copy is chosen and erased (R268 steps 1 and 2). -/
def State.storeStart (s : State) : State :=
  let b := s.dev.copyToWrite
  let d := (((s.dev.sb pCal fStorePending false).sb pCal fDeferred false).sb pCal fStoreBusy true).sb pCal (fCopyOk b) false
  ({ s with dev := { d with cal := { d.cal with copy := some b } } }).forget (copyBase b) 0x4000

/-- A store write is due or commanded: it starts, or waits for the flash window (R264, R270). -/
def State.storeBegin (s : State) : State :=
  if s.dev.b pCal fStoreBusy then s
  else if s.dev.b pTherm fFlashOk then s.storeStart
  else if s.dev.b pCal fDeferred then s
  else { s with dev := (s.dev.sb pCal fDeferred true).raise pCal 3 }

/-! Restoring (R266) -/

/-- A run of LRXn is abandoned by a restore; the training run still ends phase 3 (R73, R75). -/
def Dev.restoreLrx (d : Dev) (n : Lane) (ws : List Word) : Dev :=
  let forced := ((d.lx n).run.map (·.forced)).getD false
  let d := (d.lrxCalAbandon n 2 false).wrs (pLrx n) 0x400 ws
  d.when (forced && d.laneState n == stTrain && d.g (pPacer n) fPhase == 3) (·.trainPhase n 4 0)

def Dev.restoreLtx (d : Dev) (n : Lane) (ws : List Word) : Dev :=
  let forced := ((d.tx n).run.map (·.forced)).getD false
  let d := (d.ltxCalAbandon n 2 false .none).wrs (pLtx n) 0x300 ws
  d.when forced (·.ltxStep5 n)

/-- The previous set of lane `n` and the live corrections exchange places (R266). -/
def Dev.restoreLane (d : Dev) (n : Lane) : Dev :=
  let d := match (d.lx n).prev with
    | some s =>
      let old := d.rds (pLrx n) 0x400 256
      (d.restoreLrx n s.words).updLrx n fun h => { h with prev := some ⟨old⟩ }
    | none => d
  match (d.tx n).prev with
  | some s =>
    let old := d.rds (pLtx n) 0x300 8
    (d.restoreLtx n s.words).updLtx n fun h => { h with prev := some ⟨old⟩ }
  | none => d

/-- Lane `n` has a previous set (R267). -/
def Dev.prevValid (d : Dev) (n : Lane) : Bool := (d.lx n).prev.isSome || (d.tx n).prev.isSome

/-- RESTORE_PREV (R266, R286). -/
def Dev.restorePrev (d : Dev) (named : Nat) (madc : Bool) : Dev :=
  let any := (lanes.any fun n => named.testBit n.val && d.prevValid n) || (madc && ((d.md 0).prev.isSome || (d.md 1).prev.isSome))
  let d := d.eachLane fun n d => d.when (named.testBit n.val) (·.restoreLane n)
  let d := d.when madc fun d => (d.ofsRestore 0).ofsRestore 1
  d.raiseIf any pCal 4

/-- The words of lane `n` in a copy. -/
def laneWords (l : List Word) (n : Lane) : List Word := (l.drop (1 + 271 * n.val)).take 271

/-- The corrections of a copy enter the named lanes (R266). -/
def Dev.reloadFrom (d : Dev) (l : List Word) (named : Nat) (madc : Bool) : Dev :=
  let d := d.eachLane fun n d => d.when (named.testBit n.val) fun d =>
    let x := laneWords l n
    (d.restoreLrx n (x.take 256)).restoreLtx n ((x.drop 259).take 8)
  d.when madc fun d => (d.ofsLoad 0 (l.getD 2169 0)).ofsLoad 1 (l.getD 2170 0)

/-- RELOAD_STORE: it waits for a store write in progress (R266, R270). -/
def State.reloadStore (s : State) (v : Word) : State :=
  let d := s.dev
  if d.b pCal fStoreBusy then { s with dev := { d with cal := { d.cal with reload := some v } } }
  else match d.newest with
    | none => { s with dev := d.raise pCal 2 }
    | some b =>
      { s with dev := (d.reloadFrom (memWords s.mem (copyBase b) copyWords) (getBits v 0 8) (v.getLsbD 8)).raise pCal 4 }

/-- A store write ends: `bad` lists the words that read back otherwise than written, with the bits that differ. A write that does not
verify leaves the copy invalid and is retried once (R268 steps 3 and 4). -/
def State.storeDone (s : State) (bad : List (Nat × Word)) : State :=
  match s.dev.cal.copy with
  | none => s
  | some b =>
    let d := s.dev
    let other := if d.b pCal (fCopyOk (!b)) then d.copySeq (!b) else 0
    let seq := other + 1
    let good := d.storeWords seq
    let held := (List.range copyWords).map fun i => bad.foldl (fun w e => if e.1 = i then w ^^^ e.2 else w) (good.getD i 0)
    let m := memSetWords s.mem (copyBase b) held
    let d := d.sb pCal fStoreBusy false
    let d := { d with cal := { d.cal with copy := none } }
    let d := if copyValid held then
        let d := { d with cal := { d.cal with retry := false, seqA := if b then d.cal.seqA else held.getD 0 0
                                              seqB := if b then held.getD 0 0 else d.cal.seqB } }
        let d := ((d.sb pCal (fCopyOk b) true).sb pCal fStoreEmpty false).inc pCal 0x074
        (d.wr64 pCal 0x078 d.tk).raise pCal 1
      else
        let again := !d.cal.retry
        let d := { d with cal := { d.cal with retry := again } }
        (d.when again (·.sb pCal fStorePending true)).raise pCal 2
    let s := { s with dev := d, mem := m }
    match d.cal.reload with
    | none => s
    | some v => ({ s with dev := { d with cal := { d.cal with reload := none } } }).reloadStore v

/-- The check of both copies at boot, before CAL sets ready (R269). -/
def State.calBoot (s : State) : State :=
  let a := memWords s.mem (copyBase false) copyWords
  let b := memWords s.mem (copyBase true) copyWords
  let d := (s.dev.sb pCal (fCopyOk false) (copyValid a)).sb pCal (fCopyOk true) (copyValid b)
  let d := { d with cal := { d.cal with seqA := a.getD 0 0, seqB := b.getD 0 0 } }
  let d := match d.newest with
    | none => (d.sb pCal fStoreEmpty true).raise pCal 6
    | some c =>
      let l := if c then b else a
      let d := d.eachLane fun n d =>
        let x := laneWords l n
        let d := (d.wrs (pLrx n) 0x400 (x.take 256)).wrs (pLtx n) 0x300 ((x.drop 259).take 8)
        let d := ((d.wr (pLrx n) 0x068 (x.getD 256 0)).wr (pLrx n) 0x070 (x.getD 257 0)).wr (pLrx n) 0x074 (x.getD 258 0)
        let d := ((d.wr (pLtx n) 0x068 (x.getD 267 0)).wr (pLtx n) 0x070 (x.getD 268 0)).wr (pLtx n) 0x074 (x.getD 269 0)
        d.wr pCal (0x050 + 4 * n.val) (x.getD 270 0)
      let d := (d.wr 0x0E 0x058 (l.getD 2169 0)).wr 0x0F 0x058 (l.getD 2170 0)
      (d.wr pCal 0x070 (l.getD 2171 0)).raise pCal 5
  { s with dev := d }

/-! CMD (R266) -/

/-- A write to CMD. -/
def State.calCmd (s : State) (w : Who) (v : Word) : State :=
  let d := s.dev
  match d.writeStatus w pCal 0x048 with
  | .ok =>
    let named := getBits v 0 8
    let madc := v.getLsbD 8
    let s := { s with dev := { d with resp := ⟨.ok, []⟩ } }
    match getBits v 16 4 with
    | 1 =>
      let d := s.dev.eachLane fun n d => d.when (named.testBit n.val) fun d => (d.calLrx n).calLtx n
      { s with dev := d.when madc (·.calMadc) }
    | 2 => s.storeBegin
    | 3 => { s with dev := s.dev.restorePrev named madc }
    | 4 => s.reloadStore v
    | _ => s
  | e => { s with dev := { d with resp := ⟨e, []⟩ } }

/-- The 1 ms check of the management firmware: the comparisons, and the start of a deferred store write (R265, R270). -/
def State.calCheck (s : State) : State :=
  if !s.dev.coachUp then s else
  let s := { s with dev := s.dev.calCompare }
  if s.dev.b pCal fDeferred && s.dev.b pTherm fFlashOk then s.storeStart else s

/-- An automatic store write is due (R268). -/
def State.storeDue (s : State) : State := if s.dev.b pCal fStorePending && s.dev.coachUp then s.storeBegin else s

/-! The meanings -/

/-- CAL_TEMP_CHECK (R265). -/
def execCalTempCheck (s : State) : Out := actStateOn (pCal) s (·.calCheck)
/-- CAL_CMD_RUN (R266): CMD written with op 1. -/
def execCalCmdRun (w : Who) (v : Word) (s : State) : Out := actState s (·.calCmd w (setBits v 16 4 1))
/-- STORE (R266): CMD written with op 2. -/
def execStore (w : Who) (v : Word) (s : State) : Out := actState s (·.calCmd w (setBits v 16 4 2))
/-- RESTORE_PREV (R266): CMD written with op 3. -/
def execRestorePrev (w : Who) (v : Word) (s : State) : Out := actState s (·.calCmd w (setBits v 16 4 3))
/-- RELOAD_STORE (R266): CMD written with op 4. -/
def execReloadStore (w : Who) (v : Word) (s : State) : Out := actState s (·.calCmd w (setBits v 16 4 4))
/-- STORE_DUE (R268). -/
def execStoreDue (s : State) : Out := actStateOn (pCal) s (·.storeDue)
/-- STORE_WRITE_DONE (R268). -/
def execStoreWriteDone (bad : List (Nat × Word)) (s : State) : Out := actStateOn (pCal) s (·.storeDone bad)

end Sys2Proof.Machine
end

