-- ==== Sys2Proof/Machine/Hdac.lean ====
section
/-! DEFINITION. The housekeeping DACs: target, generator and slew limiter, span changes, clear, enable and current limit (R298 to R311). -/

namespace Sys2Proof.Machine

def pHdac : Nat := 0x11
def fSwClr : Fld := ⟨0x040, 0, 1⟩
def fIlim (c : Fin 8) : Fld := ⟨0x044, 16 + c.val, 1⟩
/-- The block of channel `c` (R311). -/
def hdacBase (c : Fin 8) : Nat := 0x080 + 0x20 * c.val
def fHdEn (c : Fin 8) : Fld := ⟨hdacBase c, 0, 1⟩
def fHdSpan (c : Fin 8) : Fld := ⟨hdacBase c, 1, 1⟩
def fHdGen (c : Fin 8) : Fld := ⟨hdacBase c, 4, 2⟩
def fHdCode (c : Fin 8) : Fld := ⟨hdacBase c + 0x04, 0, 12⟩
def fHdStep (c : Fin 8) : Fld := ⟨hdacBase c + 0x08, 0, 8⟩
def fHdTick (c : Fin 8) : Fld := ⟨hdacBase c + 0x08, 16, 10⟩
def fHdClr (c : Fin 8) : Fld := ⟨hdacBase c + 0x0C, 0, 12⟩
def fHdSafe (c : Fin 8) : Fld := ⟨hdacBase c + 0x0C, 16, 12⟩
def fHdAmp (c : Fin 8) : Fld := ⟨hdacBase c + 0x10, 0, 11⟩
def fHdInc (c : Fin 8) : Fld := ⟨hdacBase c + 0x10, 16, 8⟩
def fHdLive (c : Fin 8) : Fld := ⟨hdacBase c + 0x14, 0, 12⟩
def fHdLiveSpan (c : Fin 8) : Fld := ⟨hdacBase c + 0x14, 12, 1⟩
def fHdState (c : Fin 8) : Fld := ⟨hdacBase c + 0x14, 13, 3⟩

/-- LIVE.state (R311). -/
def hdOff : Nat := 0
def hdTrack : Nat := 1
def hdSpan : Nat := 2
def hdCleared : Nat := 3

def channels : List (Fin 8) := List.finRange 8

/-- Applies one update for every channel in turn. -/
def Dev.eachHdac (d : Dev) (f : Fin 8 → Dev → Dev) : Dev := channels.foldl (fun d c => f c d) d

def Dev.hdState (d : Dev) (c : Fin 8) : Nat := d.g pHdac (fHdState c)

/-- DAC_CLR_N is low or sw_clr is 1 (R303). -/
def Dev.clrActive (d : Dev) : Bool := d.clrLow || d.b pHdac fSwClr

/-- The boot ROM runs in Walk mode (R410). -/
def Dev.walks (d : Dev) : Bool := d.g 0x08 ⟨0x044, 0, 2⟩ == 2

/-! The generator (R301) -/

/-- The generator restarts at its start phase. -/
def Dev.genStart (d : Dev) (c : Fin 8) : Dev :=
  let a := d.lg pHdac (fHdAmp c)
  d.updHdac c fun h => { h with gen := if d.lg pHdac (fHdGen c) = 2 then -(a : Int) else 0, up := true, lfsr := 1 }

/-- One step of the LFSR of the noise generator. -/
def lfsr16 (x : BitVec 16) : BitVec 16 :=
  (x <<< 1) ||| (if x.getLsbD 15 ^^ x.getLsbD 13 ^^ x.getLsbD 12 ^^ x.getLsbD 10 then 1 else 0)

/-- The generator after a tick, by CFG.gen, with the amplitude `a` and the increment `i`. -/
def genTick (kind a i : Nat) (h : HdacH) : HdacH :=
  match kind with
  | 1 =>
    let v := if h.up then h.gen + i else h.gen - i
    if h.up ∧ (a : Int) ≤ v then { h with gen := a, up := false }
    else if !h.up ∧ v ≤ -(a : Int) then { h with gen := -(a : Int), up := true }
    else { h with gen := v }
  | 2 => { h with gen := if (a : Int) < h.gen + i then -(a : Int) else h.gen + i }
  | 3 =>
    let x := lfsr16 h.lfsr
    { h with gen := (x.toNat % (2 * a + 1) : Nat) - (a : Int), lfsr := x }
  | _ => { h with gen := 0 }

/-- The unlimited target of a channel (R300). -/
def Dev.hdTarget (d : Dev) (c : Fin 8) : Int :=
  (d.g pHdac (fHdCode c) : Int) + if d.lg pHdac (fHdGen c) = 0 ∨ (d.hd c).span.isSome then 0 else (d.hd c).gen

/-- A target limited to the codes of the string (R300). -/
def limitCode (t : Int) : Nat := (max 0 (min 4095 t)).toNat

/-- The live code moves toward a code by at most SLEW.step (R300). -/
def slewTo (live t step : Nat) : Nat := if live < t then min t (live + step) else max t (live - step)

/-- The live code differs from the target (R311). -/
def Dev.hdSlewing (d : Dev) (c : Fin 8) : Bool := d.hdState c != hdOff && d.g pHdac (fHdLive c) != limitCode (d.hdTarget c)

/-! Span changes (R302, R309) -/

/-- A span change begins at step 1; under a clear it waits for the release. -/
def Dev.spanBegin (d : Dev) (c : Fin 8) (to' : Nat) : Dev :=
  let d := d.updHdac c fun h => { h with span := some ⟨.slew, to'⟩ }
  if d.hdState c = hdCleared then d
  else
    let d := d.s pHdac (fHdState c) hdSpan
    if d.g pHdac (fHdLive c) = d.g pHdac (fHdSafe c) then d.updHdac c fun h => { h with span := some ⟨.hold, to'⟩ } else d

/-- Step 5: the channel tracks again, and a pending span other than the live one starts a new sequence (R302, R309). -/
def Dev.spanEnd (d : Dev) (c : Fin 8) : Dev :=
  let pend := (d.hd c).pend
  let d := (d.updHdac c fun h => { h with span := none, pend := none, arm := true, limited := false }).s pHdac (fHdState c) hdTrack
  let d := (d.genStart c).raise pHdac 1
  match pend with
  | some s => if s = d.g pHdac (fHdLiveSpan c) then d else d.spanBegin c s
  | none => d

/-- A tick of a channel in a span change (R302 steps 1 and 4). -/
def Dev.spanTick (d : Dev) (c : Fin 8) (x : SpanChange) : Dev :=
  let step := d.g pHdac (fHdStep c)
  match x.step with
  | .slew =>
    let safe := d.g pHdac (fHdSafe c)
    let v := slewTo (d.g pHdac (fHdLive c)) safe step
    let d := d.s pHdac (fHdLive c) v
    if v = safe then d.updHdac c fun h => { h with span := some ⟨.hold, x.dest⟩ } else d
  | .back =>
    let t := d.g pHdac (fHdCode c)
    let v := slewTo (d.g pHdac (fHdLive c)) t step
    let d := d.s pHdac (fHdLive c) v
    if v = t then d.spanEnd c else d
  | _ => d

/-- 20 µs at the safe code have passed: the span switches (R302 step 3). -/
def Dev.spanHoldEnd (d : Dev) (c : Fin 8) : Dev :=
  match (d.hd c).span with
  | some ⟨.hold, t⟩ =>
    if d.hdState c = hdSpan then (d.updHdac c fun h => { h with span := some ⟨.switch, t⟩ }).s pHdac (fHdLiveSpan c) t else d
  | _ => d

/-- 1 µs after the switch: the live code slews to the target in the new span (R302 step 4). -/
def Dev.spanSwitched (d : Dev) (c : Fin 8) : Dev :=
  match (d.hd c).span with
  | some ⟨.switch, t⟩ =>
    if d.hdState c = hdSpan then
      let d := d.updHdac c fun h => { h with span := some ⟨.back, t⟩ }
      if d.g pHdac (fHdLive c) = d.g pHdac (fHdCode c) then d.spanEnd c else d
    else d
  | _ => d

/-! Ticks (R300) -/

/-- A tick of a tracking channel: the generator, the target, the limiter, and the events of R300. -/
def Dev.trackTick (d : Dev) (c : Fin 8) : Dev :=
  let d := d.updHdac c (genTick (d.lg pHdac (fHdGen c)) (d.lg pHdac (fHdAmp c)) (d.lg pHdac (fHdInc c)))
  let raw := d.hdTarget c
  let t := limitCode raw
  let lim := decide (raw < 0 ∨ 4095 < raw)
  let first := lim && !(d.hd c).limited
  let v := slewTo (d.g pHdac (fHdLive c)) t (d.g pHdac (fHdStep c))
  let done := (d.hd c).arm && v == t
  let d := (d.updHdac c fun h => { h with limited := lim, arm := h.arm && !done }).s pHdac (fHdLive c) v
  (d.raiseIf first pHdac 4).raiseIf done pHdac 0

/-- A tick of channel `c`; in Walk mode limiter and generator are stopped (R308). -/
def Dev.hdacTick (d : Dev) (c : Fin 8) : Dev :=
  if d.walks || d.tapHolds || !d.running pHdac then d
  else if d.hdState c = hdTrack then d.trackTick c
  else if d.hdState c = hdSpan then (match (d.hd c).span with
    | some x => d.spanTick c x
    | none => d)
  else d

/-! Clear (R303, R304) -/

/-- A channel is driven to its clear code. -/
def Dev.hdClear (d : Dev) (c : Fin 8) : Dev :=
  if d.hdState c = hdOff then d else (d.s pHdac (fHdState c) hdCleared).s pHdac (fHdLive c) (d.g pHdac (fHdClr c))

/-- A channel leaves its clear code. -/
def Dev.hdRelease (d : Dev) (c : Fin 8) : Dev :=
  if d.hdState c != hdCleared then d else
  let d := (d.updHdac c fun h => { h with arm := true }).s pHdac (fHdState c) hdTrack
  match (d.hd c).span with
  | some x => d.spanBegin c x.dest
  | none => d

/-- The clear causes change: clr_on at the start of a clear, clr_off when both have ended. -/
def Dev.clrChange (d : Dev) (f : Dev → Dev) : Dev :=
  let was := d.clrActive
  let d := f d
  if d.walks then d
  else if !was && d.clrActive then (d.eachHdac fun c d => d.hdClear c).raise pHdac 2
  else if was && !d.clrActive then (d.raise pHdac 3).eachHdac fun c d => d.hdRelease c
  else d

/-- A write to HDAC.CTRL (R303, R308). -/
def Dev.swClrWrite (d : Dev) (w : Who) (v : Word) : Dev := d.access w pHdac 0x040 (·.clrChange (·.store pHdac 0x040 v))

/-- The ball DAC_CLR_N changes: the HDACs clear, and the line transmitters follow where they are told to (R128, R303, R304). -/
def Dev.clrBall (d : Dev) (low : Bool) : Dev :=
  (d.clrChange fun d => { d with clrLow := low }).eachLane fun n d => d.ltxFollow n

/-! Registers -/

/-- A write to CODE[c] (R300, R302, R303). -/
def Dev.hdCodeWrite (d : Dev) (w : Who) (c : Fin 8) (v : Word) : Dev :=
  let off := hdacBase c + 0x04
  d.access w pHdac off fun d => (d.store pHdac off v).updHdac c fun h => { h with arm := true }

/-- A write to CLR[c]: a channel in clear or off shows the new clear code, and a span change that holds the safe code moves to a new
one (R303, R305, R302). -/
def Dev.hdClrWrite (d : Dev) (w : Who) (c : Fin 8) (v : Word) : Dev :=
  let off := hdacBase c + 0x0C
  d.access w pHdac off fun d =>
    let d := d.store pHdac off v
    if d.hdState c = hdOff ∨ d.hdState c = hdCleared then d.s pHdac (fHdLive c) (d.g pHdac (fHdClr c)) else d

/-! Enable and commit (R301, R302, R305, R309) -/

/-- The output turns on at its clear code. -/
def Dev.hdOn (d : Dev) (c : Fin 8) : Dev :=
  let d := d.updHdac c fun h => { h with arm := true, limited := false, span := none, pend := none }
  let d := (d.s pHdac (fHdLiveSpan c) (d.lg pHdac (fHdSpan c))).s pHdac (fHdLive c) (d.g pHdac (fHdClr c))
  (d.s pHdac (fHdState c) (if d.clrActive || d.walks then hdCleared else hdTrack)).genStart c

/-- The output turns off. -/
def Dev.hdTurnOff (d : Dev) (c : Fin 8) : Dev :=
  let d := d.updHdac c fun h => { h with arm := false, span := none, pend := none, limited := false }
  ((d.s pHdac (fHdState c) hdOff).s pHdac (fHdLive c) (d.g pHdac (fHdClr c))).sb pHdac (fIlim c) false

/-- A commit of the page has applied; `old` is the device with the values applied before. -/
def Dev.hdacCommit (old d : Dev) : Dev :=
  d.eachHdac fun c d =>
    let en := d.lg pHdac (fHdEn c) == 1
    let on := d.hdState c != hdOff
    if en && !on then d.hdOn c
    else if !en && on then d.hdTurnOff c
    else if !en then d
    else
      let d := d.when (old.lg pHdac (fHdGen c) != d.lg pHdac (fHdGen c) || old.lrd pHdac (hdacBase c + 0x10) != d.lrd pHdac (hdacBase c + 0x10))
        (·.genStart c)
      let span := d.lg pHdac (fHdSpan c)
      if old.lg pHdac (fHdSpan c) = span then d
      else if (d.hd c).span.isSome then d.updHdac c fun h => { h with pend := some span }
      else if span = d.g pHdac (fHdLiveSpan c) then d
      else d.spanBegin c span

/-! Current limit (R298) -/

/-- An output that is driven enters or leaves current limit. -/
def Dev.hdLimit (d : Dev) (c : Fin 8) (on : Bool) : Dev :=
  if d.hdState c = hdOff then d
  else
    let was := d.b pHdac (fIlim c)
    (d.sb pHdac (fIlim c) on).raiseIf (on && !was) pHdac 5

/-! The meanings -/

/-- HDAC_TICK (R300). -/
def execHdacTick (c : Fin 8) (s : State) : Out := act s (·.hdacTick c)
/-- HDAC_CODE_WRITE (R300). -/
def execHdacCodeWrite (w : Who) (c : Fin 8) (v : Word) (s : State) : Out := act s (·.hdCodeWrite w c v)
/-- SPAN_HOLD_END (R302). -/
def execSpanHoldEnd (c : Fin 8) (s : State) : Out := actOn (pHdac) s (·.spanHoldEnd c)
/-- SPAN_SWITCH_DONE (R302). -/
def execSpanSwitchDone (c : Fin 8) (s : State) : Out := actOn (pHdac) s (·.spanSwitched c)
/-- SW_CLR (R303). -/
def execSwClr (w : Who) (v : Word) (s : State) : Out := act s (·.swClrWrite w v)
/-- DAC_CLR_N_FALL (R303). -/
def execDacClrNFall (s : State) : Out := actPin s (·.clrBall true) fun d => { d with clrLow := true }
/-- DAC_CLR_N_RISE (R304). -/
def execDacClrNRise (s : State) : Out := actPin s (·.clrBall false) fun d => { d with clrLow := false }
/-- CURRENT_LIMIT (R298). -/
def execCurrentLimit (c : Fin 8) (on : Bool) (s : State) : Out := actOn (pHdac) s (·.hdLimit c on)

end Sys2Proof.Machine
end

