-- ==== Sys2Proof/Machine/March.lean ====
section
/-! DEFINITION. March C- on a segment of a memory under test (R432, R433): the operations of a vector, what a segment holds in the middle of it, and what a reset leaves (R438). -/

namespace Sys2Proof.Machine

/-- The words of a segment: 4 KiB, but the mailbox slots have 1 KiB in all. -/
def segWords (test : Nat) : Nat := if test = 8 then 256 else 1024

/-- The vectors of a segment: 10 operations per word, 128 in a vector. -/
def segVectors (test : Nat) : Nat := if test = 8 then 20 else 80

/-- The vectors of a test that work through memory segments: all of a memory test, and the first 160 of an ENGINE test, which cover its
8 KiB of local data. -/
def memVectors (test : Nat) : Nat := if test = 3 then 160 else if [1, 2, 6, 7, 8, 9].contains test then 2 ^ 32 else 0

/-- The place of word `i` of the region of the test in progress. -/
def Dev.trialLoc (d : Dev) (i : Nat) : Nat :=
  match d.g pTrial fTrTest with
  | 1 => sramBase + d.trialInst * 0x10000 + 4 * i
  | 2 => squadWindow d.trialInst + 4 * i
  | 3 => squadWindow d.trialInst + 0x40000 + d.trialEngine * 0x2000 + 4 * i
  | 6 => captureBase + 4 * i
  | 7 => tkRamBase + 4 * i
  | 8 => regAddr 0x0A (0x400 + 4 * i)
  | _ => if i < 768 then regAddr 0x10 (0x400 + 4 * i) else hiddenLoc 0x10 (i - 768)

/-- Operation `k` on a segment of `n` words: a read of the pattern given, or a write. -/
def marchRead (n k : Nat) : Option Word :=
  if k < n then none
  else if 9 * n ≤ k then some 0
  else if (k - n) % 2 = 1 then none
  else if (k - n) / (2 * n) % 2 = 0 then some 0 else some 0xFFFFFFFF

/-- What word `i` of a segment of `n` words holds after `k` operations, none where nothing has been written. -/
def marchHeld (n k i : Nat) : Option Word :=
  let done (j start : Nat) : Bool := decide (2 * j + 2 ≤ k - start)
  let up := i
  let down := n - 1 - i
  if k ≤ n then (if i < k then some 0 else none)
  else if k ≤ 3 * n then some (if done up n then 0xFFFFFFFF else 0)
  else if k ≤ 5 * n then some (if done up (3 * n) then 0 else 0xFFFFFFFF)
  else if k ≤ 7 * n then some (if done down (5 * n) then 0xFFFFFFFF else 0)
  else if k ≤ 9 * n then some (if done down (7 * n) then 0 else 0xFFFFFFFF)
  else some 0

/-- A reset in the middle of a segment: a memory that keeps its content keeps what the segment holds (R438). -/
def State.marchLeft (s : State) : State :=
  let d := s.dev
  let t := d.g pTrial fTrTest
  let v := (d.rd pTrial 0x054).toNat
  if !d.b pTrial fTrBusy || d.trial.suspended || !([1, 2, 3, 6, 7].contains t) || decide (memVectors t ≤ v) then s else
  let k := v % segVectors t * 128
  let base := v / segVectors t * segWords t
  (List.range (segWords t)).foldl (fun s i => match marchHeld (segWords t) k i with
    | some w => s.setWord (d.trialLoc (base + i)) w
    | none => s) s

end Sys2Proof.Machine
end

