-- ==== Sys2Proof/Machine/Scrub.lean ====
section
/-! DEFINITION. The scrubber (R319 to R321, R326) and the flips of stored bits (R313, R322). -/

namespace Sys2Proof.Machine

def pScrub : Nat := 0x14
def fScrubEn : Fld := ⟨0x040, 0, 1⟩
def fScrubRegion : Fld := ⟨0x044, 0, 5⟩
def fScrubBusy : Fld := ⟨0x044, 8, 1⟩
def fScrubProgress : Fld := ⟨0x044, 16, 16⟩

/-- A pass starts at region 0 (R319). -/
def Dev.scrubStart (d : Dev) : Dev :=
  (({ d with scrub := ⟨0, 0, false, false⟩ }.s pScrub fScrubRegion 0).s pScrub fScrubProgress 0).sb pScrub fScrubBusy true

/-- A pass ends, and the next starts (R319, R326). -/
def Dev.scrubEnd (d : Dev) : Dev :=
  let d := ((d.inc pScrub 0x048).wr pScrub 0x050 d.scrub.skip).wr64 pScrub 0x058 d.tk
  (d.raise pScrub 10).scrubStart

/-- Every region has been read: the voted words follow (R323), and the pass waits for the end of its period unless it is late. -/
def Dev.scrubRead (d : Dev) : Dev :=
  let d := (List.range 5).foldl (fun d i => d.voteRead i) d
  if d.scrub.late then d.scrubEnd else { d with scrub := { d.scrub with waits := true } }

/-- The scrubber goes on to the next region. -/
def Dev.scrubNext (d : Dev) : Dev :=
  let r := d.g pScrub fScrubRegion
  let d := { d with scrub := { d.scrub with idx := 0 } }.s pScrub fScrubProgress 0
  if r < 23 then d.s pScrub fScrubRegion (r + 1) else d.scrubRead

/-- The scrub region that a test of R429 holds. -/
def Dev.trialRegion (d : Dev) : Option Nat :=
  if d.b pTrial fTrBusy then
    match d.g pTrial fTrTest with
    | 1 => some 0 | 2 | 3 => some (3 + d.trialInst) | 6 => some 19 | 7 => some 1 | 8 => some 2 | 9 => some 23
    | 10 => some 20 | 11 => some 21 | 12 => some 22 | _ => none
  else none

/-- One word is read: a single error is written back, an uncorrectable word is poisoned (R319, R320). -/
def Dev.scrubAt (d : Dev) (loc : Nat) : Dev :=
  let e := d.eccAt loc
  if e.corr then (((d.setEcc loc ⟨0, false⟩).inc pScrub 0x060).lastErr loc 0xFF e).raise pScrub 0
  else if e.uncorr && !e.poison then (((d.setEcc loc { e with poison := true }).inc pScrub 0x064).lastErr loc 0xFF e).raise pScrub 1
  else d

/-- The scrubber reads its next word. A region that is off, without a clock or under test is skipped for the rest of the pass (R319,
R321). -/
def Dev.scrubWord (d : Dev) : Dev :=
  if !d.b pScrub fScrubEn || !d.running pScrub || d.scrub.waits then d else
  let r := d.g pScrub fScrubRegion
  let loc := regionLoc r d.scrub.idx
  let page := ((regionOf loc).map (·.2)).getD pScrub
  if !d.powered page || d.b page fClkOff || d.trialRegion == some r then
    { d with scrub := { d.scrub with skip := d.scrub.skip ||| BitVec.twoPow 32 r } }.scrubNext
  else
    let d := d.scrubAt loc
    let i := d.scrub.idx + 1
    if i < regionWords r then { d with scrub := { d.scrub with idx := i } }.s pScrub fScrubProgress (i / 256)
    else d.scrubNext

/-- The period of a pass ends (R319, R321). -/
def Dev.scrubPeriod (d : Dev) : Dev :=
  if !d.b pScrub fScrubEn || !d.running pScrub then d
  else if d.scrub.waits then d.scrubEnd
  else if d.scrub.late then d
  else ({ d with scrub := { d.scrub with late := true } }.inc pScrub 0x04C).raise pScrub 9

/-- A write to SCRUB.CTRL (R321, R326). -/
def Dev.scrubCtrlWrite (d : Dev) (w : Who) (v : Word) : Dev :=
  d.access w pScrub 0x040 fun d =>
    let d := d.store pScrub 0x040 v
    let d := d.sb pScrub fScrubBusy (d.b pScrub fScrubEn)
    let d := d.when (v.getLsbD 2) fun d => [0x048, 0x04C, 0x060, 0x064, 0x068, 0x06C, 0x078].foldl (fun d o => d.wr pScrub o 0) d
    d.when (v.getLsbD 1) (·.scrubStart)

def State.flipAt (s : State) : FlipAt → State
  | .word loc bit => s.flip (loc - loc % 4) bit.val
  | .vote i c b => { s with dev := s.dev.voteFlip i.val c.val b.val }

/-! The meanings -/

/-- SCRUB_WORD (R319). -/
def execScrubWord (s : State) : Out := act s (·.scrubWord)
/-- SCRUB_PERIOD_END (R321). -/
def execScrubPeriodEnd (s : State) : Out := act s (·.scrubPeriod)
/-- SCRUB_RESTART (R321): CTRL written with restart = 1. -/
def execScrubRestart (w : Who) (v : Word) (s : State) : Out := act s (·.scrubCtrlWrite w (v ||| 2))
/-- SCRUB_CLR (R326): CTRL written with clr = 1. -/
def execScrubClr (w : Who) (v : Word) (s : State) : Out := act s (·.scrubCtrlWrite w (v ||| 4))
/-- MEMORY_BIT_FLIP (R313). -/
def execMemoryBitFlip (x : FlipAt) (s : State) : Out := actState s (·.flipAt x)

end Sys2Proof.Machine
end

