-- ==== Sys2Proof/Machine/Capture.lean ====
section
/-! DEFINITION. Photo-finish capture: streams, triggers, skew calibration and analyses (R236 to R253). -/

namespace Sys2Proof.Machine

def pCap : Nat := 0x12
def fCapForced : Fld := ⟨0x044, 4, 1⟩
def fCapViolated : Fld := ⟨0x044, 5, 1⟩
def fSkewBusy : Fld := ⟨0x044, 6, 1⟩
def fCapExtra : Fld := ⟨0x044, 8, 8⟩
def fCapMode : Fld := ⟨0x048, 0, 2⟩
def fCapPre : Fld := ⟨0x048, 4, 5⟩
def fTrgSrc : Fld := ⟨0x050, 0, 3⟩
def fTrgSide : Fld := ⟨0x050, 3, 1⟩
def fTrgLane : Fld := ⟨0x050, 4, 3⟩
def fTrgEdge : Fld := ⟨0x050, 8, 2⟩
def fTrgKind : Fld := ⟨0x050, 28, 2⟩
def fTrigOutEn : Fld := ⟨0x054, 0, 1⟩
def fStrSource (s : Nat) : Fld := ⟨0x060 + 4 * s, 5, 2⟩
def fStrDecim (s : Nat) : Fld := ⟨0x060 + 4 * s, 8, 4⟩
def fStrFirst (s : Nat) : Fld := ⟨0x060 + 4 * s, 16, 4⟩
def fStrBanks (s : Nat) : Fld := ⟨0x060 + 4 * s, 20, 4⟩
def fTrigRec (s : Nat) : Fld := ⟨0x080 + 4 * s, 0, 20⟩
def fTrigSym (s : Nat) : Fld := ⟨0x080 + 4 * s, 20, 8⟩
def fStrLate (s : Nat) : Fld := ⟨0x080 + 4 * s, 29, 1⟩
def fSkewOk (s : Nat) : Fld := ⟨0x080 + 4 * s, 30, 1⟩
def fStrValid (s : Nat) : Fld := ⟨0x080 + 4 * s, 31, 1⟩
def fFirstRec (s : Nat) : Fld := ⟨0x0A0 + 4 * s, 0, 20⟩
def fPreShort (s : Nat) : Fld := ⟨0x0A0 + 4 * s, 20, 1⟩
def fAnaResult : Fld := ⟨0x128, 0, 3⟩
def fAnaEngines : Fld := ⟨0x128, 8, 6⟩
def fAnaBusy : Fld := ⟨0x128, 16, 1⟩
def fAnaRuns : Fld := ⟨0x128, 20, 12⟩
def fMaskEn (r : Nat) : Fld := ⟨0x140 + 8 * r, 31, 1⟩
def fAutoRun : Fld := ⟨0x120, 17, 1⟩

/-- The capture states of STATUS.state (R240). -/
def cIdle : Nat := 0
def cArmed : Nat := 1
def cTriggered : Nat := 2
def cDone : Nat := 3
def cAnalysing : Nat := 4

def Dev.capState (d : Dev) : Nat := d.g pCap fCapState
def Dev.capTo (d : Dev) (st : Nat) : Dev := d.s pCap fCapState st

/-! Streams (R236 to R239) -/

def Dev.strOn (d : Dev) (s : Nat) : Bool := d.lg pCap (fStrEn s) == 1

/-- Bytes of a record, by source (R237). -/
def recBytes (source : Nat) : Nat := if source = 2 then 64 else if source = 3 then 2 else 256

/-- Where a bank of the capture buffer lies (R236). -/
def bankBase (j : Nat) : Nat := captureBase + j * 0x20000

/-- The depth D of a stream in records (R241). -/
def Dev.strDepth (d : Dev) (s : Nat) : Nat := (d.lg pCap (fStrBanks s) + 1) * 0x20000 / recBytes (d.lg pCap (fStrSource s))

/-- The enabled streams. -/
def Dev.streams (d : Dev) : List Nat := (List.range 8).filter fun s => d.strOn s

/-- Stream `s`, as the shadow values have it, owns bank `j`. -/
def Dev.strBank (d : Dev) (s j : Nat) : Bool :=
  decide (d.g pCap (fStrFirst s) ≤ j ∧ j ≤ d.g pCap (fStrFirst s) + d.g pCap (fStrBanks s))

/-- The banks of stream `s` carry its rate: 76.8 GB/s a bank against the symbol rate of the lane, in units of 100 kB/s (R237, R238,
R172). -/
def Dev.strFast (d : Dev) (s : Nat) : Bool :=
  let n : Lane := Fin.ofNat 8 (d.g pCap (fStrLane s))
  let source := d.g pCap (fStrSource s)
  let base := if d.g pCap (fStrSide s) = 1 then 2125000 else if d.segmented n then 2278125 else 2266667
  let div := 2 ^ d.lg (pHrx n) ⟨0x048, 0, 2⟩ * 2 ^ d.g pCap (fStrDecim s) * (256 / recBytes source)
  decide (base ≤ (d.g pCap (fStrBanks s) + 1) * 768000 * div)

/-- TRIG_CFG names a source that R242 permits. -/
def Dev.trigAllowed (d : Dev) : Bool :=
  let side := d.g pCap fTrgSide
  let seg := d.segmented (Fin.ofNat 8 (d.g pCap fTrgLane))
  match d.g pCap fTrgSrc with
  | 1 => side == 1 || seg
  | 2 => side == 0 && seg
  | 3 => match d.g pCap fTrgKind with
    | 1 => side == 0
    | 2 => side == 1 || seg
    | _ => true
  | _ => true

/-- The consistency check of CAPTURE fails (R239). -/
def Dev.capBad (d : Dev) : Bool :=
  let on := (List.range 8).filter fun s => d.b pCap (fStrEn s)
  d.capState != cIdle || !d.trigAllowed ||
    on.any (fun s => decide (15 < d.g pCap (fStrFirst s) + d.g pCap (fStrBanks s)) || !d.strFast s ||
      (d.g pCap (fStrSource s) == 3 && d.g pCap (fStrSide s) == 1) ||
      on.any fun t => decide (s < t) && (List.range 16).any fun j => d.strBank s j && d.strBank t j)

/-! States (R240) -/

/-- The unit is armed: streams start from their first banks (R240). -/
def Dev.capStart (d : Dev) : Dev :=
  let d := d.streams.foldl (fun d s => (d.wr pCap (0x080 + 4 * s) 0).wr pCap (0x0A0 + 4 * s) 0) d
  ((d.sb pCap fCapForced false).s pCap fCapExtra 0).capTo cArmed

/-- A capture in DONE is released, by the mode (R240). -/
def Dev.capRelease (d : Dev) : Dev := if d.lg pCap fCapMode = 1 then d.capTo cIdle else d.capStart

/-- The end of an analysis: under auto_run in normal or auto mode the capture is released, unless it stops on a violation (R249,
R250). -/
def Dev.anaFinish (d : Dev) (result : Nat) (violated : Bool) : Dev :=
  let cfg := d.cap.anaCfg
  let d := ((d.s pCap fAnaResult result).sb pCap fAnaBusy false).capTo cDone
  let d := { d with cap := { d.cap with engines := [] } }.raise pCap 3
  let auto := cfg.getLsbD 17 && d.lg pCap fCapMode != 1
  let stop := auto && cfg.getLsbD 18 && violated
  let d := d.sb pCap fCapViolated stop
  d.when (auto && !stop) (·.capRelease)

/-- The analysis ends ABORTED (R240, R251). -/
def Dev.anaAbort (d : Dev) : Dev := d.anaFinish 4 false

/-- The analysing Squad reloads, halts or traps (R251). -/
def Dev.anaSquadLeft (d : Dev) (n : Sq) : Dev :=
  d.when (d.capState == cAnalysing && getBits d.cap.anaCfg 8 4 == n.val) (·.anaAbort)

/-- INCLUDE of an analysis engine: it leaves, and with none left the analysis is aborted (R251). -/
def Dev.anaInclude (d : Dev) (n : Sq) (e : Nat) : Dev :=
  if d.capState == cAnalysing && getBits d.cap.anaCfg 8 4 == n.val then
    let left := d.cap.engines.filter (· != e)
    let d := { d with cap := { d.cap with engines := left } }
    d.when left.isEmpty (·.anaAbort)
  else d

/-- abort (R240): any analysis ends, the unit is IDLE, no stream is valid. -/
def Dev.capAbort (d : Dev) : Dev :=
  let d := d.when (d.capState == cAnalysing) fun d =>
    { (d.s pCap fAnaResult 4).sb pCap fAnaBusy false with cap := { d.cap with engines := [] } }.raise pCap 3
  let d := (List.range 8).foldl (fun d s => d.sb pCap (fStrValid s) false) d
  d.capTo cIdle

/-! Triggers (R241 to R245) -/

/-- Stream `s` places the trigger (R241, R243). -/
def Dev.strTrigger (d : Dev) (s : Nat) (t : StreamTrig) : Dev :=
  let D := d.strDepth s
  let P := min (D * d.lg pCap fCapPre / 16) (D - 1)
  let late := decide (D - P < t.after)
  let total := t.pos + t.after
  let first := if late then (if total ≤ D then 0 else total % D) else if t.pos < P then 0 else (t.pos - P) % D
  let short := decide (t.pos < P)
  let count := if late then min D total else if t.pos < P then t.pos + (D - P) else D
  let d := (((d.s pCap (fTrigRec s) (t.pos % D)).s pCap (fTrigSym s) t.sym).s pCap (fFirstRec s) first).sb pCap (fPreShort s) short
  let d := (d.sb pCap (fStrLate s) late).raiseIf late pCap 6
  { d with cap := { d.cap with count := d.cap.count.set s count
                               lost := if D < t.after then d.cap.lost ++ [s] else d.cap.lost } }

/-- A trigger is accepted in ARMED (R240 to R245); a further condition in TRIGGERED only counts (R251). -/
def Dev.trigger (d : Dev) (forced : Bool) (ts : List StreamTrig) : Dev :=
  if d.capState = cArmed then
    let d := { d with cap := { d.cap with lost := [], count := List.replicate 8 0 } }
    let d := d.streams.foldl (fun d s => d.strTrigger s (ts.getD s ⟨0, 0, 0⟩)) d
    let d := ((d.capTo cTriggered).wr64 pCap 0x058 d.tk).sb pCap fCapForced forced
    let d := (d.raise pCap 0).raiseIf forced pCap 2
    d.when (d.b pCap fTrigOutEn) fun d => { d with cap := { d.cap with trigOut := true } }
  else if d.capState = cTriggered && !forced then d.incSat pCap fCapExtra
  else d

/-- A write to CAPTURE.CTRL (R240, R242, R246). -/
def Dev.capCtrlWrite (d : Dev) (w : Who) (v : Word) (ts : List StreamTrig) : Dev :=
  d.access w pCap 0x040 fun d =>
    if v.getLsbD 2 then d.capAbort else
    let st := d.capState
    let d := d.when (v.getLsbD 0 && st == cIdle) (·.capStart)
    let d := d.when (v.getLsbD 1 && st == cDone) (·.capRelease)
    let d := d.when (v.getLsbD 3 && (st == cArmed || st == cTriggered)) (·.trigger false ts)
    d.when (v.getLsbD 4 && st == cIdle) (·.sb pCap fSkewBusy true)

/-- An edge at TRIG_IN (R242). -/
def Dev.trigIn (d : Dev) (rising : Bool) (ts : List StreamTrig) : Dev :=
  d.when (d.lg pCap fTrgSrc == 5 && (d.lg pCap fTrgEdge == 3 || d.lg pCap fTrgEdge == (if rising then 1 else 2) ||
    (rising && d.lg pCap fTrgEdge == 0))) (·.trigger false ts)

/-- The condition of src 1 to 4 is decided (R242, R243). -/
def Dev.trigCondition (d : Dev) (ts : List StreamTrig) : Dev :=
  d.when (decide (1 ≤ d.lg pCap fTrgSrc) && decide (d.lg pCap fTrgSrc ≤ 4)) (·.trigger false ts)

/-- AUTO_TMO has passed in ARMED (R244). -/
def Dev.autoTimeout (d : Dev) (ts : List StreamTrig) : Dev :=
  d.when (d.capState == cArmed && d.lg pCap fCapMode == 2) (·.trigger true ts)

/-! Analyses (R248 to R250) -/

/-- The engines an analysis may use: excluded, neither lent nor under test, at most max_eng of them (R248). -/
def Dev.anaUsable (d : Dev) (cfg : Word) : List Nat :=
  let n : Sq := Fin.ofNat 16 (getBits cfg 8 4)
  let lent := ((d.sq n).lent.map (·.count)).getD 0
  if d.sqRuns n then
    ((List.range 64).filter fun e => (d.sq n).excl.contains e && decide (e < 64 - lent) && !d.inTrial n e).take (getBits cfg 24 6)
  else []

/-- The source, aux or dest of ANA_CFG is bad (R248, R249). -/
def Dev.anaBad (d : Dev) (cfg : Word) : Bool :=
  let kind := getBits cfg 0 2
  let s := getBits cfg 4 3
  let a := getBits cfg 20 3
  let dest := getBits cfg 12 4
  let live (f : Fld) : Nat := d.lg pCap f
  !d.strOn s || decide (1 < live (fStrSource s)) || (kind == 3 && live (fStrDecim s) != 0) ||
    (kind == 2 && (!d.strOn a || live (fStrSource a) != 2 || live (fStrSide a) != live (fStrSide s) ||
      live (fStrLane a) != live (fStrLane s) || live (fStrDecim a) != live (fStrDecim s))) ||
    d.streams.any fun t => decide (live (fStrFirst t) ≤ dest ∧ dest ≤ live (fStrFirst t) + live (fStrBanks t))

/-- The counts of a result bank: 32 columns of 256 rows of 4 bytes. -/
def countBytes : Nat := 0x8000

/-- An analysis starts in DONE (R249 step 1), or ends at once. -/
def State.anaStart (s : State) : State :=
  let d := s.dev
  let cfg := d.rd pCap 0x120
  if d.capState ≠ cDone ∨ getBits cfg 0 2 = 0 then s else
  let es := d.anaUsable cfg
  let d := { d with cap := { d.cap with anaCfg := cfg, engines := es
                                        geo := (List.range 16).map fun r => d.rd pCap (0x140 + 8 * r)
                                        lim := (List.range 16).map fun r => d.rd pCap (0x144 + 8 * r) } }
  let d := d.s pCap fAnaEngines es.length
  if es.isEmpty then { s with dev := d.anaFinish 2 false }
  else if d.anaBad cfg then { s with dev := d.anaFinish 5 false }
  else
    let s := { s with dev := (d.sb pCap fAnaBusy true).capTo cAnalysing }
    if cfg.getLsbD 16 then s else s.forget (bankBase (getBits cfg 12 4)) countBytes

/-- A count of a result bank goes up by `n`, saturating (R248). -/
def State.countUp (s : State) (dest c row n : Nat) : State :=
  let a := bankBase dest + 4 * (256 * c + row)
  s.setWord a (BitVec.ofNat 32 (min ((s.word a).toNat + n) 0xFFFFFFFF))

/-- The count of a column and row. -/
def State.countAt (s : State) (dest c row : Nat) : Nat := (s.word (bankBase dest + 4 * (256 * c + row))).toNat

/-- Byte `t` of record `k` of stream `s`. -/
def State.recByte (s : State) (str k t : Nat) : Byte :=
  memGet s.mem (bankBase (s.dev.lg pCap (fStrFirst str)) + recBytes (s.dev.lg pCap (fStrSource str)) * k + t)

/-- The level that stream `a` decided for symbol `t` of the block `k` records after (or before) the trigger. -/
def State.recLevel (s : State) (a : Nat) (k : Int) (t : Nat) : Nat :=
  let D := s.dev.strDepth a
  let i := ((s.dev.g pCap (fTrigRec a) : Int) + k).emod D
  (s.recByte a i.toNat (t / 4)).toNat / 4 ^ (t % 4) % 4

/-- Counts the values of stream `str`, per level for kind 2 (R248). Records run cyclically from first_rec. -/
def State.histogram (s : State) (kind str aux dest : Nat) : State :=
  let D := s.dev.strDepth str
  let first := s.dev.g pCap (fFirstRec str)
  let trg := s.dev.g pCap (fTrigRec str)
  let before := (trg + D - first) % D
  (List.range (s.dev.cap.count.getD str 0)).foldl (fun s i =>
    (List.range 256).foldl (fun s t =>
      let v := (s.recByte str ((first + i) % D) t ^^^ 0x80).toNat
      let c := if kind = 2 then s.recLevel aux ((i : Int) - before) t else 0
      s.countUp dest c v 1) s) s

/-- The hits of a mask region: the sum of its counts, saturating (R249 step 3). -/
def State.maskHits (s : State) (dest : Nat) (geo : Word) : Nat :=
  let cols := (List.range 32).filter fun c => decide (getBits geo 16 5 ≤ c ∧ c ≤ getBits geo 24 5)
  let rows := (List.range 256).filter fun r => decide (getBits geo 0 8 ≤ r ∧ r ≤ getBits geo 8 8)
  min ((cols.map fun c => (rows.map fun r => s.countAt dest c r).sum).sum) 0xFFFFFFFF

/-- The analysis ends (R249 steps 2 to 4). For kind 3, `eye` gives the interpolated counts as (column, row, number). With `halt`, DMA
channel 3 of the Squad has halted at an address with a cause (R216). -/
def State.anaEnd (s : State) (eye : List (Nat × Nat × Nat)) (halt : Option (Nat × Word)) : State :=
  if s.dev.capState ≠ cAnalysing then s else
  let cfg := s.dev.cap.anaCfg
  match halt with
  | some (cause, addr) =>
    let p := 0x50 + getBits cfg 8 4
    let d := ((s.dev.s p ⟨0x07C, 0, 2⟩ 2).s p ⟨0x07C, 2, 2⟩ cause).wr p 0x08C addr
    { s with dev := (d.raise p 1).anaFinish 3 false }
  | none =>
    let kind := getBits cfg 0 2
    let dest := getBits cfg 12 4
    let s := if kind = 3 then eye.foldl (fun s e => s.countUp dest (e.1 % 32) (e.2.1 % 256) e.2.2) s
      else s.histogram kind (getBits cfg 4 3) (getBits cfg 20 3) dest
    let on := (List.range 16).filter fun r => (s.dev.cap.geo.getD r 0).getLsbD 31
    let hits := on.map fun r => (r, s.maskHits dest (s.dev.cap.geo.getD r 0))
    let viol := hits.filter fun h => decide ((s.dev.cap.lim.getD h.1 0).toNat < h.2)
    let d := hits.foldl (fun d h => d.wr pCap (0x1C0 + 4 * h.1) (BitVec.ofNat 32 h.2)) s.dev
    let d := d.wr pCap 0x12C (viol.foldl (fun w h => w ||| BitVec.twoPow 32 h.1) 0)
    let d := (d.raiseIf (!viol.isEmpty) pCap 4).s pCap fAnaRuns (d.g pCap fAnaRuns + 1)
    { s with dev := d.anaFinish 1 (!viol.isEmpty) }

/-- A write to ANA_CTRL: clear zeroes the counts of dest and MASK_HITS, go starts an analysis (R249, R250). -/
def State.anaCtrlWrite (s : State) (w : Who) (v : Word) : State :=
  match s.dev.writeStatus w pCap 0x124 with
  | .ok =>
    let s := { s with dev := { s.dev with resp := ⟨.ok, []⟩ } }
    let s := if v.getLsbD 1 then
      { s with dev := s.dev.wrs pCap 0x1C0 (List.replicate 16 0) }.forget (bankBase (getBits (s.dev.rd pCap 0x120) 12 4)) countBytes
      else s
    if v.getLsbD 0 then s.anaStart else s
  | st => { s with dev := { s.dev with resp := ⟨st, []⟩ } }

/-! The end of a capture and the skew calibration (R240, R246, R247) -/

/-- SKEW of a lane is valid (R246). -/
def Dev.skewValid (d : Dev) (side lane : Nat) : Bool := d.b pCap ⟨0x0E0 + 4 * (8 * side + lane), 31, 1⟩

/-- Stream `str` has stopped with its records in its banks (R240, R243, R247). -/
def State.strDone (s : State) (str : Nat) (x : StreamData) : State :=
  let d := s.dev
  let base := bankBase (d.lg pCap (fStrFirst str))
  let len := min x.bytes.length ((d.lg pCap (fStrBanks str) + 1) * 0x20000)
  let d := (d.sb pCap (fStrValid str) (!d.cap.lost.contains str)).wr pCap (0x0C0 + 4 * str) x.align
  let d := d.sb pCap (fSkewOk str) (d.skewValid (d.lg pCap (fStrSide str)) (d.lg pCap (fStrLane str)))
  { s with dev := d.eccForget base len, mem := memSetBytes s.mem base (x.bytes.take len) }

/-- Every enabled stream has written its post-trigger records (R240, R250). -/
def State.capDone (s : State) (xs : List StreamData) : State :=
  if s.dev.capState ≠ cTriggered then s else
  let s := s.dev.streams.foldl (fun s str => s.strDone str (xs.getD str ⟨0, []⟩)) s
  let s := { s with dev := (s.dev.capTo cDone).raise pCap 1 }
  if s.dev.b pCap fAutoRun then s.anaStart else s

/-- The skew calibration ends: it measures every lane in RUN or HOLD (R246). -/
def Dev.skewDone (d : Dev) (vals : List (BitVec 16)) : Dev :=
  if !d.b pCap fSkewBusy then d else
  let d := (List.range 16).foldl (fun d j =>
    let n : Lane := Fin.ofNat 8 j
    let ok := if j < 8 then d.laneValid n else d.g (pHrx n) ⟨0x044, 0, 3⟩ == 3 || d.g (pHrx n) ⟨0x044, 0, 3⟩ == 4
    if ok then d.wr pCap (0x0E0 + 4 * j) (setBits ((vals.getD j 0).zeroExtend 32) 31 1 1)
    else d.sb pCap ⟨0x0E0 + 4 * j, 31, 1⟩ false) d
  (d.sb pCap fSkewBusy false).raise pCap 5

/-! The meanings -/

/-- CAPTURE_START (R240): CTRL written with start = 1. -/
def execCaptureStart (w : Who) (s : State) : Out := act s (·.capCtrlWrite w 1 [])
/-- CAPTURE_RELEASE (R240). -/
def execCaptureRelease (w : Who) (s : State) : Out := act s (·.capCtrlWrite w 2 [])
/-- CAPTURE_ABORT (R240). -/
def execCaptureAbort (w : Who) (s : State) : Out := act s (·.capCtrlWrite w 4 [])
/-- SW_TRIG (R242). -/
def execSwTrig (w : Who) (ts : List StreamTrig) (s : State) : Out := act s (·.capCtrlWrite w 8 ts)
/-- TRIGGER_CONDITION (R242). -/
def execTriggerCondition (ts : List StreamTrig) (s : State) : Out := actOn (0x12) s (·.trigCondition ts)
/-- TRIG_IN_EDGE (R242). -/
def execTrigInEdge (rising : Bool) (ts : List StreamTrig) (s : State) : Out := actOn (0x12) s (·.trigIn rising ts)
/-- AUTO_TRIGGER_TIMEOUT (R244). -/
def execAutoTriggerTimeout (ts : List StreamTrig) (s : State) : Out := actOn (0x12) s (·.autoTimeout ts)
/-- TRIG_OUT_PULSE_END (R245). -/
def execTrigOutPulseEnd (s : State) : Out := actOn (0x12) s fun d => { d with cap := { d.cap with trigOut := false } }
/-- CAP_DONE (R240). -/
def execCapDone (xs : List StreamData) (s : State) : Out := actStateOn (0x12) s (·.capDone xs)
/-- SKEW_RUN (R246). -/
def execSkewRun (w : Who) (s : State) : Out := act s (·.capCtrlWrite w 16 [])
/-- SKEW_CAL_DONE (R246). -/
def execSkewCalDone (vals : List (BitVec 16)) (s : State) : Out := actOn (0x12) s (·.skewDone vals)
/-- ANA_GO (R249): ANA_CTRL written with go = 1. -/
def execAnaGo (w : Who) (s : State) : Out := actState s (·.anaCtrlWrite w 1)
/-- ANA_END (R249). -/
def execAnaEnd (eye : List (Nat × Nat × Nat)) (halt : Option (Nat × Word)) (s : State) : Out := actStateOn (0x12) s (·.anaEnd eye halt)
/-- ANA_CLEAR (R250): ANA_CTRL written with clear = 1. -/
def execAnaClear (w : Who) (s : State) : Out := actState s (·.anaCtrlWrite w 2)

end Sys2Proof.Machine
end

