-- ==== Sys2Proof/Machine/Inner.lean ====
section
/-! DEFINITION. The inner code and the line frame as functions: the extended Hamming code and its Chase decoding (R138 to R141), PRBS31 (R143, R150), the Lap header and its CRC (R149), the interleave (R151) and the choice of erasures (R155). -/

namespace Sys2Proof.Machine

/-! The inner code -/

/-- The check columns of the payload bits: the integers from 3 to 127 that are not powers of two, rising (R138). -/
def payloadCols : List Nat := (List.range 128).filter fun v => decide (3 ≤ v) && !([4, 8, 16, 32, 64].contains v)

/-- The check columns of bits 0 to 126 of a codeword (R138). -/
def checkCols : List Nat := payloadCols ++ [1, 2, 4, 8, 16, 32, 64]

/-- The XOR of the check columns of the bits that are 1, from bit `j` on (R140). -/
def syndromeFrom (r : Nat) : Nat → List Nat → Nat
  | _, [] => 0
  | j, v :: t => (if r.testBit j then v else 0) ^^^ syndromeFrom r (j + 1) t

def syndrome (r : Nat) : Nat := syndromeFrom r 0 checkCols

/-- The XOR of the low `k` bits. -/
def parity (r : Nat) : Nat → Bool
  | 0 => false
  | k + 1 => r.testBit k != parity r k

/-- The codeword of a payload whose bit d_j is bit j (R138). -/
def innerEncode (d : BitVec 120) : BitVec 128 :=
  let s := syndromeFrom d.toNat 0 payloadCols
  let w := d.toNat + s * 2 ^ 120
  BitVec.ofNat 128 (w + (if parity w 127 then 2 ^ 127 else 0))

/-- The bit with a check column: bit 127 for column 0 (R140). -/
def bitOfCol (s : Nat) : Nat := if s = 0 then 127 else checkCols.findIdx (· == s)

/-- Hard decoding of a 128-bit word (R140). -/
def hardDecode (r : Nat) : Option Nat :=
  let s := syndrome r
  if parity r 128 then some (r ^^^ 2 ^ bitOfCol s)
  else if s = 0 then some r else none

/-- The `k` positions of lowest reliability, lower index first on a tie (R141). -/
def weakest (rel : List Nat) : Nat → List Nat
  | 0 => []
  | k + 1 =>
    let best := (List.range rel.length).foldl
      (fun b i => if rel.getD i 99 < rel.getD b 99 then i else b) 0
    best :: weakest (rel.set best 99) k

/-- What Chase decoding delivers (R141). -/
structure Chase where
  word : Nat
  found : Bool
  margin : Nat
  deriving DecidableEq, Repr

/-- The sum of the reliabilities of the bits in which two words differ (R141). -/
def chaseMetric (rel : List Nat) (x : Nat) : Nat :=
  ((List.range 128).zip rel).foldl (fun m e => if x.testBit e.1 then m + e.2 else m) 0

/-- Chase decoding of the hard bits `r` with reliabilities `rel` and 2^tau test patterns (R141). -/
def chase (r : Nat) (rel : List Nat) (tau : Nat) : Chase :=
  let marks := weakest rel tau
  let tries := (List.range (2 ^ tau)).filterMap fun i =>
    let flip := ((List.range tau).zip marks).foldl (fun x e => if i.testBit e.1 then x ^^^ 2 ^ e.2 else x) 0
    (hardDecode (r ^^^ flip)).map fun c => (c, chaseMetric rel (c ^^^ r))
  match tries with
  | [] => ⟨r, false, 0⟩
  | t :: ts =>
    let best := ts.foldl (fun b x => if x.2 < b.2 then x else b) t
    let m := (t :: ts).foldl (fun m x => if x.1 = best.1 then m else min m (x.2 - best.2)) 63
    ⟨best.1, true, m⟩

/-! PRBS31 (R143, R150) -/

/-- `k` bits of the generator x^31 + x^28 + 1, first bit lowest, and the register after them. -/
def prbs31 : Nat → BitVec 31 → Nat × BitVec 31
  | 0, s => (0, s)
  | k + 1, s =>
    let b := s.getLsbD 30 != s.getLsbD 27
    let n := prbs31 k ((s <<< 1) ||| (if b then 1 else 0))
    ((if b then 1 else 0) + 2 * n.1, n.2)

/-! The Lap header (R149) -/

def lapMarker : BitVec 64 := 0x9A5CE3B16D0F4727#64

/-- CRC-16/CCITT over the `k` low bits of a word, most significant first, from a register value. -/
def crc16Bits (x : Nat) : Nat → Nat → Nat
  | 0, c => c
  | k + 1, c =>
    let fb := (c / 0x8000 % 2) ^^^ (x / 2 ^ k % 2)
    crc16Bits x k ((c * 2 % 0x10000) ^^^ (if fb = 1 then 0x1021 else 0))

/-- The header: h_0 is the most significant bit. -/
def lapHeader (size : BitVec 2) (idx phys : BitVec 3) (lap : BitVec 32) (map : BitVec 24) (srcOk rxOk : Bool) (lat : BitVec 24) :
    BitVec 480 :=
  let body : BitVec 464 :=
    lapMarker ++ size ++ idx ++ phys ++ lap ++ map ++ BitVec.ofBool srcOk ++ BitVec.ofBool rxOk ++ 0#6 ++ lat ++ 0#304
  body ++ BitVec.ofNat 16 (crc16Bits body.toNat 464 0xFFFF)

/-- Bits h_i to h_j of a header. -/
def hdrField (h : BitVec 480) (i j : Nat) : Nat := h.toNat / 2 ^ (479 - j) % 2 ^ (j + 1 - i)

def hdrCrcOk (h : BitVec 480) : Bool := crc16Bits (h.toNat / 2 ^ 16) 464 0xFFFF == hdrField h 464 479

/-- How many of the low `k` bits are 1. -/
def ones (x : Nat) : Nat → Nat
  | 0 => 0
  | k + 1 => ones x k + (if x.testBit k then 1 else 0)

/-- A received codeword matches the marker: at most 3 bits differ (R166). -/
def markerMatches (h : BitVec 480) : Bool := decide (ones (hdrField h 0 63 ^^^ lapMarker.toNat) 64 ≤ 3)

/-! The interleave (R151) -/

/-- The symbol that position `p` of an interleave block carries on a lane, in a group of `l` lanes: the place and the symbol of its
codeword. -/
def symbolAt (l laneIdx p : Nat) : Nat × Nat := (p % (3 * l), p / (3 * l) * l + laneIdx)

/-- The 120 payload bits of inner codeword `j` of a block on a lane, with filler bits from the lane's generator. -/
def blockPayload (l laneIdx : Nat) (places : List Place) (j : Nat) (s : BitVec 31) : BitVec 120 × BitVec 31 :=
  let r := (List.range 12).foldl (fun (acc : Nat × BitVec 31) i =>
    let at' := symbolAt l laneIdx (12 * j + i)
    match places.getD at'.1 .filler with
    | .filler =>
      let g := prbs31 10 acc.2
      (acc.1 + g.1 * 2 ^ (10 * i), g.2)
    | .word x => (acc.1 + x.toNat / 2 ^ (10 * at'.2) % 1024 * 2 ^ (10 * i), acc.2)) (0, s)
  (BitVec.ofNat 120 r.1, r.2)

/-! Erasures (R155) -/

/-- One flag is kept before another: E0 before E1 before E2, E2 by rising margin, then the lower position and the lower lane. -/
def flagBefore (a b : Flag) : Bool :=
  let key (f : Flag) : List Nat := [f.rule.val, if f.rule.val = 2 then f.margin else 0, f.pos, f.lane.val]
  decide (key a < key b)

def insertFlag (x : Flag) : List Flag → List Flag
  | [] => [x]
  | y :: t => if flagBefore x y then x :: y :: t else y :: insertFlag x t

def sortFlags : List Flag → List Flag
  | [] => []
  | x :: t => insertFlag x (sortFlags t)

/-- The outcome of decoding one RS codeword: whether it is corrected, with erasures, and whether flags were dropped. -/
structure RsResult where
  ok : Bool
  erasures : Bool
  overflow : Bool
  deriving DecidableEq, Repr

def wrongOnes (fs : List Flag) : Nat := fs.countP (·.wrong)

/-- Decoding with `errs` errors in unflagged symbols (R155). -/
def rsDecode (maxEra errs : Nat) (fs : List Flag) : RsResult :=
  let kept := (sortFlags fs).take maxEra
  let many := decide (maxEra < fs.length)
  let e := if many then errs + wrongOnes ((sortFlags fs).drop maxEra) else errs
  if 2 * e + (if many then kept.length else fs.length) ≤ 30 then ⟨true, true, many⟩
  else if errs + wrongOnes fs ≤ 15 then ⟨true, false, many⟩
  else ⟨false, false, many⟩

end Sys2Proof.Machine
end

