-- ==== Sys2Proof/Machine/Coding.lean ====
section
/-! DEFINITION. The coding subsystem (R138 to R171): FEC_LTX, FEC_LRX, FEC_HRX, FEC_HTX and FRAMER. -/

namespace Sys2Proof.Machine

/-! Groups (R20 to R25) and hidden parts -/

/-- The applied size code of the group of lane `n`, its number of lanes and its lowest lane (R20, R23). -/
def Dev.sizeCode (d : Dev) (n : Lane) : Nat := getBits (d.lrd 0x44 0x040) (2 * n.val) 2
def Dev.groupSize (d : Dev) (n : Lane) : Nat := 2 ^ d.sizeCode n
def Dev.groupBase (d : Dev) (n : Lane) : Lane := Fin.ofNat 8 (n.val / d.groupSize n * d.groupSize n)

/-- The lanes of the group of lane `n`. -/
def Dev.groupLanes (d : Dev) (n : Lane) : List Lane :=
  (List.range (d.groupSize n)).map fun i => Fin.ofNat 8 ((d.groupBase n).val + i)

def Dev.cl (d : Dev) (n : Lane) : CodeLane := d.code.lanes.get n
def Dev.cg (d : Dev) (n : Lane) : CodeGroup := d.code.groups.get n
def Dev.updCl (d : Dev) (n : Lane) (f : CodeLane → CodeLane) : Dev :=
  { d with code := { d.code with lanes := d.code.lanes.set n.val (f (d.cl n)) } }
def Dev.updCg (d : Dev) (n : Lane) (f : CodeGroup → CodeGroup) : Dev :=
  { d with code := { d.code with groups := d.code.groups.set n.val (f (d.cg n)) } }

/-- Adds to a 64-bit counter, which wraps (R171). -/
def Dev.add64 (d : Dev) (p off k : Nat) : Dev := d.wr64 p off (d.rd64 p off + BitVec.ofNat 64 k)

def Dev.onLanes (d : Dev) (ls : List Lane) (f : Lane → Dev → Dev) : Dev := ls.foldl (fun d n => f n d) d

/-! Fields (R171) -/

def pFecLtx : Nat := 0x40
def pFecLrx : Nat := 0x41
def pFecHrx : Nat := 0x42
def pFecHtx : Nat := 0x43
def pFramer : Nat := 0x44
def fForceFill : Fld := ⟨0x040, 0, 1⟩
def fAllFiller (n : Lane) : Fld := ⟨0x044, n.val, 1⟩
def fFillerLast (n : Lane) : Fld := ⟨0x044, 8 + n.val, 1⟩
def fFillThr (n : Lane) : Fld := ⟨0x060 + 4 * n.val, 0, 4⟩
def fFifoOcc (n : Lane) : Fld := ⟨0x080 + 4 * n.val, 0, 5⟩
def fTp (n : Lane) : Fld := ⟨0x040 + 4 * n.val, 0, 2⟩
def fE1En (n : Lane) : Fld := ⟨0x060 + 4 * n.val, 0, 1⟩
def fE2En (n : Lane) : Fld := ⟨0x060 + 4 * n.val, 1, 1⟩
def fMarginThr (n : Lane) : Fld := ⟨0x060 + 4 * n.val, 4, 4⟩
def fMaxEra (n : Lane) : Fld := ⟨0x060 + 4 * n.val, 8, 6⟩
def fTuneEn (n : Lane) : Fld := ⟨0x080 + 4 * n.val, 0, 1⟩
def fCwLock (n : Lane) : Fld := ⟨0x0A0 + 4 * n.val, 0, 1⟩
def fCwOffset (n : Lane) : Fld := ⟨0x0A0 + 4 * n.val, 8, 6⟩
def fFailExp : Fld := ⟨0x0C0, 8, 4⟩
def fCorrThrLrx : Fld := ⟨0x0C0, 0, 5⟩
def fCorrThrHrx : Fld := ⟨0x040, 0, 5⟩
def fAmLock (n : Lane) : Fld := ⟨0x044, n.val, 1⟩
def fLf (n : Lane) : Fld := ⟨0x060, 8 + n.val, 1⟩
def fRateLo (n : Lane) : Fld := ⟨0x040 + 4 * n.val, 0, 4⟩
def fRateHi (n : Lane) : Fld := ⟨0x040 + 4 * n.val, 8, 4⟩
def fLapState (n : Lane) : Fld := ⟨0x080 + 4 * n.val, 0, 2⟩
def fFarIdx (n : Lane) : Fld := ⟨0x080 + 4 * n.val, 4, 3⟩
def fIdOk (n : Lane) : Fld := ⟨0x080 + 4 * n.val, 7, 1⟩
def fLapSkew (n : Lane) : Fld := ⟨0x080 + 4 * n.val, 16, 16⟩
def fAligned (n : Lane) : Fld := ⟨0x0A0 + 4 * n.val, 0, 1⟩
def fLatValid (n : Lane) : Fld := ⟨0x0A0 + 4 * n.val, 1, 1⟩
def fFarSrcOk (n : Lane) : Fld := ⟨0x0A0 + 4 * n.val, 2, 1⟩
def fFarRxOk (n : Lane) : Fld := ⟨0x0A0 + 4 * n.val, 3, 1⟩
/-- HRXn.STATUS.lane_state (R202). -/
def fHostState : Fld := ⟨0x044, 0, 3⟩

/-- The counter blocks of a lane (R171). -/
def cLrx (n : Lane) : Nat := 0x200 + 0x50 * n.val
def cHrx (n : Lane) : Nat := 0x100 + 0x20 * n.val
def cFramer (n : Lane) : Nat := 0x200 + 0x20 * n.val

def Dev.hostValid (d : Dev) (n : Lane) : Bool := d.g (pHrx n) fHostState == 3 || d.g (pHrx n) fHostState == 4

def Dev.cwLocked (d : Dev) (n : Lane) : Bool := d.b pFecLrx (fCwLock n)

/-- Every host lane of the group of lane `n` is in alignment-marker lock (R158, R171). -/
def Dev.srcOk (d : Dev) (n : Lane) : Bool := (d.groupLanes n).all fun k => d.b pFecHrx (fAmLock k)

/-- The group of lane `n` is aligned (R167). -/
def Dev.aligned (d : Dev) (n : Lane) : Bool := d.b pFramer (fAligned (d.groupBase n))

/-- E0 flags the lane (R154). -/
def Dev.e0 (d : Dev) (n : Lane) : Bool :=
  !d.laneValid n || !d.cwLocked n || d.g pFramer (fLapState n) != 2

/-- An event that a page raises at most once per millisecond (R170): 33 periods of the Timekeeper have passed since the last. -/
def msPassed (now : Long) : Option Long → Bool
  | none => true
  | some t => decide (33 ≤ now.toNat - t.toNat)

/-! Toward the line -/

/-- The interleave block that begins at codeword `k` of a Lap (R148). -/
def blockAt (k : Nat) : Option Nat := if 4 ≤ k then some ((k - 4) / 136) else none

/-- Slot `j` of the Lap in progress is a filler slot (R149). -/
def CodeGroup.fillerSlot (g : CodeGroup) (j : Nat) : Bool := g.map.getLsbD (23 - j)

/-- The next codeword of the buffer of a host lane: codewords of error-marked blocks where it has none (R169). -/
def Dev.takeWord (d : Dev) (n : Lane) : Place × Dev :=
  match (d.cl n).fifo with
  | w :: t => (.word w, d.updCl n fun c => { c with fifo := t })
  | [] => (.word (Config.erroredWord d.free), d.drawn)

/-- The places of block `b`, taken from the buffers at its start (R151, R158). -/
def Dev.loadBlock (d : Dev) (base : Lane) (b : Nat) : Dev :=
  let g := d.cg base
  let r := (List.range 3).foldl (fun (acc : List Place × Dev) j =>
    (d.groupLanes base).foldl (fun (acc : List Place × Dev) n =>
      if g.fillerSlot (3 * b + j) then (acc.1 ++ [.filler], acc.2)
      else let t := acc.2.takeWord n; (acc.1 ++ [t.1], t.2)) acc) ([], d)
  r.2.updCg base fun g => { g with blk := some b, places := r.1 }

/-- One inner codeword goes out on lane `n`. -/
def Dev.sendCw (d : Dev) (n : Lane) (payload : BitVec 120) : Dev := d.updCl n fun c => { c with sent := innerEncode payload }

/-- INNER_ENCODE (R143, R148, R150, R151): in a Concatenated group the payload is the next 120 bits of HRXn, or PRBS31 while HRXn
is not valid or LTXn glides (R197); in a Segmented group it is the next codeword of the Lap. -/
def Dev.innerEncodeLane (d : Dev) (n : Lane) (bits : BitVec 120) : Dev :=
  let c := d.cl n
  if d.segmented n then
    let base := d.groupBase n
    if c.pos < 4 then
      (d.updCl n fun c => { c with pos := c.pos + 1 }).sendCw n
        (BitVec.ofNat 120 ((List.range 120).foldl (fun x j => x + c.hdr.toNat / 2 ^ (479 - (120 * c.pos + j)) % 2 * 2 ^ j) 0))
    else if c.pos < 1092 then
      let b := (c.pos - 4) / 136
      let d := if (d.cg base).blk = some b then d else d.loadBlock base b
      let r := blockPayload (d.groupSize n) (n.val - base.val) (d.cg base).places ((c.pos - 4) % 136) c.prbsTx
      (d.updCl n fun c => { c with pos := c.pos + 1, prbsTx := r.2 }).sendCw n r.1
    else d
  else if d.hostValid n && !(d.tx n).glide then d.sendCw n bits
  else
    let r := prbs31 120 c.prbsTx
    (d.updCl n fun c => { c with prbsTx := r.2 }).sendCw n (BitVec.ofNat 120 r.1)

/-- LAP_START (R149, R158, R165): the filler map and the header of a Lap of the group of lane `n` are decided; `lat` is the latency
measured toward the line. -/
def Dev.lapStart (d : Dev) (n : Lane) (lat : BitVec 24) : Dev :=
  let base := d.groupBase n
  if !d.segmented n then d else
  let ls := d.groupLanes n
  let counts := ls.map fun k => (d.cl k).fifo.length
  let m := counts.foldl min 16
  let src := d.srcOk n
  let all := !src || d.b pFecLtx fForceFill
  let last := decide (m < d.lg pFecLtx (fFillThr base))
  let map : BitVec 24 := if all then 0xFFFFFF else if last then 1 else 0
  let was := d.b pFecLtx (fAllFiller base)
  let lap := (d.cg base).lap
  let d := d.onLanes ls fun k d =>
    let d := (d.s pFecLtx (fFifoOcc k) (d.cl k).fifo.length).sb pFecLtx (fAllFiller k) all
    let d := d.sb pFecLtx (fFillerLast k) (all || last)
    d.updCl k fun c => { c with
      pos := 0
      hdr := lapHeader (BitVec.ofNat 2 (d.sizeCode n)) (BitVec.ofNat 3 (k.val - base.val)) (BitVec.ofNat 3 k.val) lap map
        (src && !d.b pFecLtx fForceFill) (d.aligned n) lat }
  let d := d.updCg base fun g => { g with lap := lap + 1, map := map, blk := none, latTx := !all }
  let d := d.add64 pFecLtx (0x100 + 0x10 * base.val) (ones map.toNat 24)
  let d := (d.wr pFramer (0x0C0 + 4 * base.val) ((lap.truncate 8 : BitVec 8) ++ lat)).sb pFramer (fLatValid base)
    (!all && (d.cg base).latRx)
  d.raiseIf (all && !was) pFecLtx 1

/-- HOST_RS_DECODE (R147, R158, R160): one host codeword with a number of symbol errors. -/
def Dev.hostRsDecode (d : Dev) (n : Lane) (data : BitVec 5440) (errs : Nat) : Dev :=
  if !d.b pFecHrx (fAmLock n) then d else
  let c := cHrx n
  let bad := decide (15 < errs)
  let d := d.add64 pFecHrx c 1
  let d := d.when (!bad && errs != 0) fun d => (d.add64 pFecHrx (c + 8) 1).add64 pFecHrx (c + 0x10) errs
  let d := d.when bad fun d => (d.add64 pFecHrx (c + 0x18) 1).raise pFecHrx 2
  let d := if !bad && decide (d.g pFecHrx fCorrThrHrx ≤ errs) && msPassed d.tk d.code.corrHrx then
      ({ d with code := { d.code with corrHrx := some d.tk } }).raise pFecHrx 3
    else d
  if !d.segmented n then d
  else if 16 ≤ (d.cl n).fifo.length then (d.add64 pFecLtx (0x108 + 0x10 * n.val) 1).raise pFecLtx 0
  else if bad then
    let w := Config.erroredWord d.free
    d.drawn.updCl n fun c => { c with fifo := c.fifo ++ [w] }
  else d.updCl n fun c => { c with fifo := c.fifo ++ [data] }

/-- AM_LOCK and AM_LOST (R147). -/
def Dev.amLock (d : Dev) (n : Lane) : Dev :=
  if d.hostValid n && !d.b pFecHrx (fAmLock n) then (d.sb pFecHrx (fAmLock n) true).raise pFecHrx 0 else d

def Dev.amLost (d : Dev) (n : Lane) : Dev :=
  if d.b pFecHrx (fAmLock n) then (d.sb pFecHrx (fAmLock n) false).raise pFecHrx 1 else d

/-! From the line -/

/-- INNER_CODEWORD_DECODE (R141, R143, R154): one received codeword as its 128 soft values of 4 bits. -/
def Dev.innerDecode (d : Dev) (n : Lane) (soft : List (BitVec 4)) : Dev :=
  if !d.cwLocked n then
    if d.segmented n then d else
    let r := prbs31 120 (d.cl n).prbsRx
    d.updCl n fun c => { c with got := BitVec.ofNat 120 r.1, gotValid := false, prbsRx := r.2 }
  else
    let bits := (List.range 128).map fun j => soft.getD j 0
    let hard := (bits.zip (List.range 128)).foldl (fun x e => if e.1.getLsbD 3 then x + 2 ^ e.2 else x) 0
    let r := chase hard (bits.map fun v => v.toNat % 8) (2 + d.lg pFecLrx (fTp n))
    let valid := d.laneValid n
    let seg := d.segmented n
    let e1 := seg && !r.found && d.lg pFecLrx (fE1En n) == 1
    let e2 := seg && r.found && decide (r.margin ≤ d.lg pFecLrx (fMarginThr n)) && d.lg pFecLrx (fE2En n) == 1
    let flag := seg && (d.e0 n || e1 || e2)
    let c := cLrx n
    let d := d.add64 pFecLrx c 1
    let d := d.when (r.found && r.word % 2 ^ 120 != hard % 2 ^ 120) (·.add64 pFecLrx (c + 8) 1)
    let d := d.when (!r.found) (·.add64 pFecLrx (c + 0x10) 1)
    let d := d.when flag (·.add64 pFecLrx (c + 0x18) 12)
    if seg || (valid && !(d.hx n).glide) then
      d.updCl n fun c => { c with got := BitVec.ofNat 120 r.word, gotValid := valid,
                                  flag := if seg && d.e0 n then 1 else if e1 then 2 else if e2 then 3 else 0, margin := r.margin }
    else
      let g := prbs31 120 (d.cl n).prbsRx
      d.updCl n fun c => { c with got := BitVec.ofNat 120 g.1, gotValid := false, prbsRx := g.2 }

/-- INNER_FAIL_THR (R170): the inner failures of a lane in a window of 1 ms. -/
def Dev.innerFailThr (d : Dev) (_n : Lane) (fails : Nat) : Dev := d.raiseIf (decide (2 ^ d.g pFecLrx fFailExp ≤ fails)) pFecLrx 5

/-- CW_LOCK (R142, R166): 32 of 64 codewords at an offset are clean. -/
def Dev.cwLock (d : Dev) (n : Lane) (offset : Nat) : Dev :=
  if d.laneValid n && !d.cwLocked n then
    let d := ((d.sb pFecLrx (fCwLock n) true).s pFecLrx (fCwOffset n) offset).raise pFecLrx 0
    d.when (d.segmented n) fun d => (d.s pFramer (fLapState n) 1).updCl n fun c => { c with firstMatch := false }
  else d

/-- CW_LOCK_LOST (R142, R166): four windows of 64 codewords with fewer than 8 clean ones. -/
def Dev.cwLockLost (d : Dev) (n : Lane) : Dev :=
  if d.cwLocked n then ((d.sb pFecLrx (fCwLock n) false).s pFramer (fLapState n) 0).raise pFecLrx 1 else d

/-- Local Fault toward the host lanes of the group of lane `n` (R163). -/
def Dev.lfUpdate (d : Dev) (n : Lane) : Dev :=
  let base := d.groupBase n
  let on := d.segmented n && (!d.b pFramer (fAligned base) || !d.b pFramer (fFarSrcOk base))
  let was := d.b pFecHtx (fLf base)
  let d := d.onLanes (d.groupLanes n) fun k d => d.sb pFecHtx (fLf k) on
  if on = was then d else d.raise pFecHtx (if on then 0 else 1)

/-- The skew of each lane of a group that is in Lap lock, after the earliest (R167, R171). -/
def Dev.skewUpdate (d : Dev) (n : Lane) : Dev :=
  let ls := (d.groupLanes n).filter fun k => (d.cl k).lapLock
  match ls with
  | [] => d
  | k :: _ =>
    let lo := ls.foldl (fun m j => min m (d.cl j).phase) (d.cl k).phase
    d.onLanes ls fun j d => d.s pFramer (fLapSkew j) (min 65535 ((d.cl j).phase - lo).toNat)

/-- The lanes of a group that are in Lap lock lie within 65,535 symbols (R167). -/
def Dev.skewInRange (d : Dev) (n : Lane) : Bool :=
  let ps := ((d.groupLanes n).filter fun k => (d.cl k).lapLock).map fun k => (d.cl k).phase
  ps.all fun a => ps.all fun b => decide (a - b ≤ 65535)

/-- A group gains or loses alignment (R167); `slipped` says that a lane has rejoined with a skew that differs by more than 64
symbols. -/
def Dev.alignUpdate (d : Dev) (n : Lane) (slipped : Bool) : Dev :=
  let base := d.groupBase n
  let ls := d.groupLanes n
  let locked := ls.filter fun k => (d.cl k).lapLock
  let idOk := locked.all fun k => d.b pFramer (fIdOk k)
  let inRange := d.skewInRange n
  let d := d.raiseIf (!inRange && !(d.cg base).skewBad) pFramer 4
  let d := d.updCg base fun g => { g with skewBad := !inRange }
  let was := d.b pFramer (fAligned base)
  let lost := was && (locked.isEmpty || !idOk || !inRange || slipped)
  let gain := !was && locked.length == ls.length && idOk && inRange
  let d := if lost then (d.sb pFramer (fAligned base) false).raise pFramer 3
    else if gain then (d.sb pFramer (fAligned base) true).raise pFramer 2 else d
  d.lfUpdate n

/-- A marker position without a match: four in a row lose Lap lock (R166). -/
def Dev.lapMiss (d : Dev) (n : Lane) : Dev :=
  let d := d.updCl n fun c => { c with miss := c.miss + 1 }
  if (d.cl n).miss < 4 then d else
  let d := d.updCl n fun c => { c with lapLock := false, firstMatch := false, miss := 0 }
  let d := (d.s pFramer (fLapState n) (if d.cwLocked n then 1 else 0)).raise pFramer 1
  d.alignUpdate n false

/-- A header with a valid crc on a lane in Lap lock (R149, R161, R165, R167). -/
def Dev.lapFields (d : Dev) (n : Lane) (h : BitVec 480) (arrival : Int) (latRx : BitVec 24) : Dev :=
  let base := d.groupBase n
  let idOk := hdrField h 64 65 == d.sizeCode n && hdrField h 66 68 == n.val - base.val
  let lap := hdrField h 72 103
  let map := hdrField h 104 127
  let d := (d.s pFramer (fFarIdx n) (hdrField h 66 68)).sb pFramer (fIdOk n) idOk
  let d := d.raiseIf (!idOk && !(d.cl n).idBad) pFramer 5
  let old := d.g pFramer (fLapSkew n)
  let rejoin := d.g pFramer (fLapState n) != 2
  let d := d.updCl n fun c => { c with idBad := !idOk, phase := arrival - 69888 * lap }
  let d := (d.s pFramer (fLapState n) 2).skewUpdate n
  let new := d.g pFramer (fLapSkew n)
  let slipped := d.b pFramer (fAligned base) && rejoin && (decide (old + 64 < new) || decide (new + 64 < old))
  let d := (d.s pFramer (fFarSrcOk base) (hdrField h 128 128)).s pFramer (fFarRxOk base) (hdrField h 129 129)
  let d := if (d.cg base).fillLap = some (BitVec.ofNat 32 lap) then d else
    (d.add64 pFramer (cFramer base + 8) (ones map 24)).updCg base fun g =>
      { g with fillLap := some (BitVec.ofNat 32 lap), latRx := !map.testBit 23 }
  let d := d.when (n == base) fun d =>
    (d.wr pFramer (0x0E0 + 4 * base.val) (BitVec.ofNat 8 lap ++ latRx)).sb pFramer (fLatValid base)
      ((d.cg base).latTx && (d.cg base).latRx)
  d.alignUpdate n slipped

/-- LAP_HEADER_RECEIVED (R165 to R167): the codewords at a candidate or expected marker position, `spaced` where they follow the
last match by a whole number of 1,092 codewords; `arrival` is the time of the Lap's first symbol at the lane, in symbols, and
`latRx` the latency measured from the line. -/
def Dev.lapHeader (d : Dev) (n : Lane) (h : BitVec 480) (spaced : Bool) (arrival : Int) (latRx : BitVec 24) : Dev :=
  if !d.segmented n then d else
  let hit := markerMatches h
  let counted (d : Dev) : Dev :=
    let d := d.add64 pFramer (cFramer n) 1
    if hdrCrcOk h then d.lapFields n h arrival latRx
    else ((d.s pFramer (fLapState n) 2).add64 pFramer (cFramer n + 0x10) 1).raise pFramer 6
  if (d.cl n).lapLock then
    if hit && spaced then
      if d.cwLocked n then counted (d.updCl n fun c => { c with miss := 0 })
      else d.updCl n fun c => { c with miss := 0 }
    else if spaced then d.lapMiss n
    else d
  else if d.cwLocked n && hit then
    if (d.cl n).firstMatch && spaced then
      counted ((d.updCl n fun c => { c with lapLock := true, miss := 0 }).raise pFramer 0)
    else d.updCl n fun c => { c with firstMatch := true }
  else if spaced then d.updCl n fun c => { c with firstMatch := false }
  else d

/-- RS_CODEWORD_DECODE (R155, R156, R161): a codeword with its flagged symbols and the errors in unflagged ones; `slot23` numbers
the codewords of slot 23 in a Lap without a valid header. -/
def Dev.rsCodeword (d : Dev) (n : Lane) (fs : List Flag) (errs : Nat) (slot23 : Option Nat) : Dev :=
  let base := d.groupBase n
  if !d.segmented n || !d.aligned n then d else
  let r := rsDecode (d.lg pFecLrx (fMaxEra base)) errs fs
  let c := cLrx base
  let fixed := errs + wrongOnes fs
  let d := (d.add64 pFecLrx (c + 0x30) 1).raiseIf r.overflow pFecLrx 3
  let d := if r.ok then
      let d := d.add64 pFecLrx (c + 0x38) fixed
      let d := d.when r.erasures fun d => fs.foldl (fun d f =>
        d.add64 pFecLrx (cLrx f.lane + (if f.wrong then 0x20 else 0x28)) 1) d
      if decide (d.g pFecLrx fCorrThrLrx ≤ fixed) && msPassed d.tk d.code.corrLrx then
        ({ d with code := { d.code with corrLrx := some d.tk } }).raise pFecLrx 6
      else d
    else (d.add64 pFecLrx (c + 0x40) 1).raise pFecLrx 2
  match slot23 with
  | none => d
  | some i =>
    let ok := r.ok || (i != 0 && (d.cg base).infOk)
    let d := d.updCg base fun g => { g with infOk := ok }
    if i + 1 = d.groupSize n then
      (d.add64 pFramer (cFramer base + 0x18) 1).when (!ok) (·.add64 pFramer (cFramer base + 8) 1)
    else d

/-- RATE_MATCH_BLOCK (R162, R163): `taken` blocks leave for the host, and one 66-bit block arrives. While Local Fault is sent,
every 80 blocks sent are one codeword of it. -/
def Dev.rateMatch (d : Dev) (n : Lane) (b : Blk) (taken : Nat) : Dev :=
  let p := pFecHtx
  let c := cHrx n
  if !d.segmented n then d else
  let lo := 80 * d.lg p (fRateLo n)
  let hi := 80 * d.lg p (fRateHi n)
  let restart (d : Dev) : Dev :=
    ((d.updCl n fun c => { c with buf := (lo + hi) / 2 }).add64 p (c + 0x18) 1).raise p 2
  if d.b p (fLf n) then
    let k := (d.cl n).lfBlocks + taken
    (d.updCl n fun c => { c with lfBlocks := k % 80 }).add64 p (c + 0x10) (k / 80)
  else
  let fill := (d.cl n).buf
  if fill < taken then restart d else
  let fill := fill - taken
  let r : Nat × Nat × Nat :=
    if fill < lo ∧ (b = .idle ∨ b = .term) then (fill + 2, 1, 0)
    else if hi < fill ∧ b = .idle then (fill, 0, 1)
    else (fill + 1, 0, 0)
  let d := (d.add64 p c r.2.1).add64 p (c + 8) r.2.2
  if 80 * Config.rateBuffer < r.1 then restart d else d.updCl n fun c => { c with buf := r.1 }

/-! Tuning (R157) -/

/-- TUNE_WINDOW_END (R157): the firmware adjusts margin_thr by the counts of the window, then arms and commits FEC_LRX. -/
def Dev.tuneWindowEnd (d : Dev) (n : Lane) : Dev :=
  let p := pFecLrx
  if !d.b p (fTuneEn n) || !d.segmented n || !d.coachUp then d else
  let c := d.cl n
  let dh := (d.rd64 p (cLrx n + 0x20) - c.tuneHit).toNat
  let df := (d.rd64 p (cLrx n + 0x28) - c.tuneFalse).toNat
  let d := d.updCl n fun c => { c with tuneHit := d.rd64 p (cLrx n + 0x20), tuneFalse := d.rd64 p (cLrx n + 0x28) }
  let cur := d.g p (fMarginThr n)
  let move (new : Nat) (d : Dev) : Dev :=
    let w : Who := ⟨0, 0, false⟩
    let off := (fMarginThr n).off
    if d.writeStatus w p off != .ok then d else
    let d := d.storeShadow p off (setBits (d.rd p off) 4 4 new)
    ((d.sb p fArm true).commitRequest (2 ^ 18)).raise p 4
  if 0 < df ∧ dh ≤ df then (if cur = 0 then d.raise p 7 else move (cur - 1) d)
  else if 0 < dh ∧ 4 * df ≤ dh then (if cur = 15 then d.raise p 7 else move (cur + 1) d)
  else d

/-- A write to FEC_LRX.TUNE_CFG[n]: a window starts where en becomes 1 (R157). -/
def Dev.tuneCfgWrite (d : Dev) (w : Who) (n : Lane) (v : Word) : Dev :=
  d.access w pFecLrx (0x080 + 4 * n.val) fun d =>
    let was := d.b pFecLrx (fTuneEn n)
    let d := d.store pFecLrx (0x080 + 4 * n.val) v
    d.when (!was) (·.updCl n fun c =>
      { c with tuneHit := d.rd64 pFecLrx (cLrx n + 0x20), tuneFalse := d.rd64 pFecLrx (cLrx n + 0x28) })

/-! Counters (R171) -/

/-- CNT_CTRL of a CODING page: its offset, and where its counters stand. -/
def codingCnt (p : Nat) : Option (Nat × Nat × Nat) :=
  match p with
  | 0x40 => some (0x0A0, 0x100, 32)
  | 0x41 => some (0x0C4, 0x200, 160)
  | 0x42 => some (0x048, 0x100, 64)
  | 0x43 => some (0x064, 0x100, 64)
  | 0x44 => some (0x100, 0x200, 64)
  | _ => none

/-- A write to CNT_CTRL of a CODING page (R171). -/
def Dev.cntCtrlWrite (d : Dev) (w : Who) (p : Nat) (v : Word) : Dev :=
  match codingCnt p with
  | none => d
  | some (off, base, k) => d.access w p off fun d =>
    if v.getLsbD 0 then
      let d := d.wrs p base (List.replicate k 0)
      if p = pFecLrx then d.eachLane fun n d => d.updCl n fun c => { c with tuneHit := 0, tuneFalse := 0 } else d
    else d

/-! The meanings -/

/-- INNER_ENCODE (R143). -/
def execInnerEncode (n : Lane) (bits : BitVec 120) (s : State) : Out := actOn (0x40) s (·.innerEncodeLane n bits)

/-- INNER_CODEWORD_DECODE (R141). -/
def execInnerCodewordDecode (n : Lane) (soft : List (BitVec 4)) (s : State) : Out := actOn (0x41) s (·.innerDecode n soft)

/-- CW_LOCK (R142). -/
def execCwLock (n : Lane) (offset : Nat) (s : State) : Out := actOn (0x41) s (·.cwLock n offset)

/-- CW_LOCK_LOST (R142). -/
def execCwLockLost (n : Lane) (s : State) : Out := actOn (0x41) s (·.cwLockLost n)

/-- INNER_FAIL_THR (R170). -/
def execInnerFailThr (n : Lane) (fails : Nat) (s : State) : Out := actOn (0x41) s (·.innerFailThr n fails)

/-- AM_LOCK (R147). -/
def execAmLock (n : Lane) (s : State) : Out := actOn (0x42) s (·.amLock n)

/-- AM_LOST (R147). -/
def execAmLost (n : Lane) (s : State) : Out := actOn (0x42) s (·.amLost n)

/-- HOST_RS_DECODE (R147). -/
def execHostRsDecode (n : Lane) (data : BitVec 5440) (errs : Nat) (s : State) : Out := actOn (0x42) s (·.hostRsDecode n data errs)

/-- LAP_START (R158). -/
def execLapStart (n : Lane) (lat : BitVec 24) (s : State) : Out := actOn (0x40) s (·.lapStart n lat)

/-- LAP_HEADER_RECEIVED (R166). -/
def execLapHeaderReceived (n : Lane) (h : BitVec 480) (spaced : Bool) (arrival : Int) (latRx : BitVec 24) (s : State) : Out :=
  actOn (0x44) s (·.lapHeader n h spaced arrival latRx)

/-- RS_CODEWORD_DECODE (R155). -/
def execRsCodewordDecode (n : Lane) (fs : List Flag) (errs : Nat) (slot23 : Option Nat) (s : State) : Out :=
  actOn (0x41) s (·.rsCodeword n fs errs slot23)

/-- RATE_MATCH_BLOCK (R162). -/
def execRateMatchBlock (n : Lane) (b : Blk) (taken : Nat) (s : State) : Out := actOn (0x43) s (·.rateMatch n b taken)

/-- TUNE_WINDOW_END (R157). -/
def execTuneWindowEnd (n : Lane) (s : State) : Out := actOn (0x41) s (·.tuneWindowEnd n)

/-- CODING_CNT_CLR (R171): CNT_CTRL written with clr = 1. -/
def execCodingCntClr (w : Who) (p : Fin 5) (v : Word) (s : State) : Out := act s (·.cntCtrlWrite w (0x40 + p.val) (v ||| 1))

end Sys2Proof.Machine
end

