-- ==== Sys2Proof/Machine/Host.lean ====
section
/-! DEFINITION. The host lanes (R172 to R203): HRXn and HTXn, Warm-up training, adaptation in RUN, and the test functions. The events that line and host lanes share are at the end. -/

namespace Sys2Proof.Machine

/-! Fields of HRXn (R202) and HTXn (R203) -/

def fHrxEn : Fld := ⟨0x040, 0, 1⟩
def fHrxHoldReq : Fld := ⟨0x040, 1, 1⟩
def fHrxFeManual : Fld := ⟨0x040, 3, 1⟩
def fHrxInvert : Fld := ⟨0x040, 4, 1⟩
def fHrxSigDet : Fld := ⟨0x044, 3, 1⟩
def fHrxCdrLock : Fld := ⟨0x044, 4, 1⟩
def fWuLock : Fld := ⟨0x044, 5, 1⟩
def fNoPartner : Fld := ⟨0x044, 6, 1⟩
def fHostHold : Fld := ⟨0x044, 8, 4⟩
/-- Hold reason of R176: 0 gate, 1 reload, 2 host, 3 engines. -/
def fHostHoldBit (k : Nat) : Fld := ⟨0x044, 8 + k, 1⟩
def fHrxPeak : Fld := ⟨0x050, 0, 6⟩
def fHrxGain : Fld := ⟨0x050, 8, 8⟩
def fHrxFreq : Fld := ⟨0x05C, 0, 16⟩
def fHrxPhaseTr : Fld := ⟨0x05C, 16, 6⟩
def fWuEn : Fld := ⟨0x060, 0, 1⟩
def fHostPhase : Fld := ⟨0x068, 0, 3⟩
def fLocalReady : Fld := ⟨0x068, 3, 1⟩
def fFarReady : Fld := ⟨0x068, 4, 1⟩
def fHostFails : Fld := ⟨0x068, 8, 4⟩
def fHostLastMs : Fld := ⟨0x068, 16, 16⟩
def fHostSnr : Fld := ⟨0x074, 0, 16⟩
def fAttempts : Fld := ⟨0x078, 0, 16⟩
def fFailures : Fld := ⟨0x078, 16, 16⟩
def fHrxLoop : Fld := ⟨0x0C0, 0, 2⟩
def fHtxEn : Fld := ⟨0x040, 0, 1⟩
def fHtxInvert : Fld := ⟨0x040, 1, 1⟩
def fHtxState : Fld := ⟨0x044, 0, 2⟩
def fHtxSqSrc : Fld := ⟨0x044, 8, 4⟩
/-- Squelch reason of R180: 0 host, 1 walk, 2 start, 3 out_fault. -/
def fHtxSq (k : Nat) : Fld := ⟨0x044, 8 + k, 1⟩
def fHtxSwing : Fld := ⟨0x048, 0, 6⟩
def fHtxLiveSwing : Fld := ⟨0x04C, 0, 6⟩
def fHtxReq : Fld := ⟨0x050, 0, 1⟩
def fHtxPattern : Fld := ⟨0x064, 0, 3⟩
def fServed : Fld := ⟨0x068, 0, 16⟩
def fLimited : Fld := ⟨0x068, 16, 16⟩
/-- HTXn.STATUS.tx_state. -/
def htOff : Nat := 0
def htStart : Nat := 1
def htFrames : Nat := 2
def htData : Nat := 3

def Dev.hostState (d : Dev) (n : Lane) : Nat := d.g (pHrx n) fHostState
def Dev.htxState (d : Dev) (n : Lane) : Nat := d.g (pHtx n) fHtxState

/-- A near-end loopback is applied on the lane (R200). -/
def Dev.hostNear (d : Dev) (n : Lane) : Bool := d.lg (pHrx n) fHrxLoop == 1 || d.lg (pHrx n) fHrxLoop == 2

/-- Warm-up is in force: as taken at the last entry to SEEK, or as TRN_CFG says in OFF (R192, R193, R202). -/
def Dev.wuInForce (d : Dev) (n : Lane) : Bool :=
  if d.hostState n = stOff then d.b (pHrx n) fWuEn && !d.hostNear n else (d.hr n).wu

/-- The Squad of the lane runs (R176, R188). -/
def Dev.hostSquadHere (d : Dev) (n : Lane) : Bool := !d.b (pHrx n) (fHostHoldBit 1) && !d.b (pHrx n) (fHostHoldBit 3)

/-! FIR taps of the transmitter (R177 to R179) -/

/-- The six taps c_-3 to c_2 of the words FIR_LIVE0 and FIR_LIVE1. -/
def firTaps (w0 w1 : Word) : List Int :=
  [signed 8 (getBits w0 0 8), signed 8 (getBits w0 8 8), signed 8 (getBits w0 16 8), signed 8 (getBits w0 24 8),
   signed 8 (getBits w1 0 8), signed 8 (getBits w1 8 8)]

def firWords (c : List Int) : Word × Word :=
  let u (i : Nat) : Nat := unsigned 8 (c.getD i 0)
  (BitVec.ofNat 32 (u 0 + 0x100 * u 1 + 0x10000 * u 2 + 0x1000000 * u 3), BitVec.ofNat 32 (u 4 + 0x100 * u 5))

def absSum (c : List Int) : Nat := c.foldl (fun s x => s + x.natAbs) 0

/-- The limits of tap `i` (R177). -/
def tapLimits (i : Nat) : Int × Int := [(-8, 8), (-12, 12), (-24, 0), (16, 63), (-24, 0), (-12, 12)].getD i (0, 0)

/-- The presets of R178. -/
def presets : List (List Int) :=
  [[0, 0, 0, 63, 0, 0], [0, 0, -4, 59, 0, 0], [0, 0, -8, 55, 0, 0], [0, 2, -10, 51, 0, 0],
   [0, 2, -12, 45, -4, 0], [-1, 3, -14, 41, -4, 0], [-1, 4, -16, 36, -6, 0], [0, 0, 0, 55, -8, 0]]

/-- The output of HTXn in steps of V / 378, for the mapped symbols s[n + 3] to s[n - 2] (R177). -/
def htxOut (c s : List Int) : Int := (c.zip s).foldl (fun y e => y + e.1 * e.2) 0

def Dev.firLive (d : Dev) (n : Lane) : List Int := firTaps (d.rd (pHtx n) 0x05C) (d.rd (pHtx n) 0x060)

def Dev.putFir (d : Dev) (n : Lane) (w0 w1 : Word) : Dev := (d.wr (pHtx n) 0x05C w0).wr (pHtx n) 0x060 w1

/-- The committed values become live at once (R179). -/
def Dev.firTake (d : Dev) (n : Lane) : Dev :=
  (d.putFir n (d.lrd (pHtx n) 0x054) (d.lrd (pHtx n) 0x058)).updHtx n fun h => { h with fir := none }

/-- Committed FIR values meet their gate (R179). -/
def Dev.firCommit (d : Dev) (n : Lane) : Dev :=
  if d.htxState n = htOff then d.firTake n
  else if d.wuInForce n then d
  else if d.htxState n = htData then
    d.updHtx n fun h => { h with fir := some ⟨d.rd (pHtx n) 0x05C, d.rd (pHtx n) 0x060, d.lrd (pHtx n) 0x054, d.lrd (pHtx n) 0x058, 0⟩ }
  else d.firTake n

/-- The live taps move one of 16 steps (R179). -/
def Dev.firStep (d : Dev) (n : Lane) : Dev :=
  match (d.hx n).fir with
  | none => d
  | some r =>
    let s := r.step + 1
    let c := ((firTaps r.from0 r.from1).zip (firTaps r.to0 r.to1)).map fun e => fadeStep e.1 e.2 s
    let w := firWords c
    (d.putFir n w.1 w.2).updHtx n fun h => { h with fir := if 16 ≤ s then none else some { r with step := s } }

/-! Squelch and start-up of the transmitter (R180) -/

def Dev.htxOthers (d : Dev) (n : Lane) : Bool := d.g (pHtx n) fHtxSqSrc &&& 0b1011 != 0

def Dev.htxDriven (d : Dev) (n : Lane) : Bool :=
  ((d.htxState n == htFrames || d.htxState n == htData) && d.g (pHtx n) fHtxSqSrc == 0) || (d.hx n).ramping

def Dev.htxRamp (d : Dev) (n : Lane) : Dev :=
  (d.sb (pHtx n) (fHtxSq 2) true).updHtx n fun h => { h with ramping := true, ramp := 1 }

/-- The transmitter leaves START for FRAMES or DATA (R180 step 4). -/
def Dev.htxServe (d : Dev) (n : Lane) : Dev :=
  if d.htxState n = htStart then d.s (pHtx n) fHtxState (if d.wuInForce n then htFrames else htData) else d

/-- A squelch reason of HTXn other than start sets or clears (R129, R180). -/
def Dev.htxSq (d : Dev) (n : Lane) (k : Nat) (on : Bool) : Dev :=
  let p := pHtx n
  if d.b p (fHtxSq k) = on then d
  else if on then
    let was := d.htxDriven n
    let d := (d.sb p (fHtxSq k) true).updHtx n fun h => { h with ramping := false, ramp := 0 }
    (d.raiseIf (k == 3) p 2).raiseIf was p 0
  else
    let d := d.sb p (fHtxSq k) false
    d.when (!d.htxOthers n && (d.hx n).powered) (·.htxRamp n)

def Dev.htxSquelchWrite (d : Dev) (w : Who) (n : Lane) (v : Word) : Dev :=
  d.access w (pHtx n) 0x050 fun d =>
    let d := d.store (pHtx n) 0x050 v
    d.htxSq n 0 (d.b (pHtx n) fHtxReq)

def Dev.htxRampStep (d : Dev) (n : Lane) : Dev :=
  if (d.hx n).ramping ∧ (d.hx n).ramp < 16 then d.updHtx n fun h => { h with ramp := h.ramp + 1 } else d

def Dev.htxRampEnd (d : Dev) (n : Lane) : Dev :=
  if (d.hx n).ramping ∧ (d.hx n).ramp = 16 then
    let d := (d.updHtx n fun h => { h with ramping := false, ramp := 0 }).sb (pHtx n) (fHtxSq 2) false
    (d.raise (pHtx n) 1).htxServe n
  else d

/-- en written 1 (R180 step 1): the taps start from the committed values, and the answers to the partner from none. -/
def Dev.htxEnable (d : Dev) (n : Lane) : Dev :=
  if d.htxState n != htOff then d else
  let p := pHtx n
  let d := ((d.s p fHtxState htStart).sb p (fHtxSq 2) true).sb p (fHtxSq 3) false
  let d := (d.wr p 0x068 0).firTake n
  d.updHtx n fun h => { h with powered := false, ramping := false, ramp := 0, invert := d.g p fHtxInvert,
                               countdown := none, lastSeq := 0, service := none, ack := 0, result := 0 }

/-- The output stage is powered: the ramp, or no ramp behind another reason (R127, R180). -/
def Dev.htxPowered (d : Dev) (n : Lane) : Dev :=
  if d.htxState n = htStart ∧ !(d.hx n).powered then
    let d := d.updHtx n fun h => { h with powered := true }
    if d.htxOthers n then (d.sb (pHtx n) (fHtxSq 2) false).htxServe n else d.htxRamp n
  else d

def Dev.htxOff (d : Dev) (n : Lane) : Dev :=
  let p := pHtx n
  let d := (d.s p fHtxState htOff).sb p (fHtxSq 2) false
  let d := d.s p fHtxLiveSwing (d.g p fHtxSwing)
  d.updHtx n fun h => { h with powered := false, ramping := false, ramp := 0, countdown := none, service := none, fir := none }

/-- HTXn returns to FRAMES, or to DATA without Warm-up (R186, R191, R193). -/
def Dev.htxBack (d : Dev) (n : Lane) : Dev :=
  let d := d.updHtx n fun h => { h with countdown := none }
  if d.htxState n = htFrames ∨ d.htxState n = htData then
    let d := d.s (pHtx n) fHtxState (if d.wuInForce n then htFrames else htData)
    d.when (d.wuInForce n) (·.firTake n)
  else d

/-! Lane states (R186) -/

def Dev.hostTo (d : Dev) (n : Lane) (st : Nat) : Dev := d.s (pHrx n) fHostState st

/-- Training stops: its readiness and phase read 0 (R202), and a line transmitter that follows the lane holds its rate (R197). -/
def Dev.hostStop (d : Dev) (n : Lane) : Dev :=
  let p := pHrx n
  let d := d.when (d.hostValid n) (·.captureLaneLeft 1 n)
  let d := ((d.s p fHostPhase 0).sb p fLocalReady false).sb p fFarReady false
  let d := d.updHrx n fun h => { h with search := none, valid3 := 0, ready16 := 0, announced := false, failRun := 0, passRun := 0 }
  d.updLtx n fun h => { h with glide := false }

/-- The lane enters SEEK: Warm-up and the settings of the attempt are taken (R186, R193, R202). -/
def Dev.hostSeek (d : Dev) (n : Lane) : Dev :=
  let d := (d.hostStop n).hostTo n stSeek
  let d := (d.sb (pHrx n) fWuLock false).updHrx n fun h =>
    { h with wu := d.b (pHrx n) fWuEn && !d.hostNear n, cfg := d.rd (pHrx n) 0x060, cfg2 := d.rd (pHrx n) 0x064,
             matches' := 0, misses := 0, ctl := 0xE000 }
  d.htxBack n

/-- The lane goes to OFF, with signal detect and timing recovery (R62, R186). -/
def Dev.hostOff (d : Dev) (n : Lane) : Dev :=
  let p := pHrx n
  let d := (d.hostStop n).hostTo n stOff
  (((d.sb p fHrxSigDet false).sb p fHrxCdrLock false).sb p fWuLock false)

/-- In near-end parallel loopback signal detect and timing recovery are bypassed (R62, R64, R200). -/
def Dev.hostPar (d : Dev) (n : Lane) : Dev :=
  let par := d.lg (pHrx n) fHrxLoop == 2
  (d.sb (pHrx n) fHrxSigDet par).sb (pHrx n) fHrxCdrLock par

/-- OFF to SEEK, where HRXn and, with Warm-up, HTXn are enabled (R186). -/
def Dev.hostTryStart (d : Dev) (n : Lane) : Dev :=
  if d.hostState n = stOff ∧ d.b (pHrx n) fHrxEn ∧ (!d.wuInForce n ∨ d.b (pHtx n) fHtxEn) then (d.hostSeek n).hostPar n else d

/-- An enabled lane restarts from SEEK (R25, R172, R200). -/
def Dev.hostRestart (d : Dev) (n : Lane) : Dev := if d.hostState n = stOff then d else (d.hostSeek n).hostPar n

/-- Phase 1 ends with timing lock and, with Warm-up, frame lock (R187, R192). -/
def Dev.hostPhase1 (d : Dev) (n : Lane) : Dev :=
  if d.hostState n = stTrain ∧ d.g (pHrx n) fHostPhase = 1 ∧ d.b (pHrx n) fHrxCdrLock ∧ (!(d.hr n).wu ∨ d.b (pHrx n) fWuLock) then
    d.s (pHrx n) fHostPhase 2
  else d

/-- The lane enters TRAIN at phase 1 (R58, R186, R191). -/
def Dev.hostTrain (d : Dev) (n : Lane) : Dev :=
  let p := pHrx n
  let d := (d.hostStop n).hostTo n stTrain
  let d := (d.wr p 0x050 (d.rd p 0x04C)).s p fAttempts (d.g p fAttempts + 1)
  let d := d.updHrx n fun h => { h with feTaken := d.rd p 0x04C, invTaken := d.g p fHrxInvert, ctl := 0xE000 }
  (d.s p fHostPhase 1).hostPhase1 n

/-- RUN and HOLD follow the hold reasons (R176). -/
def Dev.hostHoldUpdate (d : Dev) (n : Lane) : Dev :=
  let any := d.g (pHrx n) fHostHold != 0
  if d.hostState n = stRun ∧ any then d.hostTo n stHold
  else if d.hostState n = stHold ∧ !any then d.hostTo n stRun
  else d

def Dev.setHostHold (d : Dev) (n : Lane) (k : Nat) (on : Bool) : Dev := (d.sb (pHrx n) (fHostHoldBit k) on).hostHoldUpdate n

/-- The lane enters RUN from TRAIN (R189, R190, R192, R197). -/
def Dev.hostRun (d : Dev) (n : Lane) (ms : Nat) : Dev :=
  let p := pHrx n
  let d := (d.hostStop n).hostTo n stRun
  let d := ((d.s p fHostFails 0).s p fHostLastMs (min ms 65535)).sb p fNoPartner false
  let d := (d.raise p 3).when (!d.segmented n) (·.updLtx n fun h => { h with glide := true })
  d.hostHoldUpdate n

/-- The attempt timer expires (R190). -/
def Dev.attemptExpired (d : Dev) (n : Lane) : Dev :=
  let p := pHrx n
  if d.hostState n = stSeek ∨ d.hostState n = stTrain then
    let retry := getBits (d.hr n).cfg 12 4
    let d := ((d.incSat p fHostFails).s p fFailures (d.g p fFailures + 1)).raise p 4
    if d.g p fHostFails < retry then d.hostSeek n
    else
      let was := d.b p fNoPartner
      let d := ((d.hostStop n).hostTo n stFault).sb p fNoPartner true
      (d.raiseIf (!was) p 5).htxBack n
  else d

def Dev.hostFaultEnd (d : Dev) (n : Lane) : Dev := if d.hostState n = stFault then d.hostSeek n else d

/-! Register writes -/

/-- A write to HRXn.LANE_CTRL (R176, R186). -/
def Dev.hrxCtrlWrite (d : Dev) (w : Who) (n : Lane) (v : Word) : Dev :=
  d.access w (pHrx n) 0x040 fun d =>
    let d := d.store (pHrx n) 0x040 v
    let d := d.setHostHold n 2 (d.b (pHrx n) fHrxHoldReq)
    if d.b (pHrx n) fHrxEn then d.hostTryStart n
    else if d.hostState n = stOff then d else d.hostOff n

/-- A write to HTXn.LANE_CTRL (R180, R186). -/
def Dev.htxCtrlWrite (d : Dev) (w : Who) (n : Lane) (v : Word) : Dev :=
  d.access w (pHtx n) 0x040 fun d =>
    let d := d.store (pHtx n) 0x040 v
    if d.b (pHtx n) fHtxEn then (d.htxEnable n).hostTryStart n
    else
      let wu := d.wuInForce n
      let d := if d.htxState n = htOff then d else d.htxOff n
      d.when (wu && d.hostState n != stOff) (·.hostOff n)

/-- A write to HTXn.OUT_CFG (R181). -/
def Dev.htxOutCfgWrite (d : Dev) (w : Who) (n : Lane) (v : Word) : Dev :=
  d.access w (pHtx n) 0x048 fun d =>
    let d := d.store (pHtx n) 0x048 v
    d.when (d.htxState n == htOff) fun d => d.s (pHtx n) fHtxLiveSwing (d.g (pHtx n) fHtxSwing)

def Dev.htxSwingStep (d : Dev) (n : Lane) : Dev :=
  if d.htxState n = htOff then d
  else d.s (pHtx n) fHtxLiveSwing (towards (d.g (pHtx n) fHtxLiveSwing) (d.g (pHtx n) fHtxSwing))

/-! The coefficient search (R188) -/

/-- The sel code of the `k`-th tap in the order of the search: c_-1, c_1, c_-2, c_-3, c_2, c_0. -/
def searchSel (k : Nat) : Nat := [2, 4, 1, 0, 5, 3].getD k 7

/-- A control word (R184). -/
def ctlWord (sel act preq preset seq : Nat) : BitVec 16 :=
  BitVec.ofNat 16 (sel * 2 ^ 13 + act * 2 ^ 11 + preq * 2 ^ 10 + preset * 2 ^ 7 + seq * 2 ^ 4)

def ctlSeq (c : BitVec 16) : Nat := c.toNat / 16 % 4

/-- The search starts: a preset request, or the first step (R188 steps 1 and 2). -/
def searchFirst (cfg : Word) (snr : Nat) : HSearch :=
  ⟨if cfg.getLsbD 11 then .preset else .step, 0, true, false, 0, snr, false, false⟩

/-- The control word of the request that the search has to send. -/
def searchCtl (cfg : Word) (x : HSearch) (seq : Nat) : BitVec 16 :=
  match x.stage with
  | .preset => ctlWord 7 0 1 (getBits cfg 8 3) seq
  | .step => ctlWord (searchSel x.tap) (if x.up then 1 else 2) 0 0 seq
  | .undo => ctlWord (searchSel x.tap) (if x.up then 2 else 1) 0 0 seq

/-- The search sends its next request with a new seq (R184, R188). -/
def Dev.searchSend (d : Dev) (n : Lane) (x : HSearch) : Dev :=
  d.updHrx n fun h => { h with
    ctl := searchCtl h.cfg x ((ctlSeq h.ctl + 1) % 4)
    search := some { x with count := x.count + 1, waiting := true, measuring := false } }

/-- The search ends: the receiver is ready and phase 4 begins, or the search starts again (R188 step 4). -/
def Dev.hostSearchEnd (d : Dev) (n : Lane) (snr : Nat) : Dev :=
  if getBits (d.hr n).cfg2 0 11 ≤ snr then
    ((d.updHrx n fun h => { h with search := none }).sb (pHrx n) fLocalReady true).s (pHrx n) fHostPhase 4
  else d.searchSend n (searchFirst (d.hr n).cfg snr)

/-- The search sends a request, or ends because max_req requests have been sent (R188 step 3). -/
def Dev.searchNext (d : Dev) (n : Lane) (x : HSearch) : Dev :=
  if getBits (d.hr n).cfg2 24 8 ≤ x.count then d.hostSearchEnd n x.base else d.searchSend n x

/-- A direction of a tap has ended: the opposite one, the next tap, or the end of the pass (R188). -/
def Dev.searchTurn (d : Dev) (n : Lane) (x : HSearch) : Dev :=
  if x.up then d.searchNext n { x with stage := .step, up := false }
  else if x.tap < 5 then d.searchNext n { x with stage := .step, tap := x.tap + 1, up := true }
  else if x.kept then d.searchNext n { x with stage := .step, tap := 0, up := true, kept := false }
  else d.hostSearchEnd n x.base

/-- The echo of the last request has come with a result (R185, R188). -/
def Dev.searchEcho (d : Dev) (n : Lane) (x : HSearch) (result : Nat) : Dev :=
  let x := { x with waiting := false }
  match x.stage with
  | .preset => d.updHrx n fun h => { h with search := some { x with measuring := true } }
  | .undo => d.searchTurn n x
  | .step => if result = 0 then d.updHrx n fun h => { h with search := some { x with measuring := true } } else d.searchTurn n x

/-- A 2 ms measurement ends (R188 step 2). -/
def Dev.searchMeasured (d : Dev) (n : Lane) (snr : Nat) : Dev :=
  match (d.hr n).search with
  | none => d
  | some x =>
    if !x.measuring || !d.hostSquadHere n || d.hostState n != stTrain || d.g (pHrx n) fHostPhase != 3 then d else
    let d := d.s (pHrx n) fHostSnr snr
    let x := { x with measuring := false }
    match x.stage with
    | .preset => d.searchNext n { x with stage := .step, base := snr }
    | _ => if x.base + 5 ≤ snr then d.searchNext n { x with kept := true, base := snr } else d.searchNext n { x with stage := .undo }

/-- A request is not echoed within the response limit: the search ends, and sel = 7 is sent (R188). -/
def Dev.reqTimeout (d : Dev) (n : Lane) : Dev :=
  match (d.hr n).search with
  | some x =>
    if x.waiting && d.hostState n == stTrain then
      let d := (d.raise (pHrx n) 6).updHrx n fun h => { h with ctl := ctlWord 7 0 0 0 (ctlSeq h.ctl) }
      d.hostSearchEnd n x.base
    else d
  | none => d

/-! Warm-up frames (R183 to R185, R189, R191) -/

/-- A 16-bit word of a frame: each bit is 8 symbols, and 5 of them decide (R185). -/
def frameWord (syms : List (Fin 4)) : BitVec 16 :=
  BitVec.ofNat 16 ((List.range 16).foldl (fun w k =>
    2 * w + (if 5 ≤ ((syms.drop (8 * k)).take 8).countP (fun s => decide (2 ≤ s.val)) then 1 else 0)) 0)

/-- At most 4 of the 64 marker symbols differ (R185). -/
def frameMarker (syms : List (Fin 4)) : Bool :=
  decide (64 ≤ (syms.take 32).countP (fun s => s == 3) + ((syms.drop 32).take 32).countP (fun s => s == 0) + 4)

/-- The words of a frame, and whether its crc checks (R183). -/
def frameWords (syms : List (Fin 4)) : BitVec 16 × BitVec 16 × Bool :=
  let c := frameWord (syms.drop 64)
  let st := frameWord (syms.drop 192)
  (c, st, crc16Bits (c ++ st).toNat 32 0xFFFF == (frameWord (syms.drop 320)).toNat)

/-- Frame lock (R185): `spaced` says that the marker position follows the last by exactly 8,192 symbols. -/
def Dev.frameLock (d : Dev) (n : Lane) (hit spaced : Bool) : Dev :=
  let h := d.hr n
  if d.b (pHrx n) fWuLock then
    if !spaced then d
    else if hit then d.updHrx n fun h => { h with misses := 0 }
    else if h.misses + 1 < 4 then d.updHrx n fun h => { h with misses := h.misses + 1 }
    else (d.updHrx n fun h => { h with misses := 0, matches' := 0 }).sb (pHrx n) fWuLock false
  else
    let m := if hit then (if spaced then h.matches' + 1 else 1) else (if spaced then 0 else h.matches')
    (d.updHrx n fun h => { h with matches' := m, misses := 0 }).sb (pHrx n) fWuLock (decide (3 ≤ m))

/-- A valid frame in TRAIN: the partner's request, the echo of ours, its readiness and its countdown (R185, R187 to R189). -/
def Dev.frameInTrain (d : Dev) (n : Lane) (ctl st : BitVec 16) : Dev :=
  let p := pHrx n
  let d := d.hostPhase1 n
  let seq := ctlSeq ctl
  let d := if seq != (d.hx n).lastSeq then
      d.updHtx n fun h => { h with lastSeq := seq, service := some ⟨ctl, 0⟩ }
    else d
  let run := if st.getLsbD 11 then (d.hr n).ready16 + 1 else 0
  let d := d.updHrx n fun h => { h with ready16 := run, announced := h.announced || getBits (st.zeroExtend 32) 8 3 != 7 }
  let d := if (d.hx n).countdown.isSome || d.htxState n == htData then d else d.sb p fFarReady (decide (16 ≤ run))
  let d := match (d.hr n).search with
    | some x =>
      if x.waiting && st.toNat / 2 ^ 14 == ctlSeq (d.hr n).ctl && d.hostSquadHere n then
        d.searchEcho n x (st.toNat / 2 ^ 12 % 4)
      else d
    | none => d
  if d.g p fHostPhase = 4 ∧ d.b p fLocalReady ∧ d.b p fFarReady then d.s p fHostPhase 5 else d

/-- WARMUP_FRAME_RECEIVED (R185, R191): the 448 header symbols at a marker position. -/
def Dev.frameReceived (d : Dev) (n : Lane) (syms : List (Fin 4)) (spaced : Bool) : Dev :=
  let st := d.hostState n
  if !(d.hr n).wu || !(st == stTrain || st == stRun || st == stHold) then d else
  let d := d.frameLock n (frameMarker syms) spaced
  let (ctl, stat, crcOk) := frameWords syms
  if !(d.b (pHrx n) fWuLock && frameMarker syms && crcOk) then d.updHrx n fun h => { h with valid3 := 0, ready16 := 0 }
  else
    let d := d.wr (pHrx n) 0x06C (stat ++ ctl)
    if st = stTrain then d.frameInTrain n ctl stat
    else
      let k := (d.hr n).valid3 + 1
      let d := d.updHrx n fun h => { h with valid3 := k }
      if k < 3 then d
      else
        let d := d.updHrx n fun h => { h with cfg := d.rd (pHrx n) 0x060, cfg2 := d.rd (pHrx n) 0x064 }
        (d.hostTrain n).htxBack n

/-- WARMUP_FRAME_START (R183, R184, R189): HTXn starts a frame, or data after the frame with countdown 0. -/
def Dev.frameStart (d : Dev) (n : Lane) : Dev :=
  if d.htxState n != htFrames || !d.wuInForce n then d else
  let h := d.hx n
  if h.countdown = some 0 then (d.s (pHtx n) fHtxState htData).updHtx n fun h => { h with countdown := none } else
  let ready := d.b (pHrx n) fLocalReady
  let cd := match h.countdown with
    | some k => some (k - 1)
    | none => if ready && d.b (pHrx n) fFarReady then some 6 else none
  let stat := BitVec.ofNat 16 (h.ack * 2 ^ 14 + h.result * 2 ^ 12 + (if ready then 2 ^ 11 else 0) + (cd.getD 7) * 2 ^ 8 + 1 * 2 ^ 5)
  let d := d.updHtx n fun h => { h with countdown := cd, service := h.service.map fun s => { s with frames := s.frames + 1 } }
  d.wr (pHrx n) 0x070 (stat ++ (d.hr n).ctl)

/-- The answer to a request on the taps (R185): its result and the taps after it. -/
def serve (ctl : BitVec 16) (counting : Bool) (c : List Int) : Nat × List Int :=
  let sel := ctl.toNat / 2 ^ 13
  let step := ctl.toNat / 2 ^ 11 % 4
  if counting then (3, c)
  else if ctl.getLsbD 10 then (0, presets.getD (ctl.toNat / 2 ^ 7 % 8) c)
  else if sel = 6 ∨ step = 3 then (3, c)
  else if sel = 7 ∨ step = 0 then (0, c)
  else
    let v := c.getD sel 0 + (if step = 1 then 1 else -1)
    let lim := tapLimits sel
    let c' := c.set sel v
    if v < lim.1 then (1, c) else if lim.2 < v then (2, c) else if 63 < absSum c' then (2, c) else (0, c')

/-- WARMUP_TAP_UPDATE (R185): the request that waits is answered at the start of the second frame after it. -/
def Dev.tapUpdate (d : Dev) (n : Lane) : Dev :=
  match (d.hx n).service with
  | some ⟨ctl, k⟩ =>
    if k = 0 then d else
    let r := serve ctl ((d.hx n).countdown.isSome || d.htxState n == htData) (d.firLive n)
    let w := firWords r.2
    let d := (d.putFir n w.1 w.2).updHtx n fun h => { h with service := none, ack := ctlSeq ctl, result := r.1 }
    let d := d.incSat (pHtx n) fServed
    if r.1 = 0 then d else (d.incSat (pHtx n) fLimited).raise (pHtx n) 3
  | none => d

/-- HANDOVER (R189): both directions have reached data. -/
def Dev.handover (d : Dev) (n : Lane) (ms : Nat) : Dev :=
  if d.hostState n = stTrain ∧ d.g (pHrx n) fHostPhase = 5 ∧ d.htxState n = htData ∧ (d.hr n).announced then d.hostRun n ms else d

/-- STATIC_ACCEPT (R192). -/
def Dev.staticAccept (d : Dev) (n : Lane) (snr ms : Nat) : Dev :=
  if d.hostState n = stTrain ∧ !(d.hr n).wu ∧ d.b (pHrx n) fHrxCdrLock ∧ getBits (d.hr n).cfg2 0 11 ≤ snr then
    (d.s (pHrx n) fHostSnr snr).hostRun n ms
  else d

/-! Receiver events (R61, R64, R174, R187) -/

def Dev.hostLoop (d : Dev) (n : Lane) : Bool :=
  d.b (pHrx n) fHrxEn && d.b (pHrx n) fHrxSigDet && d.lg (pHrx n) fHrxLoop != 2

def Dev.hrxSigDet (d : Dev) (n : Lane) : Dev :=
  if d.b (pHrx n) fHrxEn && d.hostState n != stOff then
    let was := d.b (pHrx n) fHrxSigDet
    let d := (d.sb (pHrx n) fHrxSigDet true).raiseIf (!was) (pHrx n) 0
    if d.hostState n = stSeek then d.hostTrain n else d
  else d

def Dev.hrxLos (d : Dev) (n : Lane) : Dev :=
  if d.hostLoop n then
    let d := ((d.sb (pHrx n) fHrxSigDet false).sb (pHrx n) fHrxCdrLock false).raise (pHrx n) 1
    if d.hostState n = stTrain ∨ d.hostValid n then d.hostSeek n else d
  else d

def Dev.hrxCdrLock (d : Dev) (n : Lane) (freq : Int) (phase : Nat) : Dev :=
  if d.hostLoop n && !freqAtLimit freq && !d.b (pHrx n) fHrxCdrLock then
    (((d.s (pHrx n) fHrxFreq (freqCode freq)).s (pHrx n) fHrxPhaseTr phase).sb (pHrx n) fHrxCdrLock true).hostPhase1 n
  else d

def Dev.hrxCdrUnlock (d : Dev) (n : Lane) (freq : Int) : Dev :=
  if d.hostLoop n && d.b (pHrx n) fHrxCdrLock then
    ((d.s (pHrx n) fHrxFreq (freqCode freq)).sb (pHrx n) fHrxCdrLock false).raise (pHrx n) 2
  else d

/-- A host lane has no freq_range source (R201); the loop holds at the limit and loses lock (R64). -/
def Dev.hrxFreqRange (d : Dev) (n : Lane) (high : Bool) : Dev :=
  if d.hostLoop n then
    let d := d.s (pHrx n) fHrxFreq (freqCode (if high then 30000 else -30000))
    if d.b (pHrx n) fHrxCdrLock then (d.sb (pHrx n) fHrxCdrLock false).raise (pHrx n) 2 else d
  else d

def Dev.hrxCdrLoss (d : Dev) (n : Lane) : Dev :=
  if d.hostValid n && !d.b (pHrx n) fHrxCdrLock then d.hostSeek n else d

/-- Gain, peaking, FFE and table are set in phase 2, and with Warm-up the search begins (R59, R187, R188). The acquired
coefficients are free values. -/
def Dev.hrxAgcDone (d : Dev) (n : Lane) (gain peak snr : Nat) : Dev :=
  let p := pHrx n
  if d.hostState n = stTrain ∧ d.g p fHostPhase = 2 ∧ d.hostSquadHere n then
    let d := if d.b p fHrxFeManual then d else (d.s p fHrxGain (min gain 72)).s p fHrxPeak (min peak 30)
    let k := d.free
    let d := d.drawn.wrs p 0x100 ((List.range 24).map fun i => (Config.trained k i).zeroExtend 32)
    let d := d.wrs p 0x180 ((List.range 16).map fun j => ((Config.trained k (79 + j)).truncate 10).zeroExtend 32)
    let d := d.s p fHostSnr snr
    if (d.hr n).wu then (d.s p fHostPhase 3).searchSend n (searchFirst (d.hr n).cfg snr) else d
  else d

/-! Adaptation in RUN (R175, R176) -/

/-- The Squad refreshes the table; its entries are free values (R175). The SNR is measured every 100 us (R202). -/
def Dev.tableRefresh (d : Dev) (n : Lane) (snr : Nat) : Dev :=
  let d := d.when (d.hostState n == stTrain || d.hostValid n) (·.s (pHrx n) fHostSnr snr)
  if d.hostState n = stRun then
    d.drawn.wrs (pHrx n) 0x180 ((List.range 16).map fun j => ((Config.trained d.free (79 + j)).truncate 10).zeroExtend 32)
  else d

/-- Sign-sign LMS moves each tap by at most one step (R175). -/
def Dev.lmsUpdate (d : Dev) (n : Lane) (signs : List Int) : Dev :=
  if d.hostState n = stRun then
    d.wrs (pHrx n) 0x100 ((List.range 24).map fun i =>
      let f := signed 12 (d.rd (pHrx n) (0x100 + 4 * i)).toNat
      BitVec.ofNat 32 (unsigned 12 (max (-2048) (min 2047 (f + max (-1) (min 1 (signs.getD i 0)))))))
  else d

/-- A window of 4,096 symbols is judged (R176). -/
def Dev.hostGateWindow (d : Dev) (n : Lane) (b : Block) : Dev :=
  if !d.hostValid n then d else
  let pass := ([b.occ0, b.occ1, b.occ2, b.occ3].all fun k => decide (18 * 4096 ≤ k * 100) && decide (k * 100 ≤ 32 * 4096)) &&
    decide (50 * 4096 ≤ b.trans * 100)
  let d := d.updHrx n fun h => { h with failRun := if pass then 0 else h.failRun + 1, passRun := if pass then h.passRun + 1 else 0 }
  if !pass && decide (2 ≤ (d.hr n).failRun) then d.setHostHold n 0 true
  else if pass && decide (4 ≤ (d.hr n).passRun) then d.setHostHold n 0 false
  else d

/-! Test functions (R199) -/

def Dev.htxGenWrite (d : Dev) (w : Who) (n : Lane) (v : Word) : Dev :=
  d.access w (pHtx n) 0x064 fun d =>
    let d := d.store (pHtx n) 0x064 v
    d.when (v.getLsbD 7 && d.g (pHtx n) fHtxPattern != 0 && d.htxState n == htData)
      (·.updHtx n fun h => { h with errInj := h.errInj + 1 })

def Dev.hrxPrbsWrite (d : Dev) (w : Who) (n : Lane) (v : Word) : Dev :=
  let ok := d.writeStatus w (pHrx n) 0x080 == .ok
  (d.prbsCtrlWrite w (pHrx n) v).when (ok && v.getLsbD 5) (·.updHrx n fun h => { h with prbsErr := false })

def Dev.hrxPrbsCount (d : Dev) (n : Lane) (bits errBits errSyms : Nat) : Dev :=
  let r := d.prbsCount (pHrx n) 8 9 (d.hr n).prbsErr bits errBits errSyms
  r.1.updHrx n fun h => { h with prbsErr := r.2 }

/-- The checker of a host lane has no prbs_lock source (R199). -/
def Dev.hrxPrbsLock (d : Dev) (n : Lane) : Dev :=
  if d.g (pHrx n) fPrbsPattern = 0 then d else d.sb (pHrx n) fPrbsLock true

/-! The meanings of the host lane's own commands -/

/-- HRX_EN_SET (R186): LANE_CTRL written with en = 1. -/
def execHrxEnSet (w : Who) (n : Lane) (v : Word) (s : State) : Out := act s (·.hrxCtrlWrite w n (v ||| 1))
/-- HRX_EN_CLEAR (R186): LANE_CTRL written with en = 0. -/
def execHrxEnClear (w : Who) (n : Lane) (v : Word) (s : State) : Out := act s (·.hrxCtrlWrite w n (v &&& ~~~ 1))
/-- HTX_EN_SET (R180): LANE_CTRL written with en = 1. -/
def execHtxEnSet (w : Who) (n : Lane) (v : Word) (s : State) : Out := act s (·.htxCtrlWrite w n (v ||| 1))
/-- HTX_EN_CLEAR (R186): LANE_CTRL written with en = 0. -/
def execHtxEnClear (w : Who) (n : Lane) (v : Word) (s : State) : Out := act s (·.htxCtrlWrite w n (v &&& ~~~ 1))
/-- HTX_START_POWERED (R180). -/
def execHtxStartPowered (n : Lane) (s : State) : Out := actOn (pHtx n) s (·.htxPowered n)
/-- WARMUP_FRAME_RECEIVED (R185). -/
def execWarmupFrameReceived (n : Lane) (syms : List (Fin 4)) (spaced : Bool) (s : State) : Out := actOn (pHrx n) s (·.frameReceived n syms spaced)
/-- WARMUP_FRAME_START (R183). -/
def execWarmupFrameStart (n : Lane) (s : State) : Out := actOn (pHtx n) s (·.frameStart n)
/-- WARMUP_TAP_UPDATE (R185). -/
def execWarmupTapUpdate (n : Lane) (s : State) : Out := actOn (pHtx n) s (·.tapUpdate n)
/-- SEARCH_MEASURE_END (R188). -/
def execSearchMeasureEnd (n : Lane) (snr : Nat) (s : State) : Out := actOn (pHrx n) s (·.searchMeasured n snr)
/-- REQ_TIMEOUT (R188). -/
def execReqTimeout (n : Lane) (s : State) : Out := actOn (pHrx n) s (·.reqTimeout n)
/-- HANDOVER (R189). -/
def execHandover (n : Lane) (ms : Nat) (s : State) : Out := actOn (pHrx n) s (·.handover n ms)
/-- STATIC_ACCEPT (R192). -/
def execStaticAccept (n : Lane) (snr ms : Nat) (s : State) : Out := actOn (pHrx n) s (·.staticAccept n snr ms)
/-- ATTEMPT_TIMER_EXPIRY (R190). -/
def execAttemptTimerExpiry (n : Lane) (s : State) : Out := actOn (pHrx n) s (·.attemptExpired n)
/-- HOST_FAULT_DWELL_END (R190). -/
def execHostFaultDwellEnd (n : Lane) (s : State) : Out := actOn (pHrx n) s (·.hostFaultEnd n)
/-- HOST_TABLE_REFRESH (R175). -/
def execHostTableRefresh (n : Lane) (snr : Nat) (s : State) : Out := actOn (pHrx n) s (·.tableRefresh n snr)
/-- HOST_FFE_LMS_UPDATE (R175). -/
def execHostFfeLmsUpdate (n : Lane) (signs : List Int) (s : State) : Out := actOn (pHrx n) s (·.lmsUpdate n signs)
/-- HOST_GATE_WINDOW (R176). -/
def execHostGateWindow (n : Lane) (b : Block) (s : State) : Out := actOn (pHrx n) s (·.hostGateWindow n b)
/-- HTX_FIR_RAMP_STEP (R179). -/
def execHtxFirRampStep (n : Lane) (s : State) : Out := actOn (pHtx n) s (·.firStep n)
/-- HTX_SWING_SLEW_STEP (R181). -/
def execHtxSwingSlewStep (n : Lane) (s : State) : Out := actOn (pHtx n) s (·.htxSwingStep n)

/-! Events that line and host lanes share -/

/-- The receiver's and the transmitter's page of a lane. -/
def rxPage (sd : Side) (n : Lane) : Nat := match sd with | .line => pLrx n | .host => pHrx n
def txPage (sd : Side) (n : Lane) : Nat := match sd with | .line => pLtx n | .host => pHtx n

/-- SIG_DET (R61). No signal reaches a lane while the boundary register controls the balls (R456). -/
def execSigDet (sd : Side) (n : Lane) (s : State) : Out :=
  actOn (rxPage sd n) s fun d => if d.tapHolds then d else match sd with | .line => d.lrxSigDet n | .host => d.hrxSigDet n
/-- LOS (R61). -/
def execLos (sd : Side) (n : Lane) (s : State) : Out :=
  actOn (rxPage sd n) s fun d => match sd with | .line => d.lrxLos n | .host => d.hrxLos n
/-- CDR_LOCK (R64). -/
def execCdrLock (sd : Side) (n : Lane) (freq : Int) (phase : Nat) (s : State) : Out :=
  actOn (rxPage sd n) s fun d => match sd with | .line => d.lrxCdrLock n freq phase | .host => d.hrxCdrLock n freq phase
/-- CDR_UNLOCK (R64). -/
def execCdrUnlock (sd : Side) (n : Lane) (freq : Int) (s : State) : Out :=
  actOn (rxPage sd n) s fun d => match sd with | .line => d.lrxCdrUnlock n freq | .host => d.hrxCdrUnlock n freq
/-- FREQ_RANGE (R64). -/
def execFreqRange (sd : Side) (n : Lane) (high : Bool) (s : State) : Out :=
  actOn (rxPage sd n) s fun d => match sd with | .line => d.lrxFreqRange n high | .host => d.hrxFreqRange n high
/-- CDR_LOSS_TIMEOUT (R92, R186). -/
def execCdrLossTimeout (sd : Side) (n : Lane) (s : State) : Out :=
  actOn (rxPage sd n) s fun d => match sd with | .line => d.lrxCdrLoss n | .host => d.hrxCdrLoss n
/-- AGC_DONE (R59, R187). -/
def execAgcDone (sd : Side) (n : Lane) (gain peak snr : Nat) (s : State) : Out :=
  actOn (rxPage sd n) s fun d => match sd with | .line => d.lrxAgcDone n gain | .host => d.hrxAgcDone n gain peak snr
/-- PRBS_LOCK (R77, R199). -/
def execPrbsLock (sd : Side) (n : Lane) (s : State) : Out :=
  actOn (rxPage sd n) s fun d => match sd with | .line => d.prbsLock (pLrx n) 9 | .host => d.hrxPrbsLock n
/-- PRBS_LOCK_LOST (R77). -/
def execPrbsLockLost (sd : Side) (n : Lane) (s : State) : Out :=
  actOn (rxPage sd n) s fun d => match sd with | .line => d.prbsLost (pLrx n) 10 | .host => d.prbsLost (pHrx n) 7
/-- PRBS_ERR (R78): the checker's counts since the last ones counted. -/
def execPrbsErr (sd : Side) (n : Lane) (bits errBits errSyms : Nat) (s : State) : Out :=
  actOn (rxPage sd n) s fun d => match sd with | .line => d.lrxPrbsCount n bits errBits errSyms | .host => d.hrxPrbsCount n bits errBits errSyms
/-- CNT_OVF (R78): the checker's counts since the last ones counted. -/
def execCntOvf (sd : Side) (n : Lane) (bits errBits errSyms : Nat) (s : State) : Out :=
  actOn (rxPage sd n) s fun d => match sd with | .line => d.lrxPrbsCount n bits errBits errSyms | .host => d.hrxPrbsCount n bits errBits errSyms
/-- PRBS_SNAP (R78): PRBS_CTRL written with snap = 1. -/
def execPrbsSnap (sd : Side) (w : Who) (n : Lane) (v : Word) (s : State) : Out :=
  act s fun d => match sd with | .line => d.lrxPrbsWrite w n (v ||| 0x10) | .host => d.hrxPrbsWrite w n (v ||| 0x10)
/-- PRBS_CLR (R78): PRBS_CTRL written with clr = 1. -/
def execPrbsClr (sd : Side) (w : Who) (n : Lane) (v : Word) (s : State) : Out :=
  act s fun d => match sd with | .line => d.lrxPrbsWrite w n (v ||| 0x20) | .host => d.hrxPrbsWrite w n (v ||| 0x20)
/-- UNSQUELCH_RAMP_STEP (R129, R180). -/
def execUnsquelchRampStep (sd : Side) (n : Lane) (s : State) : Out :=
  actOn (txPage sd n) s fun d => match sd with | .line => d.ltxRampStep n | .host => d.htxRampStep n
/-- UNSQUELCH_RAMP_END (R129, R180). -/
def execUnsquelchRampEnd (sd : Side) (n : Lane) (s : State) : Out :=
  actOn (txPage sd n) s fun d => match sd with | .line => d.ltxRampEnd n | .host => d.htxRampEnd n
/-- SQUELCH_REQ (R128, R180): a write to SQUELCH. -/
def execSquelchReq (sd : Side) (w : Who) (n : Lane) (v : Word) (s : State) : Out :=
  act s fun d => match sd with | .line => d.ltxSquelchWrite w n v | .host => d.htxSquelchWrite w n v
/-- OUT_FAULT (R128, R180): the output monitor finds a leg drawing more than 30 mA. -/
def execOutFault (sd : Side) (n : Lane) (s : State) : Out :=
  actOn (txPage sd n) s fun d => match sd with
    | .line => d.when (d.tx n).powered (·.ltxSq n sqOutFault true)
    | .host => d.when (d.hx n).powered (·.htxSq n 3 true)
/-- ERR_INJ (R133, R199): PRBS_GEN written with err_inj = 1. -/
def execErrInj (sd : Side) (w : Who) (n : Lane) (v : Word) (s : State) : Out :=
  act s fun d => match sd with | .line => d.ltxGenWrite w n (v ||| 0x80) | .host => d.htxGenWrite w n (v ||| 0x80)
/-- SYNTH_GLIDE_END (R197): a Concatenated transmitter has reached the followed rate. -/
def execSynthGlideEnd (sd : Side) (n : Lane) (s : State) : Out :=
  actOn (txPage sd n) s fun d => match sd with
    | .line => d.updLtx n fun h => { h with glide := false }
    | .host => d.updHtx n fun h => { h with glide := false }

end Sys2Proof.Machine
end

