-- ==== Sys2Proof/Machine/Mbox.lean ====
section
/-! DEFINITION. The mailboxes and the locks (R359 to R368). -/

namespace Sys2Proof.Machine

def pMbox : Nat := 0x0A
def pLocks : Nat := 0x0B

/-- CH_CFG[c].tmo and rx (R372). -/
def fChTmo (c : Nat) : Fld := ⟨0x040 + 4 * c, 0, 16⟩
def fChRx (c : Nat) : Fld := ⟨0x040 + 4 * c, 16, 5⟩
/-- CH_STATUS[c] (R372). -/
def fChLen (c : Nat) : Fld := ⟨0x080 + 4 * c, 0, 5⟩
def fChSender (c : Nat) : Fld := ⟨0x080 + 4 * c, 16, 5⟩
def fChAcked (c : Nat) : Fld := ⟨0x080 + 4 * c, 27, 1⟩
def fChTimeout (c : Nat) : Fld := ⟨0x080 + 4 * c, 28, 1⟩
def fChAborted (c : Nat) : Fld := ⟨0x080 + 4 * c, 29, 1⟩
def fChCollide (c : Nat) : Fld := ⟨0x080 + 4 * c, 30, 1⟩
def fChFull (c : Nat) : Fld := ⟨0x080 + 4 * c, 31, 1⟩

/-! Doorbells (R359, R361) -/

/-- The doorbell register of an agent, by its master ID (R359). -/
def doorbellOf (a : Nat) : Option Nat := if a ≤ 2 then some a else if 16 ≤ a then some 3 else none

/-- The bits of a doorbell that take part in notification (R361). -/
def Dev.dbMasked (d : Dev) (r : Nat) : Word := d.rd pMbox (0x140 + 4 * r) &&& d.rd pMbox (0x150 + 4 * r)

/-- The SPI or the Baton host is notified when a masked bit newly sets (R361, R372). -/
def Dev.dbNotify (d : Dev) (before : Word) (r : Nat) : Dev :=
  d.raiseIf ((r == 1 || r == 2) && d.dbMasked r &&& ~~~ before != 0) pMbox (r - 1)

/-- Bit `b` of an agent's doorbell sets (R360 to R363). -/
def Dev.ring (d : Dev) (agent b : Nat) : Dev :=
  match doorbellOf agent with
  | none => d
  | some r => (d.wr pMbox (0x140 + 4 * r) (d.rd pMbox (0x140 + 4 * r) ||| BitVec.twoPow 32 b)).dbNotify (d.dbMasked r) r

/-! Channels (R360 to R363) -/

/-- The timer of channel `c` runs or stops. -/
def Dev.setTimer (d : Dev) (c : Nat) (on : Bool) : Dev :=
  { d with mboxTimer := if on then d.mboxTimer ||| BitVec.twoPow 16 c else d.mboxTimer &&& ~~~ BitVec.twoPow 16 c }

/-- An accepted send on channel `c` (R360, R362). -/
def Dev.send (d : Dev) (w : Who) (c len : Nat) : Dev :=
  let full := d.b pMbox (fChFull c)
  let d := (((((((d.sb pMbox (fChFull c) true).s pMbox (fChSender c) w.mid.val).s pMbox (fChLen c) len).sb pMbox (fChAcked c) false)
    |>.sb pMbox (fChAborted c) false).sb pMbox (fChTimeout c) false).sb pMbox (fChCollide c) full).raiseIf full pMbox 2
  (d.ring (d.g pMbox (fChRx c)) c).setTimer c (d.g pMbox (fChTmo c) != 0)

/-- A write to SEND[c] (R360). -/
def Dev.sendWrite (d : Dev) (w : Who) (c : Nat) (v : Word) : Dev :=
  let len := getBits v 0 5
  d.accessUnless (w.mid.val == 3 || w.mid.val == 4 || len == 0 || decide (16 < len)) w pMbox (0x0C0 + 4 * c) (·.send w c len)

/-- The held message of channel `c` is acknowledged (R361). -/
def Dev.done (d : Dev) (c : Nat) : Dev :=
  if d.b pMbox (fChFull c) then
    (((d.sb pMbox (fChFull c) false).sb pMbox (fChAcked c) true).setTimer c false).ring (d.g pMbox (fChSender c)) (16 + c)
  else d

/-- A write to DONE[c] (R361). -/
def Dev.doneWrite (d : Dev) (w : Who) (c : Nat) (v : Word) : Dev :=
  let go := v.getLsbD 0
  d.accessUnless (go && w.mid.val != 0 && w.mid.val != d.g pMbox (fChRx c)) w pMbox (0x100 + 4 * c) fun d => d.when go (·.done c)

/-- A write to DOORBELL[r] (R361). -/
def Dev.doorbellWrite (d : Dev) (w : Who) (r : Nat) (v : Word) : Dev :=
  d.accessUnless (w.mid.val != 0 && doorbellOf w.mid.val != some r) w pMbox (0x140 + 4 * r) (·.store pMbox (0x140 + 4 * r) v)

/-- A write to DB_MASK[r]: a bit that the mask opens notifies (R361). -/
def Dev.dbMaskWrite (d : Dev) (w : Who) (r : Nat) (v : Word) : Dev :=
  d.access w pMbox (0x150 + 4 * r) fun d => (d.store pMbox (0x150 + 4 * r) v).dbNotify (d.dbMasked r) r

/-- The timer of channel `c` expires (R362). -/
def Dev.mboxTimeout (d : Dev) (c : Nat) : Dev :=
  if d.mboxTimer.getLsbD c then
    (((d.setTimer c false).sb pMbox (fChTimeout c) true).ring (d.g pMbox (fChSender c)) (16 + c)).raise pMbox 4
  else d

/-- The message held in channel `c` is aborted (R363). -/
def Dev.abortChannel (d : Dev) (c : Nat) : Dev :=
  let d := (d.wrs pMbox (0x400 + 0x40 * c) (List.replicate 16 0)).setTimer c false
  (((d.sb pMbox (fChFull c) false).sb pMbox (fChAborted c) true).ring (d.g pMbox (fChSender c)) (16 + c)).raise pMbox 3

/-- A receiver is reset (R363). -/
def Dev.receiverReset (d : Dev) (rx : Nat) : Dev :=
  (List.range 16).foldl (fun d c => d.when (d.g pMbox (fChRx c) == rx && d.b pMbox (fChFull c)) (·.abortChannel c)) d

/-- A write to RX_RESET: each bit acts for its own host and for the Coach (R363). -/
def Dev.rxResetWrite (d : Dev) (w : Who) (v : Word) : Dev :=
  d.access w pMbox 0x160 fun d =>
    let d := d.when (v.getLsbD 1 && (w.mid.val == 0 || w.mid.val == 1)) (·.receiverReset 1)
    d.when (v.getLsbD 2 && (w.mid.val == 0 || w.mid.val == 2)) (·.receiverReset 2)

/-! Locks (R366 to R368) -/

/-- OWNER: the owner's master ID plus 1 of lock `i`, 0 when it is free (R373). -/
def fOwn (i : Nat) : Fld := ⟨0x0C0 + 4 * (i / 4), 8 * (i % 4), 8⟩

/-- A read of LOCK[i] acquires a free lock (R366). -/
def Dev.lockRead (d : Dev) (w : Who) (i : Nat) : Dev :=
  d.readAccess w pLocks (0x040 + 4 * i) fun d =>
    let own := d.g pLocks (fOwn i)
    if own = 0 then (d.s pLocks (fOwn i) (w.mid.val + 1), 0) else (d, BitVec.ofNat 32 own)

/-- A write to LOCK[i]: 0 from the owner or the Coach releases it (R368). -/
def Dev.lockWrite (d : Dev) (w : Who) (i : Nat) (v : Word) : Dev :=
  d.accessUnless (v != 0 || (w.mid.val != 0 && d.g pLocks (fOwn i) != w.mid.val + 1)) w pLocks (0x040 + 4 * i)
    (·.s pLocks (fOwn i) 0)

/-- Every lock of a master is released (R368). -/
def Dev.releaseMaster (d : Dev) (m : Nat) : Dev :=
  (List.range 32).foldl (fun d i => d.when (d.g pLocks (fOwn i) == m + 1) (·.s pLocks (fOwn i) 0)) d

/-- A write to RELEASE_ALL (R368). -/
def Dev.releaseAllWrite (d : Dev) (w : Who) (v : Word) : Dev :=
  let go := v.getLsbD 8
  let m := getBits v 0 5
  d.accessUnless (go && w.mid.val != 0 && w.mid.val != m) w pLocks 0x0E0 fun d => d.when go (·.releaseMaster m)

/-! The meanings -/

/-- SEND (R360). -/
def execSend (w : Who) (c : Fin 16) (v : Word) (s : State) : Out := act s (·.sendWrite w c.val v)
/-- DONE (R361): DONE[c] written 1. -/
def execDone (w : Who) (c : Fin 16) (s : State) : Out := act s (·.doneWrite w c.val 1)
/-- DOORBELL_CLEAR (R361). -/
def execDoorbellClear (w : Who) (r : Fin 4) (v : Word) (s : State) : Out := act s (·.doorbellWrite w r.val v)
/-- MBOX_TIMEOUT (R362). -/
def execMboxTimeout (c : Fin 16) (s : State) : Out := actOn (pMbox) s (·.mboxTimeout c.val)
/-- RX_RESET_SPI (R363): RX_RESET written with spi = 1. -/
def execRxResetSpi (w : Who) (v : Word) (s : State) : Out := act s (·.rxResetWrite w (v ||| 2))
/-- RX_RESET_BATON (R363): RX_RESET written with baton = 1. -/
def execRxResetBaton (w : Who) (v : Word) (s : State) : Out := act s (·.rxResetWrite w (v ||| 4))
/-- LOCK_READ (R366). -/
def execLockRead (w : Who) (i : Fin 32) (s : State) : Out := act s (·.lockRead w i.val)
/-- LOCK_RELEASE (R368). -/
def execLockRelease (w : Who) (i : Fin 32) (v : Word) (s : State) : Out := act s (·.lockWrite w i.val v)
/-- RELEASE_ALL (R368): written with go = 1. -/
def execReleaseAll (w : Who) (v : Word) (s : State) : Out := act s (·.releaseAllWrite w (v ||| 0x100))

end Sys2Proof.Machine
end

