-- ==== Sys2Proof/Machine/Ed25519.lean ====
section
/-! DEFINITION. The Ed25519 signature of R397, R398, R421 and R422, by RFC 8032 in pure mode, with the cofactored equation of R398. -/

namespace Sys2Proof.Machine

/-- The prime of the field, the order of the base point, and the constant of the curve. -/
def edP : Nat := 2 ^ 255 - 19
def edL : Nat := 2 ^ 252 + 27742317777372353535851937790883648493
def edD : Nat := 37095705934669439343138083508754565189542113879843219016388785533085940283555

def fMul (a b : Nat) : Nat := a * b % edP
def fAdd (a b : Nat) : Nat := (a + b) % edP
def fSub (a b : Nat) : Nat := (a + (edP - b % edP)) % edP

/-- The power of a field element, by the bits of the exponent from bit `n - 1` down. -/
def fPow (a e : Nat) : Nat → Nat
  | 0 => 1
  | n + 1 => (List.range (n + 1)).foldr (fun i r => let s := fMul r r
      if e.testBit i then fMul s a else s) 1

/-- The inverse of a field element. -/
def fInv (a : Nat) : Nat := fPow a (edP - 2) 255

/-- A point in extended coordinates. -/
structure EdPoint where
  x : Nat
  y : Nat
  z : Nat
  t : Nat
  deriving DecidableEq, Repr

/-- The sum of two points. -/
def EdPoint.add (p q : EdPoint) : EdPoint :=
  let a := fMul (fSub p.y p.x) (fSub q.y q.x)
  let b := fMul (fAdd p.y p.x) (fAdd q.y q.x)
  let c := fMul (fMul (2 * p.t) q.t) edD
  let d := fMul (2 * p.z) q.z
  let e := fSub b a
  let f := fSub d c
  let g := fAdd d c
  let h := fAdd b a
  ⟨fMul e f, fMul g h, fMul f g, fMul e h⟩

def EdPoint.zero : EdPoint := ⟨0, 1, 1, 0⟩

/-- The multiple of a point by a number below 2^n. -/
def EdPoint.mul (p : EdPoint) (k : Nat) : Nat → EdPoint
  | 0 => .zero
  | n + 1 => (List.range (n + 1)).foldr (fun i r => let s := r.add r
      if k.testBit i then s.add p else s) .zero

/-- The base point. -/
def edBase : EdPoint :=
  let x := 15112221349535400772501151409588531511454012693041857206046113283949847762202
  let y := 46316835694926478169428394003475163141307993866256225615783033603165251855960
  ⟨x, y, 1, fMul x y⟩

/-- Two points are equal. -/
def EdPoint.same (p q : EdPoint) : Bool := fMul p.x q.z == fMul q.x p.z && fMul p.y q.z == fMul q.y p.z

/-- The little-endian number of bytes, and the `n` little-endian bytes of a number. -/
def leNat (l : List Byte) : Nat := l.foldr (fun b n => b.toNat + 256 * n) 0
def leBytes (n x : Nat) : List Byte := (List.range n).map fun i => BitVec.ofNat 8 (x / 2 ^ (8 * i))

/-- The encoding of a point. -/
def EdPoint.encode (p : EdPoint) : List Byte :=
  let zi := fInv p.z
  let x := fMul p.x zi
  leBytes 32 (fMul p.y zi + 2 ^ 255 * (x % 2))

/-- The point that 32 bytes encode, if they do. -/
def edDecode (l : List Byte) : Option EdPoint :=
  let v := leNat (l.take 32)
  let y := v % 2 ^ 255
  let sign := v / 2 ^ 255 % 2
  if edP ≤ y then none else
  let u := fSub (fMul y y) 1
  let w := fAdd (fMul edD (fMul y y)) 1
  let w3 := fMul w (fMul w w)
  let r := fMul (fMul u w3) (fPow (fMul u (fMul w3 (fMul w w) |> fMul w |> fMul w)) ((edP - 5) / 8) 255)
  let c := fMul w (fMul r r)
  let root : Option Nat := if c = u then some r else if c = fSub 0 u then some (fMul r (fPow 2 ((edP - 1) / 4) 255)) else none
  match root with
  | none => none
  | some x =>
    if x = 0 ∧ sign = 1 then none else
    let x := if x % 2 = sign then x else fSub 0 x
    some ⟨x, y, 1, fMul x y⟩

/-- The number that a digest stands for, modulo the group order. -/
def edScalar (m : List Byte) : Nat := leNat (sha512 m) % edL

/-- The signature `sig` over `m` verifies under the public key `pk` (R398 step 3). -/
def edVerify (pk m sig : List Byte) : Bool :=
  let s := leNat ((sig.drop 32).take 32)
  match edDecode pk, edDecode (sig.take 32) with
  | some a, some r =>
    let k := edScalar (sig.take 32 ++ pk ++ m)
    decide (s < edL) && ((edBase.mul s 256).mul 8 4).same ((r.mul 8 4).add ((a.mul k 256).mul 8 4))
  | _, _ => false

/-- The secret scalar and the prefix of a seed. -/
def edSecret (seed : List Byte) : Nat × List Byte :=
  let h := sha512 seed
  let a := leNat (h.take 32)
  (2 ^ 254 + a % 2 ^ 254 / 8 * 8, h.drop 32)

/-- The public key of a seed (R421). -/
def edPublic (seed : List Byte) : List Byte := (edBase.mul (edSecret seed).1 256).encode

/-- The signature over `m` by the key of a seed (R422). -/
def edSign (seed m : List Byte) : List Byte :=
  let x := edSecret seed
  let r := edScalar (x.2 ++ m)
  let rr := (edBase.mul r 256).encode
  let k := edScalar (rr ++ edPublic seed ++ m)
  rr ++ leBytes 32 ((r + k * x.1) % edL)

end Sys2Proof.Machine
end

