-- ==== Sys2Proof/Machine/Package.lean ====
section
/-! DEFINITION. Firmware packages and their verification (R396 to R398, R400), the OTP words (R399) and the boot journal (R407). -/

namespace Sys2Proof.Machine

def pSec : Nat := 0x07
def pBoot : Nat := 0x08
def pNvm : Nat := 0x09

/-! OTP (R399, R400) -/

def otpBlank : Nat → Word := fun _ => 0
def Dev.otp (d : Dev) (i : Nat) : Word := tabGet otpBlank i d.nvm.otp

/-- Bits of an OTP word are programmed from 0 to 1. -/
def Dev.otpOr (d : Dev) (i : Nat) (w : Word) : Dev :=
  { d with nvm := { d.nvm with otp := tabSet otpBlank i (d.otp i ||| w) d.nvm.otp } }

/-- The bytes of a word, lowest first. -/
def wordBytes (w : Word) : List Byte := leBytes 4 w.toNat

/-- The bytes of `n` OTP words from word `i` on. -/
def Dev.otpBytes (d : Dev) (i n : Nat) : List Byte := (List.range n).flatMap fun j => wordBytes (d.otp (i + j))

/-- Key slot `k` is usable (R400). -/
def Dev.keyUsable (d : Dev) (k : Nat) : Bool := decide (k < 4) && (d.rd pSec 0x044).getLsbD k && !(d.rd pSec 0x044).getLsbD (4 + k)

/-! The layout of a package (R396, R397) -/

/-- The package in Coach SRAM and in a firmware slot. -/
def sramPackage : Nat := sramBase
def slotBase (slot : Nat) : Nat := flashBase + slot * 0x400000

/-- The offset and the size of the area of segment `i`: Coach firmware, line engine image, host engine image. -/
def segOffset (i : Nat) : Nat := [0x1000, 0x80000, 0xC0000].getD i 0
def segArea (i : Nat) : Nat := [0x7F000, 0x40000, 0x40000].getD i 0

/-- A field of `n` bytes at an offset of a manifest, as bytes and as a little-endian number. -/
def field (m : List Byte) (off n : Nat) : List Byte := (m.drop off).take n
def fieldNat (m : List Byte) (off n : Nat) : Nat := leNat (field m off n)

/-- The length and the digest of segment `i`. -/
def segLen (m : List Byte) (i : Nat) : Nat := fieldNat m (0x060 + 72 * i) 4
def segDigest (m : List Byte) (i : Nat) : List Byte := field m (0x068 + 72 * i) 64

def manifestBytes : Nat := 0x178

/-- The manifest digest (R397). -/
def manifestDigest (m : List Byte) : List Byte := sha512 (field m 0 manifestBytes)

def pkgVersion (m : List Byte) : Long := BitVec.ofNat 64 (fieldNat m 0x008 8)
def pkgRollback (m : List Byte) : Nat := fieldNat m 0x007 1
def pkgKey (m : List Byte) : Nat := fieldNat m 0x006 1
def pkgRevoke (m : List Byte) : Nat := fieldNat m 0x011 1 % 16

/-- Steps 1 to 4 of R398 on a manifest: the cause of the first that fails. -/
def Dev.checkManifest (d : Dev) (m : List Byte) : Nat :=
  let lens := (List.range 3).map (segLen m)
  if field m 0 4 ≠ [0x5A, 0x56, 0x57, 0x46] ∨ fieldNat m 4 2 ≠ 1 ∨
      (List.range 3).any (fun i => decide (lens.getD i 0 % 4 ≠ 0 ∨ segArea i < lens.getD i 0 ∨ lens.getD i 0 = 0)) then 1
  else if !d.keyUsable (pkgKey m) || sha512 (field m 0x040 32) != d.otpBytes (20 + 16 * pkgKey m) 16 then 2
  else if !edVerify (field m 0x040 32) (field m 0 0x138) (field m 0x138 64) then 3
  else if pkgRollback m < (d.rd pSec 0x048).toNat then 4
  else 0

/-- The package at an address is verified (R398): the cause of the first step that fails, or 0. -/
def State.verify (s : State) (base : Nat) : Nat :=
  let m := memBytes s.mem base manifestBytes
  let c := s.dev.checkManifest m
  if c ≠ 0 then c
  else if (List.range 3).all fun i => sha512 (memBytes s.mem (base + segOffset i) (segLen m i)) == segDigest m i then 0
  else 5

/-- A slot is copied into Coach SRAM: the manifest area and what the manifest counts as segments (R396, R402). -/
def State.copySlot (s : State) (slot : Nat) : State :=
  let m := memBytes s.mem (slotBase slot) manifestBytes
  let part (s : State) (off n : Nat) : State :=
    let n := min n 0x7F000
    { s with mem := memSetBytes s.mem (sramPackage + off) (memBytes s.mem (slotBase slot + off) n), dev := s.dev.eccForget (sramPackage + off) n }
  (List.range 3).foldl (fun s i => part s (segOffset i) (min (segLen m i) (segArea i))) (part s 0 0x1000)

/-- A verification fails: verify_fail is raised (R424). -/
def State.verifyEvent (s : State) (cause : Nat) : State := { s with dev := s.dev.raiseIf (cause != 0) pSec 0 }

/-! The journal (R407) -/

def fFlashWindow : Fld := ⟨0x060, 1, 1⟩
def fOtpWindow : Fld := ⟨0x060, 0, 1⟩
def fBootSel : Fld := ⟨0x044, 8, 2⟩
def fJrnlSkip : Fld := ⟨0x044, 12, 1⟩

/-- The journal is used: the source is the flash (R402). -/
def Dev.flashSource (d : Dev) : Bool := d.g pBoot fBootSel == 0

def journalBase : Nat := flashBase + 0x808000

/-- A record of the journal: its index, type, slot, attempt, cause and sequence number. -/
structure JRec where
  idx : Nat
  kind : Nat
  slot : Nat
  attempt : Nat
  cause : Nat
  seq : Nat
  deriving DecidableEq, Repr

/-- Record types. -/
def jAttempt : Nat := 1
def jFail : Nat := 2
def jGood : Nat := 3
def jClear : Nat := 4
def jTrial : Nat := 5
def jCancel : Nat := 6

/-- The valid record at an index, if there is one. -/
def jrnlAt (m : List Host.Cell) (i : Nat) : Option JRec :=
  let b := memBytes m (journalBase + 16 * i) 16
  let k := fieldNat b 0 1
  if k = 0 ∨ 6 < k ∨ crc16 (b.take 14) ≠ BitVec.ofNat 16 (fieldNat b 14 2) then none
  else some ⟨i, k, fieldNat b 1 1, fieldNat b 2 1, fieldNat b 3 1, fieldNat b 4 4⟩

/-- Insertion by rising sequence number. -/
def jrnlInsert (r : JRec) : List JRec → List JRec
  | [] => [r]
  | x :: t => if r.seq < x.seq then r :: x :: t else x :: jrnlInsert r t

/-- The valid records, by rising sequence number. -/
def jrnlRecords (m : List Host.Cell) : List JRec := ((List.range 512).filterMap (jrnlAt m)).foldr jrnlInsert []

/-- The records after the last GOOD or CLEAR. -/
def jrnlTail (m : List Host.Cell) : List JRec :=
  (jrnlRecords m).foldl (fun l r => if r.kind = jGood ∨ r.kind = jClear then [] else l ++ [r]) []

/-- The causes of the failed attempts that the journal shows, oldest first: an ATTEMPT without a following FAIL counts as failed with
cause 8, and a CANCEL takes the last one back. -/
def jrnlCauses (m : List Host.Cell) : List Nat :=
  (jrnlTail m).foldl (fun l r =>
    if r.kind = jAttempt then l ++ [8]
    else if r.kind = jFail then l.dropLast ++ [r.cause]
    else if r.kind = jCancel then l.dropLast
    else l) []

/-- The bytes of a record. -/
def jrnlBytes (kind slot attempt cause seq : Nat) (tk : Long) : List Byte :=
  let b := [BitVec.ofNat 8 kind, BitVec.ofNat 8 slot, BitVec.ofNat 8 attempt, BitVec.ofNat 8 cause] ++ leBytes 4 seq ++ leBytes 6 tk.toNat
  b ++ leBytes 2 (crc16 b).toNat

/-- The firmware erases the other sector once 16 or fewer records remain free in the current one (R407). -/
def State.jrnlErase (s : State) (i : Nat) : State :=
  if s.dev.coachUp ∧ 240 ≤ i % 256 + 1 then s.forget (journalBase + (if i < 256 then 0x1000 else 0)) 0x1000 else s

/-- A record is written after the newest one, where the window of R264 is open and the place is erased; `bad` says that its read-back
fails. What is refused or fails is skipped (R409). -/
def State.jrnl (s : State) (kind slot attempt cause : Nat) (bad : Bool) : State :=
  if !s.dev.flashSource then s else
  let last := (jrnlRecords s.mem).getLast?
  let i := (last.map fun r => (r.idx + 1) % 512).getD 0
  let seq := (last.map fun r => r.seq + 1).getD 1
  let free := (memBytes s.mem (journalBase + 16 * i) 16).all (· == 0xFF)
  let skip (d : Dev) : Dev := (d.sb pBoot fJrnlSkip true).raise pBoot 5
  if !s.dev.b 0x06 fFlashWindow then { s with dev := skip s.dev }
  else if bad || !free then { s with dev := (skip s.dev).raise pNvm 4 }
  else { s with mem := memSetBytes s.mem (journalBase + 16 * i) (jrnlBytes kind slot attempt cause seq s.dev.tk) }.jrnlErase i

end Sys2Proof.Machine
end

