-- ==== Sys2Proof/Machine/Squad.lean ====
section
/-! DEFINITION. The Squads: states, traps, reload, lending and the command interface (R206 to R227). -/

namespace Sys2Proof.Machine

/-! States and hold reasons (R207, R208) -/

/-- The lane of Squad `n` takes its hold reasons: reload while an image loads, engines while the Squad is HALTED, TRAPPED or OFF
(R208). The reason that holds sets before the other clears. -/
def Dev.sqHolds (d : Dev) (n : Sq) : Dev :=
  let st := d.sqState n
  let reload := (d.sq n).reloading || st == sqLoading || st == sqReloading
  let engines := !reload && st != sqRunning
  let reloadTo (d : Dev) : Dev := if n.val < 8 then d.setHold (sqLane n) fHoldReload reload else d.setHostHold (sqLane n) 1 reload
  let enginesTo (d : Dev) : Dev := if n.val < 8 then d.setHold (sqLane n) fHoldEngines engines else d.setHostHold (sqLane n) 3 engines
  if reload then enginesTo (reloadTo d) else reloadTo (enginesTo d)

/-- Squad `n` enters a state (R207). -/
def Dev.sqTo (d : Dev) (n : Sq) (st : Nat) : Dev :=
  ((d.s (pSquad n) fSqState st).updSquad n fun h =>
    { h with halting := h.halting && st == sqRunning, trapped := if st = sqRunning then [] else h.trapped }).sqHolds n
    |>.when (st != sqRunning) (·.anaSquadLeft n)

/-- A write to SQUADn.CTRL: auto_recover, halt_req in RUNNING outside a reload, run in HALTED (R207, R219). -/
def Dev.squadCtrlWrite (d : Dev) (w : Who) (n : Sq) (v : Word) : Dev :=
  d.access w (pSquad n) 0x040 fun d =>
    let d := d.store (pSquad n) 0x040 v
    let d := d.when (v.getLsbD 0 && d.sqRuns n && !(d.sq n).reloading) (·.updSquad n fun h => { h with halting := true })
    d.when (v.getLsbD 1 && d.sqState n == sqHalted) (·.sqTo n sqRunning)

/-- Every engine has stopped (R207). -/
def Dev.squadHalted (d : Dev) (n : Sq) : Dev := d.when ((d.sq n).halting && d.sqRuns n) fun d => (d.trialSquad n).sqTo n sqHalted

/-! The loader's queue (R217) -/

/-- A reload is requested: merged with one that waits or loads (R217). -/
def Dev.reloadRequest (d : Dev) (n : Sq) : Dev :=
  if d.loader.contains n.val || d.sqState n == sqLoading || d.sqState n == sqReloading then d
  else { d with loader := d.loader ++ [n.val] }.sb (pSquad n) fReloadQueued true

/-- The loader has done with Squad `n`. -/
def Dev.loaderDone (d : Dev) (n : Sq) : Dev := if d.serving = some n.val then { d with serving := none } else d

/-! Traps (R212 to R214) -/

/-- Engine `e` traps (R213). A trap in step 6 of a reload ends the reload with result 1 (R219). Another engine's trap before the
Squad has stopped is only counted. -/
def Dev.engineTrap (d : Dev) (n : Sq) (e cause : Nat) (pc addr : Word) : Dev :=
  let p := pSquad n
  if d.sqState n = sqTrapped then
    if (d.sq n).trapped.contains e then d
    else (d.updSquad n fun h => { h with trapped := h.trapped ++ [e] }).incSat p fTrapCount
  else if d.sqRuns n then
    let d := d.when (d.sq n).reloading fun d =>
      ((d.s p fReloadResult 1).updSquad n fun h => { h with reloading := false, verified := false }).loaderDone n
    let d := ((d.s p fTrapCause cause).s p fTrapEngine e).incSat p fTrapCount
    let d := (d.wr p 0x04C pc).wr p 0x050 addr
    (((d.trialSquad n).sqTo n sqTrapped).updSquad n fun h => { h with trapped := [e] }).raise p 0
  else d

/-- The firmware requests a reload of a TRAPPED Squad (R214). -/
def Dev.autoRecover (d : Dev) (n : Sq) : Dev :=
  d.when (d.sqState n == sqTrapped && d.b (pSquad n) fAutoRecover && d.coachUp) (·.reloadRequest n)

/-! Reload (R218, R219) -/

/-- The places of the images in Coach SRAM, for line and host Squads (R396). -/
def imageBase (n : Sq) : Nat := if n.val < 8 then 0x00280000 else 0x002C0000

/-- Step 1 of a reload, but for the memories: the Squad's channels and locks are released and its exclusions end (R218, R225, R363,
R368). Without a verified image the Squad goes to OFF. -/
def Dev.reloadTake (d : Dev) (n : Sq) (found : Bool) : Dev :=
  let d := ({ d with loader := d.loader.tail, serving := some n.val }.sb (pSquad n) fReloadQueued false)
  let d := ((d.trialSquad n).receiverReset (sqMaster n)).releaseMaster (sqMaster n)
  let d := d.updSquad n fun h => { h with excl := [], reloading := found, verified := false }
  if found then d.sqTo n (if d.sqState n = sqOff then sqLoading else sqReloading)
  else ((d.s (pSquad n) fReloadResult 3).sqTo n sqOff).loaderDone n

/-- The loader may take up the request of Squad `n`: it is the first that waits, no other is served and the management firmware
runs (R217, R219). -/
def Dev.mayReload (d : Dev) (n : Sq) : Bool := d.loader.head? == some n.val && d.serving.isNone && d.coachUp

/-- Steps 3 and 4: the engine data is cleared and the image is written to program memory (R218). -/
def State.loadImage (s : State) (n : Sq) : State :=
  let d := (List.range 4).foldl (fun d k => d.trialAccess (imageBase n + k * 0x10000)) s.dev
  ({ s with dev := d }.forget (squadWindow n.val + 0x40000) 0x80000).copy (imageBase n) (squadWindow n.val) 0x40000

/-- Which segment of a package holds the image of Squad `n` (R396). -/
def imageSeg (n : Sq) : Nat := if n.val < 8 then 1 else 2

/-- The digest of program memory as written equals the digest of the running package's manifest (R218 step 5). -/
def State.imageMatches (s : State) (n : Sq) : Bool :=
  let m := s.dev.boot.manifest
  sha512 (memBytes s.mem (squadWindow n.val) (segLen m (imageSeg n))) == segDigest m (imageSeg n)

/-- Step 5 with a match: the engines start (R218 step 6). -/
def Dev.reloadVerified (d : Dev) (n : Sq) (id : Word) : Dev :=
  ((d.updSquad n fun h => { h with verified := true, digest := segDigest d.boot.manifest (imageSeg n) }).wr (pSquad n) 0x068 id).sqTo n sqRunning

/-- Step 5 without a match: the Squad enters OFF (R218). -/
def Dev.reloadFailed (d : Dev) (n : Sq) : Dev :=
  let d := (d.updSquad n fun h => { h with reloading := false, verified := false }).s (pSquad n) fReloadResult 2
  ((d.sqTo n sqOff).raise (pSquad n) 4).loaderDone n

/-- An image is loading, and its digest is not yet judged. -/
def Dev.sqLoads (d : Dev) (n : Sq) : Bool := d.sqState n == sqLoading || d.sqState n == sqReloading

/-- Step 7 (R218). -/
def Dev.reloadDone (d : Dev) (n : Sq) : Dev :=
  let p := pSquad n
  if d.sqRuns n && (d.sq n).reloading && (d.sq n).verified then
    let d := ((d.s p fReloadResult 1).s p fReloadCount (d.g p fReloadCount + 1)).s p fTrapCount 0
    let d := (d.updSquad n fun h => { h with reloading := false, verified := false }).sqHolds n
    (d.raise p 4).loaderDone n
  else d

/-! Lending (R220 to R222) -/

/-- LEND asks for a loan: the Pacer and the count. -/
def Dev.lendAsk (d : Dev) (n : Sq) : Option Loan :=
  let c := d.g (pSquad n) fLendCount
  if c = 0 then none else some ⟨d.g (pSquad n) fLendPacer, c⟩

/-- The loan that LEND asks for and the device grants. -/
def Dev.lendWant (d : Dev) (n : Sq) : Option Loan := if d.b (pSquad n) fRefused then none else d.lendAsk n

/-- Host Squad `n` holds or has been granted a loan to Pacer `q`. -/
def Dev.lendHolds (d : Dev) (n : Sq) (q : Nat) : Bool :=
  ((d.sq n).lent.map (·.pacer)) == some q || ((d.lendWant n).map (·.pacer)) == some q

/-- A Pacer cycle of lane `q` runs (R97, R102). -/
def Dev.pacerCycles (d : Dev) (q : Lane) : Bool :=
  d.laneValid q && d.sqRuns (lineSq q) ||
    (d.laneState q == stTrain && decide (4 ≤ d.g (pPacer q) fPhase) && d.enginesHere q)

/-- A change of LEND starts on its way (R221): a new or larger loan waits for the release, a smaller or ended one for the end of the
Pacer's cycle, if one runs. -/
def Dev.lendMove (d : Dev) (n : Sq) : Dev :=
  let old := (d.sq n).lent
  let new := d.lendWant n
  if new = old then d.updSquad n fun h => { h with move := .none } else
  match old with
  | none => d.updSquad n fun h => { h with move := .releasing }
  | some o =>
    let same := (new.map (·.pacer)) == some o.pacer
    let grows := same && decide (o.count < (new.map (·.count)).getD 0)
    if grows then d.updSquad n fun h => { h with move := .releasing }
    else if d.pacerCycles (Fin.ofNat 8 o.pacer) then d.updSquad n fun h => { h with move := .returning }
    else
      let part := if same then new else none
      d.updSquad n fun h => { h with lent := part, move := if part = new then .none else .releasing }

/-- Where no loan to Pacer `q` stands any more, the refused loan of the lowest Squad that names it is granted (R220). -/
def Dev.lendGrant (d : Dev) (q : Nat) : Dev :=
  if hostSquads.any fun h => d.lendHolds h q then d else
  match hostSquads.find? fun h => d.b (pSquad h) fRefused && ((d.lendAsk h).map (·.pacer)) == some q with
  | none => d
  | some h => (d.sb (pSquad h) fRefused false).lendMove h

def Dev.lendGrants (d : Dev) : Dev := (List.range 8).foldl (fun d q => d.lendGrant q) d

/-- LEND holds a new value: it is refused where another host Squad names the same Pacer (R220). -/
def Dev.lendNew (d : Dev) (n : Sq) : Dev :=
  let refused := match d.lendAsk n with
    | none => false
    | some l => hostSquads.any fun h => h != n && d.lendHolds h l.pacer
  ((d.sb (pSquad n) fRefused refused).lendMove n).lendGrants

/-- A write to LEND; on Squads 0 to 7 it is discarded (R220). -/
def Dev.lendWrite (d : Dev) (w : Who) (n : Sq) (v : Word) : Dev :=
  d.access w (pSquad n) 0x060 fun d => if n.val < 8 then d else (d.store (pSquad n) 0x060 v).lendNew n

/-- The loan takes the value that LEND asks for: the engines join the Pacer (R221 step 3). -/
def Dev.lendJoin (d : Dev) (n : Sq) : Dev := d.updSquad n fun h => { h with lent := d.lendWant n, move := .none }

/-- The host Squad releases the engines: they join at the Pacer's next cycle, or at once where none runs (R221, R222). -/
def Dev.lendRelease (d : Dev) (n : Sq) : Dev :=
  if (d.sq n).move = .releasing then
    match d.lendWant n with
    | none => d.updSquad n fun h => { h with move := .none }
    | some l => if d.pacerCycles (Fin.ofNat 8 l.pacer) then d.updSquad n fun h => { h with move := .joining } else d.lendJoin n
  else d

/-- The start of a cycle of Pacer `q`: released engines join (R221). -/
def Dev.lendJoins (d : Dev) (q : Lane) : Dev :=
  hostSquads.foldl (fun d h =>
    d.when ((d.sq h).move == .joining && ((d.lendWant h).map (·.pacer)) == some q.val) (·.lendJoin h)) d

/-- The end of a cycle of Pacer `q`: engines return, and a loan to another Pacer then starts on its way (R221). -/
def Dev.lendReturns (d : Dev) (q : Lane) : Dev :=
  (hostSquads.foldl (fun d h =>
    d.when ((d.sq h).move == .returning && ((d.sq h).lent.map (·.pacer)) == some q.val) fun d =>
      let new := d.lendWant h
      let part := if (new.map (·.pacer)) == some q.val then new else none
      d.updSquad h fun s => { s with lent := part, move := if part = new then .none else .releasing }) d).lendGrants

/-- SQUADn.LEND_LIVE (R220, R227). -/
def Dev.lendLive (d : Dev) (n : Sq) : Word :=
  let l := (d.loanLive n).getD ⟨0, 0⟩
  setBits (setBits (d.rd (pSquad n) 0x064) 16 3 l.pacer) 0 6 l.count

/-- SQUADn.STATE.running (R227). -/
def Dev.sqRunning (d : Dev) (n : Sq) : Nat :=
  if d.sqRuns n then 64 - ((List.range 64).filter fun e => d.inTrial n e).length else 0

/-! The command slot (R223, R224) -/

/-- A command ends with a code and the four response words (R223, R224). -/
def Dev.cmdEnd (d : Dev) (n : Sq) (code : Nat) (resp : List Word) : Dev :=
  let p := pSquad n
  let d := d.wrs p 0x0B8 [resp.getD 0 0, resp.getD 1 0, resp.getD 2 0, resp.getD 3 0]
  (((d.s p fCmdCode code).s p fCmdLastTag (d.g p fCmdTag)).sb p fCmdBusy false).raise p 5

/-- A write to CMD: discarded while one is busy; a Squad that is not RUNNING ends it at once (R223). -/
def Dev.squadCmdWrite (d : Dev) (w : Who) (n : Sq) (v : Word) : Dev :=
  let p := pSquad n
  d.access w p 0x0A0 fun d =>
    if d.b p fCmdBusy then d.sb p fCmdCollide true else
    let d := ((d.store p 0x0A0 v).sb p fCmdCollide false).sb p fCmdBusy true
    d.when (!d.sqRuns n) (·.cmdEnd n 4 [])

/-- Squad `n` has an exclusion more or less; the answer gives the engines then in use (R224). -/
def Dev.exclude (d : Dev) (n : Sq) (e : Nat) : Dev :=
  d.updSquad n fun h => { h with excl := if h.excl.contains e then h.excl else h.excl ++ [e] }

/-- The image answers the command in the slot (R224). `util`, `longest` and `skipped` are the figures of STATS, which the image
measures. -/
def Dev.cmdDone (d : Dev) (n : Sq) (util longest skipped : Word) : Dev :=
  let p := pSquad n
  if !d.b p fCmdBusy || !d.sqRuns n then d else
  let arg := (d.rd p 0x0A4).toNat
  match d.g p fCmdOp with
  | 0x01 => d.cmdEnd n 0 [d.rd p 0x068, BitVec.ofNat 32 (leNat ((d.sq n).digest.take 4))]
  | 0x02 => d.cmdEnd n 0 [util, longest, skipped]
  | 0x03 =>
    let t := d.exclude n arg
    let c := mapCount (t.engineMap n)
    if 63 < arg || c < 32 then d.cmdEnd n 2 [] else t.cmdEnd n 0 [BitVec.ofNat 32 c]
  | 0x04 =>
    if 63 < arg then d.cmdEnd n 2 []
    else ((d.updSquad n fun h => { h with excl := h.excl.filter (· != arg) }).anaInclude n arg).cmdEnd n 0 []
  | 0x05 => d.cmdEnd n 0 [(d.engineMap n).lo, (d.engineMap n).hi]
  | _ => d.cmdEnd n 1 []

/-- 1 ms without an answer (R223). -/
def Dev.cmdTimeout (d : Dev) (n : Sq) : Dev := d.when (d.b (pSquad n) fCmdBusy) (·.cmdEnd n 3 [])

/-- A write to DMA_CLR: a halted channel returns to idle (R216). -/
def Dev.dmaClrWrite (d : Dev) (w : Who) (n : Sq) (v : Word) : Dev :=
  let p := pSquad n
  d.access w p 0x090 fun d => (List.range 4).foldl (fun d c =>
    d.when (v.getLsbD c && d.g p (fDmaState c) == 2) fun d => (d.s p (fDmaState c) 0).s p (fDmaCause c) 0) d

/-! The meanings -/

/-- PACER_CYCLE (R97): lent engines join at its start and return at its end (R221). -/
def execPacerCycle (n : Lane) (b : Block) (s : State) : Out :=
  actOn (pPacer n) s fun d => (((if d.pacerCycles n then d.lendJoins n else d).pacerCycle n b).lendReturns n)
/-- SQUAD_HALT_REQ (R207): CTRL written with halt_req = 1. -/
def execSquadHaltReq (w : Who) (n : Sq) (v : Word) (s : State) : Out := act s (·.squadCtrlWrite w n (v ||| 1))
/-- SQUAD_HALTED (R207). -/
def execSquadHalted (n : Sq) (s : State) : Out := actOn (pSquad n) s (·.squadHalted n)
/-- SQUAD_RUN (R207): CTRL written with run = 1. -/
def execSquadRun (w : Who) (n : Sq) (v : Word) (s : State) : Out := act s (·.squadCtrlWrite w n (v ||| 2))
/-- ENGINE_TRAP (R213), with a cause of 1 to 6 (R212). -/
def execEngineTrap (n : Sq) (e : Fin 64) (cause : Fin 6) (pc addr : Word) (s : State) : Out :=
  actOn (pSquad n) s (·.engineTrap n e.val (cause.val + 1) pc addr)
/-- ENGINE_WATCHDOG (R212): cause 6, with no address. -/
def execEngineWatchdog (n : Sq) (e : Fin 64) (pc : Word) (s : State) : Out := actOn (pSquad n) s (·.engineTrap n e.val 6 pc 0)
/-- AUTO_RECOVER (R214). -/
def execAutoRecover (n : Sq) (s : State) : Out := actOn (pSquad n) s (·.autoRecover n)
/-- DMA_CLR (R216). -/
def execDmaClr (w : Who) (n : Sq) (v : Word) (s : State) : Out := act s (·.dmaClrWrite w n v)
/-- RELOAD_GO (R217): RELOAD.go written 1. -/
def execReloadGo (w : Who) (n : Sq) (s : State) : Out := act s fun d => d.access w (pSquad n) 0x054 (·.reloadRequest n)
/-- RELOAD_START (R218 steps 1 to 4). -/
def execReloadStart (n : Sq) (s : State) : Out :=
  actStateOn (pSquad n) s fun s =>
    if s.dev.mayReload n then
      let found := s.dev.boot.manifest != []
      let s := { s with dev := s.dev.reloadTake n found }
      if found then s.loadImage n else s
    else s
/-- RELOAD_VERIFY (R218 step 5); `id` is the identifier and version that a matching image shows in IMG_ID. -/
def execReloadVerify (n : Sq) (id : Word) (s : State) : Out :=
  actStateOn (pSquad n) s fun s =>
    if s.dev.sqLoads n then
      if s.imageMatches n then { s with dev := s.dev.reloadVerified n id }
      else { s with dev := s.dev.reloadFailed n }.forget (squadWindow n.val) 0x40000
    else s
/-- RELOAD_DONE (R218 step 7). -/
def execReloadDone (n : Sq) (s : State) : Out := actOn (pSquad n) s (·.reloadDone n)
/-- LEND (R220). -/
def execLend (w : Who) (n : Sq) (v : Word) (s : State) : Out := act s (·.lendWrite w n v)
/-- LEND_RELEASE (R221). -/
def execLendRelease (n : Sq) (s : State) : Out := actOn (pSquad n) s (·.lendRelease n)
/-- A command word of R224 with a tag. -/
def cmdWord (op : Nat) (tag : BitVec 8) : Word := BitVec.ofNat 32 (tag.toNat * 256 + op)
/-- SQUAD_IDENT (R224): CMD written with op 0x01. -/
def execSquadIdent (w : Who) (n : Sq) (tag : BitVec 8) (s : State) : Out := act s (·.squadCmdWrite w n (cmdWord 1 tag))
/-- STATS (R224): CMD written with op 0x02. -/
def execStats (w : Who) (n : Sq) (tag : BitVec 8) (s : State) : Out := act s (·.squadCmdWrite w n (cmdWord 2 tag))
/-- EXCLUDE (R224): CMD written with op 0x03; ARG0 names the engine. -/
def execExclude (w : Who) (n : Sq) (tag : BitVec 8) (s : State) : Out := act s (·.squadCmdWrite w n (cmdWord 3 tag))
/-- INCLUDE (R224): CMD written with op 0x04; ARG0 names the engine. -/
def execInclude (w : Who) (n : Sq) (tag : BitVec 8) (s : State) : Out := act s (·.squadCmdWrite w n (cmdWord 4 tag))
/-- ENG_MAP (R224): CMD written with op 0x05. -/
def execEngMap (w : Who) (n : Sq) (tag : BitVec 8) (s : State) : Out := act s (·.squadCmdWrite w n (cmdWord 5 tag))
/-- CMD_DONE (R223). -/
def execCmdDone (n : Sq) (util longest skipped : Word) (s : State) : Out := actOn (pSquad n) s (·.cmdDone n util longest skipped)
/-- CMD_TIMEOUT (R223). -/
def execCmdTimeout (n : Sq) (s : State) : Out := actOn (pSquad n) s (·.cmdTimeout n)

end Sys2Proof.Machine
end

