-- ==== Sys2Proof/Machine/Life.lean ====
section
/-! DEFINITION. What the boot sequence, the power states and the supplies share: pages and lanes that lose power, the reset of the device and its release (R375, R391 to R394), and a restart of the Coach (R28, R316). -/

namespace Sys2Proof.Machine

/-! Lanes and pages without power -/

/-- Every lane goes to OFF. -/
def Dev.lanesOff (d : Dev) : Dev :=
  d.eachLane fun n d => (((d.laneOff n).ltxOff n).hostOff n).htxOff n

/-- Registers return to their reset values, where the test on page and offset holds. -/
def Dev.regsForget (d : Dev) (p : Nat → Nat → Bool) : Dev :=
  { d with regs := tabKeep (fun k => !p (k / 4096) (k % 4096)) d.regs
           ecc := tabKeep (fun a => !(decide (0x00100000 ≤ a ∧ a < 0x00200000) && p ((a - 0x00100000) / 4096) (a % 4096))) d.ecc }

/-- The memories that a page group without power loses (R375): PACER banks and PARK, the LTX banks. -/
def bankWord (p off : Nat) : Bool := (decide (0x60 ≤ p ∧ p < 0x68) && decide (0x400 ≤ off)) || (decide (0x28 ≤ p ∧ p < 0x30) && decide (0x800 ≤ off))

/-- A Squad is OFF, and nothing of its work goes on; its registers stay. -/
def Dev.squadOff (d : Dev) (n : Sq) : Dev :=
  (d.s (pSquad n) fSqState sqOff).updSquad n fun h =>
    { h with halting := false, reloading := false, verified := false, trapped := [], lent := none, move := .none }

def squads : List Sq := List.finRange 16

def Dev.squadsOff (d : Dev) : Dev :=
  let d := squads.foldl (fun d n => (d.squadOff n).sqHolds n) d
  { d with loader := [], serving := none }

/-- The pages that IDLE powers off (R374). -/
def idlePages : List Nat :=
  [0x12] ++ (List.range 8).map (0x20 + ·) ++ (List.range 8).map (0x28 + ·) ++ (List.range 8).map (0x30 + ·) ++
    (List.range 8).map (0x38 + ·) ++ [0x40, 0x41, 0x42, 0x43, 0x44] ++ (List.range 16).map (0x50 + ·) ++ (List.range 8).map (0x60 + ·)

/-- The volatile memories of the pages that IDLE powers off are lost (R375). -/
def State.idleForget (s : State) : State :=
  let s := (s.forget captureBase 0x200000).forget 0x01000000 0x01000000
  { s with dev := { s.dev.regsForget bankWord with ecc := tabKeep (fun a => decide (a < 2 ^ 32)) s.dev.ecc } }

/-! A restart of the Coach (R28, R363, R368) -/

/-- The Coach restarts: the datapath goes on, the channels to receiver 0 are aborted and the locks of master 0 released. -/
def Dev.coachRestart (d : Dev) : Dev := ({ d with coachUp := false }.receiverReset 0).releaseMaster 0

/-! Reset (R391) -/

/-- The registers that RESET_N keeps: the TIMEKEEPER page, and SECURITY.ATT_CNT (R385, R391, R426). -/
def keptAtReset (k : Nat) : Bool := k / 4096 == 0x05 || k == regKey pSec 0x080

/-- The device enters reset: every page returns to its reset values. What lies in the Timekeeper domain and in the OTP stays, and the
boot ROM will find what it needs: the count before an attempt that the reset cuts (R408), and the OTP programs that wait (R401).
A fall of the trip or of DAC_CLR_N belongs to the balls. -/
def Dev.hold (d : Dev) (cause : Nat) : Dev :=
  { Dev.reset with
    regs := tabKeep keptAtReset d.regs
    ecc := tabKeep (fun a => decide (a < 2 ^ 32) && !decide (0x00100000 ≤ a ∧ a < 0x00200000)) d.ecc
    tk := d.tk
    free := d.free
    clrLow := d.clrLow
    tap := d.tap
    boot := { Dev.reset.boot with cause := cause, before := d.boot.before, cancel := d.boot.before.isSome,
                                  failed := d.boot.failed, advance := d.boot.advance, revoke := d.boot.revoke }
    nvm := { Dev.reset.nvm with otp := d.nvm.otp } }

/-- An entry to DOZE, DOZE itself or a wake is in progress: a reset discards the save set (R382, R388). -/
def Dev.dozing (d : Dev) : Bool := d.g 0x02 fPowerState == 2 || d.power.waking || (d.power.entry.map (·.target)) == some 2

/-- Reset as RESET_N gives it; a memory under test keeps what its segment holds (R438). -/
def State.hold (s : State) (cause : Nat) : State :=
  let s := s.marchLeft
  let s := if s.dev.dozing then { s with mem := memForget s.mem tkRamBase 0x1C00 } else s
  { s with dev := s.dev.hold cause }

/-! Release (R392, R393, R419) -/

/-- The life-cycle state: the highest set bit of OTP word 16 (R419). -/
def lcOf (w : Word) : Nat := if w.getLsbD 3 then 4 else if w.getLsbD 2 then 3 else if w.getLsbD 1 then 2 else if w.getLsbD 0 then 1 else 0

/-- The seed is shown to exist, and the public key derived, in SECURED and RETURNED (R420, R421). -/
def Dev.idPub (d : Dev) : Dev :=
  let lc := d.g pSec ⟨0x040, 0, 3⟩
  let key := if lc = 2 ∨ lc = 3 then edPublic (d.otpBytes 84 8) else List.replicate 32 0
  d.wrs pSec 0x060 ((List.range 8).map fun j => BitVec.ofNat 32 (leNat ((key.drop (4 * j)).take 4)))

/-- How many bits of the rollback thermometer are set (R401). -/
def Dev.rbBits (d : Dev) : Nat := ((List.range 64).filter fun i => (Long.ofWords (d.otp 17) (d.otp 18)).getLsbD i).length

/-- What the OTP holds is loaded: the identity, the voted words and the rollback count (R392 step 6, R399, R401, R418, R419). -/
def Dev.otpLoad (d : Dev) : Dev :=
  let d := (((d.wr 0x00 0x048 (d.otp 0)).wr 0x00 0x04C (d.otp 1 &&& 0xFFFF)).wr 0x00 0x050 (d.otp 2 &&& 0x1FFFFF00)).wr 0x00 0x054 (d.otp 3 &&& 0xFFFF)
  let d := (d.s pSec ⟨0x040, 0, 3⟩ (lcOf (d.otp 16))).voteWrite 0
  let d := (d.wr pSec 0x044 (d.otp 19 &&& 0xFF)).voteWrite 1
  let d := ((d.wr pSec 0x048 (BitVec.ofNat 32 d.rbBits)).wr pSec 0x050 (d.otp 17)).wr pSec 0x054 (d.otp 18)
  d.idPub

/-- The engines of a Squad that is OFF do not serve its lane: the hold reason stands from the release of reset (R208). -/
def Dev.holdEngines (d : Dev) : Dev :=
  d.eachLane fun n d => (d.sb (pPacer n) fHoldEngines true).sb (pHrx n) (fHostHoldBit 3) true

/-- Reset is released with the straps BOOT_SEL and BTN_ADDR: the OTP is loaded, the scrubber starts, and the boot ROM is about to
start (R392, R393). A low DAC_CLR_N is followed from the start, as follow_clr resets to 1 (R128). -/
def Dev.release (d : Dev) (sel : Fin 4) (addr : Fin 64) : Dev :=
  let d := { d with life := .on, boot := { d.boot with phase := .rom } }
  let d := d.otpLoad.holdEngines
  let d := d.eachLane fun n d => d.sb (pLtx n) (fSq sqClr) d.clrLow
  let d := ((d.s pBoot fBootSel sel.val).s pBoot ⟨0x044, 24, 4⟩ d.boot.cause).voteWrite 2
  (d.s 0x0D ⟨0x040, 0, 7⟩ addr.val).scrubStart

end Sys2Proof.Machine
end

