-- ==== Sys2Proof/Machine/Boot.lean ====
section
/-! DEFINITION. Reset and boot: attempts, host load, Walk mode, boot good, the boot watchdog, and the restarts of the Coach (R317, R391 to R394, R402 to R416). -/

namespace Sys2Proof.Machine

def fBootMode : Fld := ⟨0x044, 0, 2⟩
def fActive : Fld := ⟨0x044, 4, 1⟩
def fRunning : Fld := ⟨0x044, 5, 1⟩
def fFallback : Fld := ⟨0x044, 11, 1⟩
def fTries : Fld := ⟨0x044, 16, 4⟩
def fBootTry : Fld := ⟨0x070, 0, 4⟩
def pTk : Nat := 0x05
def fActState : Fld := ⟨0x054, 0, 3⟩
def fActSlot : Fld := ⟨0x054, 4, 1⟩
def fRbPending : Fld := ⟨0x054, 8, 1⟩
def fActCause : Fld := ⟨0x054, 16, 8⟩

/-- BOOT.STATUS.mode (R425). -/
def mBooting : Nat := 0
def mRunning : Nat := 1
def mWalk : Nat := 2
def mHostLoad : Nat := 3

def Dev.phaseTo (d : Dev) (x : BootPhase) : Dev := { d with boot := { d.boot with phase := x } }

/-- The active slot is written, in all copies (R322). -/
def Dev.setActive (d : Dev) (slot : Nat) : Dev := (d.s pBoot fActive slot).voteWrite 2

/-! Starting firmware -/

/-- The verified package in Coach SRAM starts; boot good is awaited for 1 s (R406). -/
def State.startFw (s : State) (slot : Nat) (k : StartKind) : State :=
  let m := memBytes s.mem sramPackage manifestBytes
  let d := ({ s.dev with boot := { s.dev.boot with manifest := m, fwLen := segLen m 0 } }.phaseTo (.started k)).s pBoot fRunning slot
  { s with dev := d.wr64 pBoot 0x060 (pkgVersion m) }

/-- A slot is copied and verified: the cause of failure, or 0. `bad` lists the slots whose flash reads fail (R398). -/
def State.tryCopy (s : State) (slot : Nat) (bad : List Nat) : Nat × State :=
  if bad.contains slot then (7, s.verifyEvent 7) else
  let s := s.copySlot slot
  let c := s.verify sramPackage
  (c, s.verifyEvent c)

/-! Walk mode (R410) -/

/-- The pages that Walk mode powers. -/
def walkPages : List Nat := [0x00, 0x02, 0x03, 0x04, 0x05, 0x06, 0x07, 0x08, 0x09, 0x0A, 0x0B, 0x0C, 0x0D, 0x11, 0x14]

def Dev.walkEnter (d : Dev) (reason : Nat) : Dev :=
  let d := d.lanesOff.squadsOff
  let d := (d.s pBoot fBootMode mWalk).wr pBoot 0x048 (BitVec.ofNat 32 (getBits (d.rd pBoot 0x04C) 0 8 * 256 + reason))
  let d := d.eachLane fun n d => (d.sb (pLtx n) (fSq sqWalk) true).sb (pHtx n) (fHtxSq 1) true
  let d := d.eachHdac fun c d => d.hdClear c
  ({ d with offPages := allPages.filter fun p => !walkPages.contains p, coachUp := false }.phaseTo .idle).raise pBoot 2

/-- Why the boot ROM goes to Walk mode before an attempt, with the count of failed attempts (R402, R407, R410, R419). -/
def Dev.walkReason (d : Dev) (n : Nat) : Option Nat :=
  let lc := d.g pSec ⟨0x040, 0, 3⟩
  if lc = 0 then some 3
  else if lc = 4 then some 4
  else if d.g pBoot fBootSel = 3 then some 1
  else if 3 ≤ n then some 2
  else if d.flashSource && !((List.range 4).any d.keyUsable) then some 5
  else none

/-! Attempts (R404 to R408) -/

/-- An attempt fails with a cause, and the boot ROM will start the next (R406, R425). -/
def Dev.attemptFail (d : Dev) (slot attempt cause : Nat) : Dev :=
  let h := d.rd pBoot 0x04C
  let d := d.wr pBoot 0x04C (BitVec.ofNat 32 (getBits h 8 8 * 2 ^ 16 + getBits h 0 8 * 2 ^ 8 + cause))
  let d := { d with boot := { d.boot with before := none, failed := some ⟨slot, attempt, cause⟩ } }
  ((d.s pBoot fBootMode mBooting).phaseTo .rom).raise pBoot 1

/-- Attempt `k` begins: BOOT_TRY, then the FAIL record of the failed attempt before it, then the ATTEMPT record (R404). -/
def State.attemptBegin (s : State) (k slot : Nat) (bad : Bool) : State :=
  let d := { s.dev with boot := { s.dev.boot with before := some (k - 1), failed := none } }
  let failed := s.dev.boot.failed
  let s := { s with dev := (d.s pTk fBootTry k).s pBoot fTries k }
  let s := match failed with
    | some f => s.jrnl jFail f.slot f.attempt f.cause bad
    | none => s
  s.jrnl jAttempt slot k 0 bad

/-- Attempt `k` with the flash source (R405). -/
def State.flashAttempt (s : State) (k : Nat) (bad : List Nat) (jbad : Bool) : State :=
  let active := s.dev.g pBoot fActive
  let first := if k % 2 = 1 then active else 1 - active
  let s := s.attemptBegin k first jbad
  let r := s.tryCopy first bad
  if r.1 = 0 then r.2.startFw first .attempt else
  let r := r.2.tryCopy (1 - first) bad
  if r.1 = 0 then r.2.startFw (1 - first) .attempt
  else { r.2 with dev := r.2.dev.attemptFail (1 - first) k r.1 }

/-- What the journal shows at a start: the slot of the last GOOD record is active, and FAIL_HIST takes the causes of the failed
attempts (R405, R407, R425). -/
def State.readJournal (s : State) : State :=
  if !s.dev.flashSource then s else
  let d := match (jrnlRecords s.mem).filter (fun r => r.kind == jGood) |>.getLast? with
    | some r => s.dev.setActive r.slot
    | none => s.dev
  let c := (jrnlCauses s.mem).reverse
  let hist := BitVec.ofNat 32 (c.getD 2 0 * 2 ^ 16 + c.getD 1 0 * 2 ^ 8 + c.getD 0 0)
  { s with dev := d.when (d.rd pBoot 0x04C == 0) (·.wr pBoot 0x04C hist) }

/-- An attempt that a reset cut is cancelled (R408). -/
def State.cancelAttempt (s : State) (jbad : Bool) : State :=
  if !s.dev.boot.cancel then s else
  let k := s.dev.boot.before.getD 0
  let d := { s.dev with boot := { s.dev.boot with before := none, cancel := false } }.s pTk fBootTry k
  { s with dev := d }.jrnl jCancel 0 (k + 1) 0 jbad

/-- The boot ROM starts: it cancels, counts, and goes to Walk mode, waits for a host load, or starts an attempt (R402, R404, R407).
`bad` lists the slots whose flash reads fail; `jbad` says that journal writes fail their read-back. -/
def State.bootRom (s : State) (bad : List Nat) (jbad : Bool) : State :=
  if s.dev.boot.phase != .rom then s else
  let s := (s.readJournal).cancelAttempt jbad
  let j := if s.dev.flashSource then (jrnlCauses s.mem).length else 0
  let n := max (s.dev.g pTk fBootTry) j
  match s.dev.walkReason n with
  | some r => { s with dev := s.dev.walkEnter r }
  | none =>
    if s.dev.flashSource then s.flashAttempt (n + 1) bad jbad
    else { s with dev := (s.dev.s pBoot fBootMode mHostLoad).phaseTo .idle }

/-- The master that may load (R403). -/
def Dev.loadMaster (d : Dev) : Option Nat := match d.g pBoot fBootSel with
  | 1 => some 1
  | 2 => some 2
  | _ => none

/-- A write to HOST_LOAD (R403): an accepted go starts an attempt that verifies in place. -/
def State.hostLoad (s : State) (w : Who) (v : Word) : State :=
  let go := v.getLsbD 0
  s.accessUnless (go && s.dev.loadMaster != some w.mid.val) w pBoot 0x050 fun s =>
    if !go || s.dev.g pBoot fBootMode != mHostLoad then s else
    let k := s.dev.g pTk fBootTry + 1
    let s := { s with dev := s.dev.s pBoot fBootMode mBooting }.attemptBegin k 0 false
    let c := s.verify sramPackage
    let s := s.verifyEvent c
    if c = 0 then s.startFw 0 .attempt else { s with dev := s.dev.attemptFail 0 k c }

/-! Boot good (R406, R412, R414) -/

/-- The management firmware loads every Squad (R412). -/
def Dev.loadSquads (d : Dev) : Dev := squads.foldl (fun d n => d.reloadRequest n) d

/-- Each Squad whose running image differs from the new one is reloaded, in rising number (R414 step 4). -/
def Dev.loadChanged (d : Dev) : Dev :=
  squads.foldl (fun d n => d.when ((d.sq n).digest != segDigest d.boot.manifest (imageSeg n)) (·.reloadRequest n)) d

/-- Boot good of an attempt: the count is cleared, the slot is journaled and active, and the firmware starts its work. At a start
that restored no save set, the calibration store is loaded (R269). -/
def State.goodAttempt (s : State) (jbad : Bool) : State :=
  let flash := s.dev.flashSource
  let slot := s.dev.g pBoot fRunning
  let other := flash && slot != s.dev.g pBoot fActive
  let d := { s.dev with coachUp := true, boot := { s.dev.boot with before := none, failed := none } }
  let d := (d.s pTk fBootTry 0).s pBoot fBootMode mRunning
  let d := d.when other fun d => (d.setActive slot).sb pBoot fFallback true
  let d := d.eachLane fun n d => (d.ltxSq n sqWalk false).htxSq n 1 false
  let d := d.when (d.boot.advance != 0 || d.boot.revoke != 0) (·.sb pBoot fRbPending true)
  let s := { s with dev := d.raise pBoot 0 }.jrnl jGood slot 0 0 jbad
  let s := if s.dev.boot.restored then s else s.calBoot
  { s with dev := s.dev.loadSquads }

/-- Boot good: the firmware that was started declares it (R406, R414 step 3, R317). -/
def State.bootGood (s : State) (jbad : Bool) : State :=
  match s.dev.boot.phase with
  | .started k =>
    let s := { s with dev := s.dev.phaseTo .idle }
    match k with
    | .attempt => s.goodAttempt jbad
    | .activation => { s with dev := (({ s.dev with coachUp := true }.s pBoot fActState 2).raise pBoot 3).loadChanged }
    | .restart => { s with dev := { s.dev with coachUp := true } }
  | _ => s

/-- A write of walk_exit in Walk mode: a CLEAR record, and a restart as RESET_N gives it, with cause 4 (R411). -/
def State.walkExit (s : State) (jbad : Bool) : State :=
  let reason := getBits (s.dev.rd pBoot 0x048) 0 8
  if s.dev.g pBoot fBootMode ≠ mWalk ∨ reason = 3 ∨ reason = 4 then s else
  let s := s.jrnl jClear 0 0 0 jbad
  let sel := Fin.ofNat 4 (s.dev.g pBoot fBootSel)
  let addr := Fin.ofNat 64 (s.dev.g 0x0D ⟨0x040, 0, 7⟩)
  let s := { s with dev := { s.dev with boot := { s.dev.boot with failed := none, before := none } } }
  let s := s.hold 4
  { s with dev := (s.dev.s pTk fBootTry 0).release sel addr }

/-- A write to BOOT.CTRL (R406, R411): good is accepted from the Coach only. -/
def State.bootCtrl (s : State) (w : Who) (v : Word) (jbad : Bool) : State :=
  s.accessUnless (v.getLsbD 0 && w.mid.val != 0) w pBoot 0x040 fun s =>
    let s := if v.getLsbD 0 then s.bootGood jbad else s
    if v.getLsbD 1 then s.walkExit jbad else s

/-! Restarts and failures (R317, R406, R415) -/

/-- The Coach starts again from the active slot; where that slot fails too, the boot ROM starts an attempt. -/
def State.restartActive (s : State) (bad : List Nat) : State :=
  let a := s.dev.g pBoot fActive
  let r := s.tryCopy a bad
  if r.1 = 0 then r.2.startFw a .restart else { r.2 with dev := r.2.dev.phaseTo .rom }

/-- A failed activation: the Coach starts from the active slot (R415). -/
def State.actFail (s : State) (cause : Nat) (bad : List Nat) : State :=
  let d := ((s.dev.s pBoot fActState 4).s pBoot fActCause cause).raise pBoot 4
  ({ s with dev := d.coachRestart }).restartActive bad

/-- The boot watchdog expires (R406, R415, R317). -/
def State.bootWatchdog (s : State) (bad : List Nat) : State :=
  match s.dev.boot.phase with
  | .started .attempt =>
    { s with dev := s.dev.coachRestart.attemptFail (s.dev.g pBoot fRunning) (s.dev.g pBoot fTries) 6 }
  | .started .activation => s.actFail 6 bad
  | .started .restart =>
    if s.dev.g pBoot fActState = 2 then s.actFail 6 bad else { s with dev := s.dev.coachRestart.phaseTo .rom }
  | _ => s

/-- The Coach restarts after a memory exception, from the package that R317 names. -/
def State.coachException (s : State) (bad : List Nat) : State :=
  let s := { s with dev := s.dev.coachRestart }
  if !s.dev.flashSource then
    let c := s.verify sramPackage
    let s := s.verifyEvent c
    if c = 0 then s.startFw 0 .restart else { s with dev := (s.dev.s pBoot fBootMode mHostLoad).phaseTo .idle }
  else if s.dev.g pBoot fActState = 2 then
    let run := s.dev.g pBoot fRunning
    let r := s.tryCopy run bad
    if r.1 = 0 then r.2.startFw run .restart else r.2.actFail r.1 bad
  else s.restartActive bad

/-- The Coach reads a word of its SRAM: an uncorrectable one is a memory exception of running firmware (R316, R317). -/
def State.coachRead (s : State) (loc : Nat) (bad : List Nat) : State :=
  let e := s.dev.eccAt loc
  let s := { s with dev := (s.dev.trialAccess loc).demandRead loc 0 }
  if e.uncorr && (regionOf loc).isSome && s.dev.coachUp then s.coachException bad else s

/-! Reset and supplies (R391, R392, R466) -/

/-- RESET_N falls, or PWRGOOD with it: in the second case the other rails go, with the memories they feed (R391, R394, R466). -/
def State.resetAssert (s : State) (power : Bool) : State :=
  match s.dev.life with
  | .unpowered => s
  | .held => if power then { s with dev := { s.dev with boot := { s.dev.boot with cause := if s.dev.boot.cause = 0 then 0 else 1 } } } else s
  | _ =>
    let s := s.hold (if power then 1 else 2)
    if power then ((s.forget sramBase 0x100000).forget captureBase 0x200000).forget 0x01000000 0x01000000 else s

/-- RESET_N and PWRGOOD are both high (R392); FAULT_N follows its causes from here on, which the Timekeeper domain may hold (R332). -/
def State.resetRelease (s : State) (sel : Fin 4) (addr : Fin 64) : State :=
  match s.dev.life with
  | .held => { s with dev := (s.dev.release sel addr).settle }
  | _ => s

/-- VAON goes: the Timekeeper domain loses its state with the rest (R466). -/
def State.vaonLoss (s : State) : State :=
  let s := (s.forget sramBase 0x100000).forget captureBase 0x200000
  let s := (s.forget 0x01000000 0x01000000).forget tkRamBase 0x2000
  let d := s.dev.hold 0
  { s with dev := { d with life := .unpowered, regs := [], tk := 0, ecc := []
                           boot := { d.boot with before := none, cancel := false, failed := none } } }

/-- VAON comes into range: the Timekeeper starts on its RC, and the device is held in reset (R392 step 1). -/
def State.vaonUp (s : State) : State :=
  match s.dev.life with
  | .unpowered => { s with dev := { s.dev with life := .held }.s pTk ⟨0x044, 0, 1⟩ 1 }
  | _ => s

/-- A rail other than VAON leaves its range while PWRGOOD is high (R466). -/
def State.railFault (s : State) : State :=
  match s.dev.life with
  | .on => { s with dev := { s.dev with life := .undefined } }
  | _ => s

/-! The meanings -/

/-- VAON_POWER_UP (R392). -/
def execVaonPowerUp (s : State) : Out := .next s.vaonUp
/-- RESET_ASSERT (R391): by PWRGOOD where `power` holds, otherwise by RESET_N. -/
def execResetAssert (power : Bool) (s : State) : Out := .next (s.resetAssert power)
/-- RESET_RELEASE (R392). -/
def execResetRelease (sel : Fin 4) (addr : Fin 64) (s : State) : Out := .next (s.resetRelease sel addr)
/-- RAIL_FAULT (R466). -/
def execRailFault (s : State) : Out := .next s.railFault
/-- VAON_LOSS (R466). -/
def execVaonLoss (s : State) : Out := .next s.vaonLoss
/-- BOOT_ATTEMPT (R404). -/
def execBootAttempt (bad : List (Fin 2)) (jbad : Bool) (s : State) : Out := actState s (·.bootRom (bad.map (·.val)) jbad)
/-- HOST_LOAD (R403): HOST_LOAD.go written 1. -/
def execHostLoad (w : Who) (s : State) : Out := actState s (·.hostLoad w 1)
/-- BOOT_GOOD (R406): CTRL.good written 1. -/
def execBootGood (w : Who) (jbad : Bool) (s : State) : Out := actState s (·.bootCtrl w 1 jbad)
/-- BOOT_WATCHDOG (R406). -/
def execBootWatchdog (bad : List (Fin 2)) (s : State) : Out := actState s (·.bootWatchdog (bad.map (·.val)))
/-- WALK_EXIT (R411): CTRL.walk_exit written 1. -/
def execWalkExit (w : Who) (jbad : Bool) (s : State) : Out := actState s (·.bootCtrl w 2 jbad)
/-- COACH_MEMORY_EXCEPTION (R317): the Coach meets the word at `loc`. -/
def execCoachMemoryException (loc : Nat) (bad : List (Fin 2)) (s : State) : Out :=
  actState s (·.coachRead (loc - loc % 4) (bad.map (·.val)))

end Sys2Proof.Machine
end

