-- ==== Sys2Proof/Machine/Nvm.lean ====
section
/-! DEFINITION. The command service (R413 to R417, R422), the OTP programs of CONFIRM (R401), the operations of the NVM page (R395, R399, R427), and the life cycle (R419 to R421). -/

namespace Sys2Proof.Machine

def fVerified (slot : Nat) : Fld := ⟨0x058, slot, 1⟩
def fLc : Fld := ⟨0x040, 0, 3⟩
def fNvBusy : Fld := ⟨0x04C, 7, 1⟩
def fNvResult : Fld := ⟨0x04C, 0, 4⟩
def fLcBusy : Fld := ⟨0x054, 7, 1⟩
def fLcResult : Fld := ⟨0x054, 0, 4⟩

/-! The command service (R417) -/

/-- Word `i` of the slot of a mailbox channel (R359). -/
def Dev.slotWord (d : Dev) (c i : Nat) : Word := d.rd pMbox (0x400 + 0x40 * c + 4 * i)

/-- The status codes of a reply. -/
def rOk : Nat := 0
def rBadOp : Nat := 1
def rBadArg : Nat := 2
def rRefused : Nat := 3
def rFailed : Nat := 4

/-- The service overwrites the slot of channel `c` with its reply and writes DONE. -/
def Dev.reply (d : Dev) (c status : Nat) (words : List Word) : Dev :=
  let w0 := setBits (d.slotWord c 0 &&& 0xFFFF0000) 0 8 status
  (d.wrs pMbox (0x400 + 0x40 * c) (w0 :: (words ++ List.replicate (15 - words.length) 0))).done c

/-- Walk mode: the boot ROM serves the subset marked in R417. -/
def Dev.inWalk (d : Dev) : Bool := d.g pBoot fBootMode == mWalk

/-- The request in channel `c` is served (R417): a message of the service's receiver, met by running firmware or by Walk mode. A
command meets only a request with its own op; one with no op of R417 is answered BAD_OP. -/
def State.serve (s : State) (c : Fin 2) (op : Nat) (f : State → State) : State :=
  let d := s.dev
  let req := getBits (d.slotWord c.val 0) 24 8
  if !(d.b pMbox (fChFull c.val) && d.g pMbox (fChRx c.val) == 0 && (d.coachUp || d.inWalk)) then s
  else if req = op then f s
  else if req = 0 ∨ 5 < req then { s with dev := d.reply c.val rBadOp [] }
  else s

/-- IDENT. -/
def Dev.ident (d : Dev) (c : Nat) : Dev :=
  let w3 := BitVec.ofNat 32 (d.g pBoot fActive * 16 + d.g pBoot fRunning * 32 + d.g pBoot fBootMode)
  d.reply c rOk [d.rd pBoot 0x060, d.rd pBoot 0x064, w3, d.rd 0x00 0x044]

/-! Attestation (R422) -/

def byteOf (n : Nat) : Byte := BitVec.ofNat 8 n

/-- The first 368 bytes of a report but for the public key: bytes 0 to 335. -/
def Dev.reportBody (d : Dev) (nonce : List Byte) : List Byte :=
  let walk := d.inWalk
  let m := d.boot.manifest
  let die := d.rd 0x00 0x050
  let test := d.rd 0x00 0x054
  let digests := if walk then List.replicate 256 0 else manifestDigest m ++ segDigest m 0 ++ segDigest m 1 ++ segDigest m 2
  [0x5A, 0x56, 0x41, 0x54] ++ leBytes 2 1 ++ leBytes 2 432 ++ nonce ++ leBytes 8 d.tk.toNat ++
    [byteOf (d.g pSec fLc), byteOf (d.g pBoot fBootMode), byteOf (getBits (d.rd pBoot 0x048) 0 8),
      if walk || !d.flashSource then 0xFF else byteOf (d.g pBoot fRunning)] ++
    wordBytes (d.rd 0x00 0x048) ++ (wordBytes (d.rd 0x00 0x04C)).take 2 ++
    [byteOf (getBits die 24 5), byteOf (getBits die 16 8), byteOf (getBits die 8 8), byteOf (getBits test 8 8), byteOf (getBits test 0 8),
      byteOf (getBits (d.rd 0x00 0x040) 8 8)] ++
    [byteOf (d.rd pSec 0x048).toNat, if walk then 0xFF else byteOf (pkgKey m), byteOf (getBits (d.rd pSec 0x044) 0 8), 0] ++
    leBytes 8 (d.rd64 pBoot 0x060).toNat ++ wordBytes (d.rd pSec 0x080) ++ digests

/-- The report: signed in SECURED and RETURNED, otherwise ending in zeros (R419). -/
def Dev.report (d : Dev) (nonce : List Byte) : List Byte :=
  let lc := d.g pSec fLc
  let body := d.reportBody nonce
  if lc = 2 ∨ lc = 3 then
    let seed := d.otpBytes 84 8
    let m := body ++ edPublic seed
    m ++ edSign seed m
  else body ++ List.replicate 96 0

/-- The words of a list of bytes, lowest byte first. -/
def bytesToWords : Nat → List Byte → List Word
  | 0, _ => []
  | n + 1, l => BitVec.ofNat 32 (leNat (l.take 4)) :: bytesToWords n (l.drop 4)

/-- ATTEST: the report of channel `c` is written and signed over the nonce. -/
def Dev.attest (d : Dev) (c : Nat) : Dev :=
  let nonce := (List.range 8).flatMap fun i => wordBytes (d.slotWord c (1 + i))
  let d := d.inc pSec 0x080
  let d := d.wrs pSec (0x400 + 0x200 * c) (bytesToWords 108 (d.report nonce))
  (d.raise pSec 3).reply c rOk [432]

/-! VERIFY_SLOT, ACTIVATE and CONFIRM (R413 to R416) -/

/-- The slot argument of the request in channel `c`. -/
def Dev.slotArg (d : Dev) (c : Nat) : Nat := (d.slotWord c 1).toNat

/-- VERIFY_SLOT: `bad` lists the slots whose flash reads fail (R398). -/
def State.verifySlot (s : State) (c : Nat) (bad : List Nat) : State :=
  let slot := s.dev.slotArg c
  if 1 < slot then { s with dev := s.dev.reply c rBadArg [] } else
  let cause := if bad.contains slot then 7 else s.verify (slotBase slot)
  let m := memBytes s.mem (slotBase slot) manifestBytes
  let d := (s.verifyEvent cause).dev.when (cause == 0) (·.sb pBoot (fVerified slot) true)
  let words := [BitVec.ofNat 32 cause, (pkgVersion m).lo, (pkgVersion m).hi, BitVec.ofNat 32 (pkgRollback m)]
  { s with dev := d.reply c (if cause = 0 then rOk else rFailed) words }

/-- ACTIVATE (R413 to R415). -/
def State.activate (s : State) (c : Nat) (bad : List Nat) (jbad : Bool) : State :=
  let d := s.dev
  let slot := d.slotArg c
  if d.inWalk then { s with dev := d.reply c rRefused [] }
  else if 1 < slot ∨ (d.flashSource ∧ slot = d.g pBoot fRunning) then { s with dev := d.reply c rBadArg [] }
  else if !d.flashSource || !d.b pBoot (fVerified slot) then { s with dev := d.reply c rRefused [] }
  else
    let s := s.jrnl jTrial slot 0 0 jbad
    let d := ((s.dev.reply c rOk []).s pBoot fActState 1).s pBoot fActSlot slot
    let d := d.s pBoot fActCause 0
    let r := State.tryCopy { s with dev := d.coachRestart } slot bad
    if r.1 = 0 then r.2.startFw slot .activation else r.2.actFail r.1 bad

/-- The first `n` bits of the rollback thermometer. -/
def thermometer (n : Nat) : Long := BitVec.ofNat 64 (2 ^ n - 1)

/-- The OTP programs of a CONFIRM that wait, or that a reset has cut, run while the window of R264 is open (R401). -/
def Dev.rbProgram (d : Dev) : Dev :=
  let d := d.sb pBoot fRbPending (d.boot.advance != 0 || d.boot.revoke != 0)
  if d.b pBoot fRbPending && d.b 0x06 fOtpWindow then
    let n := d.rbBits
    let t := thermometer d.boot.advance
    let d := (d.otpOr 17 t.lo).otpOr 18 t.hi
    let d := ((d.wr pSec 0x048 (BitVec.ofNat 32 d.rbBits)).wr pSec 0x050 (d.otp 17)).wr pSec 0x054 (d.otp 18)
    let d := d.raiseIf (decide (n < d.rbBits)) pSec 4
    let old := d.otp 19
    let d := d.otpOr 19 (BitVec.ofNat 32 (d.boot.revoke * 16))
    let d := (d.wr pSec 0x044 (d.otp 19 &&& 0xFF)).voteWrite 1
    let d := d.raiseIf (d.otp 19 != old) pSec 1
    { d.sb pBoot fRbPending false with boot := { d.boot with advance := 0, revoke := 0 } }
  else d

/-- CONFIRM (R416): flag 0 advances the rollback count to the running package's value, flag 1 revokes the key slots that its manifest
names, never its own. -/
def State.confirm (s : State) (c : Nat) (jbad : Bool) : State :=
  let d := s.dev
  if d.inWalk || d.g pBoot fActState != 2 then { s with dev := d.reply c rRefused [] } else
  let flags := d.slotWord c 1
  let m := d.boot.manifest
  let slot := d.g pBoot fRunning
  let own := if (pkgRevoke m).testBit (pkgKey m) then 2 ^ pkgKey m else 0
  let s := State.jrnl { s with dev := d.setActive slot } jGood slot 0 0 jbad
  let d := { s.dev with boot := { s.dev.boot with
    advance := if flags.getLsbD 0 then pkgRollback m else s.dev.boot.advance
    revoke := if flags.getLsbD 1 then pkgRevoke m - own else s.dev.boot.revoke } }
  { s with dev := ((d.s pBoot fActState 3).reply c rOk []).rbProgram }

/-! Operations of the NVM page (R427) -/

/-- The package in a slot is running: not under a host load or in Walk mode. -/
def Dev.slotRuns (d : Dev) (slot : Nat) : Bool := d.flashSource && !d.inWalk && d.g pBoot fRunning == slot

/-- Host writes to the flash region of an offset are refused (R395). -/
def Dev.flashProtected (d : Dev) (a : Nat) : Bool :=
  if a < 0x800000 then d.g pBoot fActive == a / 0x400000 || d.slotRuns (a / 0x400000) else decide (a < 0x80A000)

/-- A slot that is written is no longer verified (R413). -/
def Dev.slotTouched (d : Dev) (a : Nat) : Dev := d.when (decide (a < 0x800000)) (·.sb pBoot (fVerified (a / 0x400000)) false)

/-- The result that refuses the programming of an OTP word in the present life-cycle state (R399), or 0. -/
def Dev.otpRefusal (d : Dev) (word : Nat) (data : Word) : Nat :=
  let lc := d.g pSec fLc
  if word < 19 ∨ (84 ≤ word ∧ word < 92) ∨ (word = 19 ∧ data &&& 0xFFFFFFF0 ≠ 0) then 3
  else if word < 84 then (if lc = 1 then 0 else 4)
  else if lc = 4 then 4 else 0

/-- An operation is refused with a result (R424, R427). -/
def Dev.nvRefuse (d : Dev) (result : Nat) : Dev := (d.s pNvm fNvResult result).raise pNvm 1

/-- An operation starts. -/
def Dev.nvStart (d : Dev) (op : NvmOp) : Dev :=
  ({ d with nvm := { d.nvm with op := some op } }.sb pNvm fNvBusy true).s pNvm fNvResult 0

/-- BUF as bytes. -/
def Dev.nvBuf (d : Dev) (len : Nat) : List Byte := ((d.rds pNvm 0x100 64).flatMap wordBytes).take len

/-- A go of CMD: the operation is refused, started, or of an op without effect. -/
def Dev.nvGo (d : Dev) : Dev :=
  let op := d.g pNvm ⟨0x040, 24, 4⟩
  let len := d.g pNvm ⟨0x040, 0, 9⟩
  let a := d.g pNvm ⟨0x044, 0, 24⟩
  let word := a % 128
  let data := d.rd pNvm 0x048
  if d.b pNvm fNvBusy then d
  else if op = 1 then
    if a % 4096 ≠ 0 then d.nvRefuse 7
    else if d.flashProtected a then d.nvRefuse 3
    else (d.slotTouched a).nvStart (.erase (a / 4096))
  else if op = 2 then
    if 256 < len ∨ 256 < a % 256 + len then d.nvRefuse 7
    else if d.flashProtected a then d.nvRefuse 3
    else (d.slotTouched a).nvStart (.program a (d.nvBuf len))
  else if op = 3 then
    let r := d.otpRefusal word data
    if r ≠ 0 then d.nvRefuse r
    else if !d.b 0x06 fOtpWindow then d.nvRefuse 2
    else d.nvStart (.otp word data)
  else if op = 4 then
    if 84 ≤ word ∧ word < 92 then (d.wr pNvm 0x048 0).nvRefuse 3 else d.nvStart (.read word)
  else d

/-- A write to CMD (R427): a len of 0 is stored as 1; a read of the identity seed is answered DENIED (R399). -/
def Dev.nvCmd (d : Dev) (w : Who) (v : Word) : Dev :=
  let go := v.getLsbD 31
  let word := d.g pNvm ⟨0x044, 0, 7⟩
  let seed := go && getBits v 24 4 == 4 && decide (84 ≤ word ∧ word < 92) && !d.b pNvm fNvBusy
  let d := d.accessUnless (go && decide (2 < w.mid.val)) w pNvm 0x040 fun d =>
    let d := d.store pNvm 0x040 (if getBits v 0 9 = 0 then v ||| 1 else v)
    d.when go (·.nvGo)
  if seed && d.resp.status == .ok then { d with resp := ⟨.denied, []⟩ } else d

/-- An operation ends with a result. -/
def Dev.nvEnd (d : Dev) (result : Nat) : Dev :=
  ({ d with nvm := { d.nvm with op := none } }.sb pNvm fNvBusy false).s pNvm fNvResult result

/-- The bytes that programming leaves: bits can only go from 1 to 0. -/
def norBytes (old new : List Byte) : List Byte := List.zipWith (· &&& ·) old new

/-- The flash holds bytes from an offset on after an operation that should have left `want`. -/
def State.flashEnd (s : State) (a : Nat) (now want : List Byte) : State :=
  let s := { s with mem := memSetBytes s.mem (flashBase + a) now }
  { s with dev := if now = want then (s.dev.nvEnd 1).raise pNvm 0 else (s.dev.nvEnd 5).raise pNvm 2 }

/-- The operation in progress ends (R427). `held` is what the verification reads back where the flash or the OTP has not taken what was
to be written. -/
def State.nvmDone (s : State) (held : Option (List Byte)) : State :=
  match s.dev.nvm.op with
  | none => s
  | some (.erase sec) =>
    let want := List.replicate 4096 (0xFF : Byte)
    s.flashEnd (sec * 4096) ((held.getD want).take 4096) want
  | some (.program a data) =>
    let now := norBytes (memBytes s.mem (flashBase + a) data.length) data
    s.flashEnd a ((held.getD now).take data.length) data
  | some (.otp word data) =>
    let got := match held with
      | none => data
      | some b => data &&& BitVec.ofNat 32 (leNat b)
    let d := s.dev.otpOr word got
    let d := d.when (word == 19) fun d => (d.wr pSec 0x044 (d.otp 19 &&& 0xFF)).voteWrite 1
    { s with dev := if got = data then (d.nvEnd 1).raise pNvm 0 else (d.nvEnd 5).raise pNvm 3 }
  | some (.read word) => { s with dev := ((s.dev.wr pNvm 0x048 (s.dev.otp word)).nvEnd 1).raise pNvm 0 }

/-- A flash operation has not ended within 3 s (R427): `held` is what the flash then holds in the range of the operation. -/
def State.nvmTimeout (s : State) (held : List Byte) : State :=
  match s.dev.nvm.op with
  | some (.erase sec) =>
    { s with mem := memSetBytes s.mem (flashBase + sec * 4096) (held.take 4096), dev := (s.dev.nvEnd 6).raise pNvm 2 }
  | some (.program a data) =>
    { s with mem := memSetBytes s.mem (flashBase + a) (held.take data.length), dev := (s.dev.nvEnd 6).raise pNvm 2 }
  | _ => s

/-! The life cycle (R420, R421) -/

/-- The package in the slot authorises the return of this device (R397, R420). -/
def State.authorises (s : State) (slot : Nat) : Bool :=
  let m := memBytes s.mem (slotBase slot) manifestBytes
  fieldNat m 0x010 1 % 2 == 1 && field m 0x020 32 == (sha512 ((s.dev.rds pSec 0x060 8).flatMap wordBytes)).take 32

/-- The result that refuses a transition (R420), or 0, with the state after the verification that one transition asks for. -/
def State.lcCheck (s : State) (target slot : Nat) (bad : List Nat) : Nat × State :=
  let d := s.dev
  let lc := d.g pSec fLc
  let r : Nat × State :=
    if lc = 0 ∧ target = 1 then (0, s)
    else if lc = 1 ∧ target = 2 then (if (List.range 4).any d.keyUsable then 0 else 4, s)
    else if lc = 2 ∧ target = 3 then
      let c := if bad.contains slot then 7 else s.verify (slotBase slot)
      (if c ≠ 0 then 5 else if s.authorises slot then 0 else 4, s.verifyEvent c)
    else if lc ≠ 4 ∧ target = 4 then (0, s)
    else (4, s)
  if r.1 = 0 ∧ !d.b 0x06 fOtpWindow then (2, r.2) else r

/-- A write to LC_REQ (R420). -/
def State.lcReq (s : State) (w : Who) (v : Word) (bad : List Nat) : State :=
  let go := v.getLsbD 31
  s.accessUnless (go && decide (2 < w.mid.val)) w pNvm 0x050 fun s =>
    let s := { s with dev := s.dev.store pNvm 0x050 v }
    let refuse (s : State) (r : Nat) : State := { s with dev := (s.dev.s pNvm fLcResult r).raise pNvm 1 }
    if !go then s
    else if s.dev.b pNvm fNvBusy || s.dev.b pNvm fLcBusy then refuse s 9
    else
      let target := getBits v 0 3
      let r := s.lcCheck target (getBits v 4 1) bad
      if r.1 ≠ 0 then refuse r.2 r.1
      else
        let d := { r.2.dev with nvm := { r.2.dev.nvm with lc := some target } }
        { r.2 with dev := (d.sb pNvm fLcBusy true).s pNvm fLcResult 0 }

/-- OTP words from word `i` on are programmed. -/
def Dev.otpOrs (d : Dev) (i : Nat) : List Word → Dev
  | [] => d
  | w :: t => (d.otpOr i w).otpOrs (i + 1) t

/-- The transition in progress completes (R420, R421): `seed` is what the true random number generator gives. -/
def Dev.lcChange (d : Dev) (seed : BitVec 256) : Dev :=
  match d.nvm.lc with
  | none => d
  | some target =>
    let d := { d with nvm := { d.nvm with lc := none } }
    let d := d.otpOr 16 (BitVec.ofNat 32 (2 ^ (target - 1)))
    let d := if target = 2 then d.otpOrs 84 ((List.range 8).map fun i => seed.extractLsb' (32 * i) 32)
      else if target = 4 then d.otpOrs 84 (List.replicate 8 0xFFFFFFFF) else d
    let d := ((d.s pSec fLc (lcOf (d.otp 16))).voteWrite 0).idPub
    ((d.sb pNvm fLcBusy false).s pNvm fLcResult 1).raise pSec 2

/-! The meanings -/

/-- IDENT (R417), asked on channel `c`. -/
def execIdent (c : Fin 2) (s : State) : Out := actState s (·.serve c 1 fun s => { s with dev := s.dev.ident c.val })
/-- ATTEST (R422). -/
def execAttest (c : Fin 2) (s : State) : Out := actState s (·.serve c 2 fun s => { s with dev := s.dev.attest c.val })
/-- VERIFY_SLOT (R417): `bad` lists the slots whose flash reads fail. -/
def execVerifySlot (c : Fin 2) (bad : List (Fin 2)) (s : State) : Out :=
  actState s (·.serve c 3 (·.verifySlot c.val (bad.map (·.val))))
/-- ACTIVATE (R414): `jbad` says that the journal write fails its read-back. -/
def execActivate (c : Fin 2) (bad : List (Fin 2)) (jbad : Bool) (s : State) : Out :=
  actState s (·.serve c 4 (·.activate c.val (bad.map (·.val)) jbad))
/-- CONFIRM (R416). -/
def execConfirm (c : Fin 2) (jbad : Bool) (s : State) : Out := actState s (·.serve c 5 (·.confirm c.val jbad))
/-- RB_PROGRAM_DEFERRED (R401). -/
def execRbProgramDeferred (s : State) : Out := act s (·.rbProgram)
/-- FLASH_ERASE (R427): CMD written with go = 1 and op = 1. -/
def execFlashErase (w : Who) (v : Word) (s : State) : Out := act s (·.nvCmd w (setBits (setBits v 24 4 1) 31 1 1))
/-- FLASH_PROGRAM (R427). -/
def execFlashProgram (w : Who) (v : Word) (s : State) : Out := act s (·.nvCmd w (setBits (setBits v 24 4 2) 31 1 1))
/-- OTP_PROGRAM (R427). -/
def execOtpProgram (w : Who) (v : Word) (s : State) : Out := act s (·.nvCmd w (setBits (setBits v 24 4 3) 31 1 1))
/-- OTP_READ (R427). -/
def execOtpRead (w : Who) (v : Word) (s : State) : Out := act s (·.nvCmd w (setBits (setBits v 24 4 4) 31 1 1))
/-- NVM_OP_DONE (R427). -/
def execNvmOpDone (held : Option (List Byte)) (s : State) : Out := actState s (·.nvmDone held)
/-- NVM_TIMEOUT (R427). -/
def execNvmTimeout (held : List Byte) (s : State) : Out := actState s (·.nvmTimeout held)
/-- LC_REQ (R420): written with go = 1. -/
def execLcReq (w : Who) (v : Word) (bad : List (Fin 2)) (s : State) : Out :=
  actState s (·.lcReq w (setBits v 31 1 1) (bad.map (·.val)))
/-- LC_CHANGE (R421). -/
def execLcChange (seed : BitVec 256) (s : State) : Out := act s (·.lcChange seed)

end Sys2Proof.Machine
end

