-- ==== Sys2Proof/Machine/Split.lean ====
section
/-! DEFINITION. The Split counters, bandwidth monitors and instruction tagging (R228 to R235). -/

namespace Sys2Proof.Machine

def pSplit : Nat := 0x13
def fFreeze : Fld := ⟨0x040, 1, 1⟩
def fOvf (k : Nat) : Fld := ⟨0x080 + 4 * (k / 32), k % 32, 1⟩
def fBwEn (m : Nat) : Fld := ⟨0x100 + 4 * m, 7, 1⟩
def fTagEn : Fld := ⟨0x200, 0, 1⟩
def fTagNotify : Fld := ⟨0x200, 4, 4⟩
def fTagTarget : Fld := ⟨0x200, 8, 5⟩
def fTagEngine : Fld := ⟨0x200, 16, 6⟩
def fTagK : Fld := ⟨0x200, 24, 5⟩
def fTagJitter : Fld := ⟨0x200, 29, 1⟩
def fTagCount : Fld := ⟨0x204, 0, 5⟩
def fTagLost : Fld := ⟨0x204, 16, 16⟩
/-- CNT_CFG[k].event and chain, and CNT[k] (R235). -/
def fCntEvent (k : Nat) : Fld := ⟨0x400 + 4 * k, 0, 6⟩
def fCntChain (k : Nat) : Fld := ⟨0x400 + 4 * k, 15, 1⟩
def cntOff (k : Nat) : Nat := 0x600 + 4 * k

/-! Counters (R229 to R231) -/

/-- Bit `k` of OVF sets, with its event (R230, R234). -/
def Dev.ovfSet (d : Dev) (k : Nat) : Dev :=
  if d.b pSplit (fOvf k) then d.raise pSplit 0 else (d.sb pSplit (fOvf k) true).raise pSplit 0

/-- The odd counter `k` is chained to the even one below it (R230). -/
def Dev.chained (d : Dev) (k : Nat) : Bool := k % 2 == 1 && d.lg pSplit (fCntChain k) == 1

/-- Counter `k` counts `n` occurrences of its event in a cycle. A wrap sets its OVF bit, or carries one into a chained counter, whose
own wrap sets its bit (R229, R230). -/
def Dev.splitCount (d : Dev) (k n : Nat) : Dev :=
  if d.b pSplit fFreeze || d.lg pSplit (fCntEvent k) == 0 || d.chained k then d else
  let wraps := decide (2 ^ 32 ≤ (d.rd pSplit (cntOff k)).toNat + n)
  let d := d.add pSplit (cntOff k) n
  if !wraps then d
  else if k % 2 = 0 ∧ d.chained (k + 1) then
    let top := d.rd pSplit (cntOff (k + 1)) == BitVec.allOnes 32
    (d.inc pSplit (cntOff (k + 1))).when top (·.ovfSet (k + 1))
  else d.ovfSet k

/-- A write to SPLIT.CTRL: clr zeroes every counter, every OVF bit and BW_MAX (R231, R235). -/
def Dev.splitCtrlWrite (d : Dev) (w : Who) (v : Word) : Dev :=
  d.access w pSplit 0x040 fun d =>
    let d := d.store pSplit 0x040 v
    d.when (v.getLsbD 2) fun d =>
      ((d.wrs pSplit 0x600 (List.replicate 128 0)).wrs pSplit 0x080 (List.replicate 4 0)).wrs pSplit 0x160 (List.replicate 8 0)

/-- A write to CNT[k] (R231). -/
def Dev.cntWrite (d : Dev) (w : Who) (k : Nat) (v : Word) : Dev :=
  d.access w pSplit (cntOff k) (·.wr pSplit (cntOff k) v)

/-! Bandwidth monitors (R232) -/

/-- A write to BW_WIN: the common windows start again (R232). -/
def Dev.bwWinWrite (d : Dev) (w : Who) (v : Word) : Dev := d.access w pSplit 0x0C0 (·.store pSplit 0x0C0 v)

/-- A window ends with the bytes that each monitor counted (R232). -/
def Dev.bwWindowEnd (d : Dev) (bytes : List Word) : Dev :=
  (List.range 8).foldl (fun d m =>
    if d.b pSplit (fBwEn m) then
      let c := bytes.getD m 0
      let d := (d.wr pSplit (0x140 + 4 * m) c).when (decide ((d.rd pSplit (0x160 + 4 * m)).toNat < c.toNat)) (·.wr pSplit (0x160 + 4 * m) c)
      let thr := d.rd pSplit (0x120 + 4 * m)
      d.raiseIf (thr != 0 && decide (thr.toNat ≤ c.toNat)) pSplit 3
    else d) d

/-! Tagging (R233) -/

/-- The LFSR with polynomial x^23 + x^18 + 1 moves on. -/
def lfsr23 (x : BitVec 23) : BitVec 23 := (x <<< 1) ||| (if (x.getLsbD 22) ^^ (x.getLsbD 17) then 1 else 0)

/-- The next tagging interval (R233). -/
def Dev.tagInterval (d : Dev) : Dev :=
  let k := d.g pSplit fTagK
  if d.b pSplit fTagJitter then
    let x := lfsr23 d.split.lfsr
    { d with split := ⟨x, 2 ^ (k - 1) + x.toNat % 2 ^ k⟩ }
  else { d with split := ⟨d.split.lfsr, 2 ^ k⟩ }

/-- A write to TAG_CFG: enabling seeds the LFSR to 1 (R233). -/
def Dev.tagCfgWrite (d : Dev) (w : Who) (v : Word) : Dev :=
  d.access w pSplit 0x200 fun d =>
    let was := d.b pSplit fTagEn
    let d := d.store pSplit 0x200 v
    d.when (!was && d.b pSplit fTagEn) fun d => { d with split := ⟨1, d.split.interval⟩ }.tagInterval

/-- A stage stamp: saturating, and 0xFFFF for a stage not reached (R235). -/
def stageStamp (o : Option Nat) : Nat := match o with
  | some c => min c 0xFFFF
  | none => 0xFFFF

/-- The interval ends: the instruction is recorded, or lost where the buffer is full (R233). -/
def Dev.tagInstruction (d : Dev) (t : Tagged) : Dev :=
  if !d.b pSplit fTagEn then d else
  let d := d.tagInterval
  let c := d.g pSplit fTagCount
  if 16 ≤ c then (d.incSat pSplit fTagLost).raise pSplit 2 else
  let st (i : Nat) : Nat := stageStamp (t.stages.getD i none)
  let word (hi lo : Nat) : Word := BitVec.ofNat 32 (hi * 65536 + lo)
  let flags : Word := BitVec.ofNat 32 (d.g pSplit fTagEngine * 65536 + d.g pSplit fTagTarget * 256 + t.flags.toNat)
  let d := d.wrs pSplit (0x800 + 0x20 * c) [t.pc, t.stamp, word (st 1) (st 0), word (st 3) (st 2), flags]
  (d.s pSplit fTagCount (c + 1)).raiseIf (c + 1 == d.g pSplit fTagNotify) pSplit 1

/-- A write to TAG_CTRL: clr empties the buffer (R233, R235). -/
def Dev.tagCtrlWrite (d : Dev) (w : Who) (v : Word) : Dev :=
  d.access w pSplit 0x208 fun d => d.when (v.getLsbD 0) fun d => (d.wr pSplit 0x204 0).wrs pSplit 0x800 (List.replicate 128 0)

/-! The meanings -/

/-- SPLIT_CLR (R231): CTRL written with clr = 1. -/
def execSplitClr (w : Who) (v : Word) (s : State) : Out := act s (·.splitCtrlWrite w (v ||| 4))
/-- CNT_WRITE (R231). -/
def execCntWrite (w : Who) (k : Fin 128) (v : Word) (s : State) : Out := act s (·.cntWrite w k.val v)
/-- SPLIT_CNT_WRAP (R230): counter `k` counts `n` occurrences, which make it wrap. -/
def execSplitCntWrap (k : Fin 128) (n : Nat) (s : State) : Out := actOn (0x13) s (·.splitCount k.val n)
/-- BW_WIN_WRITE (R232). -/
def execBwWinWrite (w : Who) (v : Word) (s : State) : Out := act s (·.bwWinWrite w v)
/-- BW_WINDOW_END (R232). -/
def execBwWindowEnd (bytes : List Word) (s : State) : Out := actOn (0x13) s (·.bwWindowEnd bytes)
/-- TAG_INSTRUCTION (R233). -/
def execTagInstruction (t : Tagged) (s : State) : Out := actOn (0x13) s (·.tagInstruction t)
/-- TAG_CLR (R233): TAG_CTRL written with clr = 1. -/
def execTagClr (w : Who) (s : State) : Out := act s (·.tagCtrlWrite w 1)

end Sys2Proof.Machine
end

