-- ==== Sys2Proof/Machine/Clocks.lean ====
section
/-! DEFINITION. The references, PLLs and recovered-clock outputs of the CLOCKS page (R194 to R198, R204). -/

namespace Sys2Proof.Machine

def pClocks : Nat := 0x01
def fLineSel : Fld := ⟨0x040, 0, 1⟩
def fRevert : Fld := ⟨0x040, 1, 1⟩
/-- REF_STATUS: reference 0 is REFCLK_HOST, 1 is REFCLK_LINE. -/
def fRefOk (r : Nat) : Fld := ⟨0x044, r, 1⟩
/-- PLL_STATUS: PLL 0 core, 1 host, 2 line; 0 off, 1 acquiring, 2 locked, 3 holdover. -/
def fPll (k : Nat) : Fld := ⟨0x048, 2 * k, 2⟩
def fRefFar : Fld := ⟨0x048, 6, 1⟩
def fRclkEn (k : Nat) : Fld := ⟨0x04C + 4 * k, 0, 1⟩
def fRclkSrc (k : Nat) : Fld := ⟨0x04C + 4 * k, 1, 5⟩
def fRclkSq (k : Nat) : Fld := ⟨0x04C + 4 * k, 6, 1⟩
/-- TIMEKEEPER.CLK_STATUS: src, 1 on the RC, and xtal_ok (R384, R390). -/
def fTkRc : Fld := ⟨0x044, 0, 1⟩
def fXtalOk : Fld := ⟨0x044, 1, 1⟩

/-- The reference that a PLL prefers (R194). -/
def Dev.prefRef (d : Dev) (k : Nat) : Nat := if k = 2 then 1 - d.lg pClocks fLineSel else 0

/-- What a PLL in holdover measures against (R196). -/
inductive Basis where
  | other | crystal | lastTuning
  deriving DecidableEq, Repr

/-- The holdover basis of a PLL: the other reference if it is ok, the Timekeeper crystal, or its last tuning word (R196). -/
def Dev.holdoverBasis (d : Dev) (k : Nat) : Basis :=
  if d.b pClocks (fRefOk (1 - d.prefRef k)) then .other
  else if d.b 0x05 fXtalOk then .crystal
  else .lastTuning

/-- A reference is lost: every PLL on it enters holdover (R195, R196). -/
def Dev.refLost (d : Dev) (r : Nat) : Dev :=
  if d.b pClocks (fRefOk r) then
    let d := (d.sb pClocks (fRefOk r) false).raise pClocks r
    [0, 1, 2].foldl (fun d k =>
      if d.prefRef k = r ∧ (d.g pClocks (fPll k) = 1 ∨ d.g pClocks (fPll k) = 2) then
        (d.s pClocks (fPll k) 3).raise pClocks 5
      else d) d
  else d

/-- The count of reference cycles over 3,277 periods of the Timekeeper is more than 1,000 ppm from 156.25 MHz (R195). -/
def refOff (count : Nat) : Bool :=
  decide (((count * 32768 : Nat) - (156250000 * 3277 : Nat) : Int).natAbs * 1000 > 156250000 * 3277)

/-- A reference has passed both detectors for 1 s: a PLL that prefers it re-locks where REF_CFG.revert allows and its holdover output
lies within 15 ppm, `ppm` for each PLL (R195, R196). -/
def Dev.refOk (d : Dev) (r : Nat) (ppm : List Int) : Dev :=
  if d.b pClocks (fRefOk r) then d else
  let d := (d.sb pClocks (fRefOk r) true).raise pClocks (2 + r)
  [0, 1, 2].foldl (fun d k =>
    if d.prefRef k = r ∧ d.g pClocks (fPll k) = 3 ∧ d.lg pClocks fRevert = 1 then
      if (ppm.getD k 0).natAbs ≤ 15 then ((d.s pClocks (fPll k) 1).sb pClocks fRefFar false).raise pClocks 6
      else (d.sb pClocks fRefFar true).raise pClocks 4
    else d) d

/-- A commit of REF_CFG re-acquires every PLL on its selected reference at once; without it the PLL is in holdover (R196). -/
def Dev.refCommit (d : Dev) : Dev :=
  let d := d.sb pClocks fRefFar false
  [0, 1, 2].foldl (fun d k =>
    if d.g pClocks (fPll k) = 0 then d
    else if d.b pClocks (fRefOk (d.prefRef k)) then d.s pClocks (fPll k) 1
    else (d.s pClocks (fPll k) 3).raiseIf (d.g pClocks (fPll k) != 3) pClocks 5) d

/-- A PLL with a valid reference loses lock (R204). -/
def Dev.pllUnlock (d : Dev) (k : Nat) : Dev :=
  if d.g pClocks (fPll k) = 2 ∧ d.b pClocks (fRefOk (d.prefRef k)) then (d.s pClocks (fPll k) 1).raise pClocks 7 else d

/-- A PLL that acquires its reference reaches lock (R204). -/
def Dev.pllLock (d : Dev) (k : Nat) : Dev := if d.g pClocks (fPll k) = 1 then d.s pClocks (fPll k) 2 else d

/-- RCLK_STATUS.sqk: the output is held low because its source is away (R198). -/
def Dev.rclkSquelched (d : Dev) (k : Nat) : Bool :=
  let src := d.g pClocks (fRclkSrc k)
  d.b pClocks (fRclkEn k) && d.b pClocks (fRclkSq k) &&
    (if src < 8 then !d.hostValid (Fin.ofNat 8 src)
     else if src < 16 then !d.laneValid (Fin.ofNat 8 (src - 8))
     else !d.b pClocks (fRefOk (src - 16)))

/-- A write to RCLK_CFGk (R198, R204). -/
def Dev.rclkWrite (d : Dev) (w : Who) (k : Nat) (v : Word) : Dev :=
  d.access w pClocks (0x04C + 4 * k) (·.store pClocks (0x04C + 4 * k) v)

/-- HTXn.STATUS.timing (R203). -/
def Dev.htxTiming (d : Dev) (n : Lane) : Nat :=
  if d.lg (pHrx n) fHrxLoop = 3 then 2
  else if d.segmented n then 0
  else if (d.hx n).glide then 3
  else if d.laneValid n then 1
  else 0

/-! The meanings -/

/-- REF_ACTIVITY_LOSS (R195): reference 0 is REFCLK_HOST, 1 is REFCLK_LINE. -/
def execRefActivityLoss (r : Fin 2) (s : State) : Out := actOn (0x01) s (·.refLost r.val)
/-- REF_FREQ_CHECK (R195): the frequency detector acts only while the Timekeeper runs on its crystal. -/
def execRefFreqCheck (r : Fin 2) (count : Nat) (s : State) : Out :=
  actOn (0x01) s fun d => d.when (refOff count && !d.b 0x05 fTkRc) (·.refLost r.val)
/-- REF_OK (R195, R196). -/
def execRefOk (r : Fin 2) (ppm : List Int) (s : State) : Out := actOn (0x01) s (·.refOk r.val ppm)
/-- PLL_UNLOCK (R204). -/
def execPllUnlock (k : Fin 3) (s : State) : Out := actOn (0x01) s (·.pllUnlock k.val)
/-- PLL_LOCK (R204). -/
def execPllLock (k : Fin 3) (s : State) : Out := actOn (0x01) s (·.pllLock k.val)
/-- RCLK_CFG_WRITE (R198). -/
def execRclkCfgWrite (w : Who) (k : Fin 2) (v : Word) (s : State) : Out := act s (·.rclkWrite w k.val v)

end Sys2Proof.Machine
end

