-- ==== Sys2Proof/Machine/Wide.lean ====
section
/-! DEFINITION. Wide values (R49 to R51): the read and the write shadows of the agents that issue accesses. -/

namespace Sys2Proof.Machine

/-- The shadows of an agent: of a master, and within a Squad of an engine or a DMA channel (R49, R51). -/
def wideKey (w : Who) : Nat := w.mid.val * 128 + if 16 ≤ w.mid.val then w.sub % 128 else 0

def wideBlank : Nat → WideShadow := fun _ => none

def Dev.readShadow (d : Dev) (w : Who) : WideShadow := tabGet wideBlank (wideKey w) d.wideR
def Dev.setReadShadow (d : Dev) (w : Who) (x : WideShadow) : Dev := { d with wideR := tabSet wideBlank (wideKey w) x d.wideR }
def Dev.writeShadow (d : Dev) (w : Who) : WideShadow := tabGet wideBlank (wideKey w) d.wideW
def Dev.setWriteShadow (d : Dev) (w : Who) (x : WideShadow) : Dev := { d with wideW := tabSet wideBlank (wideKey w) x d.wideW }

/-- The held low word of the value at `a`, if the writer holds one. -/
def Dev.heldLo (d : Dev) (w : Who) (a : Nat) : Option Word :=
  match d.writeShadow w with
  | some (b, v) => if b = a then some v else none
  | none => none

/-- A held low word of the value at `a` is released. -/
def Dev.releaseLo (d : Dev) (w : Who) (a : Nat) : Dev := d.when (d.heldLo w a).isSome (·.setWriteShadow w none)

/-- A write of the _LO word at `off`: an OK outcome holds it and changes no live value (R51). -/
def Dev.writeLo (d : Dev) (w : Who) (p off : Nat) (v : Word) : Dev := d.access w p off (·.setWriteShadow w (some (regAddr p off, v)))

/-- A write of the _HI word of the value whose low word is at `off`: an OK outcome applies by `f` the value of the held word, or of the
live low word `lo`, and the word written; the held word is released whatever the outcome (R51). -/
def Dev.writeHi (d : Dev) (w : Who) (p off : Nat) (v lo : Word) (f : Dev → Long → Dev) : Dev :=
  let held := d.heldLo w (regAddr p off)
  let d := d.access w p (off + 4) fun d => f d (Long.ofWords (held.getD lo) v)
  d.releaseLo w (regAddr p off)

end Sys2Proof.Machine
end

