-- ==== Sys2Proof/Machine/Power.lean ====
section
/-! DEFINITION. Power states, the save set, sleep and wake, and the Timekeeper domain (R358, R374 to R390). -/

namespace Sys2Proof.Machine

def pPower : Nat := 0x02
def fPwBusy : Fld := ⟨0x044, 2, 1⟩
def fPwResult : Fld := ⟨0x044, 4, 3⟩
def fSaveBad : Fld := ⟨0x044, 7, 1⟩
def fWhy : Fld := ⟨0x060, 0, 4⟩
def fVioLow : Fld := ⟨0x044, 2, 1⟩
def fArmed : Fld := ⟨0x060, 0, 1⟩
def fWakePolicy : Fld := ⟨0x050, 0, 1⟩
def fBatonWake : Fld := ⟨0x050, 1, 1⟩
def fSpiWake : Fld := ⟨0x050, 2, 1⟩

/-- The codes of POWER.STATUS.state; DOZE is the model's own code. -/
def pwRun : Nat := 0
def pwIdle : Nat := 1
def pwDoze : Nat := 2

def Dev.pwState (d : Dev) : Nat := d.g pPower fPowerState
def Dev.updPower (d : Dev) (f : PowerH → PowerH) : Dev := { d with power := f d.power }

/-! The Timekeeper domain (R384 to R386) -/

/-- The TIMEKEEPER page raises an event; in reset only its EVT_STATUS records it. -/
def Dev.tkRaise (d : Dev) (src : Nat) : Dev :=
  match d.life with
  | .on => d.raise pTk src
  | _ => d.setEvt pTk src

/-- A wake source: it is latched in DOZE, and during an entry to DOZE (R382, R388). -/
def Dev.latchWake (d : Dev) (src : Nat) : Dev :=
  let entry := (d.power.entry.map (·.target)) == some pwDoze
  d.when ((entry || (d.pwState == pwDoze && !d.power.waking)) && d.power.wake.isNone) (·.updPower fun h => { h with wake := some src })

/-- The alarm fires when TK_TIME has reached ALARM while it is armed (R382, R385). -/
def Dev.alarmCheck (d : Dev) : Dev :=
  if d.b pTk fArmed && decide ((d.rd64 pTk 0x058).toNat ≤ d.tk.toNat) then ((d.sb pTk fArmed false).tkRaise 4).latchWake 4 else d

/-- A tick of the Timekeeper (R385). -/
def Dev.tkTick (d : Dev) : Dev := { d with tk := d.tk + 1 }.alarmCheck

/-- The crystal fails: the domain runs on its RC (R384). -/
def Dev.xtalFail (d : Dev) : Dev :=
  if d.b pTk fTkRc then d.sb pTk fXtalOk false else ((d.sb pTk fTkRc true).sb pTk fXtalOk false).tkRaise 0

/-- The crystal has run for 1 s within its limits (R384). -/
def Dev.xtalGood (d : Dev) : Dev :=
  let d := (d.sb pTk fXtalOk true).tkRaise 1
  d.when (d.b pTk ⟨0x040, 0, 1⟩) (·.sb pTk fTkRc false)

/-- The VIO comparator (R386). -/
def Dev.vioSet (d : Dev) (low : Bool) : Dev :=
  if d.b pTk fVioLow = low then d else (d.sb pTk fVioLow low).tkRaise (if low then 2 else 3)

/-- A write of TK_TIME_HI (R385). -/
def Dev.tkSet (d : Dev) (v : Long) : Dev := { d with tk := v }.raise pTk 5

/-- A write of ALARM_HI arms the alarm (R385). -/
def Dev.alarmSet (d : Dev) (v : Long) : Dev := (d.wr64 pTk 0x058 v).sb pTk fArmed true

/-! Wake sources (R358, R382) -/

/-- Activity on the Baton pair or a falling CS_N wakes under policy ANY, where its enable is 1 and VIO is not low. -/
def Dev.activityWake (d : Dev) (en : Fld) (src : Nat) : Dev :=
  d.when (d.b pTk en && d.g pTk fWakePolicy == 0 && !d.b pTk fVioLow) (·.latchWake src)

/-- A high part of a cell decodes as 1 if it lasts 8 ticks or more (R358). -/
def callBits (cells : List Nat) : List Bool := cells.map fun h => decide (8 ≤ h)

/-- The address of a Starting Call, if its lead counts and its parity is odd (R358): `lead` is the length of the lead and `cells` those
of the high parts of its eight cells, in ticks. -/
def callAddress (lead : Nat) (cells : List Nat) : Option Nat :=
  let b := callBits cells
  if 24 ≤ lead ∧ lead ≤ 40 ∧ b.length = 8 ∧ (b.filter id).length % 2 = 1 then
    some ((b.take 7).foldl (fun a x => 2 * a + if x then 1 else 0) 0)
  else none

/-- The address reaches this device (R352): its strap address, a group of which it is a member, or every device. -/
def Dev.batonReaches (d : Dev) (a : Nat) : Bool :=
  decide (a = 0x7F) || (decide (a < 0x40) && d.g 0x0D ⟨0x040, 0, 7⟩ == a) ||
    (decide (0x40 ≤ a ∧ a < 0x50) && (d.rd 0x0D 0x044).getLsbD (a - 0x40))

/-- A Starting Call ends: it wakes a device in DOZE that it reaches, under either policy (R358, R382). -/
def Dev.startingCall (d : Dev) (lead : Nat) (cells : List Nat) : Dev :=
  match callAddress lead cells with
  | some a => d.when (d.batonReaches a && !d.b pTk fVioLow) (·.latchWake 3)
  | none => d

/-! The save set (R380) -/

def eight (f : Nat → List (Nat × Nat)) : List (Nat × Nat) := (List.range 8).flatMap f
def regsOf (p : Nat) (offs : List Nat) : List (Nat × Nat) := offs.map fun o => (p, o)
/-- `n` registers `stride` bytes apart. -/
def regRun (off n : Nat) (stride : Nat := 4) : List Nat := (List.range n).map (off + stride * ·)

/-- The registers of the save set in the order of R380, but for the live sets of the LTX pages. -/
def saveRegs : List (Nat × Nat) :=
  eight (fun n => regsOf (0x20 + n) [0x040, 0x048, 0x050, 0x054, 0x058, 0x060, 0x064, 0x0C0, 0x068, 0x070, 0x074]) ++
  eight (fun n => regsOf (0x60 + n) [0x040, 0x048, 0x04C, 0x050, 0x054, 0x058, 0x060, 0x068, 0x06C]) ++
  eight (fun n => regsOf (0x28 + n) ([0x040, 0x048, 0x050, 0x054, 0x058, 0x060, 0x064, 0x07C, 0x068, 0x070, 0x074] ++ regRun 0x300 8)) ++
  eight (fun n => regsOf (0x30 + n) [0x040, 0x048, 0x04C, 0x054, 0x07C, 0x058, 0x060, 0x064, 0x0C0]) ++
  eight (fun n => regsOf (0x38 + n) [0x040, 0x048, 0x050, 0x054, 0x058]) ++
  [(0x44, 0x040), (0x40, 0x040)] ++ regsOf 0x40 (regRun 0x060 8) ++
  regsOf 0x41 (regRun 0x040 8 ++ regRun 0x060 8 ++ regRun 0x080 8 ++ [0x0C0]) ++ [(0x42, 0x040)] ++ regsOf 0x43 (regRun 0x040 8) ++
  (List.range 16).flatMap (fun n => regsOf (0x50 + n) [0x040, 0x060]) ++
  [(0x13, 0x040), (0x01, 0x040), (0x01, 0x04C), (0x01, 0x050), (0x06, 0x040), (0x06, 0x044)] ++
  regsOf 0x17 ([0x040, 0x044] ++ regRun 0x050 8 ++ [0x070, 0x074, 0x078, 0x07C]) ++
  [0x0E, 0x0F].flatMap (fun p => regsOf p ([0x040, 0x048, 0x054] ++ regRun 0x080 32 ++ [0x058, 0x060, 0x068, 0x06C])) ++
  regsOf 0x10 ([0x040, 0x048] ++ regRun 0x080 8 ++ regRun 0x0C0 8 ++ regRun 0x0E0 8 ++ regRun 0x100 8 ++ regRun 0x400 64) ++
  (0x11, 0x040) :: eight (fun c => regsOf 0x11 (regRun (0x080 + 0x20 * c) 5)) ++
  [(0x03, 0x040), (0x04, 0x040), (0x14, 0x040), (0x16, 0x048), (0x0C, 0x040), (0x0D, 0x044), (0x0D, 0x048)] ++
  regsOf 0x0A (regRun 0x040 16 ++ regRun 0x150 4) ++
  (List.range 6).flatMap (fun i => regsOf (0x18 + i) ((List.range 32).flatMap fun w => [0x100 + 0x10 * w, 0x104 + 0x10 * w])) ++
  (allPages.filter (· != pTk)).flatMap (fun p => regsOf p [0x014, 0x024]) ++
  (blockPages.filter (· != pTk)).flatMap (fun p => regsOf p [0x01C, 0x020])

/-- The words of the save set, its header included. -/
def saveLen : Nat := 1698

/-- The marker of a save set that has not been used, and the one that replaces it. -/
def saveMark : Word := 0x56535A31
def saveUsed : Word := 0x56535A30

/-- The live set of LTXn: FIR, LVL_GAIN and LVL_OFS, and PD packed four entries to a word. -/
def Dev.saveSet (d : Dev) (n : Lane) : List Word :=
  let ws := setOffs.map fun o => d.rd (pLtx n) (ltxBank (d.ltxLive n) + o)
  let pd := ws.drop 14
  ws.take 14 ++ (List.range 16).map fun i =>
    (List.range 4).foldl (fun w j => w ||| ((pd.getD (4 * i + j) 0 &&& 0xFF) <<< (8 * j))) (0 : Word)

/-- The live bank of FILTER is saved in the place of the user set's shadow (R380). -/
def Dev.saveWord (d : Dev) (x : Nat × Nat) : Word :=
  if x.1 = 0x10 ∧ 0x400 ≤ x.2 then d.rd 0x10 (x.2 + (if d.g 0x10 fFltBank = 0 then 0x400 else 0x800))
  else if isShadow x.1 x.2 then d.lrd x.1 x.2 else d.rd x.1 x.2

/-- The words between the header and the check word. -/
def Dev.saveBody (d : Dev) : List Word := saveRegs.map d.saveWord ++ lanes.flatMap d.saveSet

/-- The save set is written to Timekeeper RAM: marker, length, sequence number, registers, check word (R378, R380). -/
def State.saveWrite (s : State) : State :=
  let l := [saveMark, BitVec.ofNat 32 saveLen, s.word (tkRamBase + 8) + 1] ++ s.dev.saveBody
  { s with mem := memSetWords s.mem tkRamBase (l ++ [crc32 l]), dev := s.dev.eccForget tkRamBase (4 * saveLen) }

/-- The check of the save set (R381): its body, if it is valid and not used. -/
def State.saveCheck (s : State) : Option (List Word) :=
  let l := memWords s.mem tkRamBase saveLen
  if l.getD 0 0 = saveMark ∧ l.getD 1 0 = BitVec.ofNat 32 saveLen ∧ l.getLast? = some (crc32 l.dropLast) then some ((l.drop 3).dropLast)
  else none

/-- A register takes its saved value; a shadow register with it live (R381). -/
def Dev.restoreWord (d : Dev) (x : Nat × Nat) (v : Word) : Dev :=
  let d := d.wr x.1 x.2 v
  if isShadow x.1 x.2 then d.lwr x.1 x.2 v else d

/-- The live set of LTXn takes its saved values, in SH as in the live bank. -/
def Dev.restoreSet (d : Dev) (n : Lane) (ws : List Word) : Dev :=
  let pd : List Word := (ws.drop 14).flatMap fun (w : Word) => (List.range 4).map fun j => (w >>> (8 * j)) &&& 0xFF
  let all := ws.take 14 ++ pd
  let d := d.ltxPut n (d.ltxLive n) all
  (setOffs.zip all).foldl (fun d x => d.restoreWord (pLtx n, 0x400 + x.1) x.2) d

/-- What follows the restored values in the functions that act on them. -/
def Dev.restoreFollow (d old : Dev) : Dev :=
  let d := (d.wrs 0x10 0x800 (d.rds 0x10 0x400 64)).filterCommit old
  let d := Dev.hdacCommit old ((d.madcCommit 0).madcCommit 1)
  let d := d.refCommit
  let d := d.eachLane fun n d =>
    let d := d.s (pLrx n) fFeLiveAc (getBits (d.rd (pLrx n) 0x048) 18 1)
    let d := d.s (pLtx n) fLiveSwing (d.g (pLtx n) fOutSwing)
    let d := d.s (pHtx n) fHtxLiveSwing (d.g (pHtx n) fHtxSwing)
    let d := d.sb (pPacer n) fHoldHost (d.b (pPacer n) fPcHoldReq)
    let d := d.sb (pHrx n) (fHostHoldBit 2) (d.b (pHrx n) fHrxHoldReq)
    let d := d.sb (pLtx n) (fSq sqHost) (d.b (pLtx n) fSqReq)
    let d := d.sb (pLtx n) (fSq sqClr) (d.clrLow && d.b (pLtx n) fFollowClr)
    (d.sb (pHtx n) (fHtxSq 0) (d.b (pHtx n) fHtxReq)).paceUpdate n
  (hostSquads.foldl (fun d n => d.lendNew n) d).voteWrite 3 |>.voteWrite 4

/-- The lanes whose en is 1: line lane n, by its receiver or its transmitter, in bit n, and host lane n in bit 8 + n. -/
def Dev.enabledLanes (d : Dev) : BitVec 16 :=
  lanes.foldl (fun m n =>
    let m := if d.b (pLrx n) fLrxEn || d.b (pLtx n) fLtxEn then m ||| BitVec.twoPow 16 n.val else m
    if d.b (pHrx n) fHrxEn || d.b (pHtx n) fHtxEn then m ||| BitVec.twoPow 16 (8 + n.val) else m) 0

/-- SLICE_COR is loaded from the newest valid store copy, and nothing else of it (R269, R381). -/
def State.restoreSlices (s : State) : State :=
  let a := memWords s.mem (copyBase false) copyWords
  let b := memWords s.mem (copyBase true) copyWords
  let d := (s.dev.sb pCal (fCopyOk false) (copyValid a)).sb pCal (fCopyOk true) (copyValid b)
  let d := { d with cal := { d.cal with seqA := a.getD 0 0, seqB := b.getD 0 0 } }
  { s with dev := match d.newest with
      | none => (d.sb pCal fStoreEmpty true).raise pCal 6
      | some c => d.eachLane fun n d => d.wrs (pLrx n) 0x400 ((laneWords (if c then b else a) n).take 256) }

/-- A valid save set is applied and marked used (R381). -/
def State.saveApply (s : State) (l : List Word) : State :=
  let old := s.dev
  let d := (saveRegs.zip l).foldl (fun d x => d.restoreWord x.1 x.2) old
  let sets := l.drop saveRegs.length
  let d := d.eachLane fun n d => d.restoreSet n ((sets.drop (30 * n.val)).take 30)
  let d := d.restoreFollow old
  let d := { d.updPower fun h => { h with held := d.enabledLanes } with boot := { d.boot with restored := true } }
  (State.setWord { s with dev := d } tkRamBase saveUsed).restoreSlices

/-! Entries (R376 to R379) -/

/-- Every implemented page but TIMEKEEPER is without power in DOZE (R374). -/
def dozePages : List Nat := allPages.filter (· != pTk)

/-- The pages of a group that refuse, and the reasons (R377). -/
def Dev.refusals (d : Dev) (group : Nat) : List Nat × Nat :=
  if group = 1 then
    let cap := decide (d.g 0x12 fCapState = 1 ∨ d.g 0x12 fCapState = 2 ∨ d.g 0x12 fCapState = 4)
    let tri := d.b pTrial fTrBusy
    ((if cap then [0x12] else []) ++ (if tri then [pTrial] else []), (if cap then 2 else 0) + if tri then 8 else 0)
  else if group = 2 then
    let l := lanes.flatMap fun n =>
      (if d.lineBusy n then [pLrx n, pPacer n] else []) ++ (if d.txState n = txStart ∨ d.txState n = txRun then [pLtx n] else []) ++
        (if d.hostBusy n then [pHrx n] else []) ++ (if d.htxState n != htOff then [pHtx n] else [])
    (l, if l.isEmpty then 0 else 1)
  else if group = 5 then (if d.b pCal fStoreBusy then ([pCal], 4) else ([], 0))
  else if group = 6 then
    let writes := match d.nvm.op with
      | some (.read _) => false
      | some _ => true
      | none => d.nvm.lc.isSome
    (if writes then ([pNvm], 4) else ([], 0))
  else ([], 0)

/-- A refusal rolls the entry back (R379). -/
def Dev.sleepBack (d : Dev) (group : Nat) (pages : List Nat) (why : Nat) : Dev :=
  let d := pages.foldl (fun d p =>
    d.wr pPower (0x050 + 4 * (p / 32)) (d.rd pPower (0x050 + 4 * (p / 32)) ||| BitVec.twoPow 32 (p % 32))) d
  let d := d.updPower fun h => { h with entry := none, wake := none }
  let d := d.when (decide (5 ≤ group)) fun d => ((d.seqRestart 0).seqRestart 1).filterReset
  (((d.s pPower fWhy why).s pPower fPwResult 2).sb pPower fPwBusy false).raise pPower 1

/-- An entry to IDLE completes (R375, R378). -/
def State.idleEnter (s : State) : State :=
  let s := State.idleForget { s with dev := s.dev.lanesOff.squadsOff }
  let d := { s.dev with offPages := idlePages, cap := { s.dev.cap with trigOut := false } }.updPower fun h => { h with entry := none, held := 0 }
  { s with dev := (((d.s pPower fPowerState pwIdle).s pPower fPwResult 1).sb pPower fPwBusy false).raise pPower 0 }

/-- What lies outside the Timekeeper domain is without power (R374, R378): only what the domain holds stays, with the straps, the group
membership (R358) and the thermal comparator's threshold (R386). The TAP is reset (R447). -/
def Dev.dozeOff (d : Dev) : Dev :=
  let h := d.hold 3
  let keep (k : Nat) : Bool := k == regKey pBoot 0x044 || k == regKey 0x0D 0x040 || k == regKey 0x0D 0x044
  let regs := (tabKeep keep d.regs).foldl (fun r e => tabSet resetAt e.1 e.2 r) h.regs
  let h := { h with life := .on, offPages := dozePages, regs := regs, trip := d.trip, tap := .idcode
                    live := tabKeep (fun k => k == regKey pTherm 0x044) d.live
                    votes := tabKeep (fun k => k == 4) d.votes
                    therm := { ThermH.reset with lastOk := d.therm.lastOk, release := d.therm.release, reads := d.therm.reads }
                    power := { h.power with wake := d.power.wake } }
  (h.s pPower fPowerState pwDoze).wr pBoot 0x044 (h.rd pBoot 0x044 &&& 0x300)

/-- An entry to DOZE completes (R378). -/
def State.dozeEnter (s : State) : State :=
  let s := s.saveWrite
  let s := ((s.forget sramBase 0x100000).forget captureBase 0x200000).forget 0x01000000 0x01000000
  { s with dev := s.dev.dozeOff }

/-- The group whose turn it is accepts or refuses (R377). -/
def State.sleepResponse (s : State) : State :=
  match s.dev.power.entry with
  | none => s
  | some e =>
    let r := s.dev.refusals e.group
    if !r.1.isEmpty then { s with dev := s.dev.sleepBack e.group r.1 r.2 }
    else if e.target = pwIdle ∧ e.group = 4 then s.idleEnter
    else if e.group = 6 then s.dozeEnter
    else { s with dev := s.dev.updPower fun h => { h with entry := some ⟨e.target, e.group + 1⟩ } }

/-- The return from IDLE to RUN (R375): the pages are powered, the firmware reloads every Squad, and the enabled lanes wait for it. -/
def Dev.idleLeave (d : Dev) : Dev :=
  let d := { d with offPages := [] }.updPower fun h => { h with held := d.enabledLanes }
  let d := (((d.s pPower fPowerState pwRun).s pPower fPwResult 1).sb pPower fPwBusy false).raise pPower 0
  d.loadSquads

/-- A request starts (R376). -/
def Dev.powerBegin (d : Dev) (target : Nat) : Dev :=
  let d := d.updPower fun h => { h with deferred := none }
  if target = pwRun then d.idleLeave
  else
    let d := (d.wrs pPower 0x050 [0, 0, 0, 0]).s pPower fWhy 0
    (d.updPower fun h => { h with entry := some ⟨target, 1⟩, wake := none }).sb pPower fPwBusy true

/-- A write to REQ (R376). -/
def Dev.powerWrite (d : Dev) (w : Who) (v : Word) : Dev :=
  d.access w pPower 0x040 fun d =>
    if d.b pPower fPwBusy then d else
    let d := d.store pPower 0x040 v
    let target := d.g pPower ⟨0x040, 0, 2⟩
    if !v.getLsbD 31 then d
    else if target = d.pwState then d.s pPower fPwResult 1
    else if d.commit ≠ .idle then (d.updPower fun h => { h with deferred := some target }).sb pPower fPwBusy true
    else d.powerBegin target

/-- A request made during a commit starts when the commit has ended (R376). -/
def Dev.powerDeferred (d : Dev) : Dev :=
  match d.power.deferred with
  | some t => d.when (d.commit == .idle) (·.powerBegin t)
  | none => d

/-! Wake (R381, R383) -/

/-- A latched source in DOZE wakes the device (R383 step 1). -/
def Dev.wakeStart (d : Dev) : Dev :=
  match d.power.wake with
  | none => d
  | some src =>
    if d.pwState ≠ pwDoze ∨ d.power.waking then d else
    let c := d.g pTk ⟨0x064, 16, 16⟩
    let d := ((d.s pTk ⟨0x064, 16, 16⟩ (c + 1)).s pTk ⟨0x064, 0, 3⟩ src).wr64 pTk 0x068 d.tk
    d.updPower fun h => { h with wake := none, waking := true }

/-- The management domain is on: the save set is checked and restored, and the Coach boots (R381, R383 steps 3 and 4). -/
def State.wakeRestore (s : State) : State :=
  if !s.dev.power.waking then s else
  let d := s.dev
  let sel := Fin.ofNat 4 (d.g pBoot fBootSel)
  let addr := Fin.ofNat 64 (d.g 0x0D ⟨0x040, 0, 7⟩)
  let on := { (d.hold 3).release sel addr with trip := d.trip, therm := { ThermH.reset with reads := d.therm.reads } }
  let on := on.when d.trip fun d => (d.sb pTherm fTrip true).eachLane fun n d => d.sb (pLtx n) (fSq sqThermal) true
  let s := { s with dev := on }
  let done (d : Dev) : Dev := (d.s pPower fPwResult 3).raise pPower 2
  match s.saveCheck with
  | some l => let s := s.saveApply l; { s with dev := done s.dev }
  | none => { s with dev := ((done s.dev).sb pPower fSaveBad true).raise pPower 3 }

/-- A lane that waited for its Squad is released, as a write of 1 to en (R375, R381). -/
def Dev.laneRelease (d : Dev) (sd : Side) (n : Lane) : Dev :=
  match sd with
  | .line =>
    if d.power.held.getLsbD n.val && d.sqRuns (lineSq n) then
      let d := d.updPower fun h => { h with held := h.held &&& ~~~ BitVec.twoPow 16 n.val }
      (d.when (d.b (pLrx n) fLrxEn) (·.laneEnable n)).when (d.b (pLtx n) fLtxEn) (·.ltxEnable n)
    else d
  | .host =>
    if d.power.held.getLsbD (8 + n.val) && d.sqRuns (hostSq n) then
      let d := d.updPower fun h => { h with held := h.held &&& ~~~ BitVec.twoPow 16 (8 + n.val) }
      let d := d.when (d.b (pHtx n) fHtxEn) (·.htxEnable n)
      d.when (d.b (pHrx n) fHrxEn || d.b (pHtx n) fHtxEn) (·.hostTryStart n)
    else d

/-! The meanings -/

/-- The Timekeeper domain runs on VAON, in reset too (R390). -/
def vaonPart (f : Dev → Dev) (d : Dev) : Dev :=
  match d.life with
  | .unpowered => d
  | _ => f d

/-- What the block does while no command waits: a tick of the Timekeeper, in which a due alarm fires (R385). -/
def idleTick (s : State) : Out := actPin s (·.tkTick) (vaonPart (·.tkTick))

/-- POWER_REQ (R376): REQ written with go = 1. -/
def execPowerReq (w : Who) (v : Word) (s : State) : Out := act s (·.powerWrite w (setBits v 31 1 1))
/-- POWER_REQ_DEFERRED_START (R376). -/
def execPowerReqDeferredStart (s : State) : Out := act s (·.powerDeferred)
/-- SLEEP_GROUP_RESPONSE (R377). -/
def execSleepGroupResponse (s : State) : Out := actState s (·.sleepResponse)
/-- BATON_ACTIVITY_WAKE (R382). -/
def execBatonActivityWake (s : State) : Out := act s (·.activityWake fBatonWake 1)
/-- CS_N_WAKE (R382). -/
def execCsNWake (s : State) : Out := act s (·.activityWake fSpiWake 2)
/-- STARTING_CALL (R358). -/
def execStartingCall (lead : Nat) (cells : List Nat) (s : State) : Out := act s (·.startingCall lead cells)
/-- ALARM (R385). -/
def execAlarm (s : State) : Out := actPin s (·.alarmCheck) (vaonPart (·.alarmCheck))
/-- WAKE (R383). -/
def execWake (s : State) : Out := act s (·.wakeStart)
/-- WAKE_RESTORE (R381). -/
def execWakeRestore (s : State) : Out := actState s (·.wakeRestore)
/-- LANE_RESTORE_RELEASE (R381). -/
def execLaneRestoreRelease (sd : Side) (n : Lane) (s : State) : Out := act s (·.laneRelease sd n)
/-- XTAL_FAIL (R384). -/
def execXtalFail (s : State) : Out := actPin s (·.xtalFail) (vaonPart (·.xtalFail))
/-- XTAL_OK (R384). -/
def execXtalOk (s : State) : Out := actPin s (·.xtalGood) (vaonPart (·.xtalGood))
/-- ALARM_WRITE (R385): a write to ALARM_HI. -/
def execAlarmWrite (w : Who) (v : Word) (s : State) : Out := act s fun d => d.writeHi w pTk 0x058 v (d.rd pTk 0x058) Dev.alarmSet
/-- VIO_LOW (R386). -/
def execVioLow (s : State) : Out := actPin s (·.vioSet true) (vaonPart (·.vioSet true))
/-- VIO_OK (R386). -/
def execVioOk (s : State) : Out := actPin s (·.vioSet false) (vaonPart (·.vioSet false))

end Sys2Proof.Machine
end

