-- ==== Sys2Proof/Machine/Trial.lean ====
section
/-! DEFINITION. The Time trial (R429 to R440). -/

namespace Sys2Proof.Machine

/-! Start (R429 to R431) -/

/-- The vectors of a full test (R429). -/
def fullVectors (test : Nat) (target : Word) : Nat :=
  if test = 5 then 64 * ((List.range 8).filter fun c => target.getLsbD (16 + c)).length
  else [0, 1280, 15360, 1184, 256, 0, 40960, 160, 20, 80, 4096, 2048, 8192].getD test 0

/-- TARGET names an instance of the test. -/
def targetNamed (test : Nat) (target : Word) : Bool :=
  let inst := getBits target 0 4
  if test = 4 then decide (inst < 2) else if test = 5 then getBits target 16 8 != 0
  else if test = 10 ∨ test = 11 then decide (inst < 8) else true

/-- The life-cycle state permits the test (R430). -/
def Dev.trialPermitted (d : Dev) (test : Nat) : Bool :=
  match d.g pSec ⟨0x040, 0, 3⟩ with
  | 2 => decide (test < 10)
  | 4 => false
  | _ => true

/-- The target of the test is powered (R378). -/
def Dev.trialPowered (d : Dev) (test inst : Nat) : Bool :=
  match test with
  | 2 | 3 => d.powered (0x50 + inst)
  | 6 => d.powered 0x12
  | 10 => d.powered (0x20 + inst)
  | 11 => d.powered (0x30 + inst)
  | 12 => d.powered 0x40
  | _ => true

/-- The reason that refuses a test (R431), or 0. -/
def Dev.trialRefusal (d : Dev) (test : Nat) (target : Word) : Nat :=
  let inst := getBits target 0 4
  if test = 0 ∨ 12 < test ∨ !targetNamed test target then 4
  else if !d.trialPermitted test then 1
  else if d.trialTraffic test inst then 2
  else if !d.trialReady test target || !d.trialPowered test inst then 3
  else 0

def trialInit : Word := 0xFFFFFFFF

/-- A go (R429, R431). -/
def Dev.trialGo (d : Dev) : Dev :=
  if d.b pTrial fTrBusy then d else
  let test := d.g pTrial ⟨0x040, 0, 4⟩
  let target := d.rd pTrial 0x044
  let r := d.trialRefusal test target
  if r ≠ 0 then ((d.s pTrial fTrResult 4).s pTrial fTrRefuse r).raise pTrial 3
  else
    let d := d.wr pTrial 0x048 (BitVec.ofNat 32 (2 ^ 31 + 16 * test))
    let d := ((d.wr pTrial 0x04C trialInit).wr pTrial 0x050 trialInit).wr pTrial 0x054 0
    let d := (d.wr pTrial 0x058 (BitVec.ofNat 32 (fullVectors test target))).wr pTrial 0x05C 0
    { d with trial := ⟨target, false, trialInit, trialInit, 0, none⟩ }

/-- A write to CMD by master 0, 1 or 2 (R429, R435). The test code of a go that is discarded is not stored. -/
def Dev.trialCmdWrite (d : Dev) (w : Who) (v : Word) : Dev :=
  d.accessUnless (decide (2 < w.mid.val)) w pTrial 0x040 fun d =>
    let busy := d.b pTrial fTrBusy
    let d := d.when (v.getLsbD 30 && busy) (·.trialEnd true)
    let d := d.when (!(v.getLsbD 31 && busy)) (·.store pTrial 0x040 v)
    d.when (v.getLsbD 31 && !busy) (·.trialGo)

/-! Vectors (R432 to R434) -/

/-- The reads of one vector of a memory test, in order: `bad` gives those that do not read the pattern cleanly, by the operation within
the vector, with the bits that differ and the corrected (bit 0) and uncorrectable (bit 1) outcomes. -/
def vectorReads (n k0 : Nat) (bad : List (Nat × Word × BitVec 2)) : List (Word × Word) :=
  (List.range 128).filterMap fun j => (marchRead n (k0 + j)).map fun w =>
    match bad.find? fun b => b.1 == j with
    | some b => (w ^^^ b.2.1, b.2.2.zeroExtend 32)
    | none => (w, 0)

/-- The signature after memory reads (R433). -/
def sigReads (sig : Word) (l : List (Word × Word)) : Word := l.foldl (fun s x => crc32Word (crc32Word s x.1) x.2) sig

/-- A segment is saved and will be written back: corrected words come back corrected, uncorrectable ones poisoned (R432). -/
def Dev.segmentSave (d : Dev) (test base : Nat) : Dev :=
  (List.range (segWords test)).foldl (fun d i =>
    let loc := d.trialLoc (base + i)
    let e := d.eccAt loc
    if e.uncorr then d.setEcc loc { e with poison := true } else if e.corr then d.setEcc loc ⟨0, false⟩ else d) d

/-- A checkpoint falls after `v` vectors of a test (R434), and its number. -/
def checkpointAt (test v : Nat) : Option Nat :=
  let m := memVectors test
  if v ≤ m then (if 0 < v ∧ v % segVectors test = 0 then some (v / segVectors test - 1) else none)
  else if (v - m) % 256 = 0 then some (m / segVectors test + (v - m) / 256 - 1)
  else none

/-- One vector (R433): `bad` for a vector of memory operations, `word` for the response of a logic vector or the judgement of an
analog one. -/
def Dev.trialVector (d : Dev) (bad : List (Nat × Word × BitVec 2)) (word : Word) : Dev :=
  if !d.b pTrial fTrBusy || d.trial.suspended || !d.running pTrial then d else
  let test := d.g pTrial fTrTest
  let v := (d.rd pTrial 0x054).toNat
  let sig := d.rd pTrial 0x04C
  let exp := d.rd pTrial 0x050
  let isMem := decide (v < memVectors test)
  let analog := decide (test = 4 ∨ test = 5)
  let n := segWords test
  let k0 := v % segVectors test * 128
  let d := d.when (isMem && v % segVectors test == 0) (·.segmentSave test (v / segVectors test * n))
  let sig' := if isMem then sigReads sig (vectorReads n k0 bad) else crc32Word sig (if analog then word &&& 1 else word)
  let exp' :=
    if decide (test = 3 ∨ 10 ≤ test) then Config.trialSig test (v + 1)
    else if isMem then sigReads exp (vectorReads n k0 []) else crc32Word exp 0
  let d := d.when (isMem && bad.any fun b => b.2.2 != 0) (·.sb pTrial fTrEcc true)
  let d := ((d.wr pTrial 0x04C sig').wr pTrial 0x050 exp').wr pTrial 0x054 (BitVec.ofNat 32 (v + 1))
  let d := match checkpointAt test (v + 1) with
    | none => d
    | some c =>
      let h := d.trial
      { d with trial := { h with cpSig := sig', cpExp := exp', cpVec := v + 1
                                 badCp := if sig' = exp' then h.badCp else some (h.badCp.getD c) } }
  d.when (v + 1 == (d.rd pTrial 0x058).toNat) (·.trialEnd false)

/-- A suspended run resumes from its last checkpoint (R436 step 5); an ENGINE test waits for the end of its Squad's reload. -/
def Dev.trialResume (d : Dev) : Dev :=
  let waits := d.trialRuns 3 && (d.sq (Fin.ofNat 16 d.trialInst)).reloading
  if !d.b pTrial fTrBusy || !d.trial.suspended || waits || !d.running pTrial then d else
  let d := ((d.wr pTrial 0x04C d.trial.cpSig).wr pTrial 0x050 d.trial.cpExp).wr pTrial 0x054 (BitVec.ofNat 32 d.trial.cpVec)
  { d with trial := { d.trial with suspended := false } }

/-- TRIAL_GO (R429): CMD written with go = 1. -/
def execTrialGo (w : Who) (v : Word) (s : State) : Out := act s (·.trialCmdWrite w (setBits v 31 1 1))
/-- TRIAL_ABORT (R435): CMD written with abort = 1. -/
def execTrialAbort (w : Who) (v : Word) (s : State) : Out := act s (·.trialCmdWrite w (setBits v 30 1 1))
/-- TRIAL_VECTOR (R433). -/
def execTrialVector (bad : List (Nat × Word × BitVec 2)) (word : Word) (s : State) : Out := act s (·.trialVector bad word)
/-- TRIAL_RESUME (R436). -/
def execTrialResume (s : State) : Out := act s (·.trialResume)

end Sys2Proof.Machine
end

