-- ==== Sys2Proof/Machine/Page.lean ====
section
/-! DEFINITION. The common page header (R43 to R45): soft reset (R7), page clock, page lock, event status and injection (R335, R337), and ARM with the consistency checks of the pages (R24, R172, R179, R239, R263, R279). -/

namespace Sys2Proof.Machine

/-! Soft reset (R7, R43) -/

/-- The lane, channel or Squad number of a page within its kind. -/
def laneOf (p : Nat) : Lane := Fin.ofNat 8 p
def sqOf (p : Nat) : Sq := Fin.ofNat 16 p

/-- A lane loses codeword lock and Lap lock, and its group alignment (R142, R166, R167). -/
def Dev.codingDrop (d : Dev) (n : Lane) : Dev :=
  let d := d.cwLockLost n
  let was := (d.cl n).lapLock
  let d := d.updCl n fun c => { c with lapLock := false, firstMatch := false, miss := 0 }
  (d.raiseIf was pFramer 1).alignUpdate n false

/-- A CODING page is soft-reset: every group loses alignment and every lane its codeword and Lap lock (R169). -/
def Dev.codingReset (d : Dev) : Dev := d.eachLane fun n d => d.codingDrop n

/-- The pages that the targets of a commit name (R46). -/
def namedPages (targets : Nat) : List Nat := (List.range 30).flatMap fun b => if targets.testBit b then commitPages b else []

/-- A soft reset of MODE drops a commit that is not decided (R480). -/
def Dev.modeReset (d : Dev) : Dev :=
  match d.commit with
  | .undecided t =>
    let pages := namedPages t
    { pages.foldl (fun (d : Dev) p => d.sb p fArm false) d with commit := .idle }.sb 0x16 fCommitBusy false
  | _ => d

/-- What a soft reset of page `p` does to the page's function, before its registers: its enables go to 0 with every effect of such a
write (R7), and the effects that the chapters name. -/
def Dev.softStop (d : Dev) (p : Nat) : Dev :=
  let n := laneOf p
  match kindOf p with
  | some .lrx => (d.laneOff n).updLrx n fun h => { h with prbsErr := false, feTaken := LrxH.reset.feTaken, invTaken := 0 }
  | some .ltx =>
    let d := ((d.updLtx n fun h => { h with pend := none }).ltxSetsOff n).ltxCalDiscard n
    d.when (d.txState n != txOff) (·.ltxStop n)
  | some .hrx => ((d.setHostHold n 2 false).hostOff n).updHrx n fun h => { h with prbsErr := false }
  | some .htx =>
    let wu := d.wuInForce n
    let d := if d.htxState n = htOff then d else d.htxOff n
    d.when (wu && d.hostState n != stOff) (·.hostOff n)
  | some .pacer => ((d.setHold n fHoldHost false).dropPending n).updPacer n fun h => { h with cand := none }
  | some .fecLtx => d.codingReset.eachLane fun k d => d.updCl k fun c => { c with fifo := [] }
  | some .fecLrx => d.codingReset.eachLane fun k d => d.updCl k fun c => { c with tuneHit := 0, tuneFalse := 0 }
  | some .fecHrx | some .fecHtx | some .framer => d.codingReset
  | some .madc => let u := Fin.ofNat 2 p; d.when (!d.slaved u) (·.madcOff u)
  | some .hdac => (d.clrChange (·.sb pHdac fSwClr false)).eachHdac fun c d => d.hdTurnOff c
  | some .capture => { d.capAbort with cap := .reset }
  | some .split => { d with split := ⟨1, 0⟩ }
  | some .trial => d.when (d.b pTrial fTrBusy) (·.trialEnd true)
  | some .mode => d.modeReset
  | some .mbox => { d with mboxTimer := 0 }
  | some .referee => { d with ref := { d.ref with log := [], head := 0, seq := 0, overwritten := 0, first := none } }
  | some .sub => { d with ref := { d.ref with watch := tabKeep (fun k => k / 32 != p - 0x18) d.ref.watch } }
  | _ => d

/-- The bits of a register that a soft reset of its page does not change: PAGE_LOCK until the reset completes (R39), registers that hold
always-on state or that a chapter names (R67, R113, R132, R227, R273, R274, R285, R307, R371, R385), and those that show the state of
a function that goes on. -/
def keepMask (p off : Nat) : Word :=
  let all : Word := 0xFFFFFFFF
  let sel (c : Bool) : Word := if c then all else 0
  if off = 0x00C then all else
  match kindOf p with
  | some .device => sel (decide (0x040 ≤ off))
  | some .clocks => sel ([0x044, 0x048].contains off)
  | some .power => if off = 0x044 then 7 else 0
  | some .timekeeper => sel ([0x044, 0x058, 0x05C, 0x060, 0x064, 0x068, 0x06C, 0x070].contains off)
  | some .thermal => sel ((decide (0x048 ≤ off) && decide (off < 0x070) && off != 0x05C) || decide (0x080 ≤ off))
  | some .security => sel (decide (0x040 ≤ off ∧ off < 0x400))
  | some .boot => sel ([0x044, 0x048, 0x054, 0x060, 0x064].contains off)
  | some .nvm => sel ([0x04C, 0x054].contains off)
  | some .baton => sel ([0x040, 0x044].contains off)
  | some .madc => if off = 0x044 then 0xE000 else sel ([0x058, 0x060, 0x068, 0x06C].contains off)
  | some .filter => sel (off == 0x044 || decide (0x800 ≤ off))
  | some .hdac => sel (decide (0x080 ≤ off) && (off % 0x20 == 0x0C || off % 0x20 == 0x14))
  | some .scrub => sel ([0x044, 0x050].contains off)
  | some .mode => if off = 0x044 then 0x80000000 else 0
  | some .cal => sel (off == 0x04C || decide (0x050 ≤ off))
  | some .lrx => sel ([0x068, 0x070, 0x074].contains off || decide (0x400 ≤ off ∧ off < 0x800))
  | some .ltx =>
    if off = 0x044 then 0x0A000040 else sel ([0x068, 0x070, 0x074].contains off || decide (0x300 ≤ off ∧ off < 0x320) || decide (0x800 ≤ off))
  | some .hrx => if off = 0x044 then 0xA00 else 0
  | some .htx => if off = 0x044 then 0x200 else 0
  | some .squad => if off = 0x058 then 0xFFFF0004 else sel ([0x044, 0x068].contains off)
  | some .pacer => if off = 0x064 then 7 else sel ([0x044, 0x05C].contains off || decide (0x400 ≤ off))
  | _ => 0

/-- Applies a function to every entry of a table, and keeps the canonical form. -/
def tabMap {α : Type} [DecidableEq α] (blank : Nat → α) (f : Nat → α → α) : List (Nat × α) → List (Nat × α)
  | [] => []
  | e :: t => if f e.1 e.2 = blank e.1 then tabMap blank f t else (e.1, f e.1 e.2) :: tabMap blank f t

/-- The registers and shadow copies of page `p` return to their reset values, but for what `keepMask` keeps. -/
def Dev.regsReset (d : Dev) (p : Nat) : Dev :=
  { d with
    regs := tabMap resetAt (fun k w =>
      if k / 4096 = p then (w &&& keepMask p (k % 4096)) ||| (resetAt k &&& ~~~ keepMask p (k % 4096)) else w) d.regs
    ecc := tabKeep (fun a => !(decide (regAddr p 0 ≤ a ∧ a < regAddr (p + 1) 0) && keepMask p (a % 4096) == 0)) d.ecc }

/-- The shadow copies of a page equal its applied values (R7). -/
def Dev.shadowsLive (d : Dev) (p : Nat) : Bool := (shadowOffs p).all fun o => d.rd p o == d.lrd p o

/-- What follows the registers of a page whose soft reset has returned them to reset values. -/
def Dev.softFollow (d old : Dev) (p : Nat) : Dev :=
  let n := laneOf p
  match kindOf p with
  | some .ltx => d.sb p (fSq sqClr) d.clrLow
  | some .htx => d.firTake n
  | some .pacer => d.paceUpdate n
  | some .fecHtx => d.eachLane fun k d => d.lfUpdate k
  | some .madc => let u := Fin.ofNat 2 p; d.when (d.slaved u) (·.sb p fEn (old.b p fEn))
  | some .filter =>
    let differs := (List.range 64).any fun j => d.rd p (0x400 + 4 * j) != d.lrd p (0x400 + 4 * j)
    { d with filt := { d.filt with dirty := differs } }
  | some .squad => if p < 0x58 then d else d.lendNew (sqOf p)
  | some .scrub => d.sb p fScrubBusy true
  | _ => d

/-- A soft reset of page `p` begins (R7, R43). -/
def Dev.softReset (d : Dev) (p : Nat) : Dev :=
  let d := ((d.softStop p).regsReset p).softFollow d p
  { d.sb p fApplied (d.shadowsLive p) with inReset := d.inReset.filter (· != p) ++ [p] }

/-- A soft reset ends: the page answers again, and its lock is gone (R39, R43). -/
def Dev.softDone (d : Dev) (p : Nat) : Dev :=
  if d.inReset.contains p then { d with inReset := d.inReset.filter (· != p) }.wr p 0x00C 0 else d

/-! Page clock (R43, R482) -/

/-- A function carries traffic for the refusal of clk_off (R482). -/
def Dev.traffic (d : Dev) (p : Nat) : Bool :=
  let n := laneOf p
  let lineOut (n : Lane) : Bool := d.txState n == txStart || d.txState n == txRun
  let hostOut (n : Lane) : Bool := d.htxState n != htOff
  match kindOf p with
  | some .lrx | some .pacer => d.lineBusy n
  | some .ltx => lineOut n
  | some .hrx => d.hostBusy n
  | some .htx => hostOut n
  | some .fecLtx => lanes.any lineOut
  | some .fecHrx => lanes.any d.hostBusy
  | some .fecHtx => lanes.any hostOut
  | some .fecLrx | some .framer => lanes.any d.lineBusy
  | _ => false

/-- A write to PAGE_CTRL (R43). -/
def Dev.pageCtrlWrite (d : Dev) (w : Who) (p : Nat) (v : Word) : Dev :=
  d.access w p 0x008 fun d =>
    if v.getLsbD 0 then d.softReset p else
    let refused := !d.b p fClkOff && (d.traffic p || isManagement p)
    (d.sb p fSleepReq (v.getLsbD 1)).sb p fClkOff (v.getLsbD 2 && !refused)

/-! Page lock (R43, R44) -/

/-- A write to PAGE_LOCK: 1 locks a free page to the writer, 0 unlocks it (R43, R44). -/
def Dev.lockPageWrite (d : Dev) (w : Who) (p : Nat) (v : Word) : Dev :=
  d.access w p 0x00C fun d =>
    if v.getLsbD 0 then (if d.b p fWlock then d else (d.sb p fWlock true).s p fOwner w.mid.val)
    else (d.sb p fWlock false).s p fOwner 0

/-! Events (R43, R335, R337) -/

/-- A write to EVT_STATUS clears the bits written 1 (R43). A subsystem page's bits are the firings of its watchers, whose hits a clear
does not change (R334). -/
def Dev.evtClear (d : Dev) (w : Who) (p : Nat) (v : Word) : Dev := d.access w p 0x010 (·.store p 0x010 v)

/-- A write to EVT_FORCE injects one event into the line of each source whose bit is 1 (R337). -/
def Dev.evtForce (d : Dev) (w : Who) (p : Nat) (v : Word) : Dev :=
  d.access w p 0x018 fun d => (List.range 32).foldl (fun d s => d.when (v.getLsbD s) (·.raise p s true)) d

/-! ARM (R24, R43) -/

/-- The shadow PORT_MAP breaks R20 or R21 (R23, R24): within each lane's group, the size codes and the seg_mode bits agree. -/
def mapBad (w : Word) : Bool :=
  (List.range 8).any fun n =>
    let c := getBits w (2 * n) 2
    let base := n / 2 ^ c * 2 ^ c
    (List.range (2 ^ c)).any fun i => getBits w (2 * (base + i)) 2 != c || w.getLsbD (16 + base + i) != w.getLsbD (16 + n)

/-- The lanes of the port group of lane `n` by the shadow PORT_MAP (R172). -/
def Dev.shadowGroup (d : Dev) (n : Lane) : List Lane :=
  let c := getBits (d.rd pFramer 0x040) (2 * n.val) 2
  lanes.filter fun k => k.val / 2 ^ c == n.val / 2 ^ c

/-- The consistency check of a page fails for its shadow values. -/
def Dev.armBad (d : Dev) (p : Nat) : Bool :=
  match kindOf p with
  | some .framer => mapBad (d.rd p 0x040)
  | some .fecHtx => lanes.any fun k => decide (d.g p (fRateHi k) ≤ d.g p (fRateLo k)) || decide (8 < d.g p (fRateHi k))
  | some .hrx => (d.shadowGroup (laneOf p)).any fun k => getBits (d.rd (pHrx k) 0x048) 0 2 != getBits (d.rd p 0x048) 0 2
  | some .htx => decide (63 < absSum (firTaps (d.rd p 0x054) (d.rd p 0x058)))
  | some .capture => d.capBad
  | some .thermal => d.thermBad
  | some .madc => d.madcBad (Fin.ofNat 2 p)
  | _ => false

/-- A write to ARM (R43): 1 is refused while the page's consistency check fails. -/
def Dev.armWrite (d : Dev) (w : Who) (p : Nat) (v : Word) : Dev :=
  d.access w p 0x028 fun d => if v.getLsbD 0 then (if d.armBad p then d else d.sb p fArm true) else d.sb p fArm false

/-! The meanings -/

/-- SOFT_RST (R7, R43): PAGE_CTRL written with soft_rst = 1. -/
def execSoftRst (w : Who) (p : Fin 256) (v : Word) (s : State) : Out := act s (·.pageCtrlWrite w p.val (v ||| 1))
/-- SOFT_RESET_COMPLETE (R43). -/
def execSoftResetComplete (p : Fin 256) (s : State) : Out := act s (·.softDone p.val)
/-- CLK_OFF (R43): PAGE_CTRL written with soft_rst = 0. -/
def execClkOff (w : Who) (p : Fin 256) (v : Word) (s : State) : Out := act s (·.pageCtrlWrite w p.val (v &&& ~~~ 1))
/-- WLOCK (R44). -/
def execWlock (w : Who) (p : Fin 256) (v : Word) (s : State) : Out := act s (·.lockPageWrite w p.val v)
/-- EVT_STATUS_CLEAR (R335). -/
def execEvtStatusClear (w : Who) (p : Fin 256) (v : Word) (s : State) : Out := act s (·.evtClear w p.val v)
/-- EVT_FORCE (R337). -/
def execEvtForce (w : Who) (p : Fin 256) (v : Word) (s : State) : Out := act s (·.evtForce w p.val v)
/-- ARM (R43). -/
def execArm (w : Who) (p : Fin 256) (v : Word) (s : State) : Out := act s (·.armWrite w p.val v)

end Sys2Proof.Machine
end

