-- ==== Sys2Proof/Machine/Commit.lean ====
section
/-! DEFINITION. Mode commit (R46 to R48, R480 to R482): the decision with the values sampled at it, the gates with what each page does at its gate (R25, R79, R121, R172, R179, R196, R279, R289, R302), and the deadline. -/

namespace Sys2Proof.Machine

/-! Required and taking part (R47) -/

/-- A named page is required: its shadow registers wait for a commit. -/
def Dev.required (d : Dev) (p : Nat) : Bool := !d.b p fApplied

/-- Every required page is armed. -/
def Dev.commitReady (d : Dev) (targets : Nat) : Bool := (namedPages targets).all fun p => !d.required p || d.b p fArm

/-- A named page takes part: it is required, or armed. -/
def Dev.takesPart (d : Dev) (p : Nat) : Bool := d.required p || d.b p fArm

/-! Gates (R25, R48, R481, R482) -/

/-- The lowest lanes of the port groups as applied. -/
def Dev.bases (d : Dev) : List Lane := lanes.filter fun n => d.groupBase n == n

/-- The lanes whose group size, membership or mode differs between two values of PORT_MAP (R25). -/
def changedLanes (old new : Word) : List Lane :=
  lanes.filter fun n => getBits old (2 * n.val) 2 != getBits new (2 * n.val) 2 || old.getLsbD (16 + n.val) != new.getLsbD (16 + n.val)

/-- The units in which a page applies: one for each group on the pages with a setting for each lane, else one (R48). -/
def Dev.unitsOf (d : Dev) (p : Nat) : List GateUnit :=
  match kindOf p with
  | some .fecLtx | some .fecLrx | some .fecHrx | some .fecHtx => d.bases.map fun b => ⟨p, some b.val⟩
  | _ => [⟨p, none⟩]

/-- A lane of the line side carries traffic for its gate: RUN or HOLD with codeword lock and, Segmented, Lap lock (R482). -/
def Dev.lrxGate (d : Dev) (n : Lane) : Bool := d.laneValid n && d.cwLocked n && (!d.segmented n || (d.cl n).lapLock)

/-- The receive side of the group of lane `n` carries traffic for its gate (R482). -/
def Dev.rxGate (d : Dev) (n : Lane) : Bool := if d.segmented n then d.aligned n else d.cwLocked n

/-- Some function of the group of lane `n`, on either side, carries traffic (R25, R482). -/
def Dev.groupGate (d : Dev) (n : Lane) : Bool :=
  (d.groupLanes n).any fun k => d.lrxGate k || d.txState k == txRun || d.hostValid k || d.htxState k == htData

/-- A unit carries traffic, so that its gate lies after the decision tick (R482). The lanes that a FRAMER commit changes switch together
at the latest gate of the groups they belonged to (R25). -/
def Dev.gateTraffic (d : Dev) (u : GateUnit) : Bool :=
  let n := laneOf u.page
  let grp (f : Lane → Bool) : Bool := (d.groupLanes (Fin.ofNat 8 (u.group.getD 0))).any f
  match kindOf u.page with
  | some .lrx | some .pacer => d.lrxGate n
  | some .ltx => d.txState n == txRun
  | some .hrx => d.hostValid n
  | some .htx => d.htxState n == htData
  | some .fecLtx => grp fun k => d.txState k == txRun
  | some .fecHrx => grp d.hostValid
  | some .fecHtx => grp fun k => d.htxState k == htData
  | some .fecLrx => d.rxGate (Fin.ofNat 8 (u.group.getD 0))
  | some .framer =>
    let ch := changedLanes (d.lrd pFramer 0x040) (tabGet resetAt (regKey pFramer 0x040) d.samp)
    if ch.isEmpty then lanes.any d.rxGate else ch.any d.groupGate
  | _ => false

/-- The lanes that a unit serves. -/
def Dev.unitLanes (d : Dev) (u : GateUnit) : List Lane :=
  match u.group with
  | some b => d.groupLanes (Fin.ofNat 8 b)
  | none => if decide (0x20 ≤ u.page ∧ u.page < 0x40) || decide (0x60 ≤ u.page) then [laneOf u.page] else []

/-- The gate of changed lanes comes last among those of the groups they belonged to (R25). -/
def Dev.gateWaits (d : Dev) (u : GateUnit) (gates : List GateUnit) : Bool :=
  u.page == pFramer &&
    let ch := (changedLanes (d.lrd pFramer 0x040) (tabGet resetAt (regKey pFramer 0x040) d.samp)).flatMap d.groupLanes
    gates.any fun v => v != u && (d.unitLanes v).any ch.contains

/-! What a page does at its gate -/

/-- An enabled host transmitter restarts (R25, R180). -/
def Dev.htxRestart (d : Dev) (n : Lane) : Dev := if d.htxState n = htOff then d else (d.htxOff n).htxEnable n

/-- A lane restarts on both sides (R25). -/
def Dev.fullRestart (d : Dev) (n : Lane) : Dev := (((d.laneRestart n 1).ltxRestart n).hostRestart n).htxRestart n

/-- PORT_MAP takes a new value: the changed lanes leave their groups, and restart in the new ones, with a new grid of Laps (R25, R481). -/
def Dev.regroup (d : Dev) (map : Word) : Dev :=
  let ch := changedLanes (d.lrd pFramer 0x040) map
  let d := d.onLanes ch fun n d => d.codingDrop n
  let d := d.lwr pFramer 0x040 map
  let d := d.onLanes ch fun n d =>
    let d := (d.updCg n fun _ => .reset).updCl n fun c => { CodeLane.reset with prbsTx := c.prbsTx, prbsRx := c.prbsRx, tuneHit := c.tuneHit, tuneFalse := c.tuneFalse }
    let d := ((d.sb pFecLtx (fAllFiller n) false).sb pFecLtx (fFillerLast n) false).s pFecLtx (fFifoOcc n) 0
    let d := (d.wr pFramer (0x080 + 4 * n.val) 0).wr pFramer (0x0A0 + 4 * n.val) 0
    d.fullRestart n
  d.onLanes ch fun n d => d.lfUpdate n

/-- A near-end loopback mode (R79, R200). -/
def nearEnd (mode : Nat) : Bool := mode == 1 || mode == 2

/-- What follows the applied values of page `p` at its gate; `old` is the device before. -/
def Dev.gateEffect (d old : Dev) (p : Nat) : Dev :=
  let n := laneOf p
  match kindOf p with
  | some .lrx =>
    let a := old.lg p fLoopback
    let b := d.lg p fLoopback
    let d := d.when (a != b && (nearEnd a || nearEnd b)) (·.laneRestart n 3)
    d.when ((a == 3) != (b == 3) && ((d.tx n).run.map (·.forced)) == some false) (·.ltxCalAbandon n 3 true .none)
  | some .ltx => d.ltxCommit n (setOffs.map fun o => d.lrd p (0x400 + o))
  | some .hrx =>
    let a := old.lg p fHrxLoop
    let b := d.lg p fHrxLoop
    let rate := old.lrd p 0x048 != d.lrd p 0x048
    let d := d.when (rate || (a != b && (nearEnd a || nearEnd b))) (·.hostRestart n)
    d.when rate (·.htxRestart n)
  | some .htx => d.firCommit n
  | some .clocks => d.refCommit
  | some .thermal => (d.voteWrite 3).voteWrite 4
  | some .madc => d.madcCommit (Fin.ofNat 2 p)
  | some .filter => d.filterCommit old
  | some .hdac => Dev.hdacCommit old d
  | _ => d

/-- The shadow registers that a unit applies. -/
def Dev.unitOffs (d : Dev) (u : GateUnit) : List Nat :=
  match u.group with
  | none => shadowOffs u.page
  | some _ => (shadowOffs u.page).filter fun o => (d.unitLanes u).any fun n => n.val == o % 0x20 / 4

/-- A unit takes the values sampled at the decision (R48). -/
def Dev.applyUnit (d : Dev) (u : GateUnit) : Dev :=
  let sampled (off : Nat) : Word := tabGet resetAt (regKey u.page off) d.samp
  if u.page = pFramer then d.regroup (sampled 0x040)
  else ((d.unitOffs u).foldl (fun d o => d.lwr u.page o (sampled o)) d).gateEffect d u.page

/-- A page whose last gate has come is disarmed, and applied unless a shadow register has been written since the decision (R48). -/
def Dev.pageApplied (d : Dev) (p : Nat) : Dev :=
  let d := d.sb p fArm false
  let d := if d.late.contains p then d else d.sb p fApplied true
  { d with unapplied := d.unapplied.filter (· != p) }

/-- The gate of a unit of a decided commit comes; `gates` are those still to come after it. -/
def Dev.gateCome (d : Dev) (targets : Nat) (u : GateUnit) (gates : List GateUnit) : Dev :=
  let d := d.applyUnit u
  let d := d.when (!gates.any fun v => v.page == u.page) (·.pageApplied u.page)
  { d with commit := .decided targets gates }

/-- After the last gate the commit is over (R48). -/
def Dev.commitEnd (d : Dev) : Dev :=
  match d.commit with
  | .decided _ [] => ({ d with commit := .idle, samp := [], late := [] }.sb 0x16 fCommitBusy false).raise 0x16 0
  | _ => d

/-! Decision and deadline -/

/-- The commit is decided (R48 step 3): the pages that take part are sampled, and the units without traffic apply at this tick, the lanes
that change their group last. -/
def Dev.commitDecided (d : Dev) (targets : Nat) : Dev :=
  let parts := (namedPages targets).filter d.takesPart
  let samp := parts.foldl (fun t p => (shadowOffs p).foldl (fun t o => tabSet resetAt (regKey p o) (d.rd p o) t) t) []
  let coding := (namedPages targets).filter fun p => !d.takesPart p
  let d := { d with samp := samp, late := [], unapplied := d.unapplied.filter (!coding.contains ·) }
  let units := parts.flatMap d.unitsOf
  let gates := units.filter d.gateTraffic
  let now := units.filter fun u => !d.gateTraffic u
  let now := now.filter (·.page != pFramer) ++ now.filter (·.page == pFramer)
  let rec go : List GateUnit → Dev → Dev
    | [], d => d
    | u :: t, d => go t (d.gateCome targets u (t ++ gates))
  (go now { d with commit := .decided targets gates }).commitEnd

/-- A 1 µs tick before the deadline (R48 step 2). -/
def Dev.commitTick (d : Dev) : Dev :=
  match d.commit with
  | .undecided t => if d.commitReady t then d.commitDecided t else d
  | _ => d

/-- The deadline tick: a commit that it finds ready is decided (R52), and another fails (R48 step 4). -/
def Dev.commitDeadline (d : Dev) : Dev :=
  match d.commit with
  | .undecided t =>
    if d.commitReady t then d.commitDecided t else
    let missing := (List.range 30).foldl (fun m b =>
      if t.testBit b && (commitPages b).any (fun p => d.required p && !d.b p fArm) then m + 2 ^ b else m) 0
    let d := (namedPages t).foldl (fun (d : Dev) p => d.sb p fArm false) d
    let d := (({ d with commit := .idle }.sb 0x16 fCommitFailed true).s 0x16 fMissing missing).sb 0x16 fCommitBusy false
    d.raise 0x16 1
  | _ => d

/-- The gate of a page comes, for the group of lane `base` on a page that serves several (R48, R481). -/
def Dev.commitGate (d : Dev) (p : Nat) (base : Lane) : Dev :=
  match d.commit with
  | .decided t gates =>
    match gates.find? fun u => u.page == p && (u.group.isNone || u.group == some (d.groupBase base).val) with
    | none => d
    | some u => if d.gateWaits u gates then d else (d.gateCome t u (gates.filter (· != u))).commitEnd
  | _ => d

/-! The meanings -/

/-- COMMIT (R47). -/
def execCommit (w : Who) (v : Word) (s : State) : Out := act s (·.commitWrite w v)
/-- COMMIT_DECIDE (R48). -/
def execCommitDecide (s : State) : Out := act s (·.commitTick)
/-- COMMIT_DEADLINE (R48, R52). -/
def execCommitDeadline (s : State) : Out := act s (·.commitDeadline)
/-- COMMIT_GATE (R48, R481). -/
def execCommitGate (p : Fin 256) (base : Lane) (s : State) : Out := act s (·.commitGate p.val base)

end Sys2Proof.Machine
end

