-- ==== Sys2Proof/Machine/Referee.lean ====
section
/-! DEFINITION. The Referee's registers and watchers (R328 to R342), INTC and the level-derived maps (R331, R335). -/

namespace Sys2Proof.Machine

def pRef : Nat := 0x03
def pIntc : Nat := 0x04

/-- An event of source `s` of page `p` comes from the block itself (R328). -/
def Dev.eventAt (d : Dev) (p s : Nat) : Dev := if d.running p then d.raise p s else d

/-- The reaction to an event is over (R328). -/
def Dev.reactionEnd (d : Dev) (p s : Nat) : Dev := { d with ref := { d.ref with busy := d.ref.busy.filter (· != (p, s)) } }

/-- The subsystem pages (R342). -/
def subPage (i : Fin 6) : Nat := 0x18 + i.val

/-- The window of a watcher closes with its count below n (R333). -/
def Dev.windowClose (d : Dev) (sp w : Nat) : Dev :=
  let h := d.watch sp w
  if h.isOpen then d.setWatch sp w ⟨h.hits, false, 0⟩ else d

/-- A pair that a watcher of subsystem page `sp` may name: a source of a page of the subsystem with a block bit (R333). -/
def watchable (sp page src : Nat) : Bool := (blockBit page).isSome && subsystemOf page == some sp && decide (src < sourcesOf page)

/-- A write to word 0 (WATCH_CFG) or 1 (WATCH_WIN) of watcher `w` (R333). -/
def Dev.watchWrite (d : Dev) (who : Who) (sp w : Nat) (win : Bool) (v : Word) : Dev :=
  let off := 0x100 + 0x10 * w + (if win then 4 else 0)
  d.access who sp off fun d =>
    let d := d.store sp off v
    let d := if d.b sp (fWatchEn w) && !watchable sp (d.g sp (fWatchPage w)) (d.g sp (fWatchSrc w)) then d.sb sp (fWatchEn w) false else d
    d.setWatch sp w ⟨(d.watch sp w).hits, false, 0⟩

/-- A write to REFEREE.CTRL (R340). -/
def Dev.refCtrlWrite (d : Dev) (w : Who) (v : Word) : Dev :=
  d.access w pRef 0x060 fun d =>
    let d := d.when (v.getLsbD 1) fun d => { d with ref := { d.ref with log := [], head := 0 } }
    d.when (v.getLsbD 0) fun d => { d with ref := { d.ref with first := none } }

/-! What the registers show -/

/-- REFEREE.BLOCKS (R331). -/
def Dev.blocks (d : Dev) : Long :=
  blockPages.foldl (fun m p => if d.sevMax p = 0 then m else match blockBit p with
    | some b => m ||| BitVec.twoPow 64 b
    | none => m) 0

/-- REFEREE.SEV_MAPk (R331). -/
def Dev.sevMap (d : Dev) (k : Nat) : Word :=
  blockPages.foldl (fun m p => match blockBit p with
    | some b => if b / 16 = k then m ||| BitVec.ofNat 32 (d.sevMax p * 2 ^ (2 * (b % 16))) else m
    | none => m) 0

/-- An entry as FIRST_FAULT shows it (R340). -/
def LogEntry.fault (e : LogEntry) : Word :=
  BitVec.ofNat 32 (2 ^ 31 + e.page * 2 ^ 16 + e.src * 2 ^ 8 + (if e.esc then 4 else 0) + e.sev)

/-- Word `k` of a log entry (R340). -/
def LogEntry.word (e : LogEntry) (k : Nat) : Word :=
  match k with
  | 0 => BitVec.ofNat 32 (e.seq * 2 ^ 16 + e.page * 2 ^ 8 + e.src * 2 ^ 3 + e.sev * 2 + 1)
  | 1 => BitVec.ofNat 32 ((if e.esc then 2 else 0) + (if e.forced then 1 else 0))
  | 2 => e.time.lo
  | _ => e.time.hi

/-- The log entry in a slot: the oldest one is in slot (head − count) mod 32 (R336). -/
def Dev.logSlot (d : Dev) (i : Nat) : Option LogEntry :=
  let n := d.ref.log.length
  d.ref.log[(i + 64 + n - d.ref.head) % 32]?

/-- Page `p` delivers a source on the route of a bit of EVT_ROUTE (R335). -/
def Dev.routed (d : Dev) (p : Nat) (route : Fld) : Bool := d.b p route && d.rd p 0x010 &&& d.rd p 0x014 != 0

/-- INTC.PEND[k] (R335). -/
def Dev.pend (d : Dev) (k : Nat) : Word :=
  (List.range 32).foldl (fun m b => if (kindOf (32 * k + b)).isSome && d.routed (32 * k + b) fHostInt then m ||| BitVec.twoPow 32 b else m) 0

/-- INT_N is held low (R335). -/
def Dev.intLow (d : Dev) : Bool := d.b pIntc ⟨0x040, 0, 1⟩ && (List.range 8).any fun k => d.pend k != 0

/-- The device has a pending Baton event (R357). -/
def Dev.batonEvt (d : Dev) : Bool := allPages.any fun p => d.routed p fBatonInt

/-- SUMMARY of a subsystem page (R342). -/
def Dev.summary (d : Dev) (sp : Nat) : Word :=
  blockPages.foldl (fun m p => let s := d.sevMax p
    if subsystemOf p = some sp ∧ s ≠ 0 then m ||| BitVec.twoPow 32 (s - 1) else m) 0

/-! The meanings -/

/-- REFEREE_EVENT (R328). -/
def execRefereeEvent (p : Fin 256) (src : Fin 32) (s : State) : Out := act s (·.eventAt p.val src.val)
/-- REACTION_END (R328). -/
def execReactionEnd (p : Fin 256) (src : Fin 32) (s : State) : Out := act s (·.reactionEnd p.val src.val)
/-- WATCH_WINDOW_CLOSE (R333). -/
def execWatchWindowClose (i : Fin 6) (w : Fin 32) (s : State) : Out := act s (·.windowClose (subPage i) w.val)
/-- WATCH_CFG_WRITE (R333): a write to WATCH_CFG, or to WATCH_WIN where `win` holds. -/
def execWatchCfgWrite (who : Who) (i : Fin 6) (w : Fin 32) (win : Bool) (v : Word) (s : State) : Out :=
  act s (·.watchWrite who (subPage i) w.val win v)
/-- LOG_CLR (R340): CTRL written with log_clr = 1. -/
def execLogClr (w : Who) (v : Word) (s : State) : Out := act s (·.refCtrlWrite w (v ||| 2))
/-- FIRST_CLR (R340): CTRL written with first_clr = 1. -/
def execFirstClr (w : Who) (v : Word) (s : State) : Out := act s (·.refCtrlWrite w (v ||| 1))

end Sys2Proof.Machine
end

