-- ==== Sys2Proof/Machine/View.lean ====
section
/-! DEFINITION. What a read of a register shows: the stored word, with the fields that follow the state of the device (R31, R32, R40, R43, R58, R136, R171, R198, R203, R220, R225, R227, R274, R311, R331, R335, R340 to R342). -/

namespace Sys2Proof.Machine

def bit (b : Bool) : Nat := if b then 1 else 0

/-! The common header (R31, R43) -/

def Dev.clocked (d : Dev) (p : Nat) : Bool := d.powered p && !d.b p fClkOff

/-- A transmitter sends at its configured rate with no squelch reason set (R31). -/
def Dev.ltxReady (d : Dev) (n : Lane) : Bool := d.txState n == txRun && d.g (pLtx n) fSqSrc == 0 && !(d.tx n).glide
def Dev.htxReady (d : Dev) (n : Lane) : Bool :=
  (d.htxState n == htFrames || d.htxState n == htData) && d.g (pHtx n) fHtxSqSrc == 0 && !(d.hx n).glide

/-- The function-specific condition of PAGE_STATE.ready (R31). -/
def Dev.readyCond (d : Dev) (p : Nat) : Bool :=
  let n := laneOf p
  match kindOf p with
  | some .lrx => d.laneValid n
  | some .hrx => d.hostValid n
  | some .ltx => d.ltxReady n
  | some .htx => d.htxReady n
  | some .pacer => (d.pc n).accepted
  | some .squad => (d.sq (sqOf p)).verified && d.sqRuns (sqOf p)
  | some .fecLtx | some .fecLrx | some .fecHrx | some .fecHtx | some .framer => !d.unapplied.contains p
  | some .cal => d.b pCal fStoreEmpty || d.b pCal (fCopyOk false) || d.b pCal (fCopyOk true)
  | _ => true

/-- PAGE_STATE.ready (R31). -/
def Dev.ready (d : Dev) (p : Nat) : Bool := d.running p && !d.power.waking && d.readyCond p

/-- PAGE_ID (R42, R43). -/
def pageId (p : Nat) : Word :=
  match rowOf p with
  | none => 0
  | some r => BitVec.ofNat 32 (r.base * 0x10000 + (p - r.base) * 0x100 + 1)

/-- PAGE_STATE (R43). -/
def Dev.pageState (d : Dev) (p : Nat) : Word :=
  setBits (setBits (setBits (setBits (d.rd p 0x004) 0 1 (bit (d.ready p))) 1 1 (bit (d.powered p))) 2 1 (bit (d.clocked p))) 3 1 (bit (d.inReset.contains p || d.b p ⟨0x004, 3, 1⟩))

/-- DEVICE.READY_MAPk (R32). -/
def Dev.readyMap (d : Dev) (k : Nat) : Word :=
  (List.range 32).foldl (fun m b => if (kindOf (32 * k + b)).isSome && d.ready (32 * k + b) then m ||| BitVec.twoPow 32 b else m) 0

/-! The blocks -/

/-- LRXn.STATUS (R58, R81): fe_pending compares the fields that an entry to TRAIN takes. -/
def Dev.lrxStatus (d : Dev) (n : Lane) : Word :=
  let p := pLrx n
  let taken (w : Word) : Nat := getBits w 0 18
  let pend := taken (d.rd p 0x048) != taken (d.lx n).feTaken || d.g p fLrxInvert != (d.lx n).invTaken
  setBits (d.rd p 0x044) 7 1 (bit pend)

/-- The far-end loopback of lane `n` is in effect on its line transmitter (R134). -/
def Dev.lineFar (d : Dev) (n : Lane) : Bool := d.lg (pLrx n) fLoopback == 3

/-- LTXn.STATUS (R136). -/
def Dev.ltxStatus (d : Dev) (n : Lane) : Word :=
  let p := pLtx n
  let on := d.txState n != txOff
  let w := d.rd p 0x044
  let w := setBits w 5 1 (bit (d.g p fSqSrc != 0))
  let w := setBits w 8 1 (bit (d.tx n).pend.isSome)
  let w := setBits w 11 1 (bit (on && d.g p fSkewLiveFine != d.g p fSkewFine))
  let w := setBits w 12 1 (bit (d.g p fSkewLiveCoarse != d.g p fSkewCoarse))
  let w := setBits w 13 1 (bit (on && (d.tx n).cm != d.g p fOutCm))
  let w := setBits w 14 1 (bit (d.lineFar n))
  setBits w 15 1 (bit (on && d.g p fGenPattern != 0))

/-- HTXn.STATUS (R203). -/
def Dev.htxStatus (d : Dev) (n : Lane) : Word :=
  let p := pHtx n
  let w := setBits (d.rd p 0x044) 5 1 (bit (d.g p fHtxSqSrc != 0))
  let w := setBits w 12 1 (bit (d.htxState n != htOff && d.g p ⟨0x064, 0, 3⟩ != 0))
  let w := setBits w 13 1 (bit (d.lg (pHrx n) fHrxLoop == 3))
  setBits w 14 2 (if d.htxState n = htOff then 0 else d.htxTiming n)

/-- HDAC.STATUS (R311). -/
def Dev.hdacStatus (d : Dev) : Word :=
  let w := channels.foldl (fun w c =>
    setBits (setBits w c.val 1 (bit (d.hdSlewing c))) (8 + c.val) 1 (bit ((d.hd c).span.isSome || (d.hd c).pend.isSome))) (d.rd pHdac 0x044)
  let pump := channels.any fun c => d.hdState c != hdOff && d.g pHdac (fHdLiveSpan c) == 1
  setBits (setBits w 24 1 (bit d.clrActive)) 25 1 (bit pump)

/-- LIVE of a channel (R311). -/
def Dev.hdacLive (d : Dev) (c : Fin 8) : Word :=
  setBits (d.rd pHdac (hdacBase c + 0x14)) 16 1 (bit (d.g pHdac (fHdLive c) == limitCode (d.hdTarget c)))

/-- CAL.STATUS (R274). -/
def Dev.calStatus (d : Dev) : Word :=
  let w := lanes.foldl (fun w n => setBits w (8 + n.val) 1 (bit (d.prevValid n))) (d.rd pCal 0x04C)
  setBits w 16 16 (match d.newest with
    | some b => (d.copySeq b).toNat
    | none => 0)

/-- The registers of the REFEREE page (R331, R332, R336, R340). -/
def Dev.refereeReg (d : Dev) (off : Nat) : Word :=
  match off with
  | 0x044 =>
    let watch := (List.range 6).any fun i => d.rd (0x18 + i) 0x010 != 0
    BitVec.ofNat 32 (bit d.faultN + 2 * bit watch + 4 * bit d.trip + 8 * bit (d.b pRef fForceFault))
  | 0x048 => d.blocks.lo
  | 0x04C => d.blocks.hi
  | 0x050 => d.sevMap 0
  | 0x054 => d.sevMap 1
  | 0x058 => d.sevMap 2
  | 0x05C => d.sevMap 3
  | 0x064 => ((d.ref.first.map (·.fault))).getD 0
  | 0x068 => match d.ref.first with
    | some e => e.time.lo
    | none => 0
  | 0x06C => match d.ref.first with
    | some e => e.time.hi
    | none => 0
  | 0x070 => BitVec.ofNat 32 (d.ref.overwritten * 65536 + d.ref.head * 256 + d.ref.log.length)
  | _ =>
    if 0x100 ≤ off ∧ off < 0x300 then ((d.logSlot ((off - 0x100) / 16)).map (·.word (off % 16 / 4))).getD 0
    else d.rd pRef off

/-- WATCH_STAT[w] (R342). -/
def Dev.watchStat (d : Dev) (sp w : Nat) : Word :=
  let h := d.watch sp w
  BitVec.ofNat 32 (h.hits * 0x1000000 + bit h.isOpen * 0x10000 + h.count)

/-- The word that a read of register `off` of page `p` returns. -/
def Dev.peek (d : Dev) (p off : Nat) : Word :=
  let n := laneOf p
  let w := d.rd p off
  if off = 0x000 then pageId p
  else if off = 0x004 then (if (kindOf p).isSome then d.pageState p else 0)
  else match kindOf p with
  | none => 0
  | some .device => if 0x080 ≤ off ∧ off < 0x0A0 then d.readyMap ((off - 0x080) / 4) else w
  | some .clocks => if off = 0x054 then BitVec.ofNat 32 (bit (d.rclkSquelched 0) + 2 * bit (d.rclkSquelched 1)) else w
  | some .referee => if off < 0x044 then w else d.refereeReg off
  | some .intc =>
    if off = 0x044 then BitVec.ofNat 32 (bit d.intLow)
    else if 0x080 ≤ off ∧ off < 0x0A0 then d.pend ((off - 0x080) / 4) else w
  | some .timekeeper => if off = 0x048 then d.tk.lo else if off = 0x04C then d.tk.hi else w
  | some .cal => if off = 0x04C then d.calStatus else w
  | some .sub =>
    if off = 0x040 then d.summary p
    else if 0x100 ≤ off ∧ off < 0x300 ∧ off % 16 = 8 then d.watchStat p ((off - 0x100) / 16) else w
  | some .lrx => if off = 0x044 then d.lrxStatus n else w
  | some .ltx => if off = 0x044 then d.ltxStatus n else w
  | some .htx => if off = 0x044 then d.htxStatus n else w
  | some .fecLtx => if off = 0x044 then lanes.foldl (fun w k => setBits w (16 + k.val) 1 (bit (d.srcOk k))) w else w
  | some .fecLrx =>
    if 0x0A0 ≤ off ∧ off < 0x0C0 then
      let k : Lane := Fin.ofNat 8 ((off - 0x0A0) / 4)
      setBits (setBits w 1 1 (bit (d.laneValid k))) 2 1 (bit (d.segmented k && d.e0 k))
    else w
  | some .framer => if off = 0x040 then setBits w 24 1 (bit (mapBad w)) else w
  | some .squad =>
    if off = 0x044 then setBits w 8 7 (d.sqRunning (sqOf p))
    else if off = 0x064 then d.lendLive (sqOf p)
    else if off = 0x0C8 then (d.engineMap (sqOf p)).lo
    else if off = 0x0CC then (d.engineMap (sqOf p)).hi else w
  | some .pacer => if off = 0x074 then BitVec.ofNat 32 (d.enginesOf n) else w
  | some .hdac =>
    if off = 0x044 then d.hdacStatus
    else if 0x080 ≤ off ∧ off < 0x180 ∧ off % 0x20 = 0x14 then d.hdacLive (Fin.ofNat 8 ((off - 0x080) / 0x20)) else w
  | some _ => w

end Sys2Proof.Machine
end

