-- ==== Sys2Proof/Machine/Bus.lean ====
section
/-! DEFINITION. Accesses of the masters to the management address space (R36 to R41, R49 to R51, R207, R210, R212, R316, R318): writes and reads of registers and memories, wide values, and the transfers of the Squads' DMA channels (R215, R216). -/

namespace Sys2Proof.Machine

/-! Writes of registers -/

/-- The facts of a write that meets nothing outside the device. -/
def noFacts : Facts := ⟨[], false, [], 0⟩

/-- The low word of a wide value that can be written (R390): TK_TIME, ALARM. -/
def Dev.wideWrite (d : Dev) (w : Who) (off : Nat) (v : Word) : Option Dev :=
  if off = 0x048 ∨ off = 0x058 then some (d.writeLo w pTk off v)
  else if off = 0x04C then some (d.writeHi w pTk 0x048 v d.tk.lo Dev.tkSet)
  else if off = 0x05C then some (d.writeHi w pTk 0x058 v (d.rd pTk 0x058) Dev.alarmSet)
  else none

/-- A write to a register without an effect of its own (R5, R6, R39, R46); it may meet a test of the memory that holds it (R436). -/
def Dev.plainWrite (d : Dev) (w : Who) (p off : Nat) (v : Word) : Dev :=
  let user := decide (p = 0x10 ∧ 0x400 ≤ off ∧ off < 0x500)
  d.access w p off fun d =>
    let d := d.when (w.mid.val != 3) (·.trialAccess (regAddr p off))
    if isShadow p off then
      let d := d.storeShadow p off v
      if user then { d with filt := { d.filt with dirty := true } } else d
    else d.store p off v

/-- A write to a register of the common header (R43). -/
def Dev.headerWrite (d : Dev) (w : Who) (p off : Nat) (v : Word) : Dev :=
  match off with
  | 0x008 => d.pageCtrlWrite w p v
  | 0x00C => d.lockPageWrite w p v
  | 0x010 => d.evtClear w p v
  | 0x018 => d.evtForce w p v
  | 0x028 => d.armWrite w p v
  | _ => d.plainWrite w p off v

/-- A write to a register of a lane page. -/
def Dev.laneWrite (d : Dev) (w : Who) (p off : Nat) (v : Word) : Dev :=
  let n := laneOf p
  match kindOf p, off with
  | some .lrx, 0x040 => d.lrxCtrlWrite w n v
  | some .lrx, 0x048 => d.lrxFeWrite w n v
  | some .lrx, 0x060 => d.adcCalWrite w n v
  | some .lrx, 0x080 => d.lrxPrbsWrite w n v
  | some .ltx, 0x040 => d.ltxCtrlWrite w n v
  | some .ltx, 0x048 => d.outCfgWrite w n v
  | some .ltx, 0x050 => d.ltxSquelchWrite w n v
  | some .ltx, 0x058 => d.skewCfgWrite w n v
  | some .ltx, 0x060 => d.dacCalWrite w n v
  | some .ltx, 0x084 => d.ltxGenWrite w n v
  | some .hrx, 0x040 => d.hrxCtrlWrite w n v
  | some .hrx, 0x080 => d.hrxPrbsWrite w n v
  | some .htx, 0x040 => d.htxCtrlWrite w n v
  | some .htx, 0x048 => d.htxOutCfgWrite w n v
  | some .htx, 0x050 => d.htxSquelchWrite w n v
  | some .htx, 0x064 => d.htxGenWrite w n v
  | some .pacer, 0x040 => d.pacerCtrlWrite w n v
  | some .pacer, 0x058 => d.paceCfgWrite w n v
  | _, _ => d.plainWrite w p off v

/-- A write to a register of a SQUAD page. -/
def Dev.squadWrite (d : Dev) (w : Who) (n : Sq) (off : Nat) (v : Word) : Dev :=
  match off with
  | 0x040 => d.squadCtrlWrite w n v
  | 0x054 => d.access w (pSquad n) 0x054 (·.when (v.getLsbD 0) (·.reloadRequest n))
  | 0x060 => d.lendWrite w n v
  | 0x090 => d.dmaClrWrite w n v
  | 0x0A0 => d.squadCmdWrite w n v
  | _ => d.plainWrite w (pSquad n) off v

/-- A write to a register of the MBOX or the LOCKS page. -/
def Dev.relayWrite (d : Dev) (w : Who) (p off : Nat) (v : Word) : Dev :=
  if p = pLocks then
    if 0x040 ≤ off ∧ off < 0x0C0 then d.lockWrite w ((off - 0x040) / 4) v
    else if off = 0x0E0 then d.releaseAllWrite w v
    else d.plainWrite w p off v
  else if 0x0C0 ≤ off ∧ off < 0x100 then d.sendWrite w ((off - 0x0C0) / 4) v
  else if 0x100 ≤ off ∧ off < 0x140 then d.doneWrite w ((off - 0x100) / 4) v
  else if 0x140 ≤ off ∧ off < 0x150 then d.doorbellWrite w ((off - 0x140) / 4) v
  else if 0x150 ≤ off ∧ off < 0x160 then d.dbMaskWrite w ((off - 0x150) / 4) v
  else if off = 0x160 then d.rxResetWrite w v
  else d.plainWrite w p off v

/-- A write to a register of a housekeeping page. -/
def Dev.houseWrite (d : Dev) (w : Who) (p off : Nat) (v : Word) : Dev :=
  match kindOf p with
  | some .timekeeper => (d.wideWrite w off v).getD (d.plainWrite w p off v)
  | some .thermal => if off = 0x05C then d.sensClrWrite w v else d.plainWrite w p off v
  | some .madc =>
    if off = 0x040 then d.madcCtrlWrite w (Fin.ofNat 2 p) v
    else if off = 0x04C then d.urgWrite w (Fin.ofNat 2 p) v
    else d.plainWrite w p off v
  | some .filter => if off = 0x040 then d.filterCtrlWrite w v else d.plainWrite w p off v
  | some .hdac =>
    let c : Fin 8 := Fin.ofNat 8 ((off - 0x080) / 0x20)
    if off = 0x040 then d.swClrWrite w v
    else if 0x080 ≤ off ∧ off < 0x180 ∧ off % 0x20 = 0x04 then d.hdCodeWrite w c v
    else if 0x080 ≤ off ∧ off < 0x180 ∧ off % 0x20 = 0x0C then d.hdClrWrite w c v
    else d.plainWrite w p off v
  | _ => d.plainWrite w p off v

/-- A write to a register of a coding page, of SPLIT, or of a subsystem page. -/
def Dev.countWrite (d : Dev) (w : Who) (p off : Nat) (v : Word) : Dev :=
  match kindOf p with
  | some .split =>
    if off = 0x040 then d.splitCtrlWrite w v
    else if off = 0x0C0 then d.bwWinWrite w v
    else if off = 0x200 then d.tagCfgWrite w v
    else if off = 0x208 then d.tagCtrlWrite w v
    else if 0x600 ≤ off ∧ off < 0x800 then d.cntWrite w ((off - 0x600) / 4) v
    else d.plainWrite w p off v
  | some .sub =>
    if 0x100 ≤ off ∧ off < 0x300 ∧ off % 16 = 0 then d.watchWrite w p ((off - 0x100) / 16) false v
    else if 0x100 ≤ off ∧ off < 0x300 ∧ off % 16 = 4 then d.watchWrite w p ((off - 0x100) / 16) true v
    else d.plainWrite w p off v
  | some .fecLrx =>
    if 0x080 ≤ off ∧ off < 0x0A0 then d.tuneCfgWrite w (Fin.ofNat 8 ((off - 0x080) / 4)) v
    else if off = 0x0C4 then d.cntCtrlWrite w p v else d.plainWrite w p off v
  | some .fecLtx => if off = 0x0A0 then d.cntCtrlWrite w p v else d.plainWrite w p off v
  | some .fecHrx => if off = 0x048 then d.cntCtrlWrite w p v else d.plainWrite w p off v
  | some .fecHtx => if off = 0x064 then d.cntCtrlWrite w p v else d.plainWrite w p off v
  | some .framer => if off = 0x100 then d.cntCtrlWrite w p v else d.plainWrite w p off v
  | _ => d.plainWrite w p off v

/-- A write to a register of a page of the management domain. -/
def Dev.manageWrite (d : Dev) (w : Who) (p off : Nat) (v : Word) : Dev :=
  match kindOf p with
  | some .clocks => if off = 0x04C then d.rclkWrite w 0 v else if off = 0x050 then d.rclkWrite w 1 v else d.plainWrite w p off v
  | some .power => if off = 0x040 then d.powerWrite w v else d.plainWrite w p off v
  | some .referee => if off = 0x060 then d.refCtrlWrite w v else d.plainWrite w p off v
  | some .nvm => if off = 0x040 then d.nvCmd w v else d.plainWrite w p off v
  | some .mbox | some .locks => d.relayWrite w p off v
  | some .scrub => if off = 0x040 then d.scrubCtrlWrite w v else d.plainWrite w p off v
  | some .trial => if off = 0x040 then d.trialCmdWrite w v else d.plainWrite w p off v
  | some .mode => if off = 0x040 then d.commitWrite w v else d.plainWrite w p off v
  | _ => d.plainWrite w p off v

/-- A write to register `off` of page `p` whose effect stays within the device without its memories. -/
def Dev.regWrite (d : Dev) (w : Who) (p off : Nat) (v : Word) (x : Facts) : Dev :=
  if off < 0x040 then d.headerWrite w p off v else
  match kindOf p with
  | some .lrx | some .ltx | some .hrx | some .htx | some .pacer => d.laneWrite w p off v
  | some .squad => d.squadWrite w (sqOf p) off v
  | some .capture => if off = 0x040 then d.capCtrlWrite w v x.trigs else d.plainWrite w p off v
  | some .timekeeper | some .thermal | some .madc | some .filter | some .hdac => d.houseWrite w p off v
  | some .split | some .sub | some .fecLtx | some .fecLrx | some .fecHrx | some .fecHtx | some .framer => d.countWrite w p off v
  | _ => d.manageWrite w p off v

/-- A 32-bit write to register `off` of page `p`. -/
def State.regWrite (s : State) (w : Who) (p off : Nat) (v : Word) (x : Facts) : State :=
  if p = pCal ∧ off = 0x048 then s.calCmd w v
  else if p = pCap ∧ off = 0x124 then s.anaCtrlWrite w v
  else if p = pBoot ∧ off = 0x040 then s.bootCtrl w v x.jbad
  else if p = pBoot ∧ off = 0x050 then s.hostLoad w v
  else if p = pNvm ∧ off = 0x050 then s.lcReq w v (x.bad.map (·.val))
  else { s with dev := s.dev.regWrite w p off v x }

/-! Reads of registers -/

/-- The register at `off` of page `p` is the _LO word of a 64-bit value (R8, R49, R230). -/
def Dev.wideLo (d : Dev) (p off : Nat) : Bool :=
  match kindOf p with
  | some .referee => decide (off = 0x048 ∨ off = 0x068) || (decide (0x100 ≤ off ∧ off < 0x300) && off % 16 == 8)
  | some .timekeeper => decide (off = 0x048 ∨ off = 0x058 ∨ off = 0x068)
  | some .cal => decide (off = 0x078)
  | some .lrx | some .hrx =>
    decide (off = 0x088 ∨ off = 0x090 ∨ off = 0x098 ∨ off = 0x0A0 ∨ off = 0x0A8 ∨ off = 0x0B0) || (decide (off = 0x070) && kindOf p == some .lrx)
  | some .ltx => decide (off = 0x070)
  | some .pacer => decide (off = 0x090)
  | some .fecLtx => decide (0x100 ≤ off ∧ off < 0x180) && off % 8 == 0
  | some .fecLrx => decide (0x200 ≤ off ∧ off < 0x480) && (off - 0x200) % 0x50 % 8 == 0 && decide ((off - 0x200) % 0x50 < 0x48)
  | some .fecHrx | some .fecHtx => decide (0x100 ≤ off ∧ off < 0x200) && off % 8 == 0
  | some .framer => decide (0x200 ≤ off ∧ off < 0x300) && off % 8 == 0
  | some .squad => decide (off = 0x0C8)
  | some .capture => decide (off = 0x058)
  | some .scrub => decide (off = 0x058)
  | some .trial => decide (off = 0x060)
  | some .madc => decide (off = 0x068)
  | some .filter => decide (off = 0x128)
  | some .boot => decide (off = 0x060)
  | some .security => decide (off = 0x050)
  | some .split =>
    decide (0x600 ≤ off ∧ off < 0x800) && off % 8 == 0 && d.lg p ⟨0x400 + (off - 0x600) + 4, 15, 1⟩ == 1
  | _ => false

/-- The voted word that a register holds, if it is one of those read as registers (R322). -/
def votedReg (p off : Nat) : Option Nat :=
  if p = 0x07 ∧ off = 0x040 then some 0 else if p = 0x07 ∧ off = 0x044 then some 1
  else if p = 0x08 ∧ off = 0x044 then some 2 else none

/-- The word that a read by `w` returns: of a _HI word its matching read shadow, or what it shows (R49). -/
def Dev.readWord (d : Dev) (w : Who) (p off : Nat) : Word :=
  if 0x040 < off ∧ d.wideLo p (off - 4) then
    match d.readShadow w with
    | some (a, x) => if a = regAddr p (off - 4) then x else d.peek p off
    | none => d.peek p off
  else d.peek p off

/-- A read of a _LO word latches the high word (R49). -/
def Dev.latchHi (d : Dev) (w : Who) (p off : Nat) : Dev :=
  d.when (d.wideLo p off) (·.setReadShadow w (some (regAddr p off, d.peek p (off + 4))))

/-- What a read of a register does to the device: a suspended test (R436), the error of a memory word (R315, R316), a repaired voted
word (R323), the read shadow. -/
def Dev.readEffects (d : Dev) (w : Who) (p off : Nat) : Dev :=
  let loc := regAddr p off
  let d := d.latchHi w p off
  let d := d.when (w.mid.val != 3) (·.trialAccess loc)
  let d := d.when (regSpec p off).isSome (·.demandRead loc w.mid.val)
  match votedReg p off with
  | some i => d.voteRead i
  | none => d

/-- A 32-bit read of register `off` of page `p`. -/
def Dev.regRead (d : Dev) (w : Who) (p off : Nat) : Dev :=
  if p = pLocks ∧ 0x040 ≤ off ∧ off < 0x0C0 then d.lockRead w ((off - 0x040) / 4)
  else match d.readStatus w p off with
  | .ok =>
    let bad := (d.eccAt (regAddr p off)).uncorr && (regionOf (regAddr p off)).isSome
    { d.readEffects w p off with resp := ⟨if bad then .uncorr else .ok, [d.readWord w p off]⟩ }
  | e => { d with resp := ⟨e, [0]⟩ }

/-! Memories -/

def sizeBytes : Size → Nat
  | .byte => 1 | .half => 2 | .word => 4

/-- A Stride engine issues the access; the other accesses of a Squad come from its DMA channels, 64 + c (R49). -/
def isEngine (w : Who) : Bool := decide (16 ≤ w.mid.val) && decide (w.sub < 64)

/-- The management address that an engine reaches at `a` (R210). -/
def engineAddr (w : Who) (a : Nat) : Nat :=
  if isEngine w ∧ 0xF0000000 ≤ a ∧ a < 0xF0002000 then
    squadWindow (w.mid.val - 16) + 0x40000 + w.sub * 0x2000 + (a - 0xF0000000)
  else a

/-- How an access to a Squad window ends (R36, R207, R210, R217). -/
def Dev.windowStatus (d : Dev) (w : Who) (n off : Nat) (write : Bool) : Status :=
  let own := w.mid.val == 16 + n
  let host := w.mid.val == 1 || w.mid.val == 2
  let st := d.sqState (Fin.ofNat 16 n)
  if 0xC0000 ≤ off then .unmapped
  else if (!own && !host) || (write && decide (off < 0x40000)) then .denied
  else if st = sqOff then .off
  else if own || st == sqHalted || st == sqTrapped then .ok
  else .denied

/-- How an access to an address outside the register pages ends (R36, R39); a guest does not write
(R356). In DOZE nothing answers (R374). -/
def Dev.memStatus (d : Dev) (w : Who) (a : Nat) (write : Bool) : Status :=
  let doze := d.g 0x02 fPowerState == 2
  let e : Status :=
    if a < 0x00040000 then (if w.mid.val = 0 && !write then .ok else .denied)
    else if 0x00200000 ≤ a ∧ a < 0x00300000 then .ok
    else if 0x00400000 ≤ a ∧ a < 0x00600000 then (if d.powered 0x12 then .ok else .off)
    else if 0x01000000 ≤ a ∧ a < 0x02000000 then d.windowStatus w ((a - 0x01000000) / 0x00100000) (a % 0x00100000) write
    else if 0x02000000 ≤ a ∧ a < 0x02002000 then .ok
    else if 0x03000000 ≤ a ∧ a < 0x04000000 then (if write then .denied else .ok)
    else .unmapped
  if e = .unmapped then e else if write && guestAccess w then .denied else if e = .ok ∧ doze then .off else e

/-- The page and the offset of an address among the page slots. -/
def slotOf (a : Nat) : Option (Nat × Nat) :=
  if 0x00100000 ≤ a ∧ a < 0x00200000 then some ((a - 0x00100000) / 4096, a % 4096) else none

/-- The bits of a word that an access of a size at `a` covers. -/
def laneMask (a : Nat) (size : Size) : Word := BitVec.ofNat 32 (2 ^ (8 * sizeBytes size) - 1) <<< (8 * (a % 4))

/-- The word that holds `a`. -/
def State.memAt (s : State) (a : Nat) : Word :=
  let loc := a - a % 4
  if a < 0x00040000 then Config.bootRom (loc + 3) ++ Config.bootRom (loc + 2) ++ Config.bootRom (loc + 1) ++ Config.bootRom loc
  else s.word loc

def State.answer (s : State) (e : Status) (data : List Word) : State := { s with dev := { s.dev with resp := ⟨e, data⟩ } }

/-- An access to a memory address by a master: the Time trial gives way (R436), and the word read counts as a demand read (R315,
R316). -/
def State.touch (s : State) (w : Who) (a : Nat) (read : Bool) : State :=
  let loc := a - a % 4
  let d := s.dev.when (w.mid.val != 3) (·.trialAccess loc)
  { s with dev := d.when read (·.demandRead loc w.mid.val) }

/-- A word that reads uncorrectable (R316). -/
def Dev.badWord (d : Dev) (a : Nat) : Bool := (d.eccAt (a - a % 4)).uncorr && (regionOf (a - a % 4)).isSome

/-- A read of a memory (R316): the Coach takes a memory exception where the word is uncorrectable. -/
def State.memRead (s : State) (w : Who) (a : Nat) (size : Size) (bad : List Nat) : State :=
  let e := s.dev.memStatus w a false
  if e ≠ .ok then s.answer e [0] else
  let data := (s.memAt a &&& laneMask a size) >>> (8 * (a % 4))
  let wrong := s.dev.badWord a
  let t := (s.touch w a true).answer (if wrong then .uncorr else .ok) [data]
  if wrong && w.mid.val == 0 && s.dev.coachUp then t.coachException bad else t

/-- A write of a memory (R318): a full word replaces any error; a narrower write reads the word first and is discarded where it is
uncorrectable. -/
def State.memWrite (s : State) (w : Who) (a : Nat) (size : Size) (v : Word) : State :=
  let e := s.dev.memStatus w a true
  if e ≠ .ok then s.answer e [] else
  let loc := a - a % 4
  if size = .word then ((s.touch w a false).setWord loc v).answer .ok []
  else
    let t := s.touch w a true
    if s.dev.badWord a then t.answer .uncorr []
    else
      let m := laneMask a size
      (t.setWord loc ((s.word loc &&& ~~~ m) ||| ((v <<< (8 * (a % 4))) &&& m))).answer .ok []

/-! Accesses -/

/-- A read by a master. A register page takes aligned 32-bit accesses only (R37). -/
def State.busRead (s : State) (w : Who) (addr : Nat) (size : Size) (bad : List Nat) : State :=
  let a := engineAddr w addr
  match slotOf a with
  | some (p, off) =>
    if (kindOf p).isNone then s.answer .unmapped [0]
    else if size ≠ .word ∨ a % 4 ≠ 0 then s.answer .denied [0]
    else { s with dev := s.dev.regRead w p off }
  | none =>
    if a % sizeBytes size ≠ 0 then s.answer (if s.dev.memStatus w a false = .unmapped then .unmapped else .denied) [0]
    else s.memRead w a size bad

/-- A write by a master. -/
def State.busWrite (s : State) (w : Who) (addr : Nat) (size : Size) (v : Word) (x : Facts) : State :=
  let a := engineAddr w addr
  match slotOf a with
  | some (p, off) =>
    if (kindOf p).isNone then s.answer .unmapped []
    else if size ≠ .word ∨ a % 4 ≠ 0 then s.answer .denied []
    else s.regWrite w p off v x
  | none =>
    if a % sizeBytes size ≠ 0 then s.answer (if s.dev.memStatus w a true = .unmapped then .unmapped else .denied) []
    else s.memWrite w a size v

/-- The trap of an engine whose access has ended otherwise than OK (R212, R316). -/
def State.engineOutcome (s : State) (w : Who) (addr pc : Word) : State :=
  if !isEngine w then s else
  let n : Sq := Fin.ofNat 16 (w.mid.val - 16)
  match s.dev.resp.status with
  | .ok => s
  | .uncorr => { s with dev := s.dev.engineTrap n w.sub 3 pc addr }
  | _ => { s with dev := s.dev.engineTrap n w.sub 5 pc addr }

/-- An engine access that is not aligned to its size traps before anything else (R212). -/
def misaligned (w : Who) (addr : Word) (size : Size) : Bool := isEngine w && addr.toNat % sizeBytes size != 0

def State.alignTrap (s : State) (w : Who) (addr pc : Word) : State :=
  { s with dev := s.dev.engineTrap (Fin.ofNat 16 (w.mid.val - 16)) w.sub 4 pc addr }

/-- A write by any master with its consequences for an engine. -/
def State.masterWrite (s : State) (w : Who) (addr : Word) (size : Size) (v : Word) (x : Facts) : State :=
  if misaligned w addr size then s.alignTrap w addr x.pc
  else (s.busWrite w addr.toNat size v x).engineOutcome w addr x.pc

/-- A read by any master with its consequences for an engine. -/
def State.masterRead (s : State) (w : Who) (addr : Word) (size : Size) (pc : Word) (bad : List Nat) : State :=
  if misaligned w addr size then s.alignTrap w addr pc
  else (s.busRead w addr.toNat size bad).engineOutcome w addr pc

/-- A demand read (R316). Hardware of the lanes, the coding path and the filter uses the data as read. -/
def State.demand (s : State) (c : Consumer) (bad : List Nat) : State :=
  match c with
  | .master w addr size pc => s.masterRead w addr size pc bad
  | .fetch n e off =>
    if !s.dev.sqRuns n then s else
    let a := squadWindow n.val + (off.val - off.val % 4)
    let wrong := s.dev.badWord a
    let t := { s with dev := s.dev.demandRead a (sqMaster n) }
    if wrong then { t with dev := t.dev.engineTrap n e.val 2 (BitVec.ofNat 32 a) (BitVec.ofNat 32 a) } else t
  | .hardware loc =>
    match regionOf loc with
    | some (r, p) => if 20 ≤ r ∧ s.dev.running p then { s with dev := s.dev.demandRead loc 0xFF } else s
    | none => s

/-! DMA (R215, R216) -/

/-- The transfer is one that a channel can make: aligned to 4 bytes and of at most 64 KiB. -/
def dmaOk (m : DmaMove) : Bool :=
  m.src.toNat % 4 == 0 && m.dst.toNat % 4 == 0 && m.srcStep % 4 == 0 && m.dstStep % 4 == 0 && decide (4 * m.words * m.rows ≤ 0x10000)

/-- The source and the destination of each word, in order. -/
def dmaPairs (m : DmaMove) : List (Nat × Nat) :=
  (List.range m.rows).flatMap fun r => (List.range m.words).map fun k =>
    ((m.src.toNat + r * m.srcStep + 4 * k) % 2 ^ 32, (m.dst.toNat + r * m.dstStep + 4 * k) % 2 ^ 32)

/-- Channel `c` of Squad `n` as an agent. -/
def dmaWho (n : Sq) (c : Fin 4) : Who := ⟨Fin.ofNat 32 (sqMaster n), 64 + c.val, false⟩

/-- A channel halts at an address (R216). -/
def Dev.dmaHalt (d : Dev) (n : Sq) (c : Fin 4) (cause addr : Nat) : Dev :=
  let p := pSquad n
  (((d.s p (fDmaState c.val) 2).s p (fDmaCause c.val) cause).wr p (0x080 + 4 * c.val) (BitVec.ofNat 32 addr)).raise p 1

/-- One word of a transfer: the state after it, and whether the channel goes on. -/
def State.dmaWord (s : State) (n : Sq) (c : Fin 4) (src dst : Nat) : State × Bool :=
  let w := dmaWho n c
  let s := s.busRead w src .word []
  match s.dev.resp.status with
  | .ok =>
    let t := s.busWrite w dst .word (s.dev.resp.data.headD 0) noFacts
    if t.dev.resp.status = .ok then (t, true) else ({ t with dev := t.dev.dmaHalt n c 2 dst }, false)
  | .uncorr => ({ s with dev := s.dev.dmaHalt n c 1 src }, false)
  | _ => ({ s with dev := s.dev.dmaHalt n c 2 src }, false)

/-- A transfer on an idle channel of a running Squad: word by word up to the first that fails. -/
def State.dmaTransfer (s : State) (n : Sq) (c : Fin 4) (m : DmaMove) : State :=
  if !s.dev.sqRuns n || s.dev.g (pSquad n) (fDmaState c.val) != 0 || !dmaOk m then s else
  let r := (dmaPairs m).foldl (fun (r : State × Bool) x => if r.2 then r.1.dmaWord n c x.1 x.2 else r) (s, true)
  { r.1 with dev := { r.1.dev with resp := s.dev.resp } }

/-! The meanings -/

/-- REG_WRITE (R5, R39). -/
def execRegWrite (w : Who) (addr : Word) (size : Size) (v : Word) (x : Facts) (s : State) : Out :=
  actState s (·.masterWrite w addr size v x)
/-- SHADOW_WRITE (R46). -/
def execShadowWrite (w : Who) (p : Fin 256) (r : Fin 1024) (v : Word) (s : State) : Out :=
  actState s (·.regWrite w p.val (4 * r.val) v noFacts)
/-- WIDE_READ_LO (R49). -/
def execWideReadLo (w : Who) (p : Fin 256) (r : Fin 1024) (s : State) : Out := act s (·.regRead w p.val (4 * r.val))
/-- WIDE_READ_HI (R49). -/
def execWideReadHi (w : Who) (p : Fin 256) (r : Fin 1024) (s : State) : Out := act s (·.regRead w p.val (4 * r.val))
/-- WIDE_WRITE_LO (R51). -/
def execWideWriteLo (w : Who) (p : Fin 256) (r : Fin 1024) (v : Word) (s : State) : Out :=
  actState s (·.regWrite w p.val (4 * r.val) v noFacts)
/-- WIDE_WRITE_HI (R51). -/
def execWideWriteHi (w : Who) (p : Fin 256) (r : Fin 1024) (v : Word) (s : State) : Out :=
  actState s (·.regWrite w p.val (4 * r.val) v noFacts)
/-- HOST_MEMORY_READ (R316). -/
def execHostMemoryRead (c : Consumer) (bad : List (Fin 2)) (s : State) : Out := actState s (·.demand c (bad.map (·.val)))
/-- DMA_TRANSFER (R215, R216). -/
def execDmaTransfer (n : Sq) (c : Fin 4) (m : DmaMove) (s : State) : Out := actStateOn (pSquad n) s (·.dmaTransfer n c m)

end Sys2Proof.Machine
end

