-- ==== Sys2Proof/Machine/Links.lean ====
section
/-! DEFINITION. The management links: the SPI target (R343 to R348), the Baton bus (R349 to R357), and the TAP (R456, R458). -/

namespace Sys2Proof.Machine

def pSpi : Nat := 0x0C
def pBaton : Nat := 0x0D

/-- The links serve frames: not in DOZE (R348), nor while the boundary register controls the balls (R456). -/
def Dev.linkUp (d : Dev) : Bool := d.g 0x02 fPowerState != 2 && !d.tapHolds

/-! Status bytes (R345) -/

def outcomeCode : Status → Nat
  | .ok => 0 | .off => 1 | .uncorr => 2 | .denied => 3 | .unmapped => 4

/-- A status byte as sent by a link whose pending event is `evt`. -/
def Dev.statusByte (d : Dev) (err late evt : Bool) (outcome : Nat) : Byte :=
  BitVec.ofNat 8 (128 * bit err + 64 * bit late + 32 * bit evt + 16 * bit d.faultN + 8 * bit (d.g pBoot fBootMode == mWalk) + outcome)

/-- What the words of a frame leave: the first word whose outcome was not OK, and the words read. -/
structure FrameRun where
  first : Option (Nat × Nat)
  words : List Word
  deriving DecidableEq, Repr

/-- The outcome of the access just made joins the run. -/
def FrameRun.add (r : FrameRun) (resp : Resp) (addr : Nat) : FrameRun :=
  { first := r.first.or (if resp.status = .ok then none else some (outcomeCode resp.status, addr)), words := r.words ++ resp.data }

/-- Word `k` of a frame (R344). -/
def wordAddr (addr : Word) (k : Nat) : Nat := (addr.toNat + 4 * k) % 2 ^ 32

/-- The words of a frame are written one by one, each an access of its own (R344, R346). -/
def State.frameWrite (s : State) (w : Who) (addr : Word) (ws : List Word) (x : Facts) : State × FrameRun :=
  (List.range ws.length).foldl (fun (t : State × FrameRun) k =>
    let u := t.1.busWrite w (wordAddr addr k) .word (ws.getD k 0) x
    (u, t.2.add u.dev.resp (wordAddr addr k))) (s, ⟨none, []⟩)

/-- Words of a frame are read one by one. -/
def State.frameRead (s : State) (w : Who) (addr : Word) (n : Nat) : State × FrameRun :=
  (List.range n).foldl (fun (t : State × FrameRun) k =>
    let u := t.1.busRead w (wordAddr addr k) .word []
    (u, t.2.add u.dev.resp (wordAddr addr k))) (s, ⟨none, []⟩)

/-! SPI -/

def spiWho : Who := ⟨1, 0, false⟩

/-- A frame that performs its accesses (R346): a CMD of R344, sixteen words at most, an aligned address. -/
def spiGood (h : SpiHead) : Bool := h.header && decide (h.len.toNat ≤ 15) && h.addr.toNat % 4 == 0

/-- A frame ends: its status byte and the counters (R345, R370). -/
def Dev.spiEnd (d : Dev) (err late : Bool) (r : FrameRun) : Dev :=
  let d := d.settle
  let st := d.statusByte err late d.intLow ((r.first.map (·.1)).getD 0)
  let d := (d.inc pSpi 0x04C).wr pSpi 0x044 (st.zeroExtend 32)
  let d := match r.first with
    | some (_, a) => d.wr pSpi 0x048 (BitVec.ofNat 32 a)
    | none => d
  let d := (d.when err (·.inc pSpi 0x050)).when late (·.inc pSpi 0x054)
  { (d.raiseIf err pSpi 0).raiseIf late pSpi 1 with spiReply := ⟨st, r.words⟩ }

/-- A WRITE frame; `cut`: CS_N rose before its last word was complete (R346). -/
def State.spiWrite (s : State) (h : SpiHead) (ws : List Word) (cut : Bool) (x : Facts) : State :=
  if !s.dev.linkUp then s
  else if !spiGood h then { s with dev := s.dev.spiEnd true false ⟨none, []⟩ }
  else
    let n := h.len.toNat + 1
    let r := s.frameWrite spiWho h.addr (ws.take n) x
    { r.1 with dev := r.1.dev.spiEnd (cut || decide (ws.length < n)) false { r.2 with words := [] } }

/-- A READ frame; `cut`: it ended early, having begun that many words; `late`: the first word that was not ready in time, whose access
is the last (R346, R347). -/
def State.spiRead (s : State) (h : SpiHead) (cut late : Option Nat) : State :=
  if !s.dev.linkUp then s
  else if !spiGood h then { s with dev := s.dev.spiEnd true false ⟨none, []⟩ }
  else
    let n := h.len.toNat + 1
    let k := min n (cut.getD n)
    let l := (late.map (min k)).getD k
    let r := s.frameRead spiWho h.addr l
    let isLate := decide (l < k)
    let t := if isLate then r.1.busRead spiWho (wordAddr h.addr l) .word [] else r.1
    { t with dev := t.dev.spiEnd cut.isSome isLate { r.2 with words := r.2.words ++ List.replicate (k - l) 0 } }

/-! Baton -/

def batonWho (guest : Bool) : Who := ⟨2, 0, guest⟩

/-- The bytes of a request from A to the last data byte (R351). -/
def batonBytes (f : BatonFrame) : List Byte :=
  [f.a, BitVec.ofNat 8 (16 * f.typ.toNat + 8 * bit f.guest + f.tag.toNat), f.l] ++ beBytes 4 f.addr.toNat ++ f.data.flatMap fun w => beBytes 4 w.toNat

/-- A frame error is counted (R352, R371). -/
def Dev.batonErr (d : Dev) : Dev := (d.inc pBaton 0x060).raise pBaton 1

/-- A request of type `typ` whose CRC is good, whose bits are in order, and whose L fits its type (R352). -/
def batonForm (typ : Nat) (f : BatonFrame) : Bool :=
  f.typ.toNat == typ && !f.a.getLsbD 7 &&
    (match typ with
     | 1 => decide (f.l.toNat ≤ 15) && f.data.length == f.l.toNat + 1
     | 2 => decide (f.l.toNat ≤ 15) && f.data.isEmpty
     | _ => f.l.toNat == 0 && f.data.isEmpty)

/-- A request leaves a response to be sent. -/
def Dev.batonHold (d : Dev) (f : BatonFrame) (poll err : Bool) (r : FrameRun) : Dev :=
  let d := match r.first with
    | some (_, a) => d.wr pBaton 0x050 (BitVec.ofNat 32 a)
    | none => d
  { d with baton := some ⟨f.tag.toNat, poll, err, (r.first.map (·.1)).getD 0, r.words⟩ }

/-- A request that reaches the device, unicast or not (R352, R355, R356). -/
def State.batonServe (s : State) (typ : Nat) (f : BatonFrame) (x : Facts) : State :=
  let w := batonWho f.guest
  let uni := decide (f.a.toNat < 0x40)
  let s := { s with dev := s.dev.inc pBaton 0x058 }
  if f.addr.toNat % 4 ≠ 0 then
    let d := s.dev.batonErr
    { s with dev := if uni then d.batonHold f false true ⟨none, []⟩ else d }
  else if typ = 1 then
    let r := s.frameWrite w f.addr f.data x
    let d := r.1.dev
    { r.1 with dev := if uni then d.batonHold f false false { r.2 with words := [] } else match r.2.first with
        | some (_, a) => d.wr pBaton 0x050 (BitVec.ofNat 32 a)
        | none => d }
  else if typ = 2 ∧ !uni then { s with dev := s.dev.batonErr }
  else
    let r := s.frameRead w f.addr (f.l.toNat + 1)
    { r.1 with dev := r.1.dev.batonHold f (!uni) false r.2 }

/-- A request arrives (R351 to R353): a violation or a bad form is a frame error, a failed CRC discards the frame. -/
def State.batonRequest (s : State) (typ : Nat) (f : BatonFrame) (x : Facts) : State :=
  if !s.dev.linkUp then s
  else if f.violation then { s with dev := s.dev.batonErr }
  else if f.crc ≠ crc16 (batonBytes f) then { s with dev := (s.dev.inc pBaton 0x05C).raise pBaton 0 }
  else if !batonForm typ f then { s with dev := s.dev.batonErr }
  else if !s.dev.batonReaches f.a.toNat then s
  else s.batonServe typ f x

/-- A response is sent (R351, R371). -/
def Dev.batonSend (d : Dev) (st : Byte) (words : List Word) : Dev :=
  { (d.inc pBaton 0x064).wr pBaton 0x04C (st.zeroExtend 32) with batonReply := ⟨st, words⟩, baton := none }

/-- A late response: no data, and the outcome of the accesses in LATE_STATUS (R354, R355). -/
def Dev.batonLate (d : Dev) (r : BatonReq) : Dev :=
  let st := d.statusByte r.err true d.batonEvt 0
  let d := (d.batonSend st []).wr pBaton 0x054 ((d.statusByte r.err true d.batonEvt r.outcome).zeroExtend 32)
  (d.inc pBaton 0x068).raise pBaton 2

/-- The response that waits is sent, of a POLL slot or of a unicast request; late where the accesses are not complete. -/
def Dev.batonRespond (d : Dev) (poll late : Bool) : Dev :=
  if !d.linkUp then d else
  match d.baton with
  | none => d
  | some r =>
    if r.poll != poll then d
    else if late then d.batonLate r
    else d.batonSend (d.statusByte r.err false d.batonEvt r.outcome) r.words

/-! TAP -/

/-- A change of the TAP's instruction. Where the boundary register takes the balls, traffic stops; where it gives them back, lanes
restart from SEEK (R456, R458). In DOZE the TAP is held in Test-Logic-Reset (R447). -/
def Dev.tapTo (d : Dev) (i : TapInstr) : Dev :=
  if d.g 0x02 fPowerState = 2 then d else
  let old := d.tapHolds
  let d := { d with tap := i }
  d.when (old != d.tapHolds) (·.eachLane fun n d => (d.laneRestart n 1).hostRestart n)

/-- The TAP works in reset also; there are no lanes to restart then. -/
def tapAlone (i : TapInstr) (d : Dev) : Dev := if d.life = .held then { d with tap := i } else d

/-! The meanings -/

/-- SPI_WRITE (R344 to R346). -/
def execSpiWrite (h : SpiHead) (ws : List Word) (cut : Bool) (x : Facts) (s : State) : Out := actState s (·.spiWrite h ws cut x)
/-- SPI_READ (R344 to R347). -/
def execSpiRead (h : SpiHead) (cut late : Option Nat) (s : State) : Out := actState s (·.spiRead h cut late)
/-- BATON_WRITE (R352). -/
def execBatonWrite (f : BatonFrame) (x : Facts) (s : State) : Out := actState s (·.batonRequest 1 f x)
/-- BATON_READ (R352). -/
def execBatonRead (f : BatonFrame) (s : State) : Out := actState s (·.batonRequest 2 f noFacts)
/-- BATON_POLL (R355). -/
def execBatonPoll (f : BatonFrame) (s : State) : Out := actState s (·.batonRequest 3 f noFacts)
/-- BATON_RESPONSE (R354). -/
def execBatonResponse (s : State) : Out := act s (·.batonRespond false false)
/-- BATON_RESP_TIMEOUT (R354). -/
def execBatonRespTimeout (s : State) : Out := act s (·.batonRespond false true)
/-- POLL_SLOT (R355): the member's slot; `late` where its access is not complete. -/
def execPollSlot (late : Bool) (s : State) : Out := act s (·.batonRespond true late)
/-- TAP_INSTRUCTION (R456). -/
def execTapInstruction (i : TapInstr) (s : State) : Out := actPin s (·.tapTo i) (tapAlone i)
/-- TAP_RESET (R458). -/
def execTapReset (s : State) : Out := actPin s (·.tapTo .idcode) (tapAlone .idcode)

end Sys2Proof.Machine
end

