-- ==== Sys2Proof/Machine/Dispatch.lean ====
section
/-! DEFINITION. The effect of each command. -/

namespace Sys2Proof.Machine

-- One arm per row of spec/opcode_table.json, in the order of the table.
def exec (i : Instr) (s : State) : Host.Outcome State Fault Refusal :=
  match i with
  | .regWrite w addr size v x => Sys2Proof.Machine.execRegWrite w addr size v x s
  | .shadowWrite w p r v => Sys2Proof.Machine.execShadowWrite w p r v s
  | .softRst w p v => Sys2Proof.Machine.execSoftRst w p v s
  | .softResetComplete p => Sys2Proof.Machine.execSoftResetComplete p s
  | .clkOff w p v => Sys2Proof.Machine.execClkOff w p v s
  | .wlock w p v => Sys2Proof.Machine.execWlock w p v s
  | .evtStatusClear w p v => Sys2Proof.Machine.execEvtStatusClear w p v s
  | .evtForce w p v => Sys2Proof.Machine.execEvtForce w p v s
  | .arm w p v => Sys2Proof.Machine.execArm w p v s
  | .commit w v => Sys2Proof.Machine.execCommit w v s
  | .commitDecide => Sys2Proof.Machine.execCommitDecide s
  | .commitDeadline => Sys2Proof.Machine.execCommitDeadline s
  | .commitGate p base => Sys2Proof.Machine.execCommitGate p base s
  | .wideReadLo w p r => Sys2Proof.Machine.execWideReadLo w p r s
  | .wideReadHi w p r => Sys2Proof.Machine.execWideReadHi w p r s
  | .wideWriteLo w p r v => Sys2Proof.Machine.execWideWriteLo w p r v s
  | .wideWriteHi w p r v => Sys2Proof.Machine.execWideWriteHi w p r v s
  | .lrxEnSet w n v => Sys2Proof.Machine.execLrxEnSet w n v s
  | .lrxEnClear w n v => Sys2Proof.Machine.execLrxEnClear w n v s
  | .sigDet sd n => Sys2Proof.Machine.execSigDet sd n s
  | .los sd n => Sys2Proof.Machine.execLos sd n s
  | .cdrLock sd n freq phase => Sys2Proof.Machine.execCdrLock sd n freq phase s
  | .cdrUnlock sd n freq => Sys2Proof.Machine.execCdrUnlock sd n freq s
  | .freqRange sd n high => Sys2Proof.Machine.execFreqRange sd n high s
  | .cdrLossTimeout sd n => Sys2Proof.Machine.execCdrLossTimeout sd n s
  | .agcDone sd n gain peak snr => Sys2Proof.Machine.execAgcDone sd n gain peak snr s
  | .clipWindowEnd n count => Sys2Proof.Machine.execClipWindowEnd n count s
  | .adcCalRun w n v => Sys2Proof.Machine.execAdcCalRun w n v s
  | .calRunStart n => Sys2Proof.Machine.execCalRunStart n s
  | .calObservationEnd n targets => Sys2Proof.Machine.execCalObservationEnd n targets s
  | .calApply n => Sys2Proof.Machine.execCalApply n s
  | .prbsLock sd n => Sys2Proof.Machine.execPrbsLock sd n s
  | .prbsLockLost sd n => Sys2Proof.Machine.execPrbsLockLost sd n s
  | .prbsErr sd n bits errBits errSyms => Sys2Proof.Machine.execPrbsErr sd n bits errBits errSyms s
  | .cntOvf sd n bits errBits errSyms => Sys2Proof.Machine.execCntOvf sd n bits errBits errSyms s
  | .prbsSnap sd w n v => Sys2Proof.Machine.execPrbsSnap sd w n v s
  | .prbsClr sd w n v => Sys2Proof.Machine.execPrbsClr sd w n v s
  | .peakSearchDwellEnd n snr => Sys2Proof.Machine.execPeakSearchDwellEnd n snr s
  | .trainTimeout n => Sys2Proof.Machine.execTrainTimeout n s
  | .laneFaultDwellEnd n => Sys2Proof.Machine.execLaneFaultDwellEnd n s
  | .pacerCycle n b => Sys2Proof.Machine.execPacerCycle n b s
  | .handoffStart n => Sys2Proof.Machine.execHandoffStart n s
  | .handoffStep n => Sys2Proof.Machine.execHandoffStep n s
  | .handoffDone n => Sys2Proof.Machine.execHandoffDone n s
  | .holdReq w n v => Sys2Proof.Machine.execHoldReq w n v s
  | .pacerAuto w n v => Sys2Proof.Machine.execPacerAuto w n v s
  | .pacerSwap w n v => Sys2Proof.Machine.execPacerSwap w n v s
  | .pacerRestart w n v => Sys2Proof.Machine.execPacerRestart w n v s
  | .paceCfgWrite w n v => Sys2Proof.Machine.execPaceCfgWrite w n v s
  | .paceUnitsReady n => Sys2Proof.Machine.execPaceUnitsReady n s
  | .paceApplied n => Sys2Proof.Machine.execPaceApplied n s
  | .ltxEnSet w n v => Sys2Proof.Machine.execLtxEnSet w n v s
  | .ltxEnClear w n v => Sys2Proof.Machine.execLtxEnClear w n v s
  | .ltxStartPowered n => Sys2Proof.Machine.execLtxStartPowered n s
  | .unsquelchRampStep sd n => Sys2Proof.Machine.execUnsquelchRampStep sd n s
  | .unsquelchRampEnd sd n => Sys2Proof.Machine.execUnsquelchRampEnd sd n s
  | .squelchReq sd w n v => Sys2Proof.Machine.execSquelchReq sd w n v s
  | .followClr w n v => Sys2Proof.Machine.execFollowClr w n v s
  | .outFault sd n => Sys2Proof.Machine.execOutFault sd n s
  | .fadeCopyDone n => Sys2Proof.Machine.execFadeCopyDone n s
  | .fadeStart n => Sys2Proof.Machine.execFadeStart n s
  | .fadeStep n => Sys2Proof.Machine.execFadeStep n s
  | .fadeDone n => Sys2Proof.Machine.execFadeDone n s
  | .skewFineStep n => Sys2Proof.Machine.execSkewFineStep n s
  | .swingSlewStep n => Sys2Proof.Machine.execSwingSlewStep n s
  | .dacCalRun w n v => Sys2Proof.Machine.execDacCalRun w n v s
  | .ltxCalStart n => Sys2Proof.Machine.execLtxCalStart n s
  | .ltxCalObservationEnd n counts targets => Sys2Proof.Machine.execLtxCalObservationEnd n counts targets s
  | .ltxCalApply n => Sys2Proof.Machine.execLtxCalApply n s
  | .ltxCalRetry n => Sys2Proof.Machine.execLtxCalRetry n s
  | .ltxClipWindowEnd n ss => Sys2Proof.Machine.execLtxClipWindowEnd n ss s
  | .errInj sd w n v => Sys2Proof.Machine.execErrInj sd w n v s
  | .innerEncode n bits => Sys2Proof.Machine.execInnerEncode n bits s
  | .innerCodewordDecode n soft => Sys2Proof.Machine.execInnerCodewordDecode n soft s
  | .cwLock n offset => Sys2Proof.Machine.execCwLock n offset s
  | .cwLockLost n => Sys2Proof.Machine.execCwLockLost n s
  | .innerFailThr n fails => Sys2Proof.Machine.execInnerFailThr n fails s
  | .amLock n => Sys2Proof.Machine.execAmLock n s
  | .amLost n => Sys2Proof.Machine.execAmLost n s
  | .hostRsDecode n data errs => Sys2Proof.Machine.execHostRsDecode n data errs s
  | .lapStart n lat => Sys2Proof.Machine.execLapStart n lat s
  | .lapHeaderReceived n h spaced arrival latRx => Sys2Proof.Machine.execLapHeaderReceived n h spaced arrival latRx s
  | .rsCodewordDecode n fs errs slot23 => Sys2Proof.Machine.execRsCodewordDecode n fs errs slot23 s
  | .rateMatchBlock n b taken => Sys2Proof.Machine.execRateMatchBlock n b taken s
  | .tuneWindowEnd n => Sys2Proof.Machine.execTuneWindowEnd n s
  | .codingCntClr w p v => Sys2Proof.Machine.execCodingCntClr w p v s
  | .hrxEnSet w n v => Sys2Proof.Machine.execHrxEnSet w n v s
  | .hrxEnClear w n v => Sys2Proof.Machine.execHrxEnClear w n v s
  | .htxEnSet w n v => Sys2Proof.Machine.execHtxEnSet w n v s
  | .htxEnClear w n v => Sys2Proof.Machine.execHtxEnClear w n v s
  | .htxStartPowered n => Sys2Proof.Machine.execHtxStartPowered n s
  | .warmupFrameReceived n syms spaced => Sys2Proof.Machine.execWarmupFrameReceived n syms spaced s
  | .warmupFrameStart n => Sys2Proof.Machine.execWarmupFrameStart n s
  | .warmupTapUpdate n => Sys2Proof.Machine.execWarmupTapUpdate n s
  | .searchMeasureEnd n snr => Sys2Proof.Machine.execSearchMeasureEnd n snr s
  | .reqTimeout n => Sys2Proof.Machine.execReqTimeout n s
  | .handover n ms => Sys2Proof.Machine.execHandover n ms s
  | .staticAccept n snr ms => Sys2Proof.Machine.execStaticAccept n snr ms s
  | .attemptTimerExpiry n => Sys2Proof.Machine.execAttemptTimerExpiry n s
  | .hostFaultDwellEnd n => Sys2Proof.Machine.execHostFaultDwellEnd n s
  | .hostTableRefresh n snr => Sys2Proof.Machine.execHostTableRefresh n snr s
  | .hostFfeLmsUpdate n signs => Sys2Proof.Machine.execHostFfeLmsUpdate n signs s
  | .hostGateWindow n b => Sys2Proof.Machine.execHostGateWindow n b s
  | .htxFirRampStep n => Sys2Proof.Machine.execHtxFirRampStep n s
  | .htxSwingSlewStep n => Sys2Proof.Machine.execHtxSwingSlewStep n s
  | .refActivityLoss r => Sys2Proof.Machine.execRefActivityLoss r s
  | .refFreqCheck r count => Sys2Proof.Machine.execRefFreqCheck r count s
  | .refOk r ppm => Sys2Proof.Machine.execRefOk r ppm s
  | .pllUnlock k => Sys2Proof.Machine.execPllUnlock k s
  | .synthGlideEnd sd n => Sys2Proof.Machine.execSynthGlideEnd sd n s
  | .rclkCfgWrite w k v => Sys2Proof.Machine.execRclkCfgWrite w k v s
  | .squadHaltReq w n v => Sys2Proof.Machine.execSquadHaltReq w n v s
  | .squadHalted n => Sys2Proof.Machine.execSquadHalted n s
  | .squadRun w n v => Sys2Proof.Machine.execSquadRun w n v s
  | .engineTrap n e cause pc addr => Sys2Proof.Machine.execEngineTrap n e cause pc addr s
  | .engineWatchdog n e pc => Sys2Proof.Machine.execEngineWatchdog n e pc s
  | .autoRecover n => Sys2Proof.Machine.execAutoRecover n s
  | .dmaTransfer n c m => Sys2Proof.Machine.execDmaTransfer n c m s
  | .dmaClr w n v => Sys2Proof.Machine.execDmaClr w n v s
  | .reloadGo w n => Sys2Proof.Machine.execReloadGo w n s
  | .reloadStart n => Sys2Proof.Machine.execReloadStart n s
  | .reloadVerify n id => Sys2Proof.Machine.execReloadVerify n id s
  | .reloadDone n => Sys2Proof.Machine.execReloadDone n s
  | .lend w n v => Sys2Proof.Machine.execLend w n v s
  | .lendRelease n => Sys2Proof.Machine.execLendRelease n s
  | .squadIdent w n tag => Sys2Proof.Machine.execSquadIdent w n tag s
  | .stats w n tag => Sys2Proof.Machine.execStats w n tag s
  | .exclude w n tag => Sys2Proof.Machine.execExclude w n tag s
  | .include w n tag => Sys2Proof.Machine.execInclude w n tag s
  | .engMap w n tag => Sys2Proof.Machine.execEngMap w n tag s
  | .cmdDone n util longest skipped => Sys2Proof.Machine.execCmdDone n util longest skipped s
  | .cmdTimeout n => Sys2Proof.Machine.execCmdTimeout n s
  | .splitClr w v => Sys2Proof.Machine.execSplitClr w v s
  | .cntWrite w k v => Sys2Proof.Machine.execCntWrite w k v s
  | .splitCntWrap k n => Sys2Proof.Machine.execSplitCntWrap k n s
  | .bwWinWrite w v => Sys2Proof.Machine.execBwWinWrite w v s
  | .bwWindowEnd bytes => Sys2Proof.Machine.execBwWindowEnd bytes s
  | .tagInstruction t => Sys2Proof.Machine.execTagInstruction t s
  | .tagClr w => Sys2Proof.Machine.execTagClr w s
  | .captureStart w => Sys2Proof.Machine.execCaptureStart w s
  | .captureRelease w => Sys2Proof.Machine.execCaptureRelease w s
  | .captureAbort w => Sys2Proof.Machine.execCaptureAbort w s
  | .swTrig w ts => Sys2Proof.Machine.execSwTrig w ts s
  | .triggerCondition ts => Sys2Proof.Machine.execTriggerCondition ts s
  | .trigInEdge rising ts => Sys2Proof.Machine.execTrigInEdge rising ts s
  | .autoTriggerTimeout ts => Sys2Proof.Machine.execAutoTriggerTimeout ts s
  | .trigOutPulseEnd => Sys2Proof.Machine.execTrigOutPulseEnd s
  | .capDone xs => Sys2Proof.Machine.execCapDone xs s
  | .skewRun w => Sys2Proof.Machine.execSkewRun w s
  | .skewCalDone vals => Sys2Proof.Machine.execSkewCalDone vals s
  | .anaGo w => Sys2Proof.Machine.execAnaGo w s
  | .anaEnd eye halt => Sys2Proof.Machine.execAnaEnd eye halt s
  | .anaClear w => Sys2Proof.Machine.execAnaClear w s
  | .thermalReading raws => Sys2Proof.Machine.execThermalReading raws s
  | .sensClr w v => Sys2Proof.Machine.execSensClr w v s
  | .calTempCheck => Sys2Proof.Machine.execCalTempCheck s
  | .calCmdRun w v => Sys2Proof.Machine.execCalCmdRun w v s
  | .store w v => Sys2Proof.Machine.execStore w v s
  | .restorePrev w v => Sys2Proof.Machine.execRestorePrev w v s
  | .reloadStore w v => Sys2Proof.Machine.execReloadStore w v s
  | .storeDue => Sys2Proof.Machine.execStoreDue s
  | .storeWriteDone bad => Sys2Proof.Machine.execStoreWriteDone bad s
  | .madcEn w u v => Sys2Proof.Machine.execMadcEn w u v s
  | .madcCorePowered u => Sys2Proof.Machine.execMadcCorePowered u s
  | .madcStart w u v => Sys2Proof.Machine.execMadcStart w u v s
  | .madcStop w u v => Sys2Proof.Machine.execMadcStop w u v s
  | .madcPassStart u late => Sys2Proof.Machine.execMadcPassStart u late s
  | .madcConversionEnd u x => Sys2Proof.Machine.execMadcConversionEnd u x s
  | .urgReq w u v => Sys2Proof.Machine.execUrgReq w u v s
  | .urgDone u x => Sys2Proof.Machine.execUrgDone u x s
  | .madcOffsetRunStart => Sys2Proof.Machine.execMadcOffsetRunStart s
  | .madcOffsetRunEnd u target => Sys2Proof.Machine.execMadcOffsetRunEnd u target s
  | .syncInEdge rising => Sys2Proof.Machine.execSyncInEdge rising s
  | .filterReset w v => Sys2Proof.Machine.execFilterReset w v s
  | .filterOutput c live new => Sys2Proof.Machine.execFilterOutput c live new s
  | .hdacTick c => Sys2Proof.Machine.execHdacTick c s
  | .hdacCodeWrite w c v => Sys2Proof.Machine.execHdacCodeWrite w c v s
  | .spanHoldEnd c => Sys2Proof.Machine.execSpanHoldEnd c s
  | .spanSwitchDone c => Sys2Proof.Machine.execSpanSwitchDone c s
  | .swClr w v => Sys2Proof.Machine.execSwClr w v s
  | .dacClrNFall => Sys2Proof.Machine.execDacClrNFall s
  | .dacClrNRise => Sys2Proof.Machine.execDacClrNRise s
  | .scrubWord => Sys2Proof.Machine.execScrubWord s
  | .scrubPeriodEnd => Sys2Proof.Machine.execScrubPeriodEnd s
  | .scrubRestart w v => Sys2Proof.Machine.execScrubRestart w v s
  | .scrubClr w v => Sys2Proof.Machine.execScrubClr w v s
  | .hostMemoryRead c bad => Sys2Proof.Machine.execHostMemoryRead c bad s
  | .coachMemoryException loc bad => Sys2Proof.Machine.execCoachMemoryException loc bad s
  | .refereeEvent p src => Sys2Proof.Machine.execRefereeEvent p src s
  | .reactionEnd p src => Sys2Proof.Machine.execReactionEnd p src s
  | .watchWindowClose idx w => Sys2Proof.Machine.execWatchWindowClose idx w s
  | .watchCfgWrite who idx w win v => Sys2Proof.Machine.execWatchCfgWrite who idx w win v s
  | .logClr w v => Sys2Proof.Machine.execLogClr w v s
  | .firstClr w v => Sys2Proof.Machine.execFirstClr w v s
  | .spiWrite h ws cut x => Sys2Proof.Machine.execSpiWrite h ws cut x s
  | .spiRead h cut late => Sys2Proof.Machine.execSpiRead h cut late s
  | .batonWrite f x => Sys2Proof.Machine.execBatonWrite f x s
  | .batonRead f => Sys2Proof.Machine.execBatonRead f s
  | .batonPoll f => Sys2Proof.Machine.execBatonPoll f s
  | .batonResponse => Sys2Proof.Machine.execBatonResponse s
  | .batonRespTimeout => Sys2Proof.Machine.execBatonRespTimeout s
  | .pollSlot late => Sys2Proof.Machine.execPollSlot late s
  | .startingCall lead cells => Sys2Proof.Machine.execStartingCall lead cells s
  | .send w c v => Sys2Proof.Machine.execSend w c v s
  | .done w c => Sys2Proof.Machine.execDone w c s
  | .doorbellClear w r v => Sys2Proof.Machine.execDoorbellClear w r v s
  | .mboxTimeout c => Sys2Proof.Machine.execMboxTimeout c s
  | .rxResetSpi w v => Sys2Proof.Machine.execRxResetSpi w v s
  | .rxResetBaton w v => Sys2Proof.Machine.execRxResetBaton w v s
  | .lockRead w idx => Sys2Proof.Machine.execLockRead w idx s
  | .lockRelease w idx v => Sys2Proof.Machine.execLockRelease w idx v s
  | .releaseAll w v => Sys2Proof.Machine.execReleaseAll w v s
  | .powerReq w v => Sys2Proof.Machine.execPowerReq w v s
  | .powerReqDeferredStart => Sys2Proof.Machine.execPowerReqDeferredStart s
  | .sleepGroupResponse => Sys2Proof.Machine.execSleepGroupResponse s
  | .batonActivityWake => Sys2Proof.Machine.execBatonActivityWake s
  | .csNWake => Sys2Proof.Machine.execCsNWake s
  | .alarm => Sys2Proof.Machine.execAlarm s
  | .wake => Sys2Proof.Machine.execWake s
  | .wakeRestore => Sys2Proof.Machine.execWakeRestore s
  | .laneRestoreRelease sd n => Sys2Proof.Machine.execLaneRestoreRelease sd n s
  | .xtalFail => Sys2Proof.Machine.execXtalFail s
  | .xtalOk => Sys2Proof.Machine.execXtalOk s
  | .alarmWrite w v => Sys2Proof.Machine.execAlarmWrite w v s
  | .vioLow => Sys2Proof.Machine.execVioLow s
  | .vioOk => Sys2Proof.Machine.execVioOk s
  | .vaonPowerUp => Sys2Proof.Machine.execVaonPowerUp s
  | .resetAssert power => Sys2Proof.Machine.execResetAssert power s
  | .resetRelease sel addr => Sys2Proof.Machine.execResetRelease sel addr s
  | .bootAttempt bad jbad => Sys2Proof.Machine.execBootAttempt bad jbad s
  | .hostLoad w => Sys2Proof.Machine.execHostLoad w s
  | .bootGood w jbad => Sys2Proof.Machine.execBootGood w jbad s
  | .bootWatchdog bad => Sys2Proof.Machine.execBootWatchdog bad s
  | .walkExit w jbad => Sys2Proof.Machine.execWalkExit w jbad s
  | .ident c => Sys2Proof.Machine.execIdent c s
  | .attest c => Sys2Proof.Machine.execAttest c s
  | .verifySlot c bad => Sys2Proof.Machine.execVerifySlot c bad s
  | .activate c bad jbad => Sys2Proof.Machine.execActivate c bad jbad s
  | .confirm c jbad => Sys2Proof.Machine.execConfirm c jbad s
  | .rbProgramDeferred => Sys2Proof.Machine.execRbProgramDeferred s
  | .flashErase w v => Sys2Proof.Machine.execFlashErase w v s
  | .flashProgram w v => Sys2Proof.Machine.execFlashProgram w v s
  | .otpProgram w v => Sys2Proof.Machine.execOtpProgram w v s
  | .otpRead w v => Sys2Proof.Machine.execOtpRead w v s
  | .nvmOpDone held => Sys2Proof.Machine.execNvmOpDone held s
  | .nvmTimeout held => Sys2Proof.Machine.execNvmTimeout held s
  | .lcReq w v bad => Sys2Proof.Machine.execLcReq w v bad s
  | .lcChange seed => Sys2Proof.Machine.execLcChange seed s
  | .trialGo w v => Sys2Proof.Machine.execTrialGo w v s
  | .trialAbort w v => Sys2Proof.Machine.execTrialAbort w v s
  | .trialVector bad word => Sys2Proof.Machine.execTrialVector bad word s
  | .trialResume => Sys2Proof.Machine.execTrialResume s
  | .tapInstruction idx => Sys2Proof.Machine.execTapInstruction idx s
  | .tapReset => Sys2Proof.Machine.execTapReset s
  | .railFault => Sys2Proof.Machine.execRailFault s
  | .vaonLoss => Sys2Proof.Machine.execVaonLoss s
  | .currentLimit c on => Sys2Proof.Machine.execCurrentLimit c on s
  | .memoryBitFlip x => Sys2Proof.Machine.execMemoryBitFlip x s
  | .pllLock k => Sys2Proof.Machine.execPllLock k s

end Sys2Proof.Machine
end

