-- ==== Sys2Proof/WellFormed.lean ====
section
/-! DEFINITION. Well-formed commands: what a row of the table takes from outside lies in its range. The meanings are total: a command that is not well formed stands for nothing that can happen to the device. -/

namespace Sys2Proof

/-- An agent of R41: a master ID that is assigned, an engine or a DMA channel of a Squad only (R49), a user-level agent of R228 only. -/
def whoOk (w : Who) : Bool :=
  (decide (w.mid.val ≤ 4) && w.sub == 0 && (!w.user || w.mid.val == 0 || w.mid.val == 2)) ||
    (decide (16 ≤ w.mid.val) && decide (w.sub < 68) && (!w.user || decide (w.sub < 64)))

/-- A transfer that a DMA channel can make (R215). -/
def dmaFits (m : DmaMove) : Bool :=
  m.src.toNat % 4 == 0 && m.dst.toNat % 4 == 0 && m.srcStep % 4 == 0 && m.dstStep % 4 == 0 && decide (4 * m.words * m.rows ≤ 0x10000)

def consumerOk : Consumer → Bool
  | .master w _ _ _ => whoOk w
  | .fetch _ _ off => off.val % 4 == 0
  | .hardware _ => true

/-- A request of the row's type, or of none of the three types (R351, R352). -/
def batonOk (typ : Nat) (f : BatonFrame) : Bool :=
  (f.typ.toNat == typ || decide (f.typ.toNat = 0 ∨ 4 ≤ f.typ.toNat)) && decide (f.data.length ≤ 16)

/-- A command is well formed. -/
def Instr.wf (i : Instr) : Bool :=
  match i with
  | .regWrite w _ _ _ x => whoOk w && decide (x.trigs.length ≤ 8)
  | .shadowWrite w p r _ => whoOk w && Machine.isShadow p.val (4 * r.val)
  | .wideWriteLo w p r _ => whoOk w && decide (p.val = 5 ∧ (r.val = 0x12 ∨ r.val = 0x16))
  | .wideWriteHi w p r _ => whoOk w && decide (p.val = 5 ∧ (r.val = 0x13 ∨ r.val = 0x17))
  | .calObservationEnd _ targets => decide (targets.length = 256)
  | .ltxCalObservationEnd _ counts targets => decide (counts.length = 8 ∧ targets.length = 8)
  | .ltxClipWindowEnd _ ss => ss.all fun y => decide (y.levels.length = 9)
  | .innerCodewordDecode _ soft => decide (soft.length = 128)
  | .hostRsDecode _ _ errs => decide (errs ≤ 544)
  | .rsCodewordDecode _ fs errs _ => decide (errs ≤ 544) && fs.all fun y => decide (y.pos < 544)
  | .warmupFrameReceived _ syms _ => decide (448 ≤ syms.length)
  | .hostFfeLmsUpdate _ signs => decide (signs.length = 24)
  | .refOk _ ppm => decide (ppm.length = 3)
  | .dmaTransfer _ _ m => dmaFits m
  | .bwWindowEnd bytes => decide (bytes.length = 8)
  | .tagInstruction t => decide (t.stages.length = 4)
  | .swTrig w ts => whoOk w && decide (ts.length ≤ 8)
  | .triggerCondition ts => decide (ts.length ≤ 8)
  | .trigInEdge _ ts => decide (ts.length ≤ 8)
  | .autoTriggerTimeout ts => decide (ts.length ≤ 8)
  | .capDone xs => decide (xs.length ≤ 8)
  | .skewCalDone vals => decide (vals.length = 16)
  | .thermalReading raws => decide (raws.length = 24)
  | .hostMemoryRead c _ => consumerOk c
  | .spiWrite _ ws _ x => decide (ws.length ≤ 16 ∧ x.trigs.length ≤ 8)
  | .spiRead _ cut late => decide (cut.getD 0 ≤ 16 ∧ late.getD 0 ≤ 15)
  | .batonWrite f x => batonOk 1 f && decide (x.trigs.length ≤ 8)
  | .batonRead f => batonOk 2 f
  | .batonPoll f => batonOk 3 f
  | .startingCall _ cells => decide (cells.length = 8)
  | .nvmTimeout held => decide (held.length ≤ 4096)
  | .softRst w _ _ | .clkOff w _ _ | .wlock w _ _ | .evtStatusClear w _ _ | .evtForce w _ _ | .arm w _ _ | .commit w _
  | .wideReadLo w _ _ | .wideReadHi w _ _ | .lrxEnSet w _ _ | .lrxEnClear w _ _ | .adcCalRun w _ _ | .prbsSnap _ w _ _
  | .prbsClr _ w _ _ | .holdReq w _ _ | .pacerAuto w _ _ | .pacerSwap w _ _ | .pacerRestart w _ _ | .paceCfgWrite w _ _
  | .ltxEnSet w _ _ | .ltxEnClear w _ _ | .squelchReq _ w _ _ | .followClr w _ _ | .dacCalRun w _ _ | .errInj _ w _ _
  | .codingCntClr w _ _ | .hrxEnSet w _ _ | .hrxEnClear w _ _ | .htxEnSet w _ _ | .htxEnClear w _ _ | .rclkCfgWrite w _ _
  | .squadHaltReq w _ _ | .squadRun w _ _ | .dmaClr w _ _ | .reloadGo w _ | .lend w _ _ | .squadIdent w _ _ | .stats w _ _
  | .exclude w _ _ | .include w _ _ | .engMap w _ _ | .splitClr w _ | .cntWrite w _ _ | .bwWinWrite w _ | .tagClr w
  | .captureStart w | .captureRelease w | .captureAbort w | .skewRun w | .anaGo w | .anaClear w | .sensClr w _ | .calCmdRun w _
  | .store w _ | .restorePrev w _ | .reloadStore w _ | .madcEn w _ _ | .madcStart w _ _ | .madcStop w _ _ | .urgReq w _ _
  | .filterReset w _ | .hdacCodeWrite w _ _ | .swClr w _ | .scrubRestart w _ | .scrubClr w _ | .watchCfgWrite w _ _ _ _
  | .logClr w _ | .firstClr w _ | .send w _ _ | .done w _ | .doorbellClear w _ _ | .rxResetSpi w _ | .rxResetBaton w _
  | .lockRead w _ | .lockRelease w _ _ | .releaseAll w _ | .powerReq w _ | .alarmWrite w _ | .hostLoad w | .bootGood w _
  | .walkExit w _ | .flashErase w _ | .flashProgram w _ | .otpProgram w _ | .otpRead w _ | .lcReq w _ _ | .trialGo w _
  | .trialAbort w _
    => whoOk w
  | .softResetComplete _ | .commitDecide | .commitDeadline | .commitGate _ _ | .sigDet _ _ | .los _ _ | .cdrLock _ _ _ _
  | .cdrUnlock _ _ _ | .freqRange _ _ _ | .cdrLossTimeout _ _ | .agcDone _ _ _ _ _ | .clipWindowEnd _ _ | .calRunStart _
  | .calApply _ | .prbsLock _ _ | .prbsLockLost _ _ | .prbsErr _ _ _ _ _ | .cntOvf _ _ _ _ _ | .peakSearchDwellEnd _ _
  | .trainTimeout _ | .laneFaultDwellEnd _ | .pacerCycle _ _ | .handoffStart _ | .handoffStep _ | .handoffDone _
  | .paceUnitsReady _ | .paceApplied _ | .ltxStartPowered _ | .unsquelchRampStep _ _ | .unsquelchRampEnd _ _ | .outFault _ _
  | .fadeCopyDone _ | .fadeStart _ | .fadeStep _ | .fadeDone _ | .skewFineStep _ | .swingSlewStep _ | .ltxCalStart _
  | .ltxCalApply _ | .ltxCalRetry _ | .innerEncode _ _ | .cwLock _ _ | .cwLockLost _ | .innerFailThr _ _ | .amLock _ | .amLost _
  | .lapStart _ _ | .lapHeaderReceived _ _ _ _ _ | .rateMatchBlock _ _ _ | .tuneWindowEnd _ | .htxStartPowered _
  | .warmupFrameStart _ | .warmupTapUpdate _ | .searchMeasureEnd _ _ | .reqTimeout _ | .handover _ _ | .staticAccept _ _ _
  | .attemptTimerExpiry _ | .hostFaultDwellEnd _ | .hostTableRefresh _ _ | .hostGateWindow _ _ | .htxFirRampStep _
  | .htxSwingSlewStep _ | .refActivityLoss _ | .refFreqCheck _ _ | .pllUnlock _ | .synthGlideEnd _ _ | .squadHalted _
  | .engineTrap _ _ _ _ _ | .engineWatchdog _ _ _ | .autoRecover _ | .reloadStart _ | .reloadVerify _ _ | .reloadDone _
  | .lendRelease _ | .cmdDone _ _ _ _ | .cmdTimeout _ | .splitCntWrap _ _ | .trigOutPulseEnd | .anaEnd _ _ | .calTempCheck
  | .storeDue | .storeWriteDone _ | .madcCorePowered _ | .madcPassStart _ _ | .madcConversionEnd _ _ | .urgDone _ _
  | .madcOffsetRunStart | .madcOffsetRunEnd _ _ | .syncInEdge _ | .filterOutput _ _ _ | .hdacTick _ | .spanHoldEnd _
  | .spanSwitchDone _ | .dacClrNFall | .dacClrNRise | .scrubWord | .scrubPeriodEnd | .coachMemoryException _ _
  | .refereeEvent _ _ | .reactionEnd _ _ | .watchWindowClose _ _ | .batonResponse | .batonRespTimeout | .pollSlot _
  | .mboxTimeout _ | .powerReqDeferredStart | .sleepGroupResponse | .batonActivityWake | .csNWake | .alarm | .wake | .wakeRestore
  | .laneRestoreRelease _ _ | .xtalFail | .xtalOk | .vioLow | .vioOk | .vaonPowerUp | .resetAssert _ | .resetRelease _ _
  | .bootAttempt _ _ | .bootWatchdog _ | .ident _ | .attest _ | .verifySlot _ _ | .activate _ _ _ | .confirm _ _
  | .rbProgramDeferred | .nvmOpDone _ | .lcChange _ | .trialVector _ _ | .trialResume | .tapInstruction _ | .tapReset
  | .railFault | .vaonLoss | .currentLimit _ _ | .memoryBitFlip _ | .pllLock _
    => true

end Sys2Proof
end

