-- ==== Sys2Proof/Safety.lean ====
section
/-! DEFINITION. The terms of the claims: a device that runs, a write that is accepted, what a command leaves alone, and the invariants of a step. -/

namespace Sys2Proof.Machine

/-- The device runs (R391, R466), and no Time trial run is in progress: nothing but the command itself acts on it (R435 to R437). -/
abbrev State.calm (s : State) : Prop := s.dev.life = .on ∧ s.dev.b pTrial fTrBusy = false

/-- A write by `w` to register `off` of page `p` ends with OK (R39). -/
abbrev Dev.takes (d : Dev) (w : Who) (p off : Nat) : Prop := d.writeStatus w p off = .ok

/-- A read by `w` of register `off` of page `p` ends with OK (R39). -/
abbrev Dev.shows (d : Dev) (w : Who) (p off : Nat) : Prop := d.readStatus w p off = .ok

/-- The page of `p` runs: powered, clocked, not in soft reset and not quiesced. -/
abbrev Dev.runs (d : Dev) (p : Nat) : Prop := d.running p = true

/-- A register whose write has no effect but what its access codes store: event severities and routes on every page, the shadowless
registers of DEVICE, INTC, SPI, BATON and SECURITY, REFEREE.CFG, and the thresholds of LRX. -/
abbrev plainReg (p off : Nat) : Prop :=
  off % 4 = 0 ∧ off < 4096 ∧ (kindOf p).isSome = true ∧ isShadow p off = false ∧
    (off ∈ [0x01C, 0x020, 0x024] ∨
      (0x040 ≤ off ∧ kindOf p ∈ [some .device, some .intc, some .spi, some .baton, some .security]) ∨
      (p = 0x03 ∧ off = 0x040) ∨ (kindOf p = some .lrx ∧ off ∈ [0x050, 0x054]))

/-- The command answers a next state, and `P` holds of it. -/
def Yields (o : Host.Outcome State Fault Refusal) (P : State → Prop) : Prop := ∃ t, o = .next t ∧ P t

/-- The device after a write that ended with OK, as far as its answer goes. -/
def Dev.answered (d : Dev) : Dev := { d with resp := ⟨.ok, []⟩ }

/-- The pages on which the Referee itself raises events: its own, and the subsystem pages with their watchers (R334, R340). -/
abbrev refereePage (p : Nat) : Prop := p = 0x03 ∨ (0x18 ≤ p ∧ p ≤ 0x1D)

/-- What a command leaves alone on the way from `s` to `t`. Every register but those of `ex` and EVT_STATUS reads as before; every
EVT_STATUS bit but those of `ev` and the Referee's own stays; the state beside the registers is that of `d` (which names what changes
there), but for the record of word errors, what the Referee holds and FAULT_N; and so stay all the memories and the queue. -/
structure Kept (s t : State) (d : Dev) (ex ev : List (Nat × Nat)) : Prop where
  regs : ∀ p off, off < 4096 → off ≠ 0x010 → (p, off) ∉ ex → t.dev.rd p off = s.dev.rd p off
  events : ∀ p src, (p, src) ∉ ev → ¬ refereePage p → t.dev.evt p src = s.dev.evt p src
  hidden : t.dev = { d with regs := t.dev.regs, ecc := t.dev.ecc, ref := t.dev.ref, faultN := t.dev.faultN }
  mem : t.mem = s.mem
  pending : t.pending = s.pending

/-- The hard decisions of 128 soft values, bit j in bit j: the top bit of each (R141). -/
def hardBits (soft : List (BitVec 4)) : Nat :=
  (((List.range 128).map fun j => soft.getD j 0).zip (List.range 128)).foldl (fun x e => if e.1.getLsbD 3 then x + 2 ^ e.2 else x) 0

/-- The reliabilities of 128 soft values: the low three bits of each (R141). -/
def reliabilities (soft : List (BitVec 4)) : List Nat := ((List.range 128).map fun j => soft.getD j 0).map fun v => v.toNat % 8

/-- The events of reset and of the supplies: they act in every condition of the device (R391, R392, R466). -/
def supplyCommand : Instr → Bool
  | .vaonPowerUp | .resetAssert _ | .resetRelease _ _ | .railFault | .vaonLoss => true
  | _ => false

/-- The commands that a device in reset or without power does not ignore: those events, the pins, the TAP, and what belongs to the
Timekeeper domain (R385, R390, R391, R456). -/
def actsInReset : Instr → Bool
  | .alarm | .xtalFail | .xtalOk | .vioLow | .vioOk | .dacClrNFall | .dacClrNRise | .tapInstruction _ | .tapReset => true
  | c => supplyCommand c

/-- The memories are in their canonical form. -/
abbrev State.memOk (s : State) : Prop := memWf s.mem = true

/-- The queue after a step is the queue without its first command. -/
def State.taken (s t : State) : Prop := t.pending = s.pending.tail

/-- FAULT_N follows its causes while the device runs (R332). -/
def State.faultOk (s : State) : Prop := s.dev.life = .on → s.dev.faultN = s.dev.faultCause

end Sys2Proof.Machine
end

