-- ==== Sys2Proof/Certificates/Slice0/Obligations.lean ====
section
/-! DEFINITION. The statements for the provers. Each clause says, for the commands it names, under hypotheses on the state and the operands alone, that exec answers a next state, what that state holds, and what it leaves alone. -/

open Sys2Proof Sys2Proof.Machine

/-- For every state and every command c: a step of the state with c at the front of its queue is exec of c on the state with the
queue's rest. Readings and choices: notes/assumptions/1. -/
def Obligations.StepTakesTheFrontCommand : Prop :=
  ∀ (c : Instr) (s : State), step { s with pending := c :: s.pending } = exec c s

/-- In reset and without power every command but the events of reset, supply, pins, TAP and Timekeeper leaves the state as it is
(R391). After a rail fault every command but those of reset and supply stops on stateUndefined (R466). On an empty queue (the
model's choice, notes/assumptions/1) TK_TIME advances by one and, with no alarm due, nothing else changes. Readings and choices:
notes/assumptions/1, 2, 15. -/
def Obligations.OutsideOperation : Prop :=
  (
    ∀ (c : Instr) (s : State), (s.dev.life = .held ∨ s.dev.life = .unpowered) → actsInReset c = false → exec c s = .next s) ∧
  (
    ∀ (c : Instr) (s : State), s.dev.life = .undefined → supplyCommand c = false → exec c s = .fault .stateUndefined) ∧
  (
    ∀ s : State, s.calm → s.pending = [] → (s.dev.b pTk fArmed = false ∨ s.dev.tk.toNat + 1 < (s.dev.rd64 pTk 0x058).toNat) →
      s.dev.tk.toNat + 1 < 2 ^ 64 →
      Yields (step s) fun t => Kept s t { s.dev with tk := s.dev.tk + 1 } [] [])

/-- For every state whose memories are in canonical form (addresses strictly rising, no entry equal to what an unlisted address reads
as) and every command at the front of its queue, and for the empty queue: if the step answers a next state, its memories are in
canonical form. So equal memories are equal data. Readings and choices: notes/assumptions/12. -/
def Obligations.StepKeepsMemoriesCanonical : Prop :=
  ∀ s t : State, s.memOk → step s = .next t → t.memOk

/-- For every state: if the step answers a next state, its queue is the queue before without its first command; no command's effect
reaches the commands that wait. Readings and choices: notes/assumptions/1. -/
def Obligations.StepTakesOneCommand : Prop :=
  ∀ s t : State, step s = .next t → s.taken t

/-- For every state in which FAULT_N follows its causes: if the step answers a next state in which the device runs, FAULT_N is driven
low exactly where one of its causes holds there: the thermal trip, force_fault, an EVT_STATUS bit of severity fault_min or more on
a block page, or any EVT_STATUS bit of a subsystem page; in DOZE the trip alone. Readings and choices: notes/assumptions/35. -/
def Obligations.FaultPinFollowsItsCauses : Prop :=
  ∀ s t : State, s.faultOk → step s = .next t → t.faultOk

/-- State.reset is held in reset, every register reads its reset value, TK_TIME is 0, no command waits, nothing is listed in the
memories, whose form is canonical, FAULT_N follows its causes; and some reset values as the spec's register tables give them:
DEV_ID, TRIP_CFG, PACE_CFG of a lane, and the severities of SECURITY and NVM. Readings and choices: notes/assumptions/2, 3, 12. -/
def Obligations.ResetState : Prop :=
  State.reset.dev.life = .held ∧ State.reset.pending = [] ∧ State.reset.mem = [] ∧ State.reset.memOk ∧ State.reset.faultOk ∧
    State.reset.dev.tk = 0 ∧ (∀ p < 256, ∀ off < 4096, State.reset.dev.rd p off = resetWord p off) ∧
    State.reset.dev.rd 0x00 0x040 = 0x84000001 ∧ State.reset.dev.rd pTherm 0x044 = 0x000501D8 ∧
    (∀ n : Lane, State.reset.dev.rd (pPacer n) 0x058 = 7) ∧ State.reset.dev.rd pSec 0x01C = 0x11 ∧ State.reset.dev.rd pNvm 0x01C = 0x1A0

/-- REG_WRITE: an aligned 32-bit write that is accepted, to a register without an effect of its own (EVT_SEV, EVT_ROUTE and the plain
registers of DEVICE, INTC, SPI, BATON, SECURITY, REFEREE and LRX), answers OK and stores by the access codes. SHADOW_WRITE: the
write changes only the shadow copy, clears ARM and sets applied to 0; no applied value changes. Nothing else changes. Readings and
choices: notes/assumptions/5, 18. -/
def Obligations.RegisterWritesStore : Prop :=
  (
    ∀ (s : State) (w : Who) (p off : Nat) (v : Word) (x : Facts),
      s.calm →
      plainReg p off →
      s.dev.takes w p off →
      Yields (exec (.regWrite w (BitVec.ofNat 32 (regAddr p off)) .word v x) s) fun t =>
        t.dev.rd p off = storeWord p off (s.dev.rd p off) v ∧
        Kept s t s.dev.answered [(p, off)] []) ∧
  (
    ∀ (s : State) (w : Who) (p : Fin 256) (r : Fin 1024) (v : Word),
      s.calm →
      isShadow p.val (4 * r.val) = true →
      s.dev.takes w p.val (4 * r.val) →
      Yields (exec (.shadowWrite w p r v) s) fun t =>
        t.dev.rd p.val (4 * r.val) = storeWord p.val (4 * r.val) (s.dev.rd p.val (4 * r.val)) v ∧
        t.dev.b p.val fArm = false ∧
        t.dev.b p.val fApplied = false ∧
        t.dev.live = s.dev.live ∧
        Kept s t { s.dev.answered with late := t.dev.late, filt := { s.dev.filt with dirty := t.dev.filt.dirty } } [(p.val, 4 * r.val),
            (p.val, 0x028), (p.val, 0x004)] [])

/-- SOFT_RST: the page is in soft reset, its event registers and its shadow copies hold their reset values; on a page of registers
alone (INTC, SPI) nothing else changes. SOFT_RESET_COMPLETE: the page answers again and its lock is gone. CLK_OFF: sleep_req takes
its bit; clk_off takes its bit, but is not set while the function carries traffic or on a MANAGEMENT page. WLOCK: 1 locks a free
page to the writer, 0 unlocks it. EVT_STATUS_CLEAR: each bit written 1 clears, every other stays. EVT_FORCE: each source whose bit
is 1 raises its event, and no other does. ARM: 1 arms unless the consistency check fails, 0 disarms. Nothing else changes.
Readings and choices: notes/assumptions/19, 20. -/
def Obligations.PageHeaderControls : Prop :=
  (
    ∀ (s : State) (w : Who) (p : Fin 256) (v : Word),
      s.calm →
      s.dev.takes w p.val 0x008 →
      Yields (exec (.softRst w p v) s) fun t =>
        t.dev.inReset.contains p.val = true ∧
        (∀ o ∈ [0x014, 0x01C, 0x020, 0x024] ++ shadowOffs p.val, t.dev.rd p.val o = resetWord p.val o) ∧
        t.dev.resp = ⟨.ok, []⟩ ∧
        t.mem = s.mem ∧
        t.pending = s.pending) ∧
  (
    ∀ (s : State) (w : Who) (p : Fin 256) (v : Word),
      s.calm →
      kindOf p.val = some .intc ∨ kindOf p.val = some .spi →
      s.dev.takes w p.val 0x008 →
      Yields (exec (.softRst w p v) s) fun t =>
        (∀ o, o < 4096 → o ∉ [0x004, 0x00C] → t.dev.rd p.val o = resetWord p.val o) ∧
        Kept s t { s.dev.answered with inReset := s.dev.inReset.filter (· != p.val) ++ [p.val] } (regsOf p.val (regRun 0 1024)) (regsOf p.val (List.range 32))) ∧
  (
    ∀ (s : State) (p : Fin 256),
      s.calm →
      s.dev.inReset.contains p.val = true →
      Yields (exec (.softResetComplete p) s) fun t =>
        t.dev.inReset.contains p.val = false ∧
        t.dev.rd p.val 0x00C = 0 ∧
        Kept s t { s.dev with inReset := s.dev.inReset.filter (· != p.val) } [(p.val, 0x00C)] []) ∧
  (
    ∀ (s : State) (w : Who) (p : Fin 256) (v : Word),
      s.calm →
      s.dev.takes w p.val 0x008 →
      Yields (exec (.clkOff w p v) s) fun t =>
        t.dev.b p.val fSleepReq = v.getLsbD 1 ∧
        t.dev.b p.val fClkOff = (v.getLsbD 2 && (s.dev.b p.val fClkOff || !(s.dev.traffic p.val || isManagement p.val))) ∧
        Kept s t s.dev.answered [(p.val, 0x008)] []) ∧
  (
    ∀ (s : State) (w : Who) (p : Fin 256) (v : Word),
      s.calm →
      s.dev.takes w p.val 0x00C →
      Yields (exec (.wlock w p v) s) fun t =>
        t.dev.b p.val fWlock = v.getLsbD 0 ∧
        t.dev.g p.val fOwner = (if v.getLsbD 0 then (if s.dev.b p.val fWlock then s.dev.g p.val fOwner else w.mid.val) else 0) ∧
        Kept s t s.dev.answered [(p.val, 0x00C)] []) ∧
  (
    ∀ (s : State) (w : Who) (p : Fin 256) (v : Word),
      s.calm →
      s.dev.takes w p.val 0x010 →
      Yields (exec (.evtStatusClear w p v) s) fun t =>
        (∀ src, src < sourcesOf p.val → (p.val ≠ 0x03 ∨ 2 ≤ src) → t.dev.evt p.val src = (s.dev.evt p.val src && !v.getLsbD src)) ∧
        Kept s t s.dev.answered [] (regsOf p.val (List.range 32))) ∧
  (
    ∀ (s : State) (w : Who) (p : Fin 256) (v : Word),
      s.calm →
      s.dev.takes w p.val 0x018 →
      Yields (exec (.evtForce w p v) s) fun t =>
        (∀ src, src < sourcesOf p.val → v.getLsbD src = true → t.dev.evt p.val src = true) ∧
        (∀ src, src < 32 → (p.val ≠ 0x03 ∨ 2 ≤ src) → v.getLsbD src = false → t.dev.evt p.val src = s.dev.evt p.val src) ∧
        Kept s t s.dev.answered [] (regsOf p.val (List.range 32))) ∧
  (
    ∀ (s : State) (w : Who) (p : Fin 256) (v : Word),
      s.calm →
      s.dev.takes w p.val 0x028 →
      Yields (exec (.arm w p v) s) fun t =>
        t.dev.b p.val fArm = (v.getLsbD 0 && (s.dev.b p.val fArm || !s.dev.armBad p.val)) ∧
        Kept s t s.dev.answered [(p.val, 0x028)] [])

/-- COMMIT: idle, a write naming targets sets busy and clears failed and missing; naming none only clears them; busy, it is discarded.
COMMIT_DECIDE: with every required page armed the commit is decided; for a target CAL, CAPTURE or SPLIT alone, the shadow values
of the decision tick are applied, ARM clears, applied is set and the commit ends with source 0. COMMIT_DEADLINE: an undecided
commit fails: nothing applies, every named page is disarmed, failed and missing are set, source 1. COMMIT_GATE: the last gate, of
a PACER page, applies the sampled value and ends the commit. Readings and choices: notes/assumptions/14, 19. -/
def Obligations.ModeCommitRuns : Prop :=
  (
    ∀ (s : State) (w : Who) (v : Word),
      s.calm →
      s.dev.takes w 0x16 0x040 →
      Yields (exec (.commit w v) s) fun t =>
        (s.dev.commit = .idle → getBits v 0 30 ≠ 0 → t.dev.commit = .undecided (getBits v 0 30) ∧ t.dev.b 0x16 fCommitBusy = true) ∧
        (s.dev.commit = .idle → getBits v 0 30 = 0 → t.dev.commit = .idle) ∧
        (s.dev.commit = .idle → t.dev.b 0x16 fCommitFailed = false ∧ t.dev.g 0x16 fMissing = 0) ∧
        (s.dev.commit ≠ .idle → t.dev.commit = s.dev.commit ∧ t.dev.unapplied = s.dev.unapplied ∧
            t.dev.rd 0x16 0x044 = s.dev.rd 0x16 0x044) ∧
        Kept s t { s.dev.answered with commit := t.dev.commit, unapplied := t.dev.unapplied } [(0x16, 0x044)] []) ∧
  (
    ∀ (s : State) (b p : Nat),
      s.calm →
      (b, p) ∈ ([(22, 0x17), (28, 0x12), (29, 0x13)] : List (Nat × Nat)) →
      s.dev.commit = .undecided (2 ^ b) →
      s.dev.b p fArm = true →
      s.dev.powered 0x16 = true →
      Yields (exec .commitDecide s) fun t =>
        (∀ o ∈ shadowOffs p, t.dev.lrd p o = s.dev.rd p o) ∧
        (∀ q, q < 0x68 → q ≠ p → ∀ o ∈ shadowOffs q, t.dev.lrd q o = s.dev.lrd q o) ∧
        t.dev.b p fArm = false ∧
        t.dev.b p fApplied = true ∧
        t.dev.commit = .idle ∧
        t.dev.b 0x16 fCommitBusy = false ∧
        t.dev.evt 0x16 0 = true ∧
        Kept s t { s.dev with commit := .idle, samp := [], late := [], live := t.dev.live, unapplied := t.dev.unapplied } [(p, 0x028), (p,
            0x004), (0x16, 0x044)] [(0x16, 0)]) ∧
  (
    ∀ (s : State) (targets : Nat),
      s.calm →
      s.dev.commit = .undecided targets →
      s.dev.commitReady targets = false →
      Yields (exec .commitDecide s) fun t =>
        Kept s t s.dev [] []) ∧
  (
    ∀ (s : State) (targets : Nat),
      s.calm →
      s.dev.commit = .undecided targets →
      s.dev.commitReady targets = false →
      s.dev.powered 0x16 = true →
      Yields (exec .commitDeadline s) fun t =>
        t.dev.commit = .idle ∧
        t.dev.b 0x16 fCommitFailed = true ∧
        t.dev.b 0x16 fCommitBusy = false ∧
        t.dev.evt 0x16 1 = true ∧
        (∀ b, b < 30 → (t.dev.rd 0x16 0x044).getLsbD b =
            (targets.testBit b && (commitPages b).any fun p => s.dev.required p && !s.dev.b p fArm)) ∧
        (∀ p ∈ namedPages targets, t.dev.b p fArm = false) ∧
        Kept s t { s.dev with commit := .idle } ((0x16, 0x044) :: (namedPages targets).map fun p => (p, 0x028)) [(0x16, 1)]) ∧
  (
    ∀ (s : State) (p : Fin 256) (base n : Lane) (targets : Nat),
      s.calm →
      p.val = pPacer n →
      s.dev.commit = .decided targets [⟨p.val, none⟩] →
      s.dev.powered 0x16 = true →
      Yields (exec (.commitGate p base) s) fun t =>
        (∀ o ∈ shadowOffs p.val, t.dev.lrd p.val o = tabGet resetAt (regKey p.val o) s.dev.samp) ∧
        t.dev.b p.val fArm = false ∧
        t.dev.b p.val fApplied = (s.dev.b p.val fApplied || !s.dev.late.contains p.val) ∧
        t.dev.commit = .idle ∧
        t.dev.b 0x16 fCommitBusy = false ∧
        t.dev.evt 0x16 0 = true ∧
        Kept s t { s.dev with commit := .idle, samp := [], late := [], live := t.dev.live, unapplied := s.dev.unapplied.filter (· != p.val) } [(p.val, 0x028), (p.val, 0x004), (0x16, 0x044)] [(0x16, 0)])

/-- With no memory error and no voted word in disagreement: WIDE_READ_LO answers the low word and latches the high word of the same
moment into the read shadow of the reader. WIDE_READ_HI answers the latched word where the shadow is that of the value, else the
live word. WIDE_WRITE_LO of TK_TIME and ALARM holds the word in the write shadow of the writer and changes no register.
WIDE_WRITE_HI of TK_TIME applies the held low word, or the live one, with the high word, and releases the held word. Readings and
choices: notes/assumptions/5, 18. -/
def Obligations.WideValuesAreWhole : Prop :=
  (
    ∀ (s : State) (w : Who) (p : Fin 256) (r : Fin 1024),
      s.calm →
      s.dev.wideLo p.val (4 * r.val) = true →
      0x040 < 4 * r.val →
      s.dev.shows w p.val (4 * r.val) →
      s.dev.ecc = [] →
      s.dev.votes = [] →
      s.dev.wideLo p.val (4 * r.val - 4) = false →
      Yields (exec (.wideReadLo w p r) s) fun t =>
        t.dev.resp = ⟨.ok, [s.dev.peek p.val (4 * r.val)]⟩ ∧
        t.dev.readShadow w = some (regAddr p.val (4 * r.val), s.dev.peek p.val (4 * r.val + 4)) ∧
        Kept s t { s.dev with resp := t.dev.resp, wideR := t.dev.wideR } [] []) ∧
  (
    ∀ (s : State) (w : Who) (p : Fin 256) (r : Fin 1024),
      s.calm →
      s.dev.wideLo p.val (4 * r.val - 4) = true →
      0x040 < 4 * r.val →
      s.dev.wideLo p.val (4 * r.val) = false →
      s.dev.shows w p.val (4 * r.val) →
      s.dev.ecc = [] →
      s.dev.votes = [] →
      Yields (exec (.wideReadHi w p r) s) fun t =>
        t.dev.resp = ⟨.ok, [match s.dev.readShadow w with | some (a, x) => if a = regAddr p.val (4 * r.val - 4) then x else s.dev.peek p.val (4 * r.val) | none => s.dev.peek p.val (4 * r.val)]⟩ ∧
        Kept s t { s.dev with resp := t.dev.resp } [] []) ∧
  (
    ∀ (s : State) (w : Who) (r : Fin 1024) (v : Word),
      s.calm →
      r.val = 0x12 ∨ r.val = 0x16 →
      s.dev.takes w pTk (4 * r.val) →
      Yields (exec (.wideWriteLo w 0x05 r v) s) fun t =>
        t.dev.heldLo w (regAddr pTk (4 * r.val)) = some v ∧
        Kept s t { s.dev.answered with wideW := t.dev.wideW } [] []) ∧
  (
    ∀ (s : State) (w : Who) (v : Word),
      s.calm →
      s.dev.takes w pTk 0x04C →
      Yields (exec (.wideWriteHi w 0x05 0x13 v) s) fun t =>
        t.dev.tk = Long.ofWords ((s.dev.heldLo w (regAddr pTk 0x048)).getD s.dev.tk.lo) v ∧
        t.dev.heldLo w (regAddr pTk 0x048) = none ∧
        t.dev.evt pTk 5 = true ∧
        Kept s t { s.dev.answered with tk := t.dev.tk, wideW := t.dev.wideW } [] [(pTk, 5)])

/-- LRX_EN_SET takes a lane from OFF to SEEK and leaves another state alone. LRX_EN_CLEAR goes to OFF: sig_det, cdr_lock, the
calibration run and request and the Handoff end, without events. SIG_DET on an enabled lane sets sig_det, with source 0 where it
was 0, and a lane in SEEK enters TRAIN with its front-end settings. LOS clears sig_det and cdr_lock with source 1, and a lane in
TRAIN, RUN or HOLD goes to SEEK. On line and host lanes; nothing else changes. Readings and choices: notes/assumptions/14, 21. -/
def Obligations.LineLaneEnableAndSignal : Prop :=
  (
    ∀ (s : State) (w : Who) (n : Lane) (v : Word),
      s.calm →
      s.dev.takes w (pLrx n) 0x040 →
      Yields (exec (.lrxEnSet w n v) s) fun t =>
        t.dev.rd (pLrx n) 0x040 = storeWord (pLrx n) 0x040 (s.dev.rd (pLrx n) 0x040) (v ||| 1) ∧
        t.dev.laneState n = (if s.dev.laneState n = stOff then stSeek else s.dev.laneState n) ∧
        (s.dev.laneState n = stOff → t.dev.b (pLrx n) fLrxSigDet = (s.dev.lg (pLrx n) fLoopback == 2) ∧
            t.dev.b (pLrx n) fLrxCdrLock = (s.dev.lg (pLrx n) fLoopback == 2)) ∧
        (s.dev.laneState n ≠ stOff → t.dev.rd (pLrx n) 0x044 = s.dev.rd (pLrx n) 0x044) ∧
        Kept s t s.dev.answered [((pLrx n), 0x040), ((pLrx n), 0x044)] []) ∧
  (
    ∀ (s : State) (w : Who) (n : Lane) (v : Word),
      s.calm →
      s.dev.takes w (pLrx n) 0x040 →
      Yields (exec (.lrxEnClear w n v) s) fun t =>
        t.dev.laneState n = stOff ∧
        t.dev.b (pLrx n) fLrxEn = false ∧
        t.dev.b (pLrx n) fLrxSigDet = false ∧
        t.dev.b (pLrx n) fLrxCdrLock = false ∧
        t.dev.b (pLrx n) fLrxCalBusy = false ∧
        t.dev.b (pLrx n) fLrxCalPending = false ∧
        t.dev.b (pPacer n) fPcFade = false ∧
        t.dev.g (pPacer n) fHandoffStep = 0 ∧
        t.dev.g (pPacer n) fPhase = 0 ∧
        Kept s t (((s.dev.answered.updLrx n fun h => { h with run := none }).updPacer n fun h => { h with cand := none, pend := none, req := false, fade := none, pace := none, search := none, accepted := false }).updHtx n fun h => { h with glide := false }) ([((pLrx n), 0x040), ((pLrx n), 0x044), ((pPacer n), 0x044), ((pPacer n), 0x05C), ((pPacer n), 0x064)] ++ regsOf 0x12 (regRun 0x080 8)) []) ∧
  (
    ∀ (s : State) (sd : Side) (n : Lane),
      s.calm →
      s.dev.runs (rxPage sd n) →
      s.dev.tapHolds = false →
      s.dev.b (rxPage sd n) fLrxEn = true →
      s.dev.g (rxPage sd n) fLrxState ≠ stSeek →
      (sd = .host → s.dev.g (rxPage sd n) fLrxState ≠ stOff) →
      Yields (exec (.sigDet sd n) s) fun t =>
        t.dev.b (rxPage sd n) fLrxSigDet = true ∧
        t.dev.evt (rxPage sd n) 0 = (s.dev.evt (rxPage sd n) 0 || !s.dev.b (rxPage sd n) fLrxSigDet) ∧
        t.dev.g (rxPage sd n) fLrxState = s.dev.g (rxPage sd n) fLrxState ∧
        Kept s t s.dev [((rxPage sd n), 0x044)] [((rxPage sd n), 0)]) ∧
  (
    ∀ (s : State) (n : Lane),
      s.calm →
      s.dev.runs (pLrx n) →
      s.dev.tapHolds = false →
      s.dev.b (pLrx n) fLrxEn = true →
      s.dev.laneState n = stSeek →
      Yields (exec (.sigDet .line n) s) fun t =>
        t.dev.b (pLrx n) fLrxSigDet = true ∧
        t.dev.evt (pLrx n) 0 = (s.dev.evt (pLrx n) 0 || !s.dev.b (pLrx n) fLrxSigDet) ∧
        t.dev.laneState n = stTrain ∧
        t.dev.rd (pLrx n) 0x04C = s.dev.rd (pLrx n) 0x048 ∧
        t.dev.b (pLrx n) fLrxCalPending = false ∧
        t.dev.g (pPacer n) fPhase = (if s.dev.b (pLrx n) fLrxCdrLock then (if s.dev.b (pLrx n) fLrxFeManual then 3 else 2) else 1) ∧
        t.dev.g (pPacer n) fPaceLive = s.dev.g (pPacer n) fPaceTarget ∧
        (∀ o ∈ regRun 0x078 6, t.dev.rd (pPacer n) o = 0) ∧
        Kept s t ((s.dev.updLrx n fun h => { h with feTaken := s.dev.rd (pLrx n) 0x048, invTaken := s.dev.g (pLrx n) fLrxInvert }).updPacer n fun h => { h with main := s.dev.g (pPacer n) fEqMain, cand := none, pend := none, failRun := 0, passRun := 0, accepted := false }) ([((pLrx n), 0x044), ((pLrx n), 0x04C), ((pPacer n), 0x044), ((pPacer n), 0x05C), ((pPacer n), 0x064)] ++ regsOf (pPacer n) (regRun 0x078 6)) [((pLrx n), 0)]) ∧
  (
    ∀ (s : State) (n : Lane),
      s.calm →
      s.dev.runs (pHrx n) →
      s.dev.tapHolds = false →
      s.dev.b (pHrx n) fHrxEn = true →
      s.dev.hostState n = stSeek →
      Yields (exec (.sigDet .host n) s) fun t =>
        t.dev.b (pHrx n) fHrxSigDet = true ∧
        t.dev.evt (pHrx n) 0 = (s.dev.evt (pHrx n) 0 || !s.dev.b (pHrx n) fHrxSigDet) ∧
        t.dev.hostState n = stTrain ∧
        t.dev.rd (pHrx n) 0x050 = s.dev.rd (pHrx n) 0x04C ∧
        t.dev.g (pHrx n) fHostPhase = (if s.dev.b (pHrx n) fHrxCdrLock && (!(s.dev.hr n).wu || s.dev.b (pHrx n) fWuLock) then 2 else 1) ∧
        t.dev.g (pHrx n) fAttempts = (s.dev.g (pHrx n) fAttempts + 1) % 2 ^ 16 ∧
        Kept s t ((s.dev.updHrx n fun h => { h with search := none, valid3 := 0, ready16 := 0, announced := false, failRun := 0, passRun := 0, feTaken := s.dev.rd (pHrx n) 0x04C, invTaken := s.dev.g (pHrx n) fHrxInvert, ctl := 0xE000 }).updLtx n fun h => { h with glide := false }) [((pHrx n), 0x044), ((pHrx n), 0x050), ((pHrx n), 0x068), ((pHrx n), 0x078)] [((pHrx n), 0)]) ∧
  (
    ∀ (s : State) (sd : Side) (n : Lane),
      s.calm →
      s.dev.runs (rxPage sd n) →
      s.dev.b (rxPage sd n) fLrxEn = true →
      s.dev.b (rxPage sd n) fLrxSigDet = true →
      s.dev.lg (rxPage sd n) fLoopback ≠ 2 →
      s.dev.g (rxPage sd n) fLrxState ∉ [stTrain, stRun, stHold] →
      Yields (exec (.los sd n) s) fun t =>
        t.dev.b (rxPage sd n) fLrxSigDet = false ∧
        t.dev.b (rxPage sd n) fLrxCdrLock = false ∧
        t.dev.evt (rxPage sd n) 1 = true ∧
        t.dev.g (rxPage sd n) fLrxState = s.dev.g (rxPage sd n) fLrxState ∧
        Kept s t s.dev [((rxPage sd n), 0x044)] [((rxPage sd n), 1)]) ∧
  (
    ∀ (s : State) (n : Lane),
      s.calm →
      s.dev.runs (pLrx n) →
      s.dev.b (pLrx n) fLrxEn = true →
      s.dev.b (pLrx n) fLrxSigDet = true →
      s.dev.lg (pLrx n) fLoopback ≠ 2 →
      s.dev.laneState n ∈ [stTrain, stRun, stHold] →
      Yields (exec (.los .line n) s) fun t =>
        t.dev.b (pLrx n) fLrxSigDet = false ∧
        t.dev.b (pLrx n) fLrxCdrLock = false ∧
        t.dev.evt (pLrx n) 1 = true ∧
        t.dev.laneState n = stSeek ∧
        t.dev.b (pLrx n) fLrxCalBusy = (s.dev.b (pLrx n) fLrxCalBusy && (s.dev.lx n).run.isNone) ∧
        t.dev.b (pPacer n) fPcFade = false ∧
        Kept s t (((s.dev.updLrx n fun h => { h with run := none }).updPacer n fun h => { h with cand := none, pend := none, req := false, fade := none, pace := none, search := none, accepted := false }).updHtx n fun h => { h with glide := false }) ([((pLrx n), 0x044), ((pLrx n), 0x078), ((pPacer n), 0x044), ((pPacer n), 0x05C), ((pPacer n), 0x064)] ++ regsOf 0x12 (regRun 0x080 8)) [((pLrx n), 1), ((pLrx n), 6)]) ∧
  (
    ∀ (s : State) (n : Lane),
      s.calm →
      s.dev.runs (pHrx n) →
      s.dev.b (pHrx n) fHrxEn = true →
      s.dev.b (pHrx n) fHrxSigDet = true →
      s.dev.lg (pHrx n) fHrxLoop ≠ 2 →
      s.dev.hostState n ∈ [stTrain, stRun, stHold] →
      Yields (exec (.los .host n) s) fun t =>
        t.dev.b (pHrx n) fHrxSigDet = false ∧
        t.dev.b (pHrx n) fHrxCdrLock = false ∧
        t.dev.b (pHrx n) fWuLock = false ∧
        t.dev.evt (pHrx n) 1 = true ∧
        t.dev.hostState n = stSeek ∧
        t.dev.g (pHrx n) fHostPhase = 0 ∧
        Kept s t { s.dev with hrx := t.dev.hrx, htx := t.dev.htx, ltx := (s.dev.updLtx n fun h => { h with glide := false }).ltx } ([((pHrx n), 0x044), ((pHrx n), 0x068), ((pHtx n), 0x044), ((pHtx n), 0x05C), ((pHtx n), 0x060)] ++ regsOf 0x12 (regRun 0x080 8)) [((pHrx n), 1)])

/-- While the loop of an enabled receiver works on a signal: CDR_LOCK within the frequency range sets cdr_lock, the frequency and the
phase, and ends phase 1 of training. CDR_UNLOCK clears cdr_lock and raises its source. FREQ_RANGE holds the estimate at its limit,
raises freq_range (which a host lane does not have), and loses lock. CDR_LOSS_TIMEOUT without lock in RUN or HOLD goes to SEEK. On
line and host lanes; nothing else changes. Readings and choices: notes/assumptions/13, 14, 21. -/
def Obligations.TimingRecoveryFollowsTheLoop : Prop :=
  (
    ∀ (s : State) (sd : Side) (n : Lane) (freq : Int) (phase : Nat),
      s.calm →
      s.dev.runs (rxPage sd n) →
      s.dev.b (rxPage sd n) fLrxEn = true →
      s.dev.b (rxPage sd n) fLrxSigDet = true →
      s.dev.lg (rxPage sd n) fLoopback ≠ 2 →
      s.dev.b (rxPage sd n) fLrxCdrLock = false →
      -30000 < freq ∧ freq < 30000 →
      s.dev.g (rxPage sd n) fLrxState ≠ stTrain →
      Yields (exec (.cdrLock sd n freq phase) s) fun t =>
        t.dev.b (rxPage sd n) fLrxCdrLock = true ∧
        t.dev.g (rxPage sd n) fTrFreq = unsigned 16 freq ∧
        t.dev.g (rxPage sd n) fTrPhase = phase % 64 ∧
        Kept s t s.dev [((rxPage sd n), 0x044), ((rxPage sd n), 0x05C)] []) ∧
  (
    ∀ (s : State) (n : Lane) (freq : Int) (phase : Nat),
      s.calm →
      s.dev.runs (pLrx n) →
      s.dev.b (pLrx n) fLrxEn = true →
      s.dev.b (pLrx n) fLrxSigDet = true →
      s.dev.lg (pLrx n) fLoopback ≠ 2 →
      s.dev.b (pLrx n) fLrxCdrLock = false →
      -30000 < freq ∧ freq < 30000 →
      s.dev.laneState n = stTrain →
      Yields (exec (.cdrLock .line n freq phase) s) fun t =>
        t.dev.b (pLrx n) fLrxCdrLock = true ∧
        t.dev.g (pLrx n) fTrFreq = unsigned 16 freq ∧
        t.dev.g (pLrx n) fTrPhase = phase % 64 ∧
        t.dev.laneState n = stTrain ∧
        t.dev.g (pPacer n) fPhase = (if s.dev.g (pPacer n) fPhase =
            1 then (if s.dev.b (pLrx n) fLrxFeManual then 3 else 2) else s.dev.g (pPacer n) fPhase) ∧
        Kept s t s.dev [((pLrx n), 0x044), ((pLrx n), 0x05C), ((pPacer n), 0x044), ((pPacer n), 0x05C), ((pPacer n), 0x064)] []) ∧
  (
    ∀ (s : State) (n : Lane) (freq : Int) (phase : Nat),
      s.calm →
      s.dev.runs (pHrx n) →
      s.dev.b (pHrx n) fLrxEn = true →
      s.dev.b (pHrx n) fLrxSigDet = true →
      s.dev.lg (pHrx n) fLoopback ≠ 2 →
      s.dev.b (pHrx n) fHrxCdrLock = false →
      -30000 < freq ∧ freq < 30000 →
      s.dev.hostState n = stTrain →
      Yields (exec (.cdrLock .host n freq phase) s) fun t =>
        t.dev.b (pHrx n) fHrxCdrLock = true ∧
        t.dev.g (pHrx n) fHrxFreq = unsigned 16 freq ∧
        t.dev.g (pHrx n) fHrxPhaseTr = phase % 64 ∧
        t.dev.g (pHrx n) fHostPhase = (if s.dev.g (pHrx n) fHostPhase = 1 ∧
            (!(s.dev.hr n).wu || s.dev.b (pHrx n) fWuLock) = true then 2 else s.dev.g (pHrx n) fHostPhase) ∧
        Kept s t s.dev [((pHrx n), 0x044), ((pHrx n), 0x05C), ((pHrx n), 0x068)] []) ∧
  (
    ∀ (s : State) (sd : Side) (n : Lane) (freq : Int),
      s.calm →
      s.dev.runs (rxPage sd n) →
      s.dev.b (rxPage sd n) fLrxEn = true →
      s.dev.b (rxPage sd n) fLrxSigDet = true →
      s.dev.lg (rxPage sd n) fLoopback ≠ 2 →
      s.dev.b (rxPage sd n) fLrxCdrLock = true →
      Yields (exec (.cdrUnlock sd n freq) s) fun t =>
        t.dev.b (rxPage sd n) fLrxCdrLock = false ∧
        t.dev.g (rxPage sd n) fTrFreq = unsigned 16 (max (-30000) (min 30000 freq)) ∧
        t.dev.evt (rxPage sd n) (match sd with | .line => 3 | .host => 2) = true ∧
        Kept s t s.dev [((rxPage sd n), 0x044), ((rxPage sd n), 0x05C)] [((rxPage sd n), (match sd with | .line => 3 | .host => 2))]) ∧
  (
    ∀ (s : State) (sd : Side) (n : Lane) (high : Bool),
      s.calm →
      s.dev.runs (rxPage sd n) →
      s.dev.b (rxPage sd n) fLrxEn = true →
      s.dev.b (rxPage sd n) fLrxSigDet = true →
      s.dev.lg (rxPage sd n) fLoopback ≠ 2 →
      Yields (exec (.freqRange sd n high) s) fun t =>
        t.dev.b (rxPage sd n) fLrxCdrLock = false ∧
        t.dev.g (rxPage sd n) fTrFreq = unsigned 16 (if high then 30000 else -30000) ∧
        (sd = .line → t.dev.evt (rxPage sd n) 4 = true) ∧
        (s.dev.b (rxPage sd n) fLrxCdrLock = true → t.dev.evt (rxPage sd n) (match sd with | .line => 3 | .host => 2) = true) ∧
        (s.dev.b (rxPage sd n) fLrxCdrLock = false → t.dev.evt (rxPage sd n) (match sd with | .line => 3 | .host => 2) = s.dev.evt (rxPage sd n) (match sd with | .line => 3 | .host => 2)) ∧
        Kept s t s.dev [((rxPage sd n), 0x044), ((rxPage sd n), 0x05C)] (((rxPage sd n), (match sd with | .line => 3 | .host => 2)) :: (match sd with | .line => [((pLrx n), 4)] | .host => []))) ∧
  (
    ∀ (s : State) (n : Lane),
      s.calm →
      s.dev.runs (pLrx n) →
      s.dev.laneValid n = true →
      s.dev.b (pLrx n) fLrxCdrLock = false →
      Yields (exec (.cdrLossTimeout .line n) s) fun t =>
        t.dev.laneState n = stSeek ∧
        t.dev.b (pLrx n) fLrxSigDet = s.dev.b (pLrx n) fLrxSigDet ∧
        t.dev.g (pPacer n) fPhase = 0 ∧
        t.dev.b (pPacer n) fPcFade = false ∧
        Kept s t (((s.dev.updLrx n fun h => { h with run := none }).updPacer n fun h => { h with cand := none, pend := none, req := false, fade := none, pace := none, search := none, accepted := false }).updHtx n fun h => { h with glide := false }) ([((pLrx n), 0x044), ((pLrx n), 0x078), ((pPacer n), 0x044), ((pPacer n), 0x05C), ((pPacer n), 0x064)] ++ regsOf 0x12 (regRun 0x080 8)) [((pLrx n), 6)]) ∧
  (
    ∀ (s : State) (n : Lane),
      s.calm →
      s.dev.runs (pHrx n) →
      s.dev.hostValid n = true →
      s.dev.b (pHrx n) fHrxCdrLock = false →
      Yields (exec (.cdrLossTimeout .host n) s) fun t =>
        t.dev.hostState n = stSeek ∧
        t.dev.b (pHrx n) fHrxSigDet = s.dev.b (pHrx n) fHrxSigDet ∧
        t.dev.b (pHrx n) fWuLock = false ∧
        t.dev.g (pHrx n) fHostPhase = 0 ∧
        Kept s t { s.dev with hrx := t.dev.hrx, htx := t.dev.htx, ltx := (s.dev.updLtx n fun h => { h with glide := false }).ltx } ([((pHrx n), 0x044), ((pHrx n), 0x068), ((pHtx n), 0x044), ((pHtx n), 0x05C), ((pHtx n), 0x060)] ++ regsOf 0x12 (regRun 0x080 8)) [])

/-- AGC_DONE ends phase 2 of training: of a line lane with its gain, of a host lane with gain, peaking, taps, table and SNR.
PEAK_SEARCH_DWELL_END at phase 5 moves the peaking setting by at most its search step, or ends the search in phase 6.
TRAIN_TIMEOUT counts a failure with its source and goes to SEEK, or to FAULT with source 15 at the limit. LANE_FAULT_DWELL_END
returns from FAULT to SEEK. CLIP_WINDOW_END raises clip exactly where the count reaches its threshold on an enabled lane. Readings
and choices: notes/assumptions/14, 17, 21. -/
def Obligations.LineTrainingSteps : Prop :=
  (
    ∀ (s : State) (n : Lane) (gain peak snr : Nat),
      s.calm →
      s.dev.runs (pLrx n) →
      s.dev.laneState n = stTrain →
      s.dev.g (pPacer n) fPhase = 2 →
      Yields (exec (.agcDone .line n gain peak snr) s) fun t =>
        t.dev.g (pLrx n) fFeLiveGain = min gain 72 ∧
        t.dev.g (pPacer n) fPhase = 3 ∧
        t.dev.laneState n = stTrain ∧
        t.dev.g (pPacer n) fPaceLive = s.dev.g (pPacer n) fPaceTarget ∧
        Kept s t s.dev [((pLrx n), 0x04C), ((pPacer n), 0x044), ((pPacer n), 0x05C), ((pPacer n), 0x064)] []) ∧
  (
    ∀ (s : State) (n : Lane) (gain peak snr : Nat),
      s.calm →
      s.dev.runs (pHrx n) →
      s.dev.hostState n = stTrain →
      s.dev.g (pHrx n) fHostPhase = 2 →
      s.dev.hostSquadHere n = true →
      Yields (exec (.agcDone .host n gain peak snr) s) fun t =>
        (s.dev.b (pHrx n) fHrxFeManual = false → t.dev.g (pHrx n) fHrxGain = min gain 72 ∧ t.dev.g (pHrx n) fHrxPeak = min peak 30) ∧
        (s.dev.b (pHrx n) fHrxFeManual = true → t.dev.rd (pHrx n) 0x050 = s.dev.rd (pHrx n) 0x050) ∧
        t.dev.g (pHrx n) fHostSnr = snr % 2 ^ 16 ∧
        (∀ i, i < 24 → t.dev.rd (pHrx n) (0x100 + 4 * i) = (Config.trained s.dev.free i).zeroExtend 32) ∧
        t.dev.g (pHrx n) fHostPhase = (if (s.dev.hr n).wu then 3 else 2) ∧
        ((s.dev.hr n).wu = true → (t.dev.hr n).search.isSome = true) ∧
        Kept s t { s.dev with free := s.dev.free + 1, hrx := t.dev.hrx } ([((pHrx n), 0x050), ((pHrx n), 0x068), ((pHrx n),
            0x074)] ++ regsOf (pHrx n) (regRun 0x100 24 ++ regRun 0x180 16)) []) ∧
  (
    ∀ (s : State) (n : Lane) (snr : Nat) (x : Search),
      s.calm →
      s.dev.runs (pPacer n) →
      s.dev.laneState n = stTrain →
      s.dev.g (pPacer n) fPhase = 5 →
      s.dev.enginesHere n = true →
      (s.dev.pc n).search = some x →
      Yields (exec (.peakSearchDwellEnd n snr) s) fun t =>
        (x.climb = .back → t.dev.g (pPacer n) fPhase = 6 ∧ (t.dev.pc n).search = none) ∧
        (x.climb = .up → x.last + 5 ≤ snr → s.dev.g (pLrx n) fFeLivePeak < 24 →
            t.dev.g (pLrx n) fFeLivePeak = s.dev.g (pLrx n) fFeLivePeak + 1) ∧
        (x.climb = .down → x.last + 5 ≤ snr → s.dev.g (pLrx n) fFeLivePeak ≠ 0 →
            t.dev.g (pLrx n) fFeLivePeak = s.dev.g (pLrx n) fFeLivePeak - 1) ∧
        (t.dev.g (pPacer n) fPhase = 5 ∧ (t.dev.pc n).search.isSome = true ∨ t.dev.g (pPacer n) fPhase = 6 ∧ (t.dev.pc n).search = none) ∧
        Kept s t { s.dev with pacer := (s.dev.updPacer n fun h => { h with search := (t.dev.pc n).search }).pacer } [((pLrx n), 0x04C),
            ((pPacer n), 0x044), ((pPacer n), 0x05C), ((pPacer n), 0x064)] []) ∧
  (
    ∀ (s : State) (n : Lane),
      s.calm →
      s.dev.runs (pLrx n) →
      s.dev.laneState n = stTrain →
      s.dev.powered (pPacer n) = true →
      Yields (exec (.trainTimeout n) s) fun t =>
        t.dev.g (pPacer n) fFails = min (s.dev.g (pPacer n) fFails + 1) 15 ∧
        t.dev.evt (pPacer n) 7 = true ∧
        t.dev.laneState n = (if s.dev.g (pPacer n) fFailLim ≤ t.dev.g (pPacer n) fFails then stFault else stSeek) ∧
        (t.dev.laneState n = stFault → t.dev.evt (pLrx n) 15 = true) ∧
        (t.dev.laneState n = stSeek → t.dev.evt (pLrx n) 15 = s.dev.evt (pLrx n) 15) ∧
        Kept s t (((s.dev.updLrx n fun h => { h with run := none }).updPacer n fun h => { h with cand := none, pend := none, req := false, fade := none, pace := none, search := none, accepted := false }).updHtx n fun h => { h with glide := false }) [((pLrx n), 0x044), ((pLrx n), 0x078), ((pPacer n), 0x044), ((pPacer n), 0x05C), ((pPacer n), 0x064)] [((pPacer n), 7), ((pLrx n), 15), ((pLrx n), 6)]) ∧
  (
    ∀ (s : State) (n : Lane),
      s.calm →
      s.dev.runs (pLrx n) →
      s.dev.laneState n = stFault →
      Yields (exec (.laneFaultDwellEnd n) s) fun t =>
        t.dev.laneState n = stSeek ∧
        Kept s t s.dev [((pLrx n), 0x044)] []) ∧
  (
    ∀ (s : State) (n : Lane) (count : Nat),
      s.calm →
      s.dev.runs (pLrx n) →
      Yields (exec (.clipWindowEnd n count) s) fun t =>
        t.dev.evt (pLrx n) 2 = (s.dev.evt (pLrx n) 2 || decide (2 ^ s.dev.g (pLrx n) fAgcClipExp ≤ count) && s.dev.b (pLrx n) fLrxEn) ∧
        Kept s t s.dev [] [((pLrx n), 2)])

/-- ADC_CAL_RUN makes a request pending; outside RUN a new one raises cal_deferred. CAL_RUN_START in RUN takes a pending request:
settings sampled, cal_busy set. CAL_OBSERVATION_END writes the targets into SLICE_MEAS. CAL_APPLY outside a Handoff moves each
SLICE_COR by the sampled mode, enables and limit, counts and stamps the run with the previous corrections kept, and completes with
source 5; a run with a mode above 1 or no enable applies nothing. Readings and choices: notes/assumptions/13, 17, 21. -/
def Obligations.ConverterCalibrationRuns : Prop :=
  (
    ∀ (s : State) (w : Who) (n : Lane) (v : Word),
      s.calm →
      s.dev.takes w (pLrx n) 0x060 →
      Yields (exec (.adcCalRun w n v) s) fun t =>
        t.dev.rd (pLrx n) 0x060 = storeWord (pLrx n) 0x060 (s.dev.rd (pLrx n) 0x060) (v ||| 8) ∧
        t.dev.b (pLrx n) fLrxCalPending = true ∧
        t.dev.evt (pLrx n) 8 = (s.dev.evt (pLrx n) 8 || !s.dev.b (pLrx n) fLrxCalPending && s.dev.laneState n != stRun) ∧
        Kept s t s.dev.answered [((pLrx n), 0x060), ((pLrx n), 0x044)] [((pLrx n), 8)]) ∧
  (
    ∀ (s : State) (n : Lane),
      s.calm →
      s.dev.runs (pLrx n) →
      (s.dev.lx n).run = none →
      s.dev.laneState n = stRun →
      s.dev.b (pLrx n) fLrxCalPending = true →
      Yields (exec (.calRunStart n) s) fun t =>
        t.dev.b (pLrx n) fLrxCalBusy = true ∧
        t.dev.b (pLrx n) fLrxCalPending = false ∧
        Kept s t (s.dev.updLrx n fun h => { h with run := some ⟨false, false, s.dev.g (pLrx n) fAdcStep, s.dev.g (pLrx n) fAdcEn, s.dev.rd (pLrx n) 0x064⟩ }) [((pLrx n), 0x044)] []) ∧
  (
    ∀ (s : State) (n : Lane),
      s.calm →
      s.dev.runs (pLrx n) →
      (s.dev.lx n).run = none →
      s.dev.laneState n = stTrain →
      s.dev.g (pPacer n) fPhase = 3 →
      Yields (exec (.calRunStart n) s) fun t =>
        t.dev.b (pLrx n) fLrxCalBusy = true ∧
        t.dev.b (pLrx n) fLrxCalPending = false ∧
        Kept s t (s.dev.updLrx n fun h => { h with run := some ⟨true, false, 0, s.dev.g (pLrx n) fAdcEn, s.dev.rd (pLrx n) 0x064⟩ }) [((pLrx n), 0x044)] []) ∧
  (
    ∀ (s : State) (n : Lane) (targets : List Word) (r : CalRun),
      s.calm →
      s.dev.runs (pLrx n) →
      (s.dev.lx n).run = some r →
      r.computed = false →
      Yields (exec (.calObservationEnd n targets) s) fun t =>
        (∀ k, k < 256 → t.dev.rd (pLrx n) (0x800 + 4 * k) = targets.getD k 0 &&& 0x0FFFFFFF) ∧
        t.dev.b (pLrx n) fCalMeasValid = true ∧
        Kept s t (s.dev.updLrx n fun h => { h with run := some { r with computed := true } }) (((pLrx n),
            0x078) :: regsOf (pLrx n) (regRun 0x800 256)) []) ∧
  (
    ∀ (s : State) (n : Lane) (r : CalRun),
      s.calm →
      s.dev.runs (pLrx n) →
      (s.dev.lx n).run = some r →
      r.computed = true →
      r.forced = false →
      (s.dev.pc n).fade = none →
      Yields (exec (.calApply n) s) fun t =>
        (r.applies = true → (∀ k, k < 256 →
            t.dev.rd (pLrx n) (0x400 + 4 * k) = (sliceMove r (s.dev.rd (pLrx n) (0x400 + 4 * k)) (s.dev.rd (pLrx n) (0x800 + 4 * k))).1) ∧
            t.dev.rd (pLrx n) 0x068 = s.dev.rd (pLrx n) 0x068 + 1 ∧ t.dev.rd64 (pLrx n) 0x070 = s.dev.tk) ∧
        (r.applies = false → ∀ o ∈ [0x068, 0x070, 0x074] ++ regRun 0x400 256, t.dev.rd (pLrx n) o = s.dev.rd (pLrx n) o) ∧
        t.dev.b (pLrx n) fCalApplied = r.applies ∧
        t.dev.b (pLrx n) fCalAbandoned = false ∧
        t.dev.b (pLrx n) fLrxCalBusy = false ∧
        t.dev.evt (pLrx n) 5 = true ∧
        Kept s t (s.dev.updLrx n fun h => { h with run := none, prev := if r.applies then some ⟨s.dev.rds (pLrx n) 0x400 256⟩ else h.prev }) ([((pLrx n), 0x044), ((pLrx n), 0x068), ((pLrx n), 0x070), ((pLrx n), 0x074), ((pLrx n), 0x078), (0x17, 0x050 + 4 * n.val), (0x17, 0x04C)] ++ regsOf (pLrx n) (regRun 0x400 256)) [((pLrx n), 5), ((pLrx n), 7)])

/-- PRBS_LOCK locks a checker whose pattern is on, with source 9 on a line lane. PRBS_LOCK_LOST unlocks it, counts the loss and raises
its source. PRBS_ERR and CNT_OVF: a locked checker adds to three 48-bit counters; a wrap raises cnt_ovf, and ERR_BIT reaching
2^err_exp raises prbs_err once per clear. PRBS_SNAP copies the counters to SNAP; PRBS_CLR without snap zeroes them and the loss
count. Nothing else changes. Readings and choices: notes/assumptions/13, 17. -/
def Obligations.PatternCheckersCount : Prop :=
  (
    ∀ (s : State) (sd : Side) (n : Lane),
      s.calm →
      s.dev.runs (rxPage sd n) →
      s.dev.g (rxPage sd n) fPrbsPattern ≠ 0 →
      Yields (exec (.prbsLock sd n) s) fun t =>
        t.dev.b (rxPage sd n) fPrbsLock = true ∧
        (sd = .line → t.dev.evt (pLrx n) 9 = (s.dev.evt (pLrx n) 9 || !s.dev.b (pLrx n) fPrbsLock)) ∧
        Kept s t s.dev [((rxPage sd n), 0x084)] (match sd with | .line => [((pLrx n), 9)] | .host => [])) ∧
  (
    ∀ (s : State) (sd : Side) (n : Lane),
      s.calm →
      s.dev.runs (rxPage sd n) →
      s.dev.b (rxPage sd n) fPrbsLock = true →
      Yields (exec (.prbsLockLost sd n) s) fun t =>
        t.dev.b (rxPage sd n) fPrbsLock = false ∧
        t.dev.g (rxPage sd n) fPrbsLoss = min (s.dev.g (rxPage sd n) fPrbsLoss + 1) 255 ∧
        t.dev.evt (rxPage sd n) (match sd with | .line => 10 | .host => 7) = true ∧
        Kept s t s.dev [((rxPage sd n), 0x084)] [((rxPage sd n), match sd with | .line => 10 | .host => 7)]) ∧
  (
    ∀ (s : State) (sd : Side) (n : Lane) (bits errBits errSyms : Nat),
      s.calm →
      s.dev.runs (rxPage sd n) →
      s.dev.b (rxPage sd n) fPrbsLock = true →
      Yields (exec (.prbsErr sd n bits errBits errSyms) s) fun t =>
        t.dev.rd64 (rxPage sd n) 0x088 = (count48 (s.dev.rd64 (rxPage sd n) 0x088) bits).1 ∧
        t.dev.rd64 (rxPage sd n) 0x090 = (count48 (s.dev.rd64 (rxPage sd n) 0x090) errBits).1 ∧
        t.dev.rd64 (rxPage sd n) 0x098 = (count48 (s.dev.rd64 (rxPage sd n) 0x098) errSyms).1 ∧
        t.dev.evt (rxPage sd n) (match sd with | .line => 12 | .host => 9) = (s.dev.evt (rxPage sd n) (match sd with | .line => 12 | .host => 9) || (count48 (s.dev.rd64 (rxPage sd n) 0x088) bits).2 || (count48 (s.dev.rd64 (rxPage sd n) 0x090) errBits).2 || (count48 (s.dev.rd64 (rxPage sd n) 0x098) errSyms).2) ∧
        (2 ^ s.dev.g (rxPage sd n) fPrbsErrExp ≤ (t.dev.rd64 (rxPage sd n) 0x090).toNat → t.dev.evt (rxPage sd n) (match sd with | .line => 11 | .host => 8) = (s.dev.evt (rxPage sd n) (match sd with | .line => 11 | .host => 8) || !match sd with | .line => (s.dev.lx n).prbsErr | .host => (s.dev.hr n).prbsErr)) ∧
        Kept s t (match sd with | .line => s.dev.updLrx n fun h => { h with prbsErr := (t.dev.lx n).prbsErr } | .host => s.dev.updHrx n fun h => { h with prbsErr := (t.dev.hr n).prbsErr }) (regsOf (rxPage sd n) (regRun 0x088 6)) [((rxPage sd n), (match sd with | .line => 11 | .host => 8)), ((rxPage sd n), (match sd with | .line => 12 | .host => 9))]) ∧
  (
    ∀ (s : State) (sd : Side) (n : Lane) (bits errBits errSyms : Nat),
      s.calm →
      s.dev.runs (rxPage sd n) →
      s.dev.b (rxPage sd n) fPrbsLock = true →
      Yields (exec (.cntOvf sd n bits errBits errSyms) s) fun t =>
        t.dev.rd64 (rxPage sd n) 0x088 = (count48 (s.dev.rd64 (rxPage sd n) 0x088) bits).1 ∧
        t.dev.rd64 (rxPage sd n) 0x090 = (count48 (s.dev.rd64 (rxPage sd n) 0x090) errBits).1 ∧
        t.dev.rd64 (rxPage sd n) 0x098 = (count48 (s.dev.rd64 (rxPage sd n) 0x098) errSyms).1 ∧
        t.dev.evt (rxPage sd n) (match sd with | .line => 12 | .host => 9) = (s.dev.evt (rxPage sd n) (match sd with | .line => 12 | .host => 9) || (count48 (s.dev.rd64 (rxPage sd n) 0x088) bits).2 || (count48 (s.dev.rd64 (rxPage sd n) 0x090) errBits).2 || (count48 (s.dev.rd64 (rxPage sd n) 0x098) errSyms).2) ∧
        (2 ^ s.dev.g (rxPage sd n) fPrbsErrExp ≤ (t.dev.rd64 (rxPage sd n) 0x090).toNat → t.dev.evt (rxPage sd n) (match sd with | .line => 11 | .host => 8) = (s.dev.evt (rxPage sd n) (match sd with | .line => 11 | .host => 8) || !match sd with | .line => (s.dev.lx n).prbsErr | .host => (s.dev.hr n).prbsErr)) ∧
        Kept s t (match sd with | .line => s.dev.updLrx n fun h => { h with prbsErr := (t.dev.lx n).prbsErr } | .host => s.dev.updHrx n fun h => { h with prbsErr := (t.dev.hr n).prbsErr }) (regsOf (rxPage sd n) (regRun 0x088 6)) [((rxPage sd n), (match sd with | .line => 11 | .host => 8)), ((rxPage sd n), (match sd with | .line => 12 | .host => 9))]) ∧
  (
    ∀ (s : State) (sd : Side) (w : Who) (n : Lane) (v : Word),
      s.calm →
      s.dev.takes w (rxPage sd n) 0x080 →
      v.getLsbD 5 = false →
      Yields (exec (.prbsSnap sd w n v) s) fun t =>
        t.dev.rds (rxPage sd n) 0x0A0 6 = s.dev.rds (rxPage sd n) 0x088 6 ∧
        t.dev.rd (rxPage sd n) 0x080 = storeWord (rxPage sd n) 0x080 (s.dev.rd (rxPage sd n) 0x080) (v ||| 0x10) ∧
        Kept s t s.dev.answered ([((rxPage sd n), 0x080), ((rxPage sd n), 0x084)] ++ regsOf (rxPage sd n) (regRun 0x0A0 6)) []) ∧
  (
    ∀ (s : State) (sd : Side) (w : Who) (n : Lane) (v : Word),
      s.calm →
      s.dev.takes w (rxPage sd n) 0x080 →
      v.getLsbD 4 = false →
      Yields (exec (.prbsClr sd w n v) s) fun t =>
        (∀ o ∈ regRun 0x088 6, t.dev.rd (rxPage sd n) o = 0) ∧
        t.dev.g (rxPage sd n) fPrbsLoss = 0 ∧
        t.dev.rd (rxPage sd n) 0x080 = storeWord (rxPage sd n) 0x080 (s.dev.rd (rxPage sd n) 0x080) (v ||| 0x20) ∧
        Kept s t (match sd with | .line => s.dev.answered.updLrx n fun h => { h with prbsErr := false } | .host => s.dev.answered.updHrx n fun h => { h with prbsErr := false }) ([((rxPage sd n), 0x080), ((rxPage sd n), 0x084)] ++ regsOf (rxPage sd n) (regRun 0x088 6)) [])

/-- PACER_CYCLE. In RUN with Pacer adaptation, a block that passes the gate and is not skipped, whose candidate is better than the
live set by the margin: the candidate is written to the inactive bank, a Handoff is requested, the acceptance is counted, stamped
and raised as source 1, and a new candidate is trained (free values). A block that fails the gate, below the run that sets the
gate hold, counts as a gate failure and nothing else. In TRAIN phase 6 with timing lock and snr_min reached, the lane enters RUN
with source 0. Readings and choices: notes/assumptions/4, 6, 17, 21, 22. -/
def Obligations.PacerCycleAcceptsAndGates : Prop :=
  (
    ∀ (s : State) (n : Lane) (b : Block) (e : EqSet),
      s.calm →
      s.dev.runs (pPacer n) →
      s.dev.laneState n = stRun →
      s.dev.b (pPacer n) fPcAuto = true →
      s.dev.b (pPacer n) fHoldGate = false →
      s.dev.gatePasses n b = true →
      s.dev.blockSkipped n b = false →
      (s.dev.pc n).cand = some e →
      e.ffe.length = 64 ∧ e.volt.length = 15 ∧ e.mlse.length = 64 →
      (s.dev.pc n).fade = none →
      (s.dev.pc n).req = false →
      b.snrRef + s.dev.g (pPacer n) fMargin ≤ b.snrCand →
      Yields (exec (.pacerCycle n b) s) fun t =>
        t.dev.getSet n (1 - s.dev.liveBank n) = e ∧
        t.dev.rd (pPacer n) 0x078 = s.dev.rd (pPacer n) 0x078 + 1 ∧
        t.dev.rd64 (pPacer n) 0x090 = s.dev.tk ∧
        t.dev.evt (pPacer n) 1 = true ∧
        t.dev.g (pPacer n) fSnrRef = b.snrRef % 2 ^ 16 ∧
        t.dev.g (pPacer n) fSnrCand = b.snrCand % 2 ^ 16 ∧
        t.dev.b (pPacer n) fGatePass = true ∧
        Kept s t { (s.dev.updPacer n fun h => { h with cand := some (trainedSet s.dev.free), req := true, failRun := 0, passRun := h.passRun + 1 }) with free := s.dev.free + 1 } (regsOf (pPacer n) ([0x070, 0x078, 0x090, 0x094, 0x098, 0x09C] ++ (eqOffs.map (bankOff (1 - s.dev.liveBank n) + ·)))) [((pPacer n), 1)]) ∧
  (
    ∀ (s : State) (n : Lane) (b : Block),
      s.calm →
      s.dev.runs (pPacer n) →
      s.dev.laneValid n = true →
      s.dev.gatePasses n b = false →
      (s.dev.pc n).failRun + 1 < s.dev.g (pPacer n) fFailN →
      Yields (exec (.pacerCycle n b) s) fun t =>
        t.dev.rd (pPacer n) 0x084 = s.dev.rd (pPacer n) 0x084 + 1 ∧
        t.dev.b (pPacer n) fGatePass = false ∧
        t.dev.g (pPacer n) fGateTrans = b.trans * 100 / 4096 % 2 ^ 7 ∧
        Kept s t (s.dev.updPacer n fun h => { h with failRun := h.failRun + 1, passRun := 0 }) (regsOf (pPacer n) [0x084, 0x098,
            0x09C]) []) ∧
  (
    ∀ (s : State) (n : Lane) (b : Block),
      s.calm →
      s.dev.runs (pPacer n) →
      s.dev.laneState n = stTrain →
      s.dev.g (pPacer n) fPhase = 6 →
      s.dev.g (pPacer n) fHoldSrc = 0 →
      s.dev.b (pPacer n) fPcAuto = true →
      s.dev.gatePasses n b = true →
      s.dev.blockSkipped n b = false →
      s.dev.b (pLrx n) fLrxCdrLock = true →
      s.dev.g (pPacer n) fSnrMin ≤ b.snrCand →
      s.dev.g (pPacer n) fPaceLive = s.dev.g (pPacer n) fPaceTarget →
      Yields (exec (.pacerCycle n b) s) fun t =>
        t.dev.laneState n = stRun ∧
        t.dev.evt (pPacer n) 0 = true ∧
        t.dev.g (pPacer n) fPhase = 0 ∧
        t.dev.g (pPacer n) fFails = 0 ∧
        t.dev.g (pPacer n) fLastMs = min b.ms 65535 ∧
        (t.dev.pc n).accepted = true ∧
        t.dev.rd64 (pPacer n) 0x090 = s.dev.tk ∧
        t.dev.getSet n (s.dev.liveBank n) = trainedSet s.dev.free ∧
        Kept s t { (s.dev.updPacer n fun h => { h with cand := some (trainedSet (s.dev.free + 1)), accepted := true, search := none, failRun := 0, passRun := 0 }) with free := s.dev.free + 2, htx := if s.dev.segmented n then s.dev.htx else (s.dev.updHtx n fun h => { h with glide := true }).htx } (((pLrx n), 0x044) :: regsOf (pPacer n) ([0x044, 0x064, 0x070, 0x090, 0x094, 0x098, 0x09C] ++ eqOffs.map (bankOff (s.dev.liveBank n) + ·))) [((pPacer n), 0)])

/-- HANDOFF_START in RUN or HOLD: a requested swap begins at step 1 with the zone exponent taken; a pace change whose units are ready
builds its target in the inactive bank and begins. HANDOFF_STEP moves one step up to 16. HANDOFF_DONE at step 16 of a swap:
live_bank changes, HANDOFF_CNT counts, source 2; a deferred candidate is then written to the bank that is now inactive and
requested. Nothing else changes. Readings and choices: notes/assumptions/13, 22. -/
def Obligations.HandoffMovesTheBanks : Prop :=
  (
    ∀ (s : State) (n : Lane),
      s.calm →
      s.dev.runs (pPacer n) →
      s.dev.laneValid n = true →
      (s.dev.pc n).fade = none →
      (s.dev.pc n).req = true →
      Yields (exec (.handoffStart n) s) fun t =>
        t.dev.b (pPacer n) fPcFade = true ∧
        t.dev.g (pPacer n) fHandoffStep = 1 ∧
        t.dev.g (pPacer n) fLiveBank = s.dev.g (pPacer n) fLiveBank ∧
        Kept s t (s.dev.updPacer n fun h => { h with fade := some .swap, req := false, zone := s.dev.g (pPacer n) fZoneExp }) [((pPacer n),
            0x044)] []) ∧
  (
    ∀ (s : State) (n : Lane) (l : Nat),
      s.calm →
      s.dev.runs (pPacer n) →
      s.dev.laneValid n = true →
      (s.dev.pc n).fade = none →
      (s.dev.pc n).req = false →
      (s.dev.pc n).pace = some ⟨.waiting true, l⟩ →
      Yields (exec (.handoffStart n) s) fun t =>
        t.dev.b (pPacer n) fPcFade = true ∧
        t.dev.g (pPacer n) fHandoffStep = 1 ∧
        (∀ i, i < 64 → t.dev.rd (pPacer n) (bankOff (1 - s.dev.liveBank n) + 4 * i) =
            (if tapOn l (s.dev.pc n).main i then (if tapOn (s.dev.g (pPacer n) fPaceLive) (s.dev.pc n).main i then s.dev.rd (pPacer n) (bankOff (s.dev.liveBank n) + 4 * i) else s.dev.rd (pPacer n) (0xC00 + 4 * i)) else if tapOn (s.dev.g (pPacer n) fPaceLive) (s.dev.pc n).main i then 0 else s.dev.rd (pPacer n) (bankOff (s.dev.liveBank n) + 4 * i))) ∧
        Kept s t (s.dev.updPacer n fun h => { h with fade := some .pace, zone := s.dev.g (pPacer n) fZoneExp, pace := some ⟨.fading, l⟩ }) (((pPacer n), 0x044) :: regsOf (pPacer n) ((eqOffs.map (bankOff (1 - s.dev.liveBank n) + ·)) ++ regRun 0xC00 64 ++ regRun 0xD00 15)) []) ∧
  (
    ∀ (s : State) (n : Lane),
      s.calm →
      s.dev.runs (pPacer n) →
      (s.dev.pc n).fade.isSome = true →
      s.dev.g (pPacer n) fHandoffStep < 16 →
      Yields (exec (.handoffStep n) s) fun t =>
        t.dev.g (pPacer n) fHandoffStep = s.dev.g (pPacer n) fHandoffStep + 1 ∧
        Kept s t s.dev [((pPacer n), 0x044)] []) ∧
  (
    ∀ (s : State) (n : Lane),
      s.calm →
      s.dev.runs (pPacer n) →
      (s.dev.pc n).fade = some .swap →
      s.dev.g (pPacer n) fHandoffStep = 16 →
      (s.dev.pc n).pend = none →
      Yields (exec (.handoffDone n) s) fun t =>
        t.dev.g (pPacer n) fLiveBank = 1 - s.dev.g (pPacer n) fLiveBank ∧
        t.dev.b (pPacer n) fPcFade = false ∧
        t.dev.g (pPacer n) fHandoffStep = 0 ∧
        t.dev.rd (pPacer n) 0x08C = s.dev.rd (pPacer n) 0x08C + 1 ∧
        t.dev.evt (pPacer n) 2 = true ∧
        Kept s t (s.dev.updPacer n fun h => { h with fade := none }) [((pPacer n), 0x044), ((pPacer n), 0x08C)] [((pPacer n), 2)]) ∧
  (
    ∀ (s : State) (n : Lane) (e : EqSet),
      s.calm →
      s.dev.runs (pPacer n) →
      (s.dev.pc n).fade = some .swap →
      s.dev.g (pPacer n) fHandoffStep = 16 →
      (s.dev.pc n).pend = some (.candidate e) →
      (s.dev.pc n).req = false →
      (s.dev.pc n).pace = none →
      e.ffe.length = 64 ∧ e.volt.length = 15 ∧ e.mlse.length = 64 →
      Yields (exec (.handoffDone n) s) fun t =>
        t.dev.g (pPacer n) fLiveBank = 1 - s.dev.g (pPacer n) fLiveBank ∧
        t.dev.b (pPacer n) fPcFade = false ∧
        t.dev.b (pPacer n) fPcSwapPending = false ∧
        t.dev.rd (pPacer n) 0x08C = s.dev.rd (pPacer n) 0x08C + 1 ∧
        t.dev.evt (pPacer n) 2 = true ∧
        t.dev.getSet n (s.dev.liveBank n) = e ∧
        Kept s t (s.dev.updPacer n fun h => { h with fade := none, pend := none, req := true }) (regsOf (pPacer n) ([0x044,
            0x08C] ++ eqOffs.map (bankOff (s.dev.liveBank n) + ·))) [((pPacer n), 2)])

/-- HOLD_REQ (auto unchanged, no swap or restart): the host hold reason takes its bit, and RUN and HOLD follow the hold reasons.
PACER_AUTO (hold_req unchanged, no swap or restart): turning adaptation off drops the candidate and a deferred candidate and
zeroes the candidate SNR; turning it on starts without a candidate. PACER_SWAP in manual mode requests a Handoff, or defers it
behind one in progress, replacing a deferred one with source 3. PACER_RESTART drops the candidate and a deferred one. Nothing else
changes. PACE_CFG_WRITE stores the host limit; the target is the lower of it and the thermal level, and in RUN or HOLD with no
change in progress a target other than the live level starts a pace change from step 1 and drops the candidate. PACE_UNITS_READY
lets an upward change go on. PACE_APPLIED at the boundary, with no newer level and no deferred swap: the live level and the MLSE
state count change, source 6. Nothing else changes. Readings and choices: notes/assumptions/13, 22. -/
def Obligations.PacerControlAndPaceChanges : Prop :=
  (
    ∀ (s : State) (w : Who) (n : Lane) (v : Word),
      s.calm →
      s.dev.takes w (pPacer n) 0x040 →
      v.getLsbD 0 = s.dev.b (pPacer n) fPcAuto →
      v.getLsbD 2 = false →
      v.getLsbD 3 = false →
      Yields (exec (.holdReq w n v) s) fun t =>
        t.dev.b (pPacer n) fHoldHost = v.getLsbD 1 ∧
        t.dev.laneState n = (if v.getLsbD 1 = s.dev.b (pPacer n) fHoldHost then s.dev.laneState n else if s.dev.laneState n = stRun ∧
            t.dev.g (pPacer n) fHoldSrc ≠ 0 then stHold else if s.dev.laneState n = stHold ∧
            t.dev.g (pPacer n) fHoldSrc = 0 then stRun else s.dev.laneState n) ∧
        (∀ m, m ≠ n → t.dev.lx m = s.dev.lx m ∧ t.dev.pc m = s.dev.pc m) ∧
        Kept s t { s.dev.answered with lrx := t.dev.lrx, pacer := t.dev.pacer } [((pPacer n), 0x040), ((pPacer n), 0x044), ((pLrx n),
            0x044), ((pLrx n), 0x078)] [((pLrx n), 6)]) ∧
  (
    ∀ (s : State) (w : Who) (n : Lane) (v : Word),
      s.calm →
      s.dev.takes w (pPacer n) 0x040 →
      v.getLsbD 1 = s.dev.b (pPacer n) fHoldHost →
      v.getLsbD 2 = false →
      v.getLsbD 3 = false →
      Yields (exec (.pacerAuto w n v) s) fun t =>
        t.dev.b (pPacer n) fPcAuto = v.getLsbD 0 ∧
        (s.dev.b (pPacer n) fPcAuto ≠ v.getLsbD 0 → (t.dev.pc n).cand = none) ∧
        (s.dev.b (pPacer n) fPcAuto = true → v.getLsbD 0 = false → t.dev.g (pPacer n) fSnrCand = 0 ∧
            (t.dev.pc n).pend ∈ [none, some .manual]) ∧
        (s.dev.b (pPacer n) fPcAuto = v.getLsbD 0 → t.dev.pacer = s.dev.pacer ∧ t.dev.rd (pPacer n) 0x070 = s.dev.rd (pPacer n) 0x070) ∧
        Kept s t (s.dev.answered.updPacer n fun h => { h with cand := (t.dev.pc n).cand, pend := (t.dev.pc n).pend }) [((pPacer n), 0x040),
            ((pPacer n), 0x044), ((pPacer n), 0x070)] []) ∧
  (
    ∀ (s : State) (w : Who) (n : Lane) (v : Word),
      s.calm →
      s.dev.takes w (pPacer n) 0x040 →
      v.getLsbD 1 = s.dev.b (pPacer n) fHoldHost →
      v.getLsbD 0 = false →
      s.dev.b (pPacer n) fPcAuto = false →
      s.dev.laneValid n = true →
      Yields (exec (.pacerSwap w n v) s) fun t =>
        (s.dev.swapBusy n = false → (s.dev.pc n).pace = none → (t.dev.pc n).req = true ∧ (t.dev.pc n).pend = (s.dev.pc n).pend) ∧
        ((s.dev.swapBusy n || (s.dev.pc n).pace.isSome) = true → (t.dev.pc n).pend = some .manual ∧
            t.dev.b (pPacer n) fPcSwapPending = true ∧ (t.dev.pc n).req = (s.dev.pc n).req) ∧
        ((s.dev.swapBusy n || (s.dev.pc n).pace.isSome) = true → (s.dev.pc n).pend.isSome = true →
            t.dev.rd (pPacer n) 0x080 = s.dev.rd (pPacer n) 0x080 + 1 ∧ t.dev.evt (pPacer n) 3 = true) ∧
        Kept s t (s.dev.answered.updPacer n fun h => { h with req := (t.dev.pc n).req, pend := (t.dev.pc n).pend }) [((pPacer n), 0x040),
            ((pPacer n), 0x044), ((pPacer n), 0x080)] [((pPacer n), 3)]) ∧
  (
    ∀ (s : State) (w : Who) (n : Lane) (v : Word),
      s.calm →
      s.dev.takes w (pPacer n) 0x040 →
      v.getLsbD 1 = s.dev.b (pPacer n) fHoldHost →
      v.getLsbD 0 = true →
      s.dev.b (pPacer n) fPcAuto = true →
      Yields (exec (.pacerRestart w n v) s) fun t =>
        (t.dev.pc n).cand = none ∧
        (t.dev.pc n).pend = (if (s.dev.pc n).pend = some .manual then some .manual else none) ∧
        Kept s t (s.dev.answered.updPacer n fun h => { h with cand := none, pend := (t.dev.pc n).pend }) [((pPacer n), 0x040), ((pPacer n),
            0x044)] []) ∧
  (
    ∀ (s : State) (w : Who) (n : Lane) (v : Word),
      s.calm →
      s.dev.takes w (pPacer n) 0x058 →
      s.dev.laneState n ∉ [stTrain, stRun, stHold] →
      Yields (exec (.paceCfgWrite w n v) s) fun t =>
        t.dev.rd (pPacer n) 0x058 = storeWord (pPacer n) 0x058 (s.dev.rd (pPacer n) 0x058) v ∧
        t.dev.g (pPacer n) fPaceTarget = min (t.dev.g (pPacer n) fPaceMax) (s.dev.g (pPacer n) fPaceThermal) ∧
        Kept s t s.dev.answered [((pPacer n), 0x058), ((pPacer n), 0x05C)] []) ∧
  (
    ∀ (s : State) (w : Who) (n : Lane) (v : Word),
      s.calm →
      s.dev.takes w (pPacer n) 0x058 →
      s.dev.laneValid n = true →
      (s.dev.pc n).pace = none →
      Yields (exec (.paceCfgWrite w n v) s) fun t =>
        t.dev.rd (pPacer n) 0x058 = storeWord (pPacer n) 0x058 (s.dev.rd (pPacer n) 0x058) v ∧
        t.dev.g (pPacer n) fPaceTarget = min (t.dev.g (pPacer n) fPaceMax) (s.dev.g (pPacer n) fPaceThermal) ∧
        t.dev.g (pPacer n) fPaceLive = s.dev.g (pPacer n) fPaceLive ∧
        (t.dev.g (pPacer n) fPaceTarget ≠ s.dev.g (pPacer n) fPaceTarget → t.dev.g (pPacer n) fPaceTarget ≠ s.dev.g (pPacer n) fPaceLive →
            (t.dev.pc n).pace = some ⟨.waiting (decide (t.dev.g (pPacer n) fPaceTarget < s.dev.g (pPacer n) fPaceLive)),
            t.dev.g (pPacer n) fPaceTarget⟩ ∧ t.dev.b (pPacer n) fPaceBusy = true ∧ (t.dev.pc n).cand = none) ∧
        (t.dev.g (pPacer n) fPaceTarget = s.dev.g (pPacer n) fPaceTarget → t.dev.pacer = s.dev.pacer)) ∧
  (
    ∀ (s : State) (n : Lane) (l : Nat),
      s.calm →
      s.dev.runs (pPacer n) →
      (s.dev.pc n).pace = some ⟨.waiting false, l⟩ →
      Yields (exec (.paceUnitsReady n) s) fun t =>
        (t.dev.pc n).pace = some ⟨.waiting true, l⟩ ∧
        Kept s t (s.dev.updPacer n fun h => { h with pace := some ⟨.waiting true, l⟩ }) [] []) ∧
  (
    ∀ (s : State) (n : Lane) (l : Nat),
      s.calm →
      s.dev.runs (pPacer n) →
      (s.dev.pc n).pace = some ⟨.boundary, l⟩ →
      s.dev.g (pPacer n) fPaceTarget = l →
      (s.dev.pc n).pend = none →
      Yields (exec (.paceApplied n) s) fun t =>
        t.dev.g (pPacer n) fPaceLive = l ∧
        t.dev.b (pPacer n) fMlse16 = decide (3 ≤ l) ∧
        t.dev.b (pPacer n) fPaceBusy = false ∧
        t.dev.evt (pPacer n) 6 = true ∧
        Kept s t (s.dev.updPacer n fun h => { h with pace := none, cand := none }) [((pPacer n), 0x044), ((pPacer n), 0x05C)] [((pPacer n),
            6)])

/-- LTX_EN_SET takes OFF to START with the start reason and its settings. LTX_EN_CLEAR goes to OFF: a fade ends with the newest set
live, runs and requests end. LTX_START_POWERED begins the enable run. UNSQUELCH_RAMP_STEP and RAMP_END move and end the ramp: the
start reason clears, squelch_off is raised, START is left. SQUELCH_REQ and FOLLOW_CLR give the host and clr reasons their levels;
a reason that sets silences a driven output with squelch_on, and the last one that clears on a running stage starts a ramp.
OUT_FAULT sets its reason. On line and host lanes as they have them; nothing else changes. Readings and choices:
notes/assumptions/13, 23. -/
def Obligations.TransmitterStartAndSquelch : Prop :=
  (
    ∀ (s : State) (w : Who) (n : Lane) (v : Word),
      s.calm →
      s.dev.takes w (pLtx n) 0x040 →
      Yields (exec (.ltxEnSet w n v) s) fun t =>
        t.dev.rd (pLtx n) 0x040 = storeWord (pLtx n) 0x040 (s.dev.rd (pLtx n) 0x040) (v ||| 1) ∧
        (s.dev.txState n = txOff → t.dev.txState n = txStart ∧ t.dev.b (pLtx n) (fSq sqStart) = true ∧
            t.dev.b (pLtx n) (fSq sqOutFault) = false ∧ t.dev.g (pLtx n) fSkewLiveCoarse = s.dev.g (pLtx n) fSkewCoarse) ∧
        (s.dev.txState n ≠ txOff → t.dev.rd (pLtx n) 0x044 = s.dev.rd (pLtx n) 0x044 ∧ t.dev.rd (pLtx n) 0x05C = s.dev.rd (pLtx n) 0x05C) ∧
        Kept s t (if s.dev.txState n =
            txOff then s.dev.answered.updLtx n fun h => { h with powered := false, step5 := false, invert := t.dev.g (pLtx n) fLtxInvert, cm := s.dev.g (pLtx n) fOutCm, ramping := false, ramp := 0 } else s.dev.answered) (regsOf (pLtx n) [0x040, 0x044, 0x05C]) []) ∧
  (
    ∀ (s : State) (w : Who) (n : Lane) (v : Word),
      s.calm →
      s.dev.takes w (pLtx n) 0x040 →
      s.dev.txState n ≠ txOff →
      (s.dev.tx n).pend = none →
      (s.dev.tx n).copy = none →
      Yields (exec (.ltxEnClear w n v) s) fun t =>
        t.dev.txState n = txOff ∧
        t.dev.b (pLtx n) (fSq sqStart) = false ∧
        t.dev.b (pLtx n) fLtxFade = false ∧
        t.dev.g (pLtx n) fFadeStep = 0 ∧
        t.dev.b (pLtx n) fLtxCalBusy = false ∧
        t.dev.b (pLtx n) fLtxCalPending = false ∧
        t.dev.ltxLive n = (if s.dev.b (pLtx n) fLtxFade || (s.dev.tx n).req then 1 - s.dev.ltxLive n else s.dev.ltxLive n) ∧
        t.dev.g (pLtx n) fLiveSwing = s.dev.g (pLtx n) fOutSwing ∧
        t.dev.g (pLtx n) fSkewLiveFine = s.dev.g (pLtx n) fSkewFine ∧
        t.dev.g (pLtx n) fSkewLiveCoarse = s.dev.g (pLtx n) fSkewCoarse ∧
        Kept s t (s.dev.answered.updLtx n fun h => { h with req := false, run := none, again := false, wait := .none, powered := false, step5 := false, ramping := false, ramp := 0 }) (regsOf (pLtx n) [0x040, 0x044, 0x04C, 0x05C]) []) ∧
  (
    ∀ (s : State) (w : Who) (n : Lane) (v : Word) (ws : List Word),
      s.calm →
      s.dev.takes w (pLtx n) 0x040 →
      s.dev.txState n ≠ txOff →
      (s.dev.tx n).pend = some ws →
      Yields (exec (.ltxEnClear w n v) s) fun t =>
        t.dev.txState n = txOff ∧
        t.dev.b (pLtx n) fLtxFade = false ∧
        t.dev.ltxLive n = s.dev.ltxLive n ∧
        (∀ e ∈ setOffs.zip ws, t.dev.rd (pLtx n) (ltxBank (s.dev.ltxLive n) + e.1) = e.2) ∧
        Kept s t (s.dev.answered.updLtx n fun h => { h with pend := none, copy := none, req := false, run := none, again := false, wait := .none, powered := false, step5 := false, ramping := false, ramp := 0 }) (regsOf (pLtx n) ([0x040, 0x044, 0x04C, 0x05C] ++ setOffs.map (ltxBank (s.dev.ltxLive n) + ·))) []) ∧
  (
    ∀ (s : State) (n : Lane),
      s.calm →
      s.dev.runs (pLtx n) →
      s.dev.txState n = txStart →
      (s.dev.tx n).powered = false →
      Yields (exec (.ltxStartPowered n) s) fun t =>
        t.dev.b (pLtx n) fLtxCalBusy = true ∧
        t.dev.b (pLtx n) fLtxCalPending = false ∧
        Kept s t (s.dev.updLtx n fun h => { h with powered := true, run := some ⟨true, false, 0, 1, s.dev.rd (pLtx n) 0x064⟩, again := false, wait := .none }) [((pLtx n), 0x044)] []) ∧
  (
    ∀ (s : State) (n : Lane),
      s.calm →
      s.dev.runs (pLtx n) →
      (s.dev.tx n).ramping = true →
      (s.dev.tx n).ramp < 16 →
      Yields (exec (.unsquelchRampStep .line n) s) fun t =>
        Kept s t (s.dev.updLtx n fun h => { h with ramp := h.ramp + 1 }) [] []) ∧
  (
    ∀ (s : State) (n : Lane),
      s.calm →
      s.dev.runs (pHtx n) →
      (s.dev.hx n).ramping = true →
      (s.dev.hx n).ramp < 16 →
      Yields (exec (.unsquelchRampStep .host n) s) fun t =>
        Kept s t (s.dev.updHtx n fun h => { h with ramp := h.ramp + 1 }) [] []) ∧
  (
    ∀ (s : State) (n : Lane),
      s.calm →
      s.dev.runs (pLtx n) →
      (s.dev.tx n).ramping = true →
      (s.dev.tx n).ramp = 16 →
      Yields (exec (.unsquelchRampEnd .line n) s) fun t =>
        t.dev.b (pLtx n) (fSq sqStart) = false ∧
        t.dev.evt (pLtx n) 1 = true ∧
        t.dev.txState n = txRun ∧
        Kept s t (s.dev.updLtx n fun h => { h with ramping := false, ramp := 0 }) [((pLtx n), 0x044)] [((pLtx n), 1)]) ∧
  (
    ∀ (s : State) (n : Lane),
      s.calm →
      s.dev.runs (pHtx n) →
      (s.dev.hx n).ramping = true →
      (s.dev.hx n).ramp = 16 →
      Yields (exec (.unsquelchRampEnd .host n) s) fun t =>
        t.dev.b (pHtx n) (fHtxSq 2) = false ∧
        t.dev.evt (pHtx n) 1 = true ∧
        t.dev.htxState n = (if s.dev.htxState n = htStart then (if s.dev.wuInForce n then htFrames else htData) else s.dev.htxState n) ∧
        Kept s t (s.dev.updHtx n fun h => { h with ramping := false, ramp := 0 }) [((pHtx n), 0x044)] [((pHtx n), 1)]) ∧
  (
    ∀ (s : State) (w : Who) (n : Lane) (v : Word),
      s.calm →
      s.dev.takes w (pLtx n) 0x050 →
      Yields (exec (.squelchReq .line w n v) s) fun t =>
        t.dev.rd (pLtx n) 0x050 = storeWord (pLtx n) 0x050 (s.dev.rd (pLtx n) 0x050) v ∧
        t.dev.b (pLtx n) (fSq sqHost) = v.getLsbD 0 ∧
        t.dev.b (pLtx n) (fSq sqClr) = (s.dev.clrLow && v.getLsbD 1) ∧
        (s.dev.b (pLtx n) (fSq sqHost) = false → v.getLsbD 0 = true → s.dev.ltxDriven n = true → t.dev.evt (pLtx n) 0 = true ∧
            (t.dev.tx n).ramping = false) ∧
        (s.dev.g (pLtx n) fSqSrc = 1 → v.getLsbD 0 = false → s.dev.clrLow = false → (s.dev.tx n).powered = true → s.dev.txState n = txRun →
            (t.dev.tx n).ramping = true ∧ (t.dev.tx n).ramp = 1 ∧ t.dev.b (pLtx n) (fSq sqStart) = true) ∧
        Kept s t (s.dev.answered.updLtx n fun h => { h with ramping := (t.dev.tx n).ramping, ramp := (t.dev.tx n).ramp }) [((pLtx n),
            0x050), ((pLtx n), 0x044)] [((pLtx n), 0), ((pLtx n), 3)]) ∧
  (
    ∀ (s : State) (w : Who) (n : Lane) (v : Word),
      s.calm →
      s.dev.takes w (pHtx n) 0x050 →
      Yields (exec (.squelchReq .host w n v) s) fun t =>
        t.dev.rd (pHtx n) 0x050 = storeWord (pHtx n) 0x050 (s.dev.rd (pHtx n) 0x050) v ∧
        t.dev.b (pHtx n) (fHtxSq 0) = v.getLsbD 0 ∧
        (s.dev.b (pHtx n) (fHtxSq 0) = false → v.getLsbD 0 = true → s.dev.htxDriven n = true → t.dev.evt (pHtx n) 0 = true ∧
            (t.dev.hx n).ramping = false) ∧
        (s.dev.g (pHtx n) fHtxSqSrc = 1 → v.getLsbD 0 = false → (s.dev.hx n).powered = true → (t.dev.hx n).ramping = true ∧
            (t.dev.hx n).ramp = 1 ∧ t.dev.b (pHtx n) (fHtxSq 2) = true) ∧
        Kept s t (s.dev.answered.updHtx n fun h => { h with ramping := (t.dev.hx n).ramping, ramp := (t.dev.hx n).ramp }) [((pHtx n),
            0x050), ((pHtx n), 0x044)] [((pHtx n), 0)]) ∧
  (
    ∀ (s : State) (w : Who) (n : Lane) (v : Word),
      s.calm →
      s.dev.takes w (pLtx n) 0x050 →
      Yields (exec (.followClr w n v) s) fun t =>
        t.dev.b (pLtx n) fFollowClr = v.getLsbD 1 ∧
        t.dev.b (pLtx n) (fSq sqHost) = v.getLsbD 0 ∧
        t.dev.b (pLtx n) (fSq sqClr) = (s.dev.clrLow && v.getLsbD 1) ∧
        (s.dev.b (pLtx n) (fSq sqClr) = false → s.dev.clrLow = true → v.getLsbD 1 = true → t.dev.evt (pLtx n) 3 = true ∧
            (t.dev.tx n).ramping = false) ∧
        Kept s t (s.dev.answered.updLtx n fun h => { h with ramping := (t.dev.tx n).ramping, ramp := (t.dev.tx n).ramp }) [((pLtx n),
            0x050), ((pLtx n), 0x044)] [((pLtx n), 0), ((pLtx n), 3)]) ∧
  (
    ∀ (s : State) (n : Lane),
      s.calm →
      s.dev.runs (pLtx n) →
      (s.dev.tx n).powered = true →
      s.dev.b (pLtx n) (fSq sqOutFault) = false →
      Yields (exec (.outFault .line n) s) fun t =>
        t.dev.b (pLtx n) (fSq sqOutFault) = true ∧
        t.dev.evt (pLtx n) 15 = true ∧
        t.dev.evt (pLtx n) 0 = (s.dev.evt (pLtx n) 0 || s.dev.ltxDriven n) ∧
        Kept s t (s.dev.updLtx n fun h => { h with ramping := false, ramp := 0 }) [((pLtx n), 0x044)] [((pLtx n), 0), ((pLtx n), 15)]) ∧
  (
    ∀ (s : State) (n : Lane),
      s.calm →
      s.dev.runs (pHtx n) →
      (s.dev.hx n).powered = true →
      s.dev.b (pHtx n) (fHtxSq 3) = false →
      Yields (exec (.outFault .host n) s) fun t =>
        t.dev.b (pHtx n) (fHtxSq 3) = true ∧
        t.dev.evt (pHtx n) 2 = true ∧
        t.dev.evt (pHtx n) 0 = (s.dev.evt (pHtx n) 0 || s.dev.htxDriven n) ∧
        Kept s t (s.dev.updHtx n fun h => { h with ramping := false, ramp := 0 }) [((pHtx n), 0x044)] [((pHtx n), 0), ((pHtx n), 2)])

/-- FADE_COPY_DONE puts the committed set into the inactive bank: live at once in START, a requested fade in RUN. FADE_START,
FADE_STEP and FADE_DONE run the cross-fade to the change of the live bank with source 4; a pending set is then on its way.
SKEW_FINE_STEP and SWING_SLEW_STEP move one step toward their settings, skew_done on arrival. LTX_CLIP_WINDOW_END adds the samples
that level placement clips and raises clip exactly at its threshold. ERR_INJ counts one error into the generated pattern while it
runs. Nothing else changes. Readings and choices: notes/assumptions/13, 23. -/
def Obligations.TransmitterSetsAndSlews : Prop :=
  (
    ∀ (s : State) (n : Lane) (ws : List Word),
      s.calm →
      s.dev.runs (pLtx n) →
      (s.dev.tx n).copy = some ws →
      s.dev.txState n = txStart ∨ s.dev.txState n = txRun →
      Yields (exec (.fadeCopyDone n) s) fun t =>
        (∀ e ∈ setOffs.zip ws, t.dev.rd (pLtx n) (ltxBank (1 - s.dev.ltxLive n) + e.1) = e.2) ∧
        t.dev.ltxLive n = (if s.dev.txState n = txStart then 1 - s.dev.ltxLive n else s.dev.ltxLive n) ∧
        t.dev.txState n = s.dev.txState n ∧
        Kept s t (s.dev.updLtx n fun h => { h with copy := none, req := if s.dev.txState n = txRun then true else h.req }) (((pLtx n),
            0x044) :: regsOf (pLtx n) (setOffs.map (ltxBank (1 - s.dev.ltxLive n) + ·))) []) ∧
  (
    ∀ (s : State) (n : Lane),
      s.calm →
      s.dev.runs (pLtx n) →
      (s.dev.tx n).req = true →
      s.dev.b (pLtx n) fLtxFade = false →
      Yields (exec (.fadeStart n) s) fun t =>
        t.dev.b (pLtx n) fLtxFade = true ∧
        t.dev.g (pLtx n) fFadeStep = 1 ∧
        t.dev.ltxLive n = s.dev.ltxLive n ∧
        Kept s t (s.dev.updLtx n fun h => { h with req := false, zone := s.dev.g (pLtx n) fLtxZone }) [((pLtx n), 0x044)] []) ∧
  (
    ∀ (s : State) (n : Lane),
      s.calm →
      s.dev.runs (pLtx n) →
      s.dev.b (pLtx n) fLtxFade = true →
      s.dev.g (pLtx n) fFadeStep < 16 →
      Yields (exec (.fadeStep n) s) fun t =>
        t.dev.g (pLtx n) fFadeStep = s.dev.g (pLtx n) fFadeStep + 1 ∧
        t.dev.b (pLtx n) fLtxFade = true ∧
        Kept s t s.dev [((pLtx n), 0x044)] []) ∧
  (
    ∀ (s : State) (n : Lane),
      s.calm →
      s.dev.runs (pLtx n) →
      s.dev.b (pLtx n) fLtxFade = true →
      s.dev.g (pLtx n) fFadeStep = 16 →
      Yields (exec (.fadeDone n) s) fun t =>
        t.dev.ltxLive n = 1 - s.dev.ltxLive n ∧
        t.dev.b (pLtx n) fLtxFade = false ∧
        t.dev.g (pLtx n) fFadeStep = 0 ∧
        t.dev.evt (pLtx n) 4 = true ∧
        Kept s t (s.dev.updLtx n fun h => { h with copy := h.pend, pend := none }) [((pLtx n), 0x044)] [((pLtx n), 4)]) ∧
  (
    ∀ (s : State) (n : Lane),
      s.calm →
      s.dev.runs (pLtx n) →
      s.dev.txState n ≠ txOff →
      s.dev.g (pLtx n) fSkewLiveFine ≠ s.dev.g (pLtx n) fSkewFine →
      Yields (exec (.skewFineStep n) s) fun t =>
        t.dev.g (pLtx n) fSkewLiveFine =
            (if s.dev.g (pLtx n) fSkewLiveFine < s.dev.g (pLtx n) fSkewFine then s.dev.g (pLtx n) fSkewLiveFine + 1 else s.dev.g (pLtx n) fSkewLiveFine - 1) ∧
        t.dev.evt (pLtx n) 12 = (s.dev.evt (pLtx n) 12 || t.dev.g (pLtx n) fSkewLiveFine == s.dev.g (pLtx n) fSkewFine) ∧
        Kept s t s.dev [((pLtx n), 0x05C)] [((pLtx n), 12)]) ∧
  (
    ∀ (s : State) (n : Lane),
      s.calm →
      s.dev.runs (pLtx n) →
      s.dev.txState n ≠ txOff →
      (s.dev.tx n).wait ≠ .swing →
      Yields (exec (.swingSlewStep n) s) fun t =>
        t.dev.g (pLtx n) fLiveSwing =
            (if s.dev.g (pLtx n) fLiveSwing < s.dev.g (pLtx n) fOutSwing then s.dev.g (pLtx n) fLiveSwing + 1 else if s.dev.g (pLtx n) fOutSwing < s.dev.g (pLtx n) fLiveSwing then s.dev.g (pLtx n) fLiveSwing - 1 else s.dev.g (pLtx n) fLiveSwing) ∧
        Kept s t s.dev [((pLtx n), 0x04C)] []) ∧
  (
    ∀ (s : State) (n : Lane) (ss : List TxSamples),
      s.calm →
      s.dev.runs (pLtx n) →
      s.dev.txState n ≠ txOff →
      Yields (exec (.ltxClipWindowEnd n ss) s) fun t =>
        t.dev.rd (pLtx n) 0x080 =
            s.dev.rd (pLtx n) 0x080 + BitVec.ofNat 32 (ss.foldl (fun k x => if clipped (s.dev.ltxCode n x.levels x.sub.val) then k + x.num else k) 0) ∧
        t.dev.evt (pLtx n) 7 =
            (s.dev.evt (pLtx n) 7 || decide (2 ^ s.dev.g (pLtx n) fLtxClipExp ≤ (ss.foldl (fun k x => if clipped (s.dev.ltxCode n x.levels x.sub.val) then k + x.num else k) 0))) ∧
        Kept s t s.dev [((pLtx n), 0x080)] [((pLtx n), 7)]) ∧
  (
    ∀ (s : State) (w : Who) (n : Lane) (v : Word),
      s.calm →
      s.dev.takes w (pLtx n) 0x084 →
      Yields (exec (.errInj .line w n v) s) fun t =>
        t.dev.rd (pLtx n) 0x084 = storeWord (pLtx n) 0x084 (s.dev.rd (pLtx n) 0x084) (v ||| 0x80) ∧
        Kept s t (s.dev.answered.updLtx n fun h => { h with errInj := if t.dev.g (pLtx n) fGenPattern ≠ 0 ∧ s.dev.txState n ≠ txOff then h.errInj + 1 else h.errInj }) [((pLtx n), 0x084)] []) ∧
  (
    ∀ (s : State) (w : Who) (n : Lane) (v : Word),
      s.calm →
      s.dev.takes w (pHtx n) 0x064 →
      Yields (exec (.errInj .host w n v) s) fun t =>
        t.dev.rd (pHtx n) 0x064 = storeWord (pHtx n) 0x064 (s.dev.rd (pHtx n) 0x064) (v ||| 0x80) ∧
        Kept s t (s.dev.answered.updHtx n fun h => { h with errInj := if t.dev.g (pHtx n) fHtxPattern ≠ 0 ∧ s.dev.htxState n = htData then h.errInj + 1 else h.errInj }) [((pHtx n), 0x064)] [])

/-- DAC_CAL_RUN makes a request pending; outside RUN a new one raises cal_deferred. LTX_CAL_START in RUN takes a pending request.
LTX_CAL_OBSERVATION_END with 1,024 symbols for every pair writes the targets; with too few the run is abandoned with source 9, the
request kept, and waits. LTX_CAL_APPLY of a requested run moves the eight corrections, counts and stamps the run, and completes
with source 8. LTX_CAL_RETRY starts the run that waited. Nothing else changes. Readings and choices: notes/assumptions/13, 17, 23. -/
def Obligations.LevelPlacementCalibration : Prop :=
  (
    ∀ (s : State) (w : Who) (n : Lane) (v : Word),
      s.calm →
      s.dev.takes w (pLtx n) 0x060 →
      Yields (exec (.dacCalRun w n v) s) fun t =>
        t.dev.rd (pLtx n) 0x060 = storeWord (pLtx n) 0x060 (s.dev.rd (pLtx n) 0x060) (v ||| 8) ∧
        t.dev.b (pLtx n) fLtxCalPending = true ∧
        t.dev.evt (pLtx n) 11 = (s.dev.evt (pLtx n) 11 || !s.dev.b (pLtx n) fLtxCalPending && s.dev.txState n != txRun) ∧
        Kept s t s.dev.answered [((pLtx n), 0x060), ((pLtx n), 0x044)] [((pLtx n), 11)]) ∧
  (
    ∀ (s : State) (n : Lane),
      s.calm →
      s.dev.runs (pLtx n) →
      (s.dev.tx n).run = none →
      (s.dev.tx n).wait = .none →
      s.dev.txState n = txRun →
      s.dev.b (pLtx n) fLtxCalPending = true →
      Yields (exec (.ltxCalStart n) s) fun t =>
        t.dev.b (pLtx n) fLtxCalBusy = true ∧
        t.dev.b (pLtx n) fLtxCalPending = false ∧
        Kept s t (s.dev.updLtx n fun h => { h with run := some ⟨false, false, s.dev.g (pLtx n) fDacStep, 1, s.dev.rd (pLtx n) 0x064⟩, again := false }) [((pLtx n), 0x044)] []) ∧
  (
    ∀ (s : State) (n : Lane),
      s.calm →
      s.dev.runs (pLtx n) →
      (s.dev.tx n).run = none →
      (s.dev.tx n).wait = .retry →
      s.dev.txState n = txRun →
      s.dev.b (pLtx n) fLtxCalPending = true →
      Yields (exec (.ltxCalRetry n) s) fun t =>
        t.dev.b (pLtx n) fLtxCalBusy = true ∧
        t.dev.b (pLtx n) fLtxCalPending = false ∧
        Kept s t (s.dev.updLtx n fun h => { h with run := some ⟨false, false, s.dev.g (pLtx n) fDacStep, 1, s.dev.rd (pLtx n) 0x064⟩, again := false, wait := .none }) [((pLtx n), 0x044)] []) ∧
  (
    ∀ (s : State) (n : Lane) (counts : List Nat) (targets : List Word) (r : CalRun),
      s.calm →
      s.dev.runs (pLtx n) →
      (s.dev.tx n).run = some r →
      r.computed = false →
      (∀ k, k < 8 → 1024 ≤ counts.getD k 0) →
      Yields (exec (.ltxCalObservationEnd n counts targets) s) fun t =>
        (∀ k, k < 8 → t.dev.rd (pLtx n) (0x320 + 4 * k) = targets.getD k 0 &&& 0xFF) ∧
        t.dev.b (pLtx n) fCalMeasValid = true ∧
        Kept s t (s.dev.updLtx n fun h => { h with run := some { r with computed := true } }) (((pLtx n),
            0x078) :: regsOf (pLtx n) (regRun 0x320 8)) []) ∧
  (
    ∀ (s : State) (n : Lane) (counts : List Nat) (targets : List Word) (r : CalRun),
      s.calm →
      s.dev.runs (pLtx n) →
      (s.dev.tx n).run = some r →
      r.computed = false →
      (List.range 8).any (fun k => decide (counts.getD k 0 < 1024)) = true →
      Yields (exec (.ltxCalObservationEnd n counts targets) s) fun t =>
        t.dev.b (pLtx n) fCalAbandoned = true ∧
        t.dev.b (pLtx n) fCalApplied = false ∧
        t.dev.g (pLtx n) fCalReason = 1 ∧
        t.dev.b (pLtx n) fLtxCalBusy = false ∧
        t.dev.b (pLtx n) fLtxCalPending = (s.dev.b (pLtx n) fLtxCalPending || !r.forced) ∧
        t.dev.evt (pLtx n) 9 = true ∧
        Kept s t (s.dev.updLtx n fun h => { h with run := none, again := r.forced, wait := .retry }) [((pLtx n), 0x044), ((pLtx n),
            0x078)] [((pLtx n), 9)]) ∧
  (
    ∀ (s : State) (n : Lane) (r : CalRun),
      s.calm →
      s.dev.runs (pLtx n) →
      (s.dev.tx n).run = some r →
      r.computed = true →
      r.forced = false →
      s.dev.b (pLtx n) fLtxFade = false →
      Yields (exec (.ltxCalApply n) s) fun t =>
        (r.applies = true → (∀ k, k < 8 →
            t.dev.rd (pLtx n) (0x300 + 4 * k) =
            BitVec.ofNat 32 (unsigned 8 (calMove r.mode 8 (getBits r.limit 0 6) (signed 8 (s.dev.rd (pLtx n) (0x300 + 4 * k)).toNat) (signed 8 (s.dev.rd (pLtx n) (0x320 + 4 * k)).toNat)).1)) ∧ t.dev.rd (pLtx n) 0x068 = s.dev.rd (pLtx n) 0x068 + 1 ∧ t.dev.rd64 (pLtx n) 0x070 = s.dev.tk) ∧
        (r.applies = false → ∀ o ∈ [0x068, 0x070, 0x074] ++ regRun 0x300 8, t.dev.rd (pLtx n) o = s.dev.rd (pLtx n) o) ∧
        t.dev.b (pLtx n) fCalApplied = r.applies ∧
        t.dev.b (pLtx n) fCalAbandoned = false ∧
        t.dev.b (pLtx n) fLtxCalBusy = false ∧
        t.dev.evt (pLtx n) 8 = true ∧
        Kept s t (s.dev.updLtx n fun h => { h with run := none, prev := if r.applies then some ⟨s.dev.rds (pLtx n) 0x300 8⟩ else h.prev }) ([((pLtx n), 0x044), ((pLtx n), 0x068), ((pLtx n), 0x070), ((pLtx n), 0x074), ((pLtx n), 0x078), (0x17, 0x050 + 4 * n.val), (0x17, 0x04C)] ++ regsOf (pLtx n) (regRun 0x300 8)) [((pLtx n), 8), ((pLtx n), 10)])

/-- INNER_ENCODE sends, Concatenated, the next host bits of a valid lane encoded, or PRBS31; Segmented, the four header codewords
carry the header bits in order, and a loaded block its payload. INNER_CODEWORD_DECODE on a locked Segmented lane delivers what
Chase decoding finds and counts codewords, corrections and failures. CW_LOCK and CW_LOCK_LOST set and clear the lock with their
sources, and Segmented start and end the search for Laps. INNER_FAIL_THR raises source 5 exactly at its threshold. AM_LOCK and
AM_LOST do the same for the host code. HOST_RS_DECODE counts a codeword with its corrections, raises source 2 when uncorrectable,
and a Segmented lane buffers it. Nothing else changes. Readings and choices: notes/assumptions/7, 13, 17, 24. -/
def Obligations.InnerCodeAndLocks : Prop :=
  (
    ∀ (s : State) (n : Lane) (bits : BitVec 120),
      s.calm →
      s.dev.runs pFecLtx →
      s.dev.segmented n = false →
      Yields (exec (.innerEncode n bits) s) fun t =>
        Kept s t (s.dev.updCl n fun c => if s.dev.hostValid n && !(s.dev.tx n).glide then { c with sent := innerEncode bits } else { c with sent := innerEncode (BitVec.ofNat 120 (prbs31 120 c.prbsTx).1), prbsTx := (prbs31 120 c.prbsTx).2 }) [] []) ∧
  (
    ∀ (s : State) (n : Lane) (bits : BitVec 120),
      s.calm →
      s.dev.runs pFecLtx →
      s.dev.segmented n = true →
      (s.dev.cl n).pos < 4 →
      Yields (exec (.innerEncode n bits) s) fun t =>
        (∀ j, j < 120 → (t.dev.cl n).sent.getLsbD j = (s.dev.cl n).hdr.getLsbD (479 - (120 * (s.dev.cl n).pos + j))) ∧
        (t.dev.cl n).sent = innerEncode ((t.dev.cl n).sent.truncate 120) ∧
        Kept s t (s.dev.updCl n fun c => { c with pos := c.pos + 1, sent := (t.dev.cl n).sent }) [] []) ∧
  (
    ∀ (s : State) (n : Lane) (bits : BitVec 120),
      s.calm →
      s.dev.runs pFecLtx →
      s.dev.segmented n = true →
      4 ≤ (s.dev.cl n).pos →
      (s.dev.cl n).pos < 1092 →
      (s.dev.cg (s.dev.groupBase n)).blk = some (((s.dev.cl n).pos - 4) / 136) →
      Yields (exec (.innerEncode n bits) s) fun t =>
        Kept s t (s.dev.updCl n fun c => let r := blockPayload (s.dev.groupSize n) (n.val - (s.dev.groupBase n).val) (s.dev.cg (s.dev.groupBase n)).places ((c.pos - 4) % 136) c.prbsTx; { c with pos := c.pos + 1, prbsTx := r.2, sent := innerEncode r.1 }) [] []) ∧
  (
    ∀ (s : State) (n : Lane) (soft : List (BitVec 4)) (r : Chase),
      s.calm →
      s.dev.runs pFecLrx →
      s.dev.segmented n = true →
      s.dev.cwLocked n = true →
      r = chase (hardBits soft) (reliabilities soft) (2 + s.dev.lg pFecLrx (fTp n)) →
      Yields (exec (.innerCodewordDecode n soft) s) fun t =>
        (t.dev.cl n).got = BitVec.ofNat 120 r.word ∧
        (t.dev.cl n).gotValid = s.dev.laneValid n ∧
        (t.dev.cl n).margin = r.margin ∧
        ((t.dev.cl n).flag = 1 ↔ s.dev.e0 n = true) ∧
        t.dev.rd64 pFecLrx (cLrx n) = s.dev.rd64 pFecLrx (cLrx n) + 1 ∧
        t.dev.rd64 pFecLrx (cLrx n + 8) = s.dev.rd64 pFecLrx (cLrx n + 8) + (if r.found ∧
            r.word % 2 ^ 120 ≠ hardBits soft % 2 ^ 120 then 1 else 0) ∧
        t.dev.rd64 pFecLrx (cLrx n + 0x10) = s.dev.rd64 pFecLrx (cLrx n + 0x10) + (if r.found then 0 else 1) ∧
        Kept s t (s.dev.updCl n fun c => { c with got := (t.dev.cl n).got, gotValid := s.dev.laneValid n, flag := (t.dev.cl n).flag, margin := r.margin }) (regsOf pFecLrx (regRun (cLrx n) 8)) []) ∧
  (
    ∀ (s : State) (n : Lane) (offset : Nat),
      s.calm →
      s.dev.runs pFecLrx →
      s.dev.laneValid n = true →
      s.dev.cwLocked n = false →
      Yields (exec (.cwLock n offset) s) fun t =>
        t.dev.cwLocked n = true ∧
        t.dev.g pFecLrx (fCwOffset n) = offset % 64 ∧
        t.dev.evt pFecLrx 0 = true ∧
        (s.dev.segmented n = true → t.dev.g pFramer (fLapState n) = 1) ∧
        (s.dev.segmented n = false → t.dev.rd pFramer (0x080 + 4 * n.val) = s.dev.rd pFramer (0x080 + 4 * n.val)) ∧
        Kept s t (s.dev.updCl n fun c => { c with firstMatch := if s.dev.segmented n then false else c.firstMatch }) [(pFecLrx,
            0x0A0 + 4 * n.val), (pFramer, 0x080 + 4 * n.val)] [(pFecLrx, 0)]) ∧
  (
    ∀ (s : State) (n : Lane),
      s.calm →
      s.dev.runs pFecLrx →
      s.dev.cwLocked n = true →
      Yields (exec (.cwLockLost n) s) fun t =>
        t.dev.cwLocked n = false ∧
        t.dev.g pFramer (fLapState n) = 0 ∧
        t.dev.evt pFecLrx 1 = true ∧
        Kept s t s.dev [(pFecLrx, 0x0A0 + 4 * n.val), (pFramer, 0x080 + 4 * n.val)] [(pFecLrx, 1)]) ∧
  (
    ∀ (s : State) (n : Lane) (fails : Nat),
      s.calm →
      s.dev.runs pFecLrx →
      Yields (exec (.innerFailThr n fails) s) fun t =>
        t.dev.evt pFecLrx 5 = (s.dev.evt pFecLrx 5 || decide (2 ^ s.dev.g pFecLrx fFailExp ≤ fails)) ∧
        Kept s t s.dev [] [(pFecLrx, 5)]) ∧
  (
    ∀ (s : State) (n : Lane),
      s.calm →
      s.dev.runs pFecHrx →
      s.dev.hostValid n = true →
      s.dev.b pFecHrx (fAmLock n) = false →
      Yields (exec (.amLock n) s) fun t =>
        t.dev.b pFecHrx (fAmLock n) = true ∧
        (∀ k : Lane, k ≠ n → t.dev.b pFecHrx (fAmLock k) = s.dev.b pFecHrx (fAmLock k)) ∧
        t.dev.evt pFecHrx 0 = true ∧
        Kept s t s.dev [(pFecHrx, 0x044)] [(pFecHrx, 0)]) ∧
  (
    ∀ (s : State) (n : Lane),
      s.calm →
      s.dev.runs pFecHrx →
      s.dev.b pFecHrx (fAmLock n) = true →
      Yields (exec (.amLost n) s) fun t =>
        t.dev.b pFecHrx (fAmLock n) = false ∧
        (∀ k : Lane, k ≠ n → t.dev.b pFecHrx (fAmLock k) = s.dev.b pFecHrx (fAmLock k)) ∧
        t.dev.evt pFecHrx 1 = true ∧
        Kept s t s.dev [(pFecHrx, 0x044)] [(pFecHrx, 1)]) ∧
  (
    ∀ (s : State) (n : Lane) (data : BitVec 5440) (errs : Nat),
      s.calm →
      s.dev.runs pFecHrx →
      s.dev.b pFecHrx (fAmLock n) = true →
      s.dev.segmented n = true →
      (s.dev.cl n).fifo.length < 16 →
      errs ≤ 15 →
      Yields (exec (.hostRsDecode n data errs) s) fun t =>
        t.dev.rd64 pFecHrx (cHrx n) = s.dev.rd64 pFecHrx (cHrx n) + 1 ∧
        t.dev.rd64 pFecHrx (cHrx n + 8) = s.dev.rd64 pFecHrx (cHrx n + 8) + (if errs = 0 then 0 else 1) ∧
        t.dev.rd64 pFecHrx (cHrx n + 0x10) = s.dev.rd64 pFecHrx (cHrx n + 0x10) + BitVec.ofNat 64 errs ∧
        (errs < s.dev.g pFecHrx fCorrThrHrx → t.dev.evt pFecHrx 3 = s.dev.evt pFecHrx 3) ∧
        (t.dev.cl n).fifo = (s.dev.cl n).fifo ++ [data] ∧
        Kept s t { (s.dev.updCl n fun c => { c with fifo := c.fifo ++ [data] }) with code := { (s.dev.updCl n fun c => { c with fifo := c.fifo ++ [data] }).code with corrHrx := t.dev.code.corrHrx } } (regsOf pFecHrx (regRun (cHrx n) 6)) [(pFecHrx, 3)]) ∧
  (
    ∀ (s : State) (n : Lane) (data : BitVec 5440) (errs : Nat),
      s.calm →
      s.dev.runs pFecHrx →
      s.dev.b pFecHrx (fAmLock n) = true →
      s.dev.segmented n = true →
      (s.dev.cl n).fifo.length < 16 →
      15 < errs →
      Yields (exec (.hostRsDecode n data errs) s) fun t =>
        t.dev.rd64 pFecHrx (cHrx n) = s.dev.rd64 pFecHrx (cHrx n) + 1 ∧
        t.dev.rd64 pFecHrx (cHrx n + 0x18) = s.dev.rd64 pFecHrx (cHrx n + 0x18) + 1 ∧
        t.dev.evt pFecHrx 2 = true ∧
        Kept s t { (s.dev.updCl n fun c => { c with fifo := c.fifo ++ [Config.erroredWord s.dev.free] }) with free := s.dev.free + 1 } (regsOf pFecHrx [cHrx n, cHrx n + 4, cHrx n + 0x18, cHrx n + 0x1C]) [(pFecHrx, 2)])

/-- LAP_START gives every lane of a Segmented group a header with the next lap_cnt and the filler map of the rule, at position 0.
LAP_HEADER_RECEIVED: a second spaced marker match with a valid CRC gives Lap lock with its source and the received fields; a first
match is remembered; a match with a bad CRC counts as a header error; a missing one below four in a row only counts.
RS_CODEWORD_DECODE on an aligned group counts the codeword, its corrections, or the failure with source 2. RATE_MATCH_BLOCK keeps
the buffer within its marks by inserting and deleting idle blocks, restarts it at half way, and counts Local Fault.
TUNE_WINDOW_END moves margin_thr by one, armed and committed, with source 4. CODING_CNT_CLR zeroes the counters of its page.
Readings and choices: notes/assumptions/7, 8, 13, 24. -/
def Obligations.LapsCodewordsAndRates : Prop :=
  (
    ∀ (s : State) (n : Lane) (lat : BitVec 24),
      s.calm →
      s.dev.runs pFecLtx →
      s.dev.segmented n = true →
      Yields (exec (.lapStart n lat) s) fun t =>
        (t.dev.cg (s.dev.groupBase n)).lap = (s.dev.cg (s.dev.groupBase n)).lap + 1 ∧
        (t.dev.cg (s.dev.groupBase n)).map =
            (if !s.dev.srcOk n || s.dev.b pFecLtx fForceFill then 0xFFFFFF else if ((s.dev.groupLanes n).map fun k => (s.dev.cl k).fifo.length).foldl min 16 < s.dev.lg pFecLtx (fFillThr (s.dev.groupBase n)) then 1 else 0 : BitVec 24) ∧
        (∀ k ∈ s.dev.groupLanes n, (t.dev.cl k).pos = 0 ∧ hdrField (t.dev.cl k).hdr 0 63 = lapMarker.toNat ∧
            hdrField (t.dev.cl k).hdr 72 103 = (s.dev.cg (s.dev.groupBase n)).lap.toNat ∧
            hdrField (t.dev.cl k).hdr 104 127 = (t.dev.cg (s.dev.groupBase n)).map.toNat ∧ hdrCrcOk (t.dev.cl k).hdr = true) ∧
        t.dev.evt pFecLtx 1 =
            (s.dev.evt pFecLtx 1 || (!s.dev.srcOk n || s.dev.b pFecLtx fForceFill) && !s.dev.b pFecLtx (fAllFiller (s.dev.groupBase n))) ∧
        Kept s t { s.dev with code := t.dev.code } ((pFecLtx, 0x044) :: regsOf pFecLtx ([0x100 + 0x10 * (s.dev.groupBase n).val,
            0x104 + 0x10 * (s.dev.groupBase n).val] ++ regRun 0x080 8) ++ regsOf pFramer [0x0C0 + 4 * (s.dev.groupBase n).val,
            0x0A0 + 4 * (s.dev.groupBase n).val]) [(pFecLtx, 1)]) ∧
  (
    ∀ (s : State) (n : Lane) (h : BitVec 480) (spaced : Bool) (arrival : Int) (latRx : BitVec 24),
      s.calm →
      s.dev.runs pFramer →
      s.dev.segmented n = true →
      (s.dev.cl n).lapLock = false →
      (s.dev.cl n).firstMatch = true →
      spaced = true →
      s.dev.cwLocked n = true →
      markerMatches h = true →
      hdrCrcOk h = true →
      Yields (exec (.lapHeaderReceived n h spaced arrival latRx) s) fun t =>
        (t.dev.cl n).lapLock = true ∧
        (t.dev.cl n).miss = 0 ∧
        t.dev.evt pFramer 0 = true ∧
        t.dev.g pFramer (fLapState n) = 2 ∧
        t.dev.g pFramer (fFarIdx n) = hdrField h 66 68 ∧
        t.dev.b pFramer (fIdOk n) = (hdrField h 64 65 == s.dev.sizeCode n && hdrField h 66 68 == n.val - (s.dev.groupBase n).val) ∧
        t.dev.rd64 pFramer (cFramer n) = s.dev.rd64 pFramer (cFramer n) + 1 ∧
        (t.dev.cl n).phase = arrival - 69888 * (hdrField h 72 103 : Nat) ∧
        t.mem = s.mem ∧
        t.pending = s.pending) ∧
  (
    ∀ (s : State) (n : Lane) (h : BitVec 480) (spaced : Bool) (arrival : Int) (latRx : BitVec 24),
      s.calm →
      s.dev.runs pFramer →
      s.dev.segmented n = true →
      (s.dev.cl n).lapLock = false →
      s.dev.cwLocked n = true →
      markerMatches h = true →
      ((s.dev.cl n).firstMatch && spaced) = false →
      Yields (exec (.lapHeaderReceived n h spaced arrival latRx) s) fun t =>
        Kept s t (s.dev.updCl n fun c => { c with firstMatch := true }) [] []) ∧
  (
    ∀ (s : State) (n : Lane) (h : BitVec 480) (spaced : Bool) (arrival : Int) (latRx : BitVec 24),
      s.calm →
      s.dev.runs pFramer →
      s.dev.segmented n = true →
      (s.dev.cl n).lapLock = true →
      s.dev.cwLocked n = true →
      markerMatches h = true →
      spaced = true →
      hdrCrcOk h = false →
      Yields (exec (.lapHeaderReceived n h spaced arrival latRx) s) fun t =>
        t.dev.rd64 pFramer (cFramer n) = s.dev.rd64 pFramer (cFramer n) + 1 ∧
        t.dev.rd64 pFramer (cFramer n + 0x10) = s.dev.rd64 pFramer (cFramer n + 0x10) + 1 ∧
        t.dev.evt pFramer 6 = true ∧
        Kept s t (s.dev.updCl n fun c => { c with miss := 0 }) ((pFramer, 0x080 + 4 * n.val) :: regsOf pFramer [cFramer n, cFramer n + 4,
            cFramer n + 0x10, cFramer n + 0x14]) [(pFramer, 6)]) ∧
  (
    ∀ (s : State) (n : Lane) (h : BitVec 480) (spaced : Bool) (arrival : Int) (latRx : BitVec 24),
      s.calm →
      s.dev.runs pFramer →
      s.dev.segmented n = true →
      (s.dev.cl n).lapLock = true →
      markerMatches h = false →
      spaced = true →
      (s.dev.cl n).miss < 3 →
      Yields (exec (.lapHeaderReceived n h spaced arrival latRx) s) fun t =>
        Kept s t (s.dev.updCl n fun c => { c with miss := c.miss + 1 }) [] []) ∧
  (
    ∀ (s : State) (n : Lane) (fs : List Flag) (errs : Nat),
      s.calm →
      s.dev.runs pFecLrx →
      s.dev.segmented n = true →
      s.dev.aligned n = true →
      Yields (exec (.rsCodewordDecode n fs errs none) s) fun t =>
        t.dev.rd64 pFecLrx (cLrx (s.dev.groupBase n) + 0x30) = s.dev.rd64 pFecLrx (cLrx (s.dev.groupBase n) + 0x30) + 1 ∧
        ((rsDecode (s.dev.lg pFecLrx (fMaxEra (s.dev.groupBase n))) errs fs).ok = true →
            t.dev.rd64 pFecLrx (cLrx (s.dev.groupBase n) + 0x38) =
            s.dev.rd64 pFecLrx (cLrx (s.dev.groupBase n) + 0x38) + BitVec.ofNat 64 (errs + wrongOnes fs) ∧
            t.dev.evt pFecLrx 2 = s.dev.evt pFecLrx 2) ∧
        ((rsDecode (s.dev.lg pFecLrx (fMaxEra (s.dev.groupBase n))) errs fs).ok = false →
            t.dev.rd64 pFecLrx (cLrx (s.dev.groupBase n) + 0x40) = s.dev.rd64 pFecLrx (cLrx (s.dev.groupBase n) + 0x40) + 1 ∧
            t.dev.evt pFecLrx 2 = true) ∧
        Kept s t { s.dev with code := { s.dev.code with corrLrx := t.dev.code.corrLrx } } (regsOf pFecLrx (regRun 0x200 160)) [(pFecLrx,
            2), (pFecLrx, 3), (pFecLrx, 6)]) ∧
  (
    ∀ (s : State) (n : Lane) (b : Blk) (taken new ins del : Nat),
      s.calm →
      s.dev.runs pFecHtx →
      s.dev.segmented n = true →
      s.dev.b pFecHtx (fLf n) = false →
      taken ≤ (s.dev.cl n).buf →
      80 * s.dev.lg pFecHtx (fRateLo n) ≤ 80 * s.dev.lg pFecHtx (fRateHi n) →
      ins = (if (s.dev.cl n).buf - taken < 80 * s.dev.lg pFecHtx (fRateLo n) ∧ b ≠ .other then 1 else 0) →
      del = (if 80 * s.dev.lg pFecHtx (fRateHi n) < (s.dev.cl n).buf - taken ∧ b = .idle then 1 else 0) →
      new = (s.dev.cl n).buf - taken + 1 + ins - del →
      Yields (exec (.rateMatchBlock n b taken) s) fun t =>
        t.dev.rd64 pFecHtx (cHrx n) = s.dev.rd64 pFecHtx (cHrx n) + BitVec.ofNat 64 ins ∧
        t.dev.rd64 pFecHtx (cHrx n + 8) = s.dev.rd64 pFecHtx (cHrx n + 8) + BitVec.ofNat 64 del ∧
        (t.dev.cl n).buf = (if 80 * Config.rateBuffer < new then (80 * s.dev.lg pFecHtx (fRateLo n) + 80 * s.dev.lg pFecHtx (fRateHi n)) / 2 else new) ∧
        Kept s t (s.dev.updCl n fun c => { c with buf := (t.dev.cl n).buf }) (regsOf pFecHtx [cHrx n, cHrx n + 4, cHrx n + 8, cHrx n + 0xC,
            cHrx n + 0x18, cHrx n + 0x1C]) [(pFecHtx, 2)]) ∧
  (
    ∀ (s : State) (n : Lane) (b : Blk) (taken : Nat),
      s.calm →
      s.dev.runs pFecHtx →
      s.dev.segmented n = true →
      s.dev.b pFecHtx (fLf n) = false →
      (s.dev.cl n).buf < taken →
      Yields (exec (.rateMatchBlock n b taken) s) fun t =>
        t.dev.rd64 pFecHtx (cHrx n + 0x18) = s.dev.rd64 pFecHtx (cHrx n + 0x18) + 1 ∧
        t.dev.evt pFecHtx 2 = true ∧
        Kept s t (s.dev.updCl n fun c => { c with buf := (80 * s.dev.lg pFecHtx (fRateLo n) + 80 * s.dev.lg pFecHtx (fRateHi n)) / 2 }) (regsOf pFecHtx [cHrx n + 0x18, cHrx n + 0x1C]) [(pFecHtx, 2)]) ∧
  (
    ∀ (s : State) (n : Lane) (b : Blk) (taken : Nat),
      s.calm →
      s.dev.runs pFecHtx →
      s.dev.segmented n = true →
      s.dev.b pFecHtx (fLf n) = true →
      Yields (exec (.rateMatchBlock n b taken) s) fun t =>
        t.dev.rd64 pFecHtx (cHrx n + 0x10) = s.dev.rd64 pFecHtx (cHrx n + 0x10) + BitVec.ofNat 64 (((s.dev.cl n).lfBlocks + taken) / 80) ∧
        Kept s t (s.dev.updCl n fun c => { c with lfBlocks := (c.lfBlocks + taken) % 80 }) (regsOf pFecHtx [cHrx n + 0x10,
            cHrx n + 0x14]) []) ∧
  (
    ∀ (s : State) (n : Lane) (new : Nat),
      s.calm →
      s.dev.runs pFecLrx →
      s.dev.segmented n = true →
      s.dev.coachUp = true →
      s.dev.b pFecLrx (fTuneEn n) = true →
      s.dev.takes ⟨0, 0, false⟩ pFecLrx (0x060 + 4 * n.val) →
      s.dev.commit = .idle →
      (let dh := (s.dev.rd64 pFecLrx (cLrx n + 0x20) - (s.dev.cl n).tuneHit).toNat; let df := (s.dev.rd64 pFecLrx (cLrx n + 0x28) - (s.dev.cl n).tuneFalse).toNat; (0 < df ∧ dh ≤ df ∧ new + 1 = s.dev.g pFecLrx (fMarginThr n)) ∨ (0 < dh ∧ 4 * df ≤ dh ∧ new = s.dev.g pFecLrx (fMarginThr n) + 1 ∧ new ≤ 15)) →
      Yields (exec (.tuneWindowEnd n) s) fun t =>
        t.dev.g pFecLrx (fMarginThr n) = new ∧
        t.dev.b pFecLrx fArm = true ∧
        t.dev.b pFecLrx fApplied = false ∧
        t.dev.commit = .undecided (2 ^ 18) ∧
        t.dev.evt pFecLrx 4 = true ∧
        Kept s t { (s.dev.updCl n fun c => { c with tuneHit := s.dev.rd64 pFecLrx (cLrx n + 0x20), tuneFalse := s.dev.rd64 pFecLrx (cLrx n + 0x28) }) with commit := .undecided (2 ^ 18), unapplied := t.dev.unapplied } [(pFecLrx, 0x060 + 4 * n.val), (pFecLrx, 0x028), (pFecLrx, 0x004), (0x16, 0x044)] [(pFecLrx, 4)]) ∧
  (
    ∀ (s : State) (w : Who) (p : Fin 5) (v : Word) (off base k : Nat),
      s.calm →
      codingCnt (0x40 + p.val) = some (off, base, k) →
      s.dev.takes w (0x40 + p.val) off →
      Yields (exec (.codingCntClr w p v) s) fun t =>
        (∀ o ∈ regRun base k, t.dev.rd (0x40 + p.val) o = 0) ∧
        Kept s t { s.dev.answered with code := t.dev.code } (regsOf (0x40 + p.val) (regRun base k)) [])

/-- The hard decoder returns every codeword of the inner code unchanged, and for every payload and every one of the 128 bits, the
codeword with that bit flipped decodes to the codeword. So the check columns of the 128 bits are what the code needs. -/
def Obligations.InnerCodeCorrectsOneError : Prop :=
    (∀ x : BitVec 120, hardDecode (innerEncode x).toNat = some (innerEncode x).toNat) ∧
    (∀ (x : BitVec 120) (j : Nat), j < 128 → hardDecode ((innerEncode x).toNat ^^^ 2 ^ j) = some (innerEncode x).toNat)

/-- HRX_EN_SET in OFF starts the lane in SEEK where Warm-up, if in force, has its transmitter; else it stores and gives the host hold
reason its level. HRX_EN_CLEAR goes to OFF. HTX_EN_SET in OFF goes to START with the start reason. HTX_EN_CLEAR goes to OFF, and
with Warm-up in force takes the receiver along. HTX_START_POWERED begins the ramp, or serves at once behind another reason.
HANDOVER and STATIC_ACCEPT enter RUN (HOLD behind a hold reason) with source 3. ATTEMPT_TIMER_EXPIRY counts the failure with
source 4 and returns to SEEK, or to FAULT without a partner. HOST_FAULT_DWELL_END returns to SEEK. Readings and choices:
notes/assumptions/13, 14, 25. -/
def Obligations.HostLanesStartAndAccept : Prop :=
  (
    ∀ (s : State) (w : Who) (n : Lane) (v : Word),
      s.calm →
      s.dev.takes w (pHrx n) 0x040 →
      s.dev.hostState n = stOff →
      Yields (exec (.hrxEnSet w n v) s) fun t =>
        t.dev.rd (pHrx n) 0x040 = storeWord (pHrx n) 0x040 (s.dev.rd (pHrx n) 0x040) (v ||| 1) ∧
        t.dev.b (pHrx n) (fHostHoldBit 2) = v.getLsbD 1 ∧
        t.dev.hostState n = (if s.dev.b (pHrx n) fWuEn && !s.dev.hostNear n && !s.dev.b (pHtx n) fHtxEn then stOff else stSeek) ∧
        (t.dev.hostState n = stSeek → t.dev.b (pHrx n) fHrxSigDet = (s.dev.lg (pHrx n) fHrxLoop == 2) ∧ t.dev.b (pHrx n) fWuLock = false ∧
            (t.dev.hr n).wu = (s.dev.b (pHrx n) fWuEn && !s.dev.hostNear n)) ∧
        (∀ m, m ≠ n → t.dev.hr m = s.dev.hr m ∧ t.dev.hx m = s.dev.hx m ∧ t.dev.tx m = s.dev.tx m) ∧
        Kept s t { s.dev.answered with hrx := t.dev.hrx, htx := t.dev.htx, ltx := t.dev.ltx } [((pHrx n), 0x040), ((pHrx n), 0x044),
            ((pHrx n), 0x068), ((pHtx n), 0x044), ((pHtx n), 0x05C), ((pHtx n), 0x060)] []) ∧
  (
    ∀ (s : State) (w : Who) (n : Lane) (v : Word),
      s.calm →
      s.dev.takes w (pHrx n) 0x040 →
      s.dev.hostState n ≠ stOff →
      Yields (exec (.hrxEnSet w n v) s) fun t =>
        t.dev.rd (pHrx n) 0x040 = storeWord (pHrx n) 0x040 (s.dev.rd (pHrx n) 0x040) (v ||| 1) ∧
        t.dev.b (pHrx n) (fHostHoldBit 2) = v.getLsbD 1 ∧
        t.dev.hostState n = (if s.dev.hostState n = stRun ∧ t.dev.g (pHrx n) fHostHold ≠ 0 then stHold else if s.dev.hostState n = stHold ∧
            t.dev.g (pHrx n) fHostHold = 0 then stRun else s.dev.hostState n) ∧
        Kept s t s.dev.answered [((pHrx n), 0x040), ((pHrx n), 0x044)] []) ∧
  (
    ∀ (s : State) (w : Who) (n : Lane) (v : Word),
      s.calm →
      s.dev.takes w (pHrx n) 0x040 →
      s.dev.hostState n ≠ stOff →
      Yields (exec (.hrxEnClear w n v) s) fun t =>
        t.dev.hostState n = stOff ∧
        t.dev.b (pHrx n) fHrxEn = false ∧
        t.dev.b (pHrx n) fHrxSigDet = false ∧
        t.dev.b (pHrx n) fHrxCdrLock = false ∧
        t.dev.b (pHrx n) fWuLock = false ∧
        t.dev.g (pHrx n) fHostPhase = 0 ∧
        t.dev.b (pHrx n) fLocalReady = false ∧
        Kept s t ((s.dev.answered.updHrx n fun h => { h with search := none, valid3 := 0, ready16 := 0, announced := false, failRun := 0, passRun := 0 }).updLtx n fun h => { h with glide := false }) ([((pHrx n), 0x040), ((pHrx n), 0x044), ((pHrx n), 0x068)] ++ regsOf 0x12 (regRun 0x080 8)) []) ∧
  (
    ∀ (s : State) (w : Who) (n : Lane) (v : Word),
      s.calm →
      s.dev.takes w (pHtx n) 0x040 →
      s.dev.htxState n = htOff →
      s.dev.b (pHrx n) fHrxEn = false →
      Yields (exec (.htxEnSet w n v) s) fun t =>
        t.dev.rd (pHtx n) 0x040 = storeWord (pHtx n) 0x040 (s.dev.rd (pHtx n) 0x040) (v ||| 1) ∧
        t.dev.htxState n = htStart ∧
        t.dev.b (pHtx n) (fHtxSq 2) = true ∧
        t.dev.b (pHtx n) (fHtxSq 3) = false ∧
        t.dev.rd (pHtx n) 0x068 = 0 ∧
        t.dev.rd (pHtx n) 0x05C = s.dev.lrd (pHtx n) 0x054 ∧
        t.dev.rd (pHtx n) 0x060 = s.dev.lrd (pHtx n) 0x058 ∧
        Kept s t (s.dev.answered.updHtx n fun h => { h with powered := false, ramping := false, ramp := 0, invert := t.dev.g (pHtx n) fHtxInvert, countdown := none, lastSeq := 0, service := none, ack := 0, result := 0, fir := none }) (regsOf (pHtx n) [0x040, 0x044, 0x05C, 0x060, 0x068]) []) ∧
  (
    ∀ (s : State) (w : Who) (n : Lane) (v : Word),
      s.calm →
      s.dev.takes w (pHtx n) 0x040 →
      s.dev.htxState n = htOff →
      s.dev.b (pHrx n) fHrxEn = true →
      s.dev.hostState n = stOff →
      Yields (exec (.htxEnSet w n v) s) fun t =>
        t.dev.htxState n = htStart ∧
        t.dev.hostState n = stSeek ∧
        (t.dev.hr n).wu = (s.dev.b (pHrx n) fWuEn && !s.dev.hostNear n) ∧
        (∀ m, m ≠ n → t.dev.hr m = s.dev.hr m ∧ t.dev.hx m = s.dev.hx m ∧ t.dev.tx m = s.dev.tx m) ∧
        Kept s t { s.dev.answered with hrx := t.dev.hrx, htx := t.dev.htx, ltx := t.dev.ltx } (regsOf (pHtx n) [0x040, 0x044, 0x05C, 0x060,
            0x068] ++ regsOf (pHrx n) [0x044, 0x068]) []) ∧
  (
    ∀ (s : State) (w : Who) (n : Lane) (v : Word),
      s.calm →
      s.dev.takes w (pHtx n) 0x040 →
      s.dev.htxState n ≠ htOff →
      Yields (exec (.htxEnClear w n v) s) fun t =>
        t.dev.htxState n = htOff ∧
        t.dev.b (pHtx n) fHtxEn = false ∧
        t.dev.b (pHtx n) (fHtxSq 2) = false ∧
        t.dev.g (pHtx n) fHtxLiveSwing = s.dev.g (pHtx n) fHtxSwing ∧
        t.dev.hostState n = (if s.dev.wuInForce n then stOff else s.dev.hostState n) ∧
        (∀ m, m ≠ n → t.dev.hr m = s.dev.hr m ∧ t.dev.hx m = s.dev.hx m ∧ t.dev.tx m = s.dev.tx m) ∧
        Kept s t { s.dev.answered with hrx := t.dev.hrx, htx := t.dev.htx, ltx := t.dev.ltx } (regsOf (pHtx n) [0x040, 0x044,
            0x04C] ++ regsOf (pHrx n) [0x044, 0x068] ++ regsOf 0x12 (regRun 0x080 8)) []) ∧
  (
    ∀ (s : State) (n : Lane),
      s.calm →
      s.dev.runs (pHtx n) →
      s.dev.htxState n = htStart →
      (s.dev.hx n).powered = false →
      Yields (exec (.htxStartPowered n) s) fun t =>
        (t.dev.hx n).powered = true ∧
        (s.dev.htxOthers n = false → t.dev.htxState n = htStart ∧ (t.dev.hx n).ramping = true ∧ (t.dev.hx n).ramp = 1) ∧
        (s.dev.htxOthers n = true → t.dev.b (pHtx n) (fHtxSq 2) = false ∧
            t.dev.htxState n = if s.dev.wuInForce n then htFrames else htData) ∧
        Kept s t (s.dev.updHtx n fun h => { h with powered := true, ramping := (t.dev.hx n).ramping, ramp := (t.dev.hx n).ramp }) [((pHtx n), 0x044)] []) ∧
  (
    ∀ (s : State) (n : Lane) (ms : Nat),
      s.calm →
      s.dev.runs (pHrx n) →
      s.dev.hostState n = stTrain →
      s.dev.g (pHrx n) fHostPhase = 5 →
      s.dev.htxState n = htData →
      (s.dev.hr n).announced = true →
      Yields (exec (.handover n ms) s) fun t =>
        t.dev.hostState n = (if s.dev.g (pHrx n) fHostHold = 0 then stRun else stHold) ∧
        t.dev.g (pHrx n) fHostFails = 0 ∧
        t.dev.g (pHrx n) fHostLastMs = min ms 65535 ∧
        t.dev.b (pHrx n) fNoPartner = false ∧
        t.dev.g (pHrx n) fHostPhase = 0 ∧
        t.dev.evt (pHrx n) 3 = true ∧
        Kept s t ((s.dev.updHrx n fun h => { h with search := none, valid3 := 0, ready16 := 0, announced := false, failRun := 0, passRun := 0 }).updLtx n fun h => { h with glide := !s.dev.segmented n }) [((pHrx n), 0x044), ((pHrx n), 0x068)] [((pHrx n), 3)]) ∧
  (
    ∀ (s : State) (n : Lane) (snr ms : Nat),
      s.calm →
      s.dev.runs (pHrx n) →
      s.dev.hostState n = stTrain →
      (s.dev.hr n).wu = false →
      s.dev.b (pHrx n) fHrxCdrLock = true →
      getBits (s.dev.hr n).cfg2 0 11 ≤ snr →
      Yields (exec (.staticAccept n snr ms) s) fun t =>
        t.dev.hostState n = (if s.dev.g (pHrx n) fHostHold = 0 then stRun else stHold) ∧
        t.dev.g (pHrx n) fHostSnr = snr % 2 ^ 16 ∧
        t.dev.g (pHrx n) fHostFails = 0 ∧
        t.dev.g (pHrx n) fHostLastMs = min ms 65535 ∧
        t.dev.evt (pHrx n) 3 = true ∧
        Kept s t ((s.dev.updHrx n fun h => { h with search := none, valid3 := 0, ready16 := 0, announced := false, failRun := 0, passRun := 0 }).updLtx n fun h => { h with glide := !s.dev.segmented n }) [((pHrx n), 0x044), ((pHrx n), 0x068), ((pHrx n), 0x074)] [((pHrx n), 3)]) ∧
  (
    ∀ (s : State) (n : Lane),
      s.calm →
      s.dev.runs (pHrx n) →
      s.dev.hostState n = stSeek ∨ s.dev.hostState n = stTrain →
      Yields (exec (.attemptTimerExpiry n) s) fun t =>
        t.dev.g (pHrx n) fHostFails = min (s.dev.g (pHrx n) fHostFails + 1) 15 ∧
        t.dev.g (pHrx n) fFailures = (s.dev.g (pHrx n) fFailures + 1) % 2 ^ 16 ∧
        t.dev.evt (pHrx n) 4 = true ∧
        t.dev.hostState n = (if min (s.dev.g (pHrx n) fHostFails + 1) 15 < getBits (s.dev.hr n).cfg 12 4 then stSeek else stFault) ∧
        (t.dev.hostState n = stFault → t.dev.b (pHrx n) fNoPartner = true ∧
            t.dev.evt (pHrx n) 5 = (s.dev.evt (pHrx n) 5 || !s.dev.b (pHrx n) fNoPartner)) ∧
        (∀ m, m ≠ n → t.dev.hr m = s.dev.hr m ∧ t.dev.hx m = s.dev.hx m ∧ t.dev.tx m = s.dev.tx m) ∧
        Kept s t { s.dev with hrx := t.dev.hrx, htx := t.dev.htx, ltx := t.dev.ltx } (regsOf (pHrx n) [0x044, 0x068,
            0x078] ++ regsOf (pHtx n) [0x044, 0x05C, 0x060]) [((pHrx n), 4), ((pHrx n), 5)]) ∧
  (
    ∀ (s : State) (n : Lane),
      s.calm →
      s.dev.runs (pHrx n) →
      s.dev.hostState n = stFault →
      Yields (exec (.hostFaultDwellEnd n) s) fun t =>
        t.dev.hostState n = stSeek ∧
        t.dev.b (pHrx n) fWuLock = false ∧
        (∀ m, m ≠ n → t.dev.hr m = s.dev.hr m ∧ t.dev.hx m = s.dev.hx m ∧ t.dev.tx m = s.dev.tx m) ∧
        Kept s t { s.dev with hrx := t.dev.hrx, htx := t.dev.htx, ltx := t.dev.ltx } (regsOf (pHrx n) [0x044,
            0x068] ++ regsOf (pHtx n) [0x044, 0x05C, 0x060]) [])

/-- WARMUP_FRAME_RECEIVED: a valid frame on a locked lane in TRAIN shows in RX_FRAME and takes the partner request of a new seq; the
third one in a row in RUN or HOLD retrains; without Warm-up it does nothing. WARMUP_FRAME_START counts down and enters DATA after
countdown 0. WARMUP_TAP_UPDATE answers the waiting request on the taps. SEARCH_MEASURE_END stores the SNR and goes on with the
search; REQ_TIMEOUT ends it with source 6. HOST_TABLE_REFRESH and HOST_FFE_LMS_UPDATE move the table (free values) and each tap by
at most one step in RUN. HOST_GATE_WINDOW sets the gate hold on the second failing window and clears it on the fourth passing one.
HTX_FIR_RAMP_STEP and HTX_SWING_SLEW_STEP move one step. Readings and choices: notes/assumptions/13, 17, 25. -/
def Obligations.WarmupTrainingAndUpkeep : Prop :=
  (
    ∀ (s : State) (n : Lane) (syms : List (Fin 4)) (spaced : Bool),
      s.calm →
      s.dev.runs (pHrx n) →
      (s.dev.hr n).wu = false ∨ s.dev.hostState n ∉ [stTrain, stRun, stHold] →
      Yields (exec (.warmupFrameReceived n syms spaced) s) fun t =>
        Kept s t s.dev [] []) ∧
  (
    ∀ (s : State) (n : Lane) (syms : List (Fin 4)) (spaced : Bool),
      s.calm →
      s.dev.runs (pHrx n) →
      (s.dev.hr n).wu = true →
      s.dev.hostState n = stTrain →
      s.dev.b (pHrx n) fWuLock = true →
      frameMarker syms = true →
      spaced = true →
      (frameWords syms).2.2 = true →
      Yields (exec (.warmupFrameReceived n syms spaced) s) fun t =>
        t.dev.rd (pHrx n) 0x06C = (frameWords syms).2.1 ++ (frameWords syms).1 ∧
        (t.dev.hx n).lastSeq = ctlSeq (frameWords syms).1 ∧
        (t.dev.hx n).service = (if ctlSeq (frameWords syms).1 =
            (s.dev.hx n).lastSeq then (s.dev.hx n).service else some ⟨(frameWords syms).1, 0⟩) ∧
        (t.dev.hr n).misses = 0 ∧
        t.dev.hostState n = stTrain ∧
        (∀ m, m ≠ n → t.dev.hr m = s.dev.hr m ∧ t.dev.hx m = s.dev.hx m ∧ t.dev.tx m = s.dev.tx m) ∧
        Kept s t { s.dev with hrx := t.dev.hrx, htx := t.dev.htx } [((pHrx n), 0x044), ((pHrx n), 0x068), ((pHrx n), 0x06C)] []) ∧
  (
    ∀ (s : State) (n : Lane) (syms : List (Fin 4)) (spaced : Bool),
      s.calm →
      s.dev.runs (pHrx n) →
      (s.dev.hr n).wu = true →
      s.dev.hostValid n = true →
      s.dev.b (pHrx n) fWuLock = true →
      frameMarker syms = true →
      spaced = true →
      (frameWords syms).2.2 = true →
      Yields (exec (.warmupFrameReceived n syms spaced) s) fun t =>
        t.dev.rd (pHrx n) 0x06C = (frameWords syms).2.1 ++ (frameWords syms).1 ∧
        ((s.dev.hr n).valid3 < 2 → t.dev.hostState n = s.dev.hostState n ∧ (t.dev.hr n).valid3 = (s.dev.hr n).valid3 + 1) ∧
        (2 ≤ (s.dev.hr n).valid3 → t.dev.hostState n = stTrain ∧ (t.dev.hr n).cfg = s.dev.rd (pHrx n) 0x060 ∧
            t.dev.g (pHrx n) fAttempts = (s.dev.g (pHrx n) fAttempts + 1) % 2 ^ 16) ∧
        (∀ m, m ≠ n → t.dev.hr m = s.dev.hr m ∧ t.dev.hx m = s.dev.hx m ∧ t.dev.tx m = s.dev.tx m) ∧
        Kept s t { s.dev with hrx := t.dev.hrx, htx := t.dev.htx, ltx := t.dev.ltx } (regsOf (pHrx n) [0x044, 0x050, 0x068, 0x06C,
            0x078] ++ regsOf (pHtx n) [0x044, 0x05C, 0x060] ++ regsOf 0x12 (regRun 0x080 8)) []) ∧
  (
    ∀ (s : State) (n : Lane),
      s.calm →
      s.dev.runs (pHtx n) →
      s.dev.htxState n = htFrames →
      s.dev.wuInForce n = true →
      Yields (exec (.warmupFrameStart n) s) fun t =>
        ((s.dev.hx n).countdown = some 0 → t.dev.htxState n = htData ∧ (t.dev.hx n).countdown = none) ∧
        (∀ k ∈ List.range 7, (s.dev.hx n).countdown = some (k + 1) → t.dev.htxState n = htFrames ∧ (t.dev.hx n).countdown = some k) ∧
        ((s.dev.hx n).countdown = none → t.dev.htxState n = htFrames ∧
            (t.dev.hx n).countdown = if s.dev.b (pHrx n) fLocalReady && s.dev.b (pHrx n) fFarReady then some 6 else none) ∧
        (t.dev.htxState n = htFrames → getBits (t.dev.rd (pHrx n) 0x070) 0 16 = (s.dev.hr n).ctl.toNat) ∧
        (∀ m, m ≠ n → t.dev.hr m = s.dev.hr m ∧ t.dev.hx m = s.dev.hx m ∧ t.dev.tx m = s.dev.tx m) ∧
        Kept s t { s.dev with htx := t.dev.htx } [((pHtx n), 0x044), ((pHrx n), 0x070)] []) ∧
  (
    ∀ (s : State) (n : Lane) (ctl : BitVec 16) (k : Nat) (r : Nat × List Int),
      s.calm →
      s.dev.runs (pHtx n) →
      (s.dev.hx n).service = some ⟨ctl, k⟩ →
      k ≠ 0 →
      r = serve ctl ((s.dev.hx n).countdown.isSome || s.dev.htxState n == htData) (s.dev.firLive n) →
      Yields (exec (.warmupTapUpdate n) s) fun t =>
        t.dev.rd (pHtx n) 0x05C = (firWords r.2).1 ∧
        t.dev.rd (pHtx n) 0x060 = (firWords r.2).2 ∧
        t.dev.g (pHtx n) fServed = min (s.dev.g (pHtx n) fServed + 1) 65535 ∧
        t.dev.g (pHtx n) fLimited = (if r.1 = 0 then s.dev.g (pHtx n) fLimited else min (s.dev.g (pHtx n) fLimited + 1) 65535) ∧
        t.dev.evt (pHtx n) 3 = (s.dev.evt (pHtx n) 3 || r.1 != 0) ∧
        Kept s t (s.dev.updHtx n fun h => { h with service := none, ack := ctlSeq ctl, result := r.1 }) (regsOf (pHtx n) [0x05C, 0x060,
            0x068]) [((pHtx n), 3)]) ∧
  (
    ∀ (s : State) (n : Lane) (snr : Nat) (x : HSearch),
      s.calm →
      s.dev.runs (pHrx n) →
      s.dev.hostState n = stTrain →
      s.dev.g (pHrx n) fHostPhase = 3 →
      s.dev.hostSquadHere n = true →
      (s.dev.hr n).search = some x →
      x.measuring = true →
      Yields (exec (.searchMeasureEnd n snr) s) fun t =>
        t.dev.g (pHrx n) fHostSnr = snr % 2 ^ 16 ∧
        ((t.dev.hr n).search = none ∧ t.dev.b (pHrx n) fLocalReady = true ∧ t.dev.g (pHrx n) fHostPhase = 4 ∨
            ((t.dev.hr n).search.map (·.waiting)) = some true ∧ ctlSeq (t.dev.hr n).ctl = (ctlSeq (s.dev.hr n).ctl + 1) % 4) ∧
        (x.stage = .step → x.base + 5 ≤ snr → x.count < getBits (s.dev.hr n).cfg2 24 8 →
            (t.dev.hr n).search = some { x with kept := true, base := snr, measuring := false, waiting := true, count := x.count + 1 }) ∧
        (∀ m, m ≠ n → t.dev.hr m = s.dev.hr m ∧ t.dev.hx m = s.dev.hx m ∧ t.dev.tx m = s.dev.tx m) ∧
        Kept s t { s.dev with hrx := t.dev.hrx } [((pHrx n), 0x074), ((pHrx n), 0x068)] []) ∧
  (
    ∀ (s : State) (n : Lane) (x : HSearch),
      s.calm →
      s.dev.runs (pHrx n) →
      s.dev.hostState n = stTrain →
      (s.dev.hr n).search = some x →
      x.waiting = true →
      Yields (exec (.reqTimeout n) s) fun t =>
        t.dev.evt (pHrx n) 6 = true ∧
        (getBits (s.dev.hr n).cfg2 0 11 ≤ x.base → (t.dev.hr n).search = none ∧ t.dev.b (pHrx n) fLocalReady = true ∧
            t.dev.g (pHrx n) fHostPhase = 4 ∧ (t.dev.hr n).ctl = ctlWord 7 0 0 0 (ctlSeq (s.dev.hr n).ctl)) ∧
        (x.base < getBits (s.dev.hr n).cfg2 0 11 → (t.dev.hr n).search.isSome = true) ∧
        (∀ m, m ≠ n → t.dev.hr m = s.dev.hr m ∧ t.dev.hx m = s.dev.hx m ∧ t.dev.tx m = s.dev.tx m) ∧
        Kept s t { s.dev with hrx := t.dev.hrx } [((pHrx n), 0x068)] [((pHrx n), 6)]) ∧
  (
    ∀ (s : State) (n : Lane) (snr : Nat),
      s.calm →
      s.dev.runs (pHrx n) →
      s.dev.hostState n = stRun →
      Yields (exec (.hostTableRefresh n snr) s) fun t =>
        t.dev.g (pHrx n) fHostSnr = snr % 2 ^ 16 ∧
        (∀ j, j < 16 → t.dev.rd (pHrx n) (0x180 + 4 * j) = ((Config.trained s.dev.free (79 + j)).truncate 10).zeroExtend 32) ∧
        Kept s t { s.dev with free := s.dev.free + 1 } (((pHrx n), 0x074) :: regsOf (pHrx n) (regRun 0x180 16)) []) ∧
  (
    ∀ (s : State) (n : Lane) (signs : List Int),
      s.calm →
      s.dev.runs (pHrx n) →
      s.dev.hostState n = stRun →
      Yields (exec (.hostFfeLmsUpdate n signs) s) fun t =>
        (∀ i, i < 24 → t.dev.rd (pHrx n) (0x100 + 4 * i) =
            BitVec.ofNat 32 (unsigned 12 (max (-2048) (min 2047 (signed 12 (s.dev.rd (pHrx n) (0x100 + 4 * i)).toNat + max (-1) (min 1 (signs.getD i 0))))))) ∧
        Kept s t s.dev (regsOf (pHrx n) (regRun 0x100 24)) []) ∧
  (
    ∀ (s : State) (n : Lane) (b : Block) (pass : Bool),
      s.calm →
      s.dev.runs (pHrx n) →
      s.dev.hostValid n = true →
      pass = (([b.occ0, b.occ1, b.occ2,
          b.occ3].all fun k => decide (18 * 4096 ≤ k * 100) && decide (k * 100 ≤ 32 * 4096)) && decide (50 * 4096 ≤ b.trans * 100)) →
      Yields (exec (.hostGateWindow n b) s) fun t =>
        t.dev.b (pHrx n) (fHostHoldBit 0) =
            (if pass then s.dev.b (pHrx n) (fHostHoldBit 0) && decide ((s.dev.hr n).passRun + 1 < 4) else s.dev.b (pHrx n) (fHostHoldBit 0) || decide (2 ≤ (s.dev.hr n).failRun + 1)) ∧
        (t.dev.rd (pHrx n) 0x044 ≠ s.dev.rd (pHrx n) 0x044 →
            t.dev.hostState n = (if t.dev.g (pHrx n) fHostHold = 0 then stRun else stHold)) ∧
        Kept s t (s.dev.updHrx n fun h => { h with failRun := if pass then 0 else h.failRun + 1, passRun := if pass then h.passRun + 1 else 0 }) [((pHrx n), 0x044)] []) ∧
  (
    ∀ (s : State) (n : Lane) (r : FirRamp),
      s.calm →
      s.dev.runs (pHtx n) →
      (s.dev.hx n).fir = some r →
      Yields (exec (.htxFirRampStep n) s) fun t =>
        (let c := ((firTaps r.from0 r.from1).zip (firTaps r.to0 r.to1)).map fun e => fadeStep e.1 e.2 (r.step + 1); t.dev.rd (pHtx n) 0x05C = (firWords c).1 ∧ t.dev.rd (pHtx n) 0x060 = (firWords c).2) ∧
        Kept s t (s.dev.updHtx n fun h => { h with fir := if 16 ≤ r.step + 1 then none else some { r with step := r.step + 1 } }) [((pHtx n), 0x05C), ((pHtx n), 0x060)] []) ∧
  (
    ∀ (s : State) (n : Lane),
      s.calm →
      s.dev.runs (pHtx n) →
      s.dev.htxState n ≠ htOff →
      Yields (exec (.htxSwingSlewStep n) s) fun t =>
        t.dev.g (pHtx n) fHtxLiveSwing =
            (if s.dev.g (pHtx n) fHtxLiveSwing < s.dev.g (pHtx n) fHtxSwing then s.dev.g (pHtx n) fHtxLiveSwing + 1 else if s.dev.g (pHtx n) fHtxSwing < s.dev.g (pHtx n) fHtxLiveSwing then s.dev.g (pHtx n) fHtxLiveSwing - 1 else s.dev.g (pHtx n) fHtxLiveSwing) ∧
        Kept s t s.dev [((pHtx n), 0x04C)] [])

/-- REF_ACTIVITY_LOSS and a REF_FREQ_CHECK more than 1,000 ppm off, on a reference that is ok: refR_ok clears with source 0 or 1, and
every PLL that prefers it and acquires or is locked enters holdover with source 5. A count within the limit, a check on the RC,
and the loss of a reference already lost change nothing. REF_OK sets refR_ok with source 2 or 3; with revert = 1 each PLL in
holdover that prefers it re-acquires with source 6 where its output is within 15 ppm, else sets ref_far with source 4. PLL_UNLOCK
and PLL_LOCK move a PLL between locked and acquiring. RCLK_CFG_WRITE stores. SYNTH_GLIDE_END ends the glide. Nothing else changes.
Readings and choices: notes/assumptions/13, 14, 26. -/
def Obligations.ReferencesAndPllsFollow : Prop :=
  (
    ∀ (s : State) (r : Fin 2),
      s.calm →
      s.dev.runs 0x01 →
      s.dev.b 0x01 (fRefOk r.val) = true →
      Yields (exec (.refActivityLoss r) s) fun t =>
        (∀ k < 3, t.dev.g 0x01 (fPll k) = (if s.dev.prefRef k = r.val ∧ s.dev.g 0x01 (fPll k) ∈ [1, 2] then 3 else s.dev.g 0x01 (fPll k))) ∧
        t.dev.b 0x01 (fRefOk r.val) = false ∧
        t.dev.evt 0x01 r.val = true ∧
        t.dev.b 0x01 (fRefOk (1 - r.val)) = s.dev.b 0x01 (fRefOk (1 - r.val)) ∧
        ((∃ k ∈ [0, 1, 2], s.dev.prefRef k = r.val ∧ s.dev.g 0x01 (fPll k) ∈ [1, 2]) → t.dev.evt 0x01 5 = true) ∧
        Kept s t s.dev [(0x01, 0x044), (0x01, 0x048)] [(0x01, r.val), (0x01, 5)]) ∧
  (
    ∀ (s : State) (r : Fin 2),
      s.calm →
      s.dev.runs 0x01 →
      s.dev.b 0x01 (fRefOk r.val) = false →
      Yields (exec (.refActivityLoss r) s) fun t =>
        Kept s t s.dev [] []) ∧
  (
    ∀ (s : State) (r : Fin 2) (c : Nat),
      s.calm →
      s.dev.runs 0x01 →
      s.dev.b 0x01 (fRefOk r.val) = true →
      s.dev.b 0x05 fTkRc = false →
      156250000 * 3277 * 1001 < c * 32768 * 1000 ∨ c * 32768 * 1000 < 156250000 * 3277 * 999 →
      Yields (exec (.refFreqCheck r c) s) fun t =>
        (∀ k < 3, t.dev.g 0x01 (fPll k) = (if s.dev.prefRef k = r.val ∧ s.dev.g 0x01 (fPll k) ∈ [1, 2] then 3 else s.dev.g 0x01 (fPll k))) ∧
        t.dev.b 0x01 (fRefOk r.val) = false ∧
        t.dev.evt 0x01 r.val = true ∧
        t.dev.b 0x01 (fRefOk (1 - r.val)) = s.dev.b 0x01 (fRefOk (1 - r.val)) ∧
        ((∃ k ∈ [0, 1, 2], s.dev.prefRef k = r.val ∧ s.dev.g 0x01 (fPll k) ∈ [1, 2]) → t.dev.evt 0x01 5 = true) ∧
        Kept s t s.dev [(0x01, 0x044), (0x01, 0x048)] [(0x01, r.val), (0x01, 5)]) ∧
  (
    ∀ (s : State) (r : Fin 2) (c : Nat),
      s.calm →
      s.dev.runs 0x01 →
      s.dev.b 0x05 fTkRc = true ∨ (156250000 * 3277 * 999 ≤ c * 32768 * 1000 ∧ c * 32768 * 1000 ≤ 156250000 * 3277 * 1001) →
      Yields (exec (.refFreqCheck r c) s) fun t =>
        Kept s t s.dev [] []) ∧
  (
    ∀ (s : State) (r : Fin 2) (ppm : List Int),
      s.calm →
      s.dev.runs 0x01 →
      s.dev.b 0x01 (fRefOk r.val) = false →
      Yields (exec (.refOk r ppm) s) fun t =>
        t.dev.b 0x01 (fRefOk r.val) = true ∧
        t.dev.evt 0x01 (2 + r.val) = true ∧
        (∀ k < 3, t.dev.g 0x01 (fPll k) = (if s.dev.prefRef k = r.val ∧ s.dev.g 0x01 (fPll k) = 3 ∧ s.dev.lg 0x01 fRevert = 1 ∧
            (ppm.getD k 0).natAbs ≤ 15 then 1 else s.dev.g 0x01 (fPll k))) ∧
        ((∃ k ∈ [0, 1, 2], s.dev.g 0x01 (fPll k) = 3 ∧ t.dev.g 0x01 (fPll k) = 1) → t.dev.evt 0x01 6 = true) ∧
        ((∃ k ∈ [0, 1, 2], s.dev.prefRef k = r.val ∧ s.dev.g 0x01 (fPll k) = 3 ∧ s.dev.lg 0x01 fRevert = 1 ∧ 15 < (ppm.getD k 0).natAbs) →
            t.dev.evt 0x01 4 = true) ∧
        Kept s t s.dev [(0x01, 0x044), (0x01, 0x048)] [(0x01, 2 + r.val), (0x01, 4), (0x01, 6)]) ∧
  (
    ∀ (s : State) (k : Fin 3),
      s.calm →
      s.dev.runs 0x01 →
      s.dev.g 0x01 (fPll k.val) = 2 →
      s.dev.b 0x01 (fRefOk (s.dev.prefRef k.val)) = true →
      Yields (exec (.pllUnlock k) s) fun t =>
        (∀ j < 3, t.dev.g 0x01 (fPll j) = (if j = k.val then 1 else s.dev.g 0x01 (fPll j))) ∧
        t.dev.evt 0x01 7 = true ∧
        t.dev.b 0x01 fRefFar = s.dev.b 0x01 fRefFar ∧
        Kept s t s.dev [(0x01, 0x048)] [(0x01, 7)]) ∧
  (
    ∀ (s : State) (k : Fin 3),
      s.calm →
      s.dev.runs 0x01 →
      s.dev.g 0x01 (fPll k.val) = 1 →
      Yields (exec (.pllLock k) s) fun t =>
        (∀ j < 3, t.dev.g 0x01 (fPll j) = (if j = k.val then 2 else s.dev.g 0x01 (fPll j))) ∧
        t.dev.b 0x01 fRefFar = s.dev.b 0x01 fRefFar ∧
        Kept s t s.dev [(0x01, 0x048)] []) ∧
  (
    ∀ (s : State) (w : Who) (q : Fin 2) (v : Word),
      s.calm →
      s.dev.takes w 0x01 (0x04C + 4 * q.val) →
      Yields (exec (.rclkCfgWrite w q v) s) fun t =>
        t.dev.rd 0x01 (0x04C + 4 * q.val) = storeWord 0x01 (0x04C + 4 * q.val) (s.dev.rd 0x01 (0x04C + 4 * q.val)) v ∧
        Kept s t s.dev.answered [(0x01, 0x04C + 4 * q.val)] []) ∧
  (
    ∀ (s : State) (n : Lane),
      s.calm →
      s.dev.runs (pLtx n) →
      Yields (exec (.synthGlideEnd .line n) s) fun t =>
        (t.dev.tx n).glide = false ∧
        Kept s t (s.dev.updLtx n fun h => { h with glide := false }) [] []) ∧
  (
    ∀ (s : State) (n : Lane),
      s.calm →
      s.dev.runs (pHtx n) →
      Yields (exec (.synthGlideEnd .host n) s) fun t =>
        (t.dev.hx n).glide = false ∧
        Kept s t (s.dev.updHtx n fun h => { h with glide := false }) [] [])

/-- SQUAD_HALT_REQ stores CTRL and, on a RUNNING Squad outside a reload, starts the halt. SQUAD_HALTED then enters HALTED, SQUAD_RUN
in HALTED enters RUNNING. A trap or watchdog in RUNNING outside a reload enters TRAPPED and records cause, engine, pc, address and
count with source 0; another engine's trap in TRAPPED is only counted. AUTO_RECOVER requests a reload of a TRAPPED Squad with
auto_recover. DMA_CLR returns the named halted channels to idle. The lane takes the engines hold reason outside RUNNING and loses
it in RUNNING. No capture analysis runs; nothing else changes. Readings and choices: notes/assumptions/13, 17, 27. -/
def Obligations.SquadsHaltRunAndTrap : Prop :=
  (
    ∀ (s : State) (w : Who) (n : Sq) (v : Word),
      s.calm →
      s.dev.takes w (pSquad n) 0x040 →
      s.dev.sqState n ≠ sqHalted →
      Yields (exec (.squadHaltReq w n v) s) fun t =>
        t.dev.rd (pSquad n) 0x040 = storeWord (pSquad n) 0x040 (s.dev.rd (pSquad n) 0x040) (v ||| 1) ∧
        (t.dev.sq n).halting = ((s.dev.sqRuns n && !(s.dev.sq n).reloading) || (s.dev.sq n).halting) ∧
        Kept s t (s.dev.answered.updSquad n fun h => { h with halting := (t.dev.sq n).halting }) [((pSquad n), 0x040)] []) ∧
  (
    ∀ (s : State) (n : Sq),
      s.calm →
      s.dev.runs (pSquad n) →
      s.dev.sqState n = sqRunning →
      (s.dev.sq n).halting = true →
      (s.dev.sq n).reloading = false →
      s.dev.capState ≠ cAnalysing →
      Yields (exec (.squadHalted n) s) fun t =>
        t.dev.sqState n = sqHalted ∧
        (n.val < 8 → t.dev.b (pPacer (sqLane n)) fHoldReload = false ∧ t.dev.b (pPacer (sqLane n)) fHoldEngines = true) ∧
        (8 ≤ n.val → t.dev.b (pHrx (sqLane n)) (fHostHoldBit 1) = false ∧ t.dev.b (pHrx (sqLane n)) (fHostHoldBit 3) = true) ∧
        (n.val < 8 → s.dev.laneState (sqLane n) = stRun → s.dev.g (pPacer (sqLane n)) fHoldSrc = 0 → t.dev.laneState (sqLane n) = stHold) ∧
        (8 ≤ n.val → s.dev.hostState (sqLane n) = stRun → t.dev.hostState (sqLane n) = stHold) ∧
        (∀ m, m ≠ sqLane n → t.dev.lx m = s.dev.lx m ∧ t.dev.pc m = s.dev.pc m) ∧
        Kept s t { (s.dev.updSquad n fun h => { h with halting := false }) with lrx := t.dev.lrx, pacer := t.dev.pacer } (((pSquad n),
            0x044) :: (regsOf (pPacer (sqLane n)) [0x044, 0x05C] ++ regsOf (pLrx (sqLane n)) [0x044, 0x078] ++ [((pHrx (sqLane n)),
            0x044)])) [((pPacer (sqLane n)), 8), ((pLrx (sqLane n)), 6)]) ∧
  (
    ∀ (s : State) (w : Who) (n : Sq) (v : Word),
      s.calm →
      s.dev.takes w (pSquad n) 0x040 →
      s.dev.sqState n = sqHalted →
      (s.dev.sq n).reloading = false →
      Yields (exec (.squadRun w n v) s) fun t =>
        t.dev.rd (pSquad n) 0x040 = storeWord (pSquad n) 0x040 (s.dev.rd (pSquad n) 0x040) (v ||| 2) ∧
        t.dev.sqState n = sqRunning ∧
        (n.val < 8 → t.dev.b (pPacer (sqLane n)) fHoldReload = false ∧ t.dev.b (pPacer (sqLane n)) fHoldEngines = false) ∧
        (8 ≤ n.val → t.dev.b (pHrx (sqLane n)) (fHostHoldBit 1) = false ∧ t.dev.b (pHrx (sqLane n)) (fHostHoldBit 3) = false) ∧
        (n.val < 8 → s.dev.laneState (sqLane n) = stHold → s.dev.b (pPacer (sqLane n)) fHoldEngines = true →
            t.dev.g (pPacer (sqLane n)) fHoldSrc = 0 → t.dev.laneState (sqLane n) = stRun) ∧
        (∀ m, m ≠ sqLane n → t.dev.lx m = s.dev.lx m ∧ t.dev.pc m = s.dev.pc m) ∧
        Kept s t { (s.dev.answered.updSquad n fun h => { h with trapped := [] }) with lrx := t.dev.lrx, pacer := t.dev.pacer } (((pSquad n), 0x040) :: ((pSquad n), 0x044) :: (regsOf (pPacer (sqLane n)) [0x044, 0x05C] ++ regsOf (pLrx (sqLane n)) [0x044, 0x078] ++ [((pHrx (sqLane n)), 0x044)])) [((pPacer (sqLane n)), 8), ((pLrx (sqLane n)), 6)]) ∧
  (
    ∀ (s : State) (n : Sq) (e : Fin 64) (c : Fin 6) (pc addr : Word),
      s.calm →
      s.dev.runs (pSquad n) →
      s.dev.sqState n = sqRunning →
      (s.dev.sq n).reloading = false →
      s.dev.capState ≠ cAnalysing →
      Yields (exec (.engineTrap n e c pc addr) s) fun t =>
        t.dev.sqState n = sqTrapped ∧
        t.dev.g (pSquad n) fTrapCause = c.val + 1 ∧
        t.dev.g (pSquad n) fTrapEngine = e.val ∧
        t.dev.g (pSquad n) fTrapCount = min (s.dev.g (pSquad n) fTrapCount + 1) 255 ∧
        t.dev.rd (pSquad n) 0x04C = pc ∧
        t.dev.rd (pSquad n) 0x050 = addr ∧
        t.dev.evt (pSquad n) 0 = true ∧
        t.dev.sq n = { s.dev.sq n with halting := false, trapped := [e.val] } ∧
        (n.val < 8 → t.dev.b (pPacer (sqLane n)) fHoldReload = false ∧ t.dev.b (pPacer (sqLane n)) fHoldEngines = true) ∧
        (8 ≤ n.val → t.dev.b (pHrx (sqLane n)) (fHostHoldBit 1) = false ∧ t.dev.b (pHrx (sqLane n)) (fHostHoldBit 3) = true) ∧
        (n.val < 8 → s.dev.laneState (sqLane n) = stRun → s.dev.g (pPacer (sqLane n)) fHoldSrc = 0 → t.dev.laneState (sqLane n) = stHold) ∧
        (8 ≤ n.val → s.dev.hostState (sqLane n) = stRun → t.dev.hostState (sqLane n) = stHold) ∧
        (∀ m, m ≠ n → t.dev.sq m = s.dev.sq m) ∧
        (∀ m, m ≠ sqLane n → t.dev.lx m = s.dev.lx m ∧ t.dev.pc m = s.dev.pc m) ∧
        Kept s t { (s.dev.updSquad n fun _ => t.dev.sq n) with lrx := t.dev.lrx, pacer := t.dev.pacer } (regsOf (pSquad n) [0x044, 0x048,
            0x04C, 0x050] ++ regsOf (pPacer (sqLane n)) [0x044, 0x05C] ++ regsOf (pLrx (sqLane n)) [0x044, 0x078] ++ [((pHrx (sqLane n)),
            0x044)]) [((pSquad n), 0), ((pPacer (sqLane n)), 8), ((pLrx (sqLane n)), 6)]) ∧
  (
    ∀ (s : State) (n : Sq) (e : Fin 64) (c : Fin 6) (pc addr : Word),
      s.calm →
      s.dev.runs (pSquad n) →
      s.dev.sqState n = sqTrapped →
      e.val ∉ (s.dev.sq n).trapped →
      Yields (exec (.engineTrap n e c pc addr) s) fun t =>
        t.dev.rd (pSquad n) 0x048 = setBits (s.dev.rd (pSquad n) 0x048) 16 8 (min (s.dev.g (pSquad n) fTrapCount + 1) 255) ∧
        Kept s t (s.dev.updSquad n fun h => { h with trapped := h.trapped ++ [e.val] }) [((pSquad n), 0x048)] []) ∧
  (
    ∀ (s : State) (n : Sq) (e : Fin 64) (pc : Word),
      s.calm →
      s.dev.runs (pSquad n) →
      s.dev.sqState n = sqRunning →
      (s.dev.sq n).reloading = false →
      s.dev.capState ≠ cAnalysing →
      Yields (exec (.engineWatchdog n e pc) s) fun t =>
        t.dev.sqState n = sqTrapped ∧
        t.dev.g (pSquad n) fTrapCause = 6 ∧
        t.dev.g (pSquad n) fTrapEngine = e.val ∧
        t.dev.g (pSquad n) fTrapCount = min (s.dev.g (pSquad n) fTrapCount + 1) 255 ∧
        t.dev.rd (pSquad n) 0x04C = pc ∧
        t.dev.rd (pSquad n) 0x050 = 0 ∧
        t.dev.evt (pSquad n) 0 = true ∧
        t.dev.sq n = { s.dev.sq n with halting := false, trapped := [e.val] } ∧
        (n.val < 8 → t.dev.b (pPacer (sqLane n)) fHoldReload = false ∧ t.dev.b (pPacer (sqLane n)) fHoldEngines = true) ∧
        (8 ≤ n.val → t.dev.b (pHrx (sqLane n)) (fHostHoldBit 1) = false ∧ t.dev.b (pHrx (sqLane n)) (fHostHoldBit 3) = true) ∧
        (n.val < 8 → s.dev.laneState (sqLane n) = stRun → s.dev.g (pPacer (sqLane n)) fHoldSrc = 0 → t.dev.laneState (sqLane n) = stHold) ∧
        (8 ≤ n.val → s.dev.hostState (sqLane n) = stRun → t.dev.hostState (sqLane n) = stHold) ∧
        (∀ m, m ≠ n → t.dev.sq m = s.dev.sq m) ∧
        (∀ m, m ≠ sqLane n → t.dev.lx m = s.dev.lx m ∧ t.dev.pc m = s.dev.pc m) ∧
        Kept s t { (s.dev.updSquad n fun _ => t.dev.sq n) with lrx := t.dev.lrx, pacer := t.dev.pacer } (regsOf (pSquad n) [0x044, 0x048,
            0x04C, 0x050] ++ regsOf (pPacer (sqLane n)) [0x044, 0x05C] ++ regsOf (pLrx (sqLane n)) [0x044, 0x078] ++ [((pHrx (sqLane n)),
            0x044)]) [((pSquad n), 0), ((pPacer (sqLane n)), 8), ((pLrx (sqLane n)), 6)]) ∧
  (
    ∀ (s : State) (n : Sq),
      s.calm →
      s.dev.runs (pSquad n) →
      s.dev.sqState n = sqTrapped →
      s.dev.b (pSquad n) fAutoRecover = true →
      s.dev.coachUp = true →
      n.val ∉ s.dev.loader →
      Yields (exec (.autoRecover n) s) fun t =>
        t.dev.loader = s.dev.loader ++ [n.val] ∧
        t.dev.b (pSquad n) fReloadQueued = true ∧
        Kept s t { s.dev with loader := t.dev.loader } [((pSquad n), 0x058)] []) ∧
  (
    ∀ (s : State) (n : Sq),
      s.calm →
      s.dev.runs (pSquad n) →
      s.dev.sqState n ≠ sqTrapped ∨ s.dev.b (pSquad n) fAutoRecover = false ∨ s.dev.coachUp = false ∨ n.val ∈ s.dev.loader →
      Yields (exec (.autoRecover n) s) fun t =>
        Kept s t s.dev [] []) ∧
  (
    ∀ (s : State) (w : Who) (n : Sq) (v : Word),
      s.calm →
      s.dev.takes w (pSquad n) 0x090 →
      Yields (exec (.dmaClr w n v) s) fun t =>
        (∀ c < 4, t.dev.g (pSquad n) (fDmaState c) = (if v.getLsbD c ∧
            s.dev.g (pSquad n) (fDmaState c) = 2 then 0 else s.dev.g (pSquad n) (fDmaState c))) ∧
        (∀ c < 4, t.dev.g (pSquad n) (fDmaCause c) = (if v.getLsbD c ∧
            s.dev.g (pSquad n) (fDmaState c) = 2 then 0 else s.dev.g (pSquad n) (fDmaCause c))) ∧
        Kept s t s.dev.answered (regsOf (pSquad n) [0x070, 0x074, 0x078, 0x07C]) [])

/-- RELOAD_GO queues a request, or merges it with one that waits or loads. RELOAD_START on the first request with a package loaded
takes it up: program memory becomes the image, the engine data clears, every other byte of memory stays, the Squad is LOADING or
RELOADING with the reload hold reason, its locks are free and its exclusions end. RELOAD_VERIFY with the right digest shows the
image and runs the engines; else the Squad is OFF with result 2, source 4 and its program memory not valid. RELOAD_DONE: result 1,
the count, no traps, source 4. A DMA transfer of one word between SRAM and engine data copies it. Readings and choices:
notes/assumptions/12, 13, 18, 27. -/
def Obligations.SquadsReload : Prop :=
  (
    ∀ (s : State) (w : Who) (n : Sq),
      s.calm →
      s.dev.takes w (pSquad n) 0x054 →
      Yields (exec (.reloadGo w n) s) fun t =>
        t.dev.loader = (if n.val ∈ s.dev.loader ∨ s.dev.sqState n = sqLoading ∨
            s.dev.sqState n = sqReloading then s.dev.loader else s.dev.loader ++ [n.val]) ∧
        (t.dev.loader ≠ s.dev.loader → t.dev.b (pSquad n) fReloadQueued = true) ∧
        (t.dev.loader = s.dev.loader → t.dev.rd (pSquad n) 0x058 = s.dev.rd (pSquad n) 0x058) ∧
        Kept s t { s.dev.answered with loader := t.dev.loader } [((pSquad n), 0x058)] []) ∧
  (
    ∀ (s : State) (n : Sq),
      s.calm →
      s.memOk →
      s.dev.runs (pSquad n) →
      s.dev.loader.head? = some n.val →
      s.dev.serving = none →
      s.dev.coachUp = true →
      s.dev.boot.manifest ≠ [] →
      s.dev.sqState n ∉ [sqLoading, sqReloading] →
      s.dev.capState ≠ cAnalysing →
      (∀ c < 16, s.dev.g pMbox (fChRx c) ≠ sqMaster n) →
      Yields (exec (.reloadStart n) s) fun t =>
        t.dev.sqState n = (if s.dev.sqState n = sqOff then sqLoading else sqReloading) ∧
        t.dev.loader = s.dev.loader.tail ∧
        t.dev.serving = some n.val ∧
        t.dev.b (pSquad n) fReloadQueued = false ∧
        (∀ a : Nat, memGet t.mem a = (if squadWindow n.val ≤ a ∧
            a < squadWindow n.val + 0x40000 then memGet s.mem (a - squadWindow n.val + imageBase n) else if squadWindow n.val + 0x40000 ≤ a ∧ a < squadWindow n.val + 0xC0000 then 0 else memGet s.mem a)) ∧
        t.dev.sq n = { s.dev.sq n with excl := [], reloading := true, verified := false, halting := false } ∧
        (∀ i < 32, t.dev.g pLocks (fOwn i) = (if s.dev.g pLocks (fOwn i) = sqMaster n + 1 then 0 else s.dev.g pLocks (fOwn i))) ∧
        (n.val < 8 → t.dev.b (pPacer (sqLane n)) fHoldReload = true ∧ t.dev.b (pPacer (sqLane n)) fHoldEngines = false) ∧
        (8 ≤ n.val → t.dev.b (pHrx (sqLane n)) (fHostHoldBit 1) = true ∧ t.dev.b (pHrx (sqLane n)) (fHostHoldBit 3) = false) ∧
        (n.val < 8 → s.dev.laneState (sqLane n) = stRun → s.dev.g (pPacer (sqLane n)) fHoldSrc = 0 → t.dev.laneState (sqLane n) = stHold) ∧
        (8 ≤ n.val → s.dev.hostState (sqLane n) = stRun → t.dev.hostState (sqLane n) = stHold) ∧
        (∀ m, m ≠ n → t.dev.sq m = s.dev.sq m) ∧
        (∀ m, m ≠ sqLane n → t.dev.lx m = s.dev.lx m ∧ t.dev.pc m = s.dev.pc m) ∧
        Kept { s with mem := t.mem } t { s.dev with squad := t.dev.squad, loader := t.dev.loader, serving := some n.val, lrx := t.dev.lrx, pacer := t.dev.pacer } (((pSquad n), 0x044) :: ((pSquad n), 0x058) :: (regsOf (pPacer (sqLane n)) [0x044, 0x05C] ++ regsOf (pLrx (sqLane n)) [0x044, 0x078] ++ [((pHrx (sqLane n)), 0x044)]) ++ regsOf pLocks (regRun 0x0C0 8)) [((pPacer (sqLane n)), 8), ((pLrx (sqLane n)), 6)]) ∧
  (
    ∀ (s : State) (n : Sq) (id : Word),
      s.calm →
      s.dev.runs (pSquad n) →
      s.dev.sqState n ∈ [sqLoading, sqReloading] →
      (s.dev.sq n).reloading = true →
      s.imageMatches n = true →
      Yields (exec (.reloadVerify n id) s) fun t =>
        t.dev.sqState n = sqRunning ∧
        t.dev.rd (pSquad n) 0x068 = id ∧
        t.dev.sq n = { s.dev.sq n with verified := true, trapped := [], digest := segDigest s.dev.boot.manifest (imageSeg n) } ∧
        (n.val < 8 → t.dev.b (pPacer (sqLane n)) fHoldReload = true ∧ t.dev.b (pPacer (sqLane n)) fHoldEngines = false) ∧
        (8 ≤ n.val → t.dev.b (pHrx (sqLane n)) (fHostHoldBit 1) = true ∧ t.dev.b (pHrx (sqLane n)) (fHostHoldBit 3) = false) ∧
        (∀ m, m ≠ n → t.dev.sq m = s.dev.sq m) ∧
        (∀ m, m ≠ sqLane n → t.dev.lx m = s.dev.lx m ∧ t.dev.pc m = s.dev.pc m) ∧
        Kept s t { (s.dev.updSquad n fun _ => t.dev.sq n) with lrx := t.dev.lrx, pacer := t.dev.pacer } (((pSquad n),
            0x044) :: ((pSquad n), 0x068) :: (regsOf (pPacer (sqLane n)) [0x044, 0x05C] ++ regsOf (pLrx (sqLane n)) [0x044,
            0x078] ++ [((pHrx (sqLane n)), 0x044)])) [((pPacer (sqLane n)), 8), ((pLrx (sqLane n)), 6)]) ∧
  (
    ∀ (s : State) (n : Sq) (id : Word),
      s.calm →
      s.dev.runs (pSquad n) →
      s.dev.sqState n ∈ [sqLoading, sqReloading] →
      s.imageMatches n = false →
      s.dev.serving = some n.val →
      s.dev.capState ≠ cAnalysing →
      Yields (exec (.reloadVerify n id) s) fun t =>
        t.dev.sqState n = sqOff ∧
        t.dev.g (pSquad n) fReloadResult = 2 ∧
        t.dev.evt (pSquad n) 4 = true ∧
        t.dev.serving = none ∧
        (∀ a : Nat, memGet t.mem a = (if squadWindow n.val ≤ a ∧ a < squadWindow n.val + 0x40000 then 0 else memGet s.mem a)) ∧
        (n.val < 8 → t.dev.b (pPacer (sqLane n)) fHoldReload = false ∧ t.dev.b (pPacer (sqLane n)) fHoldEngines = true) ∧
        (8 ≤ n.val → t.dev.b (pHrx (sqLane n)) (fHostHoldBit 1) = false ∧ t.dev.b (pHrx (sqLane n)) (fHostHoldBit 3) = true) ∧
        (∀ m, m ≠ sqLane n → t.dev.lx m = s.dev.lx m ∧ t.dev.pc m = s.dev.pc m) ∧
        Kept { s with mem := t.mem } t { (s.dev.updSquad n fun h => { h with reloading := false, verified := false, halting := false, trapped := (t.dev.sq n).trapped }) with serving := none, lrx := t.dev.lrx, pacer := t.dev.pacer } (((pSquad n), 0x044) :: ((pSquad n), 0x058) :: (regsOf (pPacer (sqLane n)) [0x044, 0x05C] ++ regsOf (pLrx (sqLane n)) [0x044, 0x078] ++ [((pHrx (sqLane n)), 0x044)])) [((pSquad n), 4), ((pPacer (sqLane n)), 8), ((pLrx (sqLane n)), 6)]) ∧
  (
    ∀ (s : State) (n : Sq),
      s.calm →
      s.dev.runs (pSquad n) →
      s.dev.sqState n = sqRunning →
      (s.dev.sq n).reloading = true →
      (s.dev.sq n).verified = true →
      s.dev.serving = some n.val →
      Yields (exec (.reloadDone n) s) fun t =>
        t.dev.g (pSquad n) fReloadResult = 1 ∧
        t.dev.g (pSquad n) fReloadCount = (s.dev.g (pSquad n) fReloadCount + 1) % 65536 ∧
        t.dev.g (pSquad n) fTrapCount = 0 ∧
        t.dev.evt (pSquad n) 4 = true ∧
        t.dev.serving = none ∧
        (n.val < 8 → t.dev.b (pPacer (sqLane n)) fHoldReload = false ∧ t.dev.b (pPacer (sqLane n)) fHoldEngines = false) ∧
        (8 ≤ n.val → t.dev.b (pHrx (sqLane n)) (fHostHoldBit 1) = false ∧ t.dev.b (pHrx (sqLane n)) (fHostHoldBit 3) = false) ∧
        (∀ m, m ≠ sqLane n → t.dev.lx m = s.dev.lx m ∧ t.dev.pc m = s.dev.pc m) ∧
        Kept s t { (s.dev.updSquad n fun h => { h with reloading := false, verified := false }) with serving := none, lrx := t.dev.lrx, pacer := t.dev.pacer } (((pSquad n), 0x048) :: ((pSquad n), 0x058) :: (regsOf (pPacer (sqLane n)) [0x044, 0x05C] ++ regsOf (pLrx (sqLane n)) [0x044, 0x078] ++ [((pHrx (sqLane n)), 0x044)])) [((pSquad n), 4), ((pPacer (sqLane n)), 8), ((pLrx (sqLane n)), 6)]) ∧
  (
    ∀ (s : State) (n : Sq) (c : Fin 4) (src dst : Word) (rs ws : Nat),
      s.calm →
      s.dev.runs (pSquad n) →
      s.dev.sqState n = sqRunning →
      s.dev.g (pSquad n) (fDmaState c.val) = 0 →
      src.toNat % 4 = 0 ∧ dst.toNat % 4 = 0 ∧ rs % 4 = 0 ∧ ws % 4 = 0 →
      s.dev.memStatus (dmaWho n c) src.toNat false = .ok →
      s.dev.memStatus (dmaWho n c) dst.toNat true = .ok →
      0x00200000 ≤ src.toNat ∧ 0x00200000 ≤ dst.toNat →
      s.dev.eccAt src.toNat = ⟨0, false⟩ →
      Yields (exec (.dmaTransfer n c ⟨src, dst, 1, 1, rs, ws⟩) s) fun t =>
        memWord t.mem dst.toNat = memWord s.mem src.toNat ∧
        (∀ a : Nat, (a < dst.toNat ∨ dst.toNat + 4 ≤ a) → memGet t.mem a = memGet s.mem a) ∧
        Kept { s with mem := t.mem } t s.dev [] []) ∧
  (
    ∀ (s : State) (n : Sq) (c : Fin 4) (src dst : Word) (rs ws : Nat),
      s.calm →
      s.dev.runs (pSquad n) →
      s.dev.sqState n = sqRunning →
      s.dev.g (pSquad n) (fDmaState c.val) = 0 →
      src.toNat % 4 = 0 ∧ dst.toNat % 4 = 0 ∧ rs % 4 = 0 ∧ ws % 4 = 0 →
      0x00600000 ≤ src.toNat →
      s.dev.memStatus (dmaWho n c) src.toNat false ≠ .ok →
      Yields (exec (.dmaTransfer n c ⟨src, dst, 1, 1, rs, ws⟩) s) fun t =>
        t.dev.g (pSquad n) (fDmaState c.val) = 2 ∧
        t.dev.g (pSquad n) (fDmaCause c.val) = 2 ∧
        t.dev.rd (pSquad n) (0x080 + 4 * c.val) = src ∧
        t.dev.evt (pSquad n) 1 = true ∧
        Kept s t s.dev (regsOf (pSquad n) [0x070 + 4 * c.val, 0x080 + 4 * c.val]) [((pSquad n), 1)])

/-- SQUAD_IDENT, STATS, EXCLUDE, INCLUDE and ENG_MAP written to a free slot of a RUNNING Squad: CMD holds op and tag, busy = 1,
collide = 0. CMD_DONE ends the command with its tag, a code, four response words and source 5: IDENT the image, STATS the measured
figures, EXCLUDE code 0 and the engines left, or code 2 where fewer than 32 would be left, INCLUDE takes the engine back, ENG_MAP
the map, another op code 1. CMD_TIMEOUT: code 3. A write while busy only sets collide; on a Squad that is not RUNNING it ends with
code 4. Nothing else changes. Readings and choices: notes/assumptions/14, 17, 27. -/
def Obligations.SquadCommandsAnswer : Prop :=
  (
    ∀ (s : State) (w : Who) (n : Sq) (tag : BitVec 8),
      s.calm →
      s.dev.takes w (pSquad n) 0x0A0 →
      s.dev.b (pSquad n) fCmdBusy = false →
      s.dev.sqState n = sqRunning →
      Yields (exec (.squadIdent w n tag) s) fun t =>
        t.dev.g (pSquad n) fCmdOp = 1 ∧
        t.dev.g (pSquad n) fCmdTag = tag.toNat ∧
        t.dev.b (pSquad n) fCmdBusy = true ∧
        t.dev.b (pSquad n) fCmdCollide = false ∧
        Kept s t s.dev.answered (regsOf (pSquad n) [0x0A0, 0x0B4]) []) ∧
  (
    ∀ (s : State) (w : Who) (n : Sq) (tag : BitVec 8),
      s.calm →
      s.dev.takes w (pSquad n) 0x0A0 →
      s.dev.b (pSquad n) fCmdBusy = false →
      s.dev.sqState n = sqRunning →
      Yields (exec (.stats w n tag) s) fun t =>
        t.dev.g (pSquad n) fCmdOp = 2 ∧
        t.dev.g (pSquad n) fCmdTag = tag.toNat ∧
        t.dev.b (pSquad n) fCmdBusy = true ∧
        t.dev.b (pSquad n) fCmdCollide = false ∧
        Kept s t s.dev.answered (regsOf (pSquad n) [0x0A0, 0x0B4]) []) ∧
  (
    ∀ (s : State) (w : Who) (n : Sq) (tag : BitVec 8),
      s.calm →
      s.dev.takes w (pSquad n) 0x0A0 →
      s.dev.b (pSquad n) fCmdBusy = false →
      s.dev.sqState n = sqRunning →
      Yields (exec (.exclude w n tag) s) fun t =>
        t.dev.g (pSquad n) fCmdOp = 3 ∧
        t.dev.g (pSquad n) fCmdTag = tag.toNat ∧
        t.dev.b (pSquad n) fCmdBusy = true ∧
        t.dev.b (pSquad n) fCmdCollide = false ∧
        Kept s t s.dev.answered (regsOf (pSquad n) [0x0A0, 0x0B4]) []) ∧
  (
    ∀ (s : State) (w : Who) (n : Sq) (tag : BitVec 8),
      s.calm →
      s.dev.takes w (pSquad n) 0x0A0 →
      s.dev.b (pSquad n) fCmdBusy = false →
      s.dev.sqState n = sqRunning →
      Yields (exec (.include w n tag) s) fun t =>
        t.dev.g (pSquad n) fCmdOp = 4 ∧
        t.dev.g (pSquad n) fCmdTag = tag.toNat ∧
        t.dev.b (pSquad n) fCmdBusy = true ∧
        t.dev.b (pSquad n) fCmdCollide = false ∧
        Kept s t s.dev.answered (regsOf (pSquad n) [0x0A0, 0x0B4]) []) ∧
  (
    ∀ (s : State) (w : Who) (n : Sq) (tag : BitVec 8),
      s.calm →
      s.dev.takes w (pSquad n) 0x0A0 →
      s.dev.b (pSquad n) fCmdBusy = false →
      s.dev.sqState n = sqRunning →
      Yields (exec (.engMap w n tag) s) fun t =>
        t.dev.g (pSquad n) fCmdOp = 5 ∧
        t.dev.g (pSquad n) fCmdTag = tag.toNat ∧
        t.dev.b (pSquad n) fCmdBusy = true ∧
        t.dev.b (pSquad n) fCmdCollide = false ∧
        Kept s t s.dev.answered (regsOf (pSquad n) [0x0A0, 0x0B4]) []) ∧
  (
    ∀ (s : State) (w : Who) (n : Sq) (tag : BitVec 8),
      s.calm →
      s.dev.takes w (pSquad n) 0x0A0 →
      s.dev.b (pSquad n) fCmdBusy = true →
      Yields (exec (.stats w n tag) s) fun t =>
        t.dev.rd (pSquad n) 0x0B4 = s.dev.rd (pSquad n) 0x0B4 ||| 2 ∧
        Kept s t s.dev.answered [((pSquad n), 0x0B4)] []) ∧
  (
    ∀ (s : State) (w : Who) (n : Sq) (tag : BitVec 8),
      s.calm →
      s.dev.takes w (pSquad n) 0x0A0 →
      s.dev.b (pSquad n) fCmdBusy = false →
      s.dev.sqState n ≠ sqRunning →
      Yields (exec (.engMap w n tag) s) fun t =>
        t.dev.g (pSquad n) fCmdCode = 4 ∧
        t.dev.g (pSquad n) fCmdLastTag = tag.toNat ∧
        t.dev.b (pSquad n) fCmdBusy = false ∧
        t.dev.rds (pSquad n) 0x0B8 4 = [0, 0, 0, 0] ∧
        t.dev.evt (pSquad n) 5 = true ∧
        Kept s t s.dev.answered (regsOf (pSquad n) [0x0A0, 0x0B4, 0x0B8, 0x0BC, 0x0C0, 0x0C4]) [((pSquad n), 5)]) ∧
  (
    ∀ (s : State) (n : Sq) (ut lo sk : Word),
      s.calm →
      s.dev.runs (pSquad n) →
      s.dev.b (pSquad n) fCmdBusy = true →
      s.dev.sqState n = sqRunning →
      s.dev.g (pSquad n) fCmdOp = 1 →
      Yields (exec (.cmdDone n ut lo sk) s) fun t =>
        t.dev.g (pSquad n) fCmdCode = 0 ∧
        t.dev.g (pSquad n) fCmdLastTag = s.dev.g (pSquad n) fCmdTag ∧
        t.dev.b (pSquad n) fCmdBusy = false ∧
        t.dev.rds (pSquad n) 0x0B8 4 = [s.dev.rd (pSquad n) 0x068, BitVec.ofNat 32 (leNat ((s.dev.sq n).digest.take 4)), 0, 0] ∧
        t.dev.evt (pSquad n) 5 = true ∧
        Kept s t s.dev (regsOf (pSquad n) [0x0B4, 0x0B8, 0x0BC, 0x0C0, 0x0C4]) [((pSquad n), 5)]) ∧
  (
    ∀ (s : State) (n : Sq) (ut lo sk : Word),
      s.calm →
      s.dev.runs (pSquad n) →
      s.dev.b (pSquad n) fCmdBusy = true →
      s.dev.sqState n = sqRunning →
      s.dev.g (pSquad n) fCmdOp = 2 →
      Yields (exec (.cmdDone n ut lo sk) s) fun t =>
        t.dev.g (pSquad n) fCmdCode = 0 ∧
        t.dev.g (pSquad n) fCmdLastTag = s.dev.g (pSquad n) fCmdTag ∧
        t.dev.b (pSquad n) fCmdBusy = false ∧
        t.dev.rds (pSquad n) 0x0B8 4 = [ut, lo, sk, 0] ∧
        t.dev.evt (pSquad n) 5 = true ∧
        Kept s t s.dev (regsOf (pSquad n) [0x0B4, 0x0B8, 0x0BC, 0x0C0, 0x0C4]) [((pSquad n), 5)]) ∧
  (
    ∀ (s : State) (n : Sq) (ut lo sk : Word),
      s.calm →
      s.dev.runs (pSquad n) →
      s.dev.b (pSquad n) fCmdBusy = true →
      s.dev.sqState n = sqRunning →
      s.dev.g (pSquad n) fCmdOp = 3 →
      s.dev.rd (pSquad n) 0x0A4 < 64 →
      mapCount (s.dev.engineMap n) ≥ 33 →
      (s.dev.sq n).excl.contains (s.dev.rd (pSquad n) 0x0A4).toNat = false →
      Yields (exec (.cmdDone n ut lo sk) s) fun t =>
        t.dev.g (pSquad n) fCmdCode = 0 ∧
        t.dev.g (pSquad n) fCmdLastTag = s.dev.g (pSquad n) fCmdTag ∧
        t.dev.b (pSquad n) fCmdBusy = false ∧
        t.dev.rds (pSquad n) 0x0B8 4 = [BitVec.ofNat 32 (mapCount (t.dev.engineMap n)), 0, 0, 0] ∧
        t.dev.evt (pSquad n) 5 = true ∧
        t.dev.engineMap n = s.dev.engineMap n &&& ~~~ BitVec.twoPow 64 (s.dev.rd (pSquad n) 0x0A4).toNat ∧
        Kept s t (s.dev.updSquad n fun h => { h with excl := h.excl ++ [(s.dev.rd (pSquad n) 0x0A4).toNat] }) (regsOf (pSquad n) [0x0B4,
            0x0B8, 0x0BC, 0x0C0, 0x0C4]) [((pSquad n), 5)]) ∧
  (
    ∀ (s : State) (n : Sq) (ut lo sk : Word),
      s.calm →
      s.dev.runs (pSquad n) →
      s.dev.b (pSquad n) fCmdBusy = true →
      s.dev.sqState n = sqRunning →
      s.dev.g (pSquad n) fCmdOp = 3 →
      63 < (s.dev.rd (pSquad n) 0x0A4).toNat ∨ (mapCount (s.dev.engineMap n) = 32 ∧
          (s.dev.engineMap n).getLsbD (s.dev.rd (pSquad n) 0x0A4).toNat = true) →
      Yields (exec (.cmdDone n ut lo sk) s) fun t =>
        t.dev.g (pSquad n) fCmdCode = 2 ∧
        t.dev.g (pSquad n) fCmdLastTag = s.dev.g (pSquad n) fCmdTag ∧
        t.dev.b (pSquad n) fCmdBusy = false ∧
        t.dev.rds (pSquad n) 0x0B8 4 = [0, 0, 0, 0] ∧
        t.dev.evt (pSquad n) 5 = true ∧
        Kept s t s.dev (regsOf (pSquad n) [0x0B4, 0x0B8, 0x0BC, 0x0C0, 0x0C4]) [((pSquad n), 5)]) ∧
  (
    ∀ (s : State) (n : Sq) (ut lo sk : Word),
      s.calm →
      s.dev.runs (pSquad n) →
      s.dev.b (pSquad n) fCmdBusy = true →
      s.dev.sqState n = sqRunning →
      s.dev.g (pSquad n) fCmdOp = 4 →
      s.dev.rd (pSquad n) 0x0A4 < 64 →
      s.dev.capState ≠ cAnalysing →
      Yields (exec (.cmdDone n ut lo sk) s) fun t =>
        t.dev.g (pSquad n) fCmdCode = 0 ∧
        t.dev.g (pSquad n) fCmdLastTag = s.dev.g (pSquad n) fCmdTag ∧
        t.dev.b (pSquad n) fCmdBusy = false ∧
        t.dev.rds (pSquad n) 0x0B8 4 = [0, 0, 0, 0] ∧
        t.dev.evt (pSquad n) 5 = true ∧
        Kept s t (s.dev.updSquad n fun h => { h with excl := h.excl.filter (· != (s.dev.rd (pSquad n) 0x0A4).toNat) }) (regsOf (pSquad n) [0x0B4, 0x0B8, 0x0BC, 0x0C0, 0x0C4]) [((pSquad n), 5)]) ∧
  (
    ∀ (s : State) (n : Sq) (ut lo sk : Word),
      s.calm →
      s.dev.runs (pSquad n) →
      s.dev.b (pSquad n) fCmdBusy = true →
      s.dev.sqState n = sqRunning →
      s.dev.g (pSquad n) fCmdOp = 5 →
      Yields (exec (.cmdDone n ut lo sk) s) fun t =>
        t.dev.g (pSquad n) fCmdCode = 0 ∧
        t.dev.g (pSquad n) fCmdLastTag = s.dev.g (pSquad n) fCmdTag ∧
        t.dev.b (pSquad n) fCmdBusy = false ∧
        t.dev.rds (pSquad n) 0x0B8 4 = [(s.dev.engineMap n).lo, (s.dev.engineMap n).hi, 0, 0] ∧
        t.dev.evt (pSquad n) 5 = true ∧
        Kept s t s.dev (regsOf (pSquad n) [0x0B4, 0x0B8, 0x0BC, 0x0C0, 0x0C4]) [((pSquad n), 5)]) ∧
  (
    ∀ (s : State) (n : Sq) (ut lo sk : Word),
      s.calm →
      s.dev.runs (pSquad n) →
      s.dev.b (pSquad n) fCmdBusy = true →
      s.dev.sqState n = sqRunning →
      s.dev.g (pSquad n) fCmdOp ∉ [1, 2, 3, 4, 5] →
      Yields (exec (.cmdDone n ut lo sk) s) fun t =>
        t.dev.g (pSquad n) fCmdCode = 1 ∧
        t.dev.g (pSquad n) fCmdLastTag = s.dev.g (pSquad n) fCmdTag ∧
        t.dev.b (pSquad n) fCmdBusy = false ∧
        t.dev.rds (pSquad n) 0x0B8 4 = [0, 0, 0, 0] ∧
        t.dev.evt (pSquad n) 5 = true ∧
        Kept s t s.dev (regsOf (pSquad n) [0x0B4, 0x0B8, 0x0BC, 0x0C0, 0x0C4]) [((pSquad n), 5)]) ∧
  (
    ∀ (s : State) (n : Sq),
      s.calm →
      s.dev.runs (pSquad n) →
      s.dev.b (pSquad n) fCmdBusy = true →
      Yields (exec (.cmdTimeout n) s) fun t =>
        t.dev.g (pSquad n) fCmdCode = 3 ∧
        t.dev.g (pSquad n) fCmdLastTag = s.dev.g (pSquad n) fCmdTag ∧
        t.dev.b (pSquad n) fCmdBusy = false ∧
        t.dev.rds (pSquad n) 0x0B8 4 = [0, 0, 0, 0] ∧
        t.dev.evt (pSquad n) 5 = true ∧
        Kept s t s.dev (regsOf (pSquad n) [0x0B4, 0x0B8, 0x0BC, 0x0C0, 0x0C4]) [((pSquad n), 5)])

/-- LEND on a host Squad that lends nothing, names a Pacer that no other loan names: the new value is stored, refused = 0 and the
release starts; named by another loan, it is refused and nothing moves; on Squads 0 to 7 it is discarded. LEND_RELEASE of a
release under way: the engines wait for the Pacer's next cycle where one runs, else the loan is in effect at once. Nothing else
changes. Readings and choices: notes/assumptions/13, 27. -/
def Obligations.LoansOfEngines : Prop :=
  (
    ∀ (s : State) (w : Who) (n : Sq) (v : Word),
      s.calm →
      s.dev.takes w (pSquad n) 0x060 →
      n.val < 8 →
      Yields (exec (.lend w n v) s) fun t =>
        Kept s t s.dev.answered [] []) ∧
  (
    ∀ (s : State) (w : Who) (n : Sq) (v : Word),
      s.calm →
      s.dev.takes w (pSquad n) 0x060 →
      8 ≤ n.val →
      (s.dev.sq n).lent = none →
      getBits (storeWord (pSquad n) 0x060 (s.dev.rd (pSquad n) 0x060) v) 0 6 ≠ 0 →
      (∀ m, m ≠ n → (s.dev.sq m).lent = none ∧ s.dev.g (pSquad m) fLendCount = 0 ∧ s.dev.b (pSquad m) fRefused = false) →
      Yields (exec (.lend w n v) s) fun t =>
        t.dev.rd (pSquad n) 0x060 = storeWord (pSquad n) 0x060 (s.dev.rd (pSquad n) 0x060) v ∧
        t.dev.b (pSquad n) fRefused = false ∧
        Kept s t (s.dev.answered.updSquad n fun h => { h with move := .releasing }) (regsOf (pSquad n) [0x060, 0x064]) []) ∧
  (
    ∀ (s : State) (w : Who) (n m : Sq) (v : Word),
      s.calm →
      s.dev.takes w (pSquad n) 0x060 →
      8 ≤ n.val ∧ 8 ≤ m.val ∧ m ≠ n →
      (s.dev.sq n).lent = none →
      getBits (storeWord (pSquad n) 0x060 (s.dev.rd (pSquad n) 0x060) v) 0 6 ≠ 0 →
      (s.dev.sq m).lent.map (·.pacer) = some (getBits (storeWord (pSquad n) 0x060 (s.dev.rd (pSquad n) 0x060) v) 16 3) →
      (∀ k, k ≠ n → s.dev.b (pSquad k) fRefused = false) →
      Yields (exec (.lend w n v) s) fun t =>
        t.dev.rd (pSquad n) 0x060 = storeWord (pSquad n) 0x060 (s.dev.rd (pSquad n) 0x060) v ∧
        t.dev.b (pSquad n) fRefused = true ∧
        Kept s t (s.dev.answered.updSquad n fun h => { h with move := .none }) (regsOf (pSquad n) [0x060, 0x064]) []) ∧
  (
    ∀ (s : State) (n : Sq) (l : Loan),
      s.calm →
      s.dev.runs (pSquad n) →
      (s.dev.sq n).move = .releasing →
      s.dev.lendWant n = some l →
      Yields (exec (.lendRelease n) s) fun t =>
        t.dev.sq n = (if s.dev.pacerCycles (Fin.ofNat 8 l.pacer) then { s.dev.sq n with move := .joining } else { s.dev.sq n with lent := some l, move := .none }) ∧
        Kept s t (s.dev.updSquad n fun _ => t.dev.sq n) [] [])

/-- SPLIT_CLR stores CTRL and zeroes every counter, every OVF bit and BW_MAX. CNT_WRITE sets the counter. SPLIT_CNT_WRAP adds the
occurrences to an unfrozen counter that counts an event and is not chained: without a wrap nothing else happens; a wrap sets its
OVF bit with source 0, or, where the counter above is chained to it, carries one into that counter and sets its OVF bit only when
that one wraps too. A frozen, idle or chained counter does not count. Nothing else changes. BW_WIN_WRITE stores. BW_WINDOW_END:
each enabled monitor shows its bytes, keeps the larger as its maximum, and at or above a nonzero threshold raises source 3; others
stay. TAG_INSTRUCTION with tagging on: the next interval starts, and the record (pc, stamp, the stages with 0xFFFF where not
reached, flags, engine and target) goes to the next free place, with source 1 at the notify count; with 16 records held it is
lost, counted with source 2; with tagging off nothing happens. TAG_CLR empties the buffer. Nothing else changes. Readings and
choices: notes/assumptions/17, 28. -/
def Obligations.SplitCountersAndWindows : Prop :=
  (
    ∀ (s : State) (w : Who) (v : Word),
      s.calm →
      s.dev.takes w 0x13 0x040 →
      Yields (exec (.splitClr w v) s) fun t =>
        t.dev.rd 0x13 0x040 = storeWord 0x13 0x040 (s.dev.rd 0x13 0x040) (v ||| 4) ∧
        (∀ i < 128, t.dev.rd 0x13 (cntOff i) = 0) ∧
        (∀ i < 128, t.dev.b 0x13 (fOvf i) = false) ∧
        (∀ i < 8, t.dev.rd 0x13 (0x160 + 4 * i) = 0) ∧
        Kept s t s.dev.answered (regsOf 0x13 ([0x040] ++ regRun 0x600 128 ++ regRun 0x080 4 ++ regRun 0x160 8)) []) ∧
  (
    ∀ (s : State) (w : Who) (k : Fin 128) (v : Word),
      s.calm →
      s.dev.takes w 0x13 (cntOff k.val) →
      Yields (exec (.cntWrite w k v) s) fun t =>
        t.dev.rd 0x13 (cntOff k.val) = v ∧
        Kept s t s.dev.answered [(0x13, cntOff k.val)] []) ∧
  (
    ∀ (s : State) (k : Fin 128) (c : Nat),
      s.calm →
      s.dev.runs 0x13 →
      s.dev.b 0x13 fFreeze = false →
      s.dev.lg 0x13 (fCntEvent k.val) ≠ 0 →
      s.dev.chained k.val = false →
      (s.dev.rd 0x13 (cntOff k.val)).toNat + c < 2 ^ 32 →
      Yields (exec (.splitCntWrap k c) s) fun t =>
        t.dev.rd 0x13 (cntOff k.val) = s.dev.rd 0x13 (cntOff k.val) + BitVec.ofNat 32 c ∧
        Kept s t s.dev [(0x13, cntOff k.val)] []) ∧
  (
    ∀ (s : State) (k : Fin 128) (c : Nat),
      s.calm →
      s.dev.runs 0x13 →
      s.dev.b 0x13 fFreeze = false →
      s.dev.lg 0x13 (fCntEvent k.val) ≠ 0 →
      s.dev.chained k.val = false →
      s.dev.chained (k.val + 1) = false →
      2 ^ 32 ≤ (s.dev.rd 0x13 (cntOff k.val)).toNat + c →
      Yields (exec (.splitCntWrap k c) s) fun t =>
        t.dev.rd 0x13 (cntOff k.val) = s.dev.rd 0x13 (cntOff k.val) + BitVec.ofNat 32 c ∧
        t.dev.b 0x13 (fOvf k.val) = true ∧
        (∀ i < 128, i ≠ k.val → t.dev.b 0x13 (fOvf i) = s.dev.b 0x13 (fOvf i)) ∧
        t.dev.evt 0x13 0 = true ∧
        Kept s t s.dev ((0x13, cntOff k.val) :: regsOf 0x13 (regRun 0x080 4)) [(0x13, 0)]) ∧
  (
    ∀ (s : State) (k : Fin 128) (c : Nat),
      s.calm →
      s.dev.runs 0x13 →
      s.dev.b 0x13 fFreeze = false →
      s.dev.lg 0x13 (fCntEvent k.val) ≠ 0 →
      k.val % 2 = 0 →
      s.dev.chained (k.val + 1) = true →
      2 ^ 32 ≤ (s.dev.rd 0x13 (cntOff k.val)).toNat + c →
      Yields (exec (.splitCntWrap k c) s) fun t =>
        t.dev.rd 0x13 (cntOff k.val) = s.dev.rd 0x13 (cntOff k.val) + BitVec.ofNat 32 c ∧
        t.dev.rd 0x13 (cntOff (k.val + 1)) = s.dev.rd 0x13 (cntOff (k.val + 1)) + 1 ∧
        t.dev.b 0x13 (fOvf (k.val + 1)) = (s.dev.b 0x13 (fOvf (k.val + 1)) || s.dev.rd 0x13 (cntOff (k.val + 1)) == BitVec.allOnes 32) ∧
        (∀ i < 128, i ≠ k.val + 1 → t.dev.b 0x13 (fOvf i) = s.dev.b 0x13 (fOvf i)) ∧
        t.dev.evt 0x13 0 = (s.dev.evt 0x13 0 || s.dev.rd 0x13 (cntOff (k.val + 1)) == BitVec.allOnes 32) ∧
        Kept s t s.dev ((0x13, cntOff k.val) :: (0x13, cntOff (k.val + 1)) :: regsOf 0x13 (regRun 0x080 4)) [(0x13, 0)]) ∧
  (
    ∀ (s : State) (k : Fin 128) (c : Nat),
      s.calm →
      s.dev.b 0x13 fFreeze = true ∨ s.dev.lg 0x13 (fCntEvent k.val) = 0 ∨ s.dev.chained k.val = true →
      Yields (exec (.splitCntWrap k c) s) fun t =>
        Kept s t s.dev [] []) ∧
  (
    ∀ (s : State) (w : Who) (v : Word),
      s.calm →
      s.dev.takes w 0x13 0x0C0 →
      Yields (exec (.bwWinWrite w v) s) fun t =>
        t.dev.rd 0x13 0x0C0 = storeWord 0x13 0x0C0 (s.dev.rd 0x13 0x0C0) v ∧
        Kept s t s.dev.answered [(0x13, 0x0C0)] []) ∧
  (
    ∀ (s : State) (bs : List Word),
      s.calm →
      s.dev.runs 0x13 →
      Yields (exec (.bwWindowEnd bs) s) fun t =>
        (∀ m < 8, t.dev.rd 0x13 (0x140 + 4 * m) = (if s.dev.b 0x13 (fBwEn m) then bs.getD m 0 else s.dev.rd 0x13 (0x140 + 4 * m))) ∧
        (∀ m < 8, t.dev.rd 0x13 (0x160 + 4 * m) = (if s.dev.b 0x13 (fBwEn m) ∧
            (s.dev.rd 0x13 (0x160 + 4 * m)).toNat < (bs.getD m 0).toNat then bs.getD m 0 else s.dev.rd 0x13 (0x160 + 4 * m))) ∧
        t.dev.evt 0x13 3 = (s.dev.evt 0x13 3 || (List.range 8).any fun m => s.dev.b 0x13 (fBwEn m) && s.dev.rd 0x13 (0x120 + 4 * m) !=
            0 && decide ((s.dev.rd 0x13 (0x120 + 4 * m)).toNat ≤ (bs.getD m 0).toNat)) ∧
        Kept s t s.dev (regsOf 0x13 (regRun 0x140 8 ++ regRun 0x160 8)) [(0x13, 3)]) ∧
  (
    ∀ (s : State) (tg : Tagged),
      s.calm →
      s.dev.runs 0x13 →
      s.dev.b 0x13 fTagEn = true →
      s.dev.g 0x13 fTagCount < 16 →
      Yields (exec (.tagInstruction tg) s) fun t =>
        t.dev.rds 0x13 (0x800 + 0x20 * s.dev.g 0x13 fTagCount) 5 = [tg.pc, tg.stamp,
            BitVec.ofNat 32 (stageStamp (tg.stages.getD 1 none) * 65536 + stageStamp (tg.stages.getD 0 none)),
            BitVec.ofNat 32 (stageStamp (tg.stages.getD 3 none) * 65536 + stageStamp (tg.stages.getD 2 none)),
            BitVec.ofNat 32 (s.dev.g 0x13 fTagEngine * 65536 + s.dev.g 0x13 fTagTarget * 256 + tg.flags.toNat)] ∧
        t.dev.g 0x13 fTagCount = s.dev.g 0x13 fTagCount + 1 ∧
        t.dev.g 0x13 fTagLost = s.dev.g 0x13 fTagLost ∧
        t.dev.evt 0x13 1 = (s.dev.evt 0x13 1 || s.dev.g 0x13 fTagCount + 1 == s.dev.g 0x13 fTagNotify) ∧
        (s.dev.b 0x13 fTagJitter = false → t.dev.split = ⟨s.dev.split.lfsr, 2 ^ s.dev.g 0x13 fTagK⟩) ∧
        (s.dev.b 0x13 fTagJitter = true →
            t.dev.split = ⟨lfsr23 s.dev.split.lfsr,
            2 ^ (s.dev.g 0x13 fTagK - 1) + (lfsr23 s.dev.split.lfsr).toNat % 2 ^ s.dev.g 0x13 fTagK⟩) ∧
        Kept s t { s.dev with split := t.dev.split } ((0x13,
            0x204) :: regsOf 0x13 (regRun (0x800 + 0x20 * s.dev.g 0x13 fTagCount) 5)) [(0x13, 1)]) ∧
  (
    ∀ (s : State) (tg : Tagged),
      s.calm →
      s.dev.runs 0x13 →
      s.dev.b 0x13 fTagEn = true →
      s.dev.g 0x13 fTagCount = 16 →
      Yields (exec (.tagInstruction tg) s) fun t =>
        t.dev.g 0x13 fTagCount = 16 ∧
        t.dev.g 0x13 fTagLost = min (s.dev.g 0x13 fTagLost + 1) 65535 ∧
        t.dev.evt 0x13 2 = true ∧
        Kept s t { s.dev with split := t.dev.split } [(0x13, 0x204)] [(0x13, 2)]) ∧
  (
    ∀ (s : State) (tg : Tagged),
      s.calm →
      s.dev.b 0x13 fTagEn = false →
      Yields (exec (.tagInstruction tg) s) fun t =>
        Kept s t s.dev [] []) ∧
  (
    ∀ (s : State) (w : Who),
      s.calm →
      s.dev.takes w 0x13 0x208 →
      Yields (exec (.tagClr w) s) fun t =>
        t.dev.rd 0x13 0x204 = 0 ∧
        (∀ i < 128, t.dev.rd 0x13 (0x800 + 4 * i) = 0) ∧
        Kept s t s.dev.answered ((0x13, 0x204) :: regsOf 0x13 (regRun 0x800 128)) [])

/-- CAPTURE_START in IDLE, and CAPTURE_RELEASE in DONE outside single mode, arm: the enabled streams' status clears. In single mode
RELEASE goes to IDLE. ABORT outside an analysis: IDLE, no stream valid. In ARMED, SW_TRIG, a TRIGGER_CONDITION of src 1 to 4, the
selected TRIG_IN_EDGE, and in auto mode AUTO_TRIGGER_TIMEOUT (forced, source 2) trigger: TRIGGERED, TRIG_TIME, source 0, TRIG_OUT
where enabled, and each enabled stream records the trigger record, symbol, first record and pre_short. A condition in TRIGGERED
counts extra. TRIG_OUT_PULSE_END ends the pulse. Nothing else changes. Readings and choices: notes/assumptions/13, 17, 29. -/
def Obligations.CaptureArmsTriggersAndReleases : Prop :=
  (
    ∀ (s : State) (w : Who),
      s.calm →
      s.dev.takes w pCap 0x040 →
      s.dev.capState = cIdle →
      Yields (exec (.captureStart w) s) fun t =>
        t.dev.capState = cArmed ∧
        t.dev.b pCap fCapForced = false ∧
        t.dev.g pCap fCapExtra = 0 ∧
        (∀ i < 8, s.dev.strOn i = true → t.dev.rd pCap (0x080 + 4 * i) = 0 ∧ t.dev.rd pCap (0x0A0 + 4 * i) = 0) ∧
        (∀ i < 8, s.dev.strOn i = false → t.dev.rd pCap (0x080 + 4 * i) = s.dev.rd pCap (0x080 + 4 * i) ∧
            t.dev.rd pCap (0x0A0 + 4 * i) = s.dev.rd pCap (0x0A0 + 4 * i)) ∧
        Kept s t s.dev.answered (regsOf pCap ([0x044] ++ regRun 0x080 8 ++ regRun 0x0A0 8)) []) ∧
  (
    ∀ (s : State) (w : Who),
      s.calm →
      s.dev.takes w pCap 0x040 →
      s.dev.capState ≠ cIdle →
      Yields (exec (.captureStart w) s) fun t =>
        Kept s t s.dev.answered [] []) ∧
  (
    ∀ (s : State) (w : Who),
      s.calm →
      s.dev.takes w pCap 0x040 →
      s.dev.capState = cDone →
      s.dev.lg pCap fCapMode ≠ 1 →
      Yields (exec (.captureRelease w) s) fun t =>
        t.dev.capState = cArmed ∧
        t.dev.b pCap fCapForced = false ∧
        t.dev.g pCap fCapExtra = 0 ∧
        (∀ i < 8, s.dev.strOn i = true → t.dev.rd pCap (0x080 + 4 * i) = 0 ∧ t.dev.rd pCap (0x0A0 + 4 * i) = 0) ∧
        (∀ i < 8, s.dev.strOn i = false → t.dev.rd pCap (0x080 + 4 * i) = s.dev.rd pCap (0x080 + 4 * i) ∧
            t.dev.rd pCap (0x0A0 + 4 * i) = s.dev.rd pCap (0x0A0 + 4 * i)) ∧
        Kept s t s.dev.answered (regsOf pCap ([0x044] ++ regRun 0x080 8 ++ regRun 0x0A0 8)) []) ∧
  (
    ∀ (s : State) (w : Who),
      s.calm →
      s.dev.takes w pCap 0x040 →
      s.dev.capState = cDone →
      s.dev.lg pCap fCapMode = 1 →
      Yields (exec (.captureRelease w) s) fun t =>
        t.dev.rd pCap 0x044 = setBits (s.dev.rd pCap 0x044) 0 3 0 ∧
        Kept s t s.dev.answered [(pCap, 0x044)] []) ∧
  (
    ∀ (s : State) (w : Who),
      s.calm →
      s.dev.takes w pCap 0x040 →
      s.dev.capState ≠ cAnalysing →
      Yields (exec (.captureAbort w) s) fun t =>
        t.dev.capState = cIdle ∧
        (∀ i < 8, t.dev.rd pCap (0x080 + 4 * i) = setBits (s.dev.rd pCap (0x080 + 4 * i)) 31 1 0) ∧
        Kept s t s.dev.answered (regsOf pCap ([0x044] ++ regRun 0x080 8)) []) ∧
  (
    ∀ (s : State) (w : Who) (ts : List StreamTrig),
      s.calm →
      s.dev.takes w pCap 0x040 →
      s.dev.capState = cArmed →
      Yields (exec (.swTrig w ts) s) fun t =>
        t.dev.capState = cTriggered ∧
        t.dev.b pCap fCapForced = false ∧
        t.dev.rd64 pCap 0x058 = s.dev.tk ∧
        t.dev.evt pCap 0 = true ∧
        t.dev.evt pCap 2 = s.dev.evt pCap 2 ∧
        t.dev.cap.trigOut = (s.dev.cap.trigOut || s.dev.b pCap fTrigOutEn) ∧
        (∀ i < 8, s.dev.strOn i = true → t.dev.g pCap (fTrigRec i) = (ts.getD i ⟨0, 0, 0⟩).pos % s.dev.strDepth i ∧
            t.dev.g pCap (fTrigSym i) = (ts.getD i ⟨0, 0, 0⟩).sym % 256) ∧
        (∀ i < 8, s.dev.strOn i = true →
            t.dev.b pCap (fPreShort i) = decide ((ts.getD i ⟨0, 0,
            0⟩).pos < min (s.dev.strDepth i * s.dev.lg pCap fCapPre / 16) (s.dev.strDepth i - 1))) ∧
        (∀ i < 8, s.dev.strOn i = true → (ts.getD i ⟨0, 0, 0⟩).after = 0 → t.dev.b pCap (fStrLate i) = false ∧
            t.dev.g pCap (fFirstRec i) = (if t.dev.b pCap (fPreShort i) then 0 else ((ts.getD i ⟨0, 0,
            0⟩).pos - min (s.dev.strDepth i * s.dev.lg pCap fCapPre / 16) (s.dev.strDepth i - 1)) % s.dev.strDepth i)) ∧
        (∀ i < 8, s.dev.strOn i = false → t.dev.rd pCap (0x080 + 4 * i) = s.dev.rd pCap (0x080 + 4 * i) ∧
            t.dev.rd pCap (0x0A0 + 4 * i) = s.dev.rd pCap (0x0A0 + 4 * i)) ∧
        Kept s t { (s.dev.answered) with cap := { s.dev.cap with count := t.dev.cap.count, lost := t.dev.cap.lost, trigOut := t.dev.cap.trigOut } } (regsOf pCap ([0x044, 0x058, 0x05C] ++ regRun 0x080 8 ++ regRun 0x0A0 8)) [(pCap, 0), (pCap, 2), (pCap, 6)]) ∧
  (
    ∀ (s : State) (w : Who) (ts : List StreamTrig),
      s.calm →
      s.dev.takes w pCap 0x040 →
      s.dev.capState = cTriggered →
      Yields (exec (.swTrig w ts) s) fun t =>
        t.dev.rd pCap 0x044 = setBits (s.dev.rd pCap 0x044) 8 8 (min (s.dev.g pCap fCapExtra + 1) 255) ∧
        Kept s t s.dev.answered [(pCap, 0x044)] []) ∧
  (
    ∀ (s : State) (ts : List StreamTrig),
      s.calm →
      s.dev.runs pCap →
      s.dev.capState = cArmed →
      1 ≤ s.dev.lg pCap fTrgSrc ∧ s.dev.lg pCap fTrgSrc ≤ 4 →
      Yields (exec (.triggerCondition ts) s) fun t =>
        t.dev.capState = cTriggered ∧
        t.dev.b pCap fCapForced = false ∧
        t.dev.rd64 pCap 0x058 = s.dev.tk ∧
        t.dev.evt pCap 0 = true ∧
        t.dev.evt pCap 2 = s.dev.evt pCap 2 ∧
        t.dev.cap.trigOut = (s.dev.cap.trigOut || s.dev.b pCap fTrigOutEn) ∧
        (∀ i < 8, s.dev.strOn i = true → t.dev.g pCap (fTrigRec i) = (ts.getD i ⟨0, 0, 0⟩).pos % s.dev.strDepth i ∧
            t.dev.g pCap (fTrigSym i) = (ts.getD i ⟨0, 0, 0⟩).sym % 256) ∧
        (∀ i < 8, s.dev.strOn i = true →
            t.dev.b pCap (fPreShort i) = decide ((ts.getD i ⟨0, 0,
            0⟩).pos < min (s.dev.strDepth i * s.dev.lg pCap fCapPre / 16) (s.dev.strDepth i - 1))) ∧
        (∀ i < 8, s.dev.strOn i = true → (ts.getD i ⟨0, 0, 0⟩).after = 0 → t.dev.b pCap (fStrLate i) = false ∧
            t.dev.g pCap (fFirstRec i) = (if t.dev.b pCap (fPreShort i) then 0 else ((ts.getD i ⟨0, 0,
            0⟩).pos - min (s.dev.strDepth i * s.dev.lg pCap fCapPre / 16) (s.dev.strDepth i - 1)) % s.dev.strDepth i)) ∧
        (∀ i < 8, s.dev.strOn i = false → t.dev.rd pCap (0x080 + 4 * i) = s.dev.rd pCap (0x080 + 4 * i) ∧
            t.dev.rd pCap (0x0A0 + 4 * i) = s.dev.rd pCap (0x0A0 + 4 * i)) ∧
        Kept s t { (s.dev) with cap := { s.dev.cap with count := t.dev.cap.count, lost := t.dev.cap.lost, trigOut := t.dev.cap.trigOut } } (regsOf pCap ([0x044, 0x058, 0x05C] ++ regRun 0x080 8 ++ regRun 0x0A0 8)) [(pCap, 0), (pCap, 2), (pCap, 6)]) ∧
  (
    ∀ (s : State) (ts : List StreamTrig),
      s.calm →
      s.dev.runs pCap →
      s.dev.capState = cTriggered →
      1 ≤ s.dev.lg pCap fTrgSrc ∧ s.dev.lg pCap fTrgSrc ≤ 4 →
      Yields (exec (.triggerCondition ts) s) fun t =>
        t.dev.rd pCap 0x044 = setBits (s.dev.rd pCap 0x044) 8 8 (min (s.dev.g pCap fCapExtra + 1) 255) ∧
        Kept s t s.dev [(pCap, 0x044)] []) ∧
  (
    ∀ (s : State) (rising : Bool) (ts : List StreamTrig),
      s.calm →
      s.dev.runs pCap →
      s.dev.capState = cArmed →
      s.dev.lg pCap fTrgSrc = 5 →
      s.dev.lg pCap fTrgEdge = 3 ∨ s.dev.lg pCap fTrgEdge = (if rising then 1 else 2) →
      Yields (exec (.trigInEdge rising ts) s) fun t =>
        t.dev.capState = cTriggered ∧
        t.dev.b pCap fCapForced = false ∧
        t.dev.rd64 pCap 0x058 = s.dev.tk ∧
        t.dev.evt pCap 0 = true ∧
        t.dev.evt pCap 2 = s.dev.evt pCap 2 ∧
        t.dev.cap.trigOut = (s.dev.cap.trigOut || s.dev.b pCap fTrigOutEn) ∧
        (∀ i < 8, s.dev.strOn i = true → t.dev.g pCap (fTrigRec i) = (ts.getD i ⟨0, 0, 0⟩).pos % s.dev.strDepth i ∧
            t.dev.g pCap (fTrigSym i) = (ts.getD i ⟨0, 0, 0⟩).sym % 256) ∧
        (∀ i < 8, s.dev.strOn i = true →
            t.dev.b pCap (fPreShort i) = decide ((ts.getD i ⟨0, 0,
            0⟩).pos < min (s.dev.strDepth i * s.dev.lg pCap fCapPre / 16) (s.dev.strDepth i - 1))) ∧
        (∀ i < 8, s.dev.strOn i = true → (ts.getD i ⟨0, 0, 0⟩).after = 0 → t.dev.b pCap (fStrLate i) = false ∧
            t.dev.g pCap (fFirstRec i) = (if t.dev.b pCap (fPreShort i) then 0 else ((ts.getD i ⟨0, 0,
            0⟩).pos - min (s.dev.strDepth i * s.dev.lg pCap fCapPre / 16) (s.dev.strDepth i - 1)) % s.dev.strDepth i)) ∧
        (∀ i < 8, s.dev.strOn i = false → t.dev.rd pCap (0x080 + 4 * i) = s.dev.rd pCap (0x080 + 4 * i) ∧
            t.dev.rd pCap (0x0A0 + 4 * i) = s.dev.rd pCap (0x0A0 + 4 * i)) ∧
        Kept s t { (s.dev) with cap := { s.dev.cap with count := t.dev.cap.count, lost := t.dev.cap.lost, trigOut := t.dev.cap.trigOut } } (regsOf pCap ([0x044, 0x058, 0x05C] ++ regRun 0x080 8 ++ regRun 0x0A0 8)) [(pCap, 0), (pCap, 2), (pCap, 6)]) ∧
  (
    ∀ (s : State) (rising : Bool) (ts : List StreamTrig),
      s.calm →
      s.dev.lg pCap fTrgSrc ≠ 5 ∨ s.dev.lg pCap fTrgEdge = (if rising then 2 else 1) →
      Yields (exec (.trigInEdge rising ts) s) fun t =>
        Kept s t s.dev [] []) ∧
  (
    ∀ (s : State) (ts : List StreamTrig),
      s.calm →
      s.dev.runs pCap →
      s.dev.capState = cArmed →
      s.dev.lg pCap fCapMode = 2 →
      Yields (exec (.autoTriggerTimeout ts) s) fun t =>
        t.dev.capState = cTriggered ∧
        t.dev.b pCap fCapForced = true ∧
        t.dev.rd64 pCap 0x058 = s.dev.tk ∧
        t.dev.evt pCap 0 = true ∧
        t.dev.evt pCap 2 = true ∧
        t.dev.cap.trigOut = (s.dev.cap.trigOut || s.dev.b pCap fTrigOutEn) ∧
        (∀ i < 8, s.dev.strOn i = true → t.dev.g pCap (fTrigRec i) = (ts.getD i ⟨0, 0, 0⟩).pos % s.dev.strDepth i ∧
            t.dev.g pCap (fTrigSym i) = (ts.getD i ⟨0, 0, 0⟩).sym % 256) ∧
        (∀ i < 8, s.dev.strOn i = true →
            t.dev.b pCap (fPreShort i) = decide ((ts.getD i ⟨0, 0,
            0⟩).pos < min (s.dev.strDepth i * s.dev.lg pCap fCapPre / 16) (s.dev.strDepth i - 1))) ∧
        (∀ i < 8, s.dev.strOn i = true → (ts.getD i ⟨0, 0, 0⟩).after = 0 → t.dev.b pCap (fStrLate i) = false ∧
            t.dev.g pCap (fFirstRec i) = (if t.dev.b pCap (fPreShort i) then 0 else ((ts.getD i ⟨0, 0,
            0⟩).pos - min (s.dev.strDepth i * s.dev.lg pCap fCapPre / 16) (s.dev.strDepth i - 1)) % s.dev.strDepth i)) ∧
        (∀ i < 8, s.dev.strOn i = false → t.dev.rd pCap (0x080 + 4 * i) = s.dev.rd pCap (0x080 + 4 * i) ∧
            t.dev.rd pCap (0x0A0 + 4 * i) = s.dev.rd pCap (0x0A0 + 4 * i)) ∧
        Kept s t { (s.dev) with cap := { s.dev.cap with count := t.dev.cap.count, lost := t.dev.cap.lost, trigOut := t.dev.cap.trigOut } } (regsOf pCap ([0x044, 0x058, 0x05C] ++ regRun 0x080 8 ++ regRun 0x0A0 8)) [(pCap, 0), (pCap, 2), (pCap, 6)]) ∧
  (
    ∀ (s : State),
      s.calm →
      s.dev.runs pCap →
      Yields (exec .trigOutPulseEnd s) fun t =>
        t.dev.cap.trigOut = false ∧
        Kept s t { s.dev with cap := { s.dev.cap with trigOut := false } } [] [])

/-- CAP_DONE in TRIGGERED with one enabled stream and no auto_run: the bytes stand in its banks (no more than the banks hold) and
every other byte of memory stays, the stream is valid unless its trigger record is lost, its alignment and skew_ok show, the state
is DONE with source 1. SKEW_RUN in IDLE sets skew_busy. SKEW_CAL_DONE sets SKEW with its valid bit for each lane in RUN or HOLD
and clears the valid bit of the others, with source 5. Nothing else changes. Readings and choices: notes/assumptions/13, 17, 29. -/
def Obligations.CaptureFillsAndCalibrates : Prop :=
  (
    ∀ (s : State) (i : Nat) (xs : List StreamData),
      s.calm →
      s.dev.runs pCap →
      s.dev.capState = cTriggered →
      s.dev.streams = [i] →
      s.dev.b pCap fAutoRun = false →
      Yields (exec (.capDone xs) s) fun t =>
        t.dev.capState = cDone ∧
        t.dev.evt pCap 1 = true ∧
        t.dev.b pCap (fStrValid i) = !s.dev.cap.lost.contains i ∧
        t.dev.rd pCap (0x0C0 + 4 * i) = (xs.getD i ⟨0, []⟩).align ∧
        t.dev.b pCap (fSkewOk i) = s.dev.skewValid (s.dev.lg pCap (fStrSide i)) (s.dev.lg pCap (fStrLane i)) ∧
        t.dev.g pCap (fTrigRec i) = s.dev.g pCap (fTrigRec i) ∧
        (∀ a : Nat, memGet t.mem a = (if bankBase (s.dev.lg pCap (fStrFirst i)) ≤ a ∧
            a < bankBase (s.dev.lg pCap (fStrFirst i)) + min (xs.getD i ⟨0,
            []⟩).bytes.length ((s.dev.lg pCap (fStrBanks i) + 1) * 0x20000) then (xs.getD i ⟨0,
            []⟩).bytes.getD (a - bankBase (s.dev.lg pCap (fStrFirst i))) 0 else memGet s.mem a)) ∧
        Kept { s with mem := t.mem } t s.dev (regsOf pCap [0x044, 0x080 + 4 * i, 0x0C0 + 4 * i]) [(pCap, 1)]) ∧
  (
    ∀ (s : State) (w : Who),
      s.calm →
      s.dev.takes w pCap 0x040 →
      s.dev.capState = cIdle →
      Yields (exec (.skewRun w) s) fun t =>
        t.dev.rd pCap 0x044 = setBits (s.dev.rd pCap 0x044) 6 1 1 ∧
        Kept s t s.dev.answered [(pCap, 0x044)] []) ∧
  (
    ∀ (s : State) (w : Who),
      s.calm →
      s.dev.takes w pCap 0x040 →
      s.dev.capState ≠ cIdle →
      Yields (exec (.skewRun w) s) fun t =>
        Kept s t s.dev.answered [] []) ∧
  (
    ∀ (s : State) (vals : List (BitVec 16)),
      s.calm →
      s.dev.runs pCap →
      s.dev.b pCap fSkewBusy = true →
      Yields (exec (.skewCalDone vals) s) fun t =>
        t.dev.b pCap fSkewBusy = false ∧
        t.dev.evt pCap 5 = true ∧
        t.dev.capState = s.dev.capState ∧
        (∀ n : Lane, t.dev.rd pCap (0x0E0 + 4 * n.val) =
            (if s.dev.laneValid n then setBits ((vals.getD n.val 0).zeroExtend 32) 31 1 1 else setBits (s.dev.rd pCap (0x0E0 + 4 * n.val)) 31 1 0)) ∧
        (∀ n : Lane, t.dev.rd pCap (0x100 + 4 * n.val) = (if s.dev.hostState n ∈ [stRun,
            stHold] then setBits ((vals.getD (8 + n.val) 0).zeroExtend 32) 31 1 1 else setBits (s.dev.rd pCap (0x100 + 4 * n.val)) 31 1 0)) ∧
        Kept s t s.dev (regsOf pCap ([0x044] ++ regRun 0x0E0 16)) [(pCap, 5)])

/-- ANA_GO in DONE with a kind: with no usable engine it ends with result 2, with a bad configuration with result 5, each with source
3; else ANALYSING, the sampled configuration and masks are held, and without accumulate the counts of dest are zero. ANA_END of
kind 3 without auto_run adds the counts, writes MASK_HITS of the enabled regions and VIOL where a limit is exceeded with source 4,
counts the run, and goes to DONE with result 1 and source 3. With a halted DMA channel: result 3 and the channel's cause, address
and event. ANA_CLEAR zeroes the counts of dest and MASK_HITS. Nothing else changes. Readings and choices: notes/assumptions/13,
17, 29. -/
def Obligations.AnalysesRunAndJudge : Prop :=
  (
    ∀ (s : State) (w : Who),
      s.calm →
      s.dev.takes w pCap 0x124 →
      s.dev.capState = cDone →
      getBits (s.dev.rd pCap 0x120) 0 2 ≠ 0 →
      s.dev.anaUsable (s.dev.rd pCap 0x120) = [] →
      (s.dev.rd pCap 0x120).getLsbD 17 = false →
      Yields (exec (.anaGo w) s) fun t =>
        t.dev.g pCap fAnaResult = 2 ∧
        t.dev.b pCap fAnaBusy = false ∧
        t.dev.g pCap fAnaEngines = 0 ∧
        t.dev.g pCap fAnaRuns = s.dev.g pCap fAnaRuns ∧
        t.dev.capState = cDone ∧
        t.dev.b pCap fCapViolated = false ∧
        t.dev.evt pCap 3 = true ∧
        Kept s t { s.dev.answered with cap := { s.dev.cap with anaCfg := s.dev.rd pCap 0x120, engines := [], geo := (List.range 16).map fun r => s.dev.rd pCap (0x140 + 8 * r), lim := (List.range 16).map fun r => s.dev.rd pCap (0x144 + 8 * r) } } [(pCap, 0x044), (pCap, 0x128)] [(pCap, 3)]) ∧
  (
    ∀ (s : State) (w : Who),
      s.calm →
      s.dev.takes w pCap 0x124 →
      s.dev.capState = cDone →
      getBits (s.dev.rd pCap 0x120) 0 2 ≠ 0 →
      s.dev.anaUsable (s.dev.rd pCap 0x120) ≠ [] →
      s.dev.anaBad (s.dev.rd pCap 0x120) = true →
      (s.dev.rd pCap 0x120).getLsbD 17 = false →
      Yields (exec (.anaGo w) s) fun t =>
        t.dev.g pCap fAnaResult = 5 ∧
        t.dev.b pCap fAnaBusy = false ∧
        t.dev.capState = cDone ∧
        t.dev.evt pCap 3 = true ∧
        Kept s t { s.dev.answered with cap := t.dev.cap } [(pCap, 0x044), (pCap, 0x128)] [(pCap, 3)]) ∧
  (
    ∀ (s : State) (w : Who),
      s.calm →
      s.dev.takes w pCap 0x124 →
      s.dev.capState = cDone →
      getBits (s.dev.rd pCap 0x120) 0 2 ≠ 0 →
      s.dev.anaUsable (s.dev.rd pCap 0x120) ≠ [] →
      s.dev.anaBad (s.dev.rd pCap 0x120) = false →
      Yields (exec (.anaGo w) s) fun t =>
        t.dev.capState = cAnalysing ∧
        t.dev.b pCap fAnaBusy = true ∧
        t.dev.g pCap fAnaEngines = (s.dev.anaUsable (s.dev.rd pCap 0x120)).length ∧
        t.dev.cap = { s.dev.cap with anaCfg := s.dev.rd pCap 0x120, engines := s.dev.anaUsable (s.dev.rd pCap 0x120), geo := (List.range 16).map fun r => s.dev.rd pCap (0x140 + 8 * r), lim := (List.range 16).map fun r => s.dev.rd pCap (0x144 + 8 * r) } ∧
        (∀ a : Nat, memGet t.mem a = (if (s.dev.rd pCap 0x120).getLsbD 16 = false ∧ bankBase (getBits (s.dev.rd pCap 0x120) 12 4) ≤ a ∧
            a < bankBase (getBits (s.dev.rd pCap 0x120) 12 4) + 0x8000 then 0 else memGet s.mem a)) ∧
        Kept { s with mem := t.mem } t { s.dev.answered with cap := t.dev.cap } [(pCap, 0x044), (pCap, 0x128)] []) ∧
  (
    ∀ (s : State) (eye : List (Nat × Nat × Nat)),
      s.calm →
      s.dev.runs pCap →
      s.dev.capState = cAnalysing →
      getBits s.dev.cap.anaCfg 0 2 = 3 →
      s.dev.cap.anaCfg.getLsbD 17 = false →
      Yields (exec (.anaEnd eye none) s) fun t =>
        t.dev.capState = cDone ∧
        t.dev.b pCap fAnaBusy = false ∧
        t.dev.g pCap fAnaResult = 1 ∧
        t.dev.g pCap fAnaRuns = (s.dev.g pCap fAnaRuns + 1) % 4096 ∧
        t.dev.evt pCap 3 = true ∧
        t.mem = (eye.foldl (fun u e => u.countUp (getBits s.dev.cap.anaCfg 12 4) (e.1 % 32) (e.2.1 % 256) e.2.2) s).mem ∧
        (∀ r < 16, t.dev.rd pCap (0x1C0 + 4 * r) =
            (if (s.dev.cap.geo.getD r 0).getLsbD 31 then BitVec.ofNat 32 (t.maskHits (getBits s.dev.cap.anaCfg 12 4) (s.dev.cap.geo.getD r 0)) else s.dev.rd pCap (0x1C0 + 4 * r))) ∧
        (∀ r < 16, (t.dev.rd pCap 0x12C).getLsbD r =
            ((s.dev.cap.geo.getD r 0).getLsbD 31 && decide ((s.dev.cap.lim.getD r 0).toNat < t.maskHits (getBits s.dev.cap.anaCfg 12 4) (s.dev.cap.geo.getD r 0)))) ∧
        t.dev.evt pCap 4 = (s.dev.evt pCap 4 || t.dev.rd pCap 0x12C != 0) ∧
        Kept { s with mem := t.mem } t { s.dev with cap := { s.dev.cap with engines := [] } } (regsOf pCap ([0x044, 0x128,
            0x12C] ++ regRun 0x1C0 16)) [(pCap, 3), (pCap, 4)]) ∧
  (
    ∀ (s : State) (eye : List (Nat × Nat × Nat)) (c : Nat) (a : Word),
      s.calm →
      s.dev.runs pCap →
      s.dev.capState = cAnalysing →
      s.dev.cap.anaCfg.getLsbD 17 = false →
      s.dev.powered (0x50 + getBits s.dev.cap.anaCfg 8 4) = true →
      c < 4 →
      Yields (exec (.anaEnd eye (some (c, a))) s) fun t =>
        t.dev.capState = cDone ∧
        t.dev.g pCap fAnaResult = 3 ∧
        t.dev.evt pCap 3 = true ∧
        t.dev.g (0x50 + getBits s.dev.cap.anaCfg 8 4) (fDmaState 3) = 2 ∧
        t.dev.g (0x50 + getBits s.dev.cap.anaCfg 8 4) (fDmaCause 3) = c ∧
        t.dev.rd (0x50 + getBits s.dev.cap.anaCfg 8 4) 0x08C = a ∧
        t.dev.evt (0x50 + getBits s.dev.cap.anaCfg 8 4) 1 = true ∧
        Kept s t { s.dev with cap := { s.dev.cap with engines := [] } } (regsOf pCap [0x044,
            0x128] ++ regsOf (0x50 + getBits s.dev.cap.anaCfg 8 4) [0x07C, 0x08C]) [(pCap, 3), (0x50 + getBits s.dev.cap.anaCfg 8 4, 1)]) ∧
  (
    ∀ (s : State) (w : Who),
      s.calm →
      s.dev.takes w pCap 0x124 →
      Yields (exec (.anaClear w) s) fun t =>
        (∀ r < 16, t.dev.rd pCap (0x1C0 + 4 * r) = 0) ∧
        (∀ a : Nat, memGet t.mem a = (if bankBase (getBits (s.dev.rd pCap 0x120) 12 4) ≤ a ∧
            a < bankBase (getBits (s.dev.rd pCap 0x120) 12 4) + 0x8000 then 0 else memGet s.mem a)) ∧
        Kept { s with mem := t.mem } t s.dev.answered (regsOf pCap (regRun 0x1C0 16)) [])

/-- THERMAL_READING outside DOZE with every sensor OK and agreeing with its neighbours: raw and used values, no failure, the hottest
sensor, the flash and OTP windows. Below the trip threshold, the Coach not running, nothing else changes. At or above it the trip
asserts: count, source 6, every LTX thermal squelch. With the Coach running, levels all 7 and T_gov above t_pace enough, every
level steps to 6 with sources 5 and 3, and PACERn's targets follow. A sensor that deviates is SUSPECT with its last good value and
source 0; at the third time FAILED with its hottest OK neighbour plus 3 °C and source 1. SENS_CLR notes the FAILED sensors named.
Readings and choices: notes/assumptions/11, 14, 30. -/
def Obligations.SensorsPaceAndTrip : Prop :=
  (
    ∀ (s : State) (raws : List (BitVec 12)),
      let r : Nat → Int := fun i => signed 12 (raws.getD i 0).toNat
      s.calm →
      s.dev.g 0x02 fPowerState ≠ 2 →
      s.dev.powered pTherm = true →
      s.dev.therm.clr = 0 →
      (∀ i < 24, s.dev.g pTherm (fTempState i) = snOk) →
      (∀ i < 24, (2 * r i - median2 ((neighbours i).map r)).natAbs ≤ 64) →
      s.dev.coachUp = false →
      s.dev.trip = false →
      (∀ i < 23, r i < signed 12 (s.dev.lg pTherm fTripThr)) →
      Yields (exec (.thermalReading raws) s) fun t =>
        (∀ i < 24, t.dev.g pTherm (fTempState i) = snOk ∧ t.dev.g pTherm (fTempRaw i) = unsigned 12 (r i) ∧
            t.dev.g pTherm (fTempUsed i) = unsigned 12 (r i)) ∧
        t.dev.rd pTherm 0x050 = 0 ∧ t.dev.rd pTherm 0x054 = 0 ∧ t.dev.rd pTherm 0x058 = 0 ∧
        t.dev.b pTherm fAllFailed = false ∧
        (∀ i < 23, r i ≤ signed 12 (t.dev.g pTherm fHottest)) ∧
        signed 12 (t.dev.g pTherm fHottest) = r (t.dev.g pTherm fHotIdx) ∧ t.dev.g pTherm fHotIdx < 23 ∧
        (t.dev.b pTherm fFlashOk = (List.range 23).all fun i => decide (0 ≤ r i ∧ r i ≤ 380)) ∧
        (t.dev.b pTherm fOtpOk = (List.range 23).all fun i => decide (40 ≤ r i ∧ r i ≤ 340)) ∧
        (t.dev.therm.count = List.replicate 24 0 ∧ t.dev.therm.lastOk = (List.range 24).map fun i => some (r i)) ∧
        t.dev.trip = false ∧
        Kept s t { s.dev with free := s.dev.free + 48, therm := t.dev.therm } (regsOf pTherm (regRun 0x080 24 ++ [0x048, 0x050, 0x054,
            0x058, 0x060])) [(pTherm, 0), (pTherm, 1), (pTherm, 2)]) ∧
  (
    ∀ (s : State) (raws : List (BitVec 12)),
      let r : Nat → Int := fun i => signed 12 (raws.getD i 0).toNat
      s.calm →
      s.dev.g 0x02 fPowerState ≠ 2 →
      s.dev.powered pTherm = true →
      s.dev.therm.clr = 0 →
      (∀ i < 24, s.dev.g pTherm (fTempState i) = snOk) →
      (∀ i < 24, (2 * r i - median2 ((neighbours i).map r)).natAbs ≤ 64) →
      s.dev.coachUp = false →
      s.dev.trip = false →
      (∃ i ∈ List.range 23, signed 12 (s.dev.lg pTherm fTripThr) ≤ r i) →
      Yields (exec (.thermalReading raws) s) fun t =>
        (∀ i < 24, t.dev.g pTherm (fTempState i) = snOk ∧ t.dev.g pTherm (fTempRaw i) = unsigned 12 (r i) ∧
            t.dev.g pTherm (fTempUsed i) = unsigned 12 (r i)) ∧
        t.dev.rd pTherm 0x050 = 0 ∧ t.dev.rd pTherm 0x054 = 0 ∧ t.dev.rd pTherm 0x058 = 0 ∧
        t.dev.b pTherm fAllFailed = false ∧
        (∀ i < 23, r i ≤ signed 12 (t.dev.g pTherm fHottest)) ∧
        signed 12 (t.dev.g pTherm fHottest) = r (t.dev.g pTherm fHotIdx) ∧ t.dev.g pTherm fHotIdx < 23 ∧
        (t.dev.b pTherm fFlashOk = (List.range 23).all fun i => decide (0 ≤ r i ∧ r i ≤ 380)) ∧
        (t.dev.b pTherm fOtpOk = (List.range 23).all fun i => decide (40 ≤ r i ∧ r i ≤ 340)) ∧
        (t.dev.therm.count = List.replicate 24 0 ∧ t.dev.therm.lastOk = (List.range 24).map fun i => some (r i)) ∧
        t.dev.trip = true ∧
        t.dev.b pTherm fTrip = true ∧
        t.dev.g pTherm fTripCnt = min (s.dev.g pTherm fTripCnt + 1) 65535 ∧
        t.dev.evt pTherm 6 = true ∧
        (∀ n : Lane, t.dev.b (pLtx n) (fSq sqThermal) = true ∧ (s.dev.b (pLtx n) (fSq sqThermal) = false →
            t.dev.tx n = { s.dev.tx n with ramping := false, ramp := 0 })) ∧
        Kept s t { s.dev with free := s.dev.free + 48, therm := t.dev.therm, trip := true, ltx := t.dev.ltx } (regsOf pTherm (regRun 0x080 24 ++ [0x048, 0x050, 0x054, 0x058, 0x060]) ++ (pTherm, 0x064) :: lanes.map fun n => (pLtx n, 0x044)) ((pTherm, 6) :: lanes.flatMap fun n => (List.range 8).map fun e => (pLtx n, e))) ∧
  (
    ∀ (s : State) (raws : List (BitVec 12)),
      let r : Nat → Int := fun i => signed 12 (raws.getD i 0).toNat
      s.calm →
      s.dev.g 0x02 fPowerState ≠ 2 →
      s.dev.powered pTherm = true →
      s.dev.therm.clr = 0 →
      (∀ i < 24, s.dev.g pTherm (fTempState i) = snOk) →
      (∀ i < 24, (2 * r i - median2 ((neighbours i).map r)).natAbs ≤ 64) →
      s.dev.coachUp = true →
      s.dev.trip = false →
      (∀ i < 23, r i < signed 12 (s.dev.lg pTherm fTripThr)) →
      (∀ n : Lane, s.dev.g pTherm (fLevel n) = 7 ∧ s.dev.laneState n ∉ [stTrain, stRun, stHold]) →
      s.dev.therm.lastStep = List.replicate 8 none →
      s.dev.lg pTherm fPaceScope = 0 →
      (∀ n : Lane, 1 ≤ shed (max (r n.val) (r (coreSensor n.val)) - signed 12 (s.dev.lg pTherm fTPace)) (s.dev.lg pTherm fPaceGain)) →
      Yields (exec (.thermalReading raws) s) fun t =>
        (∀ i < 24, t.dev.g pTherm (fTempState i) = snOk ∧ t.dev.g pTherm (fTempRaw i) = unsigned 12 (r i) ∧
            t.dev.g pTherm (fTempUsed i) = unsigned 12 (r i)) ∧
        t.dev.rd pTherm 0x050 = 0 ∧ t.dev.rd pTherm 0x054 = 0 ∧ t.dev.rd pTherm 0x058 = 0 ∧
        t.dev.b pTherm fAllFailed = false ∧
        (∀ i < 23, r i ≤ signed 12 (t.dev.g pTherm fHottest)) ∧
        signed 12 (t.dev.g pTherm fHottest) = r (t.dev.g pTherm fHotIdx) ∧ t.dev.g pTherm fHotIdx < 23 ∧
        (t.dev.b pTherm fFlashOk = (List.range 23).all fun i => decide (0 ≤ r i ∧ r i ≤ 380)) ∧
        (t.dev.b pTherm fOtpOk = (List.range 23).all fun i => decide (40 ≤ r i ∧ r i ≤ 340)) ∧
        (t.dev.therm.count = List.replicate 24 0 ∧ t.dev.therm.lastOk = (List.range 24).map fun i => some (r i)) ∧
        (∀ n : Lane, t.dev.g pTherm (fLevel n) = 6 ∧ t.dev.g (pPacer n) fPaceThermal = 6 ∧
            (s.dev.g (pPacer n) fPaceTarget = s.dev.effLevel n → t.dev.g (pPacer n) fPaceTarget = min 6 (s.dev.g (pPacer n) fPaceMax))) ∧
        t.dev.b pTherm fPaceActive = true ∧
        t.dev.evt pTherm 5 = true ∧ t.dev.evt pTherm 3 = true ∧
        Kept s t { s.dev with free := s.dev.free + 48, therm := t.dev.therm } (regsOf pTherm (regRun 0x080 24 ++ [0x048, 0x050, 0x054,
            0x058, 0x060]) ++ (pTherm, 0x04C) :: lanes.map fun n => (pPacer n, 0x05C)) [(pTherm, 3), (pTherm, 5)]) ∧
  (
    ∀ (s : State) (raws : List (BitVec 12)) (j : Nat),
      let r : Nat → Int := fun i => signed 12 (raws.getD i 0).toNat
      s.calm →
      s.dev.g 0x02 fPowerState ≠ 2 →
      s.dev.powered pTherm = true →
      s.dev.therm.clr = 0 →
      (∀ i < 24, s.dev.g pTherm (fTempState i) = snOk) →
      j < 24 →
      64 < (2 * r j - median2 ((neighbours j).map r)).natAbs →
      s.dev.coachUp = false →
      s.dev.trip = false →
      s.dev.therm.count.getD j 0 < 2 →
      Yields (exec (.thermalReading raws) s) fun t =>
        t.dev.g pTherm (fTempState j) = snSuspect ∧
        t.dev.g pTherm (fTempRaw j) = unsigned 12 (r j) ∧
        (∀ u, s.dev.therm.lastOk.getD j none = some u → t.dev.g pTherm (fTempUsed j) = unsigned 12 u) ∧
        (t.dev.rd pTherm 0x054).getLsbD j = true ∧
        t.dev.evt pTherm 0 = true ∧
        t.dev.therm.count.getD j 0 = s.dev.therm.count.getD j 0 + 1) ∧
  (
    ∀ (s : State) (raws : List (BitVec 12)) (j : Nat),
      let r : Nat → Int := fun i => signed 12 (raws.getD i 0).toNat
      s.calm →
      s.dev.g 0x02 fPowerState ≠ 2 →
      s.dev.powered pTherm = true →
      s.dev.therm.clr = 0 →
      (∀ i < 24, s.dev.g pTherm (fTempState i) = snOk) →
      j < 24 →
      64 < (2 * r j - median2 ((neighbours j).map r)).natAbs →
      (∀ i ∈ neighbours j, (2 * r i - median2 ((neighbours i).map r)).natAbs ≤ 64) →
      s.dev.coachUp = false →
      s.dev.trip = false →
      s.dev.therm.count.getD j 0 = 2 →
      Yields (exec (.thermalReading raws) s) fun t =>
        t.dev.g pTherm (fTempState j) = snFailed ∧
        (∃ i ∈ neighbours j, t.dev.g pTherm (fTempUsed j) = unsigned 12 (r i + 12) ∧ ∀ k ∈ neighbours j, r k ≤ r i) ∧
        (t.dev.rd pTherm 0x050).getLsbD j = true ∧
        t.dev.evt pTherm 1 = true) ∧
  (
    ∀ (s : State) (w : Who) (v : Word),
      s.calm →
      s.dev.takes w pTherm 0x05C →
      Yields (exec (.sensClr w v) s) fun t =>
        t.dev.therm.clr = s.dev.therm.clr ||| (v &&& s.dev.rd pTherm 0x050) ∧
        Kept s t { s.dev.answered with therm := { s.dev.therm with clr := t.dev.therm.clr } } [] [])

/-- CAL_TEMP_CHECK with the Coach running and no store write deferred: with temp_en, each lane whose sensor has moved by δ from a
reference gets its request unless a run of that kind is in progress; without temp_en nothing. CAL_CMD_RUN requests runs of the
named lanes (and offset runs). RESTORE_PREV of one lane with no run: the live corrections and the previous sets trade places,
source 4. RELOAD_STORE without a valid copy: source 2; while a write is in progress it waits; else the corrections of the newest
copy enter the named lane, source 4. Nothing else changes. Readings and choices: notes/assumptions/13, 17, 31. -/
def Obligations.CalibrationRequestsAndRestores : Prop :=
  (
    ∀ (s : State),
      s.calm →
      s.dev.runs pCal →
      s.dev.coachUp = true →
      s.dev.b pCal fTempEn = true →
      s.dev.b pCal fDeferred = false →
      s.dev.b pCal fCalMadcEn = false →
      Yields (exec .calTempCheck s) fun t =>
        (∀ n : Lane, t.dev.b (pLrx n) fLrxCalPending =
            (s.dev.b (pLrx n) fLrxCalPending || (decide (s.dev.g pCal fCalDelta ≤ (signed 12 (s.dev.g pTherm (fTempUsed n.val)) - signed 12 (s.dev.g pCal (fRefLrx n))).natAbs) && !s.dev.b (pLrx n) fLrxCalBusy))) ∧
        (∀ n : Lane, t.dev.b (pLtx n) fLtxCalPending =
            (s.dev.b (pLtx n) fLtxCalPending || (s.dev.b pCal fCalLtxEn && decide (s.dev.g pCal fCalDelta ≤ (signed 12 (s.dev.g pTherm (fTempUsed n.val)) - signed 12 (s.dev.g pCal (fRefLtx n))).natAbs) && !s.dev.b (pLtx n) fLtxCalBusy))) ∧
        Kept s t s.dev ((lanes.map fun n => (pLrx n, 0x044)) ++ lanes.map fun n => (pLtx n, 0x044)) ((pCal,
            0) :: (lanes.map fun n => (pLrx n, 8)) ++ lanes.map fun n => (pLtx n, 11))) ∧
  (
    ∀ (s : State),
      s.calm →
      s.dev.coachUp = false ∨ (s.dev.b pCal fTempEn = false ∧ s.dev.b pCal fDeferred = false) →
      Yields (exec .calTempCheck s) fun t =>
        Kept s t s.dev [] []) ∧
  (
    ∀ (s : State) (w : Who) (v : Word),
      s.calm →
      s.dev.takes w pCal 0x048 →
      Yields (exec (.calCmdRun w v) s) fun t =>
        (∀ n : Lane, t.dev.b (pLrx n) fLrxCalPending = (s.dev.b (pLrx n) fLrxCalPending || v.getLsbD n.val) ∧
            t.dev.b (pLtx n) fLtxCalPending = (s.dev.b (pLtx n) fLtxCalPending || v.getLsbD n.val)) ∧
        (v.getLsbD 8 = true → t.dev.b 0x0E fOfsPending = true ∧ t.dev.b 0x0F fOfsPending = true) ∧
        (v.getLsbD 8 = false → t.dev.rd 0x0E 0x044 = s.dev.rd 0x0E 0x044 ∧ t.dev.rd 0x0F 0x044 = s.dev.rd 0x0F 0x044) ∧
        Kept s t s.dev.answered ((0x0E, 0x044) :: (0x0F, 0x044) :: (lanes.map fun n => (pLrx n, 0x044)) ++ lanes.map fun n => (pLtx n,
            0x044)) ((pCal, 0) :: (lanes.map fun n => (pLrx n, 8)) ++ lanes.map fun n => (pLtx n, 11))) ∧
  (
    ∀ (s : State) (w : Who) (n : Lane) (v : Word) (x : CalSet),
      s.calm →
      s.dev.takes w pCal 0x048 →
      getBits v 0 9 = 2 ^ n.val →
      (s.dev.lx n).run = none →
      (s.dev.lx n).prev = some x →
      x.words.length = 256 →
      (s.dev.tx n).run = none ∧ (s.dev.tx n).prev = none →
      Yields (exec (.restorePrev w v) s) fun t =>
        t.dev.rds (pLrx n) 0x400 256 = x.words ∧
        t.dev.evt pCal 4 = true ∧
        Kept s t (s.dev.answered.updLrx n fun h => { h with prev := some ⟨s.dev.rds (pLrx n) 0x400 256⟩ }) (regsOf (pLrx n) (regRun 0x400 256)) [(pCal, 4)]) ∧
  (
    ∀ (s : State) (w : Who) (n : Lane) (v : Word) (x : CalSet),
      s.calm →
      s.dev.takes w pCal 0x048 →
      getBits v 0 9 = 2 ^ n.val →
      (s.dev.tx n).run = none →
      (s.dev.tx n).prev = some x →
      x.words.length = 8 →
      (s.dev.lx n).run = none ∧ (s.dev.lx n).prev = none →
      Yields (exec (.restorePrev w v) s) fun t =>
        t.dev.rds (pLtx n) 0x300 8 = x.words ∧
        t.dev.evt pCal 4 = true ∧
        Kept s t (s.dev.answered.updLtx n fun h => { h with prev := some ⟨s.dev.rds (pLtx n) 0x300 8⟩ }) (regsOf (pLtx n) (regRun 0x300 8)) [(pCal, 4)]) ∧
  (
    ∀ (s : State) (w : Who) (v : Word),
      s.calm →
      s.dev.takes w pCal 0x048 →
      v.getLsbD 8 = false →
      (∀ n : Lane, v.getLsbD n.val = true → (s.dev.lx n).prev = none ∧ (s.dev.tx n).prev = none) →
      Yields (exec (.restorePrev w v) s) fun t =>
        Kept s t s.dev.answered [] []) ∧
  (
    ∀ (s : State) (w : Who) (v : Word),
      s.calm →
      s.dev.takes w pCal 0x048 →
      s.dev.b pCal fStoreBusy = false →
      s.dev.newest = none →
      Yields (exec (.reloadStore w v) s) fun t =>
        t.dev.evt pCal 2 = true ∧
        Kept s t s.dev.answered [] [(pCal, 2)]) ∧
  (
    ∀ (s : State) (w : Who) (v : Word),
      s.calm →
      s.dev.takes w pCal 0x048 →
      s.dev.b pCal fStoreBusy = true →
      Yields (exec (.reloadStore w v) s) fun t =>
        t.dev.cal.reload = some (setBits v 16 4 4) ∧
        Kept s t { s.dev.answered with cal := { s.dev.cal with reload := t.dev.cal.reload } } [] []) ∧
  (
    ∀ (s : State) (w : Who) (n : Lane) (v : Word) (c : Bool),
      s.calm →
      s.dev.takes w pCal 0x048 →
      s.dev.b pCal fStoreBusy = false →
      s.dev.newest = some c →
      getBits v 0 9 = 2 ^ n.val →
      (s.dev.lx n).run = none ∧ (s.dev.tx n).run = none →
      Yields (exec (.reloadStore w v) s) fun t =>
        t.dev.rds (pLrx n) 0x400 256 = memWords s.mem (copyBase c + 4 * (1 + 271 * n.val)) 256 ∧
        t.dev.rds (pLtx n) 0x300 8 = memWords s.mem (copyBase c + 4 * (1 + 271 * n.val + 259)) 8 ∧
        t.dev.evt pCal 4 = true ∧
        Kept s t s.dev.answered (regsOf (pLrx n) (regRun 0x400 256) ++ regsOf (pLtx n) (regRun 0x300 8)) [(pCal, 4)])

/-- STORE (and STORE_DUE with a write pending and the Coach running), with none in progress and the flash window open, starts a write:
it chooses an invalid copy or the one with the lower sequence number, erases it and marks it invalid. Outside the window it is
deferred with source 3; while one is in progress nothing happens. STORE_WRITE_DONE: the copy holds the current values, numbered
one above the other copy, with their CRC; read back as written it is valid, counted, stamped with source 1; with a wrong check
word it stays invalid, is retried once, source 2. Every other byte of memory stays; nothing else changes. Readings and choices:
notes/assumptions/14, 17, 31. -/
def Obligations.StoreWritesVerifyAndRetry : Prop :=
  (
    ∀ (s : State) (w : Who) (v : Word),
      s.calm →
      s.dev.takes w pCal 0x048 →
      s.dev.b pCal fStoreBusy = false →
      s.dev.b pTherm fFlashOk = true →
      Yields (exec (.store w v) s) fun t =>
        t.dev.b pCal fStoreBusy = true ∧
        t.dev.b pCal fStorePending = false ∧
        t.dev.b pCal fDeferred = false ∧
        t.dev.b pCal (fCopyOk s.dev.copyToWrite) = false ∧
        t.dev.b pCal (fCopyOk (!s.dev.copyToWrite)) = s.dev.b pCal (fCopyOk (!s.dev.copyToWrite)) ∧
        t.dev.b pCal fStoreEmpty = s.dev.b pCal fStoreEmpty ∧
        (∀ a : Nat, memGet t.mem a = (if copyBase s.dev.copyToWrite ≤ a ∧
            a < copyBase s.dev.copyToWrite + 0x4000 then 0xFF else memGet s.mem a)) ∧
        Kept { s with mem := t.mem } t { (s.dev.answered) with cal := { s.dev.cal with copy := some s.dev.copyToWrite } } [(pCal,
            0x04C)] []) ∧
  (
    ∀ (s : State) (w : Who) (v : Word),
      s.calm →
      s.dev.takes w pCal 0x048 →
      s.dev.b pCal fStoreBusy = false →
      s.dev.b pTherm fFlashOk = false →
      s.dev.b pCal fDeferred = false →
      Yields (exec (.store w v) s) fun t =>
        t.dev.rd pCal 0x04C = setBits (s.dev.rd pCal 0x04C) 5 1 1 ∧
        t.dev.evt pCal 3 = true ∧
        Kept s t s.dev.answered [(pCal, 0x04C)] [(pCal, 3)]) ∧
  (
    ∀ (s : State) (w : Who) (v : Word),
      s.calm →
      s.dev.takes w pCal 0x048 →
      s.dev.b pCal fStoreBusy = true →
      Yields (exec (.store w v) s) fun t =>
        Kept s t s.dev.answered [] []) ∧
  (
    ∀ (s : State),
      s.calm →
      s.dev.runs pCal →
      s.dev.coachUp = true →
      s.dev.b pCal fStorePending = true →
      s.dev.b pCal fStoreBusy = false →
      s.dev.b pTherm fFlashOk = true →
      Yields (exec .storeDue s) fun t =>
        t.dev.b pCal fStoreBusy = true ∧
        t.dev.b pCal fStorePending = false ∧
        t.dev.b pCal fDeferred = false ∧
        t.dev.b pCal (fCopyOk s.dev.copyToWrite) = false ∧
        t.dev.b pCal (fCopyOk (!s.dev.copyToWrite)) = s.dev.b pCal (fCopyOk (!s.dev.copyToWrite)) ∧
        t.dev.b pCal fStoreEmpty = s.dev.b pCal fStoreEmpty ∧
        (∀ a : Nat, memGet t.mem a = (if copyBase s.dev.copyToWrite ≤ a ∧
            a < copyBase s.dev.copyToWrite + 0x4000 then 0xFF else memGet s.mem a)) ∧
        Kept { s with mem := t.mem } t { (s.dev) with cal := { s.dev.cal with copy := some s.dev.copyToWrite } } [(pCal, 0x04C)] []) ∧
  (
    ∀ (s : State),
      s.calm →
      s.dev.coachUp = false ∨ s.dev.b pCal fStorePending = false →
      Yields (exec .storeDue s) fun t =>
        Kept s t s.dev [] []) ∧
  (
    ∀ (s : State) (b : Bool),
      s.calm →
      s.dev.runs pCal →
      s.dev.cal.copy = some b →
      s.dev.cal.reload = none →
      Yields (exec (.storeWriteDone []) s) fun t =>
        t.dev.b pCal fStoreBusy = false ∧
        t.dev.b pCal (fCopyOk b) = true ∧
        t.dev.b pCal (fCopyOk (!b)) = s.dev.b pCal (fCopyOk (!b)) ∧
        t.dev.b pCal fStoreEmpty = false ∧
        t.dev.rd pCal 0x074 = s.dev.rd pCal 0x074 + 1 ∧
        t.dev.rd64 pCal 0x078 = s.dev.tk ∧
        t.dev.evt pCal 1 = true ∧
        t.dev.copySeq b = (if s.dev.b pCal (fCopyOk (!b)) then s.dev.copySeq (!b) else 0) + 1 ∧
        memWords t.mem (copyBase b) 2173 = s.dev.storeWords (t.dev.copySeq b) ∧
        (∀ a : Nat, (a < copyBase b ∨ copyBase b + 4 * 2173 ≤ a) → memGet t.mem a = memGet s.mem a) ∧
        Kept { s with mem := t.mem } t { s.dev with cal := { s.dev.cal with copy := none, retry := false, seqA := t.dev.cal.seqA, seqB := t.dev.cal.seqB } } (regsOf pCal [0x04C, 0x074, 0x078, 0x07C]) [(pCal, 1)]) ∧
  (
    ∀ (s : State) (b : Bool) (x : Word),
      s.calm →
      s.dev.runs pCal →
      s.dev.cal.copy = some b →
      s.dev.cal.reload = none →
      x ≠ 0 →
      s.dev.b pCal (fCopyOk b) = false →
      Yields (exec (.storeWriteDone [(2172, x)]) s) fun t =>
        t.dev.b pCal fStoreBusy = false ∧
        t.dev.b pCal (fCopyOk b) = false ∧
        t.dev.b pCal (fCopyOk (!b)) = s.dev.b pCal (fCopyOk (!b)) ∧
        t.dev.b pCal fStorePending = (s.dev.b pCal fStorePending || !s.dev.cal.retry) ∧
        t.dev.evt pCal 2 = true ∧
        (∀ a : Nat, (a < copyBase b ∨ copyBase b + 4 * 2173 ≤ a) → memGet t.mem a = memGet s.mem a) ∧
        Kept { s with mem := t.mem } t { s.dev with cal := { s.dev.cal with copy := none, retry := !s.dev.cal.retry } } [(pCal,
            0x04C)] [(pCal, 2)])

/-- On a unit that is not interleaved. MADC_EN with en = 0: the core loses its power, an urgent conversion and the sequence end, and
an offset run in progress is pending again; with en = 1 it stores. MADC_START: powered and stopped, the sequence runs from entry
0; not powered yet, it waits. MADC_CORE_POWERED: the core is powered and what waited starts. MADC_STOP ends the sequence, after
the conversion in progress of a pass. MADC_PASS_START begins a pass, a late one counts a slip with source 3. The filter channels
they feed are starved or resume. Nothing else changes. Readings and choices: notes/assumptions/13, 14, 32. -/
def Obligations.SequencersStartAndStop : Prop :=
  (
    ∀ (s : State) (w : Who) (u : Fin 2) (v : Word),
      s.calm →
      s.dev.takes w (pMadc u) 0x040 →
      v.getLsbD 0 = false ∧ v.getLsbD 1 = false ∧ v.getLsbD 2 = false →
      s.dev.interleaved = false →
      Yields (exec (.madcEn w u v) s) fun t =>
        t.dev.b (pMadc u) fEn = false ∧
        t.dev.g (pMadc u) fSeqState = 0 ∧
        t.dev.g (pMadc u) fSeqEntry = 0 ∧
        t.dev.b (pMadc u) fUrgBusy = false ∧
        t.dev.b (pMadc u) fOfsBusy = false ∧
        t.dev.b (pMadc u) fOfsPending = (s.dev.b (pMadc u) fOfsPending || s.dev.b (pMadc u) fOfsBusy) ∧
        (∀ k < 8, s.dev.chanOn k = true → t.dev.b pFilt (fStarved k) = !t.dev.chanFed k) ∧
        Kept s t { ((s.dev.answered).updMadc u fun h => { h with powered := false, pass := false, stopping := false, starting := false }) with filt := t.dev.filt } (((pMadc u), 0x040) :: ((pMadc u), 0x044) :: ((pMadc u), 0x050) :: (pFilt, 0x044) :: regsOf pFilt (regRun 0x0A0 8)) [(pFilt, 3)]) ∧
  (
    ∀ (s : State) (w : Who) (u : Fin 2) (v : Word),
      s.calm →
      s.dev.takes w (pMadc u) 0x040 →
      v.getLsbD 0 = true ∧ v.getLsbD 1 = false ∧ v.getLsbD 2 = false →
      Yields (exec (.madcEn w u v) s) fun t =>
        t.dev.b (pMadc u) fEn = true ∧
        Kept s t s.dev.answered [((pMadc u), 0x040)] []) ∧
  (
    ∀ (s : State) (w : Who) (u : Fin 2) (v : Word),
      s.calm →
      s.dev.takes w (pMadc u) 0x040 →
      v.getLsbD 0 = true ∧ v.getLsbD 2 = false →
      s.dev.interleaved = false →
      s.dev.g (pMadc u) fSeqState = 0 →
      (s.dev.md u).powered = true →
      Yields (exec (.madcStart w u v) s) fun t =>
        t.dev.b (pMadc u) fEn = true ∧
        t.dev.g (pMadc u) fSeqState = 1 ∧
        t.dev.g (pMadc u) fSeqEntry = 0 ∧
        (∀ k < 8, s.dev.chanOn k = true → t.dev.b pFilt (fStarved k) = !t.dev.chanFed k) ∧
        Kept s t { ((s.dev.answered).updMadc u fun h => { h with pass := true, stopping := false }) with filt := t.dev.filt } (((pMadc u),
            0x040) :: ((pMadc u), 0x044) :: (pFilt, 0x044) :: regsOf pFilt (regRun 0x0A0 8)) [(pFilt, 3)]) ∧
  (
    ∀ (s : State) (w : Who) (u : Fin 2) (v : Word),
      s.calm →
      s.dev.takes w (pMadc u) 0x040 →
      v.getLsbD 0 = true ∧ v.getLsbD 2 = false →
      s.dev.interleaved = false →
      s.dev.g (pMadc u) fSeqState = 0 →
      (s.dev.md u).powered = false →
      Yields (exec (.madcStart w u v) s) fun t =>
        t.dev.b (pMadc u) fEn = true ∧
        Kept s t (s.dev.answered.updMadc u fun h => { h with starting := true }) [((pMadc u), 0x040)] []) ∧
  (
    ∀ (s : State) (u : Fin 2),
      s.calm →
      s.dev.runs (pMadc u) →
      s.dev.b (pMadc u) fEn = true →
      (s.dev.md u).powered = false →
      (s.dev.md u).starting = true →
      s.dev.g (pMadc u) fSeqState = 0 →
      s.dev.interleaved = false →
      Yields (exec (.madcCorePowered u) s) fun t =>
        t.dev.g (pMadc u) fSeqState = 1 ∧
        t.dev.g (pMadc u) fSeqEntry = 0 ∧
        (∀ k < 8, s.dev.chanOn k = true → t.dev.b pFilt (fStarved k) = !t.dev.chanFed k) ∧
        Kept s t { ((s.dev).updMadc u fun h => { h with powered := true, starting := false, pass := true, stopping := false }) with filt := t.dev.filt } (((pMadc u), 0x044) :: (pFilt, 0x044) :: regsOf pFilt (regRun 0x0A0 8)) [(pFilt, 3)]) ∧
  (
    ∀ (s : State) (u : Fin 2),
      s.calm →
      s.dev.runs (pMadc u) →
      s.dev.b (pMadc u) fEn = true →
      (s.dev.md u).powered = false →
      (s.dev.md u).starting = false →
      Yields (exec (.madcCorePowered u) s) fun t =>
        Kept s t (s.dev.updMadc u fun h => { h with powered := true }) [] []) ∧
  (
    ∀ (s : State) (w : Who) (u : Fin 2) (v : Word),
      s.calm →
      s.dev.takes w (pMadc u) 0x040 →
      v.getLsbD 0 = true →
      s.dev.interleaved = false →
      s.dev.g (pMadc u) fSeqState = 1 →
      (s.dev.md u).pass = true →
      Yields (exec (.madcStop w u v) s) fun t =>
        t.dev.b (pMadc u) fEn = true ∧
        Kept s t (s.dev.answered.updMadc u fun h => { h with stopping := true }) [((pMadc u), 0x040)] []) ∧
  (
    ∀ (s : State) (w : Who) (u : Fin 2) (v : Word),
      s.calm →
      s.dev.takes w (pMadc u) 0x040 →
      v.getLsbD 0 = true →
      s.dev.interleaved = false →
      (s.dev.md u).pass = false →
      Yields (exec (.madcStop w u v) s) fun t =>
        t.dev.b (pMadc u) fEn = true ∧
        t.dev.g (pMadc u) fSeqState = 0 ∧
        t.dev.g (pMadc u) fSeqEntry = 0 ∧
        (∀ k < 8, s.dev.chanOn k = true → t.dev.b pFilt (fStarved k) = !t.dev.chanFed k) ∧
        Kept s t { ((s.dev.answered).updMadc u fun h => { h with stopping := false, starting := false }) with filt := t.dev.filt } (((pMadc u), 0x040) :: ((pMadc u), 0x044) :: (pFilt, 0x044) :: regsOf pFilt (regRun 0x0A0 8)) [(pFilt, 3)]) ∧
  (
    ∀ (s : State) (u : Fin 2) (late : Bool),
      s.calm →
      s.dev.runs (pMadc u) →
      s.dev.g (pMadc u) fSeqState = 1 →
      (s.dev.md u).powered = true ∧ (s.dev.md u).pass = false →
      Yields (exec (.madcPassStart u late) s) fun t =>
        t.dev.rd (pMadc u) 0x044 = setBits (s.dev.rd (pMadc u) 0x044) 8 5 0 ∧
        t.dev.rd (pMadc u) 0x074 = s.dev.rd (pMadc u) 0x074 + (if late then 1 else 0) ∧
        t.dev.evt (pMadc u) 3 = (s.dev.evt (pMadc u) 3 || late) ∧
        Kept s t (s.dev.updMadc u fun h => { h with pass := true, stopping := false }) (((pMadc u), 0x044) :: [((pMadc u),
            0x074)]) [((pMadc u), 3)])

/-- MADC_CONVERSION_END of a running pass (unit not interleaved, none urgent, no stop asked): the code less the offset correction
enters RESULT of the entry; an open-wire entry gives the mean, its open flag and OPEN_MAP, with source 2 when a wire opens; before
the last entry the next follows; at the last the pass ends, and in single mode the sequence stops with source 0. URG_REQ on an
enabled idle unit makes it busy; busy, it collides; disabled or interleaved, it is refused. URG_DONE enters the result with source
1. An offset run starts on each powered unit that waits, and at its end enters OFS_COR with source 4. Nothing else changes.
Readings and choices: notes/assumptions/13, 17, 32. -/
def Obligations.ConversionsEnterResults : Prop :=
  (
    ∀ (s : State) (u : Fin 2) (x : Conv),
      s.calm →
      s.dev.runs (pMadc u) →
      s.dev.interleaved = false →
      s.dev.g (pMadc u) fSeqState = 1 →
      (s.dev.md u).pass = true →
      s.dev.b (pMadc u) fUrgBusy = false →
      (s.dev.md u).stopping = false →
      s.dev.lg (pMadc u) (fEntryOw (s.dev.g (pMadc u) fSeqEntry)) = 0 →
      (s.dev.g (pMadc u) fSeqEntry) < s.dev.lg (pMadc u) fSeqLast →
      Yields (exec (.madcConversionEnd u x) s) fun t =>
        t.dev.rd (pMadc u) (0x100 + 4 * (s.dev.g (pMadc u) fSeqEntry)) =
            BitVec.ofNat 32 (2 ^ 31 + (if (s.dev.result u false x).2 then 2 ^ 30 else 0) + (s.dev.result u false x).1) ∧
        t.dev.g (pMadc u) fSeqEntry = (s.dev.g (pMadc u) fSeqEntry) + 1 ∧
        t.dev.g (pMadc u) fSeqState = 1 ∧
        Kept s t s.dev [((pMadc u), 0x100 + 4 * (s.dev.g (pMadc u) fSeqEntry)), ((pMadc u), 0x044)] []) ∧
  (
    ∀ (s : State) (u : Fin 2) (x : Conv),
      s.calm →
      s.dev.runs (pMadc u) →
      s.dev.interleaved = false →
      s.dev.g (pMadc u) fSeqState = 1 →
      (s.dev.md u).pass = true →
      s.dev.b (pMadc u) fUrgBusy = false →
      (s.dev.md u).stopping = false →
      s.dev.lg (pMadc u) (fEntryOw (s.dev.g (pMadc u) fSeqEntry)) = 1 →
      (s.dev.g (pMadc u) fSeqEntry) < s.dev.lg (pMadc u) fSeqLast →
      Yields (exec (.madcConversionEnd u x) s) fun t =>
        t.dev.rd (pMadc u) (0x100 + 4 * (s.dev.g (pMadc u) fSeqEntry)) =
            BitVec.ofNat 32 (2 ^ 31 + (if (s.dev.result u true x).2 then 2 ^ 30 else 0) + (s.dev.result u true x).1) ∧
        t.dev.g (pMadc u) fSeqEntry = (s.dev.g (pMadc u) fSeqEntry) + 1 ∧
        t.dev.b (pMadc u) (fOpenMap (s.dev.g (pMadc u) fSeqEntry)) = (s.dev.result u true x).2 ∧
        (∀ k < 32, k ≠ (s.dev.g (pMadc u) fSeqEntry) → t.dev.b (pMadc u) (fOpenMap k) = s.dev.b (pMadc u) (fOpenMap k)) ∧
        t.dev.evt (pMadc u) 2 =
            (s.dev.evt (pMadc u) 2 || ((s.dev.result u true x).2 && !s.dev.b (pMadc u) (fOpenMap (s.dev.g (pMadc u) fSeqEntry)))) ∧
        Kept s t s.dev [((pMadc u), 0x100 + 4 * (s.dev.g (pMadc u) fSeqEntry)), ((pMadc u), 0x044), ((pMadc u), 0x078)] [((pMadc u), 2)]) ∧
  (
    ∀ (s : State) (u : Fin 2) (x : Conv),
      s.calm →
      s.dev.runs (pMadc u) →
      s.dev.interleaved = false →
      s.dev.g (pMadc u) fSeqState = 1 →
      (s.dev.md u).pass = true →
      s.dev.b (pMadc u) fUrgBusy = false →
      (s.dev.md u).stopping = false →
      s.dev.lg (pMadc u) (fEntryOw (s.dev.g (pMadc u) fSeqEntry)) = 0 →
      (s.dev.g (pMadc u) fSeqEntry) = s.dev.lg (pMadc u) fSeqLast →
      s.dev.lg (pMadc u) fSeqMode = 0 →
      Yields (exec (.madcConversionEnd u x) s) fun t =>
        t.dev.rd (pMadc u) (0x100 + 4 * (s.dev.g (pMadc u) fSeqEntry)) =
            BitVec.ofNat 32 (2 ^ 31 + (if (s.dev.result u false x).2 then 2 ^ 30 else 0) + (s.dev.result u false x).1) ∧
        t.dev.g (pMadc u) fSeqEntry = 0 ∧
        t.dev.g (pMadc u) fSeqState = 0 ∧
        t.dev.evt (pMadc u) 0 = true ∧
        (∀ k < 8, s.dev.chanOn k = true → t.dev.b pFilt (fStarved k) = !t.dev.chanFed k) ∧
        Kept s t { ((s.dev).updMadc u fun h => { h with pass := false, starting := false }) with filt := t.dev.filt } (((pMadc u),
            0x100 + 4 * (s.dev.g (pMadc u) fSeqEntry)) :: ((pMadc u), 0x044) :: (pFilt,
            0x044) :: regsOf pFilt (regRun 0x0A0 8)) [((pMadc u), 0), (pFilt, 3)]) ∧
  (
    ∀ (s : State) (u : Fin 2) (x : Conv),
      s.calm →
      s.dev.runs (pMadc u) →
      s.dev.interleaved = false →
      s.dev.g (pMadc u) fSeqState = 1 →
      (s.dev.md u).pass = true →
      s.dev.b (pMadc u) fUrgBusy = false →
      (s.dev.md u).stopping = false →
      s.dev.lg (pMadc u) (fEntryOw (s.dev.g (pMadc u) fSeqEntry)) = 0 →
      (s.dev.g (pMadc u) fSeqEntry) = s.dev.lg (pMadc u) fSeqLast →
      s.dev.lg (pMadc u) fSeqMode ≠ 0 →
      Yields (exec (.madcConversionEnd u x) s) fun t =>
        t.dev.rd (pMadc u) (0x100 + 4 * (s.dev.g (pMadc u) fSeqEntry)) =
            BitVec.ofNat 32 (2 ^ 31 + (if (s.dev.result u false x).2 then 2 ^ 30 else 0) + (s.dev.result u false x).1) ∧
        t.dev.g (pMadc u) fSeqEntry = 0 ∧
        t.dev.g (pMadc u) fSeqState = 1 ∧
        Kept s t (s.dev.updMadc u fun h => { h with pass := false }) [((pMadc u), 0x100 + 4 * (s.dev.g (pMadc u) fSeqEntry)), ((pMadc u),
            0x044)] []) ∧
  (
    ∀ (s : State) (w : Who) (u : Fin 2) (v : Word),
      s.calm →
      s.dev.takes w (pMadc u) 0x04C →
      s.dev.b (pMadc u) fUrgBusy = false →
      s.dev.b (pMadc u) fEn = true →
      s.dev.interleaved = false →
      Yields (exec (.urgReq w u v) s) fun t =>
        t.dev.rd (pMadc u) 0x04C = storeWord (pMadc u) 0x04C (s.dev.rd (pMadc u) 0x04C) (v ||| 0x80000000) ∧
        t.dev.b (pMadc u) fUrgBusy = true ∧ t.dev.b (pMadc u) fUrgRefused = false ∧ t.dev.b (pMadc u) fUrgCollide = false ∧
        t.dev.b (pMadc u) fUrgValid = s.dev.b (pMadc u) fUrgValid ∧ t.dev.g (pMadc u) fUrgCode = s.dev.g (pMadc u) fUrgCode ∧
        Kept s t (s.dev.answered.updMadc u fun h => { h with urgOw := v.getLsbD 5 }) [((pMadc u), 0x04C), ((pMadc u), 0x050)] []) ∧
  (
    ∀ (s : State) (w : Who) (u : Fin 2) (v : Word),
      s.calm →
      s.dev.takes w (pMadc u) 0x04C →
      s.dev.b (pMadc u) fUrgBusy = true →
      Yields (exec (.urgReq w u v) s) fun t =>
        t.dev.rd (pMadc u) 0x050 = setBits (s.dev.rd (pMadc u) 0x050) 27 1 1 ∧
        Kept s t s.dev.answered [((pMadc u), 0x04C), ((pMadc u), 0x050)] []) ∧
  (
    ∀ (s : State) (w : Who) (u : Fin 2) (v : Word),
      s.calm →
      s.dev.takes w (pMadc u) 0x04C →
      s.dev.b (pMadc u) fUrgBusy = false →
      s.dev.b (pMadc u) fEn = false ∨ s.dev.interleaved = true →
      Yields (exec (.urgReq w u v) s) fun t =>
        t.dev.rd (pMadc u) 0x050 = setBits (s.dev.rd (pMadc u) 0x050) 28 1 1 ∧
        Kept s t s.dev.answered [((pMadc u), 0x04C), ((pMadc u), 0x050)] []) ∧
  (
    ∀ (s : State) (u : Fin 2) (x : Conv),
      s.calm →
      s.dev.runs (pMadc u) →
      s.dev.b (pMadc u) fUrgBusy = true →
      (s.dev.md u).powered = true →
      Yields (exec (.urgDone u x) s) fun t =>
        t.dev.g (pMadc u) fUrgCode = (s.dev.result u (s.dev.md u).urgOw x).1 % 65536 ∧
        t.dev.b (pMadc u) fUrgOpen = (s.dev.result u (s.dev.md u).urgOw x).2 ∧
        t.dev.b (pMadc u) fUrgValid = true ∧ t.dev.b (pMadc u) fUrgBusy = false ∧
        t.dev.evt (pMadc u) 1 = true ∧
        Kept s t s.dev [((pMadc u), 0x050)] [((pMadc u), 1)]) ∧
  (
    ∀ (s : State),
      s.calm →
      Yields (exec .madcOffsetRunStart s) fun t =>
        (∀ u : Fin 2, t.dev.b (pMadc u) fOfsBusy =
            (s.dev.b (pMadc u) fOfsBusy || (s.dev.running (pMadc u) && s.dev.b (pMadc u) fOfsPending && (s.dev.md u).powered))) ∧
        (∀ u : Fin 2, t.dev.b (pMadc u) fOfsPending =
            (s.dev.b (pMadc u) fOfsPending && !(s.dev.running (pMadc u) && !s.dev.b (pMadc u) fOfsBusy && (s.dev.md u).powered))) ∧
        Kept s t s.dev [(0x0E, 0x044), (0x0F, 0x044)] []) ∧
  (
    ∀ (s : State) (u : Fin 2) (x : BitVec 16),
      s.calm →
      s.dev.runs (pMadc u) →
      s.dev.b (pMadc u) fOfsBusy = true →
      Yields (exec (.madcOffsetRunEnd u x) s) fun t =>
        t.dev.rd (pMadc u) 0x058 = x.zeroExtend 32 ∧ t.dev.rd (pMadc u) 0x05C = x.zeroExtend 32 ∧
        t.dev.b (pMadc u) fOfsPrev = true ∧ t.dev.b (pMadc u) fOfsBusy = false ∧
        t.dev.rd (pMadc u) 0x060 = s.dev.rd (pMadc u) 0x060 + 1 ∧
        t.dev.rd64 (pMadc u) 0x068 = s.dev.tk ∧
        t.dev.evt (pMadc u) 4 = true ∧
        (s.dev.g 0x06 (fTempState 22) ≠ 3 → t.dev.g 0x17 ⟨0x070, 0, 12⟩ = s.dev.g 0x06 (fTempUsed 22)) ∧
        Kept s t (s.dev.updMadc u fun h => { h with prev := some (s.dev.rd (pMadc u) 0x058) }) (regsOf (pMadc u) [0x044, 0x058, 0x05C,
            0x060, 0x068, 0x06C] ++ [(0x17, 0x070), (0x17, 0x04C)]) [((pMadc u), 4)])

/-- SYNC_IN_EDGE of the selected kind restarts the running sequences with sync at entry 0 and, with sync_en, resets the decimators;
another edge does nothing. FILTER_RESET stores CTRL and resets every enabled channel: outputs restart, flags clear, settling, the
time and source 2. FILTER_OUTPUT of an enabled, fed channel with no fade: the value limited to 24 bits with its sat flag, the
count modulo 16, settling below the preset's count; once settled, hi and lo set at the thresholds with sources 0 and 1 and their
sticky bits, and clear beyond the hysteresis. A disabled or starved channel gives none. Nothing else changes. Readings and
choices: notes/assumptions/13, 17, 32. -/
def Obligations.SyncResetAndFilterOutputs : Prop :=
  (
    ∀ (s : State) (rising : Bool),
      s.calm →
      s.dev.g pFilt fSyncEdge = 3 ∨ s.dev.g pFilt fSyncEdge = (if rising then 1 else 2) →
      s.dev.b pFilt fSyncEn = false →
      s.dev.interleaved = false →
      Yields (exec (.syncInEdge rising) s) fun t =>
        (∀ u : Fin 2, t.dev.rd (pMadc u) 0x044 = (if s.dev.running (pMadc u) ∧ s.dev.lg (pMadc u) fSeqSync = 1 ∧
            s.dev.seqRuns u then setBits (s.dev.rd (pMadc u) 0x044) 8 5 0 else s.dev.rd (pMadc u) 0x044)) ∧
        (∀ u : Fin 2, t.dev.md u = (if s.dev.running (pMadc u) ∧ s.dev.lg (pMadc u) fSeqSync = 1 ∧
            s.dev.seqRuns u then { s.dev.md u with pass := true, stopping := false } else s.dev.md u)) ∧
        Kept s t { s.dev with madc := t.dev.madc } [(0x0E, 0x044), (0x0F, 0x044)] []) ∧
  (
    ∀ (s : State) (rising : Bool),
      s.calm →
      s.dev.runs pFilt →
      s.dev.g pFilt fSyncEdge = 3 →
      s.dev.b pFilt fSyncEn = true →
      s.dev.b pFilt fFltFade = false →
      (∀ u : Fin 2, s.dev.lg (pMadc u) fSeqSync = 0) →
      Yields (exec (.syncInEdge rising) s) fun t =>
        (∀ k < 8, s.dev.chanOn k = true → t.dev.filt.outs.getD k 0 = 0 ∧ t.dev.b pFilt (fOutHi k) = false ∧
            t.dev.b pFilt (fOutLo k) = false ∧ t.dev.g pFilt (fOutSeq k) = 0 ∧ t.dev.b pFilt (fFltSettling k) = true) ∧
        (∀ k < 8, s.dev.chanOn k = false → t.dev.rd pFilt (0x0A0 + 4 * k) = s.dev.rd pFilt (0x0A0 + 4 * k) ∧
            t.dev.b pFilt (fFltSettling k) = s.dev.b pFilt (fFltSettling k)) ∧
        t.dev.rd64 pFilt 0x128 = s.dev.tk ∧
        t.dev.evt pFilt 2 = true ∧
        Kept s t { s.dev with filt := { s.dev.filt with outs := t.dev.filt.outs } } ((pFilt, 0x128) :: (pFilt, 0x12C) :: (pFilt,
            0x044) :: regsOf pFilt (regRun 0x0A0 8)) [(pFilt, 2)]) ∧
  (
    ∀ (s : State) (rising : Bool),
      s.calm →
      s.dev.g pFilt fSyncEdge ≠ 3 ∧ s.dev.g pFilt fSyncEdge ≠ (if rising then 1 else 2) →
      Yields (exec (.syncInEdge rising) s) fun t =>
        Kept s t s.dev [] []) ∧
  (
    ∀ (s : State) (w : Who) (v : Word),
      s.calm →
      s.dev.takes w pFilt 0x040 →
      s.dev.b pFilt fFltFade = false →
      Yields (exec (.filterReset w v) s) fun t =>
        t.dev.rd pFilt 0x040 = storeWord pFilt 0x040 (s.dev.rd pFilt 0x040) (v ||| 1) ∧
        (∀ k < 8, s.dev.chanOn k = true → t.dev.filt.outs.getD k 0 = 0 ∧ t.dev.b pFilt (fOutHi k) = false ∧
            t.dev.b pFilt (fOutLo k) = false ∧ t.dev.g pFilt (fOutSeq k) = 0 ∧ t.dev.b pFilt (fFltSettling k) = true) ∧
        (∀ k < 8, s.dev.chanOn k = false → t.dev.rd pFilt (0x0A0 + 4 * k) = s.dev.rd pFilt (0x0A0 + 4 * k) ∧
            t.dev.b pFilt (fFltSettling k) = s.dev.b pFilt (fFltSettling k)) ∧
        t.dev.rd64 pFilt 0x128 = s.dev.tk ∧
        t.dev.evt pFilt 2 = true ∧
        Kept s t { s.dev.answered with filt := { s.dev.filt with outs := t.dev.filt.outs } } ((pFilt, 0x040) :: (pFilt, 0x128) :: (pFilt,
            0x12C) :: (pFilt, 0x044) :: regsOf pFilt (regRun 0x0A0 8)) [(pFilt, 2)]) ∧
  (
    ∀ (s : State) (c : Fin 8) (live nw : Int),
      s.calm →
      s.dev.runs pFilt →
      s.dev.chanOn c.val = true →
      s.dev.b pFilt (fStarved c.val) = false →
      s.dev.b pFilt fFltFade = false →
      s.dev.filt.outs.length = 8 →
      Yields (exec (.filterOutput c live nw) s) fun t =>
        t.dev.g pFilt (fOutValue c.val) = (max 0 (min 0xFFFFFF live)).toNat ∧
        t.dev.g pFilt (fOutSeq c.val) = (s.dev.filt.outs.getD c.val 0 + 1) % 16 ∧
        t.dev.b pFilt (fOutSat c.val) = decide ((max 0 (min 0xFFFFFF live)) ≠ live) ∧
        t.dev.b pFilt (fOutSettling c.val) = decide (s.dev.filt.outs.getD c.val 0 + 1 ≤ if s.dev.chanUser c.val then 34 else 18) ∧
        t.dev.b pFilt (fFltSettling c.val) = t.dev.b pFilt (fOutSettling c.val) ∧
        (t.dev.b pFilt (fOutSettling c.val) = true → t.dev.b pFilt (fOutHi c.val) = s.dev.b pFilt (fOutHi c.val) ∧
            t.dev.b pFilt (fOutLo c.val) = s.dev.b pFilt (fOutLo c.val) ∧ t.dev.rd pFilt 0x120 = s.dev.rd pFilt 0x120) ∧
        (t.dev.b pFilt (fOutSettling c.val) = false →
            t.dev.b pFilt (fOutHi c.val) =
            (if s.dev.b pFilt (fOutHi c.val) then !decide ((max 0 (min 0xFFFFFF live)) < (s.dev.g pFilt ⟨0x0C0 + 4 * c.val, 0,
            24⟩ : Int) - s.dev.g pFilt ⟨0x100 + 4 * c.val, 0, 24⟩) else decide ((s.dev.g pFilt ⟨0x0C0 + 4 * c.val, 0,
            24⟩ : Int) ≤ (max 0 (min 0xFFFFFF live))))) ∧
        (t.dev.b pFilt (fOutSettling c.val) = false →
            t.dev.b pFilt (fOutLo c.val) = (if s.dev.b pFilt (fOutLo c.val) then !decide ((s.dev.g pFilt ⟨0x0E0 + 4 * c.val, 0,
            24⟩ : Int) + s.dev.g pFilt ⟨0x100 + 4 * c.val, 0,
            24⟩ < (max 0 (min 0xFFFFFF live))) else decide ((max 0 (min 0xFFFFFF live)) ≤ (s.dev.g pFilt ⟨0x0E0 + 4 * c.val, 0,
            24⟩ : Int)))) ∧
        t.dev.evt pFilt 0 = (s.dev.evt pFilt 0 || (t.dev.b pFilt (fOutHi c.val) && !s.dev.b pFilt (fOutHi c.val))) ∧
        t.dev.evt pFilt 1 = (s.dev.evt pFilt 1 || (t.dev.b pFilt (fOutLo c.val) && !s.dev.b pFilt (fOutLo c.val))) ∧
        t.dev.b pFilt ⟨0x120, c.val, 1⟩ = (s.dev.b pFilt ⟨0x120, c.val,
            1⟩ || (t.dev.b pFilt (fOutHi c.val) && !s.dev.b pFilt (fOutHi c.val))) ∧
        Kept s t { s.dev with filt := { s.dev.filt with outs := s.dev.filt.outs.set c.val (s.dev.filt.outs.getD c.val 0 + 1) } } [(pFilt,
            0x0A0 + 4 * c.val), (pFilt, 0x044), (pFilt, 0x120)] [(pFilt, 0), (pFilt, 1)]) ∧
  (
    ∀ (s : State) (c : Fin 8) (live nw : Int),
      s.calm →
      s.dev.chanOn c.val = false ∨ s.dev.b pFilt (fStarved c.val) = true →
      Yields (exec (.filterOutput c live nw) s) fun t =>
        Kept s t s.dev [] [])

/-- HDAC_TICK of a tracking channel: the generator advances, the target is CODE plus the generator, limited to 0 to 4095, and the live
code moves toward it by at most SLEW.step; target_limited is raised once at the first limited target, settled once when the live
code arrives. In a span change it slews to the safe code, or back to CODE, where the channel tracks again with source 1. In clear,
off and Walk mode a tick does nothing. CODE writes store and await settled. SPAN_HOLD_END switches the span; SPAN_SWITCH_DONE
begins the way back. Nothing else changes. Readings and choices: notes/assumptions/13, 14, 33. -/
def Obligations.DacChannelsTrackAndSwitch : Prop :=
  (
    ∀ (s : State) (c : Fin 8),
      s.calm →
      s.dev.runs pHdac →
      s.dev.walks = false →
      s.dev.tapHolds = false →
      s.dev.hdState c = hdTrack →
      (s.dev.hd c).span = none →
      s.dev.lg pHdac (fHdGen c) ≠ 0 →
      Yields (exec (.hdacTick c) s) fun t =>
        t.dev.g pHdac (fHdLive c) =
            slewTo (s.dev.g pHdac (fHdLive c)) (limitCode ((s.dev.g pHdac (fHdCode c) : Int) + (genTick (s.dev.lg pHdac (fHdGen c)) (s.dev.lg pHdac (fHdAmp c)) (s.dev.lg pHdac (fHdInc c)) (s.dev.hd c)).gen)) (s.dev.g pHdac (fHdStep c)) ∧
        t.dev.rd pHdac (hdacBase c + 0x14) = setBits (s.dev.rd pHdac (hdacBase c + 0x14)) 0 12 (t.dev.g pHdac (fHdLive c)) ∧
        (t.dev.hd c).limited =
            decide ((s.dev.g pHdac (fHdCode c) : Int) + (genTick (s.dev.lg pHdac (fHdGen c)) (s.dev.lg pHdac (fHdAmp c)) (s.dev.lg pHdac (fHdInc c)) (s.dev.hd c)).gen < 0 ∨ 4095 < (s.dev.g pHdac (fHdCode c) : Int) + (genTick (s.dev.lg pHdac (fHdGen c)) (s.dev.lg pHdac (fHdAmp c)) (s.dev.lg pHdac (fHdInc c)) (s.dev.hd c)).gen) ∧
        (t.dev.hd c).gen = (genTick (s.dev.lg pHdac (fHdGen c)) (s.dev.lg pHdac (fHdAmp c)) (s.dev.lg pHdac (fHdInc c)) (s.dev.hd c)).gen ∧
        t.dev.evt pHdac 4 = (s.dev.evt pHdac 4 || ((t.dev.hd c).limited && !(s.dev.hd c).limited)) ∧
        t.dev.evt pHdac 0 = (s.dev.evt pHdac 0 || ((s.dev.hd c).arm && t.dev.g pHdac (fHdLive c) ==
            limitCode ((s.dev.g pHdac (fHdCode c) : Int) + (genTick (s.dev.lg pHdac (fHdGen c)) (s.dev.lg pHdac (fHdAmp c)) (s.dev.lg pHdac (fHdInc c)) (s.dev.hd c)).gen))) ∧
        (t.dev.hd c).arm = ((s.dev.hd c).arm && t.dev.g pHdac (fHdLive c) !=
            limitCode ((s.dev.g pHdac (fHdCode c) : Int) + (genTick (s.dev.lg pHdac (fHdGen c)) (s.dev.lg pHdac (fHdAmp c)) (s.dev.lg pHdac (fHdInc c)) (s.dev.hd c)).gen)) ∧
        Kept s t (s.dev.updHdac c fun h => { genTick (s.dev.lg pHdac (fHdGen c)) (s.dev.lg pHdac (fHdAmp c)) (s.dev.lg pHdac (fHdInc c)) h with limited := (t.dev.hd c).limited, arm := (t.dev.hd c).arm }) [(pHdac, hdacBase c + 0x14)] [(pHdac, 0), (pHdac, 4)]) ∧
  (
    ∀ (s : State) (c : Fin 8),
      s.calm →
      s.dev.runs pHdac →
      s.dev.walks = false →
      s.dev.tapHolds = false →
      s.dev.hdState c = hdTrack →
      (s.dev.hd c).span = none →
      s.dev.lg pHdac (fHdGen c) = 0 →
      Yields (exec (.hdacTick c) s) fun t =>
        t.dev.g pHdac (fHdLive c) = slewTo (s.dev.g pHdac (fHdLive c)) (s.dev.g pHdac (fHdCode c)) (s.dev.g pHdac (fHdStep c)) ∧
        t.dev.rd pHdac (hdacBase c + 0x14) = setBits (s.dev.rd pHdac (hdacBase c + 0x14)) 0 12 (t.dev.g pHdac (fHdLive c)) ∧
        t.dev.evt pHdac 0 = (s.dev.evt pHdac 0 || ((s.dev.hd c).arm && t.dev.g pHdac (fHdLive c) == s.dev.g pHdac (fHdCode c))) ∧
        Kept s t (s.dev.updHdac c fun h => { h with gen := 0, limited := false, arm := h.arm && t.dev.g pHdac (fHdLive c) != s.dev.g pHdac (fHdCode c) }) [(pHdac, hdacBase c + 0x14)] [(pHdac, 0)]) ∧
  (
    ∀ (s : State) (c : Fin 8) (x : Nat),
      s.calm →
      s.dev.runs pHdac →
      s.dev.walks = false →
      s.dev.tapHolds = false →
      s.dev.hdState c = hdSpan →
      (s.dev.hd c).span = some ⟨.slew, x⟩ →
      Yields (exec (.hdacTick c) s) fun t =>
        t.dev.g pHdac (fHdLive c) = slewTo (s.dev.g pHdac (fHdLive c)) (s.dev.g pHdac (fHdSafe c)) (s.dev.g pHdac (fHdStep c)) ∧
        t.dev.rd pHdac (hdacBase c + 0x14) = setBits (s.dev.rd pHdac (hdacBase c + 0x14)) 0 12 (t.dev.g pHdac (fHdLive c)) ∧
        Kept s t ((s.dev).updHdac c fun h => { h with span := some ⟨if t.dev.g pHdac (fHdLive c) = s.dev.g pHdac (fHdSafe c) then .hold else .slew, x⟩ }) [(pHdac, hdacBase c + 0x14)] []) ∧
  (
    ∀ (s : State) (c : Fin 8) (x : Nat),
      s.calm →
      s.dev.runs pHdac →
      s.dev.walks = false →
      s.dev.tapHolds = false →
      s.dev.hdState c = hdSpan →
      (s.dev.hd c).span = some ⟨.back, x⟩ →
      slewTo (s.dev.g pHdac (fHdLive c)) (s.dev.g pHdac (fHdCode c)) (s.dev.g pHdac (fHdStep c)) ≠ s.dev.g pHdac (fHdCode c) →
      Yields (exec (.hdacTick c) s) fun t =>
        t.dev.g pHdac (fHdLive c) = slewTo (s.dev.g pHdac (fHdLive c)) (s.dev.g pHdac (fHdCode c)) (s.dev.g pHdac (fHdStep c)) ∧
        t.dev.rd pHdac (hdacBase c + 0x14) = setBits (s.dev.rd pHdac (hdacBase c + 0x14)) 0 12 (t.dev.g pHdac (fHdLive c)) ∧
        Kept s t s.dev [(pHdac, hdacBase c + 0x14)] []) ∧
  (
    ∀ (s : State) (c : Fin 8) (x : Nat),
      s.calm →
      s.dev.runs pHdac →
      s.dev.walks = false →
      s.dev.tapHolds = false →
      s.dev.hdState c = hdSpan →
      (s.dev.hd c).span = some ⟨.back, x⟩ →
      (s.dev.hd c).pend = none →
      slewTo (s.dev.g pHdac (fHdLive c)) (s.dev.g pHdac (fHdCode c)) (s.dev.g pHdac (fHdStep c)) = s.dev.g pHdac (fHdCode c) →
      Yields (exec (.hdacTick c) s) fun t =>
        t.dev.g pHdac (fHdLive c) = s.dev.g pHdac (fHdCode c) ∧
        t.dev.hdState c = hdTrack ∧
        t.dev.evt pHdac 1 = true ∧
        Kept s t ((s.dev).updHdac c fun h => { h with span := none, arm := true, limited := false, gen := if s.dev.lg pHdac (fHdGen c) = 2 then -(s.dev.lg pHdac (fHdAmp c) : Int) else 0, up := true, lfsr := 1 }) [(pHdac, hdacBase c + 0x14)] [(pHdac, 1)]) ∧
  (
    ∀ (s : State) (c : Fin 8),
      s.calm →
      s.dev.walks = true ∨ s.dev.hdState c = hdOff ∨ s.dev.hdState c = hdCleared →
      Yields (exec (.hdacTick c) s) fun t =>
        Kept s t s.dev [] []) ∧
  (
    ∀ (s : State) (w : Who) (c : Fin 8) (v : Word),
      s.calm →
      s.dev.takes w pHdac (hdacBase c + 0x04) →
      Yields (exec (.hdacCodeWrite w c v) s) fun t =>
        t.dev.rd pHdac (hdacBase c + 0x04) = storeWord pHdac (hdacBase c + 0x04) (s.dev.rd pHdac (hdacBase c + 0x04)) v ∧
        Kept s t ((s.dev.answered).updHdac c fun h => { h with arm := true }) [(pHdac, hdacBase c + 0x04)] []) ∧
  (
    ∀ (s : State) (c : Fin 8) (x : Nat),
      s.calm →
      s.dev.runs pHdac →
      s.dev.hdState c = hdSpan →
      (s.dev.hd c).span = some ⟨.hold, x⟩ →
      Yields (exec (.spanHoldEnd c) s) fun t =>
        t.dev.rd pHdac (hdacBase c + 0x14) = setBits (s.dev.rd pHdac (hdacBase c + 0x14)) 12 1 x ∧
        Kept s t ((s.dev).updHdac c fun h => { h with span := some ⟨.switch, x⟩ }) [(pHdac, hdacBase c + 0x14)] []) ∧
  (
    ∀ (s : State) (c : Fin 8) (x : Nat),
      s.calm →
      s.dev.runs pHdac →
      s.dev.hdState c = hdSpan →
      (s.dev.hd c).span = some ⟨.switch, x⟩ →
      s.dev.g pHdac (fHdLive c) ≠ s.dev.g pHdac (fHdCode c) →
      Yields (exec (.spanSwitchDone c) s) fun t =>
        Kept s t ((s.dev).updHdac c fun h => { h with span := some ⟨.back, x⟩ }) [] [])

/-- SW_CLR with sw_clr 1 and no clear active, and DAC_CLR_N_FALL with none active: every channel that is on goes to its clear code at
once, source 2. SW_CLR with 0 and DAC_CLR_N_RISE with no other cause: the cleared channels track again from there, source 3. While
another cause holds, only the cause changes. Line transmitters that follow DAC_CLR_N take their clr squelch reason at the fall.
CURRENT_LIMIT sets or clears the channel's bit, with source 5 when it begins. Nothing else changes. Readings and choices:
notes/assumptions/13, 33. -/
def Obligations.ClearDrivesTheClearCode : Prop :=
  (
    ∀ (s : State) (w : Who) (v : Word),
      s.calm →
      s.dev.takes w pHdac 0x040 →
      s.dev.walks = false →
      s.dev.clrActive = false →
      v.getLsbD 0 = true →
      Yields (exec (.swClr w v) s) fun t =>
        t.dev.b pHdac fSwClr = true ∧
        t.dev.evt pHdac 2 = true ∧
        (∀ c : Fin 8, t.dev.rd pHdac (hdacBase c + 0x14) = (if s.dev.hdState c =
            hdOff then s.dev.rd pHdac (hdacBase c + 0x14) else setBits (setBits (s.dev.rd pHdac (hdacBase c + 0x14)) 13 3 3) 0 12 (s.dev.g pHdac (fHdClr c)))) ∧
        Kept s t s.dev.answered ((pHdac, 0x040) :: (channels.map fun c => (pHdac, hdacBase c + 0x14))) [(pHdac, 2)]) ∧
  (
    ∀ (s : State) (w : Who) (v : Word),
      s.calm →
      s.dev.takes w pHdac 0x040 →
      s.dev.walks = false →
      s.dev.b pHdac fSwClr = true →
      s.dev.clrLow = false →
      v.getLsbD 0 = false →
      (∀ c : Fin 8, (s.dev.hd c).span = none) →
      Yields (exec (.swClr w v) s) fun t =>
        t.dev.b pHdac fSwClr = false ∧
        t.dev.evt pHdac 3 = true ∧
        (∀ c : Fin 8, t.dev.rd pHdac (hdacBase c + 0x14) = (if s.dev.hdState c =
            hdCleared then setBits (s.dev.rd pHdac (hdacBase c + 0x14)) 13 3 1 else s.dev.rd pHdac (hdacBase c + 0x14)) ∧
            t.dev.hd c = (if s.dev.hdState c = hdCleared then { s.dev.hd c with arm := true } else s.dev.hd c)) ∧
        Kept s t { s.dev.answered with hdac := t.dev.hdac } ((pHdac, 0x040) :: (channels.map fun c => (pHdac, hdacBase c + 0x14))) [(pHdac,
            3)]) ∧
  (
    ∀ (s : State) (w : Who) (v : Word),
      s.calm →
      s.dev.takes w pHdac 0x040 →
      s.dev.clrLow = true →
      Yields (exec (.swClr w v) s) fun t =>
        t.dev.b pHdac fSwClr = v.getLsbD 0 ∧
        Kept s t s.dev.answered [(pHdac, 0x040)] []) ∧
  (
    ∀ (s : State),
      s.calm →
      s.dev.walks = false →
      s.dev.clrActive = false →
      (∀ n : Lane, s.dev.b (pLtx n) fFollowClr = false ∧ s.dev.b (pLtx n) (fSq sqClr) = false) →
      s.dev.powered pHdac = true →
      Yields (exec .dacClrNFall s) fun t =>
        t.dev.evt pHdac 2 = true ∧
        (∀ c : Fin 8, t.dev.rd pHdac (hdacBase c + 0x14) = (if s.dev.hdState c =
            hdOff then s.dev.rd pHdac (hdacBase c + 0x14) else setBits (setBits (s.dev.rd pHdac (hdacBase c + 0x14)) 13 3 3) 0 12 (s.dev.g pHdac (fHdClr c)))) ∧
        Kept s t { s.dev with clrLow := true } (channels.map fun c => (pHdac, hdacBase c + 0x14)) [(pHdac, 2)]) ∧
  (
    ∀ (s : State),
      s.calm →
      s.dev.b pHdac fSwClr = true →
      (∀ n : Lane, s.dev.b (pLtx n) fFollowClr = true) →
      Yields (exec .dacClrNFall s) fun t =>
        (∀ n : Lane, t.dev.b (pLtx n) (fSq sqClr) = true) ∧
        Kept s t { s.dev with clrLow := true, ltx := t.dev.ltx } (lanes.map fun n => (pLtx n,
            0x044)) (lanes.flatMap fun n => (List.range 10).map fun e => (pLtx n, e))) ∧
  (
    ∀ (s : State),
      s.calm →
      s.dev.walks = false →
      s.dev.clrLow = true →
      s.dev.b pHdac fSwClr = false →
      (∀ n : Lane, s.dev.b (pLtx n) fFollowClr = false ∧ s.dev.b (pLtx n) (fSq sqClr) = false) →
      (∀ c : Fin 8, (s.dev.hd c).span = none) →
      s.dev.powered pHdac = true →
      Yields (exec .dacClrNRise s) fun t =>
        t.dev.evt pHdac 3 = true ∧
        (∀ c : Fin 8, t.dev.rd pHdac (hdacBase c + 0x14) = (if s.dev.hdState c =
            hdCleared then setBits (s.dev.rd pHdac (hdacBase c + 0x14)) 13 3 1 else s.dev.rd pHdac (hdacBase c + 0x14)) ∧
            t.dev.hd c = (if s.dev.hdState c = hdCleared then { s.dev.hd c with arm := true } else s.dev.hd c)) ∧
        Kept s t { s.dev with clrLow := false, hdac := t.dev.hdac } (channels.map fun c => (pHdac, hdacBase c + 0x14)) [(pHdac, 3)]) ∧
  (
    ∀ (s : State) (c : Fin 8) (on : Bool),
      s.calm →
      s.dev.runs pHdac →
      s.dev.hdState c ≠ hdOff →
      Yields (exec (.currentLimit c on) s) fun t =>
        t.dev.rd pHdac 0x044 = setBits (s.dev.rd pHdac 0x044) (16 + c.val) 1 (if on then 1 else 0) ∧
        t.dev.evt pHdac 5 = (s.dev.evt pHdac 5 || (on && !s.dev.b pHdac (fIlim c))) ∧
        Kept s t s.dev [(pHdac, 0x044)] [(pHdac, 5)])

/-- SCRUB_WORD in a region whose page runs reads the next word: without an error it goes on; a single error is corrected, counted and
recorded with source 0; an uncorrectable word not yet poisoned is poisoned, counted and recorded with source 1. A region whose
page is off is skipped and noted. The last word of region 23 of a pass that is not late lets the pass wait. SCRUB_PERIOD_END ends
a pass that waits (PASS_CNT, SKIP, time, source 10, region 0 again); a pass still reading is late, source 9. SCRUB_RESTART and
SCRUB_CLR store CTRL and restart, or zero the counters. Nothing else changes. Readings and choices: notes/assumptions/9, 13, 34. -/
def Obligations.ScrubberReadsEveryWord : Prop :=
  (
    ∀ (s : State) (p : Nat),
      s.calm →
      s.dev.b pScrub fScrubEn = true →
      s.dev.runs pScrub →
      s.dev.scrub.waits = false →
      s.dev.g pScrub fScrubRegion < 24 →
      ((regionOf (regionLoc (s.dev.g pScrub fScrubRegion) s.dev.scrub.idx)).map (·.2) = some p) →
      s.dev.powered p = true ∧ s.dev.b p fClkOff = false →
      s.dev.scrub.idx + 1 < regionWords (s.dev.g pScrub fScrubRegion) →
      s.dev.eccAt (regionLoc (s.dev.g pScrub fScrubRegion) s.dev.scrub.idx) = ⟨0, false⟩ →
      Yields (exec .scrubWord s) fun t =>
        t.dev.scrub = { s.dev.scrub with idx := s.dev.scrub.idx + 1 } ∧
        t.dev.g pScrub fScrubProgress = (s.dev.scrub.idx + 1) / 256 ∧
        t.dev.g pScrub fScrubRegion = s.dev.g pScrub fScrubRegion ∧
        (∀ a : Nat, a ≠ (regionLoc (s.dev.g pScrub fScrubRegion) s.dev.scrub.idx) → (regionOf a).isSome = true →
            t.dev.eccAt a = s.dev.eccAt a) ∧
        t.dev.eccAt (regionLoc (s.dev.g pScrub fScrubRegion) s.dev.scrub.idx) = ⟨0, false⟩ ∧
        Kept s t { s.dev with scrub := t.dev.scrub } [(pScrub, 0x044)] []) ∧
  (
    ∀ (s : State) (p : Nat),
      s.calm →
      s.dev.b pScrub fScrubEn = true →
      s.dev.runs pScrub →
      s.dev.scrub.waits = false →
      s.dev.g pScrub fScrubRegion < 24 →
      ((regionOf (regionLoc (s.dev.g pScrub fScrubRegion) s.dev.scrub.idx)).map (·.2) = some p) →
      s.dev.powered p = true ∧ s.dev.b p fClkOff = false →
      s.dev.scrub.idx + 1 < regionWords (s.dev.g pScrub fScrubRegion) →
      (s.dev.eccAt (regionLoc (s.dev.g pScrub fScrubRegion) s.dev.scrub.idx)).corr = true →
      Yields (exec .scrubWord s) fun t =>
        t.dev.scrub = { s.dev.scrub with idx := s.dev.scrub.idx + 1 } ∧
        t.dev.g pScrub fScrubProgress = (s.dev.scrub.idx + 1) / 256 ∧
        t.dev.g pScrub fScrubRegion = s.dev.g pScrub fScrubRegion ∧
        (∀ a : Nat, a ≠ (regionLoc (s.dev.g pScrub fScrubRegion) s.dev.scrub.idx) → (regionOf a).isSome = true →
            t.dev.eccAt a = s.dev.eccAt a) ∧
        t.dev.eccAt (regionLoc (s.dev.g pScrub fScrubRegion) s.dev.scrub.idx) = ⟨0, false⟩ ∧
        t.dev.rd pScrub 0x060 = s.dev.rd pScrub 0x060 + 1 ∧
        t.dev.rd pScrub 0x070 =
            BitVec.ofNat 32 (if 2 ^ 32 ≤ (regionLoc (s.dev.g pScrub fScrubRegion) s.dev.scrub.idx) then (regionLoc (s.dev.g pScrub fScrubRegion) s.dev.scrub.idx) % 2 ^ 20 else (regionLoc (s.dev.g pScrub fScrubRegion) s.dev.scrub.idx)) ∧
        t.dev.b pScrub ⟨0x074, 0, 1⟩ = false ∧ t.dev.g pScrub ⟨0x074, 16, 8⟩ = 0xFF ∧
            t.dev.g pScrub ⟨0x074, 24, 5⟩ = s.dev.g pScrub fScrubRegion ∧
        t.dev.evt pScrub 0 = true ∧
        Kept s t { s.dev with scrub := t.dev.scrub } (regsOf pScrub [0x044, 0x060, 0x070, 0x074]) [(pScrub, 0)]) ∧
  (
    ∀ (s : State) (p : Nat),
      s.calm →
      s.dev.b pScrub fScrubEn = true →
      s.dev.runs pScrub →
      s.dev.scrub.waits = false →
      s.dev.g pScrub fScrubRegion < 24 →
      ((regionOf (regionLoc (s.dev.g pScrub fScrubRegion) s.dev.scrub.idx)).map (·.2) = some p) →
      s.dev.powered p = true ∧ s.dev.b p fClkOff = false →
      s.dev.scrub.idx + 1 < regionWords (s.dev.g pScrub fScrubRegion) →
      (s.dev.eccAt (regionLoc (s.dev.g pScrub fScrubRegion) s.dev.scrub.idx)).uncorr = true ∧
          (s.dev.eccAt (regionLoc (s.dev.g pScrub fScrubRegion) s.dev.scrub.idx)).poison = false →
      Yields (exec .scrubWord s) fun t =>
        t.dev.scrub = { s.dev.scrub with idx := s.dev.scrub.idx + 1 } ∧
        t.dev.g pScrub fScrubProgress = (s.dev.scrub.idx + 1) / 256 ∧
        t.dev.g pScrub fScrubRegion = s.dev.g pScrub fScrubRegion ∧
        (∀ a : Nat, a ≠ (regionLoc (s.dev.g pScrub fScrubRegion) s.dev.scrub.idx) → (regionOf a).isSome = true →
            t.dev.eccAt a = s.dev.eccAt a) ∧
        t.dev.eccAt (regionLoc (s.dev.g pScrub fScrubRegion) s.dev.scrub.idx) =
            { s.dev.eccAt (regionLoc (s.dev.g pScrub fScrubRegion) s.dev.scrub.idx) with poison := true } ∧
        t.dev.rd pScrub 0x064 = s.dev.rd pScrub 0x064 + 1 ∧
        t.dev.b pScrub ⟨0x074, 0, 1⟩ = true ∧ t.dev.g pScrub ⟨0x074, 16, 8⟩ = 0xFF ∧
        t.dev.evt pScrub 1 = true ∧
        Kept s t { s.dev with scrub := t.dev.scrub } (regsOf pScrub [0x044, 0x064, 0x070, 0x074]) [(pScrub, 1)]) ∧
  (
    ∀ (s : State),
      s.calm →
      s.dev.b pScrub fScrubEn = true →
      s.dev.runs pScrub →
      s.dev.scrub.waits = false →
      s.dev.g pScrub fScrubRegion = 19 →
      s.dev.scrub.idx < regionWords 19 →
      s.dev.powered 0x12 = false →
      Yields (exec .scrubWord s) fun t =>
        t.dev.scrub = { s.dev.scrub with idx := 0, skip := s.dev.scrub.skip ||| BitVec.twoPow 32 19 } ∧
        t.dev.g pScrub fScrubRegion = 20 ∧
        t.dev.g pScrub fScrubProgress = 0 ∧
        Kept s t { s.dev with scrub := t.dev.scrub } [(pScrub, 0x044)] []) ∧
  (
    ∀ (s : State),
      s.calm →
      s.dev.b pScrub fScrubEn = true →
      s.dev.runs pScrub →
      s.dev.scrub.waits = false ∧ s.dev.scrub.late = false →
      s.dev.g pScrub fScrubRegion = 23 →
      s.dev.scrub.idx + 1 = regionWords 23 →
      s.dev.eccAt (regionLoc 23 s.dev.scrub.idx) = ⟨0, false⟩ →
      s.dev.powered 0x10 = true ∧ s.dev.b 0x10 fClkOff = false →
      s.dev.votes = [] →
      Yields (exec .scrubWord s) fun t =>
        t.dev.scrub = { s.dev.scrub with idx := 0, waits := true } ∧
        t.dev.g pScrub fScrubProgress = 0 ∧
        Kept s t { s.dev with scrub := t.dev.scrub } [(pScrub, 0x044)] []) ∧
  (
    ∀ (s : State),
      s.calm →
      s.dev.b pScrub fScrubEn = false ∨ s.dev.scrub.waits = true →
      Yields (exec .scrubWord s) fun t =>
        Kept s t s.dev [] []) ∧
  (
    ∀ (s : State),
      s.calm →
      s.dev.b pScrub fScrubEn = true →
      s.dev.runs pScrub →
      s.dev.scrub.waits = true →
      Yields (exec .scrubPeriodEnd s) fun t =>
        t.dev.rd pScrub 0x048 = s.dev.rd pScrub 0x048 + 1 ∧
        t.dev.rd pScrub 0x050 = s.dev.scrub.skip ∧
        t.dev.rd64 pScrub 0x058 = s.dev.tk ∧
        t.dev.evt pScrub 10 = true ∧
        t.dev.scrub = ⟨0, 0, false, false⟩ ∧
        t.dev.g pScrub fScrubRegion = 0 ∧ t.dev.g pScrub fScrubProgress = 0 ∧ t.dev.b pScrub fScrubBusy = true ∧
        Kept s t { s.dev with scrub := t.dev.scrub } (regsOf pScrub [0x044, 0x048, 0x050, 0x058, 0x05C]) [(pScrub, 10)]) ∧
  (
    ∀ (s : State),
      s.calm →
      s.dev.b pScrub fScrubEn = true →
      s.dev.runs pScrub →
      s.dev.scrub.waits = false ∧ s.dev.scrub.late = false →
      Yields (exec .scrubPeriodEnd s) fun t =>
        t.dev.rd pScrub 0x04C = s.dev.rd pScrub 0x04C + 1 ∧
        t.dev.evt pScrub 9 = true ∧
        Kept s t { s.dev with scrub := { s.dev.scrub with late := true } } [(pScrub, 0x04C)] [(pScrub, 9)]) ∧
  (
    ∀ (s : State) (w : Who) (v : Word),
      s.calm →
      s.dev.takes w pScrub 0x040 →
      v.getLsbD 2 = false →
      Yields (exec (.scrubRestart w v) s) fun t =>
        t.dev.rd pScrub 0x040 = storeWord pScrub 0x040 (s.dev.rd pScrub 0x040) (v ||| 2) ∧
        t.dev.scrub = ⟨0, 0, false, false⟩ ∧
        t.dev.g pScrub fScrubRegion = 0 ∧ t.dev.g pScrub fScrubProgress = 0 ∧ t.dev.b pScrub fScrubBusy = true ∧
        Kept s t { s.dev.answered with scrub := t.dev.scrub } [(pScrub, 0x040), (pScrub, 0x044)] []) ∧
  (
    ∀ (s : State) (w : Who) (v : Word),
      s.calm →
      s.dev.takes w pScrub 0x040 →
      v.getLsbD 1 = false →
      Yields (exec (.scrubClr w v) s) fun t =>
        t.dev.rd pScrub 0x040 = storeWord pScrub 0x040 (s.dev.rd pScrub 0x040) (v ||| 4) ∧
        t.dev.rd pScrub 0x048 = 0 ∧ t.dev.rd pScrub 0x04C = 0 ∧ t.dev.rd pScrub 0x060 = 0 ∧ t.dev.rd pScrub 0x064 = 0 ∧
            t.dev.rd pScrub 0x068 = 0 ∧ t.dev.rd pScrub 0x06C = 0 ∧ t.dev.rd pScrub 0x078 = 0 ∧
        t.dev.rd pScrub 0x044 = setBits (s.dev.rd pScrub 0x044) 8 1 (if v.getLsbD 0 then 1 else 0) ∧
        Kept s t s.dev.answered (regsOf pScrub [0x040, 0x044, 0x048, 0x04C, 0x060, 0x064, 0x068, 0x06C, 0x078]) [])

/-- HOST_MEMORY_READ of an SRAM word by a host: the word is answered; a single error is corrected, counted and recorded with source 2;
an uncorrectable word is answered UNCORR, counted and recorded with source 3. MEMORY_BIT_FLIP of a stored bit below the
uncorrectable count adds the flip, and what reads deliver stays; the second flip makes the word read with both data bits changed.
COACH_MEMORY_EXCEPTION on a word the Coach can read goes on; on an uncorrectable one, where the active slot reads with errors, the
Coach stops, its channels and locks are free and the boot ROM starts anew. Nothing else changes. Readings and choices:
notes/assumptions/9, 16, 18, 34. -/
def Obligations.ReadsMeetErrorsAndFlips : Prop :=
  (
    ∀ (s : State) (w : Who) (a pc : Word) (bad : List (Fin 2)),
      s.calm →
      w.mid.val < 16 →
      s.dev.g 0x02 fPowerState ≠ 2 →
      0x00200000 ≤ a.toNat ∧ a.toNat < 0x00300000 →
      a.toNat % 4 = 0 →
      s.dev.eccAt a.toNat = ⟨0, false⟩ →
      Yields (exec (.hostMemoryRead (.master w a .word pc) bad) s) fun t =>
        t.dev.resp = ⟨.ok, [memWord s.mem a.toNat]⟩ ∧
        (∀ a : Nat, (regionOf a).isSome = true → t.dev.eccAt a = s.dev.eccAt a) ∧
        Kept s t { s.dev with resp := t.dev.resp } [] []) ∧
  (
    ∀ (s : State) (w : Who) (a pc : Word) (bad : List (Fin 2)),
      s.calm →
      w.mid.val < 16 →
      s.dev.g 0x02 fPowerState ≠ 2 →
      0x00200000 ≤ a.toNat ∧ a.toNat < 0x00300000 →
      a.toNat % 4 = 0 →
      (s.dev.eccAt a.toNat).corr = true →
      s.dev.powered 0x14 = true →
      Yields (exec (.hostMemoryRead (.master w a .word pc) bad) s) fun t =>
        t.dev.resp = ⟨.ok, [memWord s.mem a.toNat]⟩ ∧
        t.dev.rd pScrub 0x068 = s.dev.rd pScrub 0x068 + 1 ∧
        t.dev.rd pScrub 0x070 = a ∧
        t.dev.g pScrub ⟨0x074, 16, 8⟩ = w.mid.val ∧ t.dev.b pScrub ⟨0x074, 0, 1⟩ = false ∧
        t.dev.evt pScrub 2 = true ∧
        (∀ a : Nat, (regionOf a).isSome = true → t.dev.eccAt a = s.dev.eccAt a) ∧
        Kept s t { s.dev with resp := t.dev.resp } (regsOf pScrub [0x068, 0x070, 0x074]) [(pScrub, 2)]) ∧
  (
    ∀ (s : State) (w : Who) (a pc : Word) (bad : List (Fin 2)),
      s.calm →
      w.mid.val < 16 →
      s.dev.g 0x02 fPowerState ≠ 2 →
      0x00200000 ≤ a.toNat ∧ a.toNat < 0x00300000 →
      a.toNat % 4 = 0 →
      (s.dev.eccAt a.toNat).uncorr = true →
      s.dev.powered 0x14 = true →
      w.mid.val ≠ 0 →
      Yields (exec (.hostMemoryRead (.master w a .word pc) bad) s) fun t =>
        t.dev.resp = ⟨.uncorr, [memWord s.mem a.toNat]⟩ ∧
        t.dev.rd pScrub 0x06C = s.dev.rd pScrub 0x06C + 1 ∧
        t.dev.rd pScrub 0x070 = a ∧
        t.dev.g pScrub ⟨0x074, 16, 8⟩ = w.mid.val ∧ t.dev.b pScrub ⟨0x074, 0, 1⟩ = true ∧
        t.dev.evt pScrub 3 = true ∧
        (∀ a : Nat, (regionOf a).isSome = true → t.dev.eccAt a = s.dev.eccAt a) ∧
        Kept s t { s.dev with resp := t.dev.resp } (regsOf pScrub [0x06C, 0x070, 0x074]) [(pScrub, 3)]) ∧
  (
    ∀ (s : State) (loc : Nat) (b : Fin 39),
      s.calm →
      (regionOf (loc - loc % 4)).isSome = true →
      (loc - loc % 4) < 2 ^ 32 ∧ ¬ (0x00100000 ≤ (loc - loc % 4) ∧ (loc - loc % 4) < 0x00200000) →
      s.dev.eccAt (loc - loc % 4) = ⟨0, false⟩ →
      Yields (exec (.memoryBitFlip (.word loc b)) s) fun t =>
        t.dev.eccAt (loc - loc % 4) = ⟨BitVec.twoPow 39 b.val, false⟩ ∧
        (∀ a : Nat, a ≠ (loc - loc % 4) → ¬ (0x00100000 ≤ a ∧ a < 0x00200000) → t.dev.eccAt a = s.dev.eccAt a) ∧
        (∀ a : Nat, memGet t.mem a = memGet s.mem a) ∧
        Kept { s with mem := t.mem } t s.dev [] []) ∧
  (
    ∀ (s : State) (loc : Nat) (b c : Fin 39),
      s.calm →
      (regionOf (loc - loc % 4)).isSome = true →
      (loc - loc % 4) < 2 ^ 32 ∧ ¬ (0x00100000 ≤ (loc - loc % 4) ∧ (loc - loc % 4) < 0x00200000) →
      b ≠ c →
      s.dev.eccAt (loc - loc % 4) = ⟨BitVec.twoPow 39 c.val, false⟩ →
      Yields (exec (.memoryBitFlip (.word loc b)) s) fun t =>
        (t.dev.eccAt (loc - loc % 4)).uncorr = true ∧
        memWord t.mem (loc - loc % 4) = memWord s.mem (loc - loc % 4) ^^^ (BitVec.twoPow 39 c.val ^^^ BitVec.twoPow 39 b.val).truncate 32 ∧
        (∀ a : Nat, (a < (loc - loc % 4) ∨ (loc - loc % 4) + 4 ≤ a) → memGet t.mem a = memGet s.mem a) ∧
        Kept { s with mem := t.mem } t s.dev [] []) ∧
  (
    ∀ (s : State) (loc : Nat) (bad : List (Fin 2)),
      s.calm →
      sramBase ≤ (loc - loc % 4) ∧ (loc - loc % 4) < sramBase + 0x00100000 →
      (s.dev.eccAt (loc - loc % 4)).corr = true →
      s.dev.powered 0x14 = true →
      Yields (exec (.coachMemoryException loc bad) s) fun t =>
        t.dev.rd pScrub 0x068 = s.dev.rd pScrub 0x068 + 1 ∧
        t.dev.rd pScrub 0x070 = BitVec.ofNat 32 (loc - loc % 4) ∧
        t.dev.evt pScrub 2 = true ∧
        Kept s t s.dev (regsOf pScrub [0x068, 0x070, 0x074]) [(pScrub, 2)]) ∧
  (
    ∀ (s : State) (loc : Nat) (bad : List (Fin 2)),
      s.calm →
      sramBase ≤ (loc - loc % 4) ∧ (loc - loc % 4) < sramBase + 0x00100000 →
      (s.dev.eccAt (loc - loc % 4)).uncorr = true →
      s.dev.coachUp = true →
      s.dev.flashSource = true →
      s.dev.g pBoot fActState ≠ 2 →
      bad.map (·.val) = [s.dev.g pBoot fActive] →
      (∀ c < 16, s.dev.g pMbox (fChRx c) ≠ 0 ∨ s.dev.b pMbox (fChFull c) = false) →
      s.dev.powered 0x14 = true ∧ s.dev.powered pSec = true →
      Yields (exec (.coachMemoryException loc bad) s) fun t =>
        t.dev.coachUp = false ∧
        t.dev.boot.phase = .rom ∧
        (∀ i < 32, t.dev.g pLocks (fOwn i) = (if s.dev.g pLocks (fOwn i) = 1 then 0 else s.dev.g pLocks (fOwn i))) ∧
        t.dev.evt pScrub 3 = true ∧ t.dev.evt pSec 0 = true ∧
        Kept s t { s.dev with coachUp := false, boot := { s.dev.boot with phase := .rom } } (regsOf pScrub [0x06C, 0x070,
            0x074] ++ regsOf pLocks (regRun 0x0C0 8)) [(pScrub, 3), (pSec, 0)])

/-- REFEREE_EVENT of a block below fault_min that no watcher names and that is not being handled: EVT_STATUS, the log entry at log_min
or more (ring of 32, head, number, overwritten), the first fault at severity 2 or more, a firmware call at 1 or more. During the
reaction to the same source only EVT_STATUS sets. At fault_min or more FAULT_N goes low. A watcher that names it counts in an open
window and fires at n: its bit, its hits, the call. REACTION_END ends the reaction. Nothing else changes. WATCH_WINDOW_CLOSE ends
an open window: its count is 0 and its hits stay. WATCH_CFG_WRITE stores WATCH_CFG or WATCH_WIN; a pair that is not a source of a
page of the subsystem leaves the watcher disabled; its window ends and its hits stay. LOG_CLR empties the log and starts it at
slot 0; FIRST_CLR frees the first-fault record. Nothing else changes. Readings and choices: notes/assumptions/13, 17, 35. -/
def Obligations.RefereeAndWatchers : Prop :=
  (
    ∀ (s : State) (p : Fin 256) (e : Fin 32),
      s.calm →
      s.dev.faultN = s.dev.faultCause →
      s.dev.runs p.val →
      0x20 ≤ p.val ∧ p.val < 0x68 →
      e.val < sourcesOf p.val →
      (blockBit p.val).isSome = true →
      s.dev.powered 0x03 = true →
      (p.val, e.val) ∉ s.dev.ref.busy →
      (∀ a < 6, ∀ k < 32, s.dev.b (0x18 + a) (fWatchEn k) = false) →
      s.dev.sev p.val e.val < s.dev.g 0x03 fFaultMin →
      Yields (exec (.refereeEvent p e) s) fun t =>
        t.dev.evt p.val e.val = true ∧
        t.dev.ref.busy = s.dev.ref.busy ++ [(p.val, e.val)] ∧
        t.dev.ref.log = (if decide (getBits (s.dev.rd 0x03 0x040) 8 2 ≤ s.dev.sev p.val e.val) then (if s.dev.ref.log.length =
            32 then s.dev.ref.log.drop 1 else s.dev.ref.log) ++ [⟨s.dev.ref.seq, p.val, e.val, s.dev.sev p.val e.val, false, false,
            s.dev.tk⟩] else s.dev.ref.log) ∧
        t.dev.ref.seq = (if decide (getBits (s.dev.rd 0x03 0x040) 8 2 ≤ s.dev.sev p.val e.val) then (s.dev.ref.seq + 1) % 65536 else s.dev.ref.seq) ∧ t.dev.ref.head = (if decide (getBits (s.dev.rd 0x03 0x040) 8 2 ≤ s.dev.sev p.val e.val) then (s.dev.ref.head + 1) % 32 else s.dev.ref.head) ∧
        t.dev.ref.overwritten = (if decide (getBits (s.dev.rd 0x03 0x040) 8 2 ≤ s.dev.sev p.val e.val) ∧
            s.dev.ref.log.length = 32 then min (s.dev.ref.overwritten + 1) 65535 else s.dev.ref.overwritten) ∧
        t.dev.ref.first = (if 2 ≤ s.dev.sev p.val e.val ∧
            s.dev.ref.first = none then some ⟨0, p.val, e.val, s.dev.sev p.val e.val, false, false, s.dev.tk⟩ else s.dev.ref.first) ∧
        t.dev.ref.calls = (if 1 ≤ s.dev.sev p.val e.val then s.dev.ref.calls ++ [⟨p.val, e.val,
            s.dev.sev p.val e.val⟩] else s.dev.ref.calls) ∧
        t.dev.faultN = s.dev.faultN ∧
        Kept s t s.dev [] [(p.val, e.val)]) ∧
  (
    ∀ (s : State) (p : Fin 256) (e : Fin 32),
      s.calm →
      s.dev.faultN = s.dev.faultCause →
      s.dev.runs p.val →
      0x20 ≤ p.val ∧ p.val < 0x68 →
      e.val < sourcesOf p.val →
      (blockBit p.val).isSome = true →
      s.dev.powered 0x03 = true →
      (p.val, e.val) ∈ s.dev.ref.busy →
      s.dev.sev p.val e.val < s.dev.g 0x03 fFaultMin →
      Yields (exec (.refereeEvent p e) s) fun t =>
        t.dev.evt p.val e.val = true ∧
        t.dev.ref = s.dev.ref ∧ t.dev.faultN = s.dev.faultN ∧
        Kept s t s.dev [] [(p.val, e.val)]) ∧
  (
    ∀ (s : State) (p : Fin 256) (e : Fin 32),
      s.calm →
      s.dev.runs p.val →
      0x20 ≤ p.val ∧ p.val < 0x68 →
      e.val < sourcesOf p.val →
      (blockBit p.val).isSome = true →
      s.dev.powered 0x03 = true →
      s.dev.g 0x02 fPowerState ≠ 2 →
      s.dev.g 0x03 fFaultMin ≤ s.dev.sev p.val e.val →
      Yields (exec (.refereeEvent p e) s) fun t =>
        t.dev.evt p.val e.val = true ∧
        t.dev.faultN = true ∧
        Kept s t s.dev [] [(p.val, e.val)]) ∧
  (
    ∀ (s : State) (p : Fin 256) (e : Fin 32) (sp : Nat) (k : Fin 32),
      s.calm →
      s.dev.faultN = s.dev.faultCause →
      s.dev.runs p.val →
      0x20 ≤ p.val ∧ p.val < 0x68 →
      e.val < sourcesOf p.val →
      (blockBit p.val).isSome = true →
      s.dev.powered 0x03 = true →
      (p.val, e.val) ∉ s.dev.ref.busy →
      s.dev.sev p.val e.val < s.dev.g 0x03 fFaultMin →
      subsystemOf p.val = some sp →
      s.dev.b sp (fWatchEn k.val) = true ∧ s.dev.g sp (fWatchPage k.val) = p.val ∧ s.dev.g sp (fWatchSrc k.val) = e.val →
      (s.dev.watch sp k.val).count + 1 < s.dev.g sp (fWatchN k.val) →
      (∀ j < 32, j ≠ k.val → s.dev.b sp (fWatchEn j) = false) →
      Yields (exec (.refereeEvent p e) s) fun t =>
        t.dev.watch sp k.val = ⟨(s.dev.watch sp k.val).hits, true, (s.dev.watch sp k.val).count + 1⟩ ∧
        (∀ j < 32, j ≠ k.val → t.dev.watch sp j = s.dev.watch sp j) ∧
        t.dev.evt p.val e.val = true ∧
        t.dev.ref.log = (if decide (getBits (s.dev.rd 0x03 0x040) 8 2 ≤ s.dev.sev p.val e.val) then (if s.dev.ref.log.length =
            32 then s.dev.ref.log.drop 1 else s.dev.ref.log) ++ [⟨s.dev.ref.seq, p.val, e.val, s.dev.sev p.val e.val, false, false,
            s.dev.tk⟩] else s.dev.ref.log) ∧
        t.dev.ref.calls = (if 1 ≤ s.dev.sev p.val e.val then s.dev.ref.calls ++ [⟨p.val, e.val,
            s.dev.sev p.val e.val⟩] else s.dev.ref.calls) ∧
        Kept s t s.dev [] [(p.val, e.val)]) ∧
  (
    ∀ (s : State) (p : Fin 256) (e : Fin 32) (sp : Nat) (k : Fin 32),
      s.calm →
      s.dev.faultN = s.dev.faultCause →
      s.dev.runs p.val →
      0x20 ≤ p.val ∧ p.val < 0x68 →
      e.val < sourcesOf p.val →
      (blockBit p.val).isSome = true →
      s.dev.powered 0x03 = true →
      (p.val, e.val) ∉ s.dev.ref.busy →
      s.dev.sev p.val e.val < s.dev.g 0x03 fFaultMin →
      subsystemOf p.val = some sp →
      s.dev.powered sp = true →
      s.dev.b sp (fWatchEn k.val) = true ∧ s.dev.g sp (fWatchPage k.val) = p.val ∧ s.dev.g sp (fWatchSrc k.val) = e.val →
      s.dev.g sp (fWatchN k.val) ≤ (s.dev.watch sp k.val).count + 1 →
      (∀ j < 32, j ≠ k.val → s.dev.b sp (fWatchEn j) = false) →
      s.dev.g 0x02 fPowerState ≠ 2 →
      Yields (exec (.refereeEvent p e) s) fun t =>
        t.dev.watch sp k.val = ⟨min ((s.dev.watch sp k.val).hits + 1) 255, false, 0⟩ ∧
        t.dev.evt sp k.val = true ∧
        t.dev.faultN = true ∧
        ⟨p.val, e.val, 3⟩ ∈ t.dev.ref.calls ∧
        Kept s t s.dev [] [(p.val, e.val)]) ∧
  (
    ∀ (s : State) (p : Fin 256) (e : Fin 32),
      s.calm →
      s.dev.faultN = s.dev.faultCause →
      Yields (exec (.reactionEnd p e) s) fun t =>
        t.dev = { s.dev with ref := { s.dev.ref with busy := s.dev.ref.busy.filter (· != (p.val, e.val)) } } ∧
        Kept s t s.dev [] []) ∧
  (
    ∀ (s : State) (i : Fin 6) (k : Fin 32),
      s.calm →
      s.dev.faultN = s.dev.faultCause →
      Yields (exec (.watchWindowClose i k) s) fun t =>
        t.dev.watch (subPage i) k.val = (if (s.dev.watch (subPage i) k.val).isOpen then ⟨(s.dev.watch (subPage i) k.val).hits, false,
            0⟩ else s.dev.watch (subPage i) k.val) ∧
        t.dev.ref = { s.dev.ref with watch := t.dev.ref.watch } ∧
        (∀ j < 192, j ≠ 32 * i.val + k.val → tabGet watchBlank j t.dev.ref.watch = tabGet watchBlank j s.dev.ref.watch) ∧
        Kept s t s.dev [] []) ∧
  (
    ∀ (s : State) (w : Who) (i : Fin 6) (k : Fin 32) (v : Word),
      s.calm →
      s.dev.faultN = s.dev.faultCause →
      s.dev.takes w (subPage i) (0x100 + 0x10 * k.val) →
      Yields (exec (.watchCfgWrite w i k false v) s) fun t =>
        t.dev.rd (subPage i) (0x100 + 0x10 * k.val) = (let x := storeWord (subPage i) (0x100 + 0x10 * k.val) (s.dev.rd (subPage i) (0x100 + 0x10 * k.val)) v; if x.getLsbD 31 ∧ watchable (subPage i) (getBits x 16 8) (getBits x 24 5) = false then setBits x 31 1 0 else x) ∧
        t.dev.watch (subPage i) k.val = ⟨(s.dev.watch (subPage i) k.val).hits, false, 0⟩ ∧
        t.dev.ref = { s.dev.ref with watch := t.dev.ref.watch } ∧
        Kept s t s.dev.answered [((subPage i), 0x100 + 0x10 * k.val)] []) ∧
  (
    ∀ (s : State) (w : Who) (i : Fin 6) (k : Fin 32) (v : Word),
      s.calm →
      s.dev.faultN = s.dev.faultCause →
      s.dev.takes w (subPage i) (0x104 + 0x10 * k.val) →
      s.dev.b (subPage i) (fWatchEn k.val) = false →
      Yields (exec (.watchCfgWrite w i k true v) s) fun t =>
        t.dev.rd (subPage i) (0x104 + 0x10 * k.val) =
            storeWord (subPage i) (0x104 + 0x10 * k.val) (s.dev.rd (subPage i) (0x104 + 0x10 * k.val)) v ∧
        t.dev.watch (subPage i) k.val = ⟨(s.dev.watch (subPage i) k.val).hits, false, 0⟩ ∧
        t.dev.ref = { s.dev.ref with watch := t.dev.ref.watch } ∧
        Kept s t s.dev.answered [((subPage i), 0x104 + 0x10 * k.val)] []) ∧
  (
    ∀ (s : State) (w : Who) (v : Word),
      s.calm →
      s.dev.faultN = s.dev.faultCause →
      s.dev.takes w pRef 0x060 →
      v.getLsbD 0 = false →
      Yields (exec (.logClr w v) s) fun t =>
        t.dev.ref = { s.dev.ref with log := [], head := 0 } ∧
        Kept s t s.dev.answered [] []) ∧
  (
    ∀ (s : State) (w : Who) (v : Word),
      s.calm →
      s.dev.faultN = s.dev.faultCause →
      s.dev.takes w pRef 0x060 →
      v.getLsbD 1 = false →
      Yields (exec (.firstClr w v) s) fun t =>
        t.dev.ref = { s.dev.ref with first := none } ∧
        Kept s t s.dev.answered [] [])

/-- SEND with a length of 1 to 16 by a master that may send: the channel is full, with sender and length, its other flags clear,
collide and source 2 where it was full already, the receiver's doorbell bit sets, the timer runs where tmo is not 0. DONE of a
full channel frees it with acked, stops the timer and rings the sender; of an empty one nothing. DOORBELL_CLEAR stores by its
access code. MBOX_TIMEOUT of a running timer: timeout, the sender's bit, source 4. RX_RESET_SPI and RX_RESET_BATON abort the
messages held for that host: slots zero, aborted, timer off, source 3. Nothing else changes. LOCK_READ of a free lock makes the
reader its owner and answers 0; of an owned one it answers the owner's master ID plus 1 and changes nothing. LOCK_RELEASE with 0
by the owner or the Coach frees it; another write is DENIED and changes nothing. RELEASE_ALL of a master by itself or the Coach
frees every lock it owns; by another it is DENIED. No other lock and nothing else changes. Readings and choices:
notes/assumptions/13, 14, 36. -/
def Obligations.MailboxesAndLocks : Prop :=
  (
    ∀ (s : State) (w : Who) (c : Fin 16) (v : Word),
      s.calm →
      s.dev.takes w pMbox (0x0C0 + 4 * c.val) →
      w.mid.val ≠ 3 ∧ w.mid.val ≠ 4 →
      1 ≤ getBits v 0 5 ∧ getBits v 0 5 ≤ 16 →
      Yields (exec (.send w c v) s) fun t =>
        t.dev.b pMbox (fChFull c.val) = true ∧
        t.dev.g pMbox (fChSender c.val) = w.mid.val ∧ t.dev.g pMbox (fChLen c.val) = getBits v 0 5 ∧
        t.dev.b pMbox (fChAcked c.val) = false ∧ t.dev.b pMbox (fChAborted c.val) = false ∧ t.dev.b pMbox (fChTimeout c.val) = false ∧
        t.dev.b pMbox (fChCollide c.val) = s.dev.b pMbox (fChFull c.val) ∧
        t.dev.evt pMbox 2 = (s.dev.evt pMbox 2 || s.dev.b pMbox (fChFull c.val)) ∧
        (∀ x < 4, doorbellOf (s.dev.g pMbox (fChRx c.val)) = some x →
            t.dev.rd pMbox (0x140 + 4 * x) = s.dev.rd pMbox (0x140 + 4 * x) ||| BitVec.twoPow 32 c.val) ∧
        (∀ x < 4, doorbellOf (s.dev.g pMbox (fChRx c.val)) = some x → (x = 1 ∨ x = 2) → t.dev.dbMasked x &&& ~~~ s.dev.dbMasked x ≠ 0 →
            t.dev.evt pMbox (x - 1) = true) ∧
        t.dev.mboxTimer.getLsbD c.val = decide (s.dev.g pMbox (fChTmo c.val) ≠ 0) ∧
        (∀ j < 16, j ≠ c.val → t.dev.mboxTimer.getLsbD j = s.dev.mboxTimer.getLsbD j) ∧
        Kept s t { s.dev.answered with mboxTimer := t.dev.mboxTimer } ((pMbox, (0x080 + 4 * c.val)) :: (match doorbellOf (s.dev.g pMbox (fChRx c.val)) with | some x => [(pMbox, 0x140 + 4 * x)] | none => [])) [(pMbox, 0), (pMbox, 1), (pMbox, 2)]) ∧
  (
    ∀ (s : State) (w : Who) (c : Fin 16),
      s.calm →
      s.dev.takes w pMbox (0x100 + 4 * c.val) →
      w.mid.val = 0 ∨ w.mid.val = (s.dev.g pMbox (fChRx c.val)) →
      s.dev.b pMbox (fChFull c.val) = true →
      Yields (exec (.done w c) s) fun t =>
        t.dev.rd pMbox (0x080 + 4 * c.val) = setBits (setBits (s.dev.rd pMbox (0x080 + 4 * c.val)) 31 1 0) 27 1 1 ∧
        t.dev.mboxTimer.getLsbD c.val = false ∧
        (∀ j < 16, j ≠ c.val → t.dev.mboxTimer.getLsbD j = s.dev.mboxTimer.getLsbD j) ∧
        (∀ x < 4, doorbellOf (s.dev.g pMbox (fChSender c.val)) = some x →
            t.dev.rd pMbox (0x140 + 4 * x) = s.dev.rd pMbox (0x140 + 4 * x) ||| BitVec.twoPow 32 (16 + c.val)) ∧
        (∀ x < 4, doorbellOf (s.dev.g pMbox (fChSender c.val)) = some x → (x = 1 ∨ x = 2) → t.dev.dbMasked x &&& ~~~ s.dev.dbMasked x ≠ 0 →
            t.dev.evt pMbox (x - 1) = true) ∧
        Kept s t { s.dev.answered with mboxTimer := t.dev.mboxTimer } ((pMbox, (0x080 + 4 * c.val)) :: (match doorbellOf (s.dev.g pMbox (fChSender c.val)) with | some x => [(pMbox, 0x140 + 4 * x)] | none => [])) [(pMbox, 0), (pMbox, 1)]) ∧
  (
    ∀ (s : State) (w : Who) (c : Fin 16),
      s.calm →
      s.dev.takes w pMbox (0x100 + 4 * c.val) →
      w.mid.val = 0 ∨ w.mid.val = (s.dev.g pMbox (fChRx c.val)) →
      s.dev.b pMbox (fChFull c.val) = false →
      Yields (exec (.done w c) s) fun t =>
        Kept s t s.dev.answered [] []) ∧
  (
    ∀ (s : State) (w : Who) (r : Fin 4) (v : Word),
      s.calm →
      s.dev.takes w pMbox (0x140 + 4 * r.val) →
      w.mid.val = 0 ∨ doorbellOf w.mid.val = some r.val →
      Yields (exec (.doorbellClear w r v) s) fun t =>
        t.dev.rd pMbox (0x140 + 4 * r.val) = s.dev.rd pMbox (0x140 + 4 * r.val) &&& ~~~ v ∧
        Kept s t s.dev.answered [(pMbox, 0x140 + 4 * r.val)] []) ∧
  (
    ∀ (s : State) (c : Fin 16),
      s.calm →
      s.dev.runs pMbox →
      s.dev.mboxTimer.getLsbD c.val = true →
      Yields (exec (.mboxTimeout c) s) fun t =>
        t.dev.mboxTimer.getLsbD c.val = false ∧
        (∀ j < 16, j ≠ c.val → t.dev.mboxTimer.getLsbD j = s.dev.mboxTimer.getLsbD j) ∧
        t.dev.rd pMbox (0x080 + 4 * c.val) = setBits (s.dev.rd pMbox (0x080 + 4 * c.val)) 28 1 1 ∧
        (∀ x < 4, doorbellOf (s.dev.g pMbox (fChSender c.val)) = some x →
            t.dev.rd pMbox (0x140 + 4 * x) = s.dev.rd pMbox (0x140 + 4 * x) ||| BitVec.twoPow 32 (16 + c.val)) ∧
        (∀ x < 4, doorbellOf (s.dev.g pMbox (fChSender c.val)) = some x → (x = 1 ∨ x = 2) → t.dev.dbMasked x &&& ~~~ s.dev.dbMasked x ≠ 0 →
            t.dev.evt pMbox (x - 1) = true) ∧
        t.dev.evt pMbox 4 = true ∧
        Kept s t { s.dev with mboxTimer := t.dev.mboxTimer } ((pMbox, (0x080 + 4 * c.val)) :: (match doorbellOf (s.dev.g pMbox (fChSender c.val)) with | some x => [(pMbox, 0x140 + 4 * x)] | none => [])) [(pMbox, 0), (pMbox, 1), (pMbox, 4)]) ∧
  (
    ∀ (s : State) (w : Who) (v : Word),
      s.calm →
      s.dev.takes w pMbox 0x160 →
      v.getLsbD 2 = false →
      w.mid.val = 0 ∨ w.mid.val = 1 →
      s.dev.powered pMbox = true →
      Yields (exec (.rxResetSpi w v) s) fun t =>
        (∀ k < 16, t.dev.b pMbox (fChFull k) = (s.dev.b pMbox (fChFull k) && !decide (s.dev.g pMbox (fChRx k) = 1 ∧
            s.dev.b pMbox (fChFull k) = true))) ∧
        (∀ k < 16, t.dev.b pMbox (fChAborted k) = (s.dev.b pMbox (fChAborted k) || decide (s.dev.g pMbox (fChRx k) = 1 ∧
            s.dev.b pMbox (fChFull k) = true))) ∧
        (∀ k < 16, (s.dev.g pMbox (fChRx k) = 1 ∧ s.dev.b pMbox (fChFull k) = true) → t.dev.mboxTimer.getLsbD k = false ∧
            t.dev.evt pMbox 3 = true ∧ ∀ j < 16, t.dev.rd pMbox (0x400 + 0x40 * k + 4 * j) = 0) ∧
        (∀ k < 16, ¬ (s.dev.g pMbox (fChRx k) = 1 ∧ s.dev.b pMbox (fChFull k) = true) →
            t.dev.rd pMbox (0x080 + 4 * k) = s.dev.rd pMbox (0x080 + 4 * k) ∧ t.dev.mboxTimer.getLsbD k = s.dev.mboxTimer.getLsbD k ∧
            ∀ j < 16, t.dev.rd pMbox (0x400 + 0x40 * k + 4 * j) = s.dev.rd pMbox (0x400 + 0x40 * k + 4 * j)) ∧
        Kept s t { s.dev.answered with mboxTimer := t.dev.mboxTimer } (regsOf pMbox (regRun 0x080 16 ++ regRun 0x140 4 ++
            regRun 0x400 256)) [(pMbox, 0), (pMbox, 1), (pMbox, 3)]) ∧
  (
    ∀ (s : State) (w : Who) (v : Word),
      s.calm →
      s.dev.takes w pMbox 0x160 →
      v.getLsbD 1 = false →
      w.mid.val = 0 ∨ w.mid.val = 2 →
      s.dev.powered pMbox = true →
      Yields (exec (.rxResetBaton w v) s) fun t =>
        (∀ k < 16, t.dev.b pMbox (fChFull k) = (s.dev.b pMbox (fChFull k) && !decide (s.dev.g pMbox (fChRx k) = 2 ∧
            s.dev.b pMbox (fChFull k) = true))) ∧
        (∀ k < 16, t.dev.b pMbox (fChAborted k) = (s.dev.b pMbox (fChAborted k) || decide (s.dev.g pMbox (fChRx k) = 2 ∧
            s.dev.b pMbox (fChFull k) = true))) ∧
        (∀ k < 16, (s.dev.g pMbox (fChRx k) = 2 ∧ s.dev.b pMbox (fChFull k) = true) → t.dev.mboxTimer.getLsbD k = false ∧
            t.dev.evt pMbox 3 = true ∧ ∀ j < 16, t.dev.rd pMbox (0x400 + 0x40 * k + 4 * j) = 0) ∧
        (∀ k < 16, ¬ (s.dev.g pMbox (fChRx k) = 2 ∧ s.dev.b pMbox (fChFull k) = true) →
            t.dev.rd pMbox (0x080 + 4 * k) = s.dev.rd pMbox (0x080 + 4 * k) ∧ t.dev.mboxTimer.getLsbD k = s.dev.mboxTimer.getLsbD k ∧
            ∀ j < 16, t.dev.rd pMbox (0x400 + 0x40 * k + 4 * j) = s.dev.rd pMbox (0x400 + 0x40 * k + 4 * j)) ∧
        Kept s t { s.dev.answered with mboxTimer := t.dev.mboxTimer } (regsOf pMbox (regRun 0x080 16 ++ regRun 0x140 4 ++
            regRun 0x400 256)) [(pMbox, 0), (pMbox, 1), (pMbox, 3)]) ∧
  (
    ∀ (s : State) (w : Who) (i : Fin 32),
      s.calm →
      s.dev.shows w pLocks (0x040 + 4 * i.val) →
      (s.dev.g pLocks (fOwn i.val)) = 0 →
      Yields (exec (.lockRead w i) s) fun t =>
        t.dev.resp = ⟨.ok, [0]⟩ ∧
        t.dev.g pLocks (fOwn i.val) = w.mid.val + 1 ∧
        (∀ j < 32, j ≠ i.val → t.dev.g pLocks (fOwn j) = s.dev.g pLocks (fOwn j)) ∧
        Kept s t { s.dev with resp := t.dev.resp } [(pLocks, (fOwn i.val).off)] []) ∧
  (
    ∀ (s : State) (w : Who) (i : Fin 32),
      s.calm →
      s.dev.shows w pLocks (0x040 + 4 * i.val) →
      (s.dev.g pLocks (fOwn i.val)) ≠ 0 →
      Yields (exec (.lockRead w i) s) fun t =>
        t.dev.resp = ⟨.ok, [BitVec.ofNat 32 (s.dev.g pLocks (fOwn i.val))]⟩ ∧
        Kept s t { s.dev with resp := t.dev.resp } [] []) ∧
  (
    ∀ (s : State) (w : Who) (i : Fin 32),
      s.calm →
      s.dev.takes w pLocks (0x040 + 4 * i.val) →
      w.mid.val = 0 ∨ (s.dev.g pLocks (fOwn i.val)) = w.mid.val + 1 →
      Yields (exec (.lockRelease w i 0) s) fun t =>
        t.dev.g pLocks (fOwn i.val) = 0 ∧
        (∀ j < 32, j ≠ i.val → t.dev.g pLocks (fOwn j) = s.dev.g pLocks (fOwn j)) ∧
        Kept s t s.dev.answered [(pLocks, (fOwn i.val).off)] []) ∧
  (
    ∀ (s : State) (w : Who) (i : Fin 32) (v : Word),
      s.calm →
      v ≠ 0 ∨ (w.mid.val ≠ 0 ∧ (s.dev.g pLocks (fOwn i.val)) ≠ w.mid.val + 1) →
      Yields (exec (.lockRelease w i v) s) fun t =>
        t.dev.resp = ⟨.denied, []⟩ ∧
        Kept s t { s.dev with resp := t.dev.resp } [] []) ∧
  (
    ∀ (s : State) (w : Who) (v : Word),
      s.calm →
      s.dev.takes w pLocks 0x0E0 →
      w.mid.val = 0 ∨ w.mid.val = getBits v 0 5 →
      Yields (exec (.releaseAll w v) s) fun t =>
        (∀ j < 32, t.dev.g pLocks (fOwn j) = (if s.dev.g pLocks (fOwn j) = getBits v 0 5 + 1 then 0 else s.dev.g pLocks (fOwn j))) ∧
        Kept s t s.dev.answered (regsOf pLocks (regRun 0x0C0 8)) []) ∧
  (
    ∀ (s : State) (w : Who) (v : Word),
      s.calm →
      w.mid.val ≠ 0 ∧ w.mid.val ≠ getBits v 0 5 →
      Yields (exec (.releaseAll w v) s) fun t =>
        t.dev.resp = ⟨.denied, []⟩ ∧
        Kept s t { s.dev with resp := t.dev.resp } [] [])

/-- SPI_WRITE of 1 to 16 words to Coach SRAM: the words stand there and every other byte stays; SPI_READ answers the words. Each ends
with a status byte that shows no error and FAULT_N, kept in LAST_STATUS, and counts a frame. A frame with a bad CMD, more than 16
words or a misaligned address performs no access: err is set and counted with source 0. While the link is down nothing happens.
Nothing else changes. Readings and choices: notes/assumptions/5, 18, 37. -/
def Obligations.SpiFramesCarryWords : Prop :=
  (
    ∀ (s : State) (len : BitVec 8) (ad : Word) (ws : List Word) (x : Facts),
      s.calm →
      s.dev.linkUp = true →
      len.toNat ≤ 15 ∧ ws.length = len.toNat + 1 →
      0x00200000 ≤ ad.toNat ∧ ad.toNat + 64 ≤ 0x00300000 ∧ ad.toNat % 4 = 0 →
      Yields (exec (.spiWrite (⟨true, len, ad⟩) ws false x) s) fun t =>
        memWords t.mem ad.toNat ws.length = ws ∧
        (∀ a : Nat, (a < ad.toNat ∨ ad.toNat + 4 * ws.length ≤ a) → memGet t.mem a = memGet s.mem a) ∧
        t.dev.rd pSpi 0x044 = t.dev.spiReply.status.zeroExtend 32 ∧
        t.dev.spiReply.status.getLsbD 7 = false ∧ t.dev.spiReply.status.getLsbD 6 = false ∧
            t.dev.spiReply.status.getLsbD 4 = s.dev.faultCause ∧
        t.dev.rd pSpi 0x04C = s.dev.rd pSpi 0x04C + 1 ∧
        t.dev.spiReply.words = [] ∧
        t.dev.spiReply.status.toNat % 8 = 0 ∧
        Kept { s with mem := t.mem } t { s.dev with resp := t.dev.resp, spiReply := t.dev.spiReply } (regsOf pSpi [0x044, 0x04C]) []) ∧
  (
    ∀ (s : State) (len : BitVec 8) (ad : Word),
      s.calm →
      s.dev.linkUp = true →
      len.toNat ≤ 15 →
      0x00200000 ≤ ad.toNat ∧ ad.toNat + 64 ≤ 0x00300000 ∧ ad.toNat % 4 = 0 →
      s.dev.ecc = [] →
      Yields (exec (.spiRead (⟨true, len, ad⟩) none none) s) fun t =>
        t.dev.rd pSpi 0x044 = t.dev.spiReply.status.zeroExtend 32 ∧
        t.dev.spiReply.status.getLsbD 7 = false ∧ t.dev.spiReply.status.getLsbD 6 = false ∧
            t.dev.spiReply.status.getLsbD 4 = s.dev.faultCause ∧
        t.dev.rd pSpi 0x04C = s.dev.rd pSpi 0x04C + 1 ∧
        t.dev.spiReply.words = memWords s.mem ad.toNat (len.toNat + 1) ∧
        t.dev.spiReply.status.toNat % 8 = 0 ∧
        Kept s t { s.dev with resp := t.dev.resp, spiReply := t.dev.spiReply } (regsOf pSpi [0x044, 0x04C]) []) ∧
  (
    ∀ (s : State) (hd : SpiHead) (ws : List Word) (cut : Bool) (x : Facts),
      s.calm →
      s.dev.linkUp = true →
      spiGood hd = false →
      s.dev.powered pSpi = true →
      Yields (exec (.spiWrite hd ws cut x) s) fun t =>
        t.dev.rd pSpi 0x044 = t.dev.spiReply.status.zeroExtend 32 ∧
        t.dev.spiReply.status.getLsbD 7 = true ∧ t.dev.spiReply.status.getLsbD 6 = false ∧
            t.dev.spiReply.status.getLsbD 4 = s.dev.faultCause ∧
        t.dev.rd pSpi 0x04C = s.dev.rd pSpi 0x04C + 1 ∧
        t.dev.spiReply.words = [] ∧
        t.dev.rd pSpi 0x050 = s.dev.rd pSpi 0x050 + 1 ∧
        t.dev.evt pSpi 0 = true ∧
        Kept s t { s.dev with spiReply := t.dev.spiReply } (regsOf pSpi [0x044, 0x04C, 0x050]) [(pSpi, 0)]) ∧
  (
    ∀ (s : State) (hd : SpiHead) (cut late : Option Nat),
      s.calm →
      s.dev.linkUp = true →
      spiGood hd = false →
      s.dev.powered pSpi = true →
      Yields (exec (.spiRead hd cut late) s) fun t =>
        t.dev.rd pSpi 0x044 = t.dev.spiReply.status.zeroExtend 32 ∧
        t.dev.spiReply.status.getLsbD 7 = true ∧ t.dev.spiReply.status.getLsbD 6 = false ∧
            t.dev.spiReply.status.getLsbD 4 = s.dev.faultCause ∧
        t.dev.rd pSpi 0x04C = s.dev.rd pSpi 0x04C + 1 ∧
        t.dev.spiReply.words = [] ∧
        t.dev.rd pSpi 0x050 = s.dev.rd pSpi 0x050 + 1 ∧
        t.dev.evt pSpi 0 = true ∧
        Kept s t { s.dev with spiReply := t.dev.spiReply } (regsOf pSpi [0x044, 0x04C, 0x050]) [(pSpi, 0)]) ∧
  (
    ∀ (s : State) (hd : SpiHead) (ws : List Word) (cut : Bool) (x : Facts),
      s.calm →
      s.dev.linkUp = false →
      Yields (exec (.spiWrite hd ws cut x) s) fun t =>
        Kept s t s.dev [] [])

/-- On a link that is up. BATON_WRITE addressed to the device: the words stand in Coach SRAM and every other byte stays, the frame is
counted, and a unicast request leaves a response to be sent. BATON_READ and BATON_POLL leave the words read as the response.
BATON_RESPONSE and POLL_SLOT send it with its outcome; a late one (also BATON_RESP_TIMEOUT) has no data, counts, keeps the outcome
in LATE_STATUS, source 2. A Manchester violation or bad form counts a frame error with source 1, a bad CRC one of its own with
source 0; none has another effect. Nothing else changes. Readings and choices: notes/assumptions/5, 13, 38. -/
def Obligations.BatonRequestsAndResponses : Prop :=
  (
    ∀ (s : State) (f : BatonFrame) (x : Facts),
      s.calm →
      s.dev.linkUp = true →
      f.violation = false →
      f.crc = crc16 (batonBytes f) →
      batonForm 1 f = true →
      s.dev.batonReaches f.a.toNat = true →
      f.guest = false →
      0x00200000 ≤ f.addr.toNat ∧ f.addr.toNat + 64 ≤ 0x00300000 ∧ f.addr.toNat % 4 = 0 →
      f.a.toNat < 0x40 →
      Yields (exec (.batonWrite f x) s) fun t =>
        memWords t.mem f.addr.toNat f.data.length = f.data ∧
        (∀ a : Nat, (a < f.addr.toNat ∨ f.addr.toNat + 4 * f.data.length ≤ a) → memGet t.mem a = memGet s.mem a) ∧
        t.dev.baton = some ⟨f.tag.toNat, false, false, 0, []⟩ ∧
        t.dev.rd pBaton 0x058 = s.dev.rd pBaton 0x058 + 1 ∧
        Kept { s with mem := t.mem } t { s.dev with resp := t.dev.resp, baton := t.dev.baton } [(pBaton, 0x058)] []) ∧
  (
    ∀ (s : State) (f : BatonFrame),
      s.calm →
      s.dev.linkUp = true →
      f.violation = false →
      f.crc = crc16 (batonBytes f) →
      batonForm 2 f = true →
      s.dev.batonReaches f.a.toNat = true →
      f.guest = false →
      0x00200000 ≤ f.addr.toNat ∧ f.addr.toNat + 64 ≤ 0x00300000 ∧ f.addr.toNat % 4 = 0 →
      f.a.toNat < 0x40 →
      s.dev.ecc = [] →
      Yields (exec (.batonRead f) s) fun t =>
        t.dev.baton = some ⟨f.tag.toNat, false, false, 0, memWords s.mem f.addr.toNat (f.l.toNat + 1)⟩ ∧
        t.dev.rd pBaton 0x058 = s.dev.rd pBaton 0x058 + 1 ∧
        Kept s t { s.dev with resp := t.dev.resp, baton := t.dev.baton } [(pBaton, 0x058)] []) ∧
  (
    ∀ (s : State) (f : BatonFrame),
      s.calm →
      s.dev.linkUp = true →
      f.violation = false →
      f.crc = crc16 (batonBytes f) →
      batonForm 3 f = true →
      s.dev.batonReaches f.a.toNat = true →
      f.guest = false →
      0x00200000 ≤ f.addr.toNat ∧ f.addr.toNat + 64 ≤ 0x00300000 ∧ f.addr.toNat % 4 = 0 →
      s.dev.ecc = [] →
      Yields (exec (.batonPoll f) s) fun t =>
        t.dev.baton = some ⟨f.tag.toNat, decide (0x40 ≤ f.a.toNat), false, 0, [memWord s.mem f.addr.toNat]⟩ ∧
        t.dev.rd pBaton 0x058 = s.dev.rd pBaton 0x058 + 1 ∧
        Kept s t { s.dev with resp := t.dev.resp, baton := t.dev.baton } [(pBaton, 0x058)] []) ∧
  (
    ∀ (s : State) (f : BatonFrame),
      s.calm →
      s.dev.linkUp = true →
      f.violation = true ∨ (f.crc = crc16 (batonBytes f) ∧ batonForm 2 f = false) →
      s.dev.powered pBaton = true →
      Yields (exec (.batonRead f) s) fun t =>
        t.dev.rd pBaton 0x060 = s.dev.rd pBaton 0x060 + 1 ∧
        t.dev.evt pBaton 1 = true ∧
        Kept s t s.dev [(pBaton, 0x060)] [(pBaton, 1)]) ∧
  (
    ∀ (s : State) (f : BatonFrame) (x : Facts),
      s.calm →
      s.dev.linkUp = true →
      f.violation = false →
      f.crc ≠ crc16 (batonBytes f) →
      s.dev.powered pBaton = true →
      Yields (exec (.batonWrite f x) s) fun t =>
        t.dev.rd pBaton 0x05C = s.dev.rd pBaton 0x05C + 1 ∧
        t.dev.evt pBaton 0 = true ∧
        Kept s t s.dev [(pBaton, 0x05C)] [(pBaton, 0)]) ∧
  (
    ∀ (s : State) (q : BatonReq),
      s.calm →
      s.dev.linkUp = true →
      s.dev.baton = some q →
      q.poll = false →
      q.outcome ≤ 4 →
      Yields (exec .batonResponse s) fun t =>
        t.dev.baton = none ∧
        t.dev.rd pBaton 0x064 = s.dev.rd pBaton 0x064 + 1 ∧
        t.dev.rd pBaton 0x04C = t.dev.batonReply.status.zeroExtend 32 ∧
        t.dev.batonReply.status.getLsbD 7 = q.err ∧ t.dev.batonReply.status.getLsbD 6 = false ∧
        t.dev.batonReply.words = q.words ∧
        t.dev.batonReply.status.toNat % 8 = q.outcome ∧
        Kept s t { s.dev with baton := none, batonReply := t.dev.batonReply } (regsOf pBaton [0x04C, 0x064]) []) ∧
  (
    ∀ (s : State) (q : BatonReq),
      s.calm →
      s.dev.linkUp = true →
      s.dev.baton = some q →
      q.poll = false →
      q.outcome ≤ 4 →
      s.dev.powered pBaton = true →
      Yields (exec .batonRespTimeout s) fun t =>
        t.dev.baton = none ∧
        t.dev.rd pBaton 0x064 = s.dev.rd pBaton 0x064 + 1 ∧
        t.dev.rd pBaton 0x04C = t.dev.batonReply.status.zeroExtend 32 ∧
        t.dev.batonReply.status.getLsbD 7 = q.err ∧ t.dev.batonReply.status.getLsbD 6 = true ∧
        t.dev.batonReply.words = [] ∧ t.dev.batonReply.status.toNat % 8 = 0 ∧
        t.dev.rd pBaton 0x068 = s.dev.rd pBaton 0x068 + 1 ∧
        (t.dev.rd pBaton 0x054).toNat % 8 = q.outcome ∧
        t.dev.evt pBaton 2 = true ∧
        Kept s t { s.dev with baton := none, batonReply := t.dev.batonReply } (regsOf pBaton [0x04C, 0x064, 0x054, 0x068]) [(pBaton, 2)]) ∧
  (
    ∀ (s : State) (q : BatonReq),
      s.calm →
      s.dev.linkUp = true →
      s.dev.baton = some q →
      q.poll = true →
      q.outcome ≤ 4 →
      Yields (exec (.pollSlot false) s) fun t =>
        t.dev.baton = none ∧
        t.dev.rd pBaton 0x064 = s.dev.rd pBaton 0x064 + 1 ∧
        t.dev.rd pBaton 0x04C = t.dev.batonReply.status.zeroExtend 32 ∧
        t.dev.batonReply.status.getLsbD 7 = q.err ∧ t.dev.batonReply.status.getLsbD 6 = false ∧
        t.dev.batonReply.words = q.words ∧
        t.dev.batonReply.status.toNat % 8 = q.outcome ∧
        Kept s t { s.dev with baton := none, batonReply := t.dev.batonReply } (regsOf pBaton [0x04C, 0x064]) []) ∧
  (
    ∀ (s : State) (q : BatonReq),
      s.calm →
      s.dev.linkUp = true →
      s.dev.baton = some q →
      q.poll = true →
      q.outcome ≤ 4 →
      s.dev.powered pBaton = true →
      Yields (exec (.pollSlot true) s) fun t =>
        t.dev.baton = none ∧
        t.dev.rd pBaton 0x064 = s.dev.rd pBaton 0x064 + 1 ∧
        t.dev.rd pBaton 0x04C = t.dev.batonReply.status.zeroExtend 32 ∧
        t.dev.batonReply.status.getLsbD 7 = q.err ∧ t.dev.batonReply.status.getLsbD 6 = true ∧
        t.dev.batonReply.words = [] ∧ t.dev.batonReply.status.toNat % 8 = 0 ∧
        t.dev.rd pBaton 0x068 = s.dev.rd pBaton 0x068 + 1 ∧
        (t.dev.rd pBaton 0x054).toNat % 8 = q.outcome ∧
        t.dev.evt pBaton 2 = true ∧
        Kept s t { s.dev with baton := none, batonReply := t.dev.batonReply } (regsOf pBaton [0x04C, 0x064, 0x054, 0x068]) [(pBaton, 2)]) ∧
  (
    ∀ (s : State),
      s.calm →
      s.dev.baton = none →
      Yields (exec .batonResponse s) fun t =>
        Kept s t s.dev [] [])

/-- POWER_REQ while not busy stores REQ; for the present state the result is 1 at once; for another it starts the entry at group 1
with busy 1 and no refusal noted, or waits for a commit in progress, and POWER_REQ_DEFERRED_START then starts it; while busy
nothing happens. SLEEP_GROUP_RESPONSE: a group that can sleep passes the turn on; a capture in progress refuses at group 1 (result
2, its page and reason, source 1). The last group of an entry to IDLE: state, result 1, source 0, pages off, Squad and capture
memory lost. The last of an entry to DOZE: the save set stands in Timekeeper RAM, memories and pages are without power. Readings
and choices: notes/assumptions/12, 13, 14, 39. -/
def Obligations.PowerRequestsAndEntries : Prop :=
  (
    ∀ (s : State) (w : Who) (v : Word),
      s.calm →
      s.dev.takes w pPower 0x040 →
      s.dev.b pPower fPwBusy = false →
      (getBits (storeWord pPower 0x040 (s.dev.rd pPower 0x040) (setBits v 31 1 1)) 0 2) = s.dev.pwState →
      Yields (exec (.powerReq w v) s) fun t =>
        t.dev.rd pPower 0x040 = storeWord pPower 0x040 (s.dev.rd pPower 0x040) (setBits v 31 1 1) ∧
        t.dev.rd pPower 0x044 = setBits (s.dev.rd pPower 0x044) 4 3 1 ∧
        Kept s t s.dev.answered [(pPower, 0x040), (pPower, 0x044)] []) ∧
  (
    ∀ (s : State) (w : Who) (v : Word),
      s.calm →
      s.dev.takes w pPower 0x040 →
      s.dev.b pPower fPwBusy = false →
      (getBits (storeWord pPower 0x040 (s.dev.rd pPower 0x040) (setBits v 31 1 1)) 0 2) ≠ s.dev.pwState ∧
          (getBits (storeWord pPower 0x040 (s.dev.rd pPower 0x040) (setBits v 31 1 1)) 0 2) ≠ pwRun →
      s.dev.commit = .idle →
      Yields (exec (.powerReq w v) s) fun t =>
        t.dev.rd pPower 0x040 = storeWord pPower 0x040 (s.dev.rd pPower 0x040) (setBits v 31 1 1) ∧
        t.dev.b pPower fPwBusy = true ∧
        t.dev.g pPower fWhy = 0 ∧
        (∀ k < 4, t.dev.rd pPower (0x050 + 4 * k) = 0) ∧
        Kept s t ((s.dev.answered).updPower fun h => { h with entry := some ⟨(getBits (storeWord pPower 0x040 (s.dev.rd pPower 0x040) (setBits v 31 1 1)) 0 2), 1⟩, wake := none, deferred := none }) (regsOf pPower [0x040, 0x044, 0x050, 0x054, 0x058, 0x05C, 0x060]) []) ∧
  (
    ∀ (s : State) (w : Who) (v : Word),
      s.calm →
      s.dev.takes w pPower 0x040 →
      s.dev.b pPower fPwBusy = false →
      (getBits (storeWord pPower 0x040 (s.dev.rd pPower 0x040) (setBits v 31 1 1)) 0 2) ≠ s.dev.pwState →
      s.dev.commit ≠ .idle →
      Yields (exec (.powerReq w v) s) fun t =>
        t.dev.rd pPower 0x040 = storeWord pPower 0x040 (s.dev.rd pPower 0x040) (setBits v 31 1 1) ∧
        t.dev.rd pPower 0x044 = setBits (s.dev.rd pPower 0x044) 2 1 1 ∧
        Kept s t ((s.dev.answered).updPower fun h => { h with deferred := some (getBits (storeWord pPower 0x040 (s.dev.rd pPower 0x040) (setBits v 31 1 1)) 0 2) }) [(pPower, 0x040), (pPower, 0x044)] []) ∧
  (
    ∀ (s : State) (w : Who) (v : Word),
      s.calm →
      s.dev.takes w pPower 0x040 →
      s.dev.b pPower fPwBusy = true →
      Yields (exec (.powerReq w v) s) fun t =>
        Kept s t s.dev.answered [] []) ∧
  (
    ∀ (s : State) (x : Nat),
      s.calm →
      s.dev.commit = .idle →
      s.dev.power.deferred = some x →
      x ≠ pwRun →
      Yields (exec .powerReqDeferredStart s) fun t =>
        t.dev.b pPower fPwBusy = true ∧
        t.dev.g pPower fWhy = 0 ∧
        (∀ k < 4, t.dev.rd pPower (0x050 + 4 * k) = 0) ∧
        Kept s t ((s.dev).updPower fun h => { h with entry := some ⟨x, 1⟩, wake := none, deferred := none }) (regsOf pPower [0x040, 0x044,
            0x050, 0x054, 0x058, 0x05C, 0x060]) []) ∧
  (
    ∀ (s : State),
      s.calm →
      s.dev.commit ≠ .idle ∨ s.dev.power.deferred = none →
      Yields (exec .powerReqDeferredStart s) fun t =>
        Kept s t s.dev [] []) ∧
  (
    ∀ (s : State) (x k : Nat),
      s.calm →
      s.dev.power.entry = some ⟨x, k⟩ →
      (s.dev.refusals k).1 = [] →
      x = pwIdle ∧ k < 4 ∨ x = pwDoze ∧ k < 6 →
      Yields (exec .sleepGroupResponse s) fun t =>
        Kept s t ((s.dev).updPower fun h => { h with entry := some ⟨x, k + 1⟩ }) [] []) ∧
  (
    ∀ (s : State) (x : Nat),
      s.calm →
      s.dev.power.entry = some ⟨x, 1⟩ →
      s.dev.g 0x12 fCapState = 2 →
      s.dev.powered pPower = true →
      Yields (exec .sleepGroupResponse s) fun t =>
        t.dev.g pPower fWhy = 2 ∧
        t.dev.g pPower fPwResult = 2 ∧
        t.dev.b pPower fPwBusy = false ∧
        t.dev.evt pPower 1 = true ∧
        t.dev.rd pPower 0x050 = s.dev.rd pPower 0x050 ||| BitVec.twoPow 32 18 ∧
        Kept s t ((s.dev).updPower fun h => { h with entry := none, wake := none }) (regsOf pPower [0x044, 0x050, 0x060]) [(pPower, 1)]) ∧
  (
    ∀ (s : State),
      s.calm →
      s.dev.power.entry = some ⟨pwIdle, 4⟩ →
      s.dev.powered pPower = true →
      Yields (exec .sleepGroupResponse s) fun t =>
        t.dev.pwState = pwIdle ∧
        t.dev.g pPower fPwResult = 1 ∧
        t.dev.b pPower fPwBusy = false ∧
        t.dev.evt pPower 0 = true ∧
        t.dev.offPages = idlePages ∧
        t.dev.power.entry = none ∧
        (∀ n : Lane, t.dev.laneState n = stOff ∧ t.dev.txState n = txOff ∧ t.dev.hostState n = stOff ∧ t.dev.htxState n = htOff) ∧
        (∀ n : Sq, t.dev.sqState n = sqOff) ∧
        (∀ a : Nat, memGet t.mem a = (if (0x00400000 ≤ a ∧ a < 0x00600000) ∨ (0x01000000 ≤ a ∧
            a < 0x02000000) then 0 else memGet s.mem a)) ∧
        t.dev.tk = s.dev.tk ∧ t.dev.coachUp = s.dev.coachUp ∧ t.pending = s.pending) ∧
  (
    ∀ (s : State),
      s.calm →
      s.dev.power.entry = some ⟨pwDoze, 6⟩ →
      s.dev.nvm.op = none ∧ s.dev.nvm.lc = none →
      Yields (exec .sleepGroupResponse s) fun t =>
        t.dev.pwState = pwDoze ∧
        t.dev.offPages = dozePages ∧
        t.saveCheck = some s.dev.saveBody ∧
        (∀ a : Nat, memGet t.mem a = (if (0x00200000 ≤ a ∧ a < 0x00300000) ∨ (0x00400000 ≤ a ∧ a < 0x00600000) ∨ (0x01000000 ≤ a ∧
            a < 0x02000000) then 0 else if 0x02000000 ≤ a ∧ a < 0x02000000 + 4 * 1698 then memGet t.mem a else memGet s.mem a)) ∧
        t.dev.tk = s.dev.tk ∧ t.dev.coachUp = false ∧ t.pending = s.pending ∧
        (∀ o < 4096, o ≠ 0x010 → t.dev.rd pTk o = s.dev.rd pTk o) ∧
        t.dev.power.wake = s.dev.power.wake ∧
        t.dev.tap = .idcode)

/-- BATON_ACTIVITY_WAKE and CS_N_WAKE under policy ANY where enabled and VIO is not low, and a STARTING_CALL whose lead and parity
count and whose address reaches the device, latch their source in DOZE or during an entry to it, unless one is held. WAKE in DOZE
with a latched source counts, records cause and time, and starts the wake. WAKE_RESTORE: the management domain runs, result 3 with
source 2; a valid save set is applied and marked used; without one save_bad and source 3. LANE_RESTORE_RELEASE enables a held lane
once its Squad runs. Readings and choices: notes/assumptions/13, 14, 39. -/
def Obligations.WakingFromDoze : Prop :=
  (
    ∀ (s : State),
      s.calm →
      Yields (exec .batonActivityWake s) fun t =>
        t.dev.power.wake = (if s.dev.b pTk fBatonWake = true ∧ s.dev.g pTk fWakePolicy = 0 ∧
            s.dev.b pTk fVioLow = false then (if (s.dev.power.entry.map (·.target) = some pwDoze ∨ (s.dev.pwState = pwDoze ∧
            s.dev.power.waking = false)) ∧ s.dev.power.wake = none then some 1 else s.dev.power.wake) else s.dev.power.wake) ∧
        Kept s t ((s.dev).updPower fun h => { h with wake := t.dev.power.wake }) [] []) ∧
  (
    ∀ (s : State),
      s.calm →
      Yields (exec .csNWake s) fun t =>
        t.dev.power.wake = (if s.dev.b pTk fSpiWake = true ∧ s.dev.g pTk fWakePolicy = 0 ∧
            s.dev.b pTk fVioLow = false then (if (s.dev.power.entry.map (·.target) = some pwDoze ∨ (s.dev.pwState = pwDoze ∧
            s.dev.power.waking = false)) ∧ s.dev.power.wake = none then some 2 else s.dev.power.wake) else s.dev.power.wake) ∧
        Kept s t ((s.dev).updPower fun h => { h with wake := t.dev.power.wake }) [] []) ∧
  (
    ∀ (s : State) (lead : Nat) (cells : List Nat),
      s.calm →
      Yields (exec (.startingCall lead cells) s) fun t =>
        t.dev.power.wake = (if s.dev.b pTk fVioLow = false ∧
            (∃ a ∈ (callAddress lead cells).toList, s.dev.batonReaches a = true) then (if (s.dev.power.entry.map (·.target) = some pwDoze ∨
            (s.dev.pwState = pwDoze ∧ s.dev.power.waking = false)) ∧
            s.dev.power.wake = none then some 3 else s.dev.power.wake) else s.dev.power.wake) ∧
        Kept s t ((s.dev).updPower fun h => { h with wake := t.dev.power.wake }) [] []) ∧
  (
    ∀ (s : State) (x : Nat),
      s.calm →
      s.dev.power.wake = some x →
      s.dev.pwState = pwDoze →
      s.dev.power.waking = false →
      Yields (exec .wake s) fun t =>
        t.dev.g pTk ⟨0x064, 16, 16⟩ = (s.dev.g pTk ⟨0x064, 16, 16⟩ + 1) % 65536 ∧
        t.dev.g pTk ⟨0x064, 0, 3⟩ = x % 8 ∧
        t.dev.rd64 pTk 0x068 = s.dev.tk ∧
        Kept s t ((s.dev).updPower fun h => { h with wake := none, waking := true }) (regsOf pTk [0x064, 0x068, 0x06C]) []) ∧
  (
    ∀ (s : State),
      s.calm →
      s.dev.power.waking = true →
      s.saveCheck = none →
      s.dev.trip = false →
      Yields (exec .wakeRestore s) fun t =>
        t.dev.life = .on ∧ t.dev.power.waking = false ∧
        t.dev.pwState = pwRun ∧
        t.dev.g pPower fPwResult = 3 ∧
        t.dev.b pPower fSaveBad = true ∧
        t.dev.evt pPower 2 = true ∧ t.dev.evt pPower 3 = true ∧
        t.dev.boot.phase = .rom ∧ t.dev.coachUp = false ∧
        (∀ o < 4096, o ≠ 0x010 → t.dev.rd pTk o = s.dev.rd pTk o) ∧
        t.dev.tk = s.dev.tk ∧ t.mem = s.mem ∧ t.pending = s.pending) ∧
  (
    ∀ (s : State) (l : List Word),
      s.calm →
      s.dev.power.waking = true →
      s.saveCheck = some l →
      s.dev.trip = false →
      Yields (exec .wakeRestore s) fun t =>
        t.dev.life = .on ∧ t.dev.power.waking = false ∧
        t.dev.g pPower fPwResult = 3 ∧
        t.dev.b pPower fSaveBad = false ∧
        t.dev.evt pPower 2 = true ∧
        t.word tkRamBase = saveUsed ∧
        t.dev.boot.restored = true ∧ t.dev.boot.phase = .rom ∧
        (∀ i < 1200, saveRegs[i]? = some (0x06, 0x044) → t.dev.lrd 0x06 0x044 = l.getD i 0) ∧
        (∀ i < 1200, saveRegs[i]? = some (0x01, 0x040) → t.dev.lrd 0x01 0x040 = l.getD i 0) ∧
        (∀ a : Nat, (a < tkRamBase ∨ tkRamBase + 4 ≤ a) → memGet t.mem a = memGet s.mem a) ∧
        t.dev.tk = s.dev.tk ∧ t.pending = s.pending) ∧
  (
    ∀ (s : State) (n : Lane),
      s.calm →
      s.dev.power.held.getLsbD n.val = true →
      s.dev.sqRuns (lineSq n) = true →
      s.dev.b (pLrx n) fLrxEn = true ∧ s.dev.b (pLtx n) fLtxEn = false →
      s.dev.laneState n = stOff →
      Yields (exec (.laneRestoreRelease .line n) s) fun t =>
        t.dev.laneState n = stSeek ∧
        t.dev.b (pLrx n) fLrxSigDet = (s.dev.lg (pLrx n) fLoopback == 2) ∧
        Kept s t ((s.dev).updPower fun h => { h with held := h.held &&& ~~~ BitVec.twoPow 16 n.val }) [(pLrx n, 0x044)] []) ∧
  (
    ∀ (s : State) (sd : Side) (n : Lane),
      s.calm →
      s.dev.power.held.getLsbD (match sd with | .line => n.val | .host => 8 + n.val) = false ∨ s.dev.sqRuns (match sd with | .line => lineSq n | .host => hostSq n) = false →
      Yields (exec (.laneRestoreRelease sd n) s) fun t =>
        Kept s t s.dev [] [])

/-- ALARM_WRITE sets ALARM and arms it. ALARM with TK_TIME at or past an armed ALARM disarms it, raises source 4 and wakes from DOZE;
otherwise nothing. XTAL_FAIL: the domain runs on its RC, xtal_ok clears, source 0. XTAL_OK: xtal_ok, source 1, and with revert the
crystal again. VIO_LOW and VIO_OK set and clear the VIO bit with sources 2 and 3 on a change. In reset the registers follow and
only EVT_STATUS notes the event. Nothing else changes. Readings and choices: notes/assumptions/13, 14, 39. -/
def Obligations.TimekeeperEvents : Prop :=
  (
    ∀ (s : State) (w : Who) (v : Word),
      s.calm →
      s.dev.takes w pTk 0x05C →
      Yields (exec (.alarmWrite w v) s) fun t =>
        t.dev.rd64 pTk 0x058 = Long.ofWords ((s.dev.heldLo w (regAddr pTk 0x058)).getD (s.dev.rd pTk 0x058)) v ∧
        t.dev.rd pTk 0x060 = setBits (s.dev.rd pTk 0x060) 0 1 1 ∧
        t.dev.heldLo w (regAddr pTk 0x058) = none ∧
        Kept s t { s.dev.answered with wideW := t.dev.wideW } [(pTk, 0x058), (pTk, 0x05C), (pTk, 0x060)] []) ∧
  (
    ∀ (s : State),
      s.calm →
      s.dev.b pTk fArmed = true →
      (s.dev.rd64 pTk 0x058).toNat ≤ s.dev.tk.toNat →
      s.dev.powered pTk = true →
      Yields (exec .alarm s) fun t =>
        t.dev.rd pTk 0x060 = setBits (s.dev.rd pTk 0x060) 0 1 0 ∧
        t.dev.evt pTk 4 = true ∧
        t.dev.power.wake = (if (s.dev.power.entry.map (·.target) = some pwDoze ∨ (s.dev.pwState = pwDoze ∧ s.dev.power.waking = false)) ∧
            s.dev.power.wake = none then some 4 else s.dev.power.wake) ∧
        Kept s t ((s.dev).updPower fun h => { h with wake := t.dev.power.wake }) [(pTk, 0x060)] [(pTk, 4)]) ∧
  (
    ∀ (s : State),
      s.calm →
      s.dev.b pTk fArmed = false ∨ s.dev.tk.toNat < (s.dev.rd64 pTk 0x058).toNat →
      Yields (exec .alarm s) fun t =>
        Kept s t s.dev [] []) ∧
  (
    ∀ (s : State),
      s.calm →
      s.dev.b pTk fTkRc = false →
      s.dev.powered pTk = true →
      Yields (exec .xtalFail s) fun t =>
        t.dev.rd pTk 0x044 = setBits (setBits (s.dev.rd pTk 0x044) 0 1 1) 1 1 0 ∧
        t.dev.evt pTk 0 = true ∧
        Kept s t s.dev [(pTk, 0x044)] [(pTk, 0)]) ∧
  (
    ∀ (s : State),
      s.calm →
      s.dev.b pTk fTkRc = true →
      Yields (exec .xtalFail s) fun t =>
        t.dev.rd pTk 0x044 = setBits (s.dev.rd pTk 0x044) 1 1 0 ∧
        Kept s t s.dev [(pTk, 0x044)] []) ∧
  (
    ∀ (s : State),
      s.calm →
      s.dev.powered pTk = true →
      Yields (exec .xtalOk s) fun t =>
        t.dev.b pTk fXtalOk = true ∧
        t.dev.b pTk fTkRc = (s.dev.b pTk fTkRc && !s.dev.b pTk ⟨0x040, 0, 1⟩) ∧
        t.dev.b pTk fVioLow = s.dev.b pTk fVioLow ∧
        t.dev.evt pTk 1 = true ∧
        Kept s t s.dev [(pTk, 0x044)] [(pTk, 1)]) ∧
  (
    ∀ (s : State),
      s.calm →
      s.dev.powered pTk = true →
      Yields (exec .vioLow s) fun t =>
        t.dev.rd pTk 0x044 = setBits (s.dev.rd pTk 0x044) 2 1 1 ∧
        t.dev.evt pTk 2 = (s.dev.evt pTk 2 || !s.dev.b pTk fVioLow) ∧
        Kept s t s.dev [(pTk, 0x044)] [(pTk, 2)]) ∧
  (
    ∀ (s : State),
      s.calm →
      s.dev.powered pTk = true →
      Yields (exec .vioOk s) fun t =>
        t.dev.rd pTk 0x044 = setBits (s.dev.rd pTk 0x044) 2 1 0 ∧
        t.dev.evt pTk 3 = (s.dev.evt pTk 3 || s.dev.b pTk fVioLow) ∧
        Kept s t s.dev [(pTk, 0x044)] [(pTk, 3)]) ∧
  (
    ∀ (s : State),
      s.dev.life = .held →
      s.dev.b pTk fTkRc = false →
      Yields (exec .xtalFail s) fun t =>
        t.dev.rd pTk 0x044 = setBits (setBits (s.dev.rd pTk 0x044) 0 1 1) 1 1 0 ∧
        t.dev.rd pTk 0x010 = s.dev.rd pTk 0x010 ||| 1 ∧
        t.dev.ref = s.dev.ref ∧ t.dev.life = .held ∧ t.dev.tk = s.dev.tk ∧ t.mem = s.mem) ∧
  (
    ∀ (s : State),
      s.dev.life = .held →
      s.dev.b pTk fVioLow = false →
      Yields (exec .vioLow s) fun t =>
        t.dev.b pTk fVioLow = true ∧
        t.dev.rd pTk 0x010 = s.dev.rd pTk 0x010 ||| 4 ∧
        t.dev.ref = s.dev.ref ∧ t.dev.life = .held ∧ t.dev.tk = s.dev.tk ∧ t.mem = s.mem)

/-- RESET_ASSERT returns every page but TIMEKEEPER and SECURITY.ATT_CNT to its reset values and everything beside the registers to its
reset state; TK_TIME, the OTP and the boot facts of R401 and R408 stay; by RESET_N (cause 2) all memories stay, by PWRGOOD (cause
1) Coach SRAM, the capture buffer and the Squad memories are lost. RESET_RELEASE of a held device runs the boot ROM with BOOT_SEL,
BTN_ADDR, the boot cause, life cycle, key status and rollback count of the OTP; memories and TK_TIME stay. RAIL_FAULT of a running
device leaves its state undefined. VAON_LOSS leaves nothing but flash and OTP. VAON_POWER_UP holds the device in reset with the
Timekeeper on its RC. A supply event that meets another condition changes nothing. What OTP, boot facts and memories keep follows
notes/assumptions. Readings and choices: notes/assumptions/2, 3, 12, 40. -/
def Obligations.ResetAndSupplies : Prop :=
  (
    ∀ (s : State),
      s.dev.life = .on ∨ s.dev.life = .undefined →
      s.dev.b pTrial fTrBusy = false →
      s.dev.dozing = false →
      Yields (exec (.resetAssert false) s) fun t =>
        t.dev.life = .held ∧
        (∀ p < 256, ∀ off < 4096, p ≠ pTk → ¬ (p = pSec ∧ off = 0x080) → t.dev.rd p off = resetWord p off) ∧
        (∀ off < 4096, t.dev.rd pTk off = s.dev.rd pTk off) ∧
        t.dev.rd pSec 0x080 = s.dev.rd pSec 0x080 ∧
        t.dev = { Dev.reset with regs := t.dev.regs, ecc := t.dev.ecc, tk := s.dev.tk, free := s.dev.free, clrLow := s.dev.clrLow, tap := s.dev.tap, boot := { Dev.reset.boot with cause := 2, before := s.dev.boot.before, cancel := s.dev.boot.before.isSome, failed := s.dev.boot.failed, advance := s.dev.boot.advance, revoke := s.dev.boot.revoke }, nvm := { Dev.reset.nvm with otp := s.dev.nvm.otp } } ∧
        t.pending = s.pending ∧
        t.mem = s.mem) ∧
  (
    ∀ (s : State),
      s.dev.life = .on ∨ s.dev.life = .undefined →
      s.dev.b pTrial fTrBusy = false →
      s.dev.dozing = false →
      Yields (exec (.resetAssert true) s) fun t =>
        t.dev.life = .held ∧
        (∀ p < 256, ∀ off < 4096, p ≠ pTk → ¬ (p = pSec ∧ off = 0x080) → t.dev.rd p off = resetWord p off) ∧
        (∀ off < 4096, t.dev.rd pTk off = s.dev.rd pTk off) ∧
        t.dev.rd pSec 0x080 = s.dev.rd pSec 0x080 ∧
        t.dev = { Dev.reset with regs := t.dev.regs, ecc := t.dev.ecc, tk := s.dev.tk, free := s.dev.free, clrLow := s.dev.clrLow, tap := s.dev.tap, boot := { Dev.reset.boot with cause := 1, before := s.dev.boot.before, cancel := s.dev.boot.before.isSome, failed := s.dev.boot.failed, advance := s.dev.boot.advance, revoke := s.dev.boot.revoke }, nvm := { Dev.reset.nvm with otp := s.dev.nvm.otp } } ∧
        t.pending = s.pending ∧
        (∀ a : Nat, memGet t.mem a = (if (0x00200000 ≤ a ∧ a < 0x00300000) ∨ (0x00400000 ≤ a ∧ a < 0x00600000) ∨ (0x01000000 ≤ a ∧
            a < 0x02000000) then 0 else memGet s.mem a))) ∧
  (
    ∀ (s : State) (x : Bool),
      s.dev.life = .unpowered ∨ (s.dev.life = .held ∧ (x = false ∨ s.dev.boot.cause = 1 ∨ s.dev.boot.cause = 0)) →
      Yields (exec (.resetAssert x) s) fun t =>
        t = s) ∧
  (
    ∀ (s : State) (sel : Fin 4) (addr : Fin 64),
      s.dev.life = .held →
      s.dev.offPages = [] →
      s.dev.b pTrial fTrBusy = false →
      Yields (exec (.resetRelease sel addr) s) fun t =>
        t.dev.life = .on ∧ t.dev.boot = { s.dev.boot with phase := .rom } ∧
        t.dev.g pBoot fBootSel = sel.val ∧
        t.dev.g 0x0D ⟨0x040, 0, 7⟩ = addr.val ∧
        t.dev.g pBoot ⟨0x044, 24, 4⟩ = s.dev.boot.cause % 16 ∧
        t.dev.g pSec fLc = lcOf (s.dev.otp 16) ∧
        t.dev.rd pSec 0x044 = s.dev.otp 19 &&& 0xFF ∧
        (t.dev.rd pSec 0x048).toNat = s.dev.rbBits ∧
        t.dev.rd pSec 0x050 = s.dev.otp 17 ∧ t.dev.rd pSec 0x054 = s.dev.otp 18 ∧
        (∀ n : Lane, t.dev.b (pLtx n) (fSq sqClr) = s.dev.clrLow) ∧
        (∀ off < 4096, off ≠ 0x010 → t.dev.rd pTk off = s.dev.rd pTk off) ∧
        t.dev.faultN = t.dev.faultCause ∧
        t.dev.tk = s.dev.tk ∧ t.dev.nvm = s.dev.nvm ∧ t.mem = s.mem ∧ t.pending = s.pending) ∧
  (
    ∀ (s : State) (sel : Fin 4) (addr : Fin 64),
      s.dev.life ≠ .held →
      Yields (exec (.resetRelease sel addr) s) fun t =>
        t = s) ∧
  (
    ∀ (s : State),
      Yields (exec .railFault s) fun t =>
        t = (if s.dev.life = .on then { s with dev := { s.dev with life := .undefined } } else s)) ∧
  (
    ∀ (s : State),
      Yields (exec .vaonLoss s) fun t =>
        t.dev.life = .unpowered ∧ t.dev.tk = 0 ∧ t.dev.coachUp = false ∧
        (∀ p < 256, ∀ off < 4096, t.dev.rd p off = resetWord p off) ∧
        t.dev.nvm.otp = s.dev.nvm.otp ∧
        t.dev.boot.before = none ∧ t.dev.boot.cancel = false ∧ t.dev.boot.failed = none ∧
        (∀ a : Nat, memGet t.mem a = (if (0x00200000 ≤ a ∧ a < 0x00300000) ∨ (0x00400000 ≤ a ∧ a < 0x00600000) ∨ (0x01000000 ≤ a ∧
            a < 0x02000000) ∨ (0x02000000 ≤ a ∧ a < 0x02002000) then 0 else memGet s.mem a)) ∧
        t.pending = s.pending) ∧
  (
    ∀ (s : State),
      s.dev.life = .unpowered →
      Yields (exec .vaonPowerUp s) fun t =>
        t.dev.rd pTk 0x044 = setBits (s.dev.rd pTk 0x044) 0 1 1 ∧
        (∀ p < 256, ∀ off < 4096, (p, off) ≠ (pTk, 0x044) → t.dev.rd p off = s.dev.rd p off) ∧
        t = { s with dev := { s.dev with life := .held, regs := t.dev.regs, ecc := t.dev.ecc } }) ∧
  (
    ∀ (s : State),
      s.dev.life ≠ .unpowered →
      Yields (exec .vaonPowerUp s) fun t =>
        t = s)

/-- BOOT_ATTEMPT, with a host-load source and nothing to cancel: to Walk mode with the reason of R410, to the wait of R403, and with
the flash source, an empty journal and both slots unreadable, attempt n + 1 fails with cause 7, its ATTEMPT record standing in the
journal. HOST_LOAD by the right master starts an attempt that verifies in place: good, the firmware starts; bad, it fails with
that cause; another master is DENIED. BOOT_GOOD by the Coach for started firmware: BOOT_TRY 0, mode 1, boot_good, Coach running;
another master is DENIED. BOOT_WATCHDOG fails a started attempt with cause 6. WALK_EXIT in Walk mode with reason 1, 2 or 5
restarts the device with cause 4 and BOOT_TRY 0, with 3 or 4 nothing. Readings and choices: notes/assumptions/13, 14, 40, 41. -/
def Obligations.BootSequence : Prop :=
  (
    ∀ (s : State) (bad : List (Fin 2)) (jb : Bool),
      s.calm →
      s.dev.boot.phase ≠ .rom →
      Yields (exec (.bootAttempt bad jb) s) fun t =>
        Kept s t s.dev [] []) ∧
  (
    ∀ (s : State) (bad : List (Fin 2)) (jb : Bool) (r : Nat),
      s.calm →
      s.dev.boot.phase = .rom →
      s.dev.boot.cancel = false →
      s.dev.g pBoot fBootSel ≠ 0 →
      s.dev.powered pBoot = true →
      ((s.dev.g pSec fLc = 0 ∧ r = 3) ∨ (s.dev.g pSec fLc = 4 ∧ r = 4) ∨ ((1 ≤ s.dev.g pSec fLc ∧ s.dev.g pSec fLc ≤ 3) ∧
          s.dev.g pBoot fBootSel = 3 ∧ r = 1) ∨ ((1 ≤ s.dev.g pSec fLc ∧ s.dev.g pSec fLc ≤ 3) ∧ s.dev.g pBoot fBootSel ≠ 3 ∧
          3 ≤ s.dev.g pTk fBootTry ∧ r = 2)) →
      Yields (exec (.bootAttempt bad jb) s) fun t =>
        t.dev.g pBoot fBootMode = mWalk ∧
        getBits (t.dev.rd pBoot 0x048) 0 8 = r ∧ getBits (t.dev.rd pBoot 0x048) 8 8 = getBits (s.dev.rd pBoot 0x04C) 0 8 ∧
        t.dev.boot = { s.dev.boot with phase := .idle } ∧
        t.dev.coachUp = false ∧
        (∀ p, p < 0x80 → (t.dev.powered p = true ↔ p ∈ walkPages ∨ (kindOf p).isNone)) ∧
        (∀ n : Lane, t.dev.b (pLtx n) (fSq sqWalk) = true ∧ t.dev.b (pHtx n) (fHtxSq 1) = true ∧ t.dev.laneState n = stOff ∧
            t.dev.hostState n = stOff) ∧
        (∀ n : Sq, t.dev.sqState n = sqOff) ∧
        t.mem = s.mem ∧ t.pending = s.pending ∧ t.dev.tk = s.dev.tk) ∧
  (
    ∀ (s : State) (bad : List (Fin 2)) (jb : Bool),
      s.calm →
      s.dev.boot.phase = .rom →
      s.dev.boot.cancel = false →
      s.dev.g pBoot fBootSel = 1 ∨ s.dev.g pBoot fBootSel = 2 →
      (1 ≤ s.dev.g pSec fLc ∧ s.dev.g pSec fLc ≤ 3) →
      s.dev.g pTk fBootTry < 3 →
      Yields (exec (.bootAttempt bad jb) s) fun t =>
        t.dev.rd pBoot 0x044 = setBits (s.dev.rd pBoot 0x044) 0 2 mHostLoad ∧
        Kept s t { s.dev with boot := { s.dev.boot with phase := .idle } } [(pBoot, 0x044)] []) ∧
  (
    ∀ (s : State) (bad : List (Fin 2)) (jb : Bool) (k : Nat),
      s.calm →
      s.dev.boot.phase = .rom →
      s.dev.boot.cancel = false →
      s.dev.boot.failed = none →
      s.dev.g pBoot fBootSel = 0 →
      (1 ≤ s.dev.g pSec fLc ∧ s.dev.g pSec fLc ≤ 3) →
      s.dev.keyUsable 0 = true →
      s.dev.g pTk fBootTry + 1 = k ∧ k ≤ 3 →
      s.dev.rd pBoot 0x04C ≠ 0 →
      jrnlRecords s.mem = [] →
      (∀ j < 16, memGet s.mem (journalBase + j) = 0xFF) →
      s.dev.b 0x06 fFlashWindow = true →
      s.dev.powered pBoot = true ∧ s.dev.powered pSec = true →
      0 ∈ bad ∧ 1 ∈ bad →
      jb = false →
      s.dev.coachUp = false ∨ s.dev.coachUp = true →
      Yields (exec (.bootAttempt bad jb) s) fun t =>
        t.dev.g pTk fBootTry = k ∧
        t.dev.g pBoot fTries = k ∧
        t.dev.g pBoot fBootMode = mBooting ∧
        t.dev.rd pBoot 0x04C =
            BitVec.ofNat 32 (getBits (s.dev.rd pBoot 0x04C) 8 8 * 2 ^ 16 + getBits (s.dev.rd pBoot 0x04C) 0 8 * 2 ^ 8 + 7) ∧
        t.dev.evt pBoot 1 = true ∧ t.dev.evt pSec 0 = true ∧
        t.dev.boot = { s.dev.boot with before := none, failed := some ⟨1 - (if k % 2 = 1 then s.dev.g pBoot fActive else 1 - s.dev.g pBoot fActive), k, 7⟩ } ∧
        memBytes t.mem journalBase 16 = jrnlBytes jAttempt (if k % 2 =
            1 then s.dev.g pBoot fActive else 1 - s.dev.g pBoot fActive) k 0 1 s.dev.tk ∧
        (∀ a : Nat, a < journalBase ∨ journalBase + 16 ≤ a → memGet t.mem a = memGet s.mem a) ∧
        Kept { s with mem := t.mem } t { s.dev with boot := t.dev.boot } [(pTk, 0x070), (pBoot, 0x044), (pBoot, 0x04C)] [(pBoot, 1), (pSec,
            0)]) ∧
  (
    ∀ (s : State) (w : Who),
      s.calm →
      s.dev.takes w pBoot 0x050 →
      s.dev.g pBoot fBootSel = w.mid.val ∧ (w.mid.val = 1 ∨ w.mid.val = 2) →
      s.dev.g pBoot fBootMode = mHostLoad →
      s.dev.powered pBoot = true ∧ s.dev.powered pSec = true →
      Yields (exec (.hostLoad w) s) fun t =>
        t.dev.g pTk fBootTry = (s.dev.g pTk fBootTry + 1) % 16 ∧
        t.dev.g pBoot fBootMode = mBooting ∧
        t.dev.resp = ⟨.ok, []⟩ ∧ t.mem = s.mem ∧ t.pending = s.pending ∧
        (s.verify sramPackage = 0 →
            t.dev.boot = { s.dev.boot with phase := .started .attempt, before := some (s.dev.g pTk fBootTry), failed := none, manifest := memBytes s.mem sramPackage manifestBytes, fwLen := segLen (memBytes s.mem sramPackage manifestBytes) 0 } ∧ t.dev.g pBoot fRunning = 0 ∧ t.dev.rd64 pBoot 0x060 = pkgVersion (memBytes s.mem sramPackage manifestBytes)) ∧
        (s.verify sramPackage ≠ 0 →
            t.dev.rd pBoot 0x04C =
            BitVec.ofNat 32 (getBits (s.dev.rd pBoot 0x04C) 8 8 * 2 ^ 16 + getBits (s.dev.rd pBoot 0x04C) 0 8 * 2 ^ 8 + (s.verify sramPackage)) ∧ t.dev.evt pBoot 1 = true ∧ t.dev.evt pSec 0 = true ∧ t.dev.boot = { s.dev.boot with phase := .rom, before := none, failed := some ⟨0, s.dev.g pTk fBootTry + 1, s.verify sramPackage⟩ }) ∧
        Kept s t { s.dev.answered with boot := t.dev.boot } [(pTk, 0x070), (pBoot, 0x044), (pBoot, 0x04C), (pBoot, 0x060), (pBoot,
            0x064)] [(pBoot, 1), (pSec, 0)]) ∧
  (
    ∀ (s : State) (w : Who),
      s.calm →
      s.dev.g pBoot fBootSel ≠ w.mid.val ∨ w.mid.val = 0 ∨ 3 ≤ w.mid.val →
      Yields (exec (.hostLoad w) s) fun t =>
        t.dev.resp = ⟨.denied, []⟩ ∧
        Kept s t { s.dev with resp := t.dev.resp } [] []) ∧
  (
    ∀ (s : State) (w : Who) (jb : Bool),
      s.calm →
      s.dev.takes w pBoot 0x040 →
      w.mid.val = 0 →
      s.dev.boot.phase = .started .restart →
      Yields (exec (.bootGood w jb) s) fun t =>
        Kept s t { s.dev.answered with boot := { s.dev.boot with phase := .idle }, coachUp := true } [] []) ∧
  (
    ∀ (s : State) (w : Who) (jb : Bool),
      s.calm →
      s.dev.takes w pBoot 0x040 →
      w.mid.val = 0 →
      s.dev.boot.phase = .started .attempt →
      s.dev.g pBoot fBootSel ≠ 0 →
      Yields (exec (.bootGood w jb) s) fun t =>
        t.dev.coachUp = true ∧ t.dev.boot.phase = .idle ∧ t.dev.boot.before = none ∧ t.dev.boot.failed = none ∧
        t.dev.g pTk fBootTry = 0 ∧
        t.dev.g pBoot fBootMode = mRunning ∧
        t.dev.evt pBoot 0 = true ∧
        (∀ n : Lane, t.dev.b (pLtx n) (fSq sqWalk) = false ∧ t.dev.b (pHtx n) (fHtxSq 1) = false) ∧
        t.dev.resp = ⟨.ok, []⟩ ∧ t.mem = s.mem ∧ t.pending = s.pending ∧ t.dev.tk = s.dev.tk) ∧
  (
    ∀ (s : State) (w : Who) (jb : Bool),
      s.calm →
      w.mid.val ≠ 0 →
      Yields (exec (.bootGood w jb) s) fun t =>
        t.dev.resp = ⟨.denied, []⟩ ∧
        Kept s t { s.dev with resp := t.dev.resp } [] []) ∧
  (
    ∀ (s : State) (bad : List (Fin 2)),
      s.calm →
      s.dev.boot.phase = .started .attempt →
      s.dev.powered pBoot = true →
      Yields (exec (.bootWatchdog bad) s) fun t =>
        t.dev.coachUp = false ∧
        t.dev.boot = { s.dev.boot with phase := .rom, before := none, failed := some ⟨s.dev.g pBoot fRunning, s.dev.g pBoot fTries, 6⟩ } ∧
        t.dev.rd pBoot 0x04C =
            BitVec.ofNat 32 (getBits (s.dev.rd pBoot 0x04C) 8 8 * 2 ^ 16 + getBits (s.dev.rd pBoot 0x04C) 0 8 * 2 ^ 8 + 6) ∧
        t.dev.g pBoot fBootMode = mBooting ∧
        t.dev.evt pBoot 1 = true ∧
        (∀ i < 32, t.dev.g pLocks (fOwn i) = (if s.dev.g pLocks (fOwn i) = 1 then 0 else s.dev.g pLocks (fOwn i))) ∧
        (∀ c < 16, s.dev.g pMbox (fChRx c) = 0 → t.dev.b pMbox (fChFull c) = false) ∧
        t.mem = s.mem ∧ t.pending = s.pending) ∧
  (
    ∀ (s : State) (bad : List (Fin 2)),
      s.calm →
      s.dev.boot.phase = .idle ∨ s.dev.boot.phase = .rom →
      Yields (exec (.bootWatchdog bad) s) fun t =>
        Kept s t s.dev [] []) ∧
  (
    ∀ (s : State) (w : Who) (jb : Bool),
      s.calm →
      s.dev.takes w pBoot 0x040 →
      s.dev.g pBoot fBootMode = mWalk →
      getBits (s.dev.rd pBoot 0x048) 0 8 ≠ 3 ∧ getBits (s.dev.rd pBoot 0x048) 0 8 ≠ 4 →
      s.dev.g pBoot fBootSel ≠ 0 →
      s.dev.dozing = false →
      Yields (exec (.walkExit w jb) s) fun t =>
        t.dev.life = .on ∧ t.dev.boot.phase = .rom ∧ t.dev.boot.before = none ∧ t.dev.boot.failed = none ∧
        t.dev.g pTk fBootTry = 0 ∧
        t.dev.g pBoot ⟨0x044, 24, 4⟩ = 4 ∧
        t.dev.g pBoot fBootSel = s.dev.g pBoot fBootSel ∧ t.dev.g pBoot fBootMode = 0 ∧
        t.dev.offPages = [] ∧
        (∀ off < 4096, off ≠ 0x010 → off ≠ 0x070 → t.dev.rd pTk off = s.dev.rd pTk off) ∧
        t.dev.tk = s.dev.tk ∧ t.dev.nvm.otp = s.dev.nvm.otp ∧ t.mem = s.mem ∧ t.pending = s.pending) ∧
  (
    ∀ (s : State) (w : Who) (jb : Bool),
      s.calm →
      s.dev.takes w pBoot 0x040 →
      s.dev.g pBoot fBootMode ≠ mWalk ∨ getBits (s.dev.rd pBoot 0x048) 0 8 = 3 ∨ getBits (s.dev.rd pBoot 0x048) 0 8 = 4 →
      Yields (exec (.walkExit w jb) s) fun t =>
        Kept s t s.dev.answered [] [])

/-- Each command meets a request of its own op in channel c that the Coach or Walk mode serves; it writes the reply with the status
and DONE (acked, the sender's doorbell). IDENT answers versions, slots and mode. ATTEST counts, writes the 108 report words and
raises attest_done. VERIFY_SLOT answers the cause (7 for a slot that cannot be read), version and rollback, OK and VERIFIED on 0,
FAILED otherwise; a slot above 1 is BAD_ARG. ACTIVATE in Walk mode, or of a slot that is not verified, is REFUSED; of the running
slot BAD_ARG; accepted, the Coach restarts; a good copy starts (state 1), a bad one fails: state 4, its cause, act_fail. CONFIRM
in trial makes the running slot active, state 3; otherwise REFUSED. RB_PROGRAM_DEFERRED programs the waiting bits in an open
window. A command that meets no request of its op changes nothing (an op outside R417 is answered BAD_OP). Readings and choices:
notes/assumptions/13, 17, 41, 42. -/
def Obligations.CommandServiceAnswers : Prop :=
  (
    ∀ (s : State) (c : Fin 2),
      s.calm →
      s.dev.b pMbox (fChFull c.val) = true ∧ s.dev.g pMbox (fChRx c.val) = 0 →
      (s.dev.coachUp = true ∨ s.dev.inWalk = true) →
      getBits (s.dev.slotWord c.val 0) 24 8 = 1 →
      Yields (exec (.ident c) s) fun t =>
        (∀ i < 16, t.dev.slotWord c.val i = [setBits (s.dev.slotWord c.val 0 &&& 0xFFFF0000) 0 8 0, s.dev.rd pBoot 0x060,
            s.dev.rd pBoot 0x064, BitVec.ofNat 32 (s.dev.g pBoot fActive * 16 + s.dev.g pBoot fRunning * 32 + s.dev.g pBoot fBootMode),
            s.dev.rd 0x00 0x044].getD i 0) ∧
        t.dev.rd pMbox (0x080 + 4 * c.val) = setBits (setBits (s.dev.rd pMbox (0x080 + 4 * c.val)) 31 1 0) 27 1 1 ∧
        (∀ x < 4, doorbellOf (s.dev.g pMbox (fChSender c.val)) = some x →
            t.dev.rd pMbox (0x140 + 4 * x) = s.dev.rd pMbox (0x140 + 4 * x) ||| BitVec.twoPow 32 (16 + c.val)) ∧
        Kept s t { s.dev with mboxTimer := s.dev.mboxTimer &&& ~~~ BitVec.twoPow 16 c.val } ((regsOf pMbox ((0x080 + 4 * c.val) :: regRun 0x140 4 ++ regRun (0x400 + 0x40 * c.val) 16)) ++ []) [(pMbox, 0), (pMbox, 1)]) ∧
  (
    ∀ (s : State) (c : Fin 2),
      s.calm →
      s.dev.b pMbox (fChFull c.val) = true ∧ s.dev.g pMbox (fChRx c.val) = 0 →
      (s.dev.coachUp = true ∨ s.dev.inWalk = true) →
      getBits (s.dev.slotWord c.val 0) 24 8 = 0 ∨ 5 < getBits (s.dev.slotWord c.val 0) 24 8 →
      Yields (exec (.ident c) s) fun t =>
        (∀ i < 16, t.dev.slotWord c.val i = [setBits (s.dev.slotWord c.val 0 &&& 0xFFFF0000) 0 8 1].getD i 0) ∧
        t.dev.rd pMbox (0x080 + 4 * c.val) = setBits (setBits (s.dev.rd pMbox (0x080 + 4 * c.val)) 31 1 0) 27 1 1 ∧
        (∀ x < 4, doorbellOf (s.dev.g pMbox (fChSender c.val)) = some x →
            t.dev.rd pMbox (0x140 + 4 * x) = s.dev.rd pMbox (0x140 + 4 * x) ||| BitVec.twoPow 32 (16 + c.val)) ∧
        Kept s t { s.dev with mboxTimer := s.dev.mboxTimer &&& ~~~ BitVec.twoPow 16 c.val } ((regsOf pMbox ((0x080 + 4 * c.val) :: regRun 0x140 4 ++ regRun (0x400 + 0x40 * c.val) 16)) ++ []) [(pMbox, 0), (pMbox, 1)]) ∧
  (
    ∀ (s : State) (c : Fin 2),
      s.calm →
      s.dev.b pMbox (fChFull c.val) = false ∨ s.dev.g pMbox (fChRx c.val) ≠ 0 ∨ (1 < getBits (s.dev.slotWord c.val 0) 24 8 ∧
          getBits (s.dev.slotWord c.val 0) 24 8 ≤ 5) →
      Yields (exec (.ident c) s) fun t =>
        Kept s t s.dev [] []) ∧
  (
    ∀ (s : State) (c : Fin 2),
      s.calm →
      s.dev.b pMbox (fChFull c.val) = true ∧ s.dev.g pMbox (fChRx c.val) = 0 →
      (s.dev.coachUp = true ∨ s.dev.inWalk = true) →
      getBits (s.dev.slotWord c.val 0) 24 8 = 2 →
      s.dev.powered pSec = true →
      s.dev.g pSec fLc ≠ 2 ∧ s.dev.g pSec fLc ≠ 3 →
      Yields (exec (.attest c) s) fun t =>
        (∀ i < 16, t.dev.slotWord c.val i = [setBits (s.dev.slotWord c.val 0 &&& 0xFFFF0000) 0 8 0, 432].getD i 0) ∧
        t.dev.rd pMbox (0x080 + 4 * c.val) = setBits (setBits (s.dev.rd pMbox (0x080 + 4 * c.val)) 31 1 0) 27 1 1 ∧
        (∀ x < 4, doorbellOf (s.dev.g pMbox (fChSender c.val)) = some x →
            t.dev.rd pMbox (0x140 + 4 * x) = s.dev.rd pMbox (0x140 + 4 * x) ||| BitVec.twoPow 32 (16 + c.val)) ∧
        t.dev.rd pSec 0x080 = s.dev.rd pSec 0x080 + 1 ∧
        t.dev.evt pSec 3 = true ∧
        (∀ i < 8, t.dev.rd pSec (0x408 + 0x200 * c.val + 4 * i) = s.dev.slotWord c.val (1 + i)) ∧
        t.dev.rd pSec (0x400 + 0x200 * c.val) = 0x5441565A ∧
        t.dev.rd pSec (0x428 + 0x200 * c.val) = s.dev.tk.lo ∧
        t.dev.rd pSec (0x44C + 0x200 * c.val) = t.dev.rd pSec 0x080 ∧
        (∀ i < 24, t.dev.rd pSec (0x550 + 0x200 * c.val + 4 * i) = 0) ∧
        Kept s t { s.dev with mboxTimer := s.dev.mboxTimer &&& ~~~ BitVec.twoPow 16 c.val } ((regsOf pMbox ((0x080 + 4 * c.val) :: regRun 0x140 4 ++ regRun (0x400 + 0x40 * c.val) 16)) ++ regsOf pSec (0x080 :: regRun (0x400 + 0x200 * c.val) 108)) [(pMbox, 0), (pMbox, 1), (pSec, 3)]) ∧
  (
    ∀ (s : State) (c : Fin 2) (bad : List (Fin 2)) (slot : Fin 2) (x : Nat),
      s.calm →
      s.dev.b pMbox (fChFull c.val) = true ∧ s.dev.g pMbox (fChRx c.val) = 0 →
      (s.dev.coachUp = true ∨ s.dev.inWalk = true) →
      getBits (s.dev.slotWord c.val 0) 24 8 = 3 →
      (s.dev.slotWord c.val 1).toNat = slot.val →
      x = (if slot ∈ bad then 7 else s.verify (slotBase slot.val)) →
      s.dev.powered pSec = true →
      Yields (exec (.verifySlot c bad) s) fun t =>
        (∀ i < 16, t.dev.slotWord c.val i = [setBits (s.dev.slotWord c.val 0 &&& 0xFFFF0000) 0 8 (if x = 0 then 0 else 4),
            BitVec.ofNat 32 x, (pkgVersion (memBytes s.mem (slotBase slot.val) manifestBytes)).lo,
            (pkgVersion (memBytes s.mem (slotBase slot.val) manifestBytes)).hi,
            BitVec.ofNat 32 (pkgRollback (memBytes s.mem (slotBase slot.val) manifestBytes))].getD i 0) ∧
        t.dev.rd pMbox (0x080 + 4 * c.val) = setBits (setBits (s.dev.rd pMbox (0x080 + 4 * c.val)) 31 1 0) 27 1 1 ∧
        (∀ x < 4, doorbellOf (s.dev.g pMbox (fChSender c.val)) = some x →
            t.dev.rd pMbox (0x140 + 4 * x) = s.dev.rd pMbox (0x140 + 4 * x) ||| BitVec.twoPow 32 (16 + c.val)) ∧
        t.dev.evt pSec 0 = (s.dev.evt pSec 0 || decide (x ≠ 0)) ∧
        t.dev.rd pBoot 0x058 = (if x = 0 then setBits (s.dev.rd pBoot 0x058) slot.val 1 1 else s.dev.rd pBoot 0x058) ∧
        Kept s t { s.dev with mboxTimer := s.dev.mboxTimer &&& ~~~ BitVec.twoPow 16 c.val } ((regsOf pMbox ((0x080 + 4 * c.val) :: regRun 0x140 4 ++ regRun (0x400 + 0x40 * c.val) 16)) ++ [(pBoot, 0x058)]) [(pMbox, 0), (pMbox, 1), (pSec, 0)]) ∧
  (
    ∀ (s : State) (c : Fin 2),
      s.calm →
      s.dev.b pMbox (fChFull c.val) = true ∧ s.dev.g pMbox (fChRx c.val) = 0 →
      (s.dev.coachUp = true ∨ s.dev.inWalk = true) →
      getBits (s.dev.slotWord c.val 0) 24 8 = 2 →
      s.dev.powered pSec = true →
      Yields (exec (.attest c) s) fun t =>
        (∀ i < 16, t.dev.slotWord c.val i = [setBits (s.dev.slotWord c.val 0 &&& 0xFFFF0000) 0 8 0, 432].getD i 0) ∧
        t.dev.rd pMbox (0x080 + 4 * c.val) = setBits (setBits (s.dev.rd pMbox (0x080 + 4 * c.val)) 31 1 0) 27 1 1 ∧
        (∀ x < 4, doorbellOf (s.dev.g pMbox (fChSender c.val)) = some x →
            t.dev.rd pMbox (0x140 + 4 * x) = s.dev.rd pMbox (0x140 + 4 * x) ||| BitVec.twoPow 32 (16 + c.val)) ∧
        t.dev.rd pSec 0x080 = s.dev.rd pSec 0x080 + 1 ∧
        t.dev.evt pSec 3 = true ∧
        t.dev.rds pSec (0x400 + 0x200 * c.val) 108 =
            bytesToWords 108 ((s.dev.inc pSec 0x080).report ((List.range 8).flatMap fun i => wordBytes (s.dev.slotWord c.val (1 + i)))) ∧
        Kept s t { s.dev with mboxTimer := s.dev.mboxTimer &&& ~~~ BitVec.twoPow 16 c.val } ((regsOf pMbox ((0x080 + 4 * c.val) :: regRun 0x140 4 ++ regRun (0x400 + 0x40 * c.val) 16)) ++ regsOf pSec (0x080 :: regRun (0x400 + 0x200 * c.val) 108)) [(pMbox, 0), (pMbox, 1), (pSec, 3)]) ∧
  (
    ∀ (s : State) (c : Fin 2) (bad : List (Fin 2)),
      s.calm →
      s.dev.b pMbox (fChFull c.val) = true ∧ s.dev.g pMbox (fChRx c.val) = 0 →
      (s.dev.coachUp = true ∨ s.dev.inWalk = true) →
      getBits (s.dev.slotWord c.val 0) 24 8 = 3 →
      1 < (s.dev.slotWord c.val 1).toNat →
      Yields (exec (.verifySlot c bad) s) fun t =>
        (∀ i < 16, t.dev.slotWord c.val i = [setBits (s.dev.slotWord c.val 0 &&& 0xFFFF0000) 0 8 2].getD i 0) ∧
        t.dev.rd pMbox (0x080 + 4 * c.val) = setBits (setBits (s.dev.rd pMbox (0x080 + 4 * c.val)) 31 1 0) 27 1 1 ∧
        (∀ x < 4, doorbellOf (s.dev.g pMbox (fChSender c.val)) = some x →
            t.dev.rd pMbox (0x140 + 4 * x) = s.dev.rd pMbox (0x140 + 4 * x) ||| BitVec.twoPow 32 (16 + c.val)) ∧
        Kept s t { s.dev with mboxTimer := s.dev.mboxTimer &&& ~~~ BitVec.twoPow 16 c.val } ((regsOf pMbox ((0x080 + 4 * c.val) :: regRun 0x140 4 ++ regRun (0x400 + 0x40 * c.val) 16)) ++ []) [(pMbox, 0), (pMbox, 1)]) ∧
  (
    ∀ (s : State) (c : Fin 2) (bad : List (Fin 2)) (jb : Bool),
      s.calm →
      s.dev.b pMbox (fChFull c.val) = true ∧ s.dev.g pMbox (fChRx c.val) = 0 →
      (s.dev.coachUp = true ∨ s.dev.inWalk = true) →
      getBits (s.dev.slotWord c.val 0) 24 8 = 4 →
      s.dev.inWalk = true ∨ (s.dev.inWalk = false ∧ (s.dev.slotWord c.val 1).toNat ≤ 1 ∧ (s.dev.g pBoot fBootSel ≠ 0 ∨
          (s.dev.slotWord c.val 1).toNat ≠ s.dev.g pBoot fRunning ∧ s.dev.b pBoot (fVerified (s.dev.slotWord c.val 1).toNat) = false)) →
      Yields (exec (.activate c bad jb) s) fun t =>
        (∀ i < 16, t.dev.slotWord c.val i = [setBits (s.dev.slotWord c.val 0 &&& 0xFFFF0000) 0 8 3].getD i 0) ∧
        t.dev.rd pMbox (0x080 + 4 * c.val) = setBits (setBits (s.dev.rd pMbox (0x080 + 4 * c.val)) 31 1 0) 27 1 1 ∧
        (∀ x < 4, doorbellOf (s.dev.g pMbox (fChSender c.val)) = some x →
            t.dev.rd pMbox (0x140 + 4 * x) = s.dev.rd pMbox (0x140 + 4 * x) ||| BitVec.twoPow 32 (16 + c.val)) ∧
        Kept s t { s.dev with mboxTimer := s.dev.mboxTimer &&& ~~~ BitVec.twoPow 16 c.val } ((regsOf pMbox ((0x080 + 4 * c.val) :: regRun 0x140 4 ++ regRun (0x400 + 0x40 * c.val) 16)) ++ []) [(pMbox, 0), (pMbox, 1)]) ∧
  (
    ∀ (s : State) (c : Fin 2) (bad : List (Fin 2)) (jb : Bool),
      s.calm →
      s.dev.b pMbox (fChFull c.val) = true ∧ s.dev.g pMbox (fChRx c.val) = 0 →
      (s.dev.coachUp = true ∨ s.dev.inWalk = true) →
      getBits (s.dev.slotWord c.val 0) 24 8 = 4 →
      s.dev.inWalk = false ∧ (1 < (s.dev.slotWord c.val 1).toNat ∨ s.dev.g pBoot fBootSel = 0 ∧
          (s.dev.slotWord c.val 1).toNat = s.dev.g pBoot fRunning) →
      Yields (exec (.activate c bad jb) s) fun t =>
        (∀ i < 16, t.dev.slotWord c.val i = [setBits (s.dev.slotWord c.val 0 &&& 0xFFFF0000) 0 8 2].getD i 0) ∧
        t.dev.rd pMbox (0x080 + 4 * c.val) = setBits (setBits (s.dev.rd pMbox (0x080 + 4 * c.val)) 31 1 0) 27 1 1 ∧
        (∀ x < 4, doorbellOf (s.dev.g pMbox (fChSender c.val)) = some x →
            t.dev.rd pMbox (0x140 + 4 * x) = s.dev.rd pMbox (0x140 + 4 * x) ||| BitVec.twoPow 32 (16 + c.val)) ∧
        Kept s t { s.dev with mboxTimer := s.dev.mboxTimer &&& ~~~ BitVec.twoPow 16 c.val } ((regsOf pMbox ((0x080 + 4 * c.val) :: regRun 0x140 4 ++ regRun (0x400 + 0x40 * c.val) 16)) ++ []) [(pMbox, 0), (pMbox, 1)]) ∧
  (
    ∀ (s : State) (c : Fin 2) (bad : List (Fin 2)) (jb : Bool),
      s.calm →
      s.dev.b pMbox (fChFull c.val) = true ∧ s.dev.g pMbox (fChRx c.val) = 0 →
      (s.dev.coachUp = true ∨ s.dev.inWalk = true) →
      getBits (s.dev.slotWord c.val 0) 24 8 = 4 →
      s.dev.inWalk = false ∧ s.dev.g pBoot fBootSel = 0 →
      (s.dev.slotWord c.val 1).toNat = 1 - s.dev.g pBoot fRunning →
      s.dev.b pBoot (fVerified (s.dev.slotWord c.val 1).toNat) = true →
      0 ∈ bad ∧ 1 ∈ bad →
      s.dev.b 0x06 fFlashWindow = false →
      s.dev.powered pBoot = true ∧ s.dev.powered pSec = true →
      Yields (exec (.activate c bad jb) s) fun t =>
        (∀ i < 16, t.dev.slotWord c.val i = [setBits (s.dev.slotWord c.val 0 &&& 0xFFFF0000) 0 8 0].getD i 0) ∧
        t.dev.g pBoot fActState = 4 ∧ t.dev.g pBoot fActCause = 7 ∧
        t.dev.g pBoot fActSlot = (s.dev.slotWord c.val 1).toNat ∧
        t.dev.evt pBoot 4 = true ∧ t.dev.evt pBoot 5 = true ∧ t.dev.evt pSec 0 = true ∧
        t.dev.b pBoot fJrnlSkip = true ∧
        t.dev.coachUp = false ∧ t.dev.boot = { s.dev.boot with phase := .rom } ∧
        (∀ i < 32, t.dev.g pLocks (fOwn i) = (if s.dev.g pLocks (fOwn i) = 1 then 0 else s.dev.g pLocks (fOwn i))) ∧
        t.mem = s.mem ∧ t.pending = s.pending) ∧
  (
    ∀ (s : State) (c : Fin 2) (bad : List (Fin 2)) (jb : Bool) (slot : Fin 2),
      s.calm →
      s.dev.b pMbox (fChFull c.val) = true ∧ s.dev.g pMbox (fChRx c.val) = 0 →
      (s.dev.coachUp = true ∨ s.dev.inWalk = true) →
      getBits (s.dev.slotWord c.val 0) 24 8 = 4 →
      s.dev.inWalk = false ∧ s.dev.g pBoot fBootSel = 0 →
      (s.dev.slotWord c.val 1).toNat = slot.val ∧ slot.val ≠ s.dev.g pBoot fRunning →
      s.dev.b pBoot (fVerified slot.val) = true →
      slot ∉ bad →
      s.dev.b 0x06 fFlashWindow = false →
      s.dev.powered pBoot = true →
      Yields (exec (.activate c bad jb) s) fun t =>
        (∀ i < 16, t.dev.slotWord c.val i = [setBits (s.dev.slotWord c.val 0 &&& 0xFFFF0000) 0 8 0].getD i 0) ∧
        t.dev.g pBoot fActSlot = slot.val ∧ t.dev.coachUp = false ∧ t.dev.b pBoot fJrnlSkip = true ∧
            t.dev.g pBoot fActive = s.dev.g pBoot fActive ∧
        ((s.copySlot slot.val).verify sramPackage = 0 → t.dev.boot.phase = .started .activation ∧ t.dev.g pBoot fActState = 1 ∧
            t.dev.g pBoot fRunning = slot.val ∧ t.mem = (s.copySlot slot.val).mem ∧
            t.dev.boot.manifest = memBytes t.mem sramPackage manifestBytes) ∧
        ((s.copySlot slot.val).verify sramPackage ≠ 0 → t.dev.g pBoot fActState = 4 ∧
            t.dev.g pBoot fActCause = (s.copySlot slot.val).verify sramPackage ∧ t.dev.evt pBoot 4 = true)) ∧
  (
    ∀ (s : State) (c : Fin 2) (jb : Bool),
      s.calm →
      s.dev.b pMbox (fChFull c.val) = true ∧ s.dev.g pMbox (fChRx c.val) = 0 →
      (s.dev.coachUp = true ∨ s.dev.inWalk = true) →
      getBits (s.dev.slotWord c.val 0) 24 8 = 5 →
      s.dev.inWalk = true ∨ s.dev.g pBoot fActState ≠ 2 →
      Yields (exec (.confirm c jb) s) fun t =>
        (∀ i < 16, t.dev.slotWord c.val i = [setBits (s.dev.slotWord c.val 0 &&& 0xFFFF0000) 0 8 3].getD i 0) ∧
        t.dev.rd pMbox (0x080 + 4 * c.val) = setBits (setBits (s.dev.rd pMbox (0x080 + 4 * c.val)) 31 1 0) 27 1 1 ∧
        (∀ x < 4, doorbellOf (s.dev.g pMbox (fChSender c.val)) = some x →
            t.dev.rd pMbox (0x140 + 4 * x) = s.dev.rd pMbox (0x140 + 4 * x) ||| BitVec.twoPow 32 (16 + c.val)) ∧
        Kept s t { s.dev with mboxTimer := s.dev.mboxTimer &&& ~~~ BitVec.twoPow 16 c.val } ((regsOf pMbox ((0x080 + 4 * c.val) :: regRun 0x140 4 ++ regRun (0x400 + 0x40 * c.val) 16)) ++ []) [(pMbox, 0), (pMbox, 1)]) ∧
  (
    ∀ (s : State) (c : Fin 2) (jb : Bool),
      s.calm →
      s.dev.b pMbox (fChFull c.val) = true ∧ s.dev.g pMbox (fChRx c.val) = 0 →
      (s.dev.coachUp = true ∨ s.dev.inWalk = true) →
      getBits (s.dev.slotWord c.val 0) 24 8 = 5 →
      s.dev.inWalk = false ∧ s.dev.g pBoot fActState = 2 →
      (s.dev.slotWord c.val 1).getLsbD 0 = false ∧ (s.dev.slotWord c.val 1).getLsbD 1 = false →
      s.dev.boot.advance = 0 ∧ s.dev.boot.revoke = 0 →
      s.dev.g pBoot fBootSel ≠ 0 →
      s.dev.b pBoot fRbPending = false →
      Yields (exec (.confirm c jb) s) fun t =>
        (∀ i < 16, t.dev.slotWord c.val i = [setBits (s.dev.slotWord c.val 0 &&& 0xFFFF0000) 0 8 0].getD i 0) ∧
        t.dev.rd pMbox (0x080 + 4 * c.val) = setBits (setBits (s.dev.rd pMbox (0x080 + 4 * c.val)) 31 1 0) 27 1 1 ∧
        (∀ x < 4, doorbellOf (s.dev.g pMbox (fChSender c.val)) = some x →
            t.dev.rd pMbox (0x140 + 4 * x) = s.dev.rd pMbox (0x140 + 4 * x) ||| BitVec.twoPow 32 (16 + c.val)) ∧
        t.dev.g pBoot fActive = s.dev.g pBoot fRunning ∧ t.dev.g pBoot fActState = 3 ∧
        Kept s t { s.dev with mboxTimer := s.dev.mboxTimer &&& ~~~ BitVec.twoPow 16 c.val, votes := t.dev.votes } ((pBoot,
            0x044) :: (pBoot, 0x054) :: (regsOf pMbox ((0x080 + 4 * c.val) :: regRun 0x140 4 ++
            regRun (0x400 + 0x40 * c.val) 16))) [(pMbox, 0), (pMbox, 1)]) ∧
  (
    ∀ (s : State),
      s.calm →
      s.dev.b 0x06 fOtpWindow = true →
      s.dev.powered pSec = true →
      s.dev.boot.advance ≠ 0 ∨ s.dev.boot.revoke ≠ 0 →
      Yields (exec .rbProgramDeferred s) fun t =>
        t.dev.otp 17 = s.dev.otp 17 ||| (thermometer s.dev.boot.advance).lo ∧
            t.dev.otp 18 = s.dev.otp 18 ||| (thermometer s.dev.boot.advance).hi ∧
        t.dev.otp 19 = s.dev.otp 19 ||| BitVec.ofNat 32 (s.dev.boot.revoke * 16) ∧
        (∀ i < 128, i ∉ [17, 18, 19] → t.dev.otp i = s.dev.otp i) ∧
        (t.dev.rd pSec 0x048).toNat = t.dev.rbBits ∧
        t.dev.rd pSec 0x044 = t.dev.otp 19 &&& 0xFF ∧
        t.dev.evt pSec 4 = (s.dev.evt pSec 4 || decide (s.dev.rbBits < t.dev.rbBits)) ∧
            t.dev.evt pSec 1 = (s.dev.evt pSec 1 || (t.dev.otp 19 != s.dev.otp 19)) ∧
        t.dev.b pBoot fRbPending = false ∧
        Kept s t { s.dev with boot := { s.dev.boot with advance := 0, revoke := 0 }, nvm := t.dev.nvm, votes := t.dev.votes } [(pBoot,
            0x054), (pSec, 0x044), (pSec, 0x048), (pSec, 0x050), (pSec, 0x054)] [(pSec, 1), (pSec, 4)]) ∧
  (
    ∀ (s : State),
      s.calm →
      s.dev.b 0x06 fOtpWindow = false ∨ (s.dev.boot.advance = 0 ∧ s.dev.boot.revoke = 0) →
      Yields (exec .rbProgramDeferred s) fun t =>
        t.dev.b pBoot fRbPending = decide (s.dev.boot.advance ≠ 0 ∨ s.dev.boot.revoke ≠ 0) ∧
        Kept s t s.dev [(pBoot, 0x054)] [])

/-- FLASH_ERASE of an unprotected sector and FLASH_PROGRAM within a page start (busy, result 0) and clear VERIFIED of the slot they
touch; misaligned or crossing ones are refused with 7, protected regions with 3. OTP_PROGRAM of an allowed word in an open window
starts; refused words give 3, states 4, a closed window 2. OTP_READ of the seed is DENIED with data 0 and result 3; another word
starts. While busy nothing starts. NVM_OP_DONE: an erased sector reads 0xFF, programming only clears bits, OTP bits only set;
result 1 and op_done, or 5 and an error where the verification differs. NVM_TIMEOUT ends a flash operation with 6. LC_REQ starts a
listed transition whose condition holds, else refuses with 9, 4 or 2; LC_CHANGE completes it: the OTP bit, the seed words, LC,
ID_PUB, result 1, lc_change. Readings and choices: notes/assumptions/12, 13, 42. -/
def Obligations.NonVolatileOperations : Prop :=
  (
    ∀ (s : State) (w : Who) (v : Word),
      s.calm →
      s.dev.takes w pNvm 0x040 →
      w.mid.val ≤ 2 →
      s.dev.b pNvm fNvBusy = false →
      (s.dev.g pNvm ⟨0x044, 0, 24⟩) % 4096 = 0 ∧ 0x80A000 ≤ (s.dev.g pNvm ⟨0x044, 0, 24⟩) →
      Yields (exec (.flashErase w v) s) fun t =>
        t.dev.rd pNvm 0x040 = storeWord pNvm 0x040 (s.dev.rd pNvm 0x040) (if getBits v 0 9 =
            0 then (setBits (setBits v 24 4 1) 31 1 1) ||| 1 else (setBits (setBits v 24 4 1) 31 1 1)) ∧
        t.dev.rd pNvm 0x04C = setBits (setBits (s.dev.rd pNvm 0x04C) 7 1 1) 0 4 0 ∧
        Kept s t { s.dev.answered with nvm := { s.dev.nvm with op := some (.erase ((s.dev.g pNvm ⟨0x044, 0, 24⟩) / 4096)) } } [(pNvm,
            0x040), (pNvm, 0x04C)] []) ∧
  (
    ∀ (s : State) (w : Who) (v : Word),
      s.calm →
      s.dev.takes w pNvm 0x040 →
      w.mid.val ≤ 2 →
      s.dev.b pNvm fNvBusy = false →
      (s.dev.g pNvm ⟨0x044, 0, 24⟩) % 4096 = 0 ∧ (s.dev.g pNvm ⟨0x044, 0, 24⟩) < 0x800000 →
      s.dev.g pBoot fActive ≠ (s.dev.g pNvm ⟨0x044, 0, 24⟩) / 0x400000 →
      s.dev.g pBoot fBootSel = 0 ∧ s.dev.g pBoot fRunning ≠ (s.dev.g pNvm ⟨0x044, 0, 24⟩) / 0x400000 →
      Yields (exec (.flashErase w v) s) fun t =>
        t.dev.rd pNvm 0x040 = storeWord pNvm 0x040 (s.dev.rd pNvm 0x040) (if getBits v 0 9 =
            0 then (setBits (setBits v 24 4 1) 31 1 1) ||| 1 else (setBits (setBits v 24 4 1) 31 1 1)) ∧
        t.dev.rd pNvm 0x04C = setBits (setBits (s.dev.rd pNvm 0x04C) 7 1 1) 0 4 0 ∧
        t.dev.rd pBoot 0x058 = setBits (s.dev.rd pBoot 0x058) ((s.dev.g pNvm ⟨0x044, 0, 24⟩) / 0x400000) 1 0 ∧
        Kept s t { s.dev.answered with nvm := { s.dev.nvm with op := some (.erase ((s.dev.g pNvm ⟨0x044, 0, 24⟩) / 4096)) } } [(pNvm,
            0x040), (pNvm, 0x04C), (pBoot, 0x058)] []) ∧
  (
    ∀ (s : State) (w : Who) (v : Word),
      s.calm →
      s.dev.takes w pNvm 0x040 →
      w.mid.val ≤ 2 →
      s.dev.b pNvm fNvBusy = false →
      (s.dev.g pNvm ⟨0x044, 0, 24⟩) % 4096 ≠ 0 →
      s.dev.powered pNvm = true →
      Yields (exec (.flashErase w v) s) fun t =>
        t.dev.rd pNvm 0x040 = storeWord pNvm 0x040 (s.dev.rd pNvm 0x040) (if getBits v 0 9 =
            0 then (setBits (setBits v 24 4 1) 31 1 1) ||| 1 else (setBits (setBits v 24 4 1) 31 1 1)) ∧
        t.dev.g pNvm fNvResult = 7 ∧ t.dev.b pNvm fNvBusy = false ∧ t.dev.evt pNvm 1 = true ∧
        Kept s t s.dev.answered [(pNvm, 0x040), (pNvm, 0x04C)] [(pNvm, 1)]) ∧
  (
    ∀ (s : State) (w : Who) (v : Word),
      s.calm →
      s.dev.takes w pNvm 0x040 →
      w.mid.val ≤ 2 →
      s.dev.b pNvm fNvBusy = false →
      (s.dev.g pNvm ⟨0x044, 0, 24⟩) % 4096 = 0 →
      (0x800000 ≤ (s.dev.g pNvm ⟨0x044, 0, 24⟩) ∧ (s.dev.g pNvm ⟨0x044, 0, 24⟩) < 0x80A000) ∨ ((s.dev.g pNvm ⟨0x044, 0, 24⟩) < 0x800000 ∧
          s.dev.g pBoot fActive = (s.dev.g pNvm ⟨0x044, 0, 24⟩) / 0x400000) →
      s.dev.powered pNvm = true →
      Yields (exec (.flashErase w v) s) fun t =>
        t.dev.rd pNvm 0x040 = storeWord pNvm 0x040 (s.dev.rd pNvm 0x040) (if getBits v 0 9 =
            0 then (setBits (setBits v 24 4 1) 31 1 1) ||| 1 else (setBits (setBits v 24 4 1) 31 1 1)) ∧
        t.dev.g pNvm fNvResult = 3 ∧ t.dev.b pNvm fNvBusy = false ∧ t.dev.evt pNvm 1 = true ∧
        Kept s t s.dev.answered [(pNvm, 0x040), (pNvm, 0x04C)] [(pNvm, 1)]) ∧
  (
    ∀ (s : State) (w : Who) (v : Word),
      s.calm →
      s.dev.takes w pNvm 0x040 →
      w.mid.val ≤ 2 →
      s.dev.b pNvm fNvBusy = true →
      Yields (exec (.flashErase w v) s) fun t =>
        t.dev.rd pNvm 0x040 = storeWord pNvm 0x040 (s.dev.rd pNvm 0x040) (if getBits v 0 9 =
            0 then (setBits (setBits v 24 4 1) 31 1 1) ||| 1 else (setBits (setBits v 24 4 1) 31 1 1)) ∧
        Kept s t s.dev.answered [(pNvm, 0x040)] []) ∧
  (
    ∀ (s : State) (w : Who) (v : Word),
      s.calm →
      s.dev.takes w pNvm 0x040 →
      w.mid.val ≤ 2 →
      s.dev.b pNvm fNvBusy = false →
      1 ≤ getBits v 0 9 ∧ (s.dev.g pNvm ⟨0x044, 0, 24⟩) % 256 + getBits v 0 9 ≤ 256 ∧ 0x80A000 ≤ (s.dev.g pNvm ⟨0x044, 0, 24⟩) →
      Yields (exec (.flashProgram w v) s) fun t =>
        t.dev.rd pNvm 0x040 = storeWord pNvm 0x040 (s.dev.rd pNvm 0x040) (if getBits v 0 9 =
            0 then (setBits (setBits v 24 4 2) 31 1 1) ||| 1 else (setBits (setBits v 24 4 2) 31 1 1)) ∧
        t.dev.rd pNvm 0x04C = setBits (setBits (s.dev.rd pNvm 0x04C) 7 1 1) 0 4 0 ∧
        Kept s t { s.dev.answered with nvm := { s.dev.nvm with op := some (.program (s.dev.g pNvm ⟨0x044, 0, 24⟩) (s.dev.nvBuf (getBits v 0 9))) } } [(pNvm, 0x040), (pNvm, 0x04C)] []) ∧
  (
    ∀ (s : State) (w : Who) (v : Word),
      s.calm →
      s.dev.takes w pNvm 0x040 →
      w.mid.val ≤ 2 →
      s.dev.b pNvm fNvBusy = false →
      1 ≤ getBits v 0 9 ∧ 256 < (s.dev.g pNvm ⟨0x044, 0, 24⟩) % 256 + min (getBits v 0 9) 256 →
      s.dev.powered pNvm = true →
      Yields (exec (.flashProgram w v) s) fun t =>
        t.dev.rd pNvm 0x040 = storeWord pNvm 0x040 (s.dev.rd pNvm 0x040) (if getBits v 0 9 =
            0 then (setBits (setBits v 24 4 2) 31 1 1) ||| 1 else (setBits (setBits v 24 4 2) 31 1 1)) ∧
        t.dev.g pNvm fNvResult = 7 ∧ t.dev.b pNvm fNvBusy = false ∧ t.dev.evt pNvm 1 = true ∧
        Kept s t s.dev.answered [(pNvm, 0x040), (pNvm, 0x04C)] [(pNvm, 1)]) ∧
  (
    ∀ (s : State) (w : Who) (v : Word),
      s.calm →
      s.dev.takes w pNvm 0x040 →
      w.mid.val ≤ 2 →
      s.dev.b pNvm fNvBusy = false →
      (20 ≤ (s.dev.g pNvm ⟨0x044, 0, 7⟩) ∧ (s.dev.g pNvm ⟨0x044, 0, 7⟩) < 84 ∧ s.dev.g pSec fLc = 1) ∨ (92 ≤ (s.dev.g pNvm ⟨0x044, 0, 7⟩) ∧
          s.dev.g pSec fLc ≠ 4) →
      s.dev.b 0x06 fOtpWindow = true →
      Yields (exec (.otpProgram w v) s) fun t =>
        t.dev.rd pNvm 0x040 = storeWord pNvm 0x040 (s.dev.rd pNvm 0x040) (if getBits v 0 9 =
            0 then (setBits (setBits v 24 4 3) 31 1 1) ||| 1 else (setBits (setBits v 24 4 3) 31 1 1)) ∧
        t.dev.rd pNvm 0x04C = setBits (setBits (s.dev.rd pNvm 0x04C) 7 1 1) 0 4 0 ∧
        Kept s t { s.dev.answered with nvm := { s.dev.nvm with op := some (.otp (s.dev.g pNvm ⟨0x044, 0, 7⟩) (s.dev.rd pNvm 0x048)) } } [(pNvm, 0x040), (pNvm, 0x04C)] []) ∧
  (
    ∀ (s : State) (w : Who) (v : Word) (r : Nat),
      s.calm →
      s.dev.takes w pNvm 0x040 →
      w.mid.val ≤ 2 →
      s.dev.b pNvm fNvBusy = false →
      ((s.dev.g pNvm ⟨0x044, 0, 7⟩) < 19 ∨ (84 ≤ (s.dev.g pNvm ⟨0x044, 0, 7⟩) ∧ (s.dev.g pNvm ⟨0x044, 0, 7⟩) < 92)) ∧ r = 3 ∨
          20 ≤ (s.dev.g pNvm ⟨0x044, 0, 7⟩) ∧ (s.dev.g pNvm ⟨0x044, 0, 7⟩) < 84 ∧ s.dev.g pSec fLc ≠ 1 ∧ r = 4 ∨
          92 ≤ (s.dev.g pNvm ⟨0x044, 0, 7⟩) ∧ s.dev.g pSec fLc = 4 ∧ r = 4 ∨ 92 ≤ (s.dev.g pNvm ⟨0x044, 0, 7⟩) ∧ s.dev.g pSec fLc ≠ 4 ∧
          s.dev.b 0x06 fOtpWindow = false ∧ r = 2 →
      s.dev.powered pNvm = true →
      Yields (exec (.otpProgram w v) s) fun t =>
        t.dev.rd pNvm 0x040 = storeWord pNvm 0x040 (s.dev.rd pNvm 0x040) (if getBits v 0 9 =
            0 then (setBits (setBits v 24 4 3) 31 1 1) ||| 1 else (setBits (setBits v 24 4 3) 31 1 1)) ∧
        t.dev.g pNvm fNvResult = r ∧ t.dev.b pNvm fNvBusy = false ∧ t.dev.evt pNvm 1 = true ∧
        Kept s t s.dev.answered [(pNvm, 0x040), (pNvm, 0x04C)] [(pNvm, 1)]) ∧
  (
    ∀ (s : State) (w : Who) (v : Word),
      s.calm →
      s.dev.takes w pNvm 0x040 →
      w.mid.val ≤ 2 →
      s.dev.b pNvm fNvBusy = false →
      (s.dev.g pNvm ⟨0x044, 0, 7⟩) < 84 ∨ 92 ≤ (s.dev.g pNvm ⟨0x044, 0, 7⟩) →
      Yields (exec (.otpRead w v) s) fun t =>
        t.dev.rd pNvm 0x040 = storeWord pNvm 0x040 (s.dev.rd pNvm 0x040) (if getBits v 0 9 =
            0 then (setBits (setBits v 24 4 4) 31 1 1) ||| 1 else (setBits (setBits v 24 4 4) 31 1 1)) ∧
        t.dev.rd pNvm 0x04C = setBits (setBits (s.dev.rd pNvm 0x04C) 7 1 1) 0 4 0 ∧
        Kept s t { s.dev.answered with nvm := { s.dev.nvm with op := some (.read (s.dev.g pNvm ⟨0x044, 0, 7⟩)) } } [(pNvm, 0x040), (pNvm,
            0x04C)] []) ∧
  (
    ∀ (s : State) (w : Who) (v : Word),
      s.calm →
      s.dev.takes w pNvm 0x040 →
      w.mid.val ≤ 2 →
      s.dev.b pNvm fNvBusy = false →
      84 ≤ (s.dev.g pNvm ⟨0x044, 0, 7⟩) ∧ (s.dev.g pNvm ⟨0x044, 0, 7⟩) < 92 →
      s.dev.powered pNvm = true →
      Yields (exec (.otpRead w v) s) fun t =>
        t.dev.rd pNvm 0x040 = storeWord pNvm 0x040 (s.dev.rd pNvm 0x040) (if getBits v 0 9 =
            0 then (setBits (setBits v 24 4 4) 31 1 1) ||| 1 else (setBits (setBits v 24 4 4) 31 1 1)) ∧
        t.dev.g pNvm fNvResult = 3 ∧ t.dev.b pNvm fNvBusy = false ∧ t.dev.evt pNvm 1 = true ∧
        t.dev.rd pNvm 0x048 = 0 ∧
        t.dev.resp = ⟨.denied, []⟩ ∧
        Kept s t { s.dev with resp := t.dev.resp } [(pNvm, 0x040), (pNvm, 0x048), (pNvm, 0x04C)] [(pNvm, 1)]) ∧
  (
    ∀ (s : State) (x : Nat),
      s.calm →
      s.dev.nvm.op = some (.erase x) →
      x < 4096 →
      s.memOk →
      s.dev.powered pNvm = true →
      Yields (exec (.nvmOpDone none) s) fun t =>
        t.dev.nvm.op = none ∧ t.dev.b pNvm fNvBusy = false ∧
        t.dev.g pNvm fNvResult = 1 ∧ t.dev.evt pNvm 0 = true ∧
        (∀ j < 4096, memGet t.mem (flashBase + x * 4096 + j) = 0xFF) ∧
        (∀ a : Nat, (a < flashBase + x * 4096 ∨ flashBase + x * 4096 + 4096 ≤ a) → memGet t.mem a = memGet s.mem a) ∧
        Kept { s with mem := t.mem } t { s.dev with nvm := { s.dev.nvm with op := none } } [(pNvm, 0x04C)] [(pNvm, 0)]) ∧
  (
    ∀ (s : State) (x : Nat) (l : List Byte),
      s.calm →
      s.dev.nvm.op = some (.program x l) →
      x + l.length ≤ 2 ^ 24 →
      s.memOk →
      s.dev.powered pNvm = true →
      Yields (exec (.nvmOpDone none) s) fun t =>
        t.dev.nvm.op = none ∧ t.dev.b pNvm fNvBusy = false ∧
        (∀ j < 256, j < l.length → memGet t.mem (flashBase + x + j) = memGet s.mem (flashBase + x + j) &&& l.getD j 0) ∧
        (∀ a : Nat, (a < flashBase + x ∨ flashBase + x + l.length ≤ a) → memGet t.mem a = memGet s.mem a) ∧
        t.dev.g pNvm fNvResult = (if memBytes t.mem (flashBase + x) l.length = l then 1 else 5) ∧
        t.dev.evt pNvm 0 = (s.dev.evt pNvm 0 || decide (memBytes t.mem (flashBase + x) l.length = l)) ∧
            t.dev.evt pNvm 2 = (s.dev.evt pNvm 2 || !decide (memBytes t.mem (flashBase + x) l.length = l)) ∧
        Kept { s with mem := t.mem } t { s.dev with nvm := { s.dev.nvm with op := none } } [(pNvm, 0x04C)] [(pNvm, 0), (pNvm, 2)]) ∧
  (
    ∀ (s : State) (x : Nat) (u : Word),
      s.calm →
      s.dev.nvm.op = some (.otp x u) →
      x ≠ 19 →
      s.dev.powered pNvm = true →
      Yields (exec (.nvmOpDone none) s) fun t =>
        t.dev.nvm.op = none ∧ t.dev.b pNvm fNvBusy = false ∧
        t.dev.otp x = s.dev.otp x ||| u ∧
        (∀ i < 128, i ≠ x → t.dev.otp i = s.dev.otp i) ∧
        t.dev.g pNvm fNvResult = 1 ∧ t.dev.evt pNvm 0 = true ∧
        Kept s t { s.dev with nvm := { s.dev.nvm with op := none, otp := t.dev.nvm.otp } } [(pNvm, 0x04C)] [(pNvm, 0)]) ∧
  (
    ∀ (s : State) (held : Option (List Byte)) (x : Nat),
      s.calm →
      s.dev.nvm.op = some (.read x) →
      s.dev.powered pNvm = true →
      Yields (exec (.nvmOpDone held) s) fun t =>
        t.dev.nvm.op = none ∧ t.dev.b pNvm fNvBusy = false ∧
        t.dev.rd pNvm 0x048 = s.dev.otp x ∧
        t.dev.g pNvm fNvResult = 1 ∧ t.dev.evt pNvm 0 = true ∧
        Kept s t { s.dev with nvm := { s.dev.nvm with op := none } } [(pNvm, 0x048), (pNvm, 0x04C)] [(pNvm, 0)]) ∧
  (
    ∀ (s : State) (x : Nat) (l : List Byte),
      s.calm →
      s.dev.nvm.op = some (.erase x) →
      l.length ≤ 4096 ∧ x < 4096 →
      s.memOk →
      s.dev.powered pNvm = true →
      Yields (exec (.nvmTimeout l) s) fun t =>
        t.dev.nvm.op = none ∧ t.dev.b pNvm fNvBusy = false ∧
        t.dev.g pNvm fNvResult = 6 ∧ t.dev.evt pNvm 2 = true ∧
        (∀ j < 4096, j < l.length → memGet t.mem (flashBase + x * 4096 + j) = l.getD j 0) ∧
        (∀ a : Nat, (a < flashBase + x * 4096 ∨ flashBase + x * 4096 + l.length ≤ a) → memGet t.mem a = memGet s.mem a) ∧
        Kept { s with mem := t.mem } t { s.dev with nvm := { s.dev.nvm with op := none } } [(pNvm, 0x04C)] [(pNvm, 2)]) ∧
  (
    ∀ (s : State) (w : Who) (v : Word) (bad : List (Fin 2)),
      s.calm →
      s.dev.takes w pNvm 0x050 →
      w.mid.val ≤ 2 →
      s.dev.b pNvm fNvBusy = false ∧ s.dev.b pNvm fLcBusy = false →
      s.dev.b 0x06 fOtpWindow = true →
      (s.dev.g pSec fLc = 0 ∧ getBits v 0 3 = 1) ∨ (s.dev.g pSec fLc ≠ 4 ∧ getBits v 0 3 = 4) →
      Yields (exec (.lcReq w v bad) s) fun t =>
        t.dev.rd pNvm 0x050 = storeWord pNvm 0x050 (s.dev.rd pNvm 0x050) (setBits v 31 1 1) ∧
        t.dev.rd pNvm 0x054 = setBits (setBits (s.dev.rd pNvm 0x054) 7 1 1) 0 4 0 ∧
        Kept s t { s.dev.answered with nvm := { s.dev.nvm with lc := some (getBits v 0 3) } } [(pNvm, 0x050), (pNvm, 0x054)] []) ∧
  (
    ∀ (s : State) (w : Who) (v : Word) (bad : List (Fin 2)) (r : Nat),
      s.calm →
      s.dev.takes w pNvm 0x050 →
      w.mid.val ≤ 2 →
      s.dev.powered pNvm = true →
      ((s.dev.b pNvm fNvBusy = true ∨ s.dev.b pNvm fLcBusy = true) ∧ r = 9) ∨ (s.dev.b pNvm fNvBusy = false ∧
          s.dev.b pNvm fLcBusy = false ∧ ((s.dev.g pSec fLc = 4 ∨ getBits v 0 3 ∉ ([1, 2, 3, 4] : List Nat) ∨ getBits v 0 3 = 1 ∧
          s.dev.g pSec fLc ≠ 0) ∧ r = 4 ∨ s.dev.g pSec fLc ≠ 4 ∧ getBits v 0 3 = 4 ∧ s.dev.b 0x06 fOtpWindow = false ∧ r = 2)) →
      Yields (exec (.lcReq w v bad) s) fun t =>
        t.dev.g pNvm fLcResult = r ∧ t.dev.b pNvm fLcBusy = s.dev.b pNvm fLcBusy ∧ t.dev.evt pNvm 1 = true ∧
        Kept s t s.dev.answered [(pNvm, 0x050), (pNvm, 0x054)] [(pNvm, 1)]) ∧
  (
    ∀ (s : State) (x : BitVec 256),
      s.calm →
      s.dev.nvm.lc = some 1 →
      s.dev.powered pSec = true →
      s.dev.otp 16 = 0 →
      Yields (exec (.lcChange x) s) fun t =>
        t.dev.otp 16 = 1 ∧ t.dev.g pSec fLc = 1 ∧
        (∀ i < 128, i ≠ 16 → t.dev.otp i = s.dev.otp i) ∧
        t.dev.b pNvm fLcBusy = false ∧ t.dev.g pNvm fLcResult = 1 ∧ t.dev.evt pSec 2 = true ∧
        (∀ j < 8, t.dev.rd pSec (0x060 + 4 * j) = 0) ∧
        Kept s t { s.dev with nvm := { s.dev.nvm with lc := none, otp := t.dev.nvm.otp }, votes := t.dev.votes } ((pNvm,
            0x054) :: (regsOf pSec (0x040 :: regRun 0x060 8))) [(pSec, 2)]) ∧
  (
    ∀ (s : State) (x : BitVec 256),
      s.calm →
      s.dev.nvm.lc = some 4 →
      s.dev.powered pSec = true →
      Yields (exec (.lcChange x) s) fun t =>
        t.dev.otp 16 = s.dev.otp 16 ||| 8 ∧ t.dev.g pSec fLc = 4 ∧
        (∀ i < 8, t.dev.otp (84 + i) = 0xFFFFFFFF) ∧
        (∀ i < 128, i ≠ 16 → (i < 84 ∨ 92 ≤ i) → t.dev.otp i = s.dev.otp i) ∧
        t.dev.b pNvm fLcBusy = false ∧ t.dev.g pNvm fLcResult = 1 ∧ t.dev.evt pSec 2 = true ∧
        (∀ j < 8, t.dev.rd pSec (0x060 + 4 * j) = 0) ∧
        Kept s t { s.dev with nvm := { s.dev.nvm with lc := none, otp := t.dev.nvm.otp }, votes := t.dev.votes } ((pNvm,
            0x054) :: (regsOf pSec (0x040 :: regRun 0x060 8))) [(pSec, 2)]) ∧
  (
    ∀ (s : State) (x : BitVec 256),
      s.calm →
      s.dev.nvm.lc = none →
      Yields (exec (.lcChange x) s) fun t =>
        Kept s t s.dev [] [])

/-- TRIAL_GO by master 0, 1 or 2 while no run is in progress: a test that R431 does not refuse starts, busy with its test code, SIG
and EXP_SIG at their start, VEC 0 and its vector count; a refused one gives result 4, the reason and source 3. Another master is
DENIED. TRIAL_VECTOR of a run within its precondition counts VEC and takes the reads or the response into SIG and the expected
ones into EXP_SIG; at the last vector the run ends PASS or FAIL with TK_TIME, RUN_CNT, source 0 and, failing, source 1; with no
run or a suspended one nothing happens. TRIAL_ABORT returns to the last checkpoint and ends the run, judged there. TRIAL_RESUME of
a suspended run restores the checkpoint and goes on. Nothing else changes. Readings and choices: notes/assumptions/10, 13, 17, 43. -/
def Obligations.TimeTrialRuns : Prop :=
  (
    ∀ (s : State) (w : Who) (v : Word),
      s.calm →
      s.dev.takes w pTrial 0x040 →
      w.mid.val ≤ 2 →
      s.dev.trialRefusal (getBits v 0 4) (s.dev.rd pTrial 0x044) = 0 →
      v.getLsbD 30 = false →
      Yields (exec (.trialGo w v) s) fun t =>
        t.dev.rd pTrial 0x040 = storeWord pTrial 0x040 (s.dev.rd pTrial 0x040) (setBits v 31 1 1) ∧
        t.dev.rd pTrial 0x048 = BitVec.ofNat 32 (2 ^ 31 + 16 * (getBits v 0 4)) ∧
        t.dev.rd pTrial 0x04C = trialInit ∧ t.dev.rd pTrial 0x050 = trialInit ∧
        t.dev.rd pTrial 0x054 = 0 ∧ t.dev.rd pTrial 0x05C = 0 ∧
        t.dev.rd pTrial 0x058 = BitVec.ofNat 32 (fullVectors (getBits v 0 4) (s.dev.rd pTrial 0x044)) ∧
        Kept s t { s.dev.answered with trial := ⟨(s.dev.rd pTrial 0x044), false, trialInit, trialInit, 0, none⟩ } (regsOf pTrial [0x040,
            0x048, 0x04C, 0x050, 0x054, 0x058, 0x05C]) []) ∧
  (
    ∀ (s : State) (w : Who) (v : Word) (r : Nat),
      s.calm →
      s.dev.takes w pTrial 0x040 →
      w.mid.val ≤ 2 →
      s.dev.trialRefusal (getBits v 0 4) (s.dev.rd pTrial 0x044) = r ∧ 0 < r →
      v.getLsbD 30 = false →
      Yields (exec (.trialGo w v) s) fun t =>
        t.dev.rd pTrial 0x040 = storeWord pTrial 0x040 (s.dev.rd pTrial 0x040) (setBits v 31 1 1) ∧
        t.dev.rd pTrial 0x048 = setBits (setBits (s.dev.rd pTrial 0x048) 0 3 4) 8 4 r ∧
        t.dev.evt pTrial 3 = true ∧
        Kept s t s.dev.answered [(pTrial, 0x040), (pTrial, 0x048)] [(pTrial, 3)]) ∧
  (
    ∀ (s : State) (w : Who) (v : Word),
      s.calm →
      2 < w.mid.val →
      Yields (exec (.trialGo w v) s) fun t =>
        t.dev.resp = ⟨.denied, []⟩ ∧
        Kept s t { s.dev with resp := t.dev.resp } [] []) ∧
  (
    ∀ (s : State) (bad : List (Nat × Word × BitVec 2)) (u : Word) (test vec : Nat),
      s.dev.life = .on →
      s.dev.b pTrial fTrBusy = true →
      s.dev.trialReady (s.dev.g pTrial fTrTest) s.dev.trial.target = true →
      s.dev.trial.suspended = false →
      s.dev.runs pTrial →
      (s.dev.g pTrial fTrTest) = test ∧ test ∈ [1, 2, 6, 7, 8, 9] →
      (s.dev.rd pTrial 0x054).toNat = vec ∧ vec + 1 < (s.dev.rd pTrial 0x058).toNat →
      (vec + 1) % segVectors test ≠ 0 →
      Yields (exec (.trialVector bad u) s) fun t =>
        (t.dev.rd pTrial 0x054).toNat = vec + 1 ∧
        (t.dev.rd pTrial 0x04C) = sigReads (s.dev.rd pTrial 0x04C) (vectorReads (segWords test) (vec % segVectors test * 128) bad) ∧
        (t.dev.rd pTrial 0x050) = sigReads (s.dev.rd pTrial 0x050) (vectorReads (segWords test) (vec % segVectors test * 128) []) ∧
        t.dev.b pTrial fTrEcc = (s.dev.b pTrial fTrEcc || bad.any fun x => x.2.2 != 0) ∧
        Kept s t s.dev (regsOf pTrial [0x048, 0x04C, 0x050, 0x054]) []) ∧
  (
    ∀ (s : State) (bad : List (Nat × Word × BitVec 2)) (u : Word) (vec : Nat),
      s.dev.life = .on →
      s.dev.b pTrial fTrBusy = true →
      s.dev.trialReady (s.dev.g pTrial fTrTest) s.dev.trial.target = true →
      s.dev.trial.suspended = false →
      s.dev.runs pTrial →
      (s.dev.g pTrial fTrTest) = 4 ∨ (s.dev.g pTrial fTrTest) = 5 →
      (s.dev.rd pTrial 0x054).toNat = vec ∧ vec + 1 = (s.dev.rd pTrial 0x058).toNat →
      Yields (exec (.trialVector bad u) s) fun t =>
        (t.dev.rd pTrial 0x04C) = crc32Word (s.dev.rd pTrial 0x04C) (u &&& 1) ∧
        (t.dev.rd pTrial 0x050) = crc32Word (s.dev.rd pTrial 0x050) 0 ∧
        (t.dev.rd pTrial 0x054).toNat = vec + 1 ∧
        t.dev.g pTrial fTrResult = (if (t.dev.rd pTrial 0x04C) = (t.dev.rd pTrial 0x050) then 1 else 2) ∧
        t.dev.evt pTrial 1 = (s.dev.evt pTrial 1 || decide ((t.dev.rd pTrial 0x04C) ≠ (t.dev.rd pTrial 0x050))) ∧
        t.dev.b pTrial fTrBusy = false ∧
        t.dev.rd64 pTrial 0x060 = s.dev.tk ∧
        t.dev.rd pTrial 0x068 = s.dev.rd pTrial 0x068 + 1 ∧
        t.dev.evt pTrial 0 = true ∧
        Kept s t { s.dev with trial := t.dev.trial } (regsOf pTrial [0x048, 0x04C, 0x050, 0x054, 0x05C, 0x060, 0x064, 0x068]) [(pTrial, 0),
            (pTrial, 1)]) ∧
  (
    ∀ (s : State) (bad : List (Nat × Word × BitVec 2)) (u : Word),
      s.dev.life = .on →
      s.dev.b pTrial fTrBusy = false ∨ (s.dev.trial.suspended = true ∧
          s.dev.trialReady (s.dev.g pTrial fTrTest) s.dev.trial.target = true) →
      Yields (exec (.trialVector bad u) s) fun t =>
        Kept s t s.dev [] []) ∧
  (
    ∀ (s : State) (w : Who) (v : Word),
      s.dev.life = .on →
      s.dev.b pTrial fTrBusy = true →
      s.dev.takes w pTrial 0x040 →
      w.mid.val ≤ 2 →
      v.getLsbD 31 = false →
      s.dev.trial.cpVec < 2 ^ 32 →
      Yields (exec (.trialAbort w v) s) fun t =>
        t.dev.rd pTrial 0x040 = storeWord pTrial 0x040 (s.dev.rd pTrial 0x040) (setBits v 30 1 1) ∧
        (t.dev.rd pTrial 0x04C) = s.dev.trial.cpSig ∧ (t.dev.rd pTrial 0x050) = s.dev.trial.cpExp ∧
        (t.dev.rd pTrial 0x054).toNat = s.dev.trial.cpVec ∧
        t.dev.g pTrial fTrResult = (if s.dev.trial.cpSig ≠ s.dev.trial.cpExp then 2 else if s.dev.trial.cpVec =
            (s.dev.rd pTrial 0x058).toNat then 1 else 3) ∧
        t.dev.evt pTrial 1 = (s.dev.evt pTrial 1 || decide (s.dev.trial.cpSig ≠ s.dev.trial.cpExp)) ∧
        t.dev.b pTrial fTrBusy = false ∧
        t.dev.rd64 pTrial 0x060 = s.dev.tk ∧
        t.dev.rd pTrial 0x068 = s.dev.rd pTrial 0x068 + 1 ∧
        t.dev.evt pTrial 0 = true ∧
        Kept s t { s.dev.answered with trial := { s.dev.trial with suspended := false } } (regsOf pTrial [0x040, 0x048, 0x04C, 0x050,
            0x054, 0x05C, 0x060, 0x064, 0x068]) [(pTrial, 0), (pTrial, 1)]) ∧
  (
    ∀ (s : State) (w : Who) (v : Word),
      s.calm →
      s.dev.takes w pTrial 0x040 →
      w.mid.val ≤ 2 →
      v.getLsbD 31 = false →
      Yields (exec (.trialAbort w v) s) fun t =>
        t.dev.rd pTrial 0x040 = storeWord pTrial 0x040 (s.dev.rd pTrial 0x040) (setBits v 30 1 1) ∧
        Kept s t s.dev.answered [(pTrial, 0x040)] []) ∧
  (
    ∀ (s : State),
      s.dev.life = .on →
      s.dev.b pTrial fTrBusy = true →
      s.dev.trialReady (s.dev.g pTrial fTrTest) s.dev.trial.target = true →
      s.dev.trial.suspended = true →
      s.dev.runs pTrial →
      (s.dev.g pTrial fTrTest) ≠ 3 →
      s.dev.trial.cpVec < 2 ^ 32 →
      Yields (exec .trialResume s) fun t =>
        (t.dev.rd pTrial 0x04C) = s.dev.trial.cpSig ∧ (t.dev.rd pTrial 0x050) = s.dev.trial.cpExp ∧
        (t.dev.rd pTrial 0x054).toNat = s.dev.trial.cpVec ∧
        Kept s t { s.dev with trial := { s.dev.trial with suspended := false } } (regsOf pTrial [0x04C, 0x050, 0x054]) []) ∧
  (
    ∀ (s : State),
      s.dev.life = .on →
      s.dev.b pTrial fTrBusy = false ∨ (s.dev.trial.suspended = false ∧
          s.dev.trialReady (s.dev.g pTrial fTrTest) s.dev.trial.target = true) →
      Yields (exec .trialResume s) fun t =>
        Kept s t s.dev [] [])

/-- TAP_INSTRUCTION and TAP_RESET (IDCODE) put the instruction in force. Where it takes the balls from the functions, or gives them
back, every lane that is not OFF goes to SEEK; where it does neither, nothing else changes. In DOZE, where the TAP is held in
Test-Logic-Reset (R447), nothing changes. In reset the TAP works and nothing else changes. Readings and choices:
notes/assumptions/13, 44. -/
def Obligations.TapTakesTheBalls : Prop :=
  (
    ∀ (s : State) (i : TapInstr),
      s.calm →
      s.dev.g 0x02 fPowerState ≠ 2 →
      (s.dev.tapHolds = true ↔ (i = .extest ∨ i = .clamp ∨ i = .highz ∨ i = .extestPulse ∨ i = .extestTrain)) →
      Yields (exec (.tapInstruction i) s) fun t =>
        t.dev.tap = i ∧
        Kept s t { s.dev with tap := i } [] []) ∧
  (
    ∀ (s : State) (i : TapInstr),
      s.calm →
      s.dev.g 0x02 fPowerState ≠ 2 →
      ¬ (s.dev.tapHolds = true ↔ (i = .extest ∨ i = .clamp ∨ i = .highz ∨ i = .extestPulse ∨ i = .extestTrain)) →
      Yields (exec (.tapInstruction i) s) fun t =>
        t.dev.tap = i ∧
        (∀ n : Lane, t.dev.laneState n = (if s.dev.laneState n = stOff then stOff else stSeek) ∧
            t.dev.hostState n = (if s.dev.hostState n = stOff then stOff else stSeek)) ∧
        t.mem = s.mem ∧ t.pending = s.pending ∧ t.dev.tk = s.dev.tk ∧ t.dev.live = s.dev.live) ∧
  (
    ∀ (s : State),
      s.calm →
      s.dev.g 0x02 fPowerState ≠ 2 →
      s.dev.tapHolds = false →
      Yields (exec .tapReset s) fun t =>
        t.dev.tap = .idcode ∧
        Kept s t { s.dev with tap := .idcode } [] []) ∧
  (
    ∀ (s : State),
      s.calm →
      s.dev.g 0x02 fPowerState ≠ 2 →
      s.dev.tapHolds = true →
      Yields (exec .tapReset s) fun t =>
        t.dev.tap = .idcode ∧
        (∀ n : Lane, t.dev.laneState n = (if s.dev.laneState n = stOff then stOff else stSeek) ∧
            t.dev.hostState n = (if s.dev.hostState n = stOff then stOff else stSeek)) ∧
        t.mem = s.mem ∧ t.pending = s.pending ∧ t.dev.tk = s.dev.tk) ∧
  (
    ∀ (s : State) (i : TapInstr),
      s.calm →
      s.dev.g 0x02 fPowerState = 2 →
      Yields (exec (.tapInstruction i) s) fun t =>
        Kept s t s.dev [] []) ∧
  (
    ∀ (s : State),
      s.calm →
      s.dev.g 0x02 fPowerState = 2 →
      Yields (exec .tapReset s) fun t =>
        Kept s t s.dev [] []) ∧
  (
    ∀ (s : State) (i : TapInstr),
      s.dev.life = .held →
      Yields (exec (.tapInstruction i) s) fun t =>
        t = { s with dev := { s.dev with tap := i } })

/-- By a master other than a Stride engine (whose access traps instead, R212): an access to an implemented page slot that is narrower
than 32 bits or misaligned receives DENIED, reads 0 and has no effect; an access to a slot with no page receives UNMAPPED (which
R39 puts before DENIED), reads 0 and has no effect. Within a page that answers, an offset above the last register reads 0 with OK,
and a write there is discarded. -/
def Obligations.RegisterPageAccesses : Prop :=
  (
    ∀ (s : State) (w : Who) (addr : Word) (size : Size) (v : Word) (x : Facts),
      s.calm →
      isEngine w = false →
      0x00100000 ≤ addr.toNat ∧ addr.toNat < 0x00200000 →
      (kindOf ((addr.toNat - 0x00100000) / 4096)).isSome = true →
      size ≠ .word ∨ addr.toNat % 4 ≠ 0 →
      Yields (exec (.regWrite w addr size v x) s) fun t =>
        t.dev.resp = ⟨.denied, []⟩ ∧
        Kept s t { s.dev with resp := t.dev.resp } [] []) ∧
  (
    ∀ (s : State) (w : Who) (addr : Word) (size : Size) (pc : Word) (bad : List (Fin 2)),
      s.calm →
      isEngine w = false →
      0x00100000 ≤ addr.toNat ∧ addr.toNat < 0x00200000 →
      (kindOf ((addr.toNat - 0x00100000) / 4096)).isSome = true →
      size ≠ .word ∨ addr.toNat % 4 ≠ 0 →
      Yields (exec (.hostMemoryRead (.master w addr size pc) bad) s) fun t =>
        t.dev.resp = ⟨.denied, [0]⟩ ∧
        Kept s t { s.dev with resp := t.dev.resp } [] []) ∧
  (
    ∀ (s : State) (w : Who) (addr : Word) (size : Size) (v : Word) (x : Facts),
      s.calm →
      isEngine w = false →
      0x00100000 ≤ addr.toNat ∧ addr.toNat < 0x00200000 →
      kindOf ((addr.toNat - 0x00100000) / 4096) = none →
      Yields (exec (.regWrite w addr size v x) s) fun t =>
        t.dev.resp = ⟨.unmapped, []⟩ ∧
        Kept s t { s.dev with resp := t.dev.resp } [] []) ∧
  (
    ∀ (s : State) (w : Who) (addr : Word) (size : Size) (pc : Word) (bad : List (Fin 2)),
      s.calm →
      isEngine w = false →
      0x00100000 ≤ addr.toNat ∧ addr.toNat < 0x00200000 →
      kindOf ((addr.toNat - 0x00100000) / 4096) = none →
      Yields (exec (.hostMemoryRead (.master w addr size pc) bad) s) fun t =>
        t.dev.resp = ⟨.unmapped, [0]⟩ ∧
        Kept s t { s.dev with resp := t.dev.resp } [] []) ∧
  (
    ∀ (s : State) (w : Who) (p : Fin 256) (r : Fin 1024) (v : Word) (x : Facts),
      s.calm →
      (∀ o : Fin 1024, r.val ≤ o.val → regSpec p.val (4 * o.val) = none) →
      s.dev.takes w p.val (4 * r.val) →
      Yields (exec (.regWrite w (BitVec.ofNat 32 (regAddr p.val (4 * r.val))) .word v x) s) fun t =>
        Kept s t s.dev.answered [] []) ∧
  (
    ∀ (s : State) (w : Who) (p : Fin 256) (r : Fin 1024) (pc : Word) (bad : List (Fin 2)),
      s.calm →
      (∀ o : Fin 1024, r.val ≤ o.val → regSpec p.val (4 * o.val) = none) →
      s.dev.shows w p.val (4 * r.val) →
      Yields (exec (.hostMemoryRead (.master w (BitVec.ofNat 32 (regAddr p.val (4 * r.val))) .word pc) bad) s) fun t =>
        t.dev.resp = ⟨.ok, [0]⟩ ∧
        Kept s t { s.dev with resp := t.dev.resp } [] [])

/-- A write to TRIP_CFG (by REG_WRITE or SHADOW_WRITE) stores thr, in steps of 0.25 °C, limited to 110.00 °C to 125.00 °C. While the
shadow t_pace is at or above the shadow thr, the consistency check of THERMAL fails and a write of 1 to its ARM is refused: ARM
keeps its value; otherwise it arms. -/
def Obligations.TripThresholdIsLimited : Prop :=
  (
    ∀ (s : State) (w : Who) (v : Word),
      s.calm →
      s.dev.takes w pTherm 0x044 →
      Yields (exec (.shadowWrite w 0x06 0x11 v) s) fun t =>
        signed 12 (t.dev.g pTherm fTripThr) =
            (if (signed 12 (getBits v 0 12)) < 440 then 440 else if 500 < (signed 12 (getBits v 0 12)) then 500 else (signed 12 (getBits v 0 12)))) ∧
  (
    ∀ (s : State) (w : Who) (v : Word) (x : Facts),
      s.calm →
      s.dev.takes w pTherm 0x044 →
      Yields (exec (.regWrite w 0x00106044 .word v x) s) fun t =>
        signed 12 (t.dev.g pTherm fTripThr) =
            (if (signed 12 (getBits v 0 12)) < 440 then 440 else if 500 < (signed 12 (getBits v 0 12)) then 500 else (signed 12 (getBits v 0 12)))) ∧
  (
    ∀ (s : State) (w : Who) (v : Word),
      s.calm →
      s.dev.takes w pTherm 0x028 →
      v.getLsbD 0 = true →
      Yields (exec (.arm w 0x06 v) s) fun t =>
        t.dev.b pTherm fArm = (s.dev.b pTherm fArm || decide (signed 12 (s.dev.g pTherm fTPace) < signed 12 (s.dev.g pTherm fTripThr))) ∧
        Kept s t s.dev.answered [(pTherm, 0x028)] [])
end

