-- ==== Sys2Proof/Laws/Exec.lean ====
section
/-! SUPPORT. The form of each command's meaning: what acts on the device only, what may act on the memories, and what acts in reset. -/

namespace Sys2Proof.Machine

theorem act_of_actOn {e : State → Out} {p : Nat} {f : Dev → Dev} (h : ∀ s, e s = actOn p s f) : ∃ f, ∀ s, e s = act s f := ⟨_, h⟩

theorem actState_of_actStateOn {e : State → Out} {p : Nat} {f : State → State} (h : ∀ s, e s = actStateOn p s f) :
    ∃ f, ∀ s, e s = actState s f := ⟨_, h⟩

/-- Each command but the events of reset and supply is an effect on the device, an effect on the device and the memories, or an
effect on pins that reset does not hold; `act`, `actState` and `actPin` say what surrounds it. -/
theorem exec_form (c : Instr) : (∃ f, ∀ s, exec c s = act s f) ∨ (∃ f, ∀ s, exec c s = actState s f) ∨
    (∃ f g, ∀ s, exec c s = actPin s f g) ∨ supplyCommand c = true :=
  match c with
  | .regWrite w addr size v x => .inr (.inl ⟨_, fun s => (rfl : execRegWrite w addr size v x s = actState s _)⟩)
  | .shadowWrite w p r v => .inr (.inl ⟨_, fun s => (rfl : execShadowWrite w p r v s = actState s _)⟩)
  | .softRst w p v => .inl ⟨_, fun s => (rfl : execSoftRst w p v s = act s _)⟩
  | .softResetComplete p => .inl ⟨_, fun s => (rfl : execSoftResetComplete p s = act s _)⟩
  | .clkOff w p v => .inl ⟨_, fun s => (rfl : execClkOff w p v s = act s _)⟩
  | .wlock w p v => .inl ⟨_, fun s => (rfl : execWlock w p v s = act s _)⟩
  | .evtStatusClear w p v => .inl ⟨_, fun s => (rfl : execEvtStatusClear w p v s = act s _)⟩
  | .evtForce w p v => .inl ⟨_, fun s => (rfl : execEvtForce w p v s = act s _)⟩
  | .arm w p v => .inl ⟨_, fun s => (rfl : execArm w p v s = act s _)⟩
  | .commit w v => .inl ⟨_, fun s => (rfl : execCommit w v s = act s _)⟩
  | .commitDecide => .inl ⟨_, fun s => (rfl : execCommitDecide s = act s _)⟩
  | .commitDeadline => .inl ⟨_, fun s => (rfl : execCommitDeadline s = act s _)⟩
  | .commitGate p base => .inl ⟨_, fun s => (rfl : execCommitGate p base s = act s _)⟩
  | .wideReadLo w p r => .inl ⟨_, fun s => (rfl : execWideReadLo w p r s = act s _)⟩
  | .wideReadHi w p r => .inl ⟨_, fun s => (rfl : execWideReadHi w p r s = act s _)⟩
  | .wideWriteLo w p r v => .inr (.inl ⟨_, fun s => (rfl : execWideWriteLo w p r v s = actState s _)⟩)
  | .wideWriteHi w p r v => .inr (.inl ⟨_, fun s => (rfl : execWideWriteHi w p r v s = actState s _)⟩)
  | .lrxEnSet w n v => .inl ⟨_, fun s => (rfl : execLrxEnSet w n v s = act s _)⟩
  | .lrxEnClear w n v => .inl ⟨_, fun s => (rfl : execLrxEnClear w n v s = act s _)⟩
  | .sigDet sd n => .inl (act_of_actOn fun s => (rfl : execSigDet sd n s = actOn _ s _))
  | .los sd n => .inl (act_of_actOn fun s => (rfl : execLos sd n s = actOn _ s _))
  | .cdrLock sd n freq phase => .inl (act_of_actOn fun s => (rfl : execCdrLock sd n freq phase s = actOn _ s _))
  | .cdrUnlock sd n freq => .inl (act_of_actOn fun s => (rfl : execCdrUnlock sd n freq s = actOn _ s _))
  | .freqRange sd n high => .inl (act_of_actOn fun s => (rfl : execFreqRange sd n high s = actOn _ s _))
  | .cdrLossTimeout sd n => .inl (act_of_actOn fun s => (rfl : execCdrLossTimeout sd n s = actOn _ s _))
  | .agcDone sd n gain peak snr => .inl (act_of_actOn fun s => (rfl : execAgcDone sd n gain peak snr s = actOn _ s _))
  | .clipWindowEnd n count => .inl (act_of_actOn fun s => (rfl : execClipWindowEnd n count s = actOn _ s _))
  | .adcCalRun w n v => .inl ⟨_, fun s => (rfl : execAdcCalRun w n v s = act s _)⟩
  | .calRunStart n => .inl (act_of_actOn fun s => (rfl : execCalRunStart n s = actOn _ s _))
  | .calObservationEnd n targets => .inl (act_of_actOn fun s => (rfl : execCalObservationEnd n targets s = actOn _ s _))
  | .calApply n => .inl (act_of_actOn fun s => (rfl : execCalApply n s = actOn _ s _))
  | .prbsLock sd n => .inl (act_of_actOn fun s => (rfl : execPrbsLock sd n s = actOn _ s _))
  | .prbsLockLost sd n => .inl (act_of_actOn fun s => (rfl : execPrbsLockLost sd n s = actOn _ s _))
  | .prbsErr sd n bits errBits errSyms => .inl (act_of_actOn fun s => (rfl : execPrbsErr sd n bits errBits errSyms s = actOn _ s _))
  | .cntOvf sd n bits errBits errSyms => .inl (act_of_actOn fun s => (rfl : execCntOvf sd n bits errBits errSyms s = actOn _ s _))
  | .prbsSnap sd w n v => .inl ⟨_, fun s => (rfl : execPrbsSnap sd w n v s = act s _)⟩
  | .prbsClr sd w n v => .inl ⟨_, fun s => (rfl : execPrbsClr sd w n v s = act s _)⟩
  | .peakSearchDwellEnd n snr => .inl (act_of_actOn fun s => (rfl : execPeakSearchDwellEnd n snr s = actOn _ s _))
  | .trainTimeout n => .inl (act_of_actOn fun s => (rfl : execTrainTimeout n s = actOn _ s _))
  | .laneFaultDwellEnd n => .inl (act_of_actOn fun s => (rfl : execLaneFaultDwellEnd n s = actOn _ s _))
  | .pacerCycle n b => .inl (act_of_actOn fun s => (rfl : execPacerCycle n b s = actOn _ s _))
  | .handoffStart n => .inl (act_of_actOn fun s => (rfl : execHandoffStart n s = actOn _ s _))
  | .handoffStep n => .inl (act_of_actOn fun s => (rfl : execHandoffStep n s = actOn _ s _))
  | .handoffDone n => .inl (act_of_actOn fun s => (rfl : execHandoffDone n s = actOn _ s _))
  | .holdReq w n v => .inl ⟨_, fun s => (rfl : execHoldReq w n v s = act s _)⟩
  | .pacerAuto w n v => .inl ⟨_, fun s => (rfl : execPacerAuto w n v s = act s _)⟩
  | .pacerSwap w n v => .inl ⟨_, fun s => (rfl : execPacerSwap w n v s = act s _)⟩
  | .pacerRestart w n v => .inl ⟨_, fun s => (rfl : execPacerRestart w n v s = act s _)⟩
  | .paceCfgWrite w n v => .inl ⟨_, fun s => (rfl : execPaceCfgWrite w n v s = act s _)⟩
  | .paceUnitsReady n => .inl (act_of_actOn fun s => (rfl : execPaceUnitsReady n s = actOn _ s _))
  | .paceApplied n => .inl (act_of_actOn fun s => (rfl : execPaceApplied n s = actOn _ s _))
  | .ltxEnSet w n v => .inl ⟨_, fun s => (rfl : execLtxEnSet w n v s = act s _)⟩
  | .ltxEnClear w n v => .inl ⟨_, fun s => (rfl : execLtxEnClear w n v s = act s _)⟩
  | .ltxStartPowered n => .inl (act_of_actOn fun s => (rfl : execLtxStartPowered n s = actOn _ s _))
  | .unsquelchRampStep sd n => .inl (act_of_actOn fun s => (rfl : execUnsquelchRampStep sd n s = actOn _ s _))
  | .unsquelchRampEnd sd n => .inl (act_of_actOn fun s => (rfl : execUnsquelchRampEnd sd n s = actOn _ s _))
  | .squelchReq sd w n v => .inl ⟨_, fun s => (rfl : execSquelchReq sd w n v s = act s _)⟩
  | .followClr w n v => .inl ⟨_, fun s => (rfl : execFollowClr w n v s = act s _)⟩
  | .outFault sd n => .inl (act_of_actOn fun s => (rfl : execOutFault sd n s = actOn _ s _))
  | .fadeCopyDone n => .inl (act_of_actOn fun s => (rfl : execFadeCopyDone n s = actOn _ s _))
  | .fadeStart n => .inl (act_of_actOn fun s => (rfl : execFadeStart n s = actOn _ s _))
  | .fadeStep n => .inl (act_of_actOn fun s => (rfl : execFadeStep n s = actOn _ s _))
  | .fadeDone n => .inl (act_of_actOn fun s => (rfl : execFadeDone n s = actOn _ s _))
  | .skewFineStep n => .inl (act_of_actOn fun s => (rfl : execSkewFineStep n s = actOn _ s _))
  | .swingSlewStep n => .inl (act_of_actOn fun s => (rfl : execSwingSlewStep n s = actOn _ s _))
  | .dacCalRun w n v => .inl ⟨_, fun s => (rfl : execDacCalRun w n v s = act s _)⟩
  | .ltxCalStart n => .inl (act_of_actOn fun s => (rfl : execLtxCalStart n s = actOn _ s _))
  | .ltxCalObservationEnd n counts targets => .inl (act_of_actOn fun s => (rfl : execLtxCalObservationEnd n counts targets s = actOn _ s _))
  | .ltxCalApply n => .inl (act_of_actOn fun s => (rfl : execLtxCalApply n s = actOn _ s _))
  | .ltxCalRetry n => .inl (act_of_actOn fun s => (rfl : execLtxCalRetry n s = actOn _ s _))
  | .ltxClipWindowEnd n ss => .inl (act_of_actOn fun s => (rfl : execLtxClipWindowEnd n ss s = actOn _ s _))
  | .errInj sd w n v => .inl ⟨_, fun s => (rfl : execErrInj sd w n v s = act s _)⟩
  | .innerEncode n bits => .inl (act_of_actOn fun s => (rfl : execInnerEncode n bits s = actOn _ s _))
  | .innerCodewordDecode n soft => .inl (act_of_actOn fun s => (rfl : execInnerCodewordDecode n soft s = actOn _ s _))
  | .cwLock n offset => .inl (act_of_actOn fun s => (rfl : execCwLock n offset s = actOn _ s _))
  | .cwLockLost n => .inl (act_of_actOn fun s => (rfl : execCwLockLost n s = actOn _ s _))
  | .innerFailThr n fails => .inl (act_of_actOn fun s => (rfl : execInnerFailThr n fails s = actOn _ s _))
  | .amLock n => .inl (act_of_actOn fun s => (rfl : execAmLock n s = actOn _ s _))
  | .amLost n => .inl (act_of_actOn fun s => (rfl : execAmLost n s = actOn _ s _))
  | .hostRsDecode n data errs => .inl (act_of_actOn fun s => (rfl : execHostRsDecode n data errs s = actOn _ s _))
  | .lapStart n lat => .inl (act_of_actOn fun s => (rfl : execLapStart n lat s = actOn _ s _))
  | .lapHeaderReceived n h spaced arrival latRx => .inl (act_of_actOn fun s => (rfl : execLapHeaderReceived n h spaced arrival latRx s = actOn _ s _))
  | .rsCodewordDecode n fs errs slot23 => .inl (act_of_actOn fun s => (rfl : execRsCodewordDecode n fs errs slot23 s = actOn _ s _))
  | .rateMatchBlock n b taken => .inl (act_of_actOn fun s => (rfl : execRateMatchBlock n b taken s = actOn _ s _))
  | .tuneWindowEnd n => .inl (act_of_actOn fun s => (rfl : execTuneWindowEnd n s = actOn _ s _))
  | .codingCntClr w p v => .inl ⟨_, fun s => (rfl : execCodingCntClr w p v s = act s _)⟩
  | .hrxEnSet w n v => .inl ⟨_, fun s => (rfl : execHrxEnSet w n v s = act s _)⟩
  | .hrxEnClear w n v => .inl ⟨_, fun s => (rfl : execHrxEnClear w n v s = act s _)⟩
  | .htxEnSet w n v => .inl ⟨_, fun s => (rfl : execHtxEnSet w n v s = act s _)⟩
  | .htxEnClear w n v => .inl ⟨_, fun s => (rfl : execHtxEnClear w n v s = act s _)⟩
  | .htxStartPowered n => .inl (act_of_actOn fun s => (rfl : execHtxStartPowered n s = actOn _ s _))
  | .warmupFrameReceived n syms spaced => .inl (act_of_actOn fun s => (rfl : execWarmupFrameReceived n syms spaced s = actOn _ s _))
  | .warmupFrameStart n => .inl (act_of_actOn fun s => (rfl : execWarmupFrameStart n s = actOn _ s _))
  | .warmupTapUpdate n => .inl (act_of_actOn fun s => (rfl : execWarmupTapUpdate n s = actOn _ s _))
  | .searchMeasureEnd n snr => .inl (act_of_actOn fun s => (rfl : execSearchMeasureEnd n snr s = actOn _ s _))
  | .reqTimeout n => .inl (act_of_actOn fun s => (rfl : execReqTimeout n s = actOn _ s _))
  | .handover n ms => .inl (act_of_actOn fun s => (rfl : execHandover n ms s = actOn _ s _))
  | .staticAccept n snr ms => .inl (act_of_actOn fun s => (rfl : execStaticAccept n snr ms s = actOn _ s _))
  | .attemptTimerExpiry n => .inl (act_of_actOn fun s => (rfl : execAttemptTimerExpiry n s = actOn _ s _))
  | .hostFaultDwellEnd n => .inl (act_of_actOn fun s => (rfl : execHostFaultDwellEnd n s = actOn _ s _))
  | .hostTableRefresh n snr => .inl (act_of_actOn fun s => (rfl : execHostTableRefresh n snr s = actOn _ s _))
  | .hostFfeLmsUpdate n signs => .inl (act_of_actOn fun s => (rfl : execHostFfeLmsUpdate n signs s = actOn _ s _))
  | .hostGateWindow n b => .inl (act_of_actOn fun s => (rfl : execHostGateWindow n b s = actOn _ s _))
  | .htxFirRampStep n => .inl (act_of_actOn fun s => (rfl : execHtxFirRampStep n s = actOn _ s _))
  | .htxSwingSlewStep n => .inl (act_of_actOn fun s => (rfl : execHtxSwingSlewStep n s = actOn _ s _))
  | .refActivityLoss r => .inl (act_of_actOn fun s => (rfl : execRefActivityLoss r s = actOn _ s _))
  | .refFreqCheck r count => .inl (act_of_actOn fun s => (rfl : execRefFreqCheck r count s = actOn _ s _))
  | .refOk r ppm => .inl (act_of_actOn fun s => (rfl : execRefOk r ppm s = actOn _ s _))
  | .pllUnlock k => .inl (act_of_actOn fun s => (rfl : execPllUnlock k s = actOn _ s _))
  | .synthGlideEnd sd n => .inl (act_of_actOn fun s => (rfl : execSynthGlideEnd sd n s = actOn _ s _))
  | .rclkCfgWrite w k v => .inl ⟨_, fun s => (rfl : execRclkCfgWrite w k v s = act s _)⟩
  | .squadHaltReq w n v => .inl ⟨_, fun s => (rfl : execSquadHaltReq w n v s = act s _)⟩
  | .squadHalted n => .inl (act_of_actOn fun s => (rfl : execSquadHalted n s = actOn _ s _))
  | .squadRun w n v => .inl ⟨_, fun s => (rfl : execSquadRun w n v s = act s _)⟩
  | .engineTrap n e cause pc addr => .inl (act_of_actOn fun s => (rfl : execEngineTrap n e cause pc addr s = actOn _ s _))
  | .engineWatchdog n e pc => .inl (act_of_actOn fun s => (rfl : execEngineWatchdog n e pc s = actOn _ s _))
  | .autoRecover n => .inl (act_of_actOn fun s => (rfl : execAutoRecover n s = actOn _ s _))
  | .dmaTransfer n c m => .inr (.inl (actState_of_actStateOn fun s => (rfl : execDmaTransfer n c m s = actStateOn _ s _)))
  | .dmaClr w n v => .inl ⟨_, fun s => (rfl : execDmaClr w n v s = act s _)⟩
  | .reloadGo w n => .inl ⟨_, fun s => (rfl : execReloadGo w n s = act s _)⟩
  | .reloadStart n => .inr (.inl (actState_of_actStateOn fun s => (rfl : execReloadStart n s = actStateOn _ s _)))
  | .reloadVerify n id => .inr (.inl (actState_of_actStateOn fun s => (rfl : execReloadVerify n id s = actStateOn _ s _)))
  | .reloadDone n => .inl (act_of_actOn fun s => (rfl : execReloadDone n s = actOn _ s _))
  | .lend w n v => .inl ⟨_, fun s => (rfl : execLend w n v s = act s _)⟩
  | .lendRelease n => .inl (act_of_actOn fun s => (rfl : execLendRelease n s = actOn _ s _))
  | .squadIdent w n tag => .inl ⟨_, fun s => (rfl : execSquadIdent w n tag s = act s _)⟩
  | .stats w n tag => .inl ⟨_, fun s => (rfl : execStats w n tag s = act s _)⟩
  | .exclude w n tag => .inl ⟨_, fun s => (rfl : execExclude w n tag s = act s _)⟩
  | .include w n tag => .inl ⟨_, fun s => (rfl : execInclude w n tag s = act s _)⟩
  | .engMap w n tag => .inl ⟨_, fun s => (rfl : execEngMap w n tag s = act s _)⟩
  | .cmdDone n util longest skipped => .inl (act_of_actOn fun s => (rfl : execCmdDone n util longest skipped s = actOn _ s _))
  | .cmdTimeout n => .inl (act_of_actOn fun s => (rfl : execCmdTimeout n s = actOn _ s _))
  | .splitClr w v => .inl ⟨_, fun s => (rfl : execSplitClr w v s = act s _)⟩
  | .cntWrite w k v => .inl ⟨_, fun s => (rfl : execCntWrite w k v s = act s _)⟩
  | .splitCntWrap k n => .inl (act_of_actOn fun s => (rfl : execSplitCntWrap k n s = actOn _ s _))
  | .bwWinWrite w v => .inl ⟨_, fun s => (rfl : execBwWinWrite w v s = act s _)⟩
  | .bwWindowEnd bytes => .inl (act_of_actOn fun s => (rfl : execBwWindowEnd bytes s = actOn _ s _))
  | .tagInstruction t => .inl (act_of_actOn fun s => (rfl : execTagInstruction t s = actOn _ s _))
  | .tagClr w => .inl ⟨_, fun s => (rfl : execTagClr w s = act s _)⟩
  | .captureStart w => .inl ⟨_, fun s => (rfl : execCaptureStart w s = act s _)⟩
  | .captureRelease w => .inl ⟨_, fun s => (rfl : execCaptureRelease w s = act s _)⟩
  | .captureAbort w => .inl ⟨_, fun s => (rfl : execCaptureAbort w s = act s _)⟩
  | .swTrig w ts => .inl ⟨_, fun s => (rfl : execSwTrig w ts s = act s _)⟩
  | .triggerCondition ts => .inl (act_of_actOn fun s => (rfl : execTriggerCondition ts s = actOn _ s _))
  | .trigInEdge rising ts => .inl (act_of_actOn fun s => (rfl : execTrigInEdge rising ts s = actOn _ s _))
  | .autoTriggerTimeout ts => .inl (act_of_actOn fun s => (rfl : execAutoTriggerTimeout ts s = actOn _ s _))
  | .trigOutPulseEnd => .inl (act_of_actOn fun s => (rfl : execTrigOutPulseEnd s = actOn _ s _))
  | .capDone xs => .inr (.inl (actState_of_actStateOn fun s => (rfl : execCapDone xs s = actStateOn _ s _)))
  | .skewRun w => .inl ⟨_, fun s => (rfl : execSkewRun w s = act s _)⟩
  | .skewCalDone vals => .inl (act_of_actOn fun s => (rfl : execSkewCalDone vals s = actOn _ s _))
  | .anaGo w => .inr (.inl ⟨_, fun s => (rfl : execAnaGo w s = actState s _)⟩)
  | .anaEnd eye halt => .inr (.inl (actState_of_actStateOn fun s => (rfl : execAnaEnd eye halt s = actStateOn _ s _)))
  | .anaClear w => .inr (.inl ⟨_, fun s => (rfl : execAnaClear w s = actState s _)⟩)
  | .thermalReading raws => .inl ⟨_, fun s => (rfl : execThermalReading raws s = act s _)⟩
  | .sensClr w v => .inl ⟨_, fun s => (rfl : execSensClr w v s = act s _)⟩
  | .calTempCheck => .inr (.inl (actState_of_actStateOn fun s => (rfl : execCalTempCheck s = actStateOn _ s _)))
  | .calCmdRun w v => .inr (.inl ⟨_, fun s => (rfl : execCalCmdRun w v s = actState s _)⟩)
  | .store w v => .inr (.inl ⟨_, fun s => (rfl : execStore w v s = actState s _)⟩)
  | .restorePrev w v => .inr (.inl ⟨_, fun s => (rfl : execRestorePrev w v s = actState s _)⟩)
  | .reloadStore w v => .inr (.inl ⟨_, fun s => (rfl : execReloadStore w v s = actState s _)⟩)
  | .storeDue => .inr (.inl (actState_of_actStateOn fun s => (rfl : execStoreDue s = actStateOn _ s _)))
  | .storeWriteDone bad => .inr (.inl (actState_of_actStateOn fun s => (rfl : execStoreWriteDone bad s = actStateOn _ s _)))
  | .madcEn w u v => .inl ⟨_, fun s => (rfl : execMadcEn w u v s = act s _)⟩
  | .madcCorePowered u => .inl (act_of_actOn fun s => (rfl : execMadcCorePowered u s = actOn _ s _))
  | .madcStart w u v => .inl ⟨_, fun s => (rfl : execMadcStart w u v s = act s _)⟩
  | .madcStop w u v => .inl ⟨_, fun s => (rfl : execMadcStop w u v s = act s _)⟩
  | .madcPassStart u late => .inl (act_of_actOn fun s => (rfl : execMadcPassStart u late s = actOn _ s _))
  | .madcConversionEnd u x => .inl (act_of_actOn fun s => (rfl : execMadcConversionEnd u x s = actOn _ s _))
  | .urgReq w u v => .inl ⟨_, fun s => (rfl : execUrgReq w u v s = act s _)⟩
  | .urgDone u x => .inl (act_of_actOn fun s => (rfl : execUrgDone u x s = actOn _ s _))
  | .madcOffsetRunStart => .inl ⟨_, fun s => (rfl : execMadcOffsetRunStart s = act s _)⟩
  | .madcOffsetRunEnd u target => .inl (act_of_actOn fun s => (rfl : execMadcOffsetRunEnd u target s = actOn _ s _))
  | .syncInEdge rising => .inl ⟨_, fun s => (rfl : execSyncInEdge rising s = act s _)⟩
  | .filterReset w v => .inl ⟨_, fun s => (rfl : execFilterReset w v s = act s _)⟩
  | .filterOutput c live new => .inl (act_of_actOn fun s => (rfl : execFilterOutput c live new s = actOn _ s _))
  | .hdacTick c => .inl ⟨_, fun s => (rfl : execHdacTick c s = act s _)⟩
  | .hdacCodeWrite w c v => .inl ⟨_, fun s => (rfl : execHdacCodeWrite w c v s = act s _)⟩
  | .spanHoldEnd c => .inl (act_of_actOn fun s => (rfl : execSpanHoldEnd c s = actOn _ s _))
  | .spanSwitchDone c => .inl (act_of_actOn fun s => (rfl : execSpanSwitchDone c s = actOn _ s _))
  | .swClr w v => .inl ⟨_, fun s => (rfl : execSwClr w v s = act s _)⟩
  | .dacClrNFall => .inr (.inr (.inl ⟨_, _, fun s => (rfl : execDacClrNFall s = actPin s _ _)⟩))
  | .dacClrNRise => .inr (.inr (.inl ⟨_, _, fun s => (rfl : execDacClrNRise s = actPin s _ _)⟩))
  | .scrubWord => .inl ⟨_, fun s => (rfl : execScrubWord s = act s _)⟩
  | .scrubPeriodEnd => .inl ⟨_, fun s => (rfl : execScrubPeriodEnd s = act s _)⟩
  | .scrubRestart w v => .inl ⟨_, fun s => (rfl : execScrubRestart w v s = act s _)⟩
  | .scrubClr w v => .inl ⟨_, fun s => (rfl : execScrubClr w v s = act s _)⟩
  | .hostMemoryRead c bad => .inr (.inl ⟨_, fun s => (rfl : execHostMemoryRead c bad s = actState s _)⟩)
  | .coachMemoryException loc bad => .inr (.inl ⟨_, fun s => (rfl : execCoachMemoryException loc bad s = actState s _)⟩)
  | .refereeEvent p src => .inl ⟨_, fun s => (rfl : execRefereeEvent p src s = act s _)⟩
  | .reactionEnd p src => .inl ⟨_, fun s => (rfl : execReactionEnd p src s = act s _)⟩
  | .watchWindowClose idx w => .inl ⟨_, fun s => (rfl : execWatchWindowClose idx w s = act s _)⟩
  | .watchCfgWrite who idx w win v => .inl ⟨_, fun s => (rfl : execWatchCfgWrite who idx w win v s = act s _)⟩
  | .logClr w v => .inl ⟨_, fun s => (rfl : execLogClr w v s = act s _)⟩
  | .firstClr w v => .inl ⟨_, fun s => (rfl : execFirstClr w v s = act s _)⟩
  | .spiWrite h ws cut x => .inr (.inl ⟨_, fun s => (rfl : execSpiWrite h ws cut x s = actState s _)⟩)
  | .spiRead h cut late => .inr (.inl ⟨_, fun s => (rfl : execSpiRead h cut late s = actState s _)⟩)
  | .batonWrite f x => .inr (.inl ⟨_, fun s => (rfl : execBatonWrite f x s = actState s _)⟩)
  | .batonRead f => .inr (.inl ⟨_, fun s => (rfl : execBatonRead f s = actState s _)⟩)
  | .batonPoll f => .inr (.inl ⟨_, fun s => (rfl : execBatonPoll f s = actState s _)⟩)
  | .batonResponse => .inl ⟨_, fun s => (rfl : execBatonResponse s = act s _)⟩
  | .batonRespTimeout => .inl ⟨_, fun s => (rfl : execBatonRespTimeout s = act s _)⟩
  | .pollSlot late => .inl ⟨_, fun s => (rfl : execPollSlot late s = act s _)⟩
  | .startingCall lead cells => .inl ⟨_, fun s => (rfl : execStartingCall lead cells s = act s _)⟩
  | .send w c v => .inl ⟨_, fun s => (rfl : execSend w c v s = act s _)⟩
  | .done w c => .inl ⟨_, fun s => (rfl : execDone w c s = act s _)⟩
  | .doorbellClear w r v => .inl ⟨_, fun s => (rfl : execDoorbellClear w r v s = act s _)⟩
  | .mboxTimeout c => .inl (act_of_actOn fun s => (rfl : execMboxTimeout c s = actOn _ s _))
  | .rxResetSpi w v => .inl ⟨_, fun s => (rfl : execRxResetSpi w v s = act s _)⟩
  | .rxResetBaton w v => .inl ⟨_, fun s => (rfl : execRxResetBaton w v s = act s _)⟩
  | .lockRead w idx => .inl ⟨_, fun s => (rfl : execLockRead w idx s = act s _)⟩
  | .lockRelease w idx v => .inl ⟨_, fun s => (rfl : execLockRelease w idx v s = act s _)⟩
  | .releaseAll w v => .inl ⟨_, fun s => (rfl : execReleaseAll w v s = act s _)⟩
  | .powerReq w v => .inl ⟨_, fun s => (rfl : execPowerReq w v s = act s _)⟩
  | .powerReqDeferredStart => .inl ⟨_, fun s => (rfl : execPowerReqDeferredStart s = act s _)⟩
  | .sleepGroupResponse => .inr (.inl ⟨_, fun s => (rfl : execSleepGroupResponse s = actState s _)⟩)
  | .batonActivityWake => .inl ⟨_, fun s => (rfl : execBatonActivityWake s = act s _)⟩
  | .csNWake => .inl ⟨_, fun s => (rfl : execCsNWake s = act s _)⟩
  | .alarm => .inr (.inr (.inl ⟨_, _, fun s => (rfl : execAlarm s = actPin s _ _)⟩))
  | .wake => .inl ⟨_, fun s => (rfl : execWake s = act s _)⟩
  | .wakeRestore => .inr (.inl ⟨_, fun s => (rfl : execWakeRestore s = actState s _)⟩)
  | .laneRestoreRelease sd n => .inl ⟨_, fun s => (rfl : execLaneRestoreRelease sd n s = act s _)⟩
  | .xtalFail => .inr (.inr (.inl ⟨_, _, fun s => (rfl : execXtalFail s = actPin s _ _)⟩))
  | .xtalOk => .inr (.inr (.inl ⟨_, _, fun s => (rfl : execXtalOk s = actPin s _ _)⟩))
  | .alarmWrite w v => .inl ⟨_, fun s => (rfl : execAlarmWrite w v s = act s _)⟩
  | .vioLow => .inr (.inr (.inl ⟨_, _, fun s => (rfl : execVioLow s = actPin s _ _)⟩))
  | .vioOk => .inr (.inr (.inl ⟨_, _, fun s => (rfl : execVioOk s = actPin s _ _)⟩))
  | .vaonPowerUp .. => .inr (.inr (.inr rfl))
  | .resetAssert .. => .inr (.inr (.inr rfl))
  | .resetRelease .. => .inr (.inr (.inr rfl))
  | .bootAttempt bad jbad => .inr (.inl ⟨_, fun s => (rfl : execBootAttempt bad jbad s = actState s _)⟩)
  | .hostLoad w => .inr (.inl ⟨_, fun s => (rfl : execHostLoad w s = actState s _)⟩)
  | .bootGood w jbad => .inr (.inl ⟨_, fun s => (rfl : execBootGood w jbad s = actState s _)⟩)
  | .bootWatchdog bad => .inr (.inl ⟨_, fun s => (rfl : execBootWatchdog bad s = actState s _)⟩)
  | .walkExit w jbad => .inr (.inl ⟨_, fun s => (rfl : execWalkExit w jbad s = actState s _)⟩)
  | .ident c => .inr (.inl ⟨_, fun s => (rfl : execIdent c s = actState s _)⟩)
  | .attest c => .inr (.inl ⟨_, fun s => (rfl : execAttest c s = actState s _)⟩)
  | .verifySlot c bad => .inr (.inl ⟨_, fun s => (rfl : execVerifySlot c bad s = actState s _)⟩)
  | .activate c bad jbad => .inr (.inl ⟨_, fun s => (rfl : execActivate c bad jbad s = actState s _)⟩)
  | .confirm c jbad => .inr (.inl ⟨_, fun s => (rfl : execConfirm c jbad s = actState s _)⟩)
  | .rbProgramDeferred => .inl ⟨_, fun s => (rfl : execRbProgramDeferred s = act s _)⟩
  | .flashErase w v => .inl ⟨_, fun s => (rfl : execFlashErase w v s = act s _)⟩
  | .flashProgram w v => .inl ⟨_, fun s => (rfl : execFlashProgram w v s = act s _)⟩
  | .otpProgram w v => .inl ⟨_, fun s => (rfl : execOtpProgram w v s = act s _)⟩
  | .otpRead w v => .inl ⟨_, fun s => (rfl : execOtpRead w v s = act s _)⟩
  | .nvmOpDone held => .inr (.inl ⟨_, fun s => (rfl : execNvmOpDone held s = actState s _)⟩)
  | .nvmTimeout held => .inr (.inl ⟨_, fun s => (rfl : execNvmTimeout held s = actState s _)⟩)
  | .lcReq w v bad => .inr (.inl ⟨_, fun s => (rfl : execLcReq w v bad s = actState s _)⟩)
  | .lcChange seed => .inl ⟨_, fun s => (rfl : execLcChange seed s = act s _)⟩
  | .trialGo w v => .inl ⟨_, fun s => (rfl : execTrialGo w v s = act s _)⟩
  | .trialAbort w v => .inl ⟨_, fun s => (rfl : execTrialAbort w v s = act s _)⟩
  | .trialVector bad word => .inl ⟨_, fun s => (rfl : execTrialVector bad word s = act s _)⟩
  | .trialResume => .inl ⟨_, fun s => (rfl : execTrialResume s = act s _)⟩
  | .tapInstruction idx => .inr (.inr (.inl ⟨_, _, fun s => (rfl : execTapInstruction idx s = actPin s _ _)⟩))
  | .tapReset => .inr (.inr (.inl ⟨_, _, fun s => (rfl : execTapReset s = actPin s _ _)⟩))
  | .railFault .. => .inr (.inr (.inr rfl))
  | .vaonLoss .. => .inr (.inr (.inr rfl))
  | .currentLimit c on => .inl (act_of_actOn fun s => (rfl : execCurrentLimit c on s = actOn _ s _))
  | .memoryBitFlip x => .inr (.inl ⟨_, fun s => (rfl : execMemoryBitFlip x s = actState s _)⟩)
  | .pllLock k => .inl (act_of_actOn fun s => (rfl : execPllLock k s = actOn _ s _))

end Sys2Proof.Machine
end

