-- ==== Sys2Proof/Laws/Store.lean ====
section
/-! SUPPORT. The laws of the sparse tables: read after write, and the canonical form that every operation keeps. -/

namespace Sys2Proof.Machine

variable {α : Type}

theorem tabGet_erase_same (blank : Nat → α) (k : Nat) (l : List (Nat × α)) : tabGet blank k (tabErase k l) = blank k := by
  induction l with
  | nil => rfl
  | cons e t ih =>
    unfold tabErase
    split
    · exact ih
    · rename_i h; simp only [tabGet, h, if_false]; exact ih

theorem tabGet_erase_other (blank : Nat → α) {k j : Nat} (h : j ≠ k) (l : List (Nat × α)) :
    tabGet blank j (tabErase k l) = tabGet blank j l := by
  induction l with
  | nil => rfl
  | cons e t ih =>
    unfold tabErase
    split
    · rename_i he; rw [ih]; simp only [tabGet]; rw [if_neg (by omega)]
    · simp only [tabGet]; rw [ih]

theorem tabGet_insert_same (blank : Nat → α) (k : Nat) (v : α) (l : List (Nat × α)) (h : tabErase k l = l) :
    tabGet blank k (tabInsert k v l) = v := by
  induction l with
  | nil => simp [tabInsert, tabGet]
  | cons e t ih =>
    have hl : (tabErase k t).length ≤ t.length := by
      clear ih h
      induction t with
      | nil => simp [tabErase]
      | cons a u ihu => unfold tabErase; split <;> simp <;> omega
    have hne : e.1 ≠ k := by
      intro he
      simp only [tabErase, he, if_true] at h
      have := congrArg List.length h
      simp at this; omega
    have ht : tabErase k t = t := by
      simp only [tabErase, hne, if_false] at h
      exact (List.cons.inj h).2
    unfold tabInsert
    split
    · simp [tabGet]
    · simp only [tabGet, hne, if_false]; exact ih ht

theorem tabGet_insert_other (blank : Nat → α) {k j : Nat} (h : j ≠ k) (v : α) (l : List (Nat × α)) :
    tabGet blank j (tabInsert k v l) = tabGet blank j l := by
  induction l with
  | nil => simp [tabInsert, tabGet, h.symm]
  | cons e t ih =>
    unfold tabInsert
    split
    · simp [tabGet, h.symm]
    · simp only [tabGet]; rw [ih]

theorem tabErase_erase (k : Nat) (l : List (Nat × α)) : tabErase k (tabErase k l) = tabErase k l := by
  induction l with
  | nil => rfl
  | cons e t ih =>
    by_cases h : e.1 = k
    · have he : tabErase k (e :: t) = tabErase k t := by simp [tabErase, h]
      rw [he, ih]
    · have he : tabErase k (e :: t) = e :: tabErase k t := by simp [tabErase, h]
      rw [he]
      simp [tabErase, h, ih]

/-- A read after a write to the same key gives the value written. -/
theorem tabGet_set_same [DecidableEq α] (blank : Nat → α) (k : Nat) (v : α) (l : List (Nat × α)) :
    tabGet blank k (tabSet blank k v l) = v := by
  unfold tabSet
  split
  · rename_i h; rw [tabGet_erase_same, h]
  · exact tabGet_insert_same blank k v _ (tabErase_erase k l)

/-- A write leaves every other key alone. -/
theorem tabGet_set_other [DecidableEq α] (blank : Nat → α) {k j : Nat} (h : j ≠ k) (v : α) (l : List (Nat × α)) :
    tabGet blank j (tabSet blank k v l) = tabGet blank j l := by
  unfold tabSet
  split
  · exact tabGet_erase_other blank h l
  · rw [tabGet_insert_other blank h, tabGet_erase_other blank h]

theorem tabGet_keep (blank : Nat → α) (p : Nat → Bool) (k : Nat) (l : List (Nat × α)) :
    tabGet blank k (tabKeep p l) = if p k then tabGet blank k l else blank k := by
  induction l with
  | nil => simp [tabKeep, tabGet]
  | cons e t ih =>
    unfold tabKeep
    split
    · rename_i he
      simp only [tabGet]
      split
      · rename_i hk; rw [← hk, he]; simp
      · exact ih
    · rename_i he
      rw [ih]
      simp only [tabGet]
      split
      · rename_i hk
        split
        · rename_i hk'; rw [hk'] at he; contradiction
        · rfl
      · rfl

/-! The canonical form -/

variable [DecidableEq α]

theorem tabWfFrom_mono (blank : Nat → α) {lo lo' : Nat} (h : lo' ≤ lo) (l : List (Nat × α)) (hl : tabWfFrom blank lo l = true) :
    tabWfFrom blank lo' l = true := by
  cases l with
  | nil => rfl
  | cons e t =>
    simp only [tabWfFrom, Bool.and_eq_true, decide_eq_true_eq] at hl ⊢
    exact ⟨⟨by omega, hl.1.2⟩, hl.2⟩

theorem tabWfFrom_erase (blank : Nat → α) (k lo : Nat) (l : List (Nat × α)) (h : tabWfFrom blank lo l = true) :
    tabWfFrom blank lo (tabErase k l) = true := by
  induction l generalizing lo with
  | nil => rfl
  | cons e t ih =>
    simp only [tabWfFrom, Bool.and_eq_true, decide_eq_true_eq] at h
    unfold tabErase
    split
    · exact tabWfFrom_mono blank (by omega) _ (ih _ h.2)
    · simp only [tabWfFrom, Bool.and_eq_true, decide_eq_true_eq]
      exact ⟨h.1, ih _ h.2⟩

theorem tabWfFrom_insert (blank : Nat → α) (k : Nat) (v : α) (hv : v ≠ blank k) (lo : Nat) (l : List (Nat × α))
    (h : tabWfFrom blank lo l = true) (hlo : lo ≤ k) (hk : tabErase k l = l) : tabWfFrom blank lo (tabInsert k v l) = true := by
  induction l generalizing lo with
  | nil => simp [tabInsert, tabWfFrom, hlo, hv]
  | cons e t ih =>
    simp only [tabWfFrom, Bool.and_eq_true, decide_eq_true_eq] at h
    have hl : (tabErase k t).length ≤ t.length := by
      clear ih h hk
      induction t with
      | nil => simp [tabErase]
      | cons a u ihu => unfold tabErase; split <;> simp <;> omega
    have hne : e.1 ≠ k := by
      intro he
      simp only [tabErase, he, if_true] at hk
      have := congrArg List.length hk
      simp at this; omega
    have ht : tabErase k t = t := by
      simp only [tabErase, hne, if_false] at hk
      exact (List.cons.inj hk).2
    unfold tabInsert
    split
    · rename_i hlt
      simp only [tabWfFrom, Bool.and_eq_true, decide_eq_true_eq]
      exact ⟨⟨hlo, hv⟩, ⟨by omega, h.1.2⟩, h.2⟩
    · simp only [tabWfFrom, Bool.and_eq_true, decide_eq_true_eq]
      exact ⟨h.1, ih _ h.2 (by omega) ht⟩

/-- A write keeps the canonical form. -/
theorem tabWf_set (blank : Nat → α) (k : Nat) (v : α) (l : List (Nat × α)) (h : tabWf blank l = true) :
    tabWf blank (tabSet blank k v l) = true := by
  unfold tabSet
  split
  · exact tabWfFrom_erase blank k 0 l h
  · rename_i hv
    exact tabWfFrom_insert blank k v hv 0 _ (tabWfFrom_erase blank k 0 l h) (Nat.zero_le _) (tabErase_erase k l)

theorem tabWf_erase (blank : Nat → α) (k : Nat) (l : List (Nat × α)) (h : tabWf blank l = true) : tabWf blank (tabErase k l) = true :=
  tabWfFrom_erase blank k 0 l h

theorem tabWfFrom_keep (blank : Nat → α) (p : Nat → Bool) (lo : Nat) (l : List (Nat × α)) (h : tabWfFrom blank lo l = true) :
    tabWfFrom blank lo (tabKeep p l) = true := by
  induction l generalizing lo with
  | nil => rfl
  | cons e t ih =>
    simp only [tabWfFrom, Bool.and_eq_true, decide_eq_true_eq] at h
    unfold tabKeep
    split
    · simp only [tabWfFrom, Bool.and_eq_true, decide_eq_true_eq]
      exact ⟨h.1, ih _ h.2⟩
    · exact tabWfFrom_mono blank (by omega) _ (ih _ h.2)

/-- Keeping some of the entries keeps the canonical form. -/
theorem tabWf_keep (blank : Nat → α) (p : Nat → Bool) (l : List (Nat × α)) (h : tabWf blank l = true) :
    tabWf blank (tabKeep p l) = true := tabWfFrom_keep blank p 0 l h

end Sys2Proof.Machine
end

