-- ==== Sys2Proof/Laws/Mem.lean ====
section
/-! SUPPORT. The laws of the memories: read after write, every other byte kept, and the canonical form. -/

namespace Sys2Proof.Machine

@[simp] theorem memGet_set_same (m : List Host.Cell) (a : Nat) (b : Byte) : memGet (memSet m a b) a = b :=
  tabGet_set_same memBlank a b m

theorem memGet_set_other (m : List Host.Cell) {a x : Nat} (h : x ≠ a) (b : Byte) : memGet (memSet m a b) x = memGet m x :=
  tabGet_set_other memBlank h b m

theorem memWf_set (m : List Host.Cell) (a : Nat) (b : Byte) (h : memWf m = true) : memWf (memSet m a b) = true :=
  tabWf_set memBlank a b m h

theorem memWf_setWord (m : List Host.Cell) (a : Nat) (w : Word) (h : memWf m = true) : memWf (memSetWord m a w) = true :=
  memWf_set _ _ _ (memWf_set _ _ _ (memWf_set _ _ _ (memWf_set _ _ _ h)))

theorem memWf_setBytes (m : List Host.Cell) (a : Nat) (l : List Byte) (h : memWf m = true) : memWf (memSetBytes m a l) = true := by
  induction l generalizing m a with
  | nil => exact h
  | cons b t ih => exact ih _ _ (memWf_set m a b h)

theorem memWf_forget (m : List Host.Cell) (a n : Nat) (h : memWf m = true) : memWf (memForget m a n) = true :=
  tabWf_keep memBlank _ m h

theorem memWf_copy (m : List Host.Cell) (src dst n : Nat) (h : memWf m = true) : memWf (memCopy m src dst n) = true := by
  unfold memCopy
  have key : ∀ (l : List Host.Cell) (acc : List Host.Cell), memWf acc = true →
      memWf (l.foldl (fun m c => memSet m (c.1 - src + dst) c.2) acc) = true := by
    intro l
    induction l with
    | nil => intro acc h; exact h
    | cons c t ih => intro acc h; exact ih _ (memWf_set acc _ _ h)
  exact key _ _ (memWf_forget m dst n h)

/-- A word read after it is written. -/
theorem memWord_setWord (m : List Host.Cell) (a : Nat) (w : Word) : memWord (memSetWord m a w) a = w := by
  unfold memWord memSetWord
  rw [memGet_set_same, memGet_set_other _ (by omega), memGet_set_same, memGet_set_other _ (by omega), memGet_set_other _ (by omega),
    memGet_set_same, memGet_set_other _ (by omega), memGet_set_other _ (by omega), memGet_set_other _ (by omega), memGet_set_same]
  apply BitVec.eq_of_getLsbD_eq
  intro i hi
  simp only [BitVec.getLsbD_append, BitVec.getLsbD_extractLsb']
  rcases Nat.lt_or_ge i 8 with h | h
  · simp [h]
  rcases Nat.lt_or_ge i 16 with h' | h'
  · have : i - 8 < 8 := by omega
    simp [show ¬ i < 8 by omega, this, show 8 + (i - 8) = i by omega]
  rcases Nat.lt_or_ge i 24 with h'' | h''
  · have : i - 8 - 8 < 8 := by omega
    simp [show ¬ i < 8 by omega, show ¬ i - 8 < 8 by omega, this, show 16 + (i - 8 - 8) = i by omega]
  · have : i - 8 - 8 - 8 < 8 := by omega
    simp [show ¬ i < 8 by omega, show ¬ i - 8 < 8 by omega, show ¬ i - 8 - 8 < 8 by omega, this, show 24 + (i - 8 - 8 - 8) = i by omega]

/-- A written word leaves every byte outside it alone. -/
theorem memGet_setWord_other (m : List Host.Cell) {a x : Nat} (w : Word) (h : x < a ∨ a + 4 ≤ x) :
    memGet (memSetWord m a w) x = memGet m x := by
  unfold memSetWord
  rw [memGet_set_other _ (by omega), memGet_set_other _ (by omega), memGet_set_other _ (by omega), memGet_set_other _ (by omega)]

@[simp] theorem State.setWord_mem (s : State) (a : Nat) (w : Word) : (s.setWord a w).mem = memSetWord s.mem a w := rfl
@[simp] theorem State.setWord_pending (s : State) (a : Nat) (w : Word) : (s.setWord a w).pending = s.pending := rfl
@[simp] theorem State.forget_mem (s : State) (a n : Nat) : (s.forget a n).mem = memForget s.mem a n := rfl
@[simp] theorem State.forget_pending (s : State) (a n : Nat) : (s.forget a n).pending = s.pending := rfl
@[simp] theorem State.copy_mem (s : State) (src dst n : Nat) : (s.copy src dst n).mem = memCopy s.mem src dst n := rfl
@[simp] theorem State.copy_pending (s : State) (src dst n : Nat) : (s.copy src dst n).pending = s.pending := rfl

end Sys2Proof.Machine
end

