-- ==== Sys2Proof/Laws/State.lean ====
section
/-! SUPPORT. What each update leaves alone: one lemma a field and update, so that no proof unfolds a record update. -/

namespace Sys2Proof.Machine

/-! wr -/

@[simp] theorem Dev.wr_life (d : Dev) (p off : Nat) (w : Word) : (d.wr p off w).life = d.life := rfl
@[simp] theorem Dev.wr_offPages (d : Dev) (p off : Nat) (w : Word) : (d.wr p off w).offPages = d.offPages := rfl
@[simp] theorem Dev.wr_inReset (d : Dev) (p off : Nat) (w : Word) : (d.wr p off w).inReset = d.inReset := rfl
@[simp] theorem Dev.wr_live (d : Dev) (p off : Nat) (w : Word) : (d.wr p off w).live = d.live := rfl
@[simp] theorem Dev.wr_samp (d : Dev) (p off : Nat) (w : Word) : (d.wr p off w).samp = d.samp := rfl
@[simp] theorem Dev.wr_late (d : Dev) (p off : Nat) (w : Word) : (d.wr p off w).late = d.late := rfl
@[simp] theorem Dev.wr_commit (d : Dev) (p off : Nat) (w : Word) : (d.wr p off w).commit = d.commit := rfl
@[simp] theorem Dev.wr_tk (d : Dev) (p off : Nat) (w : Word) : (d.wr p off w).tk = d.tk := rfl
@[simp] theorem Dev.wr_free (d : Dev) (p off : Nat) (w : Word) : (d.wr p off w).free = d.free := rfl
@[simp] theorem Dev.wr_resp (d : Dev) (p off : Nat) (w : Word) : (d.wr p off w).resp = d.resp := rfl
@[simp] theorem Dev.wr_faultN (d : Dev) (p off : Nat) (w : Word) : (d.wr p off w).faultN = d.faultN := rfl
@[simp] theorem Dev.wr_trip (d : Dev) (p off : Nat) (w : Word) : (d.wr p off w).trip = d.trip := rfl
@[simp] theorem Dev.wr_clrLow (d : Dev) (p off : Nat) (w : Word) : (d.wr p off w).clrLow = d.clrLow := rfl
@[simp] theorem Dev.wr_ref (d : Dev) (p off : Nat) (w : Word) : (d.wr p off w).ref = d.ref := rfl
@[simp] theorem Dev.wr_lrx (d : Dev) (p off : Nat) (w : Word) : (d.wr p off w).lrx = d.lrx := rfl
@[simp] theorem Dev.wr_pacer (d : Dev) (p off : Nat) (w : Word) : (d.wr p off w).pacer = d.pacer := rfl
@[simp] theorem Dev.wr_ltx (d : Dev) (p off : Nat) (w : Word) : (d.wr p off w).ltx = d.ltx := rfl
@[simp] theorem Dev.wr_hrx (d : Dev) (p off : Nat) (w : Word) : (d.wr p off w).hrx = d.hrx := rfl
@[simp] theorem Dev.wr_htx (d : Dev) (p off : Nat) (w : Word) : (d.wr p off w).htx = d.htx := rfl
@[simp] theorem Dev.wr_code (d : Dev) (p off : Nat) (w : Word) : (d.wr p off w).code = d.code := rfl
@[simp] theorem Dev.wr_squad (d : Dev) (p off : Nat) (w : Word) : (d.wr p off w).squad = d.squad := rfl
@[simp] theorem Dev.wr_loader (d : Dev) (p off : Nat) (w : Word) : (d.wr p off w).loader = d.loader := rfl
@[simp] theorem Dev.wr_serving (d : Dev) (p off : Nat) (w : Word) : (d.wr p off w).serving = d.serving := rfl
@[simp] theorem Dev.wr_votes (d : Dev) (p off : Nat) (w : Word) : (d.wr p off w).votes = d.votes := rfl
@[simp] theorem Dev.wr_trial (d : Dev) (p off : Nat) (w : Word) : (d.wr p off w).trial = d.trial := rfl
@[simp] theorem Dev.wr_madc (d : Dev) (p off : Nat) (w : Word) : (d.wr p off w).madc = d.madc := rfl
@[simp] theorem Dev.wr_filt (d : Dev) (p off : Nat) (w : Word) : (d.wr p off w).filt = d.filt := rfl
@[simp] theorem Dev.wr_therm (d : Dev) (p off : Nat) (w : Word) : (d.wr p off w).therm = d.therm := rfl
@[simp] theorem Dev.wr_cal (d : Dev) (p off : Nat) (w : Word) : (d.wr p off w).cal = d.cal := rfl
@[simp] theorem Dev.wr_cap (d : Dev) (p off : Nat) (w : Word) : (d.wr p off w).cap = d.cap := rfl
@[simp] theorem Dev.wr_split (d : Dev) (p off : Nat) (w : Word) : (d.wr p off w).split = d.split := rfl
@[simp] theorem Dev.wr_boot (d : Dev) (p off : Nat) (w : Word) : (d.wr p off w).boot = d.boot := rfl
@[simp] theorem Dev.wr_nvm (d : Dev) (p off : Nat) (w : Word) : (d.wr p off w).nvm = d.nvm := rfl
@[simp] theorem Dev.wr_hdac (d : Dev) (p off : Nat) (w : Word) : (d.wr p off w).hdac = d.hdac := rfl
@[simp] theorem Dev.wr_scrub (d : Dev) (p off : Nat) (w : Word) : (d.wr p off w).scrub = d.scrub := rfl
@[simp] theorem Dev.wr_power (d : Dev) (p off : Nat) (w : Word) : (d.wr p off w).power = d.power := rfl
@[simp] theorem Dev.wr_baton (d : Dev) (p off : Nat) (w : Word) : (d.wr p off w).baton = d.baton := rfl
@[simp] theorem Dev.wr_spiReply (d : Dev) (p off : Nat) (w : Word) : (d.wr p off w).spiReply = d.spiReply := rfl
@[simp] theorem Dev.wr_batonReply (d : Dev) (p off : Nat) (w : Word) : (d.wr p off w).batonReply = d.batonReply := rfl
@[simp] theorem Dev.wr_wideR (d : Dev) (p off : Nat) (w : Word) : (d.wr p off w).wideR = d.wideR := rfl
@[simp] theorem Dev.wr_wideW (d : Dev) (p off : Nat) (w : Word) : (d.wr p off w).wideW = d.wideW := rfl
@[simp] theorem Dev.wr_unapplied (d : Dev) (p off : Nat) (w : Word) : (d.wr p off w).unapplied = d.unapplied := rfl
@[simp] theorem Dev.wr_tap (d : Dev) (p off : Nat) (w : Word) : (d.wr p off w).tap = d.tap := rfl
@[simp] theorem Dev.wr_mboxTimer (d : Dev) (p off : Nat) (w : Word) : (d.wr p off w).mboxTimer = d.mboxTimer := rfl
@[simp] theorem Dev.wr_coachUp (d : Dev) (p off : Nat) (w : Word) : (d.wr p off w).coachUp = d.coachUp := rfl

/-! lwr -/

@[simp] theorem Dev.lwr_life (d : Dev) (p off : Nat) (w : Word) : (d.lwr p off w).life = d.life := rfl
@[simp] theorem Dev.lwr_offPages (d : Dev) (p off : Nat) (w : Word) : (d.lwr p off w).offPages = d.offPages := rfl
@[simp] theorem Dev.lwr_inReset (d : Dev) (p off : Nat) (w : Word) : (d.lwr p off w).inReset = d.inReset := rfl
@[simp] theorem Dev.lwr_regs (d : Dev) (p off : Nat) (w : Word) : (d.lwr p off w).regs = d.regs := rfl
@[simp] theorem Dev.lwr_samp (d : Dev) (p off : Nat) (w : Word) : (d.lwr p off w).samp = d.samp := rfl
@[simp] theorem Dev.lwr_late (d : Dev) (p off : Nat) (w : Word) : (d.lwr p off w).late = d.late := rfl
@[simp] theorem Dev.lwr_commit (d : Dev) (p off : Nat) (w : Word) : (d.lwr p off w).commit = d.commit := rfl
@[simp] theorem Dev.lwr_tk (d : Dev) (p off : Nat) (w : Word) : (d.lwr p off w).tk = d.tk := rfl
@[simp] theorem Dev.lwr_free (d : Dev) (p off : Nat) (w : Word) : (d.lwr p off w).free = d.free := rfl
@[simp] theorem Dev.lwr_resp (d : Dev) (p off : Nat) (w : Word) : (d.lwr p off w).resp = d.resp := rfl
@[simp] theorem Dev.lwr_faultN (d : Dev) (p off : Nat) (w : Word) : (d.lwr p off w).faultN = d.faultN := rfl
@[simp] theorem Dev.lwr_trip (d : Dev) (p off : Nat) (w : Word) : (d.lwr p off w).trip = d.trip := rfl
@[simp] theorem Dev.lwr_clrLow (d : Dev) (p off : Nat) (w : Word) : (d.lwr p off w).clrLow = d.clrLow := rfl
@[simp] theorem Dev.lwr_ref (d : Dev) (p off : Nat) (w : Word) : (d.lwr p off w).ref = d.ref := rfl
@[simp] theorem Dev.lwr_lrx (d : Dev) (p off : Nat) (w : Word) : (d.lwr p off w).lrx = d.lrx := rfl
@[simp] theorem Dev.lwr_pacer (d : Dev) (p off : Nat) (w : Word) : (d.lwr p off w).pacer = d.pacer := rfl
@[simp] theorem Dev.lwr_ltx (d : Dev) (p off : Nat) (w : Word) : (d.lwr p off w).ltx = d.ltx := rfl
@[simp] theorem Dev.lwr_hrx (d : Dev) (p off : Nat) (w : Word) : (d.lwr p off w).hrx = d.hrx := rfl
@[simp] theorem Dev.lwr_htx (d : Dev) (p off : Nat) (w : Word) : (d.lwr p off w).htx = d.htx := rfl
@[simp] theorem Dev.lwr_code (d : Dev) (p off : Nat) (w : Word) : (d.lwr p off w).code = d.code := rfl
@[simp] theorem Dev.lwr_squad (d : Dev) (p off : Nat) (w : Word) : (d.lwr p off w).squad = d.squad := rfl
@[simp] theorem Dev.lwr_loader (d : Dev) (p off : Nat) (w : Word) : (d.lwr p off w).loader = d.loader := rfl
@[simp] theorem Dev.lwr_serving (d : Dev) (p off : Nat) (w : Word) : (d.lwr p off w).serving = d.serving := rfl
@[simp] theorem Dev.lwr_ecc (d : Dev) (p off : Nat) (w : Word) : (d.lwr p off w).ecc = d.ecc := rfl
@[simp] theorem Dev.lwr_votes (d : Dev) (p off : Nat) (w : Word) : (d.lwr p off w).votes = d.votes := rfl
@[simp] theorem Dev.lwr_trial (d : Dev) (p off : Nat) (w : Word) : (d.lwr p off w).trial = d.trial := rfl
@[simp] theorem Dev.lwr_madc (d : Dev) (p off : Nat) (w : Word) : (d.lwr p off w).madc = d.madc := rfl
@[simp] theorem Dev.lwr_filt (d : Dev) (p off : Nat) (w : Word) : (d.lwr p off w).filt = d.filt := rfl
@[simp] theorem Dev.lwr_therm (d : Dev) (p off : Nat) (w : Word) : (d.lwr p off w).therm = d.therm := rfl
@[simp] theorem Dev.lwr_cal (d : Dev) (p off : Nat) (w : Word) : (d.lwr p off w).cal = d.cal := rfl
@[simp] theorem Dev.lwr_cap (d : Dev) (p off : Nat) (w : Word) : (d.lwr p off w).cap = d.cap := rfl
@[simp] theorem Dev.lwr_split (d : Dev) (p off : Nat) (w : Word) : (d.lwr p off w).split = d.split := rfl
@[simp] theorem Dev.lwr_boot (d : Dev) (p off : Nat) (w : Word) : (d.lwr p off w).boot = d.boot := rfl
@[simp] theorem Dev.lwr_nvm (d : Dev) (p off : Nat) (w : Word) : (d.lwr p off w).nvm = d.nvm := rfl
@[simp] theorem Dev.lwr_hdac (d : Dev) (p off : Nat) (w : Word) : (d.lwr p off w).hdac = d.hdac := rfl
@[simp] theorem Dev.lwr_scrub (d : Dev) (p off : Nat) (w : Word) : (d.lwr p off w).scrub = d.scrub := rfl
@[simp] theorem Dev.lwr_power (d : Dev) (p off : Nat) (w : Word) : (d.lwr p off w).power = d.power := rfl
@[simp] theorem Dev.lwr_baton (d : Dev) (p off : Nat) (w : Word) : (d.lwr p off w).baton = d.baton := rfl
@[simp] theorem Dev.lwr_spiReply (d : Dev) (p off : Nat) (w : Word) : (d.lwr p off w).spiReply = d.spiReply := rfl
@[simp] theorem Dev.lwr_batonReply (d : Dev) (p off : Nat) (w : Word) : (d.lwr p off w).batonReply = d.batonReply := rfl
@[simp] theorem Dev.lwr_wideR (d : Dev) (p off : Nat) (w : Word) : (d.lwr p off w).wideR = d.wideR := rfl
@[simp] theorem Dev.lwr_wideW (d : Dev) (p off : Nat) (w : Word) : (d.lwr p off w).wideW = d.wideW := rfl
@[simp] theorem Dev.lwr_unapplied (d : Dev) (p off : Nat) (w : Word) : (d.lwr p off w).unapplied = d.unapplied := rfl
@[simp] theorem Dev.lwr_tap (d : Dev) (p off : Nat) (w : Word) : (d.lwr p off w).tap = d.tap := rfl
@[simp] theorem Dev.lwr_mboxTimer (d : Dev) (p off : Nat) (w : Word) : (d.lwr p off w).mboxTimer = d.mboxTimer := rfl
@[simp] theorem Dev.lwr_coachUp (d : Dev) (p off : Nat) (w : Word) : (d.lwr p off w).coachUp = d.coachUp := rfl

/-! setEcc -/

@[simp] theorem Dev.setEcc_life (d : Dev) (loc : Nat) (e : Ecc) : (d.setEcc loc e).life = d.life := rfl
@[simp] theorem Dev.setEcc_offPages (d : Dev) (loc : Nat) (e : Ecc) : (d.setEcc loc e).offPages = d.offPages := rfl
@[simp] theorem Dev.setEcc_inReset (d : Dev) (loc : Nat) (e : Ecc) : (d.setEcc loc e).inReset = d.inReset := rfl
@[simp] theorem Dev.setEcc_regs (d : Dev) (loc : Nat) (e : Ecc) : (d.setEcc loc e).regs = d.regs := rfl
@[simp] theorem Dev.setEcc_live (d : Dev) (loc : Nat) (e : Ecc) : (d.setEcc loc e).live = d.live := rfl
@[simp] theorem Dev.setEcc_samp (d : Dev) (loc : Nat) (e : Ecc) : (d.setEcc loc e).samp = d.samp := rfl
@[simp] theorem Dev.setEcc_late (d : Dev) (loc : Nat) (e : Ecc) : (d.setEcc loc e).late = d.late := rfl
@[simp] theorem Dev.setEcc_commit (d : Dev) (loc : Nat) (e : Ecc) : (d.setEcc loc e).commit = d.commit := rfl
@[simp] theorem Dev.setEcc_tk (d : Dev) (loc : Nat) (e : Ecc) : (d.setEcc loc e).tk = d.tk := rfl
@[simp] theorem Dev.setEcc_free (d : Dev) (loc : Nat) (e : Ecc) : (d.setEcc loc e).free = d.free := rfl
@[simp] theorem Dev.setEcc_resp (d : Dev) (loc : Nat) (e : Ecc) : (d.setEcc loc e).resp = d.resp := rfl
@[simp] theorem Dev.setEcc_faultN (d : Dev) (loc : Nat) (e : Ecc) : (d.setEcc loc e).faultN = d.faultN := rfl
@[simp] theorem Dev.setEcc_trip (d : Dev) (loc : Nat) (e : Ecc) : (d.setEcc loc e).trip = d.trip := rfl
@[simp] theorem Dev.setEcc_clrLow (d : Dev) (loc : Nat) (e : Ecc) : (d.setEcc loc e).clrLow = d.clrLow := rfl
@[simp] theorem Dev.setEcc_ref (d : Dev) (loc : Nat) (e : Ecc) : (d.setEcc loc e).ref = d.ref := rfl
@[simp] theorem Dev.setEcc_lrx (d : Dev) (loc : Nat) (e : Ecc) : (d.setEcc loc e).lrx = d.lrx := rfl
@[simp] theorem Dev.setEcc_pacer (d : Dev) (loc : Nat) (e : Ecc) : (d.setEcc loc e).pacer = d.pacer := rfl
@[simp] theorem Dev.setEcc_ltx (d : Dev) (loc : Nat) (e : Ecc) : (d.setEcc loc e).ltx = d.ltx := rfl
@[simp] theorem Dev.setEcc_hrx (d : Dev) (loc : Nat) (e : Ecc) : (d.setEcc loc e).hrx = d.hrx := rfl
@[simp] theorem Dev.setEcc_htx (d : Dev) (loc : Nat) (e : Ecc) : (d.setEcc loc e).htx = d.htx := rfl
@[simp] theorem Dev.setEcc_code (d : Dev) (loc : Nat) (e : Ecc) : (d.setEcc loc e).code = d.code := rfl
@[simp] theorem Dev.setEcc_squad (d : Dev) (loc : Nat) (e : Ecc) : (d.setEcc loc e).squad = d.squad := rfl
@[simp] theorem Dev.setEcc_loader (d : Dev) (loc : Nat) (e : Ecc) : (d.setEcc loc e).loader = d.loader := rfl
@[simp] theorem Dev.setEcc_serving (d : Dev) (loc : Nat) (e : Ecc) : (d.setEcc loc e).serving = d.serving := rfl
@[simp] theorem Dev.setEcc_votes (d : Dev) (loc : Nat) (e : Ecc) : (d.setEcc loc e).votes = d.votes := rfl
@[simp] theorem Dev.setEcc_trial (d : Dev) (loc : Nat) (e : Ecc) : (d.setEcc loc e).trial = d.trial := rfl
@[simp] theorem Dev.setEcc_madc (d : Dev) (loc : Nat) (e : Ecc) : (d.setEcc loc e).madc = d.madc := rfl
@[simp] theorem Dev.setEcc_filt (d : Dev) (loc : Nat) (e : Ecc) : (d.setEcc loc e).filt = d.filt := rfl
@[simp] theorem Dev.setEcc_therm (d : Dev) (loc : Nat) (e : Ecc) : (d.setEcc loc e).therm = d.therm := rfl
@[simp] theorem Dev.setEcc_cal (d : Dev) (loc : Nat) (e : Ecc) : (d.setEcc loc e).cal = d.cal := rfl
@[simp] theorem Dev.setEcc_cap (d : Dev) (loc : Nat) (e : Ecc) : (d.setEcc loc e).cap = d.cap := rfl
@[simp] theorem Dev.setEcc_split (d : Dev) (loc : Nat) (e : Ecc) : (d.setEcc loc e).split = d.split := rfl
@[simp] theorem Dev.setEcc_boot (d : Dev) (loc : Nat) (e : Ecc) : (d.setEcc loc e).boot = d.boot := rfl
@[simp] theorem Dev.setEcc_nvm (d : Dev) (loc : Nat) (e : Ecc) : (d.setEcc loc e).nvm = d.nvm := rfl
@[simp] theorem Dev.setEcc_hdac (d : Dev) (loc : Nat) (e : Ecc) : (d.setEcc loc e).hdac = d.hdac := rfl
@[simp] theorem Dev.setEcc_scrub (d : Dev) (loc : Nat) (e : Ecc) : (d.setEcc loc e).scrub = d.scrub := rfl
@[simp] theorem Dev.setEcc_power (d : Dev) (loc : Nat) (e : Ecc) : (d.setEcc loc e).power = d.power := rfl
@[simp] theorem Dev.setEcc_baton (d : Dev) (loc : Nat) (e : Ecc) : (d.setEcc loc e).baton = d.baton := rfl
@[simp] theorem Dev.setEcc_spiReply (d : Dev) (loc : Nat) (e : Ecc) : (d.setEcc loc e).spiReply = d.spiReply := rfl
@[simp] theorem Dev.setEcc_batonReply (d : Dev) (loc : Nat) (e : Ecc) : (d.setEcc loc e).batonReply = d.batonReply := rfl
@[simp] theorem Dev.setEcc_wideR (d : Dev) (loc : Nat) (e : Ecc) : (d.setEcc loc e).wideR = d.wideR := rfl
@[simp] theorem Dev.setEcc_wideW (d : Dev) (loc : Nat) (e : Ecc) : (d.setEcc loc e).wideW = d.wideW := rfl
@[simp] theorem Dev.setEcc_unapplied (d : Dev) (loc : Nat) (e : Ecc) : (d.setEcc loc e).unapplied = d.unapplied := rfl
@[simp] theorem Dev.setEcc_tap (d : Dev) (loc : Nat) (e : Ecc) : (d.setEcc loc e).tap = d.tap := rfl
@[simp] theorem Dev.setEcc_mboxTimer (d : Dev) (loc : Nat) (e : Ecc) : (d.setEcc loc e).mboxTimer = d.mboxTimer := rfl
@[simp] theorem Dev.setEcc_coachUp (d : Dev) (loc : Nat) (e : Ecc) : (d.setEcc loc e).coachUp = d.coachUp := rfl

/-! eccForget -/

@[simp] theorem Dev.eccForget_life (d : Dev) (a n : Nat) : (d.eccForget a n).life = d.life := rfl
@[simp] theorem Dev.eccForget_offPages (d : Dev) (a n : Nat) : (d.eccForget a n).offPages = d.offPages := rfl
@[simp] theorem Dev.eccForget_inReset (d : Dev) (a n : Nat) : (d.eccForget a n).inReset = d.inReset := rfl
@[simp] theorem Dev.eccForget_regs (d : Dev) (a n : Nat) : (d.eccForget a n).regs = d.regs := rfl
@[simp] theorem Dev.eccForget_live (d : Dev) (a n : Nat) : (d.eccForget a n).live = d.live := rfl
@[simp] theorem Dev.eccForget_samp (d : Dev) (a n : Nat) : (d.eccForget a n).samp = d.samp := rfl
@[simp] theorem Dev.eccForget_late (d : Dev) (a n : Nat) : (d.eccForget a n).late = d.late := rfl
@[simp] theorem Dev.eccForget_commit (d : Dev) (a n : Nat) : (d.eccForget a n).commit = d.commit := rfl
@[simp] theorem Dev.eccForget_tk (d : Dev) (a n : Nat) : (d.eccForget a n).tk = d.tk := rfl
@[simp] theorem Dev.eccForget_free (d : Dev) (a n : Nat) : (d.eccForget a n).free = d.free := rfl
@[simp] theorem Dev.eccForget_resp (d : Dev) (a n : Nat) : (d.eccForget a n).resp = d.resp := rfl
@[simp] theorem Dev.eccForget_faultN (d : Dev) (a n : Nat) : (d.eccForget a n).faultN = d.faultN := rfl
@[simp] theorem Dev.eccForget_trip (d : Dev) (a n : Nat) : (d.eccForget a n).trip = d.trip := rfl
@[simp] theorem Dev.eccForget_clrLow (d : Dev) (a n : Nat) : (d.eccForget a n).clrLow = d.clrLow := rfl
@[simp] theorem Dev.eccForget_ref (d : Dev) (a n : Nat) : (d.eccForget a n).ref = d.ref := rfl
@[simp] theorem Dev.eccForget_lrx (d : Dev) (a n : Nat) : (d.eccForget a n).lrx = d.lrx := rfl
@[simp] theorem Dev.eccForget_pacer (d : Dev) (a n : Nat) : (d.eccForget a n).pacer = d.pacer := rfl
@[simp] theorem Dev.eccForget_ltx (d : Dev) (a n : Nat) : (d.eccForget a n).ltx = d.ltx := rfl
@[simp] theorem Dev.eccForget_hrx (d : Dev) (a n : Nat) : (d.eccForget a n).hrx = d.hrx := rfl
@[simp] theorem Dev.eccForget_htx (d : Dev) (a n : Nat) : (d.eccForget a n).htx = d.htx := rfl
@[simp] theorem Dev.eccForget_code (d : Dev) (a n : Nat) : (d.eccForget a n).code = d.code := rfl
@[simp] theorem Dev.eccForget_squad (d : Dev) (a n : Nat) : (d.eccForget a n).squad = d.squad := rfl
@[simp] theorem Dev.eccForget_loader (d : Dev) (a n : Nat) : (d.eccForget a n).loader = d.loader := rfl
@[simp] theorem Dev.eccForget_serving (d : Dev) (a n : Nat) : (d.eccForget a n).serving = d.serving := rfl
@[simp] theorem Dev.eccForget_votes (d : Dev) (a n : Nat) : (d.eccForget a n).votes = d.votes := rfl
@[simp] theorem Dev.eccForget_trial (d : Dev) (a n : Nat) : (d.eccForget a n).trial = d.trial := rfl
@[simp] theorem Dev.eccForget_madc (d : Dev) (a n : Nat) : (d.eccForget a n).madc = d.madc := rfl
@[simp] theorem Dev.eccForget_filt (d : Dev) (a n : Nat) : (d.eccForget a n).filt = d.filt := rfl
@[simp] theorem Dev.eccForget_therm (d : Dev) (a n : Nat) : (d.eccForget a n).therm = d.therm := rfl
@[simp] theorem Dev.eccForget_cal (d : Dev) (a n : Nat) : (d.eccForget a n).cal = d.cal := rfl
@[simp] theorem Dev.eccForget_cap (d : Dev) (a n : Nat) : (d.eccForget a n).cap = d.cap := rfl
@[simp] theorem Dev.eccForget_split (d : Dev) (a n : Nat) : (d.eccForget a n).split = d.split := rfl
@[simp] theorem Dev.eccForget_boot (d : Dev) (a n : Nat) : (d.eccForget a n).boot = d.boot := rfl
@[simp] theorem Dev.eccForget_nvm (d : Dev) (a n : Nat) : (d.eccForget a n).nvm = d.nvm := rfl
@[simp] theorem Dev.eccForget_hdac (d : Dev) (a n : Nat) : (d.eccForget a n).hdac = d.hdac := rfl
@[simp] theorem Dev.eccForget_scrub (d : Dev) (a n : Nat) : (d.eccForget a n).scrub = d.scrub := rfl
@[simp] theorem Dev.eccForget_power (d : Dev) (a n : Nat) : (d.eccForget a n).power = d.power := rfl
@[simp] theorem Dev.eccForget_baton (d : Dev) (a n : Nat) : (d.eccForget a n).baton = d.baton := rfl
@[simp] theorem Dev.eccForget_spiReply (d : Dev) (a n : Nat) : (d.eccForget a n).spiReply = d.spiReply := rfl
@[simp] theorem Dev.eccForget_batonReply (d : Dev) (a n : Nat) : (d.eccForget a n).batonReply = d.batonReply := rfl
@[simp] theorem Dev.eccForget_wideR (d : Dev) (a n : Nat) : (d.eccForget a n).wideR = d.wideR := rfl
@[simp] theorem Dev.eccForget_wideW (d : Dev) (a n : Nat) : (d.eccForget a n).wideW = d.wideW := rfl
@[simp] theorem Dev.eccForget_unapplied (d : Dev) (a n : Nat) : (d.eccForget a n).unapplied = d.unapplied := rfl
@[simp] theorem Dev.eccForget_tap (d : Dev) (a n : Nat) : (d.eccForget a n).tap = d.tap := rfl
@[simp] theorem Dev.eccForget_mboxTimer (d : Dev) (a n : Nat) : (d.eccForget a n).mboxTimer = d.mboxTimer := rfl
@[simp] theorem Dev.eccForget_coachUp (d : Dev) (a n : Nat) : (d.eccForget a n).coachUp = d.coachUp := rfl

/-! drawn -/

@[simp] theorem Dev.drawn_life (d : Dev) : (d.drawn).life = d.life := rfl
@[simp] theorem Dev.drawn_offPages (d : Dev) : (d.drawn).offPages = d.offPages := rfl
@[simp] theorem Dev.drawn_inReset (d : Dev) : (d.drawn).inReset = d.inReset := rfl
@[simp] theorem Dev.drawn_regs (d : Dev) : (d.drawn).regs = d.regs := rfl
@[simp] theorem Dev.drawn_live (d : Dev) : (d.drawn).live = d.live := rfl
@[simp] theorem Dev.drawn_samp (d : Dev) : (d.drawn).samp = d.samp := rfl
@[simp] theorem Dev.drawn_late (d : Dev) : (d.drawn).late = d.late := rfl
@[simp] theorem Dev.drawn_commit (d : Dev) : (d.drawn).commit = d.commit := rfl
@[simp] theorem Dev.drawn_tk (d : Dev) : (d.drawn).tk = d.tk := rfl
@[simp] theorem Dev.drawn_resp (d : Dev) : (d.drawn).resp = d.resp := rfl
@[simp] theorem Dev.drawn_faultN (d : Dev) : (d.drawn).faultN = d.faultN := rfl
@[simp] theorem Dev.drawn_trip (d : Dev) : (d.drawn).trip = d.trip := rfl
@[simp] theorem Dev.drawn_clrLow (d : Dev) : (d.drawn).clrLow = d.clrLow := rfl
@[simp] theorem Dev.drawn_ref (d : Dev) : (d.drawn).ref = d.ref := rfl
@[simp] theorem Dev.drawn_lrx (d : Dev) : (d.drawn).lrx = d.lrx := rfl
@[simp] theorem Dev.drawn_pacer (d : Dev) : (d.drawn).pacer = d.pacer := rfl
@[simp] theorem Dev.drawn_ltx (d : Dev) : (d.drawn).ltx = d.ltx := rfl
@[simp] theorem Dev.drawn_hrx (d : Dev) : (d.drawn).hrx = d.hrx := rfl
@[simp] theorem Dev.drawn_htx (d : Dev) : (d.drawn).htx = d.htx := rfl
@[simp] theorem Dev.drawn_code (d : Dev) : (d.drawn).code = d.code := rfl
@[simp] theorem Dev.drawn_squad (d : Dev) : (d.drawn).squad = d.squad := rfl
@[simp] theorem Dev.drawn_loader (d : Dev) : (d.drawn).loader = d.loader := rfl
@[simp] theorem Dev.drawn_serving (d : Dev) : (d.drawn).serving = d.serving := rfl
@[simp] theorem Dev.drawn_ecc (d : Dev) : (d.drawn).ecc = d.ecc := rfl
@[simp] theorem Dev.drawn_votes (d : Dev) : (d.drawn).votes = d.votes := rfl
@[simp] theorem Dev.drawn_trial (d : Dev) : (d.drawn).trial = d.trial := rfl
@[simp] theorem Dev.drawn_madc (d : Dev) : (d.drawn).madc = d.madc := rfl
@[simp] theorem Dev.drawn_filt (d : Dev) : (d.drawn).filt = d.filt := rfl
@[simp] theorem Dev.drawn_therm (d : Dev) : (d.drawn).therm = d.therm := rfl
@[simp] theorem Dev.drawn_cal (d : Dev) : (d.drawn).cal = d.cal := rfl
@[simp] theorem Dev.drawn_cap (d : Dev) : (d.drawn).cap = d.cap := rfl
@[simp] theorem Dev.drawn_split (d : Dev) : (d.drawn).split = d.split := rfl
@[simp] theorem Dev.drawn_boot (d : Dev) : (d.drawn).boot = d.boot := rfl
@[simp] theorem Dev.drawn_nvm (d : Dev) : (d.drawn).nvm = d.nvm := rfl
@[simp] theorem Dev.drawn_hdac (d : Dev) : (d.drawn).hdac = d.hdac := rfl
@[simp] theorem Dev.drawn_scrub (d : Dev) : (d.drawn).scrub = d.scrub := rfl
@[simp] theorem Dev.drawn_power (d : Dev) : (d.drawn).power = d.power := rfl
@[simp] theorem Dev.drawn_baton (d : Dev) : (d.drawn).baton = d.baton := rfl
@[simp] theorem Dev.drawn_spiReply (d : Dev) : (d.drawn).spiReply = d.spiReply := rfl
@[simp] theorem Dev.drawn_batonReply (d : Dev) : (d.drawn).batonReply = d.batonReply := rfl
@[simp] theorem Dev.drawn_wideR (d : Dev) : (d.drawn).wideR = d.wideR := rfl
@[simp] theorem Dev.drawn_wideW (d : Dev) : (d.drawn).wideW = d.wideW := rfl
@[simp] theorem Dev.drawn_unapplied (d : Dev) : (d.drawn).unapplied = d.unapplied := rfl
@[simp] theorem Dev.drawn_tap (d : Dev) : (d.drawn).tap = d.tap := rfl
@[simp] theorem Dev.drawn_mboxTimer (d : Dev) : (d.drawn).mboxTimer = d.mboxTimer := rfl
@[simp] theorem Dev.drawn_coachUp (d : Dev) : (d.drawn).coachUp = d.coachUp := rfl

/-! updLrx -/

@[simp] theorem Dev.updLrx_life (d : Dev) (n : Lane) (f : LrxH → LrxH) : (d.updLrx n f).life = d.life := rfl
@[simp] theorem Dev.updLrx_offPages (d : Dev) (n : Lane) (f : LrxH → LrxH) : (d.updLrx n f).offPages = d.offPages := rfl
@[simp] theorem Dev.updLrx_inReset (d : Dev) (n : Lane) (f : LrxH → LrxH) : (d.updLrx n f).inReset = d.inReset := rfl
@[simp] theorem Dev.updLrx_regs (d : Dev) (n : Lane) (f : LrxH → LrxH) : (d.updLrx n f).regs = d.regs := rfl
@[simp] theorem Dev.updLrx_live (d : Dev) (n : Lane) (f : LrxH → LrxH) : (d.updLrx n f).live = d.live := rfl
@[simp] theorem Dev.updLrx_samp (d : Dev) (n : Lane) (f : LrxH → LrxH) : (d.updLrx n f).samp = d.samp := rfl
@[simp] theorem Dev.updLrx_late (d : Dev) (n : Lane) (f : LrxH → LrxH) : (d.updLrx n f).late = d.late := rfl
@[simp] theorem Dev.updLrx_commit (d : Dev) (n : Lane) (f : LrxH → LrxH) : (d.updLrx n f).commit = d.commit := rfl
@[simp] theorem Dev.updLrx_tk (d : Dev) (n : Lane) (f : LrxH → LrxH) : (d.updLrx n f).tk = d.tk := rfl
@[simp] theorem Dev.updLrx_free (d : Dev) (n : Lane) (f : LrxH → LrxH) : (d.updLrx n f).free = d.free := rfl
@[simp] theorem Dev.updLrx_resp (d : Dev) (n : Lane) (f : LrxH → LrxH) : (d.updLrx n f).resp = d.resp := rfl
@[simp] theorem Dev.updLrx_faultN (d : Dev) (n : Lane) (f : LrxH → LrxH) : (d.updLrx n f).faultN = d.faultN := rfl
@[simp] theorem Dev.updLrx_trip (d : Dev) (n : Lane) (f : LrxH → LrxH) : (d.updLrx n f).trip = d.trip := rfl
@[simp] theorem Dev.updLrx_clrLow (d : Dev) (n : Lane) (f : LrxH → LrxH) : (d.updLrx n f).clrLow = d.clrLow := rfl
@[simp] theorem Dev.updLrx_ref (d : Dev) (n : Lane) (f : LrxH → LrxH) : (d.updLrx n f).ref = d.ref := rfl
@[simp] theorem Dev.updLrx_pacer (d : Dev) (n : Lane) (f : LrxH → LrxH) : (d.updLrx n f).pacer = d.pacer := rfl
@[simp] theorem Dev.updLrx_ltx (d : Dev) (n : Lane) (f : LrxH → LrxH) : (d.updLrx n f).ltx = d.ltx := rfl
@[simp] theorem Dev.updLrx_hrx (d : Dev) (n : Lane) (f : LrxH → LrxH) : (d.updLrx n f).hrx = d.hrx := rfl
@[simp] theorem Dev.updLrx_htx (d : Dev) (n : Lane) (f : LrxH → LrxH) : (d.updLrx n f).htx = d.htx := rfl
@[simp] theorem Dev.updLrx_code (d : Dev) (n : Lane) (f : LrxH → LrxH) : (d.updLrx n f).code = d.code := rfl
@[simp] theorem Dev.updLrx_squad (d : Dev) (n : Lane) (f : LrxH → LrxH) : (d.updLrx n f).squad = d.squad := rfl
@[simp] theorem Dev.updLrx_loader (d : Dev) (n : Lane) (f : LrxH → LrxH) : (d.updLrx n f).loader = d.loader := rfl
@[simp] theorem Dev.updLrx_serving (d : Dev) (n : Lane) (f : LrxH → LrxH) : (d.updLrx n f).serving = d.serving := rfl
@[simp] theorem Dev.updLrx_ecc (d : Dev) (n : Lane) (f : LrxH → LrxH) : (d.updLrx n f).ecc = d.ecc := rfl
@[simp] theorem Dev.updLrx_votes (d : Dev) (n : Lane) (f : LrxH → LrxH) : (d.updLrx n f).votes = d.votes := rfl
@[simp] theorem Dev.updLrx_trial (d : Dev) (n : Lane) (f : LrxH → LrxH) : (d.updLrx n f).trial = d.trial := rfl
@[simp] theorem Dev.updLrx_madc (d : Dev) (n : Lane) (f : LrxH → LrxH) : (d.updLrx n f).madc = d.madc := rfl
@[simp] theorem Dev.updLrx_filt (d : Dev) (n : Lane) (f : LrxH → LrxH) : (d.updLrx n f).filt = d.filt := rfl
@[simp] theorem Dev.updLrx_therm (d : Dev) (n : Lane) (f : LrxH → LrxH) : (d.updLrx n f).therm = d.therm := rfl
@[simp] theorem Dev.updLrx_cal (d : Dev) (n : Lane) (f : LrxH → LrxH) : (d.updLrx n f).cal = d.cal := rfl
@[simp] theorem Dev.updLrx_cap (d : Dev) (n : Lane) (f : LrxH → LrxH) : (d.updLrx n f).cap = d.cap := rfl
@[simp] theorem Dev.updLrx_split (d : Dev) (n : Lane) (f : LrxH → LrxH) : (d.updLrx n f).split = d.split := rfl
@[simp] theorem Dev.updLrx_boot (d : Dev) (n : Lane) (f : LrxH → LrxH) : (d.updLrx n f).boot = d.boot := rfl
@[simp] theorem Dev.updLrx_nvm (d : Dev) (n : Lane) (f : LrxH → LrxH) : (d.updLrx n f).nvm = d.nvm := rfl
@[simp] theorem Dev.updLrx_hdac (d : Dev) (n : Lane) (f : LrxH → LrxH) : (d.updLrx n f).hdac = d.hdac := rfl
@[simp] theorem Dev.updLrx_scrub (d : Dev) (n : Lane) (f : LrxH → LrxH) : (d.updLrx n f).scrub = d.scrub := rfl
@[simp] theorem Dev.updLrx_power (d : Dev) (n : Lane) (f : LrxH → LrxH) : (d.updLrx n f).power = d.power := rfl
@[simp] theorem Dev.updLrx_baton (d : Dev) (n : Lane) (f : LrxH → LrxH) : (d.updLrx n f).baton = d.baton := rfl
@[simp] theorem Dev.updLrx_spiReply (d : Dev) (n : Lane) (f : LrxH → LrxH) : (d.updLrx n f).spiReply = d.spiReply := rfl
@[simp] theorem Dev.updLrx_batonReply (d : Dev) (n : Lane) (f : LrxH → LrxH) : (d.updLrx n f).batonReply = d.batonReply := rfl
@[simp] theorem Dev.updLrx_wideR (d : Dev) (n : Lane) (f : LrxH → LrxH) : (d.updLrx n f).wideR = d.wideR := rfl
@[simp] theorem Dev.updLrx_wideW (d : Dev) (n : Lane) (f : LrxH → LrxH) : (d.updLrx n f).wideW = d.wideW := rfl
@[simp] theorem Dev.updLrx_unapplied (d : Dev) (n : Lane) (f : LrxH → LrxH) : (d.updLrx n f).unapplied = d.unapplied := rfl
@[simp] theorem Dev.updLrx_tap (d : Dev) (n : Lane) (f : LrxH → LrxH) : (d.updLrx n f).tap = d.tap := rfl
@[simp] theorem Dev.updLrx_mboxTimer (d : Dev) (n : Lane) (f : LrxH → LrxH) : (d.updLrx n f).mboxTimer = d.mboxTimer := rfl
@[simp] theorem Dev.updLrx_coachUp (d : Dev) (n : Lane) (f : LrxH → LrxH) : (d.updLrx n f).coachUp = d.coachUp := rfl

/-! updPacer -/

@[simp] theorem Dev.updPacer_life (d : Dev) (n : Lane) (f : PacerH → PacerH) : (d.updPacer n f).life = d.life := rfl
@[simp] theorem Dev.updPacer_offPages (d : Dev) (n : Lane) (f : PacerH → PacerH) : (d.updPacer n f).offPages = d.offPages := rfl
@[simp] theorem Dev.updPacer_inReset (d : Dev) (n : Lane) (f : PacerH → PacerH) : (d.updPacer n f).inReset = d.inReset := rfl
@[simp] theorem Dev.updPacer_regs (d : Dev) (n : Lane) (f : PacerH → PacerH) : (d.updPacer n f).regs = d.regs := rfl
@[simp] theorem Dev.updPacer_live (d : Dev) (n : Lane) (f : PacerH → PacerH) : (d.updPacer n f).live = d.live := rfl
@[simp] theorem Dev.updPacer_samp (d : Dev) (n : Lane) (f : PacerH → PacerH) : (d.updPacer n f).samp = d.samp := rfl
@[simp] theorem Dev.updPacer_late (d : Dev) (n : Lane) (f : PacerH → PacerH) : (d.updPacer n f).late = d.late := rfl
@[simp] theorem Dev.updPacer_commit (d : Dev) (n : Lane) (f : PacerH → PacerH) : (d.updPacer n f).commit = d.commit := rfl
@[simp] theorem Dev.updPacer_tk (d : Dev) (n : Lane) (f : PacerH → PacerH) : (d.updPacer n f).tk = d.tk := rfl
@[simp] theorem Dev.updPacer_free (d : Dev) (n : Lane) (f : PacerH → PacerH) : (d.updPacer n f).free = d.free := rfl
@[simp] theorem Dev.updPacer_resp (d : Dev) (n : Lane) (f : PacerH → PacerH) : (d.updPacer n f).resp = d.resp := rfl
@[simp] theorem Dev.updPacer_faultN (d : Dev) (n : Lane) (f : PacerH → PacerH) : (d.updPacer n f).faultN = d.faultN := rfl
@[simp] theorem Dev.updPacer_trip (d : Dev) (n : Lane) (f : PacerH → PacerH) : (d.updPacer n f).trip = d.trip := rfl
@[simp] theorem Dev.updPacer_clrLow (d : Dev) (n : Lane) (f : PacerH → PacerH) : (d.updPacer n f).clrLow = d.clrLow := rfl
@[simp] theorem Dev.updPacer_ref (d : Dev) (n : Lane) (f : PacerH → PacerH) : (d.updPacer n f).ref = d.ref := rfl
@[simp] theorem Dev.updPacer_lrx (d : Dev) (n : Lane) (f : PacerH → PacerH) : (d.updPacer n f).lrx = d.lrx := rfl
@[simp] theorem Dev.updPacer_ltx (d : Dev) (n : Lane) (f : PacerH → PacerH) : (d.updPacer n f).ltx = d.ltx := rfl
@[simp] theorem Dev.updPacer_hrx (d : Dev) (n : Lane) (f : PacerH → PacerH) : (d.updPacer n f).hrx = d.hrx := rfl
@[simp] theorem Dev.updPacer_htx (d : Dev) (n : Lane) (f : PacerH → PacerH) : (d.updPacer n f).htx = d.htx := rfl
@[simp] theorem Dev.updPacer_code (d : Dev) (n : Lane) (f : PacerH → PacerH) : (d.updPacer n f).code = d.code := rfl
@[simp] theorem Dev.updPacer_squad (d : Dev) (n : Lane) (f : PacerH → PacerH) : (d.updPacer n f).squad = d.squad := rfl
@[simp] theorem Dev.updPacer_loader (d : Dev) (n : Lane) (f : PacerH → PacerH) : (d.updPacer n f).loader = d.loader := rfl
@[simp] theorem Dev.updPacer_serving (d : Dev) (n : Lane) (f : PacerH → PacerH) : (d.updPacer n f).serving = d.serving := rfl
@[simp] theorem Dev.updPacer_ecc (d : Dev) (n : Lane) (f : PacerH → PacerH) : (d.updPacer n f).ecc = d.ecc := rfl
@[simp] theorem Dev.updPacer_votes (d : Dev) (n : Lane) (f : PacerH → PacerH) : (d.updPacer n f).votes = d.votes := rfl
@[simp] theorem Dev.updPacer_trial (d : Dev) (n : Lane) (f : PacerH → PacerH) : (d.updPacer n f).trial = d.trial := rfl
@[simp] theorem Dev.updPacer_madc (d : Dev) (n : Lane) (f : PacerH → PacerH) : (d.updPacer n f).madc = d.madc := rfl
@[simp] theorem Dev.updPacer_filt (d : Dev) (n : Lane) (f : PacerH → PacerH) : (d.updPacer n f).filt = d.filt := rfl
@[simp] theorem Dev.updPacer_therm (d : Dev) (n : Lane) (f : PacerH → PacerH) : (d.updPacer n f).therm = d.therm := rfl
@[simp] theorem Dev.updPacer_cal (d : Dev) (n : Lane) (f : PacerH → PacerH) : (d.updPacer n f).cal = d.cal := rfl
@[simp] theorem Dev.updPacer_cap (d : Dev) (n : Lane) (f : PacerH → PacerH) : (d.updPacer n f).cap = d.cap := rfl
@[simp] theorem Dev.updPacer_split (d : Dev) (n : Lane) (f : PacerH → PacerH) : (d.updPacer n f).split = d.split := rfl
@[simp] theorem Dev.updPacer_boot (d : Dev) (n : Lane) (f : PacerH → PacerH) : (d.updPacer n f).boot = d.boot := rfl
@[simp] theorem Dev.updPacer_nvm (d : Dev) (n : Lane) (f : PacerH → PacerH) : (d.updPacer n f).nvm = d.nvm := rfl
@[simp] theorem Dev.updPacer_hdac (d : Dev) (n : Lane) (f : PacerH → PacerH) : (d.updPacer n f).hdac = d.hdac := rfl
@[simp] theorem Dev.updPacer_scrub (d : Dev) (n : Lane) (f : PacerH → PacerH) : (d.updPacer n f).scrub = d.scrub := rfl
@[simp] theorem Dev.updPacer_power (d : Dev) (n : Lane) (f : PacerH → PacerH) : (d.updPacer n f).power = d.power := rfl
@[simp] theorem Dev.updPacer_baton (d : Dev) (n : Lane) (f : PacerH → PacerH) : (d.updPacer n f).baton = d.baton := rfl
@[simp] theorem Dev.updPacer_spiReply (d : Dev) (n : Lane) (f : PacerH → PacerH) : (d.updPacer n f).spiReply = d.spiReply := rfl
@[simp] theorem Dev.updPacer_batonReply (d : Dev) (n : Lane) (f : PacerH → PacerH) : (d.updPacer n f).batonReply = d.batonReply := rfl
@[simp] theorem Dev.updPacer_wideR (d : Dev) (n : Lane) (f : PacerH → PacerH) : (d.updPacer n f).wideR = d.wideR := rfl
@[simp] theorem Dev.updPacer_wideW (d : Dev) (n : Lane) (f : PacerH → PacerH) : (d.updPacer n f).wideW = d.wideW := rfl
@[simp] theorem Dev.updPacer_unapplied (d : Dev) (n : Lane) (f : PacerH → PacerH) : (d.updPacer n f).unapplied = d.unapplied := rfl
@[simp] theorem Dev.updPacer_tap (d : Dev) (n : Lane) (f : PacerH → PacerH) : (d.updPacer n f).tap = d.tap := rfl
@[simp] theorem Dev.updPacer_mboxTimer (d : Dev) (n : Lane) (f : PacerH → PacerH) : (d.updPacer n f).mboxTimer = d.mboxTimer := rfl
@[simp] theorem Dev.updPacer_coachUp (d : Dev) (n : Lane) (f : PacerH → PacerH) : (d.updPacer n f).coachUp = d.coachUp := rfl

/-! updLtx -/

@[simp] theorem Dev.updLtx_life (d : Dev) (n : Lane) (f : LtxH → LtxH) : (d.updLtx n f).life = d.life := rfl
@[simp] theorem Dev.updLtx_offPages (d : Dev) (n : Lane) (f : LtxH → LtxH) : (d.updLtx n f).offPages = d.offPages := rfl
@[simp] theorem Dev.updLtx_inReset (d : Dev) (n : Lane) (f : LtxH → LtxH) : (d.updLtx n f).inReset = d.inReset := rfl
@[simp] theorem Dev.updLtx_regs (d : Dev) (n : Lane) (f : LtxH → LtxH) : (d.updLtx n f).regs = d.regs := rfl
@[simp] theorem Dev.updLtx_live (d : Dev) (n : Lane) (f : LtxH → LtxH) : (d.updLtx n f).live = d.live := rfl
@[simp] theorem Dev.updLtx_samp (d : Dev) (n : Lane) (f : LtxH → LtxH) : (d.updLtx n f).samp = d.samp := rfl
@[simp] theorem Dev.updLtx_late (d : Dev) (n : Lane) (f : LtxH → LtxH) : (d.updLtx n f).late = d.late := rfl
@[simp] theorem Dev.updLtx_commit (d : Dev) (n : Lane) (f : LtxH → LtxH) : (d.updLtx n f).commit = d.commit := rfl
@[simp] theorem Dev.updLtx_tk (d : Dev) (n : Lane) (f : LtxH → LtxH) : (d.updLtx n f).tk = d.tk := rfl
@[simp] theorem Dev.updLtx_free (d : Dev) (n : Lane) (f : LtxH → LtxH) : (d.updLtx n f).free = d.free := rfl
@[simp] theorem Dev.updLtx_resp (d : Dev) (n : Lane) (f : LtxH → LtxH) : (d.updLtx n f).resp = d.resp := rfl
@[simp] theorem Dev.updLtx_faultN (d : Dev) (n : Lane) (f : LtxH → LtxH) : (d.updLtx n f).faultN = d.faultN := rfl
@[simp] theorem Dev.updLtx_trip (d : Dev) (n : Lane) (f : LtxH → LtxH) : (d.updLtx n f).trip = d.trip := rfl
@[simp] theorem Dev.updLtx_clrLow (d : Dev) (n : Lane) (f : LtxH → LtxH) : (d.updLtx n f).clrLow = d.clrLow := rfl
@[simp] theorem Dev.updLtx_ref (d : Dev) (n : Lane) (f : LtxH → LtxH) : (d.updLtx n f).ref = d.ref := rfl
@[simp] theorem Dev.updLtx_lrx (d : Dev) (n : Lane) (f : LtxH → LtxH) : (d.updLtx n f).lrx = d.lrx := rfl
@[simp] theorem Dev.updLtx_pacer (d : Dev) (n : Lane) (f : LtxH → LtxH) : (d.updLtx n f).pacer = d.pacer := rfl
@[simp] theorem Dev.updLtx_hrx (d : Dev) (n : Lane) (f : LtxH → LtxH) : (d.updLtx n f).hrx = d.hrx := rfl
@[simp] theorem Dev.updLtx_htx (d : Dev) (n : Lane) (f : LtxH → LtxH) : (d.updLtx n f).htx = d.htx := rfl
@[simp] theorem Dev.updLtx_code (d : Dev) (n : Lane) (f : LtxH → LtxH) : (d.updLtx n f).code = d.code := rfl
@[simp] theorem Dev.updLtx_squad (d : Dev) (n : Lane) (f : LtxH → LtxH) : (d.updLtx n f).squad = d.squad := rfl
@[simp] theorem Dev.updLtx_loader (d : Dev) (n : Lane) (f : LtxH → LtxH) : (d.updLtx n f).loader = d.loader := rfl
@[simp] theorem Dev.updLtx_serving (d : Dev) (n : Lane) (f : LtxH → LtxH) : (d.updLtx n f).serving = d.serving := rfl
@[simp] theorem Dev.updLtx_ecc (d : Dev) (n : Lane) (f : LtxH → LtxH) : (d.updLtx n f).ecc = d.ecc := rfl
@[simp] theorem Dev.updLtx_votes (d : Dev) (n : Lane) (f : LtxH → LtxH) : (d.updLtx n f).votes = d.votes := rfl
@[simp] theorem Dev.updLtx_trial (d : Dev) (n : Lane) (f : LtxH → LtxH) : (d.updLtx n f).trial = d.trial := rfl
@[simp] theorem Dev.updLtx_madc (d : Dev) (n : Lane) (f : LtxH → LtxH) : (d.updLtx n f).madc = d.madc := rfl
@[simp] theorem Dev.updLtx_filt (d : Dev) (n : Lane) (f : LtxH → LtxH) : (d.updLtx n f).filt = d.filt := rfl
@[simp] theorem Dev.updLtx_therm (d : Dev) (n : Lane) (f : LtxH → LtxH) : (d.updLtx n f).therm = d.therm := rfl
@[simp] theorem Dev.updLtx_cal (d : Dev) (n : Lane) (f : LtxH → LtxH) : (d.updLtx n f).cal = d.cal := rfl
@[simp] theorem Dev.updLtx_cap (d : Dev) (n : Lane) (f : LtxH → LtxH) : (d.updLtx n f).cap = d.cap := rfl
@[simp] theorem Dev.updLtx_split (d : Dev) (n : Lane) (f : LtxH → LtxH) : (d.updLtx n f).split = d.split := rfl
@[simp] theorem Dev.updLtx_boot (d : Dev) (n : Lane) (f : LtxH → LtxH) : (d.updLtx n f).boot = d.boot := rfl
@[simp] theorem Dev.updLtx_nvm (d : Dev) (n : Lane) (f : LtxH → LtxH) : (d.updLtx n f).nvm = d.nvm := rfl
@[simp] theorem Dev.updLtx_hdac (d : Dev) (n : Lane) (f : LtxH → LtxH) : (d.updLtx n f).hdac = d.hdac := rfl
@[simp] theorem Dev.updLtx_scrub (d : Dev) (n : Lane) (f : LtxH → LtxH) : (d.updLtx n f).scrub = d.scrub := rfl
@[simp] theorem Dev.updLtx_power (d : Dev) (n : Lane) (f : LtxH → LtxH) : (d.updLtx n f).power = d.power := rfl
@[simp] theorem Dev.updLtx_baton (d : Dev) (n : Lane) (f : LtxH → LtxH) : (d.updLtx n f).baton = d.baton := rfl
@[simp] theorem Dev.updLtx_spiReply (d : Dev) (n : Lane) (f : LtxH → LtxH) : (d.updLtx n f).spiReply = d.spiReply := rfl
@[simp] theorem Dev.updLtx_batonReply (d : Dev) (n : Lane) (f : LtxH → LtxH) : (d.updLtx n f).batonReply = d.batonReply := rfl
@[simp] theorem Dev.updLtx_wideR (d : Dev) (n : Lane) (f : LtxH → LtxH) : (d.updLtx n f).wideR = d.wideR := rfl
@[simp] theorem Dev.updLtx_wideW (d : Dev) (n : Lane) (f : LtxH → LtxH) : (d.updLtx n f).wideW = d.wideW := rfl
@[simp] theorem Dev.updLtx_unapplied (d : Dev) (n : Lane) (f : LtxH → LtxH) : (d.updLtx n f).unapplied = d.unapplied := rfl
@[simp] theorem Dev.updLtx_tap (d : Dev) (n : Lane) (f : LtxH → LtxH) : (d.updLtx n f).tap = d.tap := rfl
@[simp] theorem Dev.updLtx_mboxTimer (d : Dev) (n : Lane) (f : LtxH → LtxH) : (d.updLtx n f).mboxTimer = d.mboxTimer := rfl
@[simp] theorem Dev.updLtx_coachUp (d : Dev) (n : Lane) (f : LtxH → LtxH) : (d.updLtx n f).coachUp = d.coachUp := rfl

/-! updHrx -/

@[simp] theorem Dev.updHrx_life (d : Dev) (n : Lane) (f : HrxH → HrxH) : (d.updHrx n f).life = d.life := rfl
@[simp] theorem Dev.updHrx_offPages (d : Dev) (n : Lane) (f : HrxH → HrxH) : (d.updHrx n f).offPages = d.offPages := rfl
@[simp] theorem Dev.updHrx_inReset (d : Dev) (n : Lane) (f : HrxH → HrxH) : (d.updHrx n f).inReset = d.inReset := rfl
@[simp] theorem Dev.updHrx_regs (d : Dev) (n : Lane) (f : HrxH → HrxH) : (d.updHrx n f).regs = d.regs := rfl
@[simp] theorem Dev.updHrx_live (d : Dev) (n : Lane) (f : HrxH → HrxH) : (d.updHrx n f).live = d.live := rfl
@[simp] theorem Dev.updHrx_samp (d : Dev) (n : Lane) (f : HrxH → HrxH) : (d.updHrx n f).samp = d.samp := rfl
@[simp] theorem Dev.updHrx_late (d : Dev) (n : Lane) (f : HrxH → HrxH) : (d.updHrx n f).late = d.late := rfl
@[simp] theorem Dev.updHrx_commit (d : Dev) (n : Lane) (f : HrxH → HrxH) : (d.updHrx n f).commit = d.commit := rfl
@[simp] theorem Dev.updHrx_tk (d : Dev) (n : Lane) (f : HrxH → HrxH) : (d.updHrx n f).tk = d.tk := rfl
@[simp] theorem Dev.updHrx_free (d : Dev) (n : Lane) (f : HrxH → HrxH) : (d.updHrx n f).free = d.free := rfl
@[simp] theorem Dev.updHrx_resp (d : Dev) (n : Lane) (f : HrxH → HrxH) : (d.updHrx n f).resp = d.resp := rfl
@[simp] theorem Dev.updHrx_faultN (d : Dev) (n : Lane) (f : HrxH → HrxH) : (d.updHrx n f).faultN = d.faultN := rfl
@[simp] theorem Dev.updHrx_trip (d : Dev) (n : Lane) (f : HrxH → HrxH) : (d.updHrx n f).trip = d.trip := rfl
@[simp] theorem Dev.updHrx_clrLow (d : Dev) (n : Lane) (f : HrxH → HrxH) : (d.updHrx n f).clrLow = d.clrLow := rfl
@[simp] theorem Dev.updHrx_ref (d : Dev) (n : Lane) (f : HrxH → HrxH) : (d.updHrx n f).ref = d.ref := rfl
@[simp] theorem Dev.updHrx_lrx (d : Dev) (n : Lane) (f : HrxH → HrxH) : (d.updHrx n f).lrx = d.lrx := rfl
@[simp] theorem Dev.updHrx_pacer (d : Dev) (n : Lane) (f : HrxH → HrxH) : (d.updHrx n f).pacer = d.pacer := rfl
@[simp] theorem Dev.updHrx_ltx (d : Dev) (n : Lane) (f : HrxH → HrxH) : (d.updHrx n f).ltx = d.ltx := rfl
@[simp] theorem Dev.updHrx_htx (d : Dev) (n : Lane) (f : HrxH → HrxH) : (d.updHrx n f).htx = d.htx := rfl
@[simp] theorem Dev.updHrx_code (d : Dev) (n : Lane) (f : HrxH → HrxH) : (d.updHrx n f).code = d.code := rfl
@[simp] theorem Dev.updHrx_squad (d : Dev) (n : Lane) (f : HrxH → HrxH) : (d.updHrx n f).squad = d.squad := rfl
@[simp] theorem Dev.updHrx_loader (d : Dev) (n : Lane) (f : HrxH → HrxH) : (d.updHrx n f).loader = d.loader := rfl
@[simp] theorem Dev.updHrx_serving (d : Dev) (n : Lane) (f : HrxH → HrxH) : (d.updHrx n f).serving = d.serving := rfl
@[simp] theorem Dev.updHrx_ecc (d : Dev) (n : Lane) (f : HrxH → HrxH) : (d.updHrx n f).ecc = d.ecc := rfl
@[simp] theorem Dev.updHrx_votes (d : Dev) (n : Lane) (f : HrxH → HrxH) : (d.updHrx n f).votes = d.votes := rfl
@[simp] theorem Dev.updHrx_trial (d : Dev) (n : Lane) (f : HrxH → HrxH) : (d.updHrx n f).trial = d.trial := rfl
@[simp] theorem Dev.updHrx_madc (d : Dev) (n : Lane) (f : HrxH → HrxH) : (d.updHrx n f).madc = d.madc := rfl
@[simp] theorem Dev.updHrx_filt (d : Dev) (n : Lane) (f : HrxH → HrxH) : (d.updHrx n f).filt = d.filt := rfl
@[simp] theorem Dev.updHrx_therm (d : Dev) (n : Lane) (f : HrxH → HrxH) : (d.updHrx n f).therm = d.therm := rfl
@[simp] theorem Dev.updHrx_cal (d : Dev) (n : Lane) (f : HrxH → HrxH) : (d.updHrx n f).cal = d.cal := rfl
@[simp] theorem Dev.updHrx_cap (d : Dev) (n : Lane) (f : HrxH → HrxH) : (d.updHrx n f).cap = d.cap := rfl
@[simp] theorem Dev.updHrx_split (d : Dev) (n : Lane) (f : HrxH → HrxH) : (d.updHrx n f).split = d.split := rfl
@[simp] theorem Dev.updHrx_boot (d : Dev) (n : Lane) (f : HrxH → HrxH) : (d.updHrx n f).boot = d.boot := rfl
@[simp] theorem Dev.updHrx_nvm (d : Dev) (n : Lane) (f : HrxH → HrxH) : (d.updHrx n f).nvm = d.nvm := rfl
@[simp] theorem Dev.updHrx_hdac (d : Dev) (n : Lane) (f : HrxH → HrxH) : (d.updHrx n f).hdac = d.hdac := rfl
@[simp] theorem Dev.updHrx_scrub (d : Dev) (n : Lane) (f : HrxH → HrxH) : (d.updHrx n f).scrub = d.scrub := rfl
@[simp] theorem Dev.updHrx_power (d : Dev) (n : Lane) (f : HrxH → HrxH) : (d.updHrx n f).power = d.power := rfl
@[simp] theorem Dev.updHrx_baton (d : Dev) (n : Lane) (f : HrxH → HrxH) : (d.updHrx n f).baton = d.baton := rfl
@[simp] theorem Dev.updHrx_spiReply (d : Dev) (n : Lane) (f : HrxH → HrxH) : (d.updHrx n f).spiReply = d.spiReply := rfl
@[simp] theorem Dev.updHrx_batonReply (d : Dev) (n : Lane) (f : HrxH → HrxH) : (d.updHrx n f).batonReply = d.batonReply := rfl
@[simp] theorem Dev.updHrx_wideR (d : Dev) (n : Lane) (f : HrxH → HrxH) : (d.updHrx n f).wideR = d.wideR := rfl
@[simp] theorem Dev.updHrx_wideW (d : Dev) (n : Lane) (f : HrxH → HrxH) : (d.updHrx n f).wideW = d.wideW := rfl
@[simp] theorem Dev.updHrx_unapplied (d : Dev) (n : Lane) (f : HrxH → HrxH) : (d.updHrx n f).unapplied = d.unapplied := rfl
@[simp] theorem Dev.updHrx_tap (d : Dev) (n : Lane) (f : HrxH → HrxH) : (d.updHrx n f).tap = d.tap := rfl
@[simp] theorem Dev.updHrx_mboxTimer (d : Dev) (n : Lane) (f : HrxH → HrxH) : (d.updHrx n f).mboxTimer = d.mboxTimer := rfl
@[simp] theorem Dev.updHrx_coachUp (d : Dev) (n : Lane) (f : HrxH → HrxH) : (d.updHrx n f).coachUp = d.coachUp := rfl

/-! updHtx -/

@[simp] theorem Dev.updHtx_life (d : Dev) (n : Lane) (f : HtxH → HtxH) : (d.updHtx n f).life = d.life := rfl
@[simp] theorem Dev.updHtx_offPages (d : Dev) (n : Lane) (f : HtxH → HtxH) : (d.updHtx n f).offPages = d.offPages := rfl
@[simp] theorem Dev.updHtx_inReset (d : Dev) (n : Lane) (f : HtxH → HtxH) : (d.updHtx n f).inReset = d.inReset := rfl
@[simp] theorem Dev.updHtx_regs (d : Dev) (n : Lane) (f : HtxH → HtxH) : (d.updHtx n f).regs = d.regs := rfl
@[simp] theorem Dev.updHtx_live (d : Dev) (n : Lane) (f : HtxH → HtxH) : (d.updHtx n f).live = d.live := rfl
@[simp] theorem Dev.updHtx_samp (d : Dev) (n : Lane) (f : HtxH → HtxH) : (d.updHtx n f).samp = d.samp := rfl
@[simp] theorem Dev.updHtx_late (d : Dev) (n : Lane) (f : HtxH → HtxH) : (d.updHtx n f).late = d.late := rfl
@[simp] theorem Dev.updHtx_commit (d : Dev) (n : Lane) (f : HtxH → HtxH) : (d.updHtx n f).commit = d.commit := rfl
@[simp] theorem Dev.updHtx_tk (d : Dev) (n : Lane) (f : HtxH → HtxH) : (d.updHtx n f).tk = d.tk := rfl
@[simp] theorem Dev.updHtx_free (d : Dev) (n : Lane) (f : HtxH → HtxH) : (d.updHtx n f).free = d.free := rfl
@[simp] theorem Dev.updHtx_resp (d : Dev) (n : Lane) (f : HtxH → HtxH) : (d.updHtx n f).resp = d.resp := rfl
@[simp] theorem Dev.updHtx_faultN (d : Dev) (n : Lane) (f : HtxH → HtxH) : (d.updHtx n f).faultN = d.faultN := rfl
@[simp] theorem Dev.updHtx_trip (d : Dev) (n : Lane) (f : HtxH → HtxH) : (d.updHtx n f).trip = d.trip := rfl
@[simp] theorem Dev.updHtx_clrLow (d : Dev) (n : Lane) (f : HtxH → HtxH) : (d.updHtx n f).clrLow = d.clrLow := rfl
@[simp] theorem Dev.updHtx_ref (d : Dev) (n : Lane) (f : HtxH → HtxH) : (d.updHtx n f).ref = d.ref := rfl
@[simp] theorem Dev.updHtx_lrx (d : Dev) (n : Lane) (f : HtxH → HtxH) : (d.updHtx n f).lrx = d.lrx := rfl
@[simp] theorem Dev.updHtx_pacer (d : Dev) (n : Lane) (f : HtxH → HtxH) : (d.updHtx n f).pacer = d.pacer := rfl
@[simp] theorem Dev.updHtx_ltx (d : Dev) (n : Lane) (f : HtxH → HtxH) : (d.updHtx n f).ltx = d.ltx := rfl
@[simp] theorem Dev.updHtx_hrx (d : Dev) (n : Lane) (f : HtxH → HtxH) : (d.updHtx n f).hrx = d.hrx := rfl
@[simp] theorem Dev.updHtx_code (d : Dev) (n : Lane) (f : HtxH → HtxH) : (d.updHtx n f).code = d.code := rfl
@[simp] theorem Dev.updHtx_squad (d : Dev) (n : Lane) (f : HtxH → HtxH) : (d.updHtx n f).squad = d.squad := rfl
@[simp] theorem Dev.updHtx_loader (d : Dev) (n : Lane) (f : HtxH → HtxH) : (d.updHtx n f).loader = d.loader := rfl
@[simp] theorem Dev.updHtx_serving (d : Dev) (n : Lane) (f : HtxH → HtxH) : (d.updHtx n f).serving = d.serving := rfl
@[simp] theorem Dev.updHtx_ecc (d : Dev) (n : Lane) (f : HtxH → HtxH) : (d.updHtx n f).ecc = d.ecc := rfl
@[simp] theorem Dev.updHtx_votes (d : Dev) (n : Lane) (f : HtxH → HtxH) : (d.updHtx n f).votes = d.votes := rfl
@[simp] theorem Dev.updHtx_trial (d : Dev) (n : Lane) (f : HtxH → HtxH) : (d.updHtx n f).trial = d.trial := rfl
@[simp] theorem Dev.updHtx_madc (d : Dev) (n : Lane) (f : HtxH → HtxH) : (d.updHtx n f).madc = d.madc := rfl
@[simp] theorem Dev.updHtx_filt (d : Dev) (n : Lane) (f : HtxH → HtxH) : (d.updHtx n f).filt = d.filt := rfl
@[simp] theorem Dev.updHtx_therm (d : Dev) (n : Lane) (f : HtxH → HtxH) : (d.updHtx n f).therm = d.therm := rfl
@[simp] theorem Dev.updHtx_cal (d : Dev) (n : Lane) (f : HtxH → HtxH) : (d.updHtx n f).cal = d.cal := rfl
@[simp] theorem Dev.updHtx_cap (d : Dev) (n : Lane) (f : HtxH → HtxH) : (d.updHtx n f).cap = d.cap := rfl
@[simp] theorem Dev.updHtx_split (d : Dev) (n : Lane) (f : HtxH → HtxH) : (d.updHtx n f).split = d.split := rfl
@[simp] theorem Dev.updHtx_boot (d : Dev) (n : Lane) (f : HtxH → HtxH) : (d.updHtx n f).boot = d.boot := rfl
@[simp] theorem Dev.updHtx_nvm (d : Dev) (n : Lane) (f : HtxH → HtxH) : (d.updHtx n f).nvm = d.nvm := rfl
@[simp] theorem Dev.updHtx_hdac (d : Dev) (n : Lane) (f : HtxH → HtxH) : (d.updHtx n f).hdac = d.hdac := rfl
@[simp] theorem Dev.updHtx_scrub (d : Dev) (n : Lane) (f : HtxH → HtxH) : (d.updHtx n f).scrub = d.scrub := rfl
@[simp] theorem Dev.updHtx_power (d : Dev) (n : Lane) (f : HtxH → HtxH) : (d.updHtx n f).power = d.power := rfl
@[simp] theorem Dev.updHtx_baton (d : Dev) (n : Lane) (f : HtxH → HtxH) : (d.updHtx n f).baton = d.baton := rfl
@[simp] theorem Dev.updHtx_spiReply (d : Dev) (n : Lane) (f : HtxH → HtxH) : (d.updHtx n f).spiReply = d.spiReply := rfl
@[simp] theorem Dev.updHtx_batonReply (d : Dev) (n : Lane) (f : HtxH → HtxH) : (d.updHtx n f).batonReply = d.batonReply := rfl
@[simp] theorem Dev.updHtx_wideR (d : Dev) (n : Lane) (f : HtxH → HtxH) : (d.updHtx n f).wideR = d.wideR := rfl
@[simp] theorem Dev.updHtx_wideW (d : Dev) (n : Lane) (f : HtxH → HtxH) : (d.updHtx n f).wideW = d.wideW := rfl
@[simp] theorem Dev.updHtx_unapplied (d : Dev) (n : Lane) (f : HtxH → HtxH) : (d.updHtx n f).unapplied = d.unapplied := rfl
@[simp] theorem Dev.updHtx_tap (d : Dev) (n : Lane) (f : HtxH → HtxH) : (d.updHtx n f).tap = d.tap := rfl
@[simp] theorem Dev.updHtx_mboxTimer (d : Dev) (n : Lane) (f : HtxH → HtxH) : (d.updHtx n f).mboxTimer = d.mboxTimer := rfl
@[simp] theorem Dev.updHtx_coachUp (d : Dev) (n : Lane) (f : HtxH → HtxH) : (d.updHtx n f).coachUp = d.coachUp := rfl

/-! updSquad -/

@[simp] theorem Dev.updSquad_life (d : Dev) (n : Sq) (f : SquadH → SquadH) : (d.updSquad n f).life = d.life := rfl
@[simp] theorem Dev.updSquad_offPages (d : Dev) (n : Sq) (f : SquadH → SquadH) : (d.updSquad n f).offPages = d.offPages := rfl
@[simp] theorem Dev.updSquad_inReset (d : Dev) (n : Sq) (f : SquadH → SquadH) : (d.updSquad n f).inReset = d.inReset := rfl
@[simp] theorem Dev.updSquad_regs (d : Dev) (n : Sq) (f : SquadH → SquadH) : (d.updSquad n f).regs = d.regs := rfl
@[simp] theorem Dev.updSquad_live (d : Dev) (n : Sq) (f : SquadH → SquadH) : (d.updSquad n f).live = d.live := rfl
@[simp] theorem Dev.updSquad_samp (d : Dev) (n : Sq) (f : SquadH → SquadH) : (d.updSquad n f).samp = d.samp := rfl
@[simp] theorem Dev.updSquad_late (d : Dev) (n : Sq) (f : SquadH → SquadH) : (d.updSquad n f).late = d.late := rfl
@[simp] theorem Dev.updSquad_commit (d : Dev) (n : Sq) (f : SquadH → SquadH) : (d.updSquad n f).commit = d.commit := rfl
@[simp] theorem Dev.updSquad_tk (d : Dev) (n : Sq) (f : SquadH → SquadH) : (d.updSquad n f).tk = d.tk := rfl
@[simp] theorem Dev.updSquad_free (d : Dev) (n : Sq) (f : SquadH → SquadH) : (d.updSquad n f).free = d.free := rfl
@[simp] theorem Dev.updSquad_resp (d : Dev) (n : Sq) (f : SquadH → SquadH) : (d.updSquad n f).resp = d.resp := rfl
@[simp] theorem Dev.updSquad_faultN (d : Dev) (n : Sq) (f : SquadH → SquadH) : (d.updSquad n f).faultN = d.faultN := rfl
@[simp] theorem Dev.updSquad_trip (d : Dev) (n : Sq) (f : SquadH → SquadH) : (d.updSquad n f).trip = d.trip := rfl
@[simp] theorem Dev.updSquad_clrLow (d : Dev) (n : Sq) (f : SquadH → SquadH) : (d.updSquad n f).clrLow = d.clrLow := rfl
@[simp] theorem Dev.updSquad_ref (d : Dev) (n : Sq) (f : SquadH → SquadH) : (d.updSquad n f).ref = d.ref := rfl
@[simp] theorem Dev.updSquad_lrx (d : Dev) (n : Sq) (f : SquadH → SquadH) : (d.updSquad n f).lrx = d.lrx := rfl
@[simp] theorem Dev.updSquad_pacer (d : Dev) (n : Sq) (f : SquadH → SquadH) : (d.updSquad n f).pacer = d.pacer := rfl
@[simp] theorem Dev.updSquad_ltx (d : Dev) (n : Sq) (f : SquadH → SquadH) : (d.updSquad n f).ltx = d.ltx := rfl
@[simp] theorem Dev.updSquad_hrx (d : Dev) (n : Sq) (f : SquadH → SquadH) : (d.updSquad n f).hrx = d.hrx := rfl
@[simp] theorem Dev.updSquad_htx (d : Dev) (n : Sq) (f : SquadH → SquadH) : (d.updSquad n f).htx = d.htx := rfl
@[simp] theorem Dev.updSquad_code (d : Dev) (n : Sq) (f : SquadH → SquadH) : (d.updSquad n f).code = d.code := rfl
@[simp] theorem Dev.updSquad_loader (d : Dev) (n : Sq) (f : SquadH → SquadH) : (d.updSquad n f).loader = d.loader := rfl
@[simp] theorem Dev.updSquad_serving (d : Dev) (n : Sq) (f : SquadH → SquadH) : (d.updSquad n f).serving = d.serving := rfl
@[simp] theorem Dev.updSquad_ecc (d : Dev) (n : Sq) (f : SquadH → SquadH) : (d.updSquad n f).ecc = d.ecc := rfl
@[simp] theorem Dev.updSquad_votes (d : Dev) (n : Sq) (f : SquadH → SquadH) : (d.updSquad n f).votes = d.votes := rfl
@[simp] theorem Dev.updSquad_trial (d : Dev) (n : Sq) (f : SquadH → SquadH) : (d.updSquad n f).trial = d.trial := rfl
@[simp] theorem Dev.updSquad_madc (d : Dev) (n : Sq) (f : SquadH → SquadH) : (d.updSquad n f).madc = d.madc := rfl
@[simp] theorem Dev.updSquad_filt (d : Dev) (n : Sq) (f : SquadH → SquadH) : (d.updSquad n f).filt = d.filt := rfl
@[simp] theorem Dev.updSquad_therm (d : Dev) (n : Sq) (f : SquadH → SquadH) : (d.updSquad n f).therm = d.therm := rfl
@[simp] theorem Dev.updSquad_cal (d : Dev) (n : Sq) (f : SquadH → SquadH) : (d.updSquad n f).cal = d.cal := rfl
@[simp] theorem Dev.updSquad_cap (d : Dev) (n : Sq) (f : SquadH → SquadH) : (d.updSquad n f).cap = d.cap := rfl
@[simp] theorem Dev.updSquad_split (d : Dev) (n : Sq) (f : SquadH → SquadH) : (d.updSquad n f).split = d.split := rfl
@[simp] theorem Dev.updSquad_boot (d : Dev) (n : Sq) (f : SquadH → SquadH) : (d.updSquad n f).boot = d.boot := rfl
@[simp] theorem Dev.updSquad_nvm (d : Dev) (n : Sq) (f : SquadH → SquadH) : (d.updSquad n f).nvm = d.nvm := rfl
@[simp] theorem Dev.updSquad_hdac (d : Dev) (n : Sq) (f : SquadH → SquadH) : (d.updSquad n f).hdac = d.hdac := rfl
@[simp] theorem Dev.updSquad_scrub (d : Dev) (n : Sq) (f : SquadH → SquadH) : (d.updSquad n f).scrub = d.scrub := rfl
@[simp] theorem Dev.updSquad_power (d : Dev) (n : Sq) (f : SquadH → SquadH) : (d.updSquad n f).power = d.power := rfl
@[simp] theorem Dev.updSquad_baton (d : Dev) (n : Sq) (f : SquadH → SquadH) : (d.updSquad n f).baton = d.baton := rfl
@[simp] theorem Dev.updSquad_spiReply (d : Dev) (n : Sq) (f : SquadH → SquadH) : (d.updSquad n f).spiReply = d.spiReply := rfl
@[simp] theorem Dev.updSquad_batonReply (d : Dev) (n : Sq) (f : SquadH → SquadH) : (d.updSquad n f).batonReply = d.batonReply := rfl
@[simp] theorem Dev.updSquad_wideR (d : Dev) (n : Sq) (f : SquadH → SquadH) : (d.updSquad n f).wideR = d.wideR := rfl
@[simp] theorem Dev.updSquad_wideW (d : Dev) (n : Sq) (f : SquadH → SquadH) : (d.updSquad n f).wideW = d.wideW := rfl
@[simp] theorem Dev.updSquad_unapplied (d : Dev) (n : Sq) (f : SquadH → SquadH) : (d.updSquad n f).unapplied = d.unapplied := rfl
@[simp] theorem Dev.updSquad_tap (d : Dev) (n : Sq) (f : SquadH → SquadH) : (d.updSquad n f).tap = d.tap := rfl
@[simp] theorem Dev.updSquad_mboxTimer (d : Dev) (n : Sq) (f : SquadH → SquadH) : (d.updSquad n f).mboxTimer = d.mboxTimer := rfl
@[simp] theorem Dev.updSquad_coachUp (d : Dev) (n : Sq) (f : SquadH → SquadH) : (d.updSquad n f).coachUp = d.coachUp := rfl

/-! updMadc -/

@[simp] theorem Dev.updMadc_life (d : Dev) (u : Fin 2) (f : MadcH → MadcH) : (d.updMadc u f).life = d.life := rfl
@[simp] theorem Dev.updMadc_offPages (d : Dev) (u : Fin 2) (f : MadcH → MadcH) : (d.updMadc u f).offPages = d.offPages := rfl
@[simp] theorem Dev.updMadc_inReset (d : Dev) (u : Fin 2) (f : MadcH → MadcH) : (d.updMadc u f).inReset = d.inReset := rfl
@[simp] theorem Dev.updMadc_regs (d : Dev) (u : Fin 2) (f : MadcH → MadcH) : (d.updMadc u f).regs = d.regs := rfl
@[simp] theorem Dev.updMadc_live (d : Dev) (u : Fin 2) (f : MadcH → MadcH) : (d.updMadc u f).live = d.live := rfl
@[simp] theorem Dev.updMadc_samp (d : Dev) (u : Fin 2) (f : MadcH → MadcH) : (d.updMadc u f).samp = d.samp := rfl
@[simp] theorem Dev.updMadc_late (d : Dev) (u : Fin 2) (f : MadcH → MadcH) : (d.updMadc u f).late = d.late := rfl
@[simp] theorem Dev.updMadc_commit (d : Dev) (u : Fin 2) (f : MadcH → MadcH) : (d.updMadc u f).commit = d.commit := rfl
@[simp] theorem Dev.updMadc_tk (d : Dev) (u : Fin 2) (f : MadcH → MadcH) : (d.updMadc u f).tk = d.tk := rfl
@[simp] theorem Dev.updMadc_free (d : Dev) (u : Fin 2) (f : MadcH → MadcH) : (d.updMadc u f).free = d.free := rfl
@[simp] theorem Dev.updMadc_resp (d : Dev) (u : Fin 2) (f : MadcH → MadcH) : (d.updMadc u f).resp = d.resp := rfl
@[simp] theorem Dev.updMadc_faultN (d : Dev) (u : Fin 2) (f : MadcH → MadcH) : (d.updMadc u f).faultN = d.faultN := rfl
@[simp] theorem Dev.updMadc_trip (d : Dev) (u : Fin 2) (f : MadcH → MadcH) : (d.updMadc u f).trip = d.trip := rfl
@[simp] theorem Dev.updMadc_clrLow (d : Dev) (u : Fin 2) (f : MadcH → MadcH) : (d.updMadc u f).clrLow = d.clrLow := rfl
@[simp] theorem Dev.updMadc_ref (d : Dev) (u : Fin 2) (f : MadcH → MadcH) : (d.updMadc u f).ref = d.ref := rfl
@[simp] theorem Dev.updMadc_lrx (d : Dev) (u : Fin 2) (f : MadcH → MadcH) : (d.updMadc u f).lrx = d.lrx := rfl
@[simp] theorem Dev.updMadc_pacer (d : Dev) (u : Fin 2) (f : MadcH → MadcH) : (d.updMadc u f).pacer = d.pacer := rfl
@[simp] theorem Dev.updMadc_ltx (d : Dev) (u : Fin 2) (f : MadcH → MadcH) : (d.updMadc u f).ltx = d.ltx := rfl
@[simp] theorem Dev.updMadc_hrx (d : Dev) (u : Fin 2) (f : MadcH → MadcH) : (d.updMadc u f).hrx = d.hrx := rfl
@[simp] theorem Dev.updMadc_htx (d : Dev) (u : Fin 2) (f : MadcH → MadcH) : (d.updMadc u f).htx = d.htx := rfl
@[simp] theorem Dev.updMadc_code (d : Dev) (u : Fin 2) (f : MadcH → MadcH) : (d.updMadc u f).code = d.code := rfl
@[simp] theorem Dev.updMadc_squad (d : Dev) (u : Fin 2) (f : MadcH → MadcH) : (d.updMadc u f).squad = d.squad := rfl
@[simp] theorem Dev.updMadc_loader (d : Dev) (u : Fin 2) (f : MadcH → MadcH) : (d.updMadc u f).loader = d.loader := rfl
@[simp] theorem Dev.updMadc_serving (d : Dev) (u : Fin 2) (f : MadcH → MadcH) : (d.updMadc u f).serving = d.serving := rfl
@[simp] theorem Dev.updMadc_ecc (d : Dev) (u : Fin 2) (f : MadcH → MadcH) : (d.updMadc u f).ecc = d.ecc := rfl
@[simp] theorem Dev.updMadc_votes (d : Dev) (u : Fin 2) (f : MadcH → MadcH) : (d.updMadc u f).votes = d.votes := rfl
@[simp] theorem Dev.updMadc_trial (d : Dev) (u : Fin 2) (f : MadcH → MadcH) : (d.updMadc u f).trial = d.trial := rfl
@[simp] theorem Dev.updMadc_filt (d : Dev) (u : Fin 2) (f : MadcH → MadcH) : (d.updMadc u f).filt = d.filt := rfl
@[simp] theorem Dev.updMadc_therm (d : Dev) (u : Fin 2) (f : MadcH → MadcH) : (d.updMadc u f).therm = d.therm := rfl
@[simp] theorem Dev.updMadc_cal (d : Dev) (u : Fin 2) (f : MadcH → MadcH) : (d.updMadc u f).cal = d.cal := rfl
@[simp] theorem Dev.updMadc_cap (d : Dev) (u : Fin 2) (f : MadcH → MadcH) : (d.updMadc u f).cap = d.cap := rfl
@[simp] theorem Dev.updMadc_split (d : Dev) (u : Fin 2) (f : MadcH → MadcH) : (d.updMadc u f).split = d.split := rfl
@[simp] theorem Dev.updMadc_boot (d : Dev) (u : Fin 2) (f : MadcH → MadcH) : (d.updMadc u f).boot = d.boot := rfl
@[simp] theorem Dev.updMadc_nvm (d : Dev) (u : Fin 2) (f : MadcH → MadcH) : (d.updMadc u f).nvm = d.nvm := rfl
@[simp] theorem Dev.updMadc_hdac (d : Dev) (u : Fin 2) (f : MadcH → MadcH) : (d.updMadc u f).hdac = d.hdac := rfl
@[simp] theorem Dev.updMadc_scrub (d : Dev) (u : Fin 2) (f : MadcH → MadcH) : (d.updMadc u f).scrub = d.scrub := rfl
@[simp] theorem Dev.updMadc_power (d : Dev) (u : Fin 2) (f : MadcH → MadcH) : (d.updMadc u f).power = d.power := rfl
@[simp] theorem Dev.updMadc_baton (d : Dev) (u : Fin 2) (f : MadcH → MadcH) : (d.updMadc u f).baton = d.baton := rfl
@[simp] theorem Dev.updMadc_spiReply (d : Dev) (u : Fin 2) (f : MadcH → MadcH) : (d.updMadc u f).spiReply = d.spiReply := rfl
@[simp] theorem Dev.updMadc_batonReply (d : Dev) (u : Fin 2) (f : MadcH → MadcH) : (d.updMadc u f).batonReply = d.batonReply := rfl
@[simp] theorem Dev.updMadc_wideR (d : Dev) (u : Fin 2) (f : MadcH → MadcH) : (d.updMadc u f).wideR = d.wideR := rfl
@[simp] theorem Dev.updMadc_wideW (d : Dev) (u : Fin 2) (f : MadcH → MadcH) : (d.updMadc u f).wideW = d.wideW := rfl
@[simp] theorem Dev.updMadc_unapplied (d : Dev) (u : Fin 2) (f : MadcH → MadcH) : (d.updMadc u f).unapplied = d.unapplied := rfl
@[simp] theorem Dev.updMadc_tap (d : Dev) (u : Fin 2) (f : MadcH → MadcH) : (d.updMadc u f).tap = d.tap := rfl
@[simp] theorem Dev.updMadc_mboxTimer (d : Dev) (u : Fin 2) (f : MadcH → MadcH) : (d.updMadc u f).mboxTimer = d.mboxTimer := rfl
@[simp] theorem Dev.updMadc_coachUp (d : Dev) (u : Fin 2) (f : MadcH → MadcH) : (d.updMadc u f).coachUp = d.coachUp := rfl

/-! updHdac -/

@[simp] theorem Dev.updHdac_life (d : Dev) (c : Fin 8) (f : HdacH → HdacH) : (d.updHdac c f).life = d.life := rfl
@[simp] theorem Dev.updHdac_offPages (d : Dev) (c : Fin 8) (f : HdacH → HdacH) : (d.updHdac c f).offPages = d.offPages := rfl
@[simp] theorem Dev.updHdac_inReset (d : Dev) (c : Fin 8) (f : HdacH → HdacH) : (d.updHdac c f).inReset = d.inReset := rfl
@[simp] theorem Dev.updHdac_regs (d : Dev) (c : Fin 8) (f : HdacH → HdacH) : (d.updHdac c f).regs = d.regs := rfl
@[simp] theorem Dev.updHdac_live (d : Dev) (c : Fin 8) (f : HdacH → HdacH) : (d.updHdac c f).live = d.live := rfl
@[simp] theorem Dev.updHdac_samp (d : Dev) (c : Fin 8) (f : HdacH → HdacH) : (d.updHdac c f).samp = d.samp := rfl
@[simp] theorem Dev.updHdac_late (d : Dev) (c : Fin 8) (f : HdacH → HdacH) : (d.updHdac c f).late = d.late := rfl
@[simp] theorem Dev.updHdac_commit (d : Dev) (c : Fin 8) (f : HdacH → HdacH) : (d.updHdac c f).commit = d.commit := rfl
@[simp] theorem Dev.updHdac_tk (d : Dev) (c : Fin 8) (f : HdacH → HdacH) : (d.updHdac c f).tk = d.tk := rfl
@[simp] theorem Dev.updHdac_free (d : Dev) (c : Fin 8) (f : HdacH → HdacH) : (d.updHdac c f).free = d.free := rfl
@[simp] theorem Dev.updHdac_resp (d : Dev) (c : Fin 8) (f : HdacH → HdacH) : (d.updHdac c f).resp = d.resp := rfl
@[simp] theorem Dev.updHdac_faultN (d : Dev) (c : Fin 8) (f : HdacH → HdacH) : (d.updHdac c f).faultN = d.faultN := rfl
@[simp] theorem Dev.updHdac_trip (d : Dev) (c : Fin 8) (f : HdacH → HdacH) : (d.updHdac c f).trip = d.trip := rfl
@[simp] theorem Dev.updHdac_clrLow (d : Dev) (c : Fin 8) (f : HdacH → HdacH) : (d.updHdac c f).clrLow = d.clrLow := rfl
@[simp] theorem Dev.updHdac_ref (d : Dev) (c : Fin 8) (f : HdacH → HdacH) : (d.updHdac c f).ref = d.ref := rfl
@[simp] theorem Dev.updHdac_lrx (d : Dev) (c : Fin 8) (f : HdacH → HdacH) : (d.updHdac c f).lrx = d.lrx := rfl
@[simp] theorem Dev.updHdac_pacer (d : Dev) (c : Fin 8) (f : HdacH → HdacH) : (d.updHdac c f).pacer = d.pacer := rfl
@[simp] theorem Dev.updHdac_ltx (d : Dev) (c : Fin 8) (f : HdacH → HdacH) : (d.updHdac c f).ltx = d.ltx := rfl
@[simp] theorem Dev.updHdac_hrx (d : Dev) (c : Fin 8) (f : HdacH → HdacH) : (d.updHdac c f).hrx = d.hrx := rfl
@[simp] theorem Dev.updHdac_htx (d : Dev) (c : Fin 8) (f : HdacH → HdacH) : (d.updHdac c f).htx = d.htx := rfl
@[simp] theorem Dev.updHdac_code (d : Dev) (c : Fin 8) (f : HdacH → HdacH) : (d.updHdac c f).code = d.code := rfl
@[simp] theorem Dev.updHdac_squad (d : Dev) (c : Fin 8) (f : HdacH → HdacH) : (d.updHdac c f).squad = d.squad := rfl
@[simp] theorem Dev.updHdac_loader (d : Dev) (c : Fin 8) (f : HdacH → HdacH) : (d.updHdac c f).loader = d.loader := rfl
@[simp] theorem Dev.updHdac_serving (d : Dev) (c : Fin 8) (f : HdacH → HdacH) : (d.updHdac c f).serving = d.serving := rfl
@[simp] theorem Dev.updHdac_ecc (d : Dev) (c : Fin 8) (f : HdacH → HdacH) : (d.updHdac c f).ecc = d.ecc := rfl
@[simp] theorem Dev.updHdac_votes (d : Dev) (c : Fin 8) (f : HdacH → HdacH) : (d.updHdac c f).votes = d.votes := rfl
@[simp] theorem Dev.updHdac_trial (d : Dev) (c : Fin 8) (f : HdacH → HdacH) : (d.updHdac c f).trial = d.trial := rfl
@[simp] theorem Dev.updHdac_madc (d : Dev) (c : Fin 8) (f : HdacH → HdacH) : (d.updHdac c f).madc = d.madc := rfl
@[simp] theorem Dev.updHdac_filt (d : Dev) (c : Fin 8) (f : HdacH → HdacH) : (d.updHdac c f).filt = d.filt := rfl
@[simp] theorem Dev.updHdac_therm (d : Dev) (c : Fin 8) (f : HdacH → HdacH) : (d.updHdac c f).therm = d.therm := rfl
@[simp] theorem Dev.updHdac_cal (d : Dev) (c : Fin 8) (f : HdacH → HdacH) : (d.updHdac c f).cal = d.cal := rfl
@[simp] theorem Dev.updHdac_cap (d : Dev) (c : Fin 8) (f : HdacH → HdacH) : (d.updHdac c f).cap = d.cap := rfl
@[simp] theorem Dev.updHdac_split (d : Dev) (c : Fin 8) (f : HdacH → HdacH) : (d.updHdac c f).split = d.split := rfl
@[simp] theorem Dev.updHdac_boot (d : Dev) (c : Fin 8) (f : HdacH → HdacH) : (d.updHdac c f).boot = d.boot := rfl
@[simp] theorem Dev.updHdac_nvm (d : Dev) (c : Fin 8) (f : HdacH → HdacH) : (d.updHdac c f).nvm = d.nvm := rfl
@[simp] theorem Dev.updHdac_scrub (d : Dev) (c : Fin 8) (f : HdacH → HdacH) : (d.updHdac c f).scrub = d.scrub := rfl
@[simp] theorem Dev.updHdac_power (d : Dev) (c : Fin 8) (f : HdacH → HdacH) : (d.updHdac c f).power = d.power := rfl
@[simp] theorem Dev.updHdac_baton (d : Dev) (c : Fin 8) (f : HdacH → HdacH) : (d.updHdac c f).baton = d.baton := rfl
@[simp] theorem Dev.updHdac_spiReply (d : Dev) (c : Fin 8) (f : HdacH → HdacH) : (d.updHdac c f).spiReply = d.spiReply := rfl
@[simp] theorem Dev.updHdac_batonReply (d : Dev) (c : Fin 8) (f : HdacH → HdacH) : (d.updHdac c f).batonReply = d.batonReply := rfl
@[simp] theorem Dev.updHdac_wideR (d : Dev) (c : Fin 8) (f : HdacH → HdacH) : (d.updHdac c f).wideR = d.wideR := rfl
@[simp] theorem Dev.updHdac_wideW (d : Dev) (c : Fin 8) (f : HdacH → HdacH) : (d.updHdac c f).wideW = d.wideW := rfl
@[simp] theorem Dev.updHdac_unapplied (d : Dev) (c : Fin 8) (f : HdacH → HdacH) : (d.updHdac c f).unapplied = d.unapplied := rfl
@[simp] theorem Dev.updHdac_tap (d : Dev) (c : Fin 8) (f : HdacH → HdacH) : (d.updHdac c f).tap = d.tap := rfl
@[simp] theorem Dev.updHdac_mboxTimer (d : Dev) (c : Fin 8) (f : HdacH → HdacH) : (d.updHdac c f).mboxTimer = d.mboxTimer := rfl
@[simp] theorem Dev.updHdac_coachUp (d : Dev) (c : Fin 8) (f : HdacH → HdacH) : (d.updHdac c f).coachUp = d.coachUp := rfl

/-! setWatch -/

@[simp] theorem Dev.setWatch_life (d : Dev) (sp w : Nat) (h : WatchH) : (d.setWatch sp w h).life = d.life := rfl
@[simp] theorem Dev.setWatch_offPages (d : Dev) (sp w : Nat) (h : WatchH) : (d.setWatch sp w h).offPages = d.offPages := rfl
@[simp] theorem Dev.setWatch_inReset (d : Dev) (sp w : Nat) (h : WatchH) : (d.setWatch sp w h).inReset = d.inReset := rfl
@[simp] theorem Dev.setWatch_regs (d : Dev) (sp w : Nat) (h : WatchH) : (d.setWatch sp w h).regs = d.regs := rfl
@[simp] theorem Dev.setWatch_live (d : Dev) (sp w : Nat) (h : WatchH) : (d.setWatch sp w h).live = d.live := rfl
@[simp] theorem Dev.setWatch_samp (d : Dev) (sp w : Nat) (h : WatchH) : (d.setWatch sp w h).samp = d.samp := rfl
@[simp] theorem Dev.setWatch_late (d : Dev) (sp w : Nat) (h : WatchH) : (d.setWatch sp w h).late = d.late := rfl
@[simp] theorem Dev.setWatch_commit (d : Dev) (sp w : Nat) (h : WatchH) : (d.setWatch sp w h).commit = d.commit := rfl
@[simp] theorem Dev.setWatch_tk (d : Dev) (sp w : Nat) (h : WatchH) : (d.setWatch sp w h).tk = d.tk := rfl
@[simp] theorem Dev.setWatch_free (d : Dev) (sp w : Nat) (h : WatchH) : (d.setWatch sp w h).free = d.free := rfl
@[simp] theorem Dev.setWatch_resp (d : Dev) (sp w : Nat) (h : WatchH) : (d.setWatch sp w h).resp = d.resp := rfl
@[simp] theorem Dev.setWatch_faultN (d : Dev) (sp w : Nat) (h : WatchH) : (d.setWatch sp w h).faultN = d.faultN := rfl
@[simp] theorem Dev.setWatch_trip (d : Dev) (sp w : Nat) (h : WatchH) : (d.setWatch sp w h).trip = d.trip := rfl
@[simp] theorem Dev.setWatch_clrLow (d : Dev) (sp w : Nat) (h : WatchH) : (d.setWatch sp w h).clrLow = d.clrLow := rfl
@[simp] theorem Dev.setWatch_lrx (d : Dev) (sp w : Nat) (h : WatchH) : (d.setWatch sp w h).lrx = d.lrx := rfl
@[simp] theorem Dev.setWatch_pacer (d : Dev) (sp w : Nat) (h : WatchH) : (d.setWatch sp w h).pacer = d.pacer := rfl
@[simp] theorem Dev.setWatch_ltx (d : Dev) (sp w : Nat) (h : WatchH) : (d.setWatch sp w h).ltx = d.ltx := rfl
@[simp] theorem Dev.setWatch_hrx (d : Dev) (sp w : Nat) (h : WatchH) : (d.setWatch sp w h).hrx = d.hrx := rfl
@[simp] theorem Dev.setWatch_htx (d : Dev) (sp w : Nat) (h : WatchH) : (d.setWatch sp w h).htx = d.htx := rfl
@[simp] theorem Dev.setWatch_code (d : Dev) (sp w : Nat) (h : WatchH) : (d.setWatch sp w h).code = d.code := rfl
@[simp] theorem Dev.setWatch_squad (d : Dev) (sp w : Nat) (h : WatchH) : (d.setWatch sp w h).squad = d.squad := rfl
@[simp] theorem Dev.setWatch_loader (d : Dev) (sp w : Nat) (h : WatchH) : (d.setWatch sp w h).loader = d.loader := rfl
@[simp] theorem Dev.setWatch_serving (d : Dev) (sp w : Nat) (h : WatchH) : (d.setWatch sp w h).serving = d.serving := rfl
@[simp] theorem Dev.setWatch_ecc (d : Dev) (sp w : Nat) (h : WatchH) : (d.setWatch sp w h).ecc = d.ecc := rfl
@[simp] theorem Dev.setWatch_votes (d : Dev) (sp w : Nat) (h : WatchH) : (d.setWatch sp w h).votes = d.votes := rfl
@[simp] theorem Dev.setWatch_trial (d : Dev) (sp w : Nat) (h : WatchH) : (d.setWatch sp w h).trial = d.trial := rfl
@[simp] theorem Dev.setWatch_madc (d : Dev) (sp w : Nat) (h : WatchH) : (d.setWatch sp w h).madc = d.madc := rfl
@[simp] theorem Dev.setWatch_filt (d : Dev) (sp w : Nat) (h : WatchH) : (d.setWatch sp w h).filt = d.filt := rfl
@[simp] theorem Dev.setWatch_therm (d : Dev) (sp w : Nat) (h : WatchH) : (d.setWatch sp w h).therm = d.therm := rfl
@[simp] theorem Dev.setWatch_cal (d : Dev) (sp w : Nat) (h : WatchH) : (d.setWatch sp w h).cal = d.cal := rfl
@[simp] theorem Dev.setWatch_cap (d : Dev) (sp w : Nat) (h : WatchH) : (d.setWatch sp w h).cap = d.cap := rfl
@[simp] theorem Dev.setWatch_split (d : Dev) (sp w : Nat) (h : WatchH) : (d.setWatch sp w h).split = d.split := rfl
@[simp] theorem Dev.setWatch_boot (d : Dev) (sp w : Nat) (h : WatchH) : (d.setWatch sp w h).boot = d.boot := rfl
@[simp] theorem Dev.setWatch_nvm (d : Dev) (sp w : Nat) (h : WatchH) : (d.setWatch sp w h).nvm = d.nvm := rfl
@[simp] theorem Dev.setWatch_hdac (d : Dev) (sp w : Nat) (h : WatchH) : (d.setWatch sp w h).hdac = d.hdac := rfl
@[simp] theorem Dev.setWatch_scrub (d : Dev) (sp w : Nat) (h : WatchH) : (d.setWatch sp w h).scrub = d.scrub := rfl
@[simp] theorem Dev.setWatch_power (d : Dev) (sp w : Nat) (h : WatchH) : (d.setWatch sp w h).power = d.power := rfl
@[simp] theorem Dev.setWatch_baton (d : Dev) (sp w : Nat) (h : WatchH) : (d.setWatch sp w h).baton = d.baton := rfl
@[simp] theorem Dev.setWatch_spiReply (d : Dev) (sp w : Nat) (h : WatchH) : (d.setWatch sp w h).spiReply = d.spiReply := rfl
@[simp] theorem Dev.setWatch_batonReply (d : Dev) (sp w : Nat) (h : WatchH) : (d.setWatch sp w h).batonReply = d.batonReply := rfl
@[simp] theorem Dev.setWatch_wideR (d : Dev) (sp w : Nat) (h : WatchH) : (d.setWatch sp w h).wideR = d.wideR := rfl
@[simp] theorem Dev.setWatch_wideW (d : Dev) (sp w : Nat) (h : WatchH) : (d.setWatch sp w h).wideW = d.wideW := rfl
@[simp] theorem Dev.setWatch_unapplied (d : Dev) (sp w : Nat) (h : WatchH) : (d.setWatch sp w h).unapplied = d.unapplied := rfl
@[simp] theorem Dev.setWatch_tap (d : Dev) (sp w : Nat) (h : WatchH) : (d.setWatch sp w h).tap = d.tap := rfl
@[simp] theorem Dev.setWatch_mboxTimer (d : Dev) (sp w : Nat) (h : WatchH) : (d.setWatch sp w h).mboxTimer = d.mboxTimer := rfl
@[simp] theorem Dev.setWatch_coachUp (d : Dev) (sp w : Nat) (h : WatchH) : (d.setWatch sp w h).coachUp = d.coachUp := rfl

/-! call -/

@[simp] theorem Dev.call_life (d : Dev) (p src sev : Nat) : (d.call p src sev).life = d.life := rfl
@[simp] theorem Dev.call_offPages (d : Dev) (p src sev : Nat) : (d.call p src sev).offPages = d.offPages := rfl
@[simp] theorem Dev.call_inReset (d : Dev) (p src sev : Nat) : (d.call p src sev).inReset = d.inReset := rfl
@[simp] theorem Dev.call_regs (d : Dev) (p src sev : Nat) : (d.call p src sev).regs = d.regs := rfl
@[simp] theorem Dev.call_live (d : Dev) (p src sev : Nat) : (d.call p src sev).live = d.live := rfl
@[simp] theorem Dev.call_samp (d : Dev) (p src sev : Nat) : (d.call p src sev).samp = d.samp := rfl
@[simp] theorem Dev.call_late (d : Dev) (p src sev : Nat) : (d.call p src sev).late = d.late := rfl
@[simp] theorem Dev.call_commit (d : Dev) (p src sev : Nat) : (d.call p src sev).commit = d.commit := rfl
@[simp] theorem Dev.call_tk (d : Dev) (p src sev : Nat) : (d.call p src sev).tk = d.tk := rfl
@[simp] theorem Dev.call_free (d : Dev) (p src sev : Nat) : (d.call p src sev).free = d.free := rfl
@[simp] theorem Dev.call_resp (d : Dev) (p src sev : Nat) : (d.call p src sev).resp = d.resp := rfl
@[simp] theorem Dev.call_faultN (d : Dev) (p src sev : Nat) : (d.call p src sev).faultN = d.faultN := rfl
@[simp] theorem Dev.call_trip (d : Dev) (p src sev : Nat) : (d.call p src sev).trip = d.trip := rfl
@[simp] theorem Dev.call_clrLow (d : Dev) (p src sev : Nat) : (d.call p src sev).clrLow = d.clrLow := rfl
@[simp] theorem Dev.call_lrx (d : Dev) (p src sev : Nat) : (d.call p src sev).lrx = d.lrx := rfl
@[simp] theorem Dev.call_pacer (d : Dev) (p src sev : Nat) : (d.call p src sev).pacer = d.pacer := rfl
@[simp] theorem Dev.call_ltx (d : Dev) (p src sev : Nat) : (d.call p src sev).ltx = d.ltx := rfl
@[simp] theorem Dev.call_hrx (d : Dev) (p src sev : Nat) : (d.call p src sev).hrx = d.hrx := rfl
@[simp] theorem Dev.call_htx (d : Dev) (p src sev : Nat) : (d.call p src sev).htx = d.htx := rfl
@[simp] theorem Dev.call_code (d : Dev) (p src sev : Nat) : (d.call p src sev).code = d.code := rfl
@[simp] theorem Dev.call_squad (d : Dev) (p src sev : Nat) : (d.call p src sev).squad = d.squad := rfl
@[simp] theorem Dev.call_loader (d : Dev) (p src sev : Nat) : (d.call p src sev).loader = d.loader := rfl
@[simp] theorem Dev.call_serving (d : Dev) (p src sev : Nat) : (d.call p src sev).serving = d.serving := rfl
@[simp] theorem Dev.call_ecc (d : Dev) (p src sev : Nat) : (d.call p src sev).ecc = d.ecc := rfl
@[simp] theorem Dev.call_votes (d : Dev) (p src sev : Nat) : (d.call p src sev).votes = d.votes := rfl
@[simp] theorem Dev.call_trial (d : Dev) (p src sev : Nat) : (d.call p src sev).trial = d.trial := rfl
@[simp] theorem Dev.call_madc (d : Dev) (p src sev : Nat) : (d.call p src sev).madc = d.madc := rfl
@[simp] theorem Dev.call_filt (d : Dev) (p src sev : Nat) : (d.call p src sev).filt = d.filt := rfl
@[simp] theorem Dev.call_therm (d : Dev) (p src sev : Nat) : (d.call p src sev).therm = d.therm := rfl
@[simp] theorem Dev.call_cal (d : Dev) (p src sev : Nat) : (d.call p src sev).cal = d.cal := rfl
@[simp] theorem Dev.call_cap (d : Dev) (p src sev : Nat) : (d.call p src sev).cap = d.cap := rfl
@[simp] theorem Dev.call_split (d : Dev) (p src sev : Nat) : (d.call p src sev).split = d.split := rfl
@[simp] theorem Dev.call_boot (d : Dev) (p src sev : Nat) : (d.call p src sev).boot = d.boot := rfl
@[simp] theorem Dev.call_nvm (d : Dev) (p src sev : Nat) : (d.call p src sev).nvm = d.nvm := rfl
@[simp] theorem Dev.call_hdac (d : Dev) (p src sev : Nat) : (d.call p src sev).hdac = d.hdac := rfl
@[simp] theorem Dev.call_scrub (d : Dev) (p src sev : Nat) : (d.call p src sev).scrub = d.scrub := rfl
@[simp] theorem Dev.call_power (d : Dev) (p src sev : Nat) : (d.call p src sev).power = d.power := rfl
@[simp] theorem Dev.call_baton (d : Dev) (p src sev : Nat) : (d.call p src sev).baton = d.baton := rfl
@[simp] theorem Dev.call_spiReply (d : Dev) (p src sev : Nat) : (d.call p src sev).spiReply = d.spiReply := rfl
@[simp] theorem Dev.call_batonReply (d : Dev) (p src sev : Nat) : (d.call p src sev).batonReply = d.batonReply := rfl
@[simp] theorem Dev.call_wideR (d : Dev) (p src sev : Nat) : (d.call p src sev).wideR = d.wideR := rfl
@[simp] theorem Dev.call_wideW (d : Dev) (p src sev : Nat) : (d.call p src sev).wideW = d.wideW := rfl
@[simp] theorem Dev.call_unapplied (d : Dev) (p src sev : Nat) : (d.call p src sev).unapplied = d.unapplied := rfl
@[simp] theorem Dev.call_tap (d : Dev) (p src sev : Nat) : (d.call p src sev).tap = d.tap := rfl
@[simp] theorem Dev.call_mboxTimer (d : Dev) (p src sev : Nat) : (d.call p src sev).mboxTimer = d.mboxTimer := rfl
@[simp] theorem Dev.call_coachUp (d : Dev) (p src sev : Nat) : (d.call p src sev).coachUp = d.coachUp := rfl

/-! logAdd -/

@[simp] theorem Dev.logAdd_life (d : Dev) (p src sev : Nat) (e f : Bool) : (d.logAdd p src sev e f).life = d.life := rfl
@[simp] theorem Dev.logAdd_offPages (d : Dev) (p src sev : Nat) (e f : Bool) : (d.logAdd p src sev e f).offPages = d.offPages := rfl
@[simp] theorem Dev.logAdd_inReset (d : Dev) (p src sev : Nat) (e f : Bool) : (d.logAdd p src sev e f).inReset = d.inReset := rfl
@[simp] theorem Dev.logAdd_regs (d : Dev) (p src sev : Nat) (e f : Bool) : (d.logAdd p src sev e f).regs = d.regs := rfl
@[simp] theorem Dev.logAdd_live (d : Dev) (p src sev : Nat) (e f : Bool) : (d.logAdd p src sev e f).live = d.live := rfl
@[simp] theorem Dev.logAdd_samp (d : Dev) (p src sev : Nat) (e f : Bool) : (d.logAdd p src sev e f).samp = d.samp := rfl
@[simp] theorem Dev.logAdd_late (d : Dev) (p src sev : Nat) (e f : Bool) : (d.logAdd p src sev e f).late = d.late := rfl
@[simp] theorem Dev.logAdd_commit (d : Dev) (p src sev : Nat) (e f : Bool) : (d.logAdd p src sev e f).commit = d.commit := rfl
@[simp] theorem Dev.logAdd_tk (d : Dev) (p src sev : Nat) (e f : Bool) : (d.logAdd p src sev e f).tk = d.tk := rfl
@[simp] theorem Dev.logAdd_free (d : Dev) (p src sev : Nat) (e f : Bool) : (d.logAdd p src sev e f).free = d.free := rfl
@[simp] theorem Dev.logAdd_resp (d : Dev) (p src sev : Nat) (e f : Bool) : (d.logAdd p src sev e f).resp = d.resp := rfl
@[simp] theorem Dev.logAdd_faultN (d : Dev) (p src sev : Nat) (e f : Bool) : (d.logAdd p src sev e f).faultN = d.faultN := rfl
@[simp] theorem Dev.logAdd_trip (d : Dev) (p src sev : Nat) (e f : Bool) : (d.logAdd p src sev e f).trip = d.trip := rfl
@[simp] theorem Dev.logAdd_clrLow (d : Dev) (p src sev : Nat) (e f : Bool) : (d.logAdd p src sev e f).clrLow = d.clrLow := rfl
@[simp] theorem Dev.logAdd_lrx (d : Dev) (p src sev : Nat) (e f : Bool) : (d.logAdd p src sev e f).lrx = d.lrx := rfl
@[simp] theorem Dev.logAdd_pacer (d : Dev) (p src sev : Nat) (e f : Bool) : (d.logAdd p src sev e f).pacer = d.pacer := rfl
@[simp] theorem Dev.logAdd_ltx (d : Dev) (p src sev : Nat) (e f : Bool) : (d.logAdd p src sev e f).ltx = d.ltx := rfl
@[simp] theorem Dev.logAdd_hrx (d : Dev) (p src sev : Nat) (e f : Bool) : (d.logAdd p src sev e f).hrx = d.hrx := rfl
@[simp] theorem Dev.logAdd_htx (d : Dev) (p src sev : Nat) (e f : Bool) : (d.logAdd p src sev e f).htx = d.htx := rfl
@[simp] theorem Dev.logAdd_code (d : Dev) (p src sev : Nat) (e f : Bool) : (d.logAdd p src sev e f).code = d.code := rfl
@[simp] theorem Dev.logAdd_squad (d : Dev) (p src sev : Nat) (e f : Bool) : (d.logAdd p src sev e f).squad = d.squad := rfl
@[simp] theorem Dev.logAdd_loader (d : Dev) (p src sev : Nat) (e f : Bool) : (d.logAdd p src sev e f).loader = d.loader := rfl
@[simp] theorem Dev.logAdd_serving (d : Dev) (p src sev : Nat) (e f : Bool) : (d.logAdd p src sev e f).serving = d.serving := rfl
@[simp] theorem Dev.logAdd_ecc (d : Dev) (p src sev : Nat) (e f : Bool) : (d.logAdd p src sev e f).ecc = d.ecc := rfl
@[simp] theorem Dev.logAdd_votes (d : Dev) (p src sev : Nat) (e f : Bool) : (d.logAdd p src sev e f).votes = d.votes := rfl
@[simp] theorem Dev.logAdd_trial (d : Dev) (p src sev : Nat) (e f : Bool) : (d.logAdd p src sev e f).trial = d.trial := rfl
@[simp] theorem Dev.logAdd_madc (d : Dev) (p src sev : Nat) (e f : Bool) : (d.logAdd p src sev e f).madc = d.madc := rfl
@[simp] theorem Dev.logAdd_filt (d : Dev) (p src sev : Nat) (e f : Bool) : (d.logAdd p src sev e f).filt = d.filt := rfl
@[simp] theorem Dev.logAdd_therm (d : Dev) (p src sev : Nat) (e f : Bool) : (d.logAdd p src sev e f).therm = d.therm := rfl
@[simp] theorem Dev.logAdd_cal (d : Dev) (p src sev : Nat) (e f : Bool) : (d.logAdd p src sev e f).cal = d.cal := rfl
@[simp] theorem Dev.logAdd_cap (d : Dev) (p src sev : Nat) (e f : Bool) : (d.logAdd p src sev e f).cap = d.cap := rfl
@[simp] theorem Dev.logAdd_split (d : Dev) (p src sev : Nat) (e f : Bool) : (d.logAdd p src sev e f).split = d.split := rfl
@[simp] theorem Dev.logAdd_boot (d : Dev) (p src sev : Nat) (e f : Bool) : (d.logAdd p src sev e f).boot = d.boot := rfl
@[simp] theorem Dev.logAdd_nvm (d : Dev) (p src sev : Nat) (e f : Bool) : (d.logAdd p src sev e f).nvm = d.nvm := rfl
@[simp] theorem Dev.logAdd_hdac (d : Dev) (p src sev : Nat) (e f : Bool) : (d.logAdd p src sev e f).hdac = d.hdac := rfl
@[simp] theorem Dev.logAdd_scrub (d : Dev) (p src sev : Nat) (e f : Bool) : (d.logAdd p src sev e f).scrub = d.scrub := rfl
@[simp] theorem Dev.logAdd_power (d : Dev) (p src sev : Nat) (e f : Bool) : (d.logAdd p src sev e f).power = d.power := rfl
@[simp] theorem Dev.logAdd_baton (d : Dev) (p src sev : Nat) (e f : Bool) : (d.logAdd p src sev e f).baton = d.baton := rfl
@[simp] theorem Dev.logAdd_spiReply (d : Dev) (p src sev : Nat) (e f : Bool) : (d.logAdd p src sev e f).spiReply = d.spiReply := rfl
@[simp] theorem Dev.logAdd_batonReply (d : Dev) (p src sev : Nat) (e f : Bool) : (d.logAdd p src sev e f).batonReply = d.batonReply := rfl
@[simp] theorem Dev.logAdd_wideR (d : Dev) (p src sev : Nat) (e f : Bool) : (d.logAdd p src sev e f).wideR = d.wideR := rfl
@[simp] theorem Dev.logAdd_wideW (d : Dev) (p src sev : Nat) (e f : Bool) : (d.logAdd p src sev e f).wideW = d.wideW := rfl
@[simp] theorem Dev.logAdd_unapplied (d : Dev) (p src sev : Nat) (e f : Bool) : (d.logAdd p src sev e f).unapplied = d.unapplied := rfl
@[simp] theorem Dev.logAdd_tap (d : Dev) (p src sev : Nat) (e f : Bool) : (d.logAdd p src sev e f).tap = d.tap := rfl
@[simp] theorem Dev.logAdd_mboxTimer (d : Dev) (p src sev : Nat) (e f : Bool) : (d.logAdd p src sev e f).mboxTimer = d.mboxTimer := rfl
@[simp] theorem Dev.logAdd_coachUp (d : Dev) (p src sev : Nat) (e f : Bool) : (d.logAdd p src sev e f).coachUp = d.coachUp := rfl

/-! setReadShadow -/

@[simp] theorem Dev.setReadShadow_life (d : Dev) (w : Who) (x : WideShadow) : (d.setReadShadow w x).life = d.life := rfl
@[simp] theorem Dev.setReadShadow_offPages (d : Dev) (w : Who) (x : WideShadow) : (d.setReadShadow w x).offPages = d.offPages := rfl
@[simp] theorem Dev.setReadShadow_inReset (d : Dev) (w : Who) (x : WideShadow) : (d.setReadShadow w x).inReset = d.inReset := rfl
@[simp] theorem Dev.setReadShadow_regs (d : Dev) (w : Who) (x : WideShadow) : (d.setReadShadow w x).regs = d.regs := rfl
@[simp] theorem Dev.setReadShadow_live (d : Dev) (w : Who) (x : WideShadow) : (d.setReadShadow w x).live = d.live := rfl
@[simp] theorem Dev.setReadShadow_samp (d : Dev) (w : Who) (x : WideShadow) : (d.setReadShadow w x).samp = d.samp := rfl
@[simp] theorem Dev.setReadShadow_late (d : Dev) (w : Who) (x : WideShadow) : (d.setReadShadow w x).late = d.late := rfl
@[simp] theorem Dev.setReadShadow_commit (d : Dev) (w : Who) (x : WideShadow) : (d.setReadShadow w x).commit = d.commit := rfl
@[simp] theorem Dev.setReadShadow_tk (d : Dev) (w : Who) (x : WideShadow) : (d.setReadShadow w x).tk = d.tk := rfl
@[simp] theorem Dev.setReadShadow_free (d : Dev) (w : Who) (x : WideShadow) : (d.setReadShadow w x).free = d.free := rfl
@[simp] theorem Dev.setReadShadow_resp (d : Dev) (w : Who) (x : WideShadow) : (d.setReadShadow w x).resp = d.resp := rfl
@[simp] theorem Dev.setReadShadow_faultN (d : Dev) (w : Who) (x : WideShadow) : (d.setReadShadow w x).faultN = d.faultN := rfl
@[simp] theorem Dev.setReadShadow_trip (d : Dev) (w : Who) (x : WideShadow) : (d.setReadShadow w x).trip = d.trip := rfl
@[simp] theorem Dev.setReadShadow_clrLow (d : Dev) (w : Who) (x : WideShadow) : (d.setReadShadow w x).clrLow = d.clrLow := rfl
@[simp] theorem Dev.setReadShadow_ref (d : Dev) (w : Who) (x : WideShadow) : (d.setReadShadow w x).ref = d.ref := rfl
@[simp] theorem Dev.setReadShadow_lrx (d : Dev) (w : Who) (x : WideShadow) : (d.setReadShadow w x).lrx = d.lrx := rfl
@[simp] theorem Dev.setReadShadow_pacer (d : Dev) (w : Who) (x : WideShadow) : (d.setReadShadow w x).pacer = d.pacer := rfl
@[simp] theorem Dev.setReadShadow_ltx (d : Dev) (w : Who) (x : WideShadow) : (d.setReadShadow w x).ltx = d.ltx := rfl
@[simp] theorem Dev.setReadShadow_hrx (d : Dev) (w : Who) (x : WideShadow) : (d.setReadShadow w x).hrx = d.hrx := rfl
@[simp] theorem Dev.setReadShadow_htx (d : Dev) (w : Who) (x : WideShadow) : (d.setReadShadow w x).htx = d.htx := rfl
@[simp] theorem Dev.setReadShadow_code (d : Dev) (w : Who) (x : WideShadow) : (d.setReadShadow w x).code = d.code := rfl
@[simp] theorem Dev.setReadShadow_squad (d : Dev) (w : Who) (x : WideShadow) : (d.setReadShadow w x).squad = d.squad := rfl
@[simp] theorem Dev.setReadShadow_loader (d : Dev) (w : Who) (x : WideShadow) : (d.setReadShadow w x).loader = d.loader := rfl
@[simp] theorem Dev.setReadShadow_serving (d : Dev) (w : Who) (x : WideShadow) : (d.setReadShadow w x).serving = d.serving := rfl
@[simp] theorem Dev.setReadShadow_ecc (d : Dev) (w : Who) (x : WideShadow) : (d.setReadShadow w x).ecc = d.ecc := rfl
@[simp] theorem Dev.setReadShadow_votes (d : Dev) (w : Who) (x : WideShadow) : (d.setReadShadow w x).votes = d.votes := rfl
@[simp] theorem Dev.setReadShadow_trial (d : Dev) (w : Who) (x : WideShadow) : (d.setReadShadow w x).trial = d.trial := rfl
@[simp] theorem Dev.setReadShadow_madc (d : Dev) (w : Who) (x : WideShadow) : (d.setReadShadow w x).madc = d.madc := rfl
@[simp] theorem Dev.setReadShadow_filt (d : Dev) (w : Who) (x : WideShadow) : (d.setReadShadow w x).filt = d.filt := rfl
@[simp] theorem Dev.setReadShadow_therm (d : Dev) (w : Who) (x : WideShadow) : (d.setReadShadow w x).therm = d.therm := rfl
@[simp] theorem Dev.setReadShadow_cal (d : Dev) (w : Who) (x : WideShadow) : (d.setReadShadow w x).cal = d.cal := rfl
@[simp] theorem Dev.setReadShadow_cap (d : Dev) (w : Who) (x : WideShadow) : (d.setReadShadow w x).cap = d.cap := rfl
@[simp] theorem Dev.setReadShadow_split (d : Dev) (w : Who) (x : WideShadow) : (d.setReadShadow w x).split = d.split := rfl
@[simp] theorem Dev.setReadShadow_boot (d : Dev) (w : Who) (x : WideShadow) : (d.setReadShadow w x).boot = d.boot := rfl
@[simp] theorem Dev.setReadShadow_nvm (d : Dev) (w : Who) (x : WideShadow) : (d.setReadShadow w x).nvm = d.nvm := rfl
@[simp] theorem Dev.setReadShadow_hdac (d : Dev) (w : Who) (x : WideShadow) : (d.setReadShadow w x).hdac = d.hdac := rfl
@[simp] theorem Dev.setReadShadow_scrub (d : Dev) (w : Who) (x : WideShadow) : (d.setReadShadow w x).scrub = d.scrub := rfl
@[simp] theorem Dev.setReadShadow_power (d : Dev) (w : Who) (x : WideShadow) : (d.setReadShadow w x).power = d.power := rfl
@[simp] theorem Dev.setReadShadow_baton (d : Dev) (w : Who) (x : WideShadow) : (d.setReadShadow w x).baton = d.baton := rfl
@[simp] theorem Dev.setReadShadow_spiReply (d : Dev) (w : Who) (x : WideShadow) : (d.setReadShadow w x).spiReply = d.spiReply := rfl
@[simp] theorem Dev.setReadShadow_batonReply (d : Dev) (w : Who) (x : WideShadow) : (d.setReadShadow w x).batonReply = d.batonReply := rfl
@[simp] theorem Dev.setReadShadow_wideW (d : Dev) (w : Who) (x : WideShadow) : (d.setReadShadow w x).wideW = d.wideW := rfl
@[simp] theorem Dev.setReadShadow_unapplied (d : Dev) (w : Who) (x : WideShadow) : (d.setReadShadow w x).unapplied = d.unapplied := rfl
@[simp] theorem Dev.setReadShadow_tap (d : Dev) (w : Who) (x : WideShadow) : (d.setReadShadow w x).tap = d.tap := rfl
@[simp] theorem Dev.setReadShadow_mboxTimer (d : Dev) (w : Who) (x : WideShadow) : (d.setReadShadow w x).mboxTimer = d.mboxTimer := rfl
@[simp] theorem Dev.setReadShadow_coachUp (d : Dev) (w : Who) (x : WideShadow) : (d.setReadShadow w x).coachUp = d.coachUp := rfl

/-! setWriteShadow -/

@[simp] theorem Dev.setWriteShadow_life (d : Dev) (w : Who) (x : WideShadow) : (d.setWriteShadow w x).life = d.life := rfl
@[simp] theorem Dev.setWriteShadow_offPages (d : Dev) (w : Who) (x : WideShadow) : (d.setWriteShadow w x).offPages = d.offPages := rfl
@[simp] theorem Dev.setWriteShadow_inReset (d : Dev) (w : Who) (x : WideShadow) : (d.setWriteShadow w x).inReset = d.inReset := rfl
@[simp] theorem Dev.setWriteShadow_regs (d : Dev) (w : Who) (x : WideShadow) : (d.setWriteShadow w x).regs = d.regs := rfl
@[simp] theorem Dev.setWriteShadow_live (d : Dev) (w : Who) (x : WideShadow) : (d.setWriteShadow w x).live = d.live := rfl
@[simp] theorem Dev.setWriteShadow_samp (d : Dev) (w : Who) (x : WideShadow) : (d.setWriteShadow w x).samp = d.samp := rfl
@[simp] theorem Dev.setWriteShadow_late (d : Dev) (w : Who) (x : WideShadow) : (d.setWriteShadow w x).late = d.late := rfl
@[simp] theorem Dev.setWriteShadow_commit (d : Dev) (w : Who) (x : WideShadow) : (d.setWriteShadow w x).commit = d.commit := rfl
@[simp] theorem Dev.setWriteShadow_tk (d : Dev) (w : Who) (x : WideShadow) : (d.setWriteShadow w x).tk = d.tk := rfl
@[simp] theorem Dev.setWriteShadow_free (d : Dev) (w : Who) (x : WideShadow) : (d.setWriteShadow w x).free = d.free := rfl
@[simp] theorem Dev.setWriteShadow_resp (d : Dev) (w : Who) (x : WideShadow) : (d.setWriteShadow w x).resp = d.resp := rfl
@[simp] theorem Dev.setWriteShadow_faultN (d : Dev) (w : Who) (x : WideShadow) : (d.setWriteShadow w x).faultN = d.faultN := rfl
@[simp] theorem Dev.setWriteShadow_trip (d : Dev) (w : Who) (x : WideShadow) : (d.setWriteShadow w x).trip = d.trip := rfl
@[simp] theorem Dev.setWriteShadow_clrLow (d : Dev) (w : Who) (x : WideShadow) : (d.setWriteShadow w x).clrLow = d.clrLow := rfl
@[simp] theorem Dev.setWriteShadow_ref (d : Dev) (w : Who) (x : WideShadow) : (d.setWriteShadow w x).ref = d.ref := rfl
@[simp] theorem Dev.setWriteShadow_lrx (d : Dev) (w : Who) (x : WideShadow) : (d.setWriteShadow w x).lrx = d.lrx := rfl
@[simp] theorem Dev.setWriteShadow_pacer (d : Dev) (w : Who) (x : WideShadow) : (d.setWriteShadow w x).pacer = d.pacer := rfl
@[simp] theorem Dev.setWriteShadow_ltx (d : Dev) (w : Who) (x : WideShadow) : (d.setWriteShadow w x).ltx = d.ltx := rfl
@[simp] theorem Dev.setWriteShadow_hrx (d : Dev) (w : Who) (x : WideShadow) : (d.setWriteShadow w x).hrx = d.hrx := rfl
@[simp] theorem Dev.setWriteShadow_htx (d : Dev) (w : Who) (x : WideShadow) : (d.setWriteShadow w x).htx = d.htx := rfl
@[simp] theorem Dev.setWriteShadow_code (d : Dev) (w : Who) (x : WideShadow) : (d.setWriteShadow w x).code = d.code := rfl
@[simp] theorem Dev.setWriteShadow_squad (d : Dev) (w : Who) (x : WideShadow) : (d.setWriteShadow w x).squad = d.squad := rfl
@[simp] theorem Dev.setWriteShadow_loader (d : Dev) (w : Who) (x : WideShadow) : (d.setWriteShadow w x).loader = d.loader := rfl
@[simp] theorem Dev.setWriteShadow_serving (d : Dev) (w : Who) (x : WideShadow) : (d.setWriteShadow w x).serving = d.serving := rfl
@[simp] theorem Dev.setWriteShadow_ecc (d : Dev) (w : Who) (x : WideShadow) : (d.setWriteShadow w x).ecc = d.ecc := rfl
@[simp] theorem Dev.setWriteShadow_votes (d : Dev) (w : Who) (x : WideShadow) : (d.setWriteShadow w x).votes = d.votes := rfl
@[simp] theorem Dev.setWriteShadow_trial (d : Dev) (w : Who) (x : WideShadow) : (d.setWriteShadow w x).trial = d.trial := rfl
@[simp] theorem Dev.setWriteShadow_madc (d : Dev) (w : Who) (x : WideShadow) : (d.setWriteShadow w x).madc = d.madc := rfl
@[simp] theorem Dev.setWriteShadow_filt (d : Dev) (w : Who) (x : WideShadow) : (d.setWriteShadow w x).filt = d.filt := rfl
@[simp] theorem Dev.setWriteShadow_therm (d : Dev) (w : Who) (x : WideShadow) : (d.setWriteShadow w x).therm = d.therm := rfl
@[simp] theorem Dev.setWriteShadow_cal (d : Dev) (w : Who) (x : WideShadow) : (d.setWriteShadow w x).cal = d.cal := rfl
@[simp] theorem Dev.setWriteShadow_cap (d : Dev) (w : Who) (x : WideShadow) : (d.setWriteShadow w x).cap = d.cap := rfl
@[simp] theorem Dev.setWriteShadow_split (d : Dev) (w : Who) (x : WideShadow) : (d.setWriteShadow w x).split = d.split := rfl
@[simp] theorem Dev.setWriteShadow_boot (d : Dev) (w : Who) (x : WideShadow) : (d.setWriteShadow w x).boot = d.boot := rfl
@[simp] theorem Dev.setWriteShadow_nvm (d : Dev) (w : Who) (x : WideShadow) : (d.setWriteShadow w x).nvm = d.nvm := rfl
@[simp] theorem Dev.setWriteShadow_hdac (d : Dev) (w : Who) (x : WideShadow) : (d.setWriteShadow w x).hdac = d.hdac := rfl
@[simp] theorem Dev.setWriteShadow_scrub (d : Dev) (w : Who) (x : WideShadow) : (d.setWriteShadow w x).scrub = d.scrub := rfl
@[simp] theorem Dev.setWriteShadow_power (d : Dev) (w : Who) (x : WideShadow) : (d.setWriteShadow w x).power = d.power := rfl
@[simp] theorem Dev.setWriteShadow_baton (d : Dev) (w : Who) (x : WideShadow) : (d.setWriteShadow w x).baton = d.baton := rfl
@[simp] theorem Dev.setWriteShadow_spiReply (d : Dev) (w : Who) (x : WideShadow) : (d.setWriteShadow w x).spiReply = d.spiReply := rfl
@[simp] theorem Dev.setWriteShadow_batonReply (d : Dev) (w : Who) (x : WideShadow) : (d.setWriteShadow w x).batonReply = d.batonReply := rfl
@[simp] theorem Dev.setWriteShadow_wideR (d : Dev) (w : Who) (x : WideShadow) : (d.setWriteShadow w x).wideR = d.wideR := rfl
@[simp] theorem Dev.setWriteShadow_unapplied (d : Dev) (w : Who) (x : WideShadow) : (d.setWriteShadow w x).unapplied = d.unapplied := rfl
@[simp] theorem Dev.setWriteShadow_tap (d : Dev) (w : Who) (x : WideShadow) : (d.setWriteShadow w x).tap = d.tap := rfl
@[simp] theorem Dev.setWriteShadow_mboxTimer (d : Dev) (w : Who) (x : WideShadow) : (d.setWriteShadow w x).mboxTimer = d.mboxTimer := rfl
@[simp] theorem Dev.setWriteShadow_coachUp (d : Dev) (w : Who) (x : WideShadow) : (d.setWriteShadow w x).coachUp = d.coachUp := rfl

/-! The state -/

@[simp] theorem State.answer_mem (s : State) (e : Status) (x : List Word) : (s.answer e x).mem = s.mem := rfl
@[simp] theorem State.answer_pending (s : State) (e : Status) (x : List Word) : (s.answer e x).pending = s.pending := rfl

/-! Hidden parts of lanes, Squads, converters and DAC channels: the one updated, and the others -/

theorem vget_set_same {α : Type} {n : Nat} (v : Vector α n) (i : Fin n) (x : α) : (v.set i.val x).get i = x := by
  simp [Vector.get_eq_getElem]

theorem vget_set_other {α : Type} {n : Nat} (v : Vector α n) {i k : Fin n} (h : k ≠ i) (x : α) : (v.set i.val x).get k = v.get k := by
  have : i.val ≠ k.val := fun e => h (Fin.ext e.symm)
  simp [Vector.get_eq_getElem, this]

@[simp] theorem Dev.lx_updLrx_same (d : Dev) (n : Lane) (f : LrxH → LrxH) : (d.updLrx n f).lx n = f (d.lx n) := by
  exact vget_set_same _ _ _
theorem Dev.lx_updLrx_other (d : Dev) {n k : Lane} (h : k ≠ n) (f : LrxH → LrxH) : (d.updLrx n f).lx k = d.lx k := by
  exact vget_set_other _ h _
@[simp] theorem Dev.pc_updPacer_same (d : Dev) (n : Lane) (f : PacerH → PacerH) : (d.updPacer n f).pc n = f (d.pc n) := by
  exact vget_set_same _ _ _
theorem Dev.pc_updPacer_other (d : Dev) {n k : Lane} (h : k ≠ n) (f : PacerH → PacerH) : (d.updPacer n f).pc k = d.pc k := by
  exact vget_set_other _ h _
@[simp] theorem Dev.tx_updLtx_same (d : Dev) (n : Lane) (f : LtxH → LtxH) : (d.updLtx n f).tx n = f (d.tx n) := by
  exact vget_set_same _ _ _
theorem Dev.tx_updLtx_other (d : Dev) {n k : Lane} (h : k ≠ n) (f : LtxH → LtxH) : (d.updLtx n f).tx k = d.tx k := by
  exact vget_set_other _ h _
@[simp] theorem Dev.hr_updHrx_same (d : Dev) (n : Lane) (f : HrxH → HrxH) : (d.updHrx n f).hr n = f (d.hr n) := by
  exact vget_set_same _ _ _
theorem Dev.hr_updHrx_other (d : Dev) {n k : Lane} (h : k ≠ n) (f : HrxH → HrxH) : (d.updHrx n f).hr k = d.hr k := by
  exact vget_set_other _ h _
@[simp] theorem Dev.hx_updHtx_same (d : Dev) (n : Lane) (f : HtxH → HtxH) : (d.updHtx n f).hx n = f (d.hx n) := by
  exact vget_set_same _ _ _
theorem Dev.hx_updHtx_other (d : Dev) {n k : Lane} (h : k ≠ n) (f : HtxH → HtxH) : (d.updHtx n f).hx k = d.hx k := by
  exact vget_set_other _ h _
@[simp] theorem Dev.sq_updSquad_same (d : Dev) (n : Sq) (f : SquadH → SquadH) : (d.updSquad n f).sq n = f (d.sq n) := by
  exact vget_set_same _ _ _
theorem Dev.sq_updSquad_other (d : Dev) {n k : Sq} (h : k ≠ n) (f : SquadH → SquadH) : (d.updSquad n f).sq k = d.sq k := by
  exact vget_set_other _ h _
@[simp] theorem Dev.md_updMadc_same (d : Dev) (n : Fin 2) (f : MadcH → MadcH) : (d.updMadc n f).md n = f (d.md n) := by
  exact vget_set_same _ _ _
theorem Dev.md_updMadc_other (d : Dev) {n k : Fin 2} (h : k ≠ n) (f : MadcH → MadcH) : (d.updMadc n f).md k = d.md k := by
  exact vget_set_other _ h _
@[simp] theorem Dev.hd_updHdac_same (d : Dev) (n : Fin 8) (f : HdacH → HdacH) : (d.updHdac n f).hd n = f (d.hd n) := by
  exact vget_set_same _ _ _
theorem Dev.hd_updHdac_other (d : Dev) {n k : Fin 8} (h : k ≠ n) (f : HdacH → HdacH) : (d.updHdac n f).hd k = d.hd k := by
  exact vget_set_other _ h _

end Sys2Proof.Machine
end

