-- ==== Sys2Proof/Laws/Ops.lean ====
section
/-! SUPPORT. The laws of the named operations: registers and their fields, events, the levels that settle after a command, accesses, and what the shape of a meaning makes of a state. -/

namespace Sys2Proof.Machine

/-! Registers -/

@[simp] theorem Dev.rd_wr_same (d : Dev) (p off : Nat) (w : Word) : (d.wr p off w).rd p off = w :=
  tabGet_set_same resetAt _ w d.regs

theorem Dev.rd_wr_other (d : Dev) {p off q o : Nat} (h : regKey q o ≠ regKey p off) (w : Word) : (d.wr p off w).rd q o = d.rd q o :=
  tabGet_set_other resetAt h w d.regs

/-- Offsets within a page keep registers apart. -/
theorem regKey_inj {p off q o : Nat} (h1 : off < 4096) (h2 : o < 4096) (h : regKey p off = regKey q o) : p = q ∧ off = o := by
  unfold regKey at h; omega

/-- Two registers at different offsets are different ones, whatever their pages. -/
theorem Dev.rd_wr_off (d : Dev) {p off q o : Nat} (h1 : off < 4096) (h2 : o < 4096) (h : o ≠ off) (w : Word) :
    (d.wr p off w).rd q o = d.rd q o :=
  d.rd_wr_other (fun e => h (regKey_inj h2 h1 e).2) w

theorem Dev.rd_wr_page (d : Dev) {p off q o : Nat} (h1 : off < 4096) (h2 : o < 4096) (h : q ≠ p) (w : Word) :
    (d.wr p off w).rd q o = d.rd q o :=
  d.rd_wr_other (fun e => h (regKey_inj h2 h1 e).1) w

@[simp] theorem Dev.lrd_wr (d : Dev) (p off q o : Nat) (w : Word) : (d.wr p off w).lrd q o = d.lrd q o := rfl
@[simp] theorem Dev.rd_lwr (d : Dev) (p off q o : Nat) (w : Word) : (d.lwr p off w).rd q o = d.rd q o := rfl
@[simp] theorem Dev.lrd_lwr_same (d : Dev) (p off : Nat) (w : Word) : (d.lwr p off w).lrd p off = w :=
  tabGet_set_same resetAt _ w d.live

/-! Fields -/

theorem setBits_toNat (x : Word) (lo w v : Nat) (h : lo + w ≤ 32) (i : Nat) :
    (setBits x lo w v).toNat.testBit i = if lo ≤ i ∧ i < lo + w then (v % 2 ^ w).testBit (i - lo) else x.toNat.testBit i := by
  by_cases hi : i < 32
  · have e : (setBits x lo w v).toNat.testBit i = (setBits x lo w v).getLsbD i := rfl
    rw [e]
    unfold setBits
    have hx : x.toNat.testBit i = x.getLsbD i := rfl
    simp only [BitVec.getLsbD_or, BitVec.getLsbD_and, BitVec.getLsbD_not, BitVec.getLsbD_shiftLeft, BitVec.getLsbD_ofNat, hi, hx,
      Nat.testBit_two_pow_sub_one, decide_true, Bool.true_and]
    by_cases h1 : i < lo
    · simp [h1, show ¬ (lo ≤ i) by omega]
    · by_cases h2 : i < lo + w
      · have h3 : i - lo < w := by omega
        have h4 : i - lo < 32 := by omega
        simp [h1, show lo ≤ i by omega, h2, h3, h4]
      · have h3 : ¬ (i - lo < w) := by omega
        have h5 : (v % 2 ^ w).testBit (i - lo) = false := Nat.testBit_lt_two_pow
          (Nat.lt_of_lt_of_le (Nat.mod_lt _ (Nat.two_pow_pos w)) (Nat.pow_le_pow_right (by decide) (by omega)))
        have h4 : i - lo < 32 := by omega
        simp [h1, h2, h3, h5]
  · have h1 : (setBits x lo w v).toNat.testBit i = false :=
      Nat.testBit_lt_two_pow (Nat.lt_of_lt_of_le (setBits x lo w v).isLt (Nat.pow_le_pow_right (by decide) (by omega)))
    have h2 : x.toNat.testBit i = false := Nat.testBit_lt_two_pow (Nat.lt_of_lt_of_le x.isLt (Nat.pow_le_pow_right (by decide) (by omega)))
    rw [h1, h2, if_neg (by omega)]

theorem getBits_testBit (x : Word) (lo w i : Nat) : (getBits x lo w).testBit i = (decide (i < w) && x.toNat.testBit (lo + i)) := by
  unfold getBits
  rw [Nat.testBit_mod_two_pow, Nat.testBit_div_two_pow, Nat.add_comm]

/-- A field that is written takes the code. -/
theorem getBits_setBits_same (x : Word) (lo w v : Nat) (h : lo + w ≤ 32) : getBits (setBits x lo w v) lo w = v % 2 ^ w := by
  apply Nat.eq_of_testBit_eq
  intro i
  rw [getBits_testBit, setBits_toNat x lo w v h]
  by_cases hi : i < w
  · simp [hi]
  · have : (v % 2 ^ w).testBit i = false := Nat.testBit_lt_two_pow
      (Nat.lt_of_lt_of_le (Nat.mod_lt _ (Nat.two_pow_pos w)) (Nat.pow_le_pow_right (by decide) (by omega)))
    simp [hi, this]

/-- A field beside the one that is written keeps its code. -/
theorem getBits_setBits_other (x : Word) (lo w v lo' w' : Nat) (h : lo + w ≤ 32) (hd : lo' + w' ≤ lo ∨ lo + w ≤ lo') :
    getBits (setBits x lo w v) lo' w' = getBits x lo' w' := by
  apply Nat.eq_of_testBit_eq
  intro i
  rw [getBits_testBit, getBits_testBit, setBits_toNat x lo w v h]
  by_cases hi : i < w'
  · rw [if_neg (by omega)]
  · simp [hi]

@[simp] theorem Dev.rd_s_same (d : Dev) (p : Nat) (f : Fld) (v : Nat) : (d.s p f v).rd p f.off = setBits (d.rd p f.off) f.lo f.w v :=
  d.rd_wr_same p f.off _

theorem Dev.g_s_same (d : Dev) (p : Nat) (f : Fld) (v : Nat) (h : f.lo + f.w ≤ 32) : (d.s p f v).g p f = v % 2 ^ f.w := by
  unfold Dev.g
  rw [Dev.rd_s_same]
  exact getBits_setBits_same _ _ _ _ h

theorem Dev.b_sb_same (d : Dev) (p : Nat) (f : Fld) (v : Bool) (h : f.lo + f.w ≤ 32) (hw : f.w = 1) : (d.sb p f v).b p f = v := by
  unfold Dev.b Dev.sb
  rw [Dev.g_s_same d p f _ h, hw]
  cases v <;> rfl

theorem Dev.g_s_field (d : Dev) (p : Nat) (f g : Fld) (v : Nat) (he : g.off = f.off) (h : f.lo + f.w ≤ 32)
    (hd : g.lo + g.w ≤ f.lo ∨ f.lo + f.w ≤ g.lo) : (d.s p f v).g p g = d.g p g := by
  unfold Dev.g
  rw [he, Dev.rd_s_same]
  exact getBits_setBits_other _ _ _ _ _ _ h hd

theorem Dev.rd_s_off (d : Dev) {p q o : Nat} (f : Fld) (v : Nat) (h1 : f.off < 4096) (h2 : o < 4096) (h : o ≠ f.off) :
    (d.s p f v).rd q o = d.rd q o := d.rd_wr_off h1 h2 h _

theorem Dev.rd_s_page (d : Dev) {p q o : Nat} (f : Fld) (v : Nat) (h1 : f.off < 4096) (h2 : o < 4096) (h : q ≠ p) :
    (d.s p f v).rd q o = d.rd q o := d.rd_wr_page h1 h2 h _

/-! Events: an event sets EVT_STATUS bits and tells the Referee, and changes nothing else -/

/-- What an event leaves alone: everything but EVT_STATUS registers, the errors of the words written with them, and the Referee. -/
structure EvtFrame (d e : Dev) : Prop where
  rd : ∀ p off, off < 4096 → off ≠ 0x010 → e.rd p off = d.rd p off
  same : e = { d with regs := e.regs, ecc := e.ecc, ref := e.ref }

theorem EvtFrame.life {d e : Dev} (h : EvtFrame d e) : e.life = d.life := (congrArg Dev.life h.same :)
theorem EvtFrame.offPages {d e : Dev} (h : EvtFrame d e) : e.offPages = d.offPages := (congrArg Dev.offPages h.same :)
theorem EvtFrame.inReset {d e : Dev} (h : EvtFrame d e) : e.inReset = d.inReset := (congrArg Dev.inReset h.same :)
theorem EvtFrame.live {d e : Dev} (h : EvtFrame d e) : e.live = d.live := (congrArg Dev.live h.same :)
theorem EvtFrame.samp {d e : Dev} (h : EvtFrame d e) : e.samp = d.samp := (congrArg Dev.samp h.same :)
theorem EvtFrame.late {d e : Dev} (h : EvtFrame d e) : e.late = d.late := (congrArg Dev.late h.same :)
theorem EvtFrame.commit {d e : Dev} (h : EvtFrame d e) : e.commit = d.commit := (congrArg Dev.commit h.same :)
theorem EvtFrame.tk {d e : Dev} (h : EvtFrame d e) : e.tk = d.tk := (congrArg Dev.tk h.same :)
theorem EvtFrame.free {d e : Dev} (h : EvtFrame d e) : e.free = d.free := (congrArg Dev.free h.same :)
theorem EvtFrame.resp {d e : Dev} (h : EvtFrame d e) : e.resp = d.resp := (congrArg Dev.resp h.same :)
theorem EvtFrame.faultN {d e : Dev} (h : EvtFrame d e) : e.faultN = d.faultN := (congrArg Dev.faultN h.same :)
theorem EvtFrame.trip {d e : Dev} (h : EvtFrame d e) : e.trip = d.trip := (congrArg Dev.trip h.same :)
theorem EvtFrame.clrLow {d e : Dev} (h : EvtFrame d e) : e.clrLow = d.clrLow := (congrArg Dev.clrLow h.same :)
theorem EvtFrame.lrx {d e : Dev} (h : EvtFrame d e) : e.lrx = d.lrx := (congrArg Dev.lrx h.same :)
theorem EvtFrame.pacer {d e : Dev} (h : EvtFrame d e) : e.pacer = d.pacer := (congrArg Dev.pacer h.same :)
theorem EvtFrame.ltx {d e : Dev} (h : EvtFrame d e) : e.ltx = d.ltx := (congrArg Dev.ltx h.same :)
theorem EvtFrame.hrx {d e : Dev} (h : EvtFrame d e) : e.hrx = d.hrx := (congrArg Dev.hrx h.same :)
theorem EvtFrame.htx {d e : Dev} (h : EvtFrame d e) : e.htx = d.htx := (congrArg Dev.htx h.same :)
theorem EvtFrame.code {d e : Dev} (h : EvtFrame d e) : e.code = d.code := (congrArg Dev.code h.same :)
theorem EvtFrame.squad {d e : Dev} (h : EvtFrame d e) : e.squad = d.squad := (congrArg Dev.squad h.same :)
theorem EvtFrame.loader {d e : Dev} (h : EvtFrame d e) : e.loader = d.loader := (congrArg Dev.loader h.same :)
theorem EvtFrame.serving {d e : Dev} (h : EvtFrame d e) : e.serving = d.serving := (congrArg Dev.serving h.same :)
theorem EvtFrame.votes {d e : Dev} (h : EvtFrame d e) : e.votes = d.votes := (congrArg Dev.votes h.same :)
theorem EvtFrame.trial {d e : Dev} (h : EvtFrame d e) : e.trial = d.trial := (congrArg Dev.trial h.same :)
theorem EvtFrame.madc {d e : Dev} (h : EvtFrame d e) : e.madc = d.madc := (congrArg Dev.madc h.same :)
theorem EvtFrame.filt {d e : Dev} (h : EvtFrame d e) : e.filt = d.filt := (congrArg Dev.filt h.same :)
theorem EvtFrame.therm {d e : Dev} (h : EvtFrame d e) : e.therm = d.therm := (congrArg Dev.therm h.same :)
theorem EvtFrame.cal {d e : Dev} (h : EvtFrame d e) : e.cal = d.cal := (congrArg Dev.cal h.same :)
theorem EvtFrame.cap {d e : Dev} (h : EvtFrame d e) : e.cap = d.cap := (congrArg Dev.cap h.same :)
theorem EvtFrame.split {d e : Dev} (h : EvtFrame d e) : e.split = d.split := (congrArg Dev.split h.same :)
theorem EvtFrame.boot {d e : Dev} (h : EvtFrame d e) : e.boot = d.boot := (congrArg Dev.boot h.same :)
theorem EvtFrame.nvm {d e : Dev} (h : EvtFrame d e) : e.nvm = d.nvm := (congrArg Dev.nvm h.same :)
theorem EvtFrame.hdac {d e : Dev} (h : EvtFrame d e) : e.hdac = d.hdac := (congrArg Dev.hdac h.same :)
theorem EvtFrame.scrub {d e : Dev} (h : EvtFrame d e) : e.scrub = d.scrub := (congrArg Dev.scrub h.same :)
theorem EvtFrame.power {d e : Dev} (h : EvtFrame d e) : e.power = d.power := (congrArg Dev.power h.same :)
theorem EvtFrame.baton {d e : Dev} (h : EvtFrame d e) : e.baton = d.baton := (congrArg Dev.baton h.same :)
theorem EvtFrame.spiReply {d e : Dev} (h : EvtFrame d e) : e.spiReply = d.spiReply := (congrArg Dev.spiReply h.same :)
theorem EvtFrame.batonReply {d e : Dev} (h : EvtFrame d e) : e.batonReply = d.batonReply := (congrArg Dev.batonReply h.same :)
theorem EvtFrame.wideR {d e : Dev} (h : EvtFrame d e) : e.wideR = d.wideR := (congrArg Dev.wideR h.same :)
theorem EvtFrame.wideW {d e : Dev} (h : EvtFrame d e) : e.wideW = d.wideW := (congrArg Dev.wideW h.same :)
theorem EvtFrame.unapplied {d e : Dev} (h : EvtFrame d e) : e.unapplied = d.unapplied := (congrArg Dev.unapplied h.same :)
theorem EvtFrame.tap {d e : Dev} (h : EvtFrame d e) : e.tap = d.tap := (congrArg Dev.tap h.same :)
theorem EvtFrame.mboxTimer {d e : Dev} (h : EvtFrame d e) : e.mboxTimer = d.mboxTimer := (congrArg Dev.mboxTimer h.same :)
theorem EvtFrame.coachUp {d e : Dev} (h : EvtFrame d e) : e.coachUp = d.coachUp := (congrArg Dev.coachUp h.same :)

theorem EvtFrame.refl (d : Dev) : EvtFrame d d := ⟨fun _ _ _ _ => rfl, rfl⟩

theorem EvtFrame.trans {a b c : Dev} (h : EvtFrame a b) (k : EvtFrame b c) : EvtFrame a c := by
  refine ⟨fun p off h1 h2 => by rw [k.rd p off h1 h2, h.rd p off h1 h2], ?_⟩
  have := k.same
  rw [h.same] at this
  exact this

theorem EvtFrame.setEvt (d : Dev) (p s : Nat) : EvtFrame d (d.setEvt p s) :=
  ⟨fun _ _ h1 h2 => d.rd_wr_off (by decide) h1 h2 _, rfl⟩

theorem EvtFrame.ref (d : Dev) (r : RefH) : EvtFrame d { d with ref := r } := ⟨fun _ _ _ _ => rfl, rfl⟩

theorem EvtFrame.when {d : Dev} (c : Bool) {f : Dev → Dev} (h : EvtFrame d (f d)) : EvtFrame d (d.when c f) := by
  unfold Dev.when; split
  · exact h
  · exact .refl d

theorem EvtFrame.firstAdd (d : Dev) (a b c : Nat) (e f : Bool) : EvtFrame d (d.firstAdd a b c e f) := by
  unfold Dev.firstAdd; split
  · exact .refl d
  · exact .ref d _

theorem EvtFrame.watchFire (d : Dev) (sp w p src : Nat) : EvtFrame d (d.watchFire sp w p src) := by
  unfold Dev.watchFire
  exact ((((EvtFrame.setEvt d sp w).trans (.ref _ _)).trans (.firstAdd _ _ _ _ _ _)).trans (.ref _ _)).trans (.ref _ _)

theorem EvtFrame.watchCount (d : Dev) (sp p src w : Nat) : EvtFrame d (d.watchCount sp p src w) := by
  unfold Dev.watchCount
  split
  · dsimp only; split
    · exact .watchFire d sp w p src
    · exact .ref d _
  · exact .refl d

theorem EvtFrame.fold {α : Type} (f : Dev → α → Dev) (hf : ∀ d a, EvtFrame d (f d a)) (l : List α) (d : Dev) :
    EvtFrame d (l.foldl f d) := by
  induction l generalizing d with
  | nil => exact .refl d
  | cons a t ih => exact (hf d a).trans (ih (f d a))

theorem EvtFrame.referee (d : Dev) (p src : Nat) (forced : Bool) : EvtFrame d (d.referee p src forced) := by
  unfold Dev.referee
  dsimp only
  have h : EvtFrame d ((({ d with ref := { d.ref with busy := d.ref.busy ++ [(p, src)] } }.when
      (decide (getBits (({ d with ref := { d.ref with busy := d.ref.busy ++ [(p, src)] } } : Dev).rd 0x03 0x040) 8 2 ≤ d.sev p src))
      (·.logAdd p src (d.sev p src) false forced)).when (decide (2 ≤ d.sev p src)) (·.firstAdd p src (d.sev p src) false forced)).when
      (decide (1 ≤ d.sev p src)) (·.call p src (d.sev p src))) :=
    (((EvtFrame.ref d _).trans (.when _ (.ref _ _))).trans (.when _ (.firstAdd _ _ _ _ _ _))).trans (.when _ (.ref _ _))
  split
  · exact h
  · exact h.trans (.fold _ (fun d w => .watchCount d _ p src w) _ _)

/-- Everything that an event can do to what is not an event. -/
theorem EvtFrame.raise (d : Dev) (p src : Nat) (forced : Bool) : EvtFrame d (d.raise p src forced) := by
  unfold Dev.raise
  split
  · dsimp only; split
    · exact (EvtFrame.setEvt d p src).trans (.referee _ p src forced)
    · exact .setEvt d p src
  · exact .refl d

theorem EvtFrame.raiseIf (d : Dev) (c : Bool) (p src : Nat) : EvtFrame d (d.raiseIf c p src) := by
  unfold Dev.raiseIf; split
  · exact .raise d p src false
  · exact .refl d

/-! What settles after a command -/

/-- FAULT_N follows its causes; registers other than EVT_STATUS, the applied values and the lanes stay. -/
theorem faultSettle_frame (d : Dev) : EvtFrame { d with faultN := d.faultCause } (d.faultSettle) := by
  unfold Dev.faultSettle
  dsimp only
  split
  · rename_i h; rw [h]; exact .refl d
  · exact .raise _ _ _ _

theorem faultSettle_faultN (d : Dev) : d.faultSettle.faultN = d.faultCause := (faultSettle_frame d).faultN

/-- Without a Time trial run, only FAULT_N settles. -/
theorem settle_still (d : Dev) (ho : d.life = .on) (h : d.b pTrial fTrBusy = false) : d.settle = d.faultSettle := by
  unfold Dev.settle Dev.trialSettle
  simp [ho, h]

theorem settle_frame (d : Dev) (ho : d.life = .on) (h : d.b pTrial fTrBusy = false) : EvtFrame { d with faultN := d.faultCause } d.settle := by
  rw [settle_still d ho h]; exact faultSettle_frame d

/-! The shape of a meaning -/

theorem act_on (s : State) (f : Dev → Dev) (h : s.dev.life = .on) : act s f = .next { s with dev := (f s.dev).settle } := by
  unfold act; rw [h]

theorem actState_on (s : State) (f : State → State) (h : s.dev.life = .on) : actState s f = .next { f s with dev := (f s).dev.settle } := by
  unfold actState; rw [h]

theorem actPin_on (s : State) (f g : Dev → Dev) (h : s.dev.life = .on) : actPin s f g = .next { s with dev := (f s.dev).settle } := by
  unfold actPin; rw [h]

theorem actOn_on (p : Nat) (s : State) (f : Dev → Dev) (h : s.dev.life = .on) (hp : s.dev.running p = true) :
    actOn p s f = .next { s with dev := (f s.dev).settle } := by
  unfold actOn; rw [act_on s _ h]; simp [Dev.when, hp]

/-- A meaning that acts on the device alone keeps the memories and the queue. -/
theorem act_keeps {s t : State} {f : Dev → Dev} (h : act s f = .next t) : t.mem = s.mem ∧ t.pending = s.pending := by
  unfold act at h
  split at h
  · cases h; exact ⟨rfl, rfl⟩
  · cases h
  · cases h; exact ⟨rfl, rfl⟩

theorem actOn_keeps {p : Nat} {s t : State} {f : Dev → Dev} (h : actOn p s f = .next t) : t.mem = s.mem ∧ t.pending = s.pending :=
  act_keeps h

theorem actPin_keeps {s t : State} {f g : Dev → Dev} (h : actPin s f g = .next t) : t.mem = s.mem ∧ t.pending = s.pending := by
  unfold actPin at h
  split at h
  · cases h; exact ⟨rfl, rfl⟩
  · cases h
  · cases h; exact ⟨rfl, rfl⟩

/-- A meaning that acts on the memories keeps what its effect keeps. -/
theorem actState_keeps {P : State → Prop} {s t : State} {f : State → State} (h : actState s f = .next t) (hs : P s) (hf : P (f s))
    (hd : ∀ u d, P u → P { u with dev := d }) : P t := by
  unfold actState at h
  split at h
  · cases h; exact hd _ _ hf
  · cases h
  · cases h; exact hs

/-! Accesses -/

/-- An access that is accepted has its effect and answers OK. -/
theorem access_takes (d : Dev) (w : Who) (p off : Nat) (f : Dev → Dev) (h : d.takes w p off) :
    d.access w p off f = { f d with resp := ⟨.ok, []⟩ } := by
  unfold Dev.access; rw [show d.writeStatus w p off = .ok from h]

/-- An access that is not accepted changes only the answer (R39). -/
theorem access_refused (d : Dev) (w : Who) (p off : Nat) (f : Dev → Dev) (h : ¬ d.takes w p off) :
    d.access w p off f = { d with resp := ⟨d.writeStatus w p off, []⟩ } := by
  unfold Dev.access
  unfold Dev.takes at h
  split
  · contradiction
  · rfl

theorem access_resp (d : Dev) (w : Who) (p off : Nat) (f : Dev → Dev) : (d.access w p off f).resp = ⟨d.writeStatus w p off, []⟩ := by
  by_cases h : d.takes w p off
  · rw [access_takes d w p off f h, show d.writeStatus w p off = .ok from h]
  · rw [access_refused d w p off f h]

theorem readAccess_shows (d : Dev) (w : Who) (p off : Nat) (f : Dev → Dev × Word) (h : d.shows w p off) :
    d.readAccess w p off f = { (f d).1 with resp := ⟨.ok, [(f d).2]⟩ } := by
  unfold Dev.readAccess; rw [show d.readStatus w p off = .ok from h]

end Sys2Proof.Machine
end

