-- ==== Sys2Proof/Laws/Save.lean ====
section
/-! SUPPORT. Words written in a row read back, and the save set that is written before DOZE checks at the wake (R378, R380, R381). -/

namespace Sys2Proof.Machine

/-- A word outside the written one reads as before. -/
theorem memWord_setWord_other (m : List Host.Cell) {a x : Nat} (w : Word) (h : x + 4 ≤ a ∨ a + 4 ≤ x) :
    memWord (memSetWord m a w) x = memWord m x := by
  unfold memWord
  rw [memGet_setWord_other _ _ (by omega), memGet_setWord_other _ _ (by omega), memGet_setWord_other _ _ (by omega),
    memGet_setWord_other _ _ (by omega)]

theorem memWord_setWords_before (m : List Host.Cell) (a x : Nat) (l : List Word) (h : x + 4 ≤ a) :
    memWord (memSetWords m a l) x = memWord m x := by
  induction l generalizing m a with
  | nil => rfl
  | cons w t ih =>
    show memWord (memSetWords (memSetWord m a w) (a + 4) t) x = memWord m x
    rw [ih _ _ (by omega), memWord_setWord_other _ _ (.inl h)]

/-- Words read after they are written. -/
theorem memWords_setWords (m : List Host.Cell) (a : Nat) (l : List Word) : memWords (memSetWords m a l) a l.length = l := by
  induction l generalizing m a with
  | nil => rfl
  | cons w t ih =>
    show memWord (memSetWords (memSetWord m a w) (a + 4) t) a :: memWords (memSetWords (memSetWord m a w) (a + 4) t) (a + 4) t.length = _
    rw [ih, memWord_setWords_before _ _ _ _ (Nat.le_refl _), memWord_setWord]

theorem Dev.saveSet_length (d : Dev) (n : Lane) : (d.saveSet n).length = 30 := by
  have h : setOffs.length = 78 := by decide
  simp [Dev.saveSet, h]

theorem Dev.saveBody_length (d : Dev) : d.saveBody.length + 4 = saveLen := by
  have h : saveRegs.length + 8 * 30 + 4 = saveLen := by decide +kernel
  have hl : (lanes.flatMap d.saveSet).length = 8 * 30 := by
    simp [lanes, List.finRange, Dev.saveSet_length]
  simp only [Dev.saveBody, List.length_append, List.length_map, hl]
  omega

/-- The save set that is written checks, and gives the body that was written. -/
theorem State.saveCheck_saveWrite (s : State) : s.saveWrite.saveCheck = some s.dev.saveBody := by
  unfold State.saveCheck State.saveWrite
  generalize hb : s.dev.saveBody = b
  have hl : b.length + 4 = saveLen := hb ▸ Dev.saveBody_length s.dev
  generalize hh : s.word (tkRamBase + 8) + 1 = q
  have hr : memWords (memSetWords s.mem tkRamBase ([saveMark, BitVec.ofNat 32 saveLen, q] ++ b ++
      [crc32 ([saveMark, BitVec.ofNat 32 saveLen, q] ++ b)])) tkRamBase saveLen = [saveMark, BitVec.ofNat 32 saveLen, q] ++ b ++
      [crc32 ([saveMark, BitVec.ofNat 32 saveLen, q] ++ b)] := by
    have := memWords_setWords s.mem tkRamBase ([saveMark, BitVec.ofNat 32 saveLen, q] ++ b ++
      [crc32 ([saveMark, BitVec.ofNat 32 saveLen, q] ++ b)])
    rwa [show ([saveMark, BitVec.ofNat 32 saveLen, q] ++ b ++ [crc32 ([saveMark, BitVec.ofNat 32 saveLen, q] ++ b)]).length = saveLen by
      simp; omega] at this
  simp only [hr, List.dropLast_concat, List.getLast?_concat]
  generalize crc32 ([saveMark, BitVec.ofNat 32 saveLen, q] ++ b) = c
  simp

end Sys2Proof.Machine
end

