-- ==== Sys2Proof/Machine/Balls.lean ====
section
/-! DEFINITION. The balls: their places (R442 to R445), their pulls (R446), and the state of every signal ball in every condition of the device (R447), with the identification register of the TAP (R456) and the core supply setpoint (R462). -/

namespace Sys2Proof.Machine

/-! Places (R442 to R445) -/

/-- The signals of R443 and R444, a differential pair by its two balls. -/
inductive Signal where
  | lrx (n : Lane) (neg : Bool) | ltx (n : Lane) (neg : Bool) | htx (n : Lane) (neg : Bool) | hrx (n : Lane) (neg : Bool)
  | ain (i : Fin 16) | vrefHk | xtalIn | xtalOut | hdac (c : Fin 8) | dacClrN | syncIn | trigIn | gpio (i : Fin 4)
  | bootSel (i : Fin 2) | csN | sclk | mosi | miso | flCsN | flClk | flIo (i : Fin 4) | faultN | intN | trigOut
  | tck | tms | tdi | tdo | trstN | refclk (r : Fin 2) (neg : Bool) | rclk (k : Fin 2) (neg : Bool) | btn (neg : Bool)
  | btnAddr (i : Fin 6) | resetN | pwrgood
  deriving DecidableEq, Repr

/-- The supplies and ground (R445). -/
inductive Rail where
  | vss | vddc | vdda | vddh | vddt | vio | vaon
  deriving DecidableEq, Repr

/-- The row letters, row 1 first (R442). -/
def rowNames : List String :=
  ["A", "B", "C", "D", "E", "F", "G", "H", "J", "K", "L", "M", "N", "P", "T", "U", "V", "W", "Y", "AA", "AB", "AC", "AD", "AE", "AF",
    "AG", "AH", "AJ", "AK"]

/-- The ball of a signal, as row number and column (R443, R444): rows count from 1 in the order of R442. -/
def Signal.place : Signal → Nat × Nat
  | .lrx n g => (2, 3 + 3 * n.val + if g then 1 else 0)
  | .ltx n g => (4, 3 + 3 * n.val + if g then 1 else 0)
  | .htx n g => (26, 3 + 3 * n.val + if g then 1 else 0)
  | .hrx n g => (28, 3 + 3 * n.val + if g then 1 else 0)
  | .ain i => (6 + i.val, 1)
  | .vrefHk => (22, 1) | .xtalIn => (23, 1)
  | .hdac c => (6 + c.val, 2)
  | .dacClrN => (14, 2) | .syncIn => (15, 2) | .trigIn => (16, 2)
  | .gpio i => (17 + i.val, 2)
  | .bootSel i => (21 + i.val, 2)
  | .xtalOut => (23, 2)
  | .csN => (6, 28) | .sclk => (7, 28) | .mosi => (8, 28) | .miso => (9, 28)
  | .flCsN => (10, 28) | .flClk => (11, 28)
  | .flIo i => (12 + i.val, 28)
  | .faultN => (16, 28) | .intN => (17, 28) | .trigOut => (18, 28)
  | .tck => (19, 28) | .tms => (20, 28) | .tdi => (21, 28) | .tdo => (22, 28) | .trstN => (23, 28)
  | .refclk r g => (6 + 2 * r.val + (if g then 1 else 0), 29)
  | .rclk k g => (10 + 2 * k.val + (if g then 1 else 0), 29)
  | .btn g => (14 + (if g then 1 else 0), 29)
  | .btnAddr i => (16 + i.val, 29)
  | .resetN => (22, 29) | .pwrgood => (23, 29)

/-- What a ball that carries no signal connects to, by row number and column (R445). -/
def railAt (r c : Nat) : Rail :=
  if r ∈ [1, 3, 7, 23, 27, 29] ∧ ¬ (r = 7 ∧ (c ≤ 2 ∨ 28 ≤ c)) then .vss
  else if r = 2 ∨ r = 26 ∨ r = 28 then .vss
  else if r = 4 then (if c = 1 ∨ c = 29 then .vio else .vss)
  else if r = 5 then (if c ≤ 2 ∨ 28 ≤ c then .vio else .vdda)
  else if r = 6 then .vdda
  else if r = 8 then (if c ≤ 24 then .vdda else .vddt)
  else if 9 ≤ r ∧ r ≤ 22 then
    if c = 3 then .vss
    else if c = 27 then (if r ≤ 15 then .vddt else .vss)
    else if r = 14 ∧ c = 14 then .vss
    else if (r + c) % 2 = 0 then .vddc else .vss
  else if r = 24 then (if c ≤ 2 then .vaon else if c ≤ 21 then .vddh else if c ≤ 27 then .vddt else .vio)
  else if r = 25 then (if c ≤ 2 then .vaon else if c ≤ 27 then .vddh else if c = 28 then .vss else .vio)
  else .vss

/-! States (R446, R447) -/

/-- The conditions of R447; `undefined` after a rail fault (R466). -/
inductive Condition where
  | unpowered | reset | booting | walk | run | idle | doze | undefined
  deriving DecidableEq, Repr

/-- The condition of the device. -/
def Dev.condition (d : Dev) : Condition :=
  match d.life with
  | .unpowered => .unpowered
  | .held => .reset
  | .undefined => .undefined
  | .on =>
    if d.pwState = pwDoze then (if d.power.waking then .booting else .doze)
    else if d.walks then .walk
    else if d.g 0x08 ⟨0x044, 0, 2⟩ ≠ 1 then .booting
    else if d.pwState = pwIdle then .idle else .run

/-- The state of a ball: high-impedance; an input with its pull, up or down; 100 Ω between the balls of a pair, with common-mode bias or
without; an output that is driven, low, high, squelched, released, or drives a DAC code; the crystal; the load of the Baton receiver;
controlled by the boundary register; or undefined. -/
inductive BallState where
  | hiZ | pullUp | pullDown | terminated | biased | driven | low | high | squelched | released | dac (code : Nat) | oscillates
  | receiver | boundary | undefined
  deriving DecidableEq, Repr

/-- The internal pull of an input (R446): up, down, or none. -/
def Signal.pull : Signal → Option Bool
  | .csN | .tms | .tdi => some true
  | .sclk | .mosi | .syncIn | .trigIn | .gpio _ | .dacClrN | .tck | .trstN | .resetN | .pwrgood => some false
  | _ => none

/-- The boundary register covers the ball (R456). -/
def Signal.scanned : Signal → Bool
  | .tck | .tms | .tdi | .tdo | .trstN | .xtalIn | .xtalOut | .ain _ | .vrefHk | .hdac _ => false
  | _ => true

/-- A condition in which the management domain and the links work (R343, R349). -/
def Condition.serves : Condition → Bool
  | .booting | .walk | .run | .idle => true
  | _ => false

/-- An output of R447 while the boundary register does not control it. -/
def Dev.ballInService (d : Dev) (x : Signal) : BallState :=
  let c := d.condition
  let lanesOn := c = .run ∨ c = .idle
  match x with
  | .lrx n _ => if lanesOn ∧ d.b (pLrx n) fLrxEn = true then .biased else .terminated
  | .hrx n _ => if lanesOn ∧ d.b (pHrx n) fHrxEn = true then .biased else .terminated
  | .ltx n _ => if lanesOn ∧ d.b (pLtx n) fLtxEn = true then (if d.ltxDriven n then .driven else .squelched) else .hiZ
  | .htx n _ => if lanesOn ∧ d.b (pHtx n) fHtxEn = true then (if d.htxDriven n then .driven else .squelched) else .hiZ
  | .rclk k _ => if lanesOn ∧ d.b pClocks (fRclkEn k.val) = true then (if d.rclkSquelched k.val then .low else .driven) else .hiZ
  | .xtalIn | .xtalOut => if c = .unpowered then .hiZ else .oscillates
  | .flCsN | .flClk | .flIo _ => if c.serves then .driven else .hiZ
  | .trigOut => if c = .booting then .low else if c = .run then (if d.cap.trigOut then .high else .low) else .hiZ
  | .faultN => if d.faultN then .low else .released
  | .intN => if c.serves && d.intLow then .low else .released
  | .btn _ => .receiver
  | .hdac ch =>
    if c = .walk ∨ lanesOn then (if d.hdState ch = hdOff then .hiZ else .dac (d.g pHdac (fHdLive ch))) else .hiZ
  | .miso | .tdo | .refclk _ _ | .ain _ | .vrefHk | .bootSel _ | .btnAddr _ => .hiZ
  | x =>
    if c = .unpowered then .hiZ
    else match x.pull with
    | some true => .pullUp
    | some false => .pullDown
    | none => .hiZ

/-- The state of a signal ball (R447): between frames, shifts and conversions MISO, TDO and the analog inputs are high-impedance and the
Baton driver is off. -/
def Dev.ball (d : Dev) (x : Signal) : BallState :=
  if d.condition = .undefined then .undefined
  else if d.tapHolds && x.scanned then .boundary
  else d.ballInService x

/-! The TAP and the core supply -/

/-- The IDCODE register (R456): the step of DEV_ID, 0x8400, Paluth's manufacturer code, and 1. -/
def Dev.idcode (d : Dev) : Word :=
  BitVec.ofNat 32 (getBits (d.rd 0x00 0x040) 0 4 * 2 ^ 28 + 0x8400 * 2 ^ 12 + Config.manufacturer.toNat * 2 + 1)

/-- The VDDC setpoint of the part, in mV (R462). -/
def Dev.coreSetpoint (d : Dev) : Nat := 580 + 10 * getBits (d.rd 0x00 0x054) 0 8

end Sys2Proof.Machine
end

