-- ==== Sys2Proof/Machine/Equaliser.lean ====
section
/-! DEFINITION. The datapath of the line equaliser as functions of the samples (R83 to R90): what the registers of a lane make of them. The commands do not carry symbols one by one; the functions say what the coefficients mean. -/

namespace Sys2Proof.Machine

/-- The pair (a, b) of Volterra term `t` (R85). -/
def voltPair (t : Nat) : Nat × Nat :=
  [(0,0), (0,1), (1,1), (0,2), (1,2), (2,2), (0,3), (1,3), (2,3), (3,3), (0,4), (1,4), (2,4), (3,4), (4,4)].getD t (0, 0)

/-- FFE tap `i` in use, in steps of 2^-10 (R84, R90, R103). -/
def Dev.tapInUse (d : Dev) (n : Lane) (i : Nat) : Int :=
  if tapOn (d.g (pPacer n) fPaceLive) (d.pc n).main i then d.eqInUse n 12 (4 * i) else 0

/-- Volterra term `t` in use, in steps of 2^-10 (R85, R89, R103). -/
def Dev.termInUse (d : Dev) (n : Lane) (t : Nat) : Int :=
  if termOn (d.g (pPacer n) fPaceLive) t then d.eqInUse n 12 (0x100 + 4 * t) else 0

/-- The linear estimate e[k] in steps of 2^-10 LSB (R84): tap m meets the sample of time k. -/
def Dev.ffeOut (d : Dev) (n : Lane) (x : Int → Int) (k : Int) : Int :=
  (List.range 64).foldl (fun s i => s + d.tapInUse n i * x (k + (d.pc n).main - i)) 0

/-- The nonlinear correction v[k] in steps of 2^-17 LSB (R85): samples are scaled by 2^-7 for the product. -/
def Dev.voltOut (d : Dev) (n : Lane) (x : Int → Int) (k : Int) : Int :=
  (List.range 15).foldl (fun s t => s + d.termInUse n t * x (k - (voltPair t).1) * x (k - (voltPair t).2)) 0

/-- The stage output z[k] = e[k] + v[k] in steps of 2^-17 LSB (R83). -/
def Dev.eqOut (d : Dev) (n : Lane) (x : Int → Int) (k : Int) : Int := d.ffeOut n x k * 128 + d.voltOut n x k

/-- The expected level for symbols a, b, c at times k, k - 1, k - 2, in steps of 2^-17 LSB; 4-state operation ignores c (R86). -/
def Dev.mlseLevel (d : Dev) (n : Lane) (a b c : Nat) : Int :=
  d.eqInUse n 10 (0x140 + 4 * (16 * a + 4 * b + (if d.b (pPacer n) fMlse16 then c else 0))) * 65536

/-- The lesser of two path metrics, where no path is none. -/
def minPath : Option Int → Option Int → Option Int
  | none, y => y
  | x, none => x
  | some x, some y => some (min x y)

/-- One symbol of the trellis: the best metric of the paths that end in the symbols (a, b), listed at 4 a + b. -/
def Dev.trellis (d : Dev) (n : Lane) (ok : Nat → Bool) (z : Int) (m : List (Option Int)) : List (Option Int) :=
  (List.range 16).map fun ab =>
    let a := ab / 4
    let b := ab % 4
    if ok a then
      (List.range 4).foldl (fun best c =>
        minPath best ((m.getD (4 * b + c) none).map fun x => x + (z - d.mlseLevel n a b c) ^ 2)) none
    else none

/-- The best path metric over a run of outputs, with the decision at each time limited by `ok` (R86, R87). -/
def Dev.pathMetric (d : Dev) (n : Lane) (ok : Nat → Nat → Bool) : Nat → List Int → List (Option Int) → Option Int
  | _, [], m => m.foldl minPath none
  | k, z :: t, m => d.pathMetric n ok (k + 1) t (d.trellis n (ok k) z m)

/-- The two bits of a PAM4 level in the Gray mapping, most significant first (R87). -/
def grayBits (l : Nat) : Bool × Bool := (decide (2 ≤ l), decide (l = 1 ∨ l = 2))

/-- The reliability of a bit whose opposite decision costs `dm`, in steps of 2^-34 LSB squared (R87). -/
def reliability (scale : Nat) (dm : Int) : Nat := min 7 (dm * scale / (64 * 2 ^ 34)).toNat

/-- The 4-bit soft value of bit `hi` of the symbol at position `k` of a run of outputs, where its decision is `l` (R87). -/
def Dev.softValue (d : Dev) (n : Lane) (zs : List Int) (k l : Nat) (hi : Bool) : Nat :=
  let bit (x : Nat) : Bool := if hi then (grayBits x).1 else (grayBits x).2
  let start := List.replicate 16 (some (0 : Int))
  let best := d.pathMetric n (fun _ _ => true) 0 zs start
  let other := d.pathMetric n (fun j a => j != k || bit a != bit l) 0 zs start
  let r := match best, other with
    | some x, some y => reliability (getBits (d.lrd (pPacer n) 0x068) 0 4) (y - x)
    | _, _ => 0
  (if bit l then 8 else 0) + r

end Sys2Proof.Machine
end

