-- ==== Sys2Proof/Tests/Slice0.lean ====
section
/-! SUPPORT. The model's own tests: ill-formed commands that WellFormed refuses, single steps with results from the spec, and for each clause of the statements a state and operands that meet its hypotheses. -/

open Sys2Proof Sys2Proof.Machine

namespace Sys2Proof.Tests

set_option Elab.async false
set_option linter.unusedVariables false

/-- A running device at its reset values, but for the registers and the live copies listed (page, offset, word), and for `f`. -/
def wst (regs live : List (Nat × Nat × Word)) (f : Dev → Dev := id) (mem : List Host.Cell := []) : State :=
  let d : Dev := { Dev.reset with life := .on }
  let d := regs.foldl (fun d e => d.wr e.1 e.2.1 e.2.2) d
  ⟨f (live.foldl (fun d e => d.lwr e.1 e.2.1 e.2.2) d), mem, []⟩

/-- The state after a command that answers one. -/
def after (c : Instr) (s : State) : State :=
  match exec c s with
  | .next t => t
  | _ => s

def host : Who := ⟨1, 0, false⟩
def noFacts : Facts := ⟨[], false, [], 0⟩

/-! Ill-formed commands, one for each check of WellFormed -/

theorem wf_refuses_who : [⟨5, 0, false⟩, ⟨0, 1, false⟩, ⟨1, 0, true⟩, ⟨16, 68, false⟩, ⟨16, 64, true⟩].all
    (fun w => !(Instr.softRst w 0 0).wf) = true := by decide
theorem wf_refuses_trigs : (List.replicate 9 (⟨0, 0, 0⟩ : StreamTrig)).length = 9 ∧
    (Instr.regWrite host 0 .word 0 ⟨List.replicate 9 ⟨0, 0, 0⟩, false, [], 0⟩).wf = false ∧
    (Instr.swTrig host (List.replicate 9 ⟨0, 0, 0⟩)).wf = false ∧ (Instr.triggerCondition (List.replicate 9 ⟨0, 0, 0⟩)).wf = false ∧
    (Instr.trigInEdge true (List.replicate 9 ⟨0, 0, 0⟩)).wf = false ∧
    (Instr.autoTriggerTimeout (List.replicate 9 ⟨0, 0, 0⟩)).wf = false ∧
    (Instr.spiWrite ⟨true, 0, 0⟩ [] false ⟨List.replicate 9 ⟨0, 0, 0⟩, false, [], 0⟩).wf = false ∧
    (Instr.batonWrite ⟨0, 1, false, 0, 0, 0, [], 0, false⟩ ⟨List.replicate 9 ⟨0, 0, 0⟩, false, [], 0⟩).wf = false := by decide
theorem wf_refuses_shadow : (Instr.shadowWrite host 0x20 0 0).wf = false := by decide
theorem wf_refuses_wide : (Instr.wideWriteLo host 5 0x13 0).wf = false ∧ (Instr.wideWriteHi host 5 0x12 0).wf = false ∧
    (Instr.wideWriteLo host 4 0x12 0).wf = false := by decide
theorem wf_refuses_targets : (Instr.calObservationEnd 0 []).wf = false ∧ (Instr.ltxCalObservationEnd 0 [] (List.replicate 8 0)).wf = false ∧
    (Instr.ltxCalObservationEnd 0 (List.replicate 8 0) []).wf = false ∧ (Instr.ltxClipWindowEnd 0 [⟨1, [0], 0⟩]).wf = false := by decide
theorem wf_refuses_codewords : (Instr.innerCodewordDecode 0 []).wf = false ∧ (Instr.hostRsDecode 0 0 545).wf = false ∧
    (Instr.rsCodewordDecode 0 [] 545 none).wf = false ∧ (Instr.rsCodewordDecode 0 [⟨0, 544, 0, 0, false⟩] 0 none).wf = false := by decide
theorem wf_refuses_training : (Instr.warmupFrameReceived 0 [] true).wf = false ∧ (Instr.hostFfeLmsUpdate 0 []).wf = false ∧
    (Instr.refOk 0 []).wf = false := by decide
theorem wf_refuses_dma : (Instr.dmaTransfer 0 0 ⟨2, 0, 1, 1, 0, 0⟩).wf = false ∧ (Instr.dmaTransfer 0 0 ⟨0, 2, 1, 1, 0, 0⟩).wf = false ∧
    (Instr.dmaTransfer 0 0 ⟨0, 0, 1, 1, 2, 0⟩).wf = false ∧ (Instr.dmaTransfer 0 0 ⟨0, 0, 1, 1, 0, 2⟩).wf = false ∧
    (Instr.dmaTransfer 0 0 ⟨0, 0, 0x4001, 1, 0, 0⟩).wf = false := by decide
theorem wf_refuses_lengths : (Instr.bwWindowEnd []).wf = false ∧ (Instr.tagInstruction ⟨0, 0, [], 0⟩).wf = false ∧
    (Instr.capDone (List.replicate 9 ⟨0, []⟩)).wf = false ∧ (Instr.skewCalDone []).wf = false ∧ (Instr.thermalReading []).wf = false ∧
    (Instr.startingCall 3 []).wf = false ∧ (Instr.nvmTimeout (List.replicate 4097 0)).wf = false := by decide +kernel
theorem wf_refuses_fetch : (Instr.hostMemoryRead (.fetch 0 0 2) []).wf = false ∧
    (Instr.hostMemoryRead (.master ⟨5, 0, false⟩ 0 .word 0) []).wf = false := by decide
theorem wf_refuses_spi : (Instr.spiWrite ⟨true, 0, 0⟩ (List.replicate 17 0) false noFacts).wf = false ∧
    (Instr.spiRead ⟨true, 0, 0⟩ (some 17) none).wf = false ∧ (Instr.spiRead ⟨true, 0, 0⟩ none (some 16)).wf = false := by decide
theorem wf_refuses_baton : (Instr.batonWrite ⟨0, 2, false, 0, 0, 0, [], 0, false⟩ noFacts).wf = false ∧
    (Instr.batonRead ⟨0, 3, false, 0, 0, 0, [], 0, false⟩).wf = false ∧ (Instr.batonPoll ⟨0, 1, false, 0, 0, 0, [], 0, false⟩).wf = false ∧
    (Instr.batonRead ⟨0, 2, false, 0, 0, 0, List.replicate 17 0, 0, false⟩).wf = false := by decide

/-! Values that the spec states -/

/-- R353: the CRC-16 over the ASCII bytes "123456789". -/
theorem test_crc16 : crc16 [0x31, 0x32, 0x33, 0x34, 0x35, 0x36, 0x37, 0x38, 0x39] = 0x29B1 := by decide +kernel
/-- R42: PAGE_ID of LRX3. -/
theorem test_page_id : pageId 0x23 = 0x00200301 := by decide +kernel
/-- R138: d_0 enters p_0 and p_1 (c_120, c_121), and c_127 makes the parity even. -/
theorem test_inner_code : innerEncode 1 = BitVec.ofNat 128 (1 + 2 ^ 120 + 2 ^ 121 + 2 ^ 127) := by decide +kernel
/-- R90: the windows of the table, with the default main cursor. -/
theorem test_tap_windows : (List.range 64).filter (tapOn 5 15) = List.range' 4 48 ∧ (List.range 64).filter (tapOn 3 15) = List.range' 8 32 ∧
    (List.range 64).filter (tapOn 1 15) = List.range' 10 24 ∧ (List.range 64).filter (tapOn 0 15) = List.range' 12 16 := by decide +kernel

/-- The example at the end of 05_line_transmitter.md (R116 to R118): the sample's code is 243.75, which rounds to 244. -/
theorem test_ltx_code : (wst [(0x2E, ltxBank 0 + 0x008, 0x3F0), (0x2E, ltxBank 0 + 0x00C, 0x0D0), (0x2E, ltxBank 0 + 0x010, 0x3E0),
    (0x2E, ltxBank 0 + 0x1C0, 0x0FC), (0x2E, 0x30C, 3)] []).dev.ltxCode 6 [0, 0, 0, 3, 0, 0, 0, 0, 0] 0 = 244 := by decide +kernel

/-! Single steps -/

/-- R391: in reset a register write does nothing, and step takes it from the queue. -/
theorem test_held : step { State.reset with pending := [.lrxEnSet host 0 1] } = .next State.reset := rfl
/-- R385: TK_TIME advances on an empty queue. -/
theorem test_tick : (match step (wst [] []) with | .next t => t.dev.tk | _ => 0) = 1 := by decide +kernel
/-- R92: enable starts the lane in SEEK (1). -/
theorem test_lane_starts : (after (.lrxEnSet host 3 1) (wst [] [])).dev.laneState 3 = 1 := by decide +kernel
/-- R46: a shadow write leaves the live copy alone. -/
theorem test_shadow : (after (.shadowWrite host 0x07 0x10 0x100) (wst [] [])).dev.lrd 0x07 0x040 = resetWord 0x07 0x040 := by decide +kernel
/-- R44: a page locked by one master denies another (R39). -/
theorem test_lock : (after (.wlock ⟨2, 0, false⟩ 0x20 0) (after (.wlock host 0x20 3) (wst [] []))).dev.resp.status = .denied := by decide +kernel
/-- R335: a 1 clears its bit, a 0 leaves it. -/
theorem test_evt_clear : (after (.evtStatusClear host 0x20 1) (after (.evtForce host 0x20 3) (wst [] []))).dev.rd 0x20 0x010 = 2 := by
  decide +kernel
/-- R303: the ball clears the channels. -/
theorem test_clr_ball : (after .dacClrNFall (wst [] [])).dev.clrLow = true := by decide +kernel
/-- R366: the reader of a free lock acquires it and reads 0; another master then reads the holder's ID plus 1. -/
theorem test_lock_read : (after (.lockRead host 4) (wst [] [])).dev.resp = ⟨.ok, [0]⟩ ∧
    (after (.lockRead ⟨2, 0, false⟩ 4) (after (.lockRead host 4) (wst [] []))).dev.resp = ⟨.ok, [2]⟩ := by decide +kernel
/-- R466: after a rail fault nothing is defined. -/
theorem test_rail : exec (.lrxEnSet host 0 1) (after .railFault (wst [] [])) = .fault .stateUndefined := rfl
/-- R378, R380, R381: the save set that is written checks at the wake. -/
theorem test_save_set (s : State) : s.saveWrite.saveCheck = some s.dev.saveBody := s.saveCheck_saveWrite

/-! States and operands that meet the hypotheses of the statements -/

theorem witness_StepKeepsMemoriesCanonical : ∃ s t : State, s.memOk ∧ step s = .next t :=
  ⟨{ State.reset with pending := [.xtalOk] }, _, by decide +kernel, rfl⟩
theorem witness_StepTakesOneCommand : ∃ s t : State, step s = .next t := ⟨{ State.reset with pending := [.lrxEnSet host 0 1] }, _, rfl⟩
theorem witness_FaultPinFollowsItsCauses : ∃ s t : State, s.faultOk ∧ step s = .next t :=
  ⟨{ State.reset with pending := [.lrxEnSet host 0 1] }, _, fun h => absurd h (by decide), rfl⟩
theorem witness_OutsideOperation_1 : ∃ (c : Instr) (s : State), (s.dev.life = .held ∨ s.dev.life = .unpowered) ∧ actsInReset c = false :=
  ⟨.lrxEnSet host 0 1, State.reset, by decide⟩
theorem witness_OutsideOperation_2 : ∃ (c : Instr) (s : State), s.dev.life = .undefined ∧ supplyCommand c = false :=
  ⟨.lrxEnSet host 0 1, wst [] [] (fun d => { d with life := .undefined }), by decide +kernel⟩
theorem witness_OutsideOperation_3 : ∃ s : State, s.calm ∧ s.pending = [] ∧
    (s.dev.b pTk fArmed = false ∨ s.dev.tk.toNat + 1 < (s.dev.rd64 pTk 0x058).toNat) ∧ s.dev.tk.toNat + 1 < 2 ^ 64 :=
  ⟨wst [] [], by decide +kernel⟩
theorem witness_InnerCodeCorrectsOneError_2 : ∃ (_ : BitVec 120) (j : Nat), j < 128 := ⟨1, 127, by decide⟩
theorem witness_WakingFromDoze_5 : ∃ (s : State) (l : List Word), s.calm ∧ s.dev.power.waking = true ∧ s.saveCheck = some l ∧
    s.dev.trip = false :=
  ⟨(wst [] [] (fun d => d.updPower fun h => { h with waking := true })).saveWrite, _, by decide +kernel, by decide +kernel,
    State.saveCheck_saveWrite _, by decide +kernel⟩

theorem witness_RegisterWritesStore_0 : ∃ (s : State) (w : Who) (p off : Nat) (v : Word) (x : Facts), s.calm ∧ plainReg p off ∧
    s.dev.takes w p off :=
  ⟨wst [] [], { mid := 0, sub := 1, user := false }, 3, 28, 0x41dc9157#32, { trigs := [], jbad := false, bad := [], pc := 0x0#32 },
      by decide +kernel⟩
theorem witness_RegisterWritesStore_1 : ∃ (s : State) (w : Who) (p : Fin 256) (r : Fin 1024) (v : Word), s.calm ∧
    isShadow p.val (4 * r.val) = true ∧ s.dev.takes w p.val (4 * r.val) :=
  ⟨wst [] [] (fun d => { d with late := [3] }), { mid := 0, sub := 3, user := false }, 18, 18, 0x3#32, by decide +kernel⟩
theorem witness_PageHeaderControls_0 : ∃ (s : State) (w : Who) (p : Fin 256) (v : Word), s.calm ∧ s.dev.takes w p.val 0x008 :=
  ⟨wst [] [], { mid := 0, sub := 1, user := false }, 5, 0x41dc9157#32, by decide +kernel⟩
theorem witness_PageHeaderControls_1 : ∃ (s : State) (w : Who) (p : Fin 256) (v : Word), s.calm ∧ (kindOf p.val = some .intc ∨
    kindOf p.val = some .spi) ∧ s.dev.takes w p.val 0x008 :=
  ⟨wst [] [], { mid := 0, sub := 1, user := false }, 4, 0x41dc9157#32, by decide +kernel⟩
theorem witness_PageHeaderControls_2 : ∃ (s : State) (p : Fin 256), s.calm ∧ s.dev.inReset.contains p.val = true :=
  ⟨wst [] [] (fun d => { d with inReset := [5] }), 5, by decide +kernel⟩
theorem witness_PageHeaderControls_3 : ∃ (s : State) (w : Who) (p : Fin 256) (v : Word), s.calm ∧ s.dev.takes w p.val 0x008 :=
  ⟨wst [] [], { mid := 0, sub := 1, user := false }, 5, 0x41dc9157#32, by decide +kernel⟩
theorem witness_PageHeaderControls_4 : ∃ (s : State) (w : Who) (p : Fin 256) (v : Word), s.calm ∧ s.dev.takes w p.val 0x00C :=
  ⟨wst [] [], { mid := 0, sub := 1, user := false }, 5, 0x41dc9157#32, by decide +kernel⟩
theorem witness_PageHeaderControls_5 : ∃ (s : State) (w : Who) (p : Fin 256) (v : Word), s.calm ∧ s.dev.takes w p.val 0x010 :=
  ⟨wst [] [], { mid := 0, sub := 1, user := false }, 5, 0x41dc9157#32, by decide +kernel⟩
theorem witness_PageHeaderControls_6 : ∃ (s : State) (w : Who) (p : Fin 256) (v : Word), s.calm ∧ s.dev.takes w p.val 0x018 :=
  ⟨wst [] [], { mid := 0, sub := 1, user := false }, 5, 0x41dc9157#32, by decide +kernel⟩
theorem witness_PageHeaderControls_7 : ∃ (s : State) (w : Who) (p : Fin 256) (v : Word), s.calm ∧ s.dev.takes w p.val 0x028 :=
  ⟨wst [] [], { mid := 0, sub := 1, user := false }, 5, 0x41dc9157#32, by decide +kernel⟩
theorem witness_ModeCommitRuns_0 : ∃ (s : State) (w : Who) (v : Word), s.calm ∧ s.dev.takes w 0x16 0x040 :=
  ⟨wst [] [], { mid := 4, sub := 1, user := false }, 0x53e4ffcf#32, by decide +kernel⟩
theorem witness_ModeCommitRuns_1 : ∃ (s : State) (b p : Nat), s.calm ∧ (b, p) ∈ ([(22, 0x17), (28, 0x12), (29, 0x13)] : List (Nat × Nat)) ∧
    s.dev.commit = .undecided (2 ^ b) ∧ s.dev.b p fArm = true ∧ s.dev.powered 0x16 = true :=
  ⟨wst [(0x17, 0x28, 0x1)] [] (fun d => { d with late := [5], commit := CommitPhase.undecided 4194304, unapplied := [68, 23] }), 22, 23,
      by decide +kernel⟩
theorem witness_ModeCommitRuns_2 : ∃ (s : State) (targets : Nat), s.calm ∧ s.dev.commit = .undecided targets ∧
    s.dev.commitReady targets = false :=
  ⟨wst [(0x12, 0x4, 0x0)] [] (fun d => { d with commit := CommitPhase.undecided 268435456 }), 268435456, by decide +kernel⟩
theorem witness_ModeCommitRuns_3 : ∃ (s : State) (targets : Nat), s.calm ∧ s.dev.commit = .undecided targets ∧
    s.dev.commitReady targets = false ∧ s.dev.powered 0x16 = true :=
  ⟨wst [(0x12, 0x4, 0x0)] [] (fun d => { d with commit := CommitPhase.undecided 268435456 }), 268435456, by decide +kernel⟩
theorem witness_ModeCommitRuns_4 : ∃ (s : State) (p : Fin 256) (base n : Lane) (targets : Nat), s.calm ∧ p.val = pPacer n ∧
    s.dev.commit = .decided targets [⟨p.val, none⟩] ∧ s.dev.powered 0x16 = true :=
  ⟨wst [] [] (fun d => { d with samp := [(413800, 0x9251c859#32)], commit := CommitPhase.decided 1 [{ page := 101, group := none }], unapplied := [68] }), 101, 1, 5, 1, by decide +kernel⟩
theorem witness_WideValuesAreWhole_0 : ∃ (s : State) (w : Who) (p : Fin 256) (r : Fin 1024), s.calm ∧
    s.dev.wideLo p.val (4 * r.val) = true ∧ 0x040 < 4 * r.val ∧ s.dev.shows w p.val (4 * r.val) ∧ s.dev.ecc = [] ∧ s.dev.votes = [] ∧
    s.dev.wideLo p.val (4 * r.val - 4) = false :=
  ⟨wst [] [], { mid := 4, sub := 1, user := false }, 40, 28, by decide +kernel⟩
theorem witness_WideValuesAreWhole_1 : ∃ (s : State) (w : Who) (p : Fin 256) (r : Fin 1024), s.calm ∧
    s.dev.wideLo p.val (4 * r.val - 4) = true ∧ 0x040 < 4 * r.val ∧ s.dev.wideLo p.val (4 * r.val) = false ∧
    s.dev.shows w p.val (4 * r.val) ∧ s.dev.ecc = [] ∧ s.dev.votes = [] :=
  ⟨wst [] [], { mid := 4, sub := 1, user := false }, 40, 29, by decide +kernel⟩
theorem witness_WideValuesAreWhole_2 : ∃ (s : State) (w : Who) (r : Fin 1024) (v : Word), s.calm ∧ (r.val = 0x12 ∨ r.val = 0x16) ∧
    s.dev.takes w pTk (4 * r.val) :=
  ⟨wst [] [], { mid := 4, sub := 1, user := false }, 22, 0x53e4ffcf#32, by decide +kernel⟩
theorem witness_WideValuesAreWhole_3 : ∃ (s : State) (w : Who) (v : Word), s.calm ∧ s.dev.takes w pTk 0x04C :=
  ⟨wst [] [], { mid := 4, sub := 1, user := false }, 0x53e4ffcf#32, by decide +kernel⟩
theorem witness_LineLaneEnableAndSignal_0 : ∃ (s : State) (w : Who) (n : Lane) (v : Word), s.calm ∧ s.dev.takes w (pLrx n) 0x040 :=
  ⟨wst [] [], { mid := 0, sub := 1, user := false }, 5, 0xffffffff#32, by decide +kernel⟩
theorem witness_LineLaneEnableAndSignal_1 : ∃ (s : State) (w : Who) (n : Lane) (v : Word), s.calm ∧ s.dev.takes w (pLrx n) 0x040 :=
  ⟨wst [] [], { mid := 0, sub := 1, user := false }, 5, 0xffffffff#32, by decide +kernel⟩
theorem witness_LineLaneEnableAndSignal_2 : ∃ (s : State) (sd : Side) (n : Lane), s.calm ∧ s.dev.runs (rxPage sd n) ∧
    s.dev.tapHolds = false ∧ s.dev.b (rxPage sd n) fLrxEn = true ∧ s.dev.g (rxPage sd n) fLrxState ≠ stSeek ∧ (sd = .host →
    s.dev.g (rxPage sd n) fLrxState ≠ stOff) :=
  ⟨wst [(0x25, 0x40, 0x1), (0x35, 0x40, 0x1)] [], Side.line, 5, by decide +kernel⟩
theorem witness_LineLaneEnableAndSignal_3 : ∃ (s : State) (n : Lane), s.calm ∧ s.dev.runs (pLrx n) ∧ s.dev.tapHolds = false ∧
    s.dev.b (pLrx n) fLrxEn = true ∧ s.dev.laneState n = stSeek :=
  ⟨wst [(0x26, 0x40, 0x1), (0x26, 0x44, 0x1), (0x36, 0x40, 0x1)] [], 6, by decide +kernel⟩
theorem witness_LineLaneEnableAndSignal_4 : ∃ (s : State) (n : Lane), s.calm ∧ s.dev.runs (pHrx n) ∧ s.dev.tapHolds = false ∧
    s.dev.b (pHrx n) fHrxEn = true ∧ s.dev.hostState n = stSeek :=
  ⟨wst [(0x26, 0x40, 0x1), (0x36, 0x40, 0x1), (0x36, 0x44, 0x1)] [], 6, by decide +kernel⟩
theorem witness_LineLaneEnableAndSignal_5 : ∃ (s : State) (sd : Side) (n : Lane), s.calm ∧ s.dev.runs (rxPage sd n) ∧
    s.dev.b (rxPage sd n) fLrxEn = true ∧ s.dev.b (rxPage sd n) fLrxSigDet = true ∧ s.dev.lg (rxPage sd n) fLoopback ≠ 2 ∧
    s.dev.g (rxPage sd n) fLrxState ∉ [stTrain, stRun, stHold] :=
  ⟨wst [(0x26, 0x40, 0x1), (0x26, 0x44, 0x9), (0x36, 0x40, 0x1), (0x36, 0x44, 0x9)] [], Side.line, 6, by decide +kernel⟩
theorem witness_LineLaneEnableAndSignal_6 : ∃ (s : State) (n : Lane), s.calm ∧ s.dev.runs (pLrx n) ∧ s.dev.b (pLrx n) fLrxEn = true ∧
    s.dev.b (pLrx n) fLrxSigDet = true ∧ s.dev.lg (pLrx n) fLoopback ≠ 2 ∧ s.dev.laneState n ∈ [stTrain, stRun, stHold] :=
  ⟨wst [(0x26, 0x40, 0x1), (0x26, 0x44, 0xb), (0x36, 0x40, 0x1), (0x36, 0x44, 0xb)] [], 6, by decide +kernel⟩
theorem witness_LineLaneEnableAndSignal_7 : ∃ (s : State) (n : Lane), s.calm ∧ s.dev.runs (pHrx n) ∧ s.dev.b (pHrx n) fHrxEn = true ∧
    s.dev.b (pHrx n) fHrxSigDet = true ∧ s.dev.lg (pHrx n) fHrxLoop ≠ 2 ∧ s.dev.hostState n ∈ [stTrain, stRun, stHold] :=
  ⟨wst [(0x26, 0x40, 0x1), (0x26, 0x44, 0xb), (0x36, 0x40, 0x1), (0x36, 0x44, 0xb)] [], 6, by decide +kernel⟩
theorem witness_TimingRecoveryFollowsTheLoop_0 : ∃ (s : State) (sd : Side) (n : Lane) (freq : Int) (phase : Nat), s.calm ∧
    s.dev.runs (rxPage sd n) ∧ s.dev.b (rxPage sd n) fLrxEn = true ∧ s.dev.b (rxPage sd n) fLrxSigDet = true ∧
    s.dev.lg (rxPage sd n) fLoopback ≠ 2 ∧ s.dev.b (rxPage sd n) fLrxCdrLock = false ∧ -30000 < freq ∧ freq < 30000 ∧
    s.dev.g (rxPage sd n) fLrxState ≠ stTrain :=
  ⟨wst [(0x26, 0x40, 0x1), (0x26, 0x44, 0x9), (0x36, 0x40, 0x1), (0x36, 0x44, 0x9)] [], Side.line, 6, 27570, 8, by decide +kernel⟩
theorem witness_TimingRecoveryFollowsTheLoop_1 : ∃ (s : State) (n : Lane) (freq : Int) (phase : Nat), s.calm ∧ s.dev.runs (pLrx n) ∧
    s.dev.b (pLrx n) fLrxEn = true ∧ s.dev.b (pLrx n) fLrxSigDet = true ∧ s.dev.lg (pLrx n) fLoopback ≠ 2 ∧
    s.dev.b (pLrx n) fLrxCdrLock = false ∧ -30000 < freq ∧ freq < 30000 ∧ s.dev.laneState n = stTrain :=
  ⟨wst [(0x22, 0x40, 0x1), (0x22, 0x44, 0xa), (0x32, 0x40, 0x1), (0x32, 0x44, 0xa)] [], 2, 15154, 53, by decide +kernel⟩
theorem witness_TimingRecoveryFollowsTheLoop_2 : ∃ (s : State) (n : Lane) (freq : Int) (phase : Nat), s.calm ∧ s.dev.runs (pHrx n) ∧
    s.dev.b (pHrx n) fLrxEn = true ∧ s.dev.b (pHrx n) fLrxSigDet = true ∧ s.dev.lg (pHrx n) fLoopback ≠ 2 ∧
    s.dev.b (pHrx n) fHrxCdrLock = false ∧ -30000 < freq ∧ freq < 30000 ∧ s.dev.hostState n = stTrain :=
  ⟨wst [(0x22, 0x40, 0x1), (0x22, 0x44, 0xa), (0x32, 0x40, 0x1), (0x32, 0x44, 0xa)] [], 2, 15154, 53, by decide +kernel⟩
theorem witness_TimingRecoveryFollowsTheLoop_3 : ∃ (s : State) (sd : Side) (n : Lane) (freq : Int), s.calm ∧ s.dev.runs (rxPage sd n) ∧
    s.dev.b (rxPage sd n) fLrxEn = true ∧ s.dev.b (rxPage sd n) fLrxSigDet = true ∧ s.dev.lg (rxPage sd n) fLoopback ≠ 2 ∧
    s.dev.b (rxPage sd n) fLrxCdrLock = true :=
  ⟨wst [(0x25, 0x40, 0x1), (0x25, 0x44, 0x1a), (0x35, 0x40, 0x1), (0x35, 0x44, 0x1a)] [], Side.line, 5, 7407, by decide +kernel⟩
theorem witness_TimingRecoveryFollowsTheLoop_4 : ∃ (s : State) (sd : Side) (n : Lane) (high : Bool), s.calm ∧ s.dev.runs (rxPage sd n) ∧
    s.dev.b (rxPage sd n) fLrxEn = true ∧ s.dev.b (rxPage sd n) fLrxSigDet = true ∧ s.dev.lg (rxPage sd n) fLoopback ≠ 2 :=
  ⟨wst [(0x22, 0x40, 0x1), (0x22, 0x44, 0xc), (0x32, 0x40, 0x1), (0x32, 0x44, 0xc)] [], Side.host, 2, true, by decide +kernel⟩
theorem witness_TimingRecoveryFollowsTheLoop_5 : ∃ (s : State) (n : Lane), s.calm ∧ s.dev.runs (pLrx n) ∧ s.dev.laneValid n = true ∧
    s.dev.b (pLrx n) fLrxCdrLock = false :=
  ⟨wst [(0x26, 0x40, 0x1), (0x26, 0x44, 0xc), (0x36, 0x40, 0x1), (0x36, 0x44, 0xc)] [], 6, by decide +kernel⟩
theorem witness_TimingRecoveryFollowsTheLoop_6 : ∃ (s : State) (n : Lane), s.calm ∧ s.dev.runs (pHrx n) ∧ s.dev.hostValid n = true ∧
    s.dev.b (pHrx n) fHrxCdrLock = false :=
  ⟨wst [(0x26, 0x40, 0x1), (0x26, 0x44, 0xc), (0x36, 0x40, 0x1), (0x36, 0x44, 0xc)] [], 6, by decide +kernel⟩
theorem witness_LineTrainingSteps_0 : ∃ (s : State) (n : Lane) (gain peak snr : Nat), s.calm ∧ s.dev.runs (pLrx n) ∧
    s.dev.laneState n = stTrain ∧ s.dev.g (pPacer n) fPhase = 2 :=
  ⟨wst [(0x26, 0x44, 0x2), (0x66, 0x64, 0x2)] [], 6, 19, 8, 98, by decide +kernel⟩
theorem witness_LineTrainingSteps_1 : ∃ (s : State) (n : Lane) (gain peak snr : Nat), s.calm ∧ s.dev.runs (pHrx n) ∧
    s.dev.hostState n = stTrain ∧ s.dev.g (pHrx n) fHostPhase = 2 ∧ s.dev.hostSquadHere n = true :=
  ⟨wst [(0x36, 0x44, 0x2), (0x36, 0x68, 0x2)] [], 6, 19, 8, 98, by decide +kernel⟩
theorem witness_LineTrainingSteps_2 : ∃ (s : State) (n : Lane) (snr : Nat) (x : Search), s.calm ∧ s.dev.runs (pPacer n) ∧
    s.dev.laneState n = stTrain ∧ s.dev.g (pPacer n) fPhase = 5 ∧ s.dev.enginesHere n = true ∧ (s.dev.pc n).search = some x :=
  ⟨wst [(0x23, 0x44, 0x2), (0x23, 0x4c, 0x11805), (0x63, 0x64,
      0x5)] [] (fun d => { d with pacer := (d.pacer.set 3 { d.pacer.get 3 with search := some { start := 21, startSnr := 255, best := 3, bestSnr := 2248, last := 460, climb := Climb.up } }) }), 3, 2463, { start := 21, startSnr := 255, best := 3, bestSnr := 2248, last := 460, climb := Climb.up }, by decide +kernel⟩
theorem witness_LineTrainingSteps_3 : ∃ (s : State) (n : Lane), s.calm ∧ s.dev.runs (pLrx n) ∧ s.dev.laneState n = stTrain ∧
    s.dev.powered (pPacer n) = true :=
  ⟨wst [(0x26, 0x44, 0x2)] [], 6, by decide +kernel⟩
theorem witness_LineTrainingSteps_4 : ∃ (s : State) (n : Lane), s.calm ∧ s.dev.runs (pLrx n) ∧ s.dev.laneState n = stFault :=
  ⟨wst [(0x26, 0x44, 0x5)] [], 6, by decide +kernel⟩
theorem witness_LineTrainingSteps_5 : ∃ (s : State) (n : Lane) (count : Nat), s.calm ∧ s.dev.runs (pLrx n) :=
  ⟨wst [] [], 3, 7, by decide +kernel⟩
theorem witness_ConverterCalibrationRuns_0 : ∃ (s : State) (w : Who) (n : Lane) (v : Word), s.calm ∧ s.dev.takes w (pLrx n) 0x060 :=
  ⟨wst [] [], { mid := 0, sub := 1, user := false }, 5, 0xffffffff#32, by decide +kernel⟩
theorem witness_ConverterCalibrationRuns_1 : ∃ (s : State) (n : Lane), s.calm ∧ s.dev.runs (pLrx n) ∧ (s.dev.lx n).run = none ∧
    s.dev.laneState n = stRun ∧ s.dev.b (pLrx n) fLrxCalPending = true :=
  ⟨wst [(0x26, 0x44, 0x43)] [], 6, by decide +kernel⟩
theorem witness_ConverterCalibrationRuns_2 : ∃ (s : State) (n : Lane), s.calm ∧ s.dev.runs (pLrx n) ∧ (s.dev.lx n).run = none ∧
    s.dev.laneState n = stTrain ∧ s.dev.g (pPacer n) fPhase = 3 :=
  ⟨wst [(0x26, 0x44, 0x2), (0x66, 0x64, 0x3)] [], 6, by decide +kernel⟩
theorem witness_ConverterCalibrationRuns_3 : ∃ (s : State) (n : Lane) (targets : List Word) (r : CalRun), s.calm ∧ s.dev.runs (pLrx n) ∧
    (s.dev.lx n).run = some r ∧ r.computed = false :=
  ⟨wst [] [] (fun d => { d with lrx := (d.lrx.set 0 { d.lrx.get 0 with run := some { forced := true, computed := false, mode := 2, en := 5, limit := 0x7#32 } }) }), 0, (List.replicate 18 0x3#32), { forced := true, computed := false, mode := 2, en := 5, limit := 0x7#32 }, by decide +kernel⟩
theorem witness_ConverterCalibrationRuns_4 : ∃ (s : State) (n : Lane) (r : CalRun), s.calm ∧ s.dev.runs (pLrx n) ∧
    (s.dev.lx n).run = some r ∧ r.computed = true ∧ r.forced = false ∧ (s.dev.pc n).fade = none :=
  ⟨wst [] [] (fun d => { d with lrx := (d.lrx.set 6 { d.lrx.get 6 with run := some { forced := false, computed := true, mode := 1, en := 3, limit := 0x5#32 } }) }), 6, { forced := false, computed := true, mode := 1, en := 3, limit := 0x5#32 }, by decide +kernel⟩
theorem witness_PatternCheckersCount_0 : ∃ (s : State) (sd : Side) (n : Lane), s.calm ∧ s.dev.runs (rxPage sd n) ∧
    s.dev.g (rxPage sd n) fPrbsPattern ≠ 0 :=
  ⟨wst [(0x26, 0x80, 0x1)] [], Side.line, 6, by decide +kernel⟩
theorem witness_PatternCheckersCount_1 : ∃ (s : State) (sd : Side) (n : Lane), s.calm ∧ s.dev.runs (rxPage sd n) ∧
    s.dev.b (rxPage sd n) fPrbsLock = true :=
  ⟨wst [(0x26, 0x84, 0x1), (0x36, 0x84, 0x1)] [], Side.line, 6, by decide +kernel⟩
theorem witness_PatternCheckersCount_2 : ∃ (s : State) (sd : Side) (n : Lane) (bits errBits errSyms : Nat), s.calm ∧
    s.dev.runs (rxPage sd n) ∧ s.dev.b (rxPage sd n) fPrbsLock = true :=
  ⟨wst [(0x21, 0x84, 0x1), (0x21, 0x8c, 0x3), (0x31, 0x84, 0x1)] [], Side.host, 1, 828338, 969, 108, by decide +kernel⟩
theorem witness_PatternCheckersCount_3 : ∃ (s : State) (sd : Side) (n : Lane) (bits errBits errSyms : Nat), s.calm ∧
    s.dev.runs (rxPage sd n) ∧ s.dev.b (rxPage sd n) fPrbsLock = true :=
  ⟨wst [(0x21, 0x84, 0x1), (0x21, 0x8c, 0x3), (0x31, 0x84, 0x1)] [], Side.host, 1, 828338, 969, 108, by decide +kernel⟩
theorem witness_PatternCheckersCount_4 : ∃ (s : State) (sd : Side) (w : Who) (n : Lane) (v : Word), s.calm ∧
    s.dev.takes w (rxPage sd n) 0x080 ∧ v.getLsbD 5 = false :=
  ⟨wst [] [], Side.line, { mid := 0, sub := 1, user := false }, 6, 0x41dc9157#32, by decide +kernel⟩
theorem witness_PatternCheckersCount_5 : ∃ (s : State) (sd : Side) (w : Who) (n : Lane) (v : Word), s.calm ∧
    s.dev.takes w (rxPage sd n) 0x080 ∧ v.getLsbD 4 = false :=
  ⟨wst [] [], Side.line, { mid := 0, sub := 2, user := false }, 2, 0x2#32, by decide +kernel⟩
theorem witness_PacerCycleAcceptsAndGates_0 : ∃ (s : State) (n : Lane) (b : Block) (e : EqSet), s.calm ∧ s.dev.runs (pPacer n) ∧
    s.dev.laneState n = stRun ∧ s.dev.b (pPacer n) fPcAuto = true ∧ s.dev.b (pPacer n) fHoldGate = false ∧ s.dev.gatePasses n b = true ∧
    s.dev.blockSkipped n b = false ∧ (s.dev.pc n).cand = some e ∧ e.ffe.length = 64 ∧ e.volt.length = 15 ∧ e.mlse.length = 64 ∧
    (s.dev.pc n).fade = none ∧ (s.dev.pc n).req = false ∧ b.snrRef + s.dev.g (pPacer n) fMargin ≤ b.snrCand :=
  ⟨wst [(0x21, 0x44, 0x3), (0x61, 0x50,
      0x221e2814)] [] (fun d => { d with pacer := (d.pacer.set 1 { d.pacer.get 1 with cand := some { ffe := (List.replicate 64 0x3#32), volt := (List.replicate 15 0x5#32), mlse := (List.replicate 64 0x7#32) } }) }), 1, { occ0 := 1033, occ1 := 939, occ2 := 930, occ3 := 910, trans := 2057, calStep := false, late := false, left := false, snrCand := 713, snrRef := 39, blindDone := true, ms := 3936 }, { ffe := (List.replicate 64 0x3#32), volt := (List.replicate 15 0x5#32), mlse := (List.replicate 64 0x7#32) }, by decide +kernel⟩
theorem witness_PacerCycleAcceptsAndGates_1 : ∃ (s : State) (n : Lane) (b : Block), s.calm ∧ s.dev.runs (pPacer n) ∧
    s.dev.laneValid n = true ∧ s.dev.gatePasses n b = false ∧ (s.dev.pc n).failRun + 1 < s.dev.g (pPacer n) fFailN :=
  ⟨wst [(0x26, 0x44, 0x4), (0x66, 0x50, 0x4f322012)] [], 6,
      { occ0 := 0, occ1 := 959, occ2 := 979, occ3 := 1046, trans := 2343, calStep := true, late := false, left := false, snrCand := 575, snrRef := 569, blindDone := false, ms := 6281 }, by decide +kernel⟩
theorem witness_PacerCycleAcceptsAndGates_2 : ∃ (s : State) (n : Lane) (b : Block), s.calm ∧ s.dev.runs (pPacer n) ∧
    s.dev.laneState n = stTrain ∧ s.dev.g (pPacer n) fPhase = 6 ∧ s.dev.g (pPacer n) fHoldSrc = 0 ∧ s.dev.b (pPacer n) fPcAuto = true ∧
    s.dev.gatePasses n b = true ∧ s.dev.blockSkipped n b = false ∧ s.dev.b (pLrx n) fLrxCdrLock = true ∧
    s.dev.g (pPacer n) fSnrMin ≤ b.snrCand ∧ s.dev.g (pPacer n) fPaceLive = s.dev.g (pPacer n) fPaceTarget :=
  ⟨wst [(0x26, 0x44, 0x12), (0x66, 0x50, 0x221e2814), (0x66, 0x64, 0x6)] [], 6,
      { occ0 := 929, occ1 := 917, occ2 := 960, occ3 := 1059, trans := 2086, calStep := false, late := false, left := false, snrCand := 3697, snrRef := 16, blindDone := true, ms := 64032 }, by decide +kernel⟩
theorem witness_HandoffMovesTheBanks_0 : ∃ (s : State) (n : Lane), s.calm ∧ s.dev.runs (pPacer n) ∧ s.dev.laneValid n = true ∧
    (s.dev.pc n).fade = none ∧ (s.dev.pc n).req = true :=
  ⟨wst [(0x26, 0x44, 0x4)] [] (fun d => { d with pacer := (d.pacer.set 6 { d.pacer.get 6 with req := true }) }), 6, by decide +kernel⟩
theorem witness_HandoffMovesTheBanks_1 : ∃ (s : State) (n : Lane) (l : Nat), s.calm ∧ s.dev.runs (pPacer n) ∧ s.dev.laneValid n = true ∧
    (s.dev.pc n).fade = none ∧ (s.dev.pc n).req = false ∧ (s.dev.pc n).pace = some ⟨.waiting true, l⟩ :=
  ⟨wst [(0x26, 0x44, 0x4)] [] (fun d => { d with pacer := (d.pacer.set 6 { d.pacer.get 6 with pace := some { step := PaceStep.waiting true, level := 0 } }) }), 6, 0, by decide +kernel⟩
theorem witness_HandoffMovesTheBanks_2 : ∃ (s : State) (n : Lane), s.calm ∧ s.dev.runs (pPacer n) ∧ (s.dev.pc n).fade.isSome = true ∧
    s.dev.g (pPacer n) fHandoffStep < 16 :=
  ⟨wst [(0x66, 0x44, 0x400)] [] (fun d => { d with pacer := (d.pacer.set 6 { d.pacer.get 6 with fade := some (Fade.pace) }) }), 6,
      by decide +kernel⟩
theorem witness_HandoffMovesTheBanks_3 : ∃ (s : State) (n : Lane), s.calm ∧ s.dev.runs (pPacer n) ∧ (s.dev.pc n).fade = some .swap ∧
    s.dev.g (pPacer n) fHandoffStep = 16 ∧ (s.dev.pc n).pend = none :=
  ⟨wst [(0x66, 0x44, 0x1000)] [] (fun d => { d with pacer := (d.pacer.set 6 { d.pacer.get 6 with fade := some (Fade.swap) }) }), 6,
      by decide +kernel⟩
theorem witness_HandoffMovesTheBanks_4 : ∃ (s : State) (n : Lane) (e : EqSet), s.calm ∧ s.dev.runs (pPacer n) ∧
    (s.dev.pc n).fade = some .swap ∧ s.dev.g (pPacer n) fHandoffStep = 16 ∧ (s.dev.pc n).pend = some (.candidate e) ∧
    (s.dev.pc n).req = false ∧ (s.dev.pc n).pace = none ∧ e.ffe.length = 64 ∧ e.volt.length = 15 ∧ e.mlse.length = 64 :=
  ⟨wst [(0x66, 0x44, 0x1000)] [] (fun d => { d with pacer := (d.pacer.set 6 { d.pacer.get 6 with pend := some (Swap.candidate { ffe := (List.replicate 64 0x3#32), volt := (List.replicate 15 0x5#32), mlse := (List.replicate 64 0x7#32) }), fade := some (Fade.swap) }) }), 6, { ffe := (List.replicate 64 0x3#32), volt := (List.replicate 15 0x5#32), mlse := (List.replicate 64 0x7#32) }, by decide +kernel⟩
theorem witness_PacerControlAndPaceChanges_0 : ∃ (s : State) (w : Who) (n : Lane) (v : Word), s.calm ∧ s.dev.takes w (pPacer n) 0x040 ∧
    v.getLsbD 0 = s.dev.b (pPacer n) fPcAuto ∧ v.getLsbD 2 = false ∧ v.getLsbD 3 = false :=
  ⟨wst [] [], { mid := 0, sub := 1, user := false }, 5, 0xfffffff3#32, by decide +kernel⟩
theorem witness_PacerControlAndPaceChanges_1 : ∃ (s : State) (w : Who) (n : Lane) (v : Word), s.calm ∧ s.dev.takes w (pPacer n) 0x040 ∧
    v.getLsbD 1 = s.dev.b (pPacer n) fHoldHost ∧ v.getLsbD 2 = false ∧ v.getLsbD 3 = false :=
  ⟨wst [(0x20, 0x44, 0x5)] [], { mid := 2, sub := 1, user := false }, 0, 0x9251c850#32, by decide +kernel⟩
theorem witness_PacerControlAndPaceChanges_2 : ∃ (s : State) (w : Who) (n : Lane) (v : Word), s.calm ∧ s.dev.takes w (pPacer n) 0x040 ∧
    v.getLsbD 1 = s.dev.b (pPacer n) fHoldHost ∧ v.getLsbD 0 = false ∧ s.dev.b (pPacer n) fPcAuto = false ∧ s.dev.laneValid n = true :=
  ⟨wst [(0x20, 0x44, 0x3), (0x60, 0x40, 0x0)] [], { mid := 2, sub := 1, user := false }, 0, 0x9251c858#32, by decide +kernel⟩
theorem witness_PacerControlAndPaceChanges_3 : ∃ (s : State) (w : Who) (n : Lane) (v : Word), s.calm ∧ s.dev.takes w (pPacer n) 0x040 ∧
    v.getLsbD 1 = s.dev.b (pPacer n) fHoldHost ∧ v.getLsbD 0 = true ∧ s.dev.b (pPacer n) fPcAuto = true :=
  ⟨wst [(0x20, 0x44, 0x5)] [], { mid := 2, sub := 1, user := false }, 0, 0x9251c859#32, by decide +kernel⟩
theorem witness_PacerControlAndPaceChanges_4 : ∃ (s : State) (w : Who) (n : Lane) (v : Word), s.calm ∧ s.dev.takes w (pPacer n) 0x058 ∧
    s.dev.laneState n ∉ [stTrain, stRun, stHold] :=
  ⟨wst [] [], { mid := 2, sub := 0, user := false }, 2, 0xffffffff#32, by decide +kernel⟩
theorem witness_PacerControlAndPaceChanges_5 : ∃ (s : State) (w : Who) (n : Lane) (v : Word), s.calm ∧ s.dev.takes w (pPacer n) 0x058 ∧
    s.dev.laneValid n = true ∧ (s.dev.pc n).pace = none :=
  ⟨wst [(0x26, 0x44, 0x4)] [], { mid := 0, sub := 1, user := false }, 6, 0x41dc9157#32, by decide +kernel⟩
theorem witness_PacerControlAndPaceChanges_6 : ∃ (s : State) (n : Lane) (l : Nat), s.calm ∧ s.dev.runs (pPacer n) ∧
    (s.dev.pc n).pace = some ⟨.waiting false, l⟩ :=
  ⟨wst [] [] (fun d => { d with pacer := (d.pacer.set 6 { d.pacer.get 6 with pace := some { step := PaceStep.waiting false, level := 3 } }) }), 6, 3, by decide +kernel⟩
theorem witness_PacerControlAndPaceChanges_7 : ∃ (s : State) (n : Lane) (l : Nat), s.calm ∧ s.dev.runs (pPacer n) ∧
    (s.dev.pc n).pace = some ⟨.boundary, l⟩ ∧ s.dev.g (pPacer n) fPaceTarget = l ∧ (s.dev.pc n).pend = none :=
  ⟨wst [] [] (fun d => { d with pacer := (d.pacer.set 2 { d.pacer.get 2 with pace := some { step := PaceStep.boundary, level := 7 } }) }),
      2, 7, by decide +kernel⟩
theorem witness_TransmitterStartAndSquelch_0 : ∃ (s : State) (w : Who) (n : Lane) (v : Word), s.calm ∧ s.dev.takes w (pLtx n) 0x040 :=
  ⟨wst [] [], { mid := 0, sub := 1, user := false }, 6, 0x41dc9157#32, by decide +kernel⟩
theorem witness_TransmitterStartAndSquelch_1 : ∃ (s : State) (w : Who) (n : Lane) (v : Word), s.calm ∧ s.dev.takes w (pLtx n) 0x040 ∧
    s.dev.txState n ≠ txOff ∧ (s.dev.tx n).pend = none ∧ (s.dev.tx n).copy = none :=
  ⟨wst [(0x2e, 0x44, 0x2)] [], { mid := 0, sub := 1, user := false }, 6, 0x41dc9157#32, by decide +kernel⟩
theorem witness_TransmitterStartAndSquelch_2 : ∃ (s : State) (w : Who) (n : Lane) (v : Word) (ws : List Word), s.calm ∧
    s.dev.takes w (pLtx n) 0x040 ∧ s.dev.txState n ≠ txOff ∧ (s.dev.tx n).pend = some ws :=
  ⟨wst [(0x2e, 0x44, 0x2)] [] (fun d => { d with ltx := (d.ltx.set 6 { d.ltx.get 6 with pend := some (List.replicate 78 0x1#32) }) }),
      { mid := 0, sub := 1, user := false }, 6, 0x41dc9157#32, (List.replicate 78 0x1#32), by decide +kernel⟩
theorem witness_TransmitterStartAndSquelch_3 : ∃ (s : State) (n : Lane), s.calm ∧ s.dev.runs (pLtx n) ∧ s.dev.txState n = txStart ∧
    (s.dev.tx n).powered = false :=
  ⟨wst [(0x2e, 0x44, 0x1)] [], 6, by decide +kernel⟩
theorem witness_TransmitterStartAndSquelch_4 : ∃ (s : State) (n : Lane), s.calm ∧ s.dev.runs (pLtx n) ∧ (s.dev.tx n).ramping = true ∧
    (s.dev.tx n).ramp < 16 :=
  ⟨wst [] [] (fun d => { d with ltx := (d.ltx.set 6 { d.ltx.get 6 with ramping := true, ramp := 4 }) }), 6, by decide +kernel⟩
theorem witness_TransmitterStartAndSquelch_5 : ∃ (s : State) (n : Lane), s.calm ∧ s.dev.runs (pHtx n) ∧ (s.dev.hx n).ramping = true ∧
    (s.dev.hx n).ramp < 16 :=
  ⟨wst [] [] (fun d => { d with htx := (d.htx.set 6 { d.htx.get 6 with ramping := true, ramp := 4 }) }), 6, by decide +kernel⟩
theorem witness_TransmitterStartAndSquelch_6 : ∃ (s : State) (n : Lane), s.calm ∧ s.dev.runs (pLtx n) ∧ (s.dev.tx n).ramping = true ∧
    (s.dev.tx n).ramp = 16 :=
  ⟨wst [] [] (fun d => { d with ltx := (d.ltx.set 6 { d.ltx.get 6 with ramping := true, ramp := 16 }) }), 6, by decide +kernel⟩
theorem witness_TransmitterStartAndSquelch_7 : ∃ (s : State) (n : Lane), s.calm ∧ s.dev.runs (pHtx n) ∧ (s.dev.hx n).ramping = true ∧
    (s.dev.hx n).ramp = 16 :=
  ⟨wst [(0x3e, 0x44, 0x3)] [] (fun d => { d with htx := (d.htx.set 6 { d.htx.get 6 with ramping := true, ramp := 16 }) }), 6,
      by decide +kernel⟩
theorem witness_TransmitterStartAndSquelch_8 : ∃ (s : State) (w : Who) (n : Lane) (v : Word), s.calm ∧ s.dev.takes w (pLtx n) 0x050 :=
  ⟨wst [(0x2e, 0x44, 0x2)] [], { mid := 0, sub := 1, user := false }, 6, 0x41dc9157#32, by decide +kernel⟩
theorem witness_TransmitterStartAndSquelch_9 : ∃ (s : State) (w : Who) (n : Lane) (v : Word), s.calm ∧ s.dev.takes w (pHtx n) 0x050 :=
  ⟨wst [(0x3e, 0x44, 0x3)] [], { mid := 0, sub := 1, user := false }, 6, 0x41dc9157#32, by decide +kernel⟩
theorem witness_TransmitterStartAndSquelch_10 : ∃ (s : State) (w : Who) (n : Lane) (v : Word), s.calm ∧ s.dev.takes w (pLtx n) 0x050 :=
  ⟨wst [] [], { mid := 0, sub := 1, user := false }, 6, 0x41dc9157#32, by decide +kernel⟩
theorem witness_TransmitterStartAndSquelch_11 : ∃ (s : State) (n : Lane), s.calm ∧ s.dev.runs (pLtx n) ∧ (s.dev.tx n).powered = true ∧
    s.dev.b (pLtx n) (fSq sqOutFault) = false :=
  ⟨wst [] [] (fun d => { d with ltx := (d.ltx.set 6 { d.ltx.get 6 with powered := true }) }), 6, by decide +kernel⟩
theorem witness_TransmitterStartAndSquelch_12 : ∃ (s : State) (n : Lane), s.calm ∧ s.dev.runs (pHtx n) ∧ (s.dev.hx n).powered = true ∧
    s.dev.b (pHtx n) (fHtxSq 3) = false :=
  ⟨wst [] [] (fun d => { d with htx := (d.htx.set 6 { d.htx.get 6 with powered := true }) }), 6, by decide +kernel⟩
theorem witness_TransmitterSetsAndSlews_0 : ∃ (s : State) (n : Lane) (ws : List Word), s.calm ∧ s.dev.runs (pLtx n) ∧
    (s.dev.tx n).copy = some ws ∧ (s.dev.txState n = txStart ∨ s.dev.txState n = txRun) :=
  ⟨wst [(0x2e, 0x44, 0x1)] [] (fun d => { d with ltx := (d.ltx.set 6 { d.ltx.get 6 with copy := some (List.replicate 78 0x1#32) }) }), 6,
      (List.replicate 78 0x1#32), by decide +kernel⟩
theorem witness_TransmitterSetsAndSlews_1 : ∃ (s : State) (n : Lane), s.calm ∧ s.dev.runs (pLtx n) ∧ (s.dev.tx n).req = true ∧
    s.dev.b (pLtx n) fLtxFade = false :=
  ⟨wst [] [] (fun d => { d with ltx := (d.ltx.set 6 { d.ltx.get 6 with req := true }) }), 6, by decide +kernel⟩
theorem witness_TransmitterSetsAndSlews_2 : ∃ (s : State) (n : Lane), s.calm ∧ s.dev.runs (pLtx n) ∧ s.dev.b (pLtx n) fLtxFade = true ∧
    s.dev.g (pLtx n) fFadeStep < 16 :=
  ⟨wst [(0x2e, 0x44, 0x40080)] [], 6, by decide +kernel⟩
theorem witness_TransmitterSetsAndSlews_3 : ∃ (s : State) (n : Lane), s.calm ∧ s.dev.runs (pLtx n) ∧ s.dev.b (pLtx n) fLtxFade = true ∧
    s.dev.g (pLtx n) fFadeStep = 16 :=
  ⟨wst [(0x2e, 0x44, 0x100080)] [], 6, by decide +kernel⟩
theorem witness_TransmitterSetsAndSlews_4 : ∃ (s : State) (n : Lane), s.calm ∧ s.dev.runs (pLtx n) ∧ s.dev.txState n ≠ txOff ∧
    s.dev.g (pLtx n) fSkewLiveFine ≠ s.dev.g (pLtx n) fSkewFine :=
  ⟨wst [(0x2a, 0x44, 0x1), (0x2a, 0x5c, 0x3)] [], 2, by decide +kernel⟩
theorem witness_TransmitterSetsAndSlews_5 : ∃ (s : State) (n : Lane), s.calm ∧ s.dev.runs (pLtx n) ∧ s.dev.txState n ≠ txOff ∧
    (s.dev.tx n).wait ≠ .swing :=
  ⟨wst [(0x28, 0x44, 0x1)] [], 0, by decide +kernel⟩
theorem witness_TransmitterSetsAndSlews_6 : ∃ (s : State) (n : Lane) (ss : List TxSamples), s.calm ∧ s.dev.runs (pLtx n) ∧
    s.dev.txState n ≠ txOff :=
  ⟨wst [(0x2d, 0x44, 0x1), (0x2d, 0x800, 0xc8), (0x2d, 0x804, 0x258), (0x2d, 0x808, 0xc8), (0x2d, 0x80c, 0xffffff38), (0x2d, 0x810,
      0x64)] [], 5, [{ num := 4947, levels := [1, 2, 0, 1, 3, 0, 3, 3, 3], sub := 0 },
      { num := 15145, levels := [0, 0, 0, 2, 0, 3, 1, 3, 2], sub := 1 }, { num := 2575, levels := [2, 3, 1, 3, 1, 1, 3, 1, 1], sub := 0 },
      { num := 3400, levels := [3, 2, 1, 2, 3, 1, 2, 2, 0], sub := 0 }], by decide +kernel⟩
theorem witness_TransmitterSetsAndSlews_7 : ∃ (s : State) (w : Who) (n : Lane) (v : Word), s.calm ∧ s.dev.takes w (pLtx n) 0x084 :=
  ⟨wst [] [], { mid := 0, sub := 1, user := false }, 6, 0x41dc9157#32, by decide +kernel⟩
theorem witness_TransmitterSetsAndSlews_8 : ∃ (s : State) (w : Who) (n : Lane) (v : Word), s.calm ∧ s.dev.takes w (pHtx n) 0x064 :=
  ⟨wst [] [], { mid := 0, sub := 1, user := false }, 6, 0x41dc9157#32, by decide +kernel⟩
theorem witness_LevelPlacementCalibration_0 : ∃ (s : State) (w : Who) (n : Lane) (v : Word), s.calm ∧ s.dev.takes w (pLtx n) 0x060 :=
  ⟨wst [] [], { mid := 0, sub := 1, user := false }, 6, 0x41dc9157#32, by decide +kernel⟩
theorem witness_LevelPlacementCalibration_1 : ∃ (s : State) (n : Lane), s.calm ∧ s.dev.runs (pLtx n) ∧ (s.dev.tx n).run = none ∧
    (s.dev.tx n).wait = .none ∧ s.dev.txState n = txRun ∧ s.dev.b (pLtx n) fLtxCalPending = true :=
  ⟨wst [(0x2e, 0x44, 0x402)] [], 6, by decide +kernel⟩
theorem witness_LevelPlacementCalibration_2 : ∃ (s : State) (n : Lane), s.calm ∧ s.dev.runs (pLtx n) ∧ (s.dev.tx n).run = none ∧
    (s.dev.tx n).wait = .retry ∧ s.dev.txState n = txRun ∧ s.dev.b (pLtx n) fLtxCalPending = true :=
  ⟨wst [(0x2e, 0x44, 0x402)] [] (fun d => { d with ltx := (d.ltx.set 6 { d.ltx.get 6 with wait := CalWait.retry }) }), 6, by decide +kernel⟩
theorem witness_LevelPlacementCalibration_3 : ∃ (s : State) (n : Lane) (counts : List Nat) (targets : List Word) (r : CalRun), s.calm ∧
    s.dev.runs (pLtx n) ∧ (s.dev.tx n).run = some r ∧ r.computed = false ∧ (∀ k, k < 8 → 1024 ≤ counts.getD k 0) :=
  ⟨wst [] [] (fun d => { d with ltx := (d.ltx.set 6 { d.ltx.get 6 with run := some { forced := false, computed := false, mode := 1, en := 5, limit := 0x0#32 } }) }), 6, [1060, 1060, 1060, 1172, 1172, 1172, 1242, 1242], [0x3#32], { forced := false, computed := false, mode := 1, en := 5, limit := 0x0#32 }, by decide +kernel⟩
theorem witness_LevelPlacementCalibration_4 : ∃ (s : State) (n : Lane) (counts : List Nat) (targets : List Word) (r : CalRun), s.calm ∧
    s.dev.runs (pLtx n) ∧ (s.dev.tx n).run = some r ∧ r.computed = false ∧
    (List.range 8).any (fun k => decide (counts.getD k 0 < 1024)) = true :=
  ⟨wst [] [] (fun d => { d with ltx := (d.ltx.set 1 { d.ltx.get 1 with run := some { forced := false, computed := false, mode := 2, en := 7, limit := 0x0#32 } }) }), 1, [1036, 1010, 1000, 1176, 1033, 1222, 1066, 1080], [], { forced := false, computed := false, mode := 2, en := 7, limit := 0x0#32 }, by decide +kernel⟩
theorem witness_LevelPlacementCalibration_5 : ∃ (s : State) (n : Lane) (r : CalRun), s.calm ∧ s.dev.runs (pLtx n) ∧
    (s.dev.tx n).run = some r ∧ r.computed = true ∧ r.forced = false ∧ s.dev.b (pLtx n) fLtxFade = false :=
  ⟨wst [] [] (fun d => { d with ltx := (d.ltx.set 6 { d.ltx.get 6 with run := some { forced := false, computed := true, mode := 1, en := 3, limit := 0x5#32 } }) }), 6, { forced := false, computed := true, mode := 1, en := 3, limit := 0x5#32 }, by decide +kernel⟩
theorem witness_InnerCodeAndLocks_0 : ∃ (s : State) (n : Lane) (bits : BitVec 120), s.calm ∧ s.dev.runs pFecLtx ∧
    s.dev.segmented n = false :=
  ⟨wst [(0x23, 0x44, 0x3)] [], 3, 0x11dde38699832ea279e68b8e2c40e3#120, by decide +kernel⟩
theorem witness_InnerCodeAndLocks_1 : ∃ (s : State) (n : Lane) (bits : BitVec 120), s.calm ∧ s.dev.runs pFecLtx ∧
    s.dev.segmented n = true ∧ (s.dev.cl n).pos < 4 :=
  ⟨wst [(0x35, 0x44, 0x2)] [(0x44, 0x40, 0xff0000)], 5, 0x1318313fd68a937490274ad1b24413#120, by decide +kernel⟩
theorem witness_InnerCodeAndLocks_2 : ∃ (s : State) (n : Lane) (bits : BitVec 120), s.calm ∧ s.dev.runs pFecLtx ∧
    s.dev.segmented n = true ∧ 4 ≤ (s.dev.cl n).pos ∧ (s.dev.cl n).pos < 1092 ∧
    (s.dev.cg (s.dev.groupBase n)).blk = some (((s.dev.cl n).pos - 4) / 136) :=
  ⟨wst [(0x23, 0x44, 0x3)] [(0x44, 0x40,
      0xff0000)] (fun d => { d with code := { d.code with lanes := (d.code.lanes.set 3 { d.code.lanes.get 3 with pos := 51 }), groups := (d.code.groups.set 3 { d.code.groups.get 3 with blk := some 0 }) } }), 3, 0x11dde38699832ea279e68b8e2c40e3#120, by decide +kernel⟩
theorem witness_InnerCodeAndLocks_3 : ∃ (s : State) (n : Lane) (soft : List (BitVec 4)) (r : Chase), s.calm ∧ s.dev.runs pFecLrx ∧
    s.dev.segmented n = true ∧ s.dev.cwLocked n = true ∧ r = chase (hardBits soft) (reliabilities soft) (2 + s.dev.lg pFecLrx (fTp n)) :=
  ⟨wst [(0x23, 0x44, 0x3), (0x41, 0xac, 0x1)] [(0x44, 0x40, 0xff0000)], 3, [0xf#4, 0xe#4, 0x5#4, 0x3#4, 0x4#4, 0xd#4, 0xf#4, 0xf#4, 0x0#4,
      0x0#4, 0x4#4, 0x1#4, 0x2#4, 0x3#4, 0xb#4, 0x4#4, 0x5#4, 0x1#4, 0x9#4, 0xe#4, 0x7#4, 0x8#4, 0x2#4, 0x1#4, 0x6#4, 0xa#4, 0xf#4, 0x9#4,
      0x0#4, 0x6#4, 0x6#4, 0xc#4, 0xd#4, 0xd#4, 0x4#4, 0x9#4, 0x7#4, 0x3#4, 0x4#4, 0xd#4, 0x4#4, 0xf#4, 0x8#4, 0x0#4, 0x3#4, 0xc#4, 0xb#4,
      0xf#4, 0xe#4, 0x7#4, 0x6#4, 0xb#4, 0x8#4, 0xc#4, 0xf#4, 0xb#4, 0x5#4, 0xc#4, 0x5#4, 0x7#4, 0x3#4, 0x9#4, 0x4#4, 0xd#4, 0x6#4, 0xa#4,
      0xb#4, 0xe#4, 0x6#4, 0xd#4, 0x4#4, 0x2#4, 0xf#4, 0xb#4, 0x1#4, 0x3#4, 0x5#4, 0x7#4, 0x6#4, 0x8#4, 0xf#4, 0x4#4, 0x2#4, 0xe#4, 0xe#4,
      0x7#4, 0x7#4, 0xb#4, 0x1#4, 0x3#4, 0xf#4, 0x7#4, 0x3#4, 0x7#4, 0x6#4, 0x8#4, 0x8#4, 0xe#4, 0x1#4, 0x5#4, 0x1#4, 0x8#4, 0xc#4, 0x9#4,
      0x8#4, 0x4#4, 0xe#4, 0xe#4, 0xa#4, 0x5#4, 0xe#4, 0x9#4, 0xb#4, 0x1#4, 0x3#4, 0x6#4, 0xe#4, 0x7#4, 0x0#4, 0x4#4, 0x0#4, 0x7#4, 0x9#4,
      0xb#4, 0x5#4, 0xd#4, 0x5#4, 0x2#4], { word := 58578801299484313561208528285492593123, found := true, margin := 0 }, by decide +kernel⟩
theorem witness_InnerCodeAndLocks_4 : ∃ (s : State) (n : Lane) (offset : Nat), s.calm ∧ s.dev.runs pFecLrx ∧ s.dev.laneValid n = true ∧
    s.dev.cwLocked n = false :=
  ⟨wst [(0x23, 0x44, 0x4)] [], 3, 58, by decide +kernel⟩
theorem witness_InnerCodeAndLocks_5 : ∃ (s : State) (n : Lane), s.calm ∧ s.dev.runs pFecLrx ∧ s.dev.cwLocked n = true :=
  ⟨wst [(0x23, 0x44, 0x3), (0x41, 0xac, 0x1)] [], 3, by decide +kernel⟩
theorem witness_InnerCodeAndLocks_6 : ∃ (s : State) (n : Lane) (fails : Nat), s.calm ∧ s.dev.runs pFecLrx :=
  ⟨wst [(0x23, 0x44, 0x3)] [], 3, 8192, by decide +kernel⟩
theorem witness_InnerCodeAndLocks_7 : ∃ (s : State) (n : Lane), s.calm ∧ s.dev.runs pFecHrx ∧ s.dev.hostValid n = true ∧
    s.dev.b pFecHrx (fAmLock n) = false :=
  ⟨wst [(0x31, 0x44, 0x3)] [], 1, by decide +kernel⟩
theorem witness_InnerCodeAndLocks_8 : ∃ (s : State) (n : Lane), s.calm ∧ s.dev.runs pFecHrx ∧ s.dev.b pFecHrx (fAmLock n) = true :=
  ⟨wst [(0x23, 0x44, 0x3), (0x42, 0x44, 0x8)] [], 3, by decide +kernel⟩
theorem witness_InnerCodeAndLocks_9 : ∃ (s : State) (n : Lane) (data : BitVec 5440) (errs : Nat), s.calm ∧ s.dev.runs pFecHrx ∧
    s.dev.b pFecHrx (fAmLock n) = true ∧ s.dev.segmented n = true ∧ (s.dev.cl n).fifo.length < 16 ∧ errs ≤ 15 :=
  ⟨wst [(0x22, 0x44, 0x3), (0x42, 0x44, 0x4)] [(0x44, 0x40, 0xff5555)], 2, 0x8b68bae094641621#5440, 11, by decide +kernel⟩
theorem witness_InnerCodeAndLocks_10 : ∃ (s : State) (n : Lane) (data : BitVec 5440) (errs : Nat), s.calm ∧ s.dev.runs pFecHrx ∧
    s.dev.b pFecHrx (fAmLock n) = true ∧ s.dev.segmented n = true ∧ (s.dev.cl n).fifo.length < 16 ∧ 15 < errs :=
  ⟨wst [(0x22, 0x44, 0x3), (0x42, 0x44, 0x4)] [(0x44, 0x40, 0xff5555)], 2, 0x8b68bae094641621#5440, 27, by decide +kernel⟩
theorem witness_LapsCodewordsAndRates_0 : ∃ (s : State) (n : Lane) (lat : BitVec 24), s.calm ∧ s.dev.runs pFecLtx ∧
    s.dev.segmented n = true :=
  ⟨wst [(0x22, 0x44, 0x3), (0x42, 0x44, 0xff)] [(0x44, 0x40, 0xff5555)], 2, 0x641621#24, by decide +kernel⟩
theorem witness_LapsCodewordsAndRates_1 : ∃ (s : State) (n : Lane) (h : BitVec 480) (spaced : Bool) (arrival : Int) (latRx : BitVec 24),
    s.calm ∧ s.dev.runs pFramer ∧ s.dev.segmented n = true ∧ (s.dev.cl n).lapLock = false ∧ (s.dev.cl n).firstMatch = true ∧
    spaced = true ∧ s.dev.cwLocked n = true ∧ markerMatches h = true ∧ hdrCrcOk h = true :=
  ⟨wst [(0x23, 0x44, 0x3), (0x41, 0xac, 0x1)] [(0x44, 0x40,
      0xff0000)] (fun d => { d with code := { d.code with lanes := (d.code.lanes.set 3 { d.code.lanes.get 3 with firstMatch := true }) } }), 3, 0x9a5ce3b16d0f47274b4226785f9f3a8d8000006300000000000000000000000000000000000000000000000000000000000000000000000000001cb3#480, true, 77562921177303, 0x78f783#24, by decide +kernel⟩
theorem witness_LapsCodewordsAndRates_2 : ∃ (s : State) (n : Lane) (h : BitVec 480) (spaced : Bool) (arrival : Int) (latRx : BitVec 24),
    s.calm ∧ s.dev.runs pFramer ∧ s.dev.segmented n = true ∧ (s.dev.cl n).lapLock = false ∧ s.dev.cwLocked n = true ∧
    markerMatches h = true ∧ ((s.dev.cl n).firstMatch && spaced) = false :=
  ⟨wst [(0x23, 0x44, 0x3), (0x41, 0xac, 0x1)] [(0x44, 0x40, 0xff0000)], 3,
      0x9a5ce3b16d0f47274b4226785f9f3a8d8000006300000000000000000000000000000000000000000000000000000000000000000000000000001cb7#480, true,
      77562921177303, 0x78f783#24, by decide +kernel⟩
theorem witness_LapsCodewordsAndRates_3 : ∃ (s : State) (n : Lane) (h : BitVec 480) (spaced : Bool) (arrival : Int) (latRx : BitVec 24),
    s.calm ∧ s.dev.runs pFramer ∧ s.dev.segmented n = true ∧ (s.dev.cl n).lapLock = true ∧ s.dev.cwLocked n = true ∧
    markerMatches h = true ∧ spaced = true ∧ hdrCrcOk h = false :=
  ⟨wst [(0x23, 0x44, 0x3), (0x41, 0xac, 0x1)] [(0x44, 0x40,
      0xff0000)] (fun d => { d with code := { d.code with lanes := (d.code.lanes.set 3 { d.code.lanes.get 3 with lapLock := true }) } }),
      3, 0x9a5ce3b16d0f47274b4226785f9f3a8d8000006300000000000000000000000000000000000000000000000000000000000000000000000000001cb7#480,
      true, 77562921177303, 0x78f783#24, by decide +kernel⟩
theorem witness_LapsCodewordsAndRates_4 : ∃ (s : State) (n : Lane) (h : BitVec 480) (spaced : Bool) (arrival : Int) (latRx : BitVec 24),
    s.calm ∧ s.dev.runs pFramer ∧ s.dev.segmented n = true ∧ (s.dev.cl n).lapLock = true ∧ markerMatches h = false ∧ spaced = true ∧
    (s.dev.cl n).miss < 3 :=
  ⟨wst [(0x31, 0x44, 0x3)] [(0x44, 0x40,
      0xff0000)] (fun d => { d with code := { d.code with lanes := (d.code.lanes.set 1 { d.code.lanes.get 1 with lapLock := true }) } }),
      1, 0x5a5ce3b56c0f4727430c6d9d61afcdcb800000630000000000000000000000000000000000000000000000000000000000000000000000000000b46f#480,
      true, 14572368196777, 0x45b2a0#24, by decide +kernel⟩
theorem witness_LapsCodewordsAndRates_5 : ∃ (s : State) (n : Lane) (fs : List Flag) (errs : Nat), s.calm ∧ s.dev.runs pFecLrx ∧
    s.dev.segmented n = true ∧ s.dev.aligned n = true :=
  ⟨wst [(0x31, 0x44, 0x3), (0x44, 0xa4, 0x1)] [(0x44, 0x40, 0xff0000)], 1, [], 18, by decide +kernel⟩
theorem witness_LapsCodewordsAndRates_6 : ∃ (s : State) (n : Lane) (b : Blk) (taken new ins del : Nat), s.calm ∧ s.dev.runs pFecHtx ∧
    s.dev.segmented n = true ∧ s.dev.b pFecHtx (fLf n) = false ∧ taken ≤ (s.dev.cl n).buf ∧
    80 * s.dev.lg pFecHtx (fRateLo n) ≤ 80 * s.dev.lg pFecHtx (fRateHi n) ∧
    ins = (if (s.dev.cl n).buf - taken < 80 * s.dev.lg pFecHtx (fRateLo n) ∧ b ≠ .other then 1 else 0) ∧
    del = (if 80 * s.dev.lg pFecHtx (fRateHi n) < (s.dev.cl n).buf - taken ∧ b = .idle then 1 else 0) ∧
    new = (s.dev.cl n).buf - taken + 1 + ins - del :=
  ⟨wst [(0x35, 0x44, 0x2)] [(0x43, 0x54, 0x604), (0x44, 0x40,
      0xff0000)] (fun d => { d with code := { d.code with lanes := (d.code.lanes.set 5 { d.code.lanes.get 5 with buf := 37 }) } }), 5,
      Blk.term, 2, 37, 1, 0, by decide +kernel⟩
theorem witness_LapsCodewordsAndRates_7 : ∃ (s : State) (n : Lane) (b : Blk) (taken : Nat), s.calm ∧ s.dev.runs pFecHtx ∧
    s.dev.segmented n = true ∧ s.dev.b pFecHtx (fLf n) = false ∧ (s.dev.cl n).buf < taken :=
  ⟨wst [(0x35, 0x44, 0x2)] [(0x43, 0x54, 0x604), (0x44, 0x40,
      0xff0000)] (fun d => { d with code := { d.code with lanes := (d.code.lanes.set 5 { d.code.lanes.get 5 with buf := 37 }) } }), 5,
      Blk.term, 385, by decide +kernel⟩
theorem witness_LapsCodewordsAndRates_8 : ∃ (s : State) (n : Lane) (b : Blk) (taken : Nat), s.calm ∧ s.dev.runs pFecHtx ∧
    s.dev.segmented n = true ∧ s.dev.b pFecHtx (fLf n) = true :=
  ⟨wst [(0x22, 0x44, 0x3), (0x43, 0x60, 0x400)] [(0x44, 0x40, 0xff5555)], 2, Blk.idle, 71, by decide +kernel⟩
theorem witness_LapsCodewordsAndRates_9 : ∃ (s : State) (n : Lane) (new : Nat), s.calm ∧ s.dev.runs pFecLrx ∧ s.dev.segmented n = true ∧ s.dev.coachUp = true ∧ s.dev.b pFecLrx (fTuneEn n) = true ∧ s.dev.takes ⟨0, 0, false⟩ pFecLrx (0x060 + 4 * n.val) ∧ s.dev.commit = .idle ∧ (let dh := (s.dev.rd64 pFecLrx (cLrx n + 0x20) - (s.dev.cl n).tuneHit).toNat; let df := (s.dev.rd64 pFecLrx (cLrx n + 0x28) - (s.dev.cl n).tuneFalse).toNat; (0 < df ∧ dh ≤ df ∧ new + 1 = s.dev.g pFecLrx (fMarginThr n)) ∨ (0 < dh ∧ 4 * df ≤ dh ∧ new = s.dev.g pFecLrx (fMarginThr n) + 1 ∧ new ≤ 15)) :=
  ⟨wst [(0x23, 0x44, 0x3), (0x41, 0x8c, 0xa01), (0x41, 0x310, 0x3e8), (0x41, 0x318, 0x1f4)] [(0x44, 0x40,
      0xff0000)] (fun d => { d with code := { d.code with lanes := (d.code.lanes.set 3 { d.code.lanes.get 3 with tuneHit := 0x3de#64, tuneFalse := 0x1f2#64 }) }, coachUp := true }), 3, 4, by decide +kernel⟩
theorem witness_LapsCodewordsAndRates_10 : ∃ (s : State) (w : Who) (p : Fin 5) (v : Word) (off base k : Nat), s.calm ∧
    codingCnt (0x40 + p.val) = some (off, base, k) ∧ s.dev.takes w (0x40 + p.val) off :=
  ⟨wst [(0x23, 0x44, 0x3)] [], { mid := 4, sub := 1, user := false }, 3, 0x53e4ffcf#32, 100, 256, 64, by decide +kernel⟩
theorem witness_HostLanesStartAndAccept_0 : ∃ (s : State) (w : Who) (n : Lane) (v : Word), s.calm ∧ s.dev.takes w (pHrx n) 0x040 ∧
    s.dev.hostState n = stOff :=
  ⟨wst [] [], { mid := 0, sub := 1, user := false }, 6, 0x41dc9157#32, by decide +kernel⟩
theorem witness_HostLanesStartAndAccept_1 : ∃ (s : State) (w : Who) (n : Lane) (v : Word), s.calm ∧ s.dev.takes w (pHrx n) 0x040 ∧
    s.dev.hostState n ≠ stOff :=
  ⟨wst [(0x36, 0x44, 0x5)] [], { mid := 0, sub := 1, user := false }, 6, 0x41dc9157#32, by decide +kernel⟩
theorem witness_HostLanesStartAndAccept_2 : ∃ (s : State) (w : Who) (n : Lane) (v : Word), s.calm ∧ s.dev.takes w (pHrx n) 0x040 ∧
    s.dev.hostState n ≠ stOff :=
  ⟨wst [(0x36, 0x44, 0x5)] [], { mid := 0, sub := 1, user := false }, 6, 0x41dc9157#32, by decide +kernel⟩
theorem witness_HostLanesStartAndAccept_3 : ∃ (s : State) (w : Who) (n : Lane) (v : Word), s.calm ∧ s.dev.takes w (pHtx n) 0x040 ∧
    s.dev.htxState n = htOff ∧ s.dev.b (pHrx n) fHrxEn = false :=
  ⟨wst [] [], { mid := 0, sub := 1, user := false }, 6, 0x41dc9157#32, by decide +kernel⟩
theorem witness_HostLanesStartAndAccept_4 : ∃ (s : State) (w : Who) (n : Lane) (v : Word), s.calm ∧ s.dev.takes w (pHtx n) 0x040 ∧
    s.dev.htxState n = htOff ∧ s.dev.b (pHrx n) fHrxEn = true ∧ s.dev.hostState n = stOff :=
  ⟨wst [(0x36, 0x40, 0x1)] [], { mid := 0, sub := 1, user := false }, 6, 0x41dc9157#32, by decide +kernel⟩
theorem witness_HostLanesStartAndAccept_5 : ∃ (s : State) (w : Who) (n : Lane) (v : Word), s.calm ∧ s.dev.takes w (pHtx n) 0x040 ∧
    s.dev.htxState n ≠ htOff :=
  ⟨wst [(0x3b, 0x44, 0x3)] [], { mid := 4, sub := 1, user := false }, 3, 0x53e4ffcf#32, by decide +kernel⟩
theorem witness_HostLanesStartAndAccept_6 : ∃ (s : State) (n : Lane), s.calm ∧ s.dev.runs (pHtx n) ∧ s.dev.htxState n = htStart ∧
    (s.dev.hx n).powered = false :=
  ⟨wst [(0x3e, 0x44, 0x1)] [], 6, by decide +kernel⟩
theorem witness_HostLanesStartAndAccept_7 : ∃ (s : State) (n : Lane) (ms : Nat), s.calm ∧ s.dev.runs (pHrx n) ∧
    s.dev.hostState n = stTrain ∧ s.dev.g (pHrx n) fHostPhase = 5 ∧ s.dev.htxState n = htData ∧ (s.dev.hr n).announced = true :=
  ⟨wst [(0x36, 0x44, 0x2), (0x36, 0x68, 0x5), (0x3e, 0x44,
      0x3)] [] (fun d => { d with hrx := (d.hrx.set 6 { d.hrx.get 6 with announced := true }) }), 6, 4419, by decide +kernel⟩
theorem witness_HostLanesStartAndAccept_8 : ∃ (s : State) (n : Lane) (snr ms : Nat), s.calm ∧ s.dev.runs (pHrx n) ∧
    s.dev.hostState n = stTrain ∧ (s.dev.hr n).wu = false ∧ s.dev.b (pHrx n) fHrxCdrLock = true ∧ getBits (s.dev.hr n).cfg2 0 11 ≤ snr :=
  ⟨wst [(0x36, 0x44, 0x12)] [], 6, 7377, 1333, by decide +kernel⟩
theorem witness_HostLanesStartAndAccept_9 : ∃ (s : State) (n : Lane), s.calm ∧ s.dev.runs (pHrx n) ∧ (s.dev.hostState n = stSeek ∨
    s.dev.hostState n = stTrain) :=
  ⟨wst [(0x36, 0x44, 0x2)] [], 6, by decide +kernel⟩
theorem witness_HostLanesStartAndAccept_10 : ∃ (s : State) (n : Lane), s.calm ∧ s.dev.runs (pHrx n) ∧ s.dev.hostState n = stFault :=
  ⟨wst [(0x36, 0x44, 0x5)] [], 6, by decide +kernel⟩
theorem witness_WarmupTrainingAndUpkeep_0 : ∃ (s : State) (n : Lane) (syms : List (Fin 4)) (spaced : Bool), s.calm ∧ s.dev.runs (pHrx n) ∧
    ((s.dev.hr n).wu = false ∨ s.dev.hostState n ∉ [stTrain, stRun, stHold]) :=
  ⟨wst [] [], 5, [3, 3, 3, 3, 3, 3, 3, 3, 3, 3, 3, 3, 3, 3, 3, 3, 3, 3, 3, 3, 3, 3, 3, 3, 3, 3, 3, 3, 3, 3, 3, 3, 0, 0, 0, 0, 0, 0, 0, 0,
      0, 0, 0, 0, 0, 0, 0, 0, 0, 0, 0, 0, 0, 0, 0, 0, 0, 0, 0, 0, 0, 0, 0, 0, 1, 1, 1, 0, 0, 0, 1, 0, 2, 3, 3, 2, 2, 3, 3, 2, 2, 2, 2, 3,
      3, 3, 2, 2, 2, 3, 3, 2, 3, 3, 2, 2, 0, 0, 0, 0, 1, 0, 1, 0, 1, 0, 0, 1, 0, 0, 0, 0, 2, 3, 3, 3, 2, 3, 3, 2, 3, 2, 2, 3, 2, 2, 3, 3,
      1, 0, 1, 1, 1, 1, 0, 1, 3, 2, 2, 3, 2, 2, 3, 2, 0, 0, 1, 0, 1, 1, 0, 1, 3, 3, 2, 3, 2, 2, 2, 2, 2, 2, 3, 2, 2, 3, 3, 2, 0, 0, 1, 1,
      1, 1, 0, 0, 0, 0, 1, 1, 0, 0, 0, 1, 1, 1, 0, 0, 1, 0, 0, 0, 3, 3, 3, 2, 2, 2, 3, 2, 2, 3, 3, 3, 3, 2, 3, 2, 0, 0, 0, 0, 1, 1, 0, 1,
      2, 2, 2, 2, 3, 3, 3, 3, 1, 0, 0, 0, 0, 0, 1, 0, 2, 3, 2, 3, 3, 3, 3, 2, 2, 3, 3, 3, 3, 3, 2, 3, 1, 1, 0, 0, 0, 0, 0, 0, 1, 0, 0, 1,
      0, 1, 1, 0, 3, 2, 2, 3, 3, 2, 2, 2, 0, 0, 0, 0, 1, 0, 0, 1, 3, 3, 2, 2, 2, 3, 2, 3, 3, 3, 3, 2, 3, 2, 3, 2, 3, 2, 2, 3, 2, 3, 3, 3,
      1, 0, 1, 1, 1, 0, 1, 0, 3, 3, 3, 2, 3, 2, 3, 3, 2, 2, 3, 3, 2, 2, 2, 2, 1, 1, 1, 0, 0, 0, 1, 0, 1, 0, 0, 0, 1, 1, 0, 0, 3, 2, 3, 3,
      2, 3, 3, 3, 2, 2, 2, 2, 2, 2, 3, 3, 2, 2, 3, 3, 3, 2, 2, 2, 2, 2, 3, 2, 3, 2, 3, 3, 0, 1, 0, 0, 0, 1, 0, 0, 2, 2, 3, 3, 3, 3, 3, 2,
      2, 3, 3, 3, 3, 2, 2, 3, 1, 1, 1, 1, 0, 0, 0, 1, 2, 3, 2, 2, 3, 2, 2, 3, 2, 2, 3, 3, 3, 2, 3, 3, 3, 3, 2, 3, 3, 3, 2, 3, 2, 2, 2, 2,
      2, 3, 2, 3, 2, 3, 3, 3, 3, 2, 2, 3], true, by decide +kernel⟩
theorem witness_WarmupTrainingAndUpkeep_1 : ∃ (s : State) (n : Lane) (syms : List (Fin 4)) (spaced : Bool), s.calm ∧ s.dev.runs (pHrx n) ∧
    (s.dev.hr n).wu = true ∧ s.dev.hostState n = stTrain ∧ s.dev.b (pHrx n) fWuLock = true ∧ frameMarker syms = true ∧ spaced = true ∧
    (frameWords syms).2.2 = true :=
  ⟨wst [(0x36, 0x44, 0x22)] [] (fun d => { d with hrx := (d.hrx.set 6 { d.hrx.get 6 with wu := true }) }), 6, [3, 3, 3, 3, 3, 3, 3, 3, 3,
      3, 3, 3, 3, 3, 3, 3, 3, 3, 3, 3, 3, 3, 3, 3, 3, 3, 3, 3, 3, 3, 3, 3, 0, 0, 0, 0, 0, 0, 0, 0, 0, 0, 0, 0, 0, 0, 0, 0, 0, 0, 0, 0, 0,
      0, 0, 0, 0, 0, 0, 0, 0, 0, 0, 0, 1, 0, 0, 1, 1, 0, 1, 1, 0, 0, 0, 0, 1, 0, 1, 1, 1, 0, 1, 0, 1, 0, 1, 1, 3, 3, 2, 2, 2, 2, 2, 2, 0,
      0, 0, 0, 1, 0, 1, 1, 3, 2, 2, 2, 2, 3, 3, 3, 2, 3, 2, 3, 2, 3, 2, 2, 1, 1, 1, 1, 1, 0, 0, 1, 1, 0, 1, 0, 1, 1, 1, 0, 1, 1, 0, 1, 1,
      0, 0, 1, 3, 3, 2, 2, 3, 3, 2, 2, 2, 2, 3, 3, 2, 2, 3, 3, 0, 0, 1, 1, 1, 0, 1, 0, 0, 0, 1, 0, 0, 0, 0, 0, 1, 0, 1, 0, 0, 0, 1, 1, 0,
      1, 0, 0, 0, 0, 1, 0, 1, 0, 1, 1, 1, 0, 1, 1, 0, 1, 0, 1, 0, 0, 0, 0, 2, 2, 3, 2, 2, 3, 3, 2, 0, 1, 1, 0, 1, 0, 0, 0, 3, 2, 2, 2, 3,
      2, 3, 2, 0, 1, 0, 1, 0, 1, 0, 1, 0, 1, 1, 0, 1, 1, 0, 1, 1, 1, 0, 0, 0, 0, 0, 0, 0, 1, 0, 1, 1, 0, 1, 0, 1, 1, 0, 1, 1, 1, 1, 0, 1,
      0, 1, 0, 0, 0, 1, 1, 3, 3, 2, 3, 3, 2, 3, 3, 2, 2, 2, 3, 3, 3, 2, 2, 2, 2, 2, 3, 2, 3, 3, 2, 2, 3, 3, 2, 2, 3, 3, 3, 1, 1, 0, 0, 1,
      1, 1, 0, 1, 1, 1, 0, 0, 0, 1, 1, 0, 0, 0, 0, 0, 0, 1, 1, 0, 1, 0, 0, 0, 1, 1, 1, 0, 0, 1, 0, 1, 0, 1, 1, 1, 0, 1, 1, 0, 0, 0, 1, 1,
      1, 0, 0, 0, 0, 0, 1, 0, 1, 0, 0, 1, 1, 1, 0, 3, 2, 2, 2, 3, 3, 2, 2, 3, 2, 3, 2, 3, 3, 2, 3, 2, 3, 2, 3, 2, 3, 2, 3, 2, 2, 3, 2, 3,
      3, 3, 3, 0, 1, 1, 0, 1, 0, 1, 0, 2, 2, 3, 3, 2, 2, 2, 2, 1, 0, 1, 1, 0, 0, 1, 0, 2, 2, 3, 3, 3, 2, 3, 3, 3, 3, 2, 2, 3, 2, 3, 3],
      true, by decide +kernel⟩
theorem witness_WarmupTrainingAndUpkeep_2 : ∃ (s : State) (n : Lane) (syms : List (Fin 4)) (spaced : Bool), s.calm ∧ s.dev.runs (pHrx n) ∧
    (s.dev.hr n).wu = true ∧ s.dev.hostValid n = true ∧ s.dev.b (pHrx n) fWuLock = true ∧ frameMarker syms = true ∧ spaced = true ∧
    (frameWords syms).2.2 = true :=
  ⟨wst [(0x32, 0x44, 0x24)] [] (fun d => { d with hrx := (d.hrx.set 2 { d.hrx.get 2 with wu := true }) }), 2, [3, 3, 3, 3, 3, 3, 3, 3, 3,
      3, 3, 3, 3, 3, 3, 3, 3, 3, 3, 3, 3, 3, 3, 3, 3, 3, 3, 3, 3, 3, 3, 3, 0, 0, 0, 0, 0, 0, 0, 0, 0, 0, 0, 0, 0, 0, 0, 0, 0, 0, 0, 0, 0,
      0, 0, 0, 0, 0, 0, 0, 0, 0, 0, 0, 3, 2, 3, 3, 3, 3, 2, 3, 1, 1, 0, 1, 0, 1, 0, 0, 0, 1, 0, 1, 0, 0, 0, 0, 0, 1, 1, 0, 0, 1, 0, 1, 1,
      0, 1, 0, 0, 0, 0, 1, 3, 2, 3, 3, 3, 2, 3, 3, 1, 0, 0, 0, 1, 1, 1, 1, 3, 3, 2, 2, 3, 2, 3, 2, 3, 3, 2, 3, 2, 2, 2, 3, 0, 1, 0, 1, 0,
      1, 1, 0, 1, 1, 1, 1, 1, 0, 0, 1, 2, 3, 2, 2, 2, 3, 3, 3, 1, 1, 0, 1, 1, 1, 0, 0, 0, 1, 1, 0, 1, 0, 0, 1, 0, 1, 0, 0, 0, 1, 0, 1, 3,
      2, 2, 3, 3, 2, 3, 3, 3, 3, 3, 3, 3, 3, 2, 3, 2, 3, 2, 2, 2, 2, 2, 2, 3, 2, 3, 2, 2, 2, 3, 2, 2, 3, 3, 2, 2, 3, 2, 2, 2, 3, 2, 2, 3,
      2, 2, 3, 1, 1, 1, 1, 1, 1, 0, 0, 2, 2, 2, 3, 2, 3, 2, 3, 0, 0, 0, 1, 0, 1, 1, 0, 1, 1, 0, 0, 0, 1, 1, 0, 0, 0, 0, 1, 0, 0, 0, 0, 1,
      0, 1, 1, 1, 1, 0, 1, 1, 0, 1, 0, 0, 0, 0, 0, 1, 0, 1, 0, 1, 0, 0, 0, 1, 0, 1, 1, 1, 0, 1, 0, 3, 3, 2, 3, 3, 3, 3, 2, 0, 0, 1, 0, 0,
      1, 0, 1, 1, 0, 1, 0, 0, 0, 0, 1, 2, 3, 2, 2, 3, 2, 3, 2, 3, 3, 2, 2, 2, 3, 3, 2, 2, 2, 3, 2, 2, 2, 3, 3, 1, 1, 0, 0, 0, 1, 1, 0, 2,
      2, 2, 2, 3, 3, 3, 2, 2, 2, 3, 2, 2, 2, 3, 3, 1, 1, 0, 0, 0, 1, 1, 0, 3, 2, 2, 2, 3, 2, 2, 2, 2, 2, 2, 3, 2, 2, 3, 2, 3, 3, 2, 3, 3,
      3, 2, 2, 2, 2, 2, 3, 2, 3, 3, 3, 3, 3, 2, 3, 3, 3, 3, 2, 2, 2, 3, 3, 2, 2, 2, 3, 1, 1, 1, 1, 1, 1, 1, 0, 1, 1, 0, 1, 0, 1, 0, 1],
      true, by decide +kernel⟩
theorem witness_WarmupTrainingAndUpkeep_3 : ∃ (s : State) (n : Lane), s.calm ∧ s.dev.runs (pHtx n) ∧ s.dev.htxState n = htFrames ∧
    s.dev.wuInForce n = true :=
  ⟨wst [(0x36, 0x44, 0x2), (0x3e, 0x44, 0x2)] [] (fun d => { d with hrx := (d.hrx.set 6 { d.hrx.get 6 with wu := true }) }), 6,
      by decide +kernel⟩
theorem witness_WarmupTrainingAndUpkeep_4 : ∃ (s : State) (n : Lane) (ctl : BitVec 16) (k : Nat) (r : Nat × List Int), s.calm ∧
    s.dev.runs (pHtx n) ∧ (s.dev.hx n).service = some ⟨ctl, k⟩ ∧ k ≠ 0 ∧
    r = serve ctl ((s.dev.hx n).countdown.isSome || s.dev.htxState n == htData) (s.dev.firLive n) :=
  ⟨wst [] [] (fun d => { d with htx := (d.htx.set 5 { d.htx.get 5 with service := some { ctl := 0x7358#16, frames := 3 } }) }), 5,
      0x7358#16, 3, (0, [0, 0, 0, 62, 0, 0]), by decide +kernel⟩
theorem witness_WarmupTrainingAndUpkeep_5 : ∃ (s : State) (n : Lane) (snr : Nat) (x : HSearch), s.calm ∧ s.dev.runs (pHrx n) ∧
    s.dev.hostState n = stTrain ∧ s.dev.g (pHrx n) fHostPhase = 3 ∧ s.dev.hostSquadHere n = true ∧ (s.dev.hr n).search = some x ∧
    x.measuring = true :=
  ⟨wst [(0x33, 0x44, 0x2), (0x33, 0x68,
      0x3)] [] (fun d => { d with hrx := (d.hrx.set 3 { d.hrx.get 3 with search := some { stage := SearchStage.undo, tap := 4, up := true, kept := true, count := 17, base := 2121, waiting := true, measuring := true } }) }), 3, 2798, { stage := SearchStage.undo, tap := 4, up := true, kept := true, count := 17, base := 2121, waiting := true, measuring := true }, by decide +kernel⟩
theorem witness_WarmupTrainingAndUpkeep_6 : ∃ (s : State) (n : Lane) (x : HSearch), s.calm ∧ s.dev.runs (pHrx n) ∧
    s.dev.hostState n = stTrain ∧ (s.dev.hr n).search = some x ∧ x.waiting = true :=
  ⟨wst [(0x33, 0x44, 0x2)] [] (fun d => { d with hrx := (d.hrx.set 3 { d.hrx.get 3 with search := some { stage := SearchStage.undo, tap := 4, up := true, kept := true, count := 17, base := 2121, waiting := true, measuring := true } }) }), 3, { stage := SearchStage.undo, tap := 4, up := true, kept := true, count := 17, base := 2121, waiting := true, measuring := true }, by decide +kernel⟩
theorem witness_WarmupTrainingAndUpkeep_7 : ∃ (s : State) (n : Lane) (snr : Nat), s.calm ∧ s.dev.runs (pHrx n) ∧
    s.dev.hostState n = stRun :=
  ⟨wst [(0x36, 0x44, 0x3)] [], 6, 4419, by decide +kernel⟩
theorem witness_WarmupTrainingAndUpkeep_8 : ∃ (s : State) (n : Lane) (signs : List Int), s.calm ∧ s.dev.runs (pHrx n) ∧
    s.dev.hostState n = stRun :=
  ⟨wst [(0x31, 0x44, 0x3)] [], 1, [0, 2, -1, 1, 0, -1, 0, 2, 1, 2, -2, 0, -2, -1, 2, -1, 1, 1, 0, 2, 1, 0, -1, 2], by decide +kernel⟩
theorem witness_WarmupTrainingAndUpkeep_9 : ∃ (s : State) (n : Lane) (b : Block) (pass : Bool), s.calm ∧ s.dev.runs (pHrx n) ∧
    s.dev.hostValid n = true ∧
    pass = (([b.occ0, b.occ1, b.occ2,
    b.occ3].all fun k => decide (18 * 4096 ≤ k * 100) && decide (k * 100 ≤ 32 * 4096)) && decide (50 * 4096 ≤ b.trans * 100)) :=
  ⟨wst [(0x33, 0x44, 0x4)] [], 3,
      { occ0 := 1024, occ1 := 1024, occ2 := 1024, occ3 := 1024, trans := 2500, calStep := false, late := false, left := false, snrCand := 0, snrRef := 0, blindDone := false, ms := 0 }, true, by decide +kernel⟩
theorem witness_WarmupTrainingAndUpkeep_10 : ∃ (s : State) (n : Lane) (r : FirRamp), s.calm ∧ s.dev.runs (pHtx n) ∧
    (s.dev.hx n).fir = some r :=
  ⟨wst [] [] (fun d => { d with htx := (d.htx.set 2 { d.htx.get 2 with fir := some { from0 := 0x0#32, from1 := 0x0#32, to0 := 0x5#32, to1 := 0x0#32, step := 9 } }) }), 2, { from0 := 0x0#32, from1 := 0x0#32, to0 := 0x5#32, to1 := 0x0#32, step := 9 }, by decide +kernel⟩
theorem witness_WarmupTrainingAndUpkeep_11 : ∃ (s : State) (n : Lane), s.calm ∧ s.dev.runs (pHtx n) ∧ s.dev.htxState n ≠ htOff :=
  ⟨wst [(0x3e, 0x44, 0x1)] [], 6, by decide +kernel⟩
theorem witness_ReferencesAndPllsFollow_0 : ∃ (s : State) (r : Fin 2), s.calm ∧ s.dev.runs 0x01 ∧ s.dev.b 0x01 (fRefOk r.val) = true :=
  ⟨wst [(0x1, 0x44, 0x2)] [], 1, by decide +kernel⟩
theorem witness_ReferencesAndPllsFollow_1 : ∃ (s : State) (r : Fin 2), s.calm ∧ s.dev.runs 0x01 ∧ s.dev.b 0x01 (fRefOk r.val) = false :=
  ⟨wst [] [], 1, by decide +kernel⟩
theorem witness_ReferencesAndPllsFollow_2 : ∃ (s : State) (r : Fin 2) (c : Nat), s.calm ∧ s.dev.runs 0x01 ∧
    s.dev.b 0x01 (fRefOk r.val) = true ∧ s.dev.b 0x05 fTkRc = false ∧ (156250000 * 3277 * 1001 < c * 32768 * 1000 ∨
    c * 32768 * 1000 < 156250000 * 3277 * 999) :=
  ⟨wst [(0x1, 0x44, 0x2)] [], 1, 15610000, by decide +kernel⟩
theorem witness_ReferencesAndPllsFollow_3 : ∃ (s : State) (r : Fin 2) (c : Nat), s.calm ∧ s.dev.runs 0x01 ∧ (s.dev.b 0x05 fTkRc = true ∨
    (156250000 * 3277 * 999 ≤ c * 32768 * 1000 ∧ c * 32768 * 1000 ≤ 156250000 * 3277 * 1001)) :=
  ⟨wst [] [], 1, 15625283, by decide +kernel⟩
theorem witness_ReferencesAndPllsFollow_4 : ∃ (s : State) (r : Fin 2) (ppm : List Int), s.calm ∧ s.dev.runs 0x01 ∧
    s.dev.b 0x01 (fRefOk r.val) = false :=
  ⟨wst [] [], 0, [-8, 2, 8], by decide +kernel⟩
theorem witness_ReferencesAndPllsFollow_5 : ∃ (s : State) (k : Fin 3), s.calm ∧ s.dev.runs 0x01 ∧ s.dev.g 0x01 (fPll k.val) = 2 ∧
    s.dev.b 0x01 (fRefOk (s.dev.prefRef k.val)) = true :=
  ⟨wst [(0x1, 0x44, 0x1), (0x1, 0x48, 0x8)] [], 1, by decide +kernel⟩
theorem witness_ReferencesAndPllsFollow_6 : ∃ (s : State) (k : Fin 3), s.calm ∧ s.dev.runs 0x01 ∧ s.dev.g 0x01 (fPll k.val) = 1 :=
  ⟨wst [(0x1, 0x48, 0x4)] [], 1, by decide +kernel⟩
theorem witness_ReferencesAndPllsFollow_7 : ∃ (s : State) (w : Who) (q : Fin 2) (v : Word), s.calm ∧
    s.dev.takes w 0x01 (0x04C + 4 * q.val) :=
  ⟨wst [] [], { mid := 0, sub := 1, user := false }, 0, 0x41dc9157#32, by decide +kernel⟩
theorem witness_ReferencesAndPllsFollow_8 : ∃ (s : State) (n : Lane), s.calm ∧ s.dev.runs (pLtx n) :=
  ⟨wst [] [], 6, by decide +kernel⟩
theorem witness_ReferencesAndPllsFollow_9 : ∃ (s : State) (n : Lane), s.calm ∧ s.dev.runs (pHtx n) :=
  ⟨wst [] [], 6, by decide +kernel⟩
theorem witness_SquadsHaltRunAndTrap_0 : ∃ (s : State) (w : Who) (n : Sq) (v : Word), s.calm ∧ s.dev.takes w (pSquad n) 0x040 ∧
    s.dev.sqState n ≠ sqHalted :=
  ⟨wst [(0x58, 0x44, 0x5)] [], { mid := 0, sub := 1, user := false }, 8, 0xffffffff#32, by decide +kernel⟩
theorem witness_SquadsHaltRunAndTrap_1 : ∃ (s : State) (n : Sq), s.calm ∧ s.dev.runs (pSquad n) ∧ s.dev.sqState n = sqRunning ∧
    (s.dev.sq n).halting = true ∧ (s.dev.sq n).reloading = false ∧ s.dev.capState ≠ cAnalysing :=
  ⟨wst [(0x58, 0x44, 0x2)] [] (fun d => { d with squad := (d.squad.set 8 { d.squad.get 8 with halting := true }) }), 8, by decide +kernel⟩
theorem witness_SquadsHaltRunAndTrap_2 : ∃ (s : State) (w : Who) (n : Sq) (v : Word), s.calm ∧ s.dev.takes w (pSquad n) 0x040 ∧
    s.dev.sqState n = sqHalted ∧ (s.dev.sq n).reloading = false :=
  ⟨wst [(0x58, 0x44, 0x3)] [], { mid := 0, sub := 1, user := false }, 8, 0xffffffff#32, by decide +kernel⟩
theorem witness_SquadsHaltRunAndTrap_3 : ∃ (s : State) (n : Sq) (e : Fin 64) (c : Fin 6) (pc addr : Word), s.calm ∧ s.dev.runs (pSquad n) ∧
    s.dev.sqState n = sqRunning ∧ (s.dev.sq n).reloading = false ∧ s.dev.capState ≠ cAnalysing :=
  ⟨wst [(0x58, 0x44, 0x2)] [], 8, 29, 4, 0x6#32, 0x77e16d12#32, by decide +kernel⟩
theorem witness_SquadsHaltRunAndTrap_4 : ∃ (s : State) (n : Sq) (e : Fin 64) (c : Fin 6) (pc addr : Word), s.calm ∧ s.dev.runs (pSquad n) ∧
    s.dev.sqState n = sqTrapped ∧ e.val ∉ (s.dev.sq n).trapped :=
  ⟨wst [(0x58, 0x44, 0x4)] [], 8, 29, 4, 0x6#32, 0x77e16d12#32, by decide +kernel⟩
theorem witness_SquadsHaltRunAndTrap_5 : ∃ (s : State) (n : Sq) (e : Fin 64) (pc : Word), s.calm ∧ s.dev.runs (pSquad n) ∧
    s.dev.sqState n = sqRunning ∧ (s.dev.sq n).reloading = false ∧ s.dev.capState ≠ cAnalysing :=
  ⟨wst [(0x58, 0x44, 0x2)] [], 8, 29, 0x6#32, by decide +kernel⟩
theorem witness_SquadsHaltRunAndTrap_6 : ∃ (s : State) (n : Sq), s.calm ∧ s.dev.runs (pSquad n) ∧ s.dev.sqState n = sqTrapped ∧
    s.dev.b (pSquad n) fAutoRecover = true ∧ s.dev.coachUp = true ∧ n.val ∉ s.dev.loader :=
  ⟨wst [(0x58, 0x44, 0x4)] [] (fun d => { d with coachUp := true }), 8, by decide +kernel⟩
theorem witness_SquadsHaltRunAndTrap_7 : ∃ (s : State) (n : Sq), s.calm ∧ s.dev.runs (pSquad n) ∧ (s.dev.sqState n ≠ sqTrapped ∨
    s.dev.b (pSquad n) fAutoRecover = false ∨ s.dev.coachUp = false ∨ n.val ∈ s.dev.loader) :=
  ⟨wst [] [], 8, by decide +kernel⟩
theorem witness_SquadsHaltRunAndTrap_8 : ∃ (s : State) (w : Who) (n : Sq) (v : Word), s.calm ∧ s.dev.takes w (pSquad n) 0x090 :=
  ⟨wst [] [], { mid := 0, sub := 1, user := false }, 8, 0xffffffff#32, by decide +kernel⟩
theorem witness_SquadsReload_0 : ∃ (s : State) (w : Who) (n : Sq), s.calm ∧ s.dev.takes w (pSquad n) 0x054 :=
  ⟨wst [] [], { mid := 3, sub := 1, user := false }, 15, by decide +kernel⟩
theorem witness_SquadsReload_1 : ∃ (s : State) (n : Sq), s.calm ∧ s.memOk ∧ s.dev.runs (pSquad n) ∧ s.dev.loader.head? = some n.val ∧
    s.dev.serving = none ∧ s.dev.coachUp = true ∧ s.dev.boot.manifest ≠ [] ∧ s.dev.sqState n ∉ [sqLoading, sqReloading] ∧
    s.dev.capState ≠ cAnalysing ∧ (∀ c < 16, s.dev.g pMbox (fChRx c) ≠ sqMaster n) :=
  ⟨wst [] [] (fun d => { d with loader := [8, 3], boot := { d.boot with manifest := [0x1#8] }, coachUp := true }) [(2621439, 0x1#8),
      (2621440, 0x2#8), (2621731, 0x9#8), (2883584, 0x4#8), (3145727, 0x5#8), (25165827, 0x7#8), (25427967, 0x7#8), (25427968, 0x7#8),
      (25952255, 0x7#8)], 8, by decide +kernel⟩
theorem witness_SquadsReload_2 : ∃ (s : State) (n : Sq) (id : Word), s.calm ∧ s.dev.runs (pSquad n) ∧
    s.dev.sqState n ∈ [sqLoading, sqReloading] ∧ (s.dev.sq n).reloading = true ∧ s.imageMatches n = true :=
  ⟨wst [(0x25, 0x44, 0x1), (0x35, 0x44, 0x1), (0x55, 0x44,
      0x1)] [] (fun d => { d with squad := (d.squad.set 5 { d.squad.get 5 with reloading := true }), serving := some 5, boot := { d.boot with manifest := [0x0#8, 0x0#8, 0x0#8, 0x0#8, 0x0#8, 0x0#8, 0x0#8, 0x0#8, 0x0#8, 0x0#8, 0x0#8, 0x0#8, 0x0#8, 0x0#8, 0x0#8, 0x0#8, 0x0#8, 0x0#8, 0x0#8, 0x0#8, 0x0#8, 0x0#8, 0x0#8, 0x0#8, 0x0#8, 0x0#8, 0x0#8, 0x0#8, 0x0#8, 0x0#8, 0x0#8, 0x0#8, 0x0#8, 0x0#8, 0x0#8, 0x0#8, 0x0#8, 0x0#8, 0x0#8, 0x0#8, 0x0#8, 0x0#8, 0x0#8, 0x0#8, 0x0#8, 0x0#8, 0x0#8, 0x0#8, 0x0#8, 0x0#8, 0x0#8, 0x0#8, 0x0#8, 0x0#8, 0x0#8, 0x0#8, 0x0#8, 0x0#8, 0x0#8, 0x0#8, 0x0#8, 0x0#8, 0x0#8, 0x0#8, 0x0#8, 0x0#8, 0x0#8, 0x0#8, 0x0#8, 0x0#8, 0x0#8, 0x0#8, 0x0#8, 0x0#8, 0x0#8, 0x0#8, 0x0#8, 0x0#8, 0x0#8, 0x0#8, 0x0#8, 0x0#8, 0x0#8, 0x0#8, 0x0#8, 0x0#8, 0x0#8, 0x0#8, 0x0#8, 0x0#8, 0x0#8, 0x0#8, 0x0#8, 0x0#8, 0x0#8, 0x0#8, 0x0#8, 0x0#8, 0x0#8, 0x0#8, 0x0#8, 0x0#8, 0x0#8, 0x0#8, 0x0#8, 0x0#8, 0x0#8, 0x0#8, 0x0#8, 0x0#8, 0x0#8, 0x0#8, 0x0#8, 0x0#8, 0x0#8, 0x0#8, 0x0#8, 0x0#8, 0x0#8, 0x0#8, 0x0#8, 0x0#8, 0x0#8, 0x0#8, 0x0#8, 0x0#8, 0x0#8, 0x0#8, 0x0#8, 0x0#8, 0x0#8, 0x0#8, 0x0#8, 0x0#8, 0x0#8, 0x0#8, 0x0#8, 0x0#8, 0x0#8, 0x0#8, 0x0#8, 0x0#8, 0x0#8, 0x0#8, 0x0#8, 0x0#8, 0x0#8, 0x0#8, 0x0#8, 0x0#8, 0x0#8, 0x0#8, 0x0#8, 0x0#8, 0x0#8, 0x0#8, 0x0#8, 0x0#8, 0x0#8, 0x0#8, 0x0#8, 0x0#8, 0x0#8, 0x0#8, 0x0#8, 0x0#8, 0x0#8, 0x0#8, 0x0#8, 0x0#8, 0x0#8, 0x0#8, 0x0#8, 0x0#8, 0x0#8, 0x0#8, 0xcf#8, 0x83#8, 0xe1#8, 0x35#8, 0x7e#8, 0xef#8, 0xb8#8, 0xbd#8, 0xf1#8, 0x54#8, 0x28#8, 0x50#8, 0xd6#8, 0x6d#8, 0x80#8, 0x7#8, 0xd6#8, 0x20#8, 0xe4#8, 0x5#8, 0xb#8, 0x57#8, 0x15#8, 0xdc#8, 0x83#8, 0xf4#8, 0xa9#8, 0x21#8, 0xd3#8, 0x6c#8, 0xe9#8, 0xce#8, 0x47#8, 0xd0#8, 0xd1#8, 0x3c#8, 0x5d#8, 0x85#8, 0xf2#8, 0xb0#8, 0xff#8, 0x83#8, 0x18#8, 0xd2#8, 0x87#8, 0x7e#8, 0xec#8, 0x2f#8, 0x63#8, 0xb9#8, 0x31#8, 0xbd#8, 0x47#8, 0x41#8, 0x7a#8, 0x81#8, 0xa5#8, 0x38#8, 0x32#8, 0x7a#8, 0xf9#8, 0x27#8, 0xda#8, 0x3e#8] } }), 5, 0x3e3591a7#32, by decide +kernel⟩
theorem witness_SquadsReload_3 : ∃ (s : State) (n : Sq) (id : Word), s.calm ∧ s.dev.runs (pSquad n) ∧
    s.dev.sqState n ∈ [sqLoading, sqReloading] ∧ s.imageMatches n = false ∧ s.dev.serving = some n.val ∧ s.dev.capState ≠ cAnalysing :=
  ⟨wst [(0x58, 0x44, 0x1)] [] (fun d => { d with squad := (d.squad.set 8 { d.squad.get 8 with reloading := true }), serving := some 8, boot := { d.boot with manifest := [0x0#8] } }) [(25165823, 0x3#8), (25165824, 0x3#8), (25427968, 0x3#8)], 8, 0xbc98d652#32, by decide +kernel⟩
theorem witness_SquadsReload_4 : ∃ (s : State) (n : Sq), s.calm ∧ s.dev.runs (pSquad n) ∧ s.dev.sqState n = sqRunning ∧
    (s.dev.sq n).reloading = true ∧ (s.dev.sq n).verified = true ∧ s.dev.serving = some n.val :=
  ⟨wst [(0x58, 0x44, 0x2)] [] (fun d => { d with squad := (d.squad.set 8 { d.squad.get 8 with reloading := true, verified := true }), serving := some 8 }), 8, by decide +kernel⟩
theorem witness_SquadsReload_5 : ∃ (s : State) (n : Sq) (c : Fin 4) (src dst : Word) (rs ws : Nat), s.calm ∧ s.dev.runs (pSquad n) ∧
    s.dev.sqState n = sqRunning ∧ s.dev.g (pSquad n) (fDmaState c.val) = 0 ∧ src.toNat % 4 = 0 ∧ dst.toNat % 4 = 0 ∧ rs % 4 = 0 ∧
    ws % 4 = 0 ∧ s.dev.memStatus (dmaWho n c) src.toNat false = .ok ∧ s.dev.memStatus (dmaWho n c) dst.toNat true = .ok ∧
    0x00200000 ≤ src.toNat ∧ 0x00200000 ≤ dst.toNat ∧ s.dev.eccAt src.toNat = ⟨0, false⟩ :=
  ⟨wst [(0x25, 0x44, 0x1), (0x35, 0x44, 0x1), (0x55, 0x44, 0x2)] [], 5, 3, 0x154a368#32, 0x27b040#32, 20, 8, by decide +kernel⟩
theorem witness_SquadsReload_6 : ∃ (s : State) (n : Sq) (c : Fin 4) (src dst : Word) (rs ws : Nat), s.calm ∧ s.dev.runs (pSquad n) ∧
    s.dev.sqState n = sqRunning ∧ s.dev.g (pSquad n) (fDmaState c.val) = 0 ∧ src.toNat % 4 = 0 ∧ dst.toNat % 4 = 0 ∧ rs % 4 = 0 ∧
    ws % 4 = 0 ∧ 0x00600000 ≤ src.toNat ∧ s.dev.memStatus (dmaWho n c) src.toNat false ≠ .ok :=
  ⟨wst [(0x58, 0x44, 0x2)] [], 8, 1, 0x6afa98#32, 0x184be78#32, 4, 12, by decide +kernel⟩
theorem witness_SquadCommandsAnswer_0 : ∃ (s : State) (w : Who) (n : Sq) (tag : BitVec 8), s.calm ∧ s.dev.takes w (pSquad n) 0x0A0 ∧
    s.dev.b (pSquad n) fCmdBusy = false ∧ s.dev.sqState n = sqRunning :=
  ⟨wst [(0x58, 0x44, 0x2)] [], { mid := 0, sub := 1, user := false }, 8, 0x1d#8, by decide +kernel⟩
theorem witness_SquadCommandsAnswer_1 : ∃ (s : State) (w : Who) (n : Sq) (tag : BitVec 8), s.calm ∧ s.dev.takes w (pSquad n) 0x0A0 ∧
    s.dev.b (pSquad n) fCmdBusy = false ∧ s.dev.sqState n = sqRunning :=
  ⟨wst [(0x58, 0x44, 0x2)] [], { mid := 0, sub := 1, user := false }, 8, 0x1d#8, by decide +kernel⟩
theorem witness_SquadCommandsAnswer_2 : ∃ (s : State) (w : Who) (n : Sq) (tag : BitVec 8), s.calm ∧ s.dev.takes w (pSquad n) 0x0A0 ∧
    s.dev.b (pSquad n) fCmdBusy = false ∧ s.dev.sqState n = sqRunning :=
  ⟨wst [(0x58, 0x44, 0x2)] [], { mid := 0, sub := 1, user := false }, 8, 0x1d#8, by decide +kernel⟩
theorem witness_SquadCommandsAnswer_3 : ∃ (s : State) (w : Who) (n : Sq) (tag : BitVec 8), s.calm ∧ s.dev.takes w (pSquad n) 0x0A0 ∧
    s.dev.b (pSquad n) fCmdBusy = false ∧ s.dev.sqState n = sqRunning :=
  ⟨wst [(0x58, 0x44, 0x2)] [], { mid := 0, sub := 1, user := false }, 8, 0x1d#8, by decide +kernel⟩
theorem witness_SquadCommandsAnswer_4 : ∃ (s : State) (w : Who) (n : Sq) (tag : BitVec 8), s.calm ∧ s.dev.takes w (pSquad n) 0x0A0 ∧
    s.dev.b (pSquad n) fCmdBusy = false ∧ s.dev.sqState n = sqRunning :=
  ⟨wst [(0x58, 0x44, 0x2)] [], { mid := 0, sub := 1, user := false }, 8, 0x1d#8, by decide +kernel⟩
theorem witness_SquadCommandsAnswer_5 : ∃ (s : State) (w : Who) (n : Sq) (tag : BitVec 8), s.calm ∧ s.dev.takes w (pSquad n) 0x0A0 ∧
    s.dev.b (pSquad n) fCmdBusy = true :=
  ⟨wst [(0x58, 0xb4, 0x1)] [], { mid := 0, sub := 1, user := false }, 8, 0x1d#8, by decide +kernel⟩
theorem witness_SquadCommandsAnswer_6 : ∃ (s : State) (w : Who) (n : Sq) (tag : BitVec 8), s.calm ∧ s.dev.takes w (pSquad n) 0x0A0 ∧
    s.dev.b (pSquad n) fCmdBusy = false ∧ s.dev.sqState n ≠ sqRunning :=
  ⟨wst [(0x58, 0x44, 0x4)] [], { mid := 0, sub := 1, user := false }, 8, 0x1d#8, by decide +kernel⟩
theorem witness_SquadCommandsAnswer_7 : ∃ (s : State) (n : Sq) (ut lo sk : Word), s.calm ∧ s.dev.runs (pSquad n) ∧
    s.dev.b (pSquad n) fCmdBusy = true ∧ s.dev.sqState n = sqRunning ∧ s.dev.g (pSquad n) fCmdOp = 1 :=
  ⟨wst [(0x58, 0x44, 0x2), (0x58, 0xa0, 0x1), (0x58, 0xb4, 0x1)] [], 8, 0x53aab52c#32, 0x0#32, 0x5633438a#32, by decide +kernel⟩
theorem witness_SquadCommandsAnswer_8 : ∃ (s : State) (n : Sq) (ut lo sk : Word), s.calm ∧ s.dev.runs (pSquad n) ∧
    s.dev.b (pSquad n) fCmdBusy = true ∧ s.dev.sqState n = sqRunning ∧ s.dev.g (pSquad n) fCmdOp = 2 :=
  ⟨wst [(0x58, 0x44, 0x2), (0x58, 0xa0, 0x2), (0x58, 0xb4, 0x1)] [], 8, 0x53aab52c#32, 0x0#32, 0x5633438a#32, by decide +kernel⟩
theorem witness_SquadCommandsAnswer_9 : ∃ (s : State) (n : Sq) (ut lo sk : Word), s.calm ∧ s.dev.runs (pSquad n) ∧
    s.dev.b (pSquad n) fCmdBusy = true ∧ s.dev.sqState n = sqRunning ∧ s.dev.g (pSquad n) fCmdOp = 3 ∧ s.dev.rd (pSquad n) 0x0A4 < 64 ∧
    mapCount (s.dev.engineMap n) ≥ 33 ∧ (s.dev.sq n).excl.contains (s.dev.rd (pSquad n) 0x0A4).toNat = false :=
  ⟨wst [(0x58, 0x44, 0x2), (0x58, 0xa0, 0x3), (0x58, 0xa4, 0x1a), (0x58, 0xb4, 0x1)] [], 8, 0x53aab52c#32, 0x0#32, 0x5633438a#32,
      by decide +kernel⟩
theorem witness_SquadCommandsAnswer_10 : ∃ (s : State) (n : Sq) (ut lo sk : Word), s.calm ∧ s.dev.runs (pSquad n) ∧
    s.dev.b (pSquad n) fCmdBusy = true ∧ s.dev.sqState n = sqRunning ∧ s.dev.g (pSquad n) fCmdOp = 3 ∧
    (63 < (s.dev.rd (pSquad n) 0x0A4).toNat ∨ (mapCount (s.dev.engineMap n) = 32 ∧
    (s.dev.engineMap n).getLsbD (s.dev.rd (pSquad n) 0x0A4).toNat = true)) :=
  ⟨wst [(0x58, 0x44, 0x2), (0x58, 0xa0, 0x3), (0x58, 0xa4, 0x1a), (0x58, 0xb4,
      0x1)] [] (fun d => { d with squad := (d.squad.set 8 { d.squad.get 8 with lent := some { pacer := 0, count := 32 } }) }), 8,
      0x53aab52c#32, 0x0#32, 0x5633438a#32, by decide +kernel⟩
theorem witness_SquadCommandsAnswer_11 : ∃ (s : State) (n : Sq) (ut lo sk : Word), s.calm ∧ s.dev.runs (pSquad n) ∧
    s.dev.b (pSquad n) fCmdBusy = true ∧ s.dev.sqState n = sqRunning ∧ s.dev.g (pSquad n) fCmdOp = 4 ∧ s.dev.rd (pSquad n) 0x0A4 < 64 ∧
    s.dev.capState ≠ cAnalysing :=
  ⟨wst [(0x58, 0x44, 0x2), (0x58, 0xa0, 0x4), (0x58, 0xa4, 0x4), (0x58, 0xb4, 0x1)] [], 8, 0x53aab52c#32, 0x0#32, 0x5633438a#32,
      by decide +kernel⟩
theorem witness_SquadCommandsAnswer_12 : ∃ (s : State) (n : Sq) (ut lo sk : Word), s.calm ∧ s.dev.runs (pSquad n) ∧
    s.dev.b (pSquad n) fCmdBusy = true ∧ s.dev.sqState n = sqRunning ∧ s.dev.g (pSquad n) fCmdOp = 5 :=
  ⟨wst [(0x58, 0x44, 0x2), (0x58, 0xa0, 0x5), (0x58, 0xb4, 0x1)] [], 8, 0x53aab52c#32, 0x0#32, 0x5633438a#32, by decide +kernel⟩
theorem witness_SquadCommandsAnswer_13 : ∃ (s : State) (n : Sq) (ut lo sk : Word), s.calm ∧ s.dev.runs (pSquad n) ∧
    s.dev.b (pSquad n) fCmdBusy = true ∧ s.dev.sqState n = sqRunning ∧ s.dev.g (pSquad n) fCmdOp ∉ [1, 2, 3, 4, 5] :=
  ⟨wst [(0x58, 0x44, 0x2), (0x58, 0xa0, 0x6b), (0x58, 0xb4, 0x1)] [], 8, 0x53aab52c#32, 0x0#32, 0x5633438a#32, by decide +kernel⟩
theorem witness_SquadCommandsAnswer_14 : ∃ (s : State) (n : Sq), s.calm ∧ s.dev.runs (pSquad n) ∧ s.dev.b (pSquad n) fCmdBusy = true :=
  ⟨wst [(0x58, 0xb4, 0x1)] [], 8, by decide +kernel⟩
theorem witness_LoansOfEngines_0 : ∃ (s : State) (w : Who) (n : Sq) (v : Word), s.calm ∧ s.dev.takes w (pSquad n) 0x060 ∧ n.val < 8 :=
  ⟨wst [] [], { mid := 0, sub := 1, user := false }, 3, 0xffffffff#32, by decide +kernel⟩
theorem witness_LoansOfEngines_1 : ∃ (s : State) (w : Who) (n : Sq) (v : Word), s.calm ∧ s.dev.takes w (pSquad n) 0x060 ∧ 8 ≤ n.val ∧
    (s.dev.sq n).lent = none ∧ getBits (storeWord (pSquad n) 0x060 (s.dev.rd (pSquad n) 0x060) v) 0 6 ≠ 0 ∧ (∀ m, m ≠ n →
    (s.dev.sq m).lent = none ∧ s.dev.g (pSquad m) fLendCount = 0 ∧ s.dev.b (pSquad m) fRefused = false) :=
  ⟨wst [] [], { mid := 3, sub := 1, user := false }, 10, 0x40017#32, by decide +kernel⟩
theorem witness_LoansOfEngines_2 : ∃ (s : State) (w : Who) (n m : Sq) (v : Word), s.calm ∧ s.dev.takes w (pSquad n) 0x060 ∧ 8 ≤ n.val ∧
    8 ≤ m.val ∧ m ≠ n ∧ (s.dev.sq n).lent = none ∧ getBits (storeWord (pSquad n) 0x060 (s.dev.rd (pSquad n) 0x060) v) 0 6 ≠ 0 ∧
    (s.dev.sq m).lent.map (·.pacer) = some (getBits (storeWord (pSquad n) 0x060 (s.dev.rd (pSquad n) 0x060) v) 16 3) ∧ (∀ k, k ≠ n →
    s.dev.b (pSquad k) fRefused = false) :=
  ⟨wst [(0x5e, 0x60, 0x40010)] [] (fun d => { d with squad := (d.squad.set 14 { d.squad.get 14 with lent := some { pacer := 4, count := 4 } }) }), { mid := 3, sub := 1, user := false }, 10, 14, 0x40017#32, by decide +kernel⟩
theorem witness_LoansOfEngines_3 : ∃ (s : State) (n : Sq) (l : Loan), s.calm ∧ s.dev.runs (pSquad n) ∧ (s.dev.sq n).move = .releasing ∧
    s.dev.lendWant n = some l :=
  ⟨wst [(0x5b, 0x60, 0x10)] [] (fun d => { d with squad := (d.squad.set 11 { d.squad.get 11 with move := LendMove.releasing }) }), 11,
      { pacer := 0, count := 16 }, by decide +kernel⟩
theorem witness_SplitCountersAndWindows_0 : ∃ (s : State) (w : Who) (v : Word), s.calm ∧ s.dev.takes w 0x13 0x040 :=
  ⟨wst [] [], { mid := 0, sub := 1, user := false }, 0x41dc9157#32, by decide +kernel⟩
theorem witness_SplitCountersAndWindows_1 : ∃ (s : State) (w : Who) (k : Fin 128) (v : Word), s.calm ∧ s.dev.takes w 0x13 (cntOff k.val) :=
  ⟨wst [] [], { mid := 3, sub := 1, user := false }, 2, 0xffffffff#32, by decide +kernel⟩
theorem witness_SplitCountersAndWindows_2 : ∃ (s : State) (k : Fin 128) (c : Nat), s.calm ∧ s.dev.runs 0x13 ∧
    s.dev.b 0x13 fFreeze = false ∧ s.dev.lg 0x13 (fCntEvent k.val) ≠ 0 ∧ s.dev.chained k.val = false ∧
    (s.dev.rd 0x13 (cntOff k.val)).toNat + c < 2 ^ 32 :=
  ⟨wst [] [(0x13, 0x408, 0xb)], 2, 2, by decide +kernel⟩
theorem witness_SplitCountersAndWindows_3 : ∃ (s : State) (k : Fin 128) (c : Nat), s.calm ∧ s.dev.runs 0x13 ∧
    s.dev.b 0x13 fFreeze = false ∧ s.dev.lg 0x13 (fCntEvent k.val) ≠ 0 ∧ s.dev.chained k.val = false ∧ s.dev.chained (k.val + 1) = false ∧
    2 ^ 32 ≤ (s.dev.rd 0x13 (cntOff k.val)).toNat + c :=
  ⟨wst [(0x13, 0x608, 0xfffffffe)] [(0x13, 0x408, 0xb)], 2, 4, by decide +kernel⟩
theorem witness_SplitCountersAndWindows_4 : ∃ (s : State) (k : Fin 128) (c : Nat), s.calm ∧ s.dev.runs 0x13 ∧
    s.dev.b 0x13 fFreeze = false ∧ s.dev.lg 0x13 (fCntEvent k.val) ≠ 0 ∧ k.val % 2 = 0 ∧ s.dev.chained (k.val + 1) = true ∧
    2 ^ 32 ≤ (s.dev.rd 0x13 (cntOff k.val)).toNat + c :=
  ⟨wst [(0x13, 0x7b8, 0xfffffffe), (0x13, 0x7bc, 0x1)] [(0x13, 0x5b8, 0x4), (0x13, 0x5bc, 0xffff)], 110, 5, by decide +kernel⟩
theorem witness_SplitCountersAndWindows_5 : ∃ (s : State) (k : Fin 128) (c : Nat), s.calm ∧ (s.dev.b 0x13 fFreeze = true ∨
    s.dev.lg 0x13 (fCntEvent k.val) = 0 ∨ s.dev.chained k.val = true) :=
  ⟨wst [] [], 2, 4, by decide +kernel⟩
theorem witness_SplitCountersAndWindows_6 : ∃ (s : State) (w : Who) (v : Word), s.calm ∧ s.dev.takes w 0x13 0x0C0 :=
  ⟨wst [] [], { mid := 0, sub := 1, user := false }, 0x41dc9157#32, by decide +kernel⟩
theorem witness_SplitCountersAndWindows_7 : ∃ (s : State) (bs : List Word), s.calm ∧ s.dev.runs 0x13 :=
  ⟨wst [(0x13, 0x108, 0xe0), (0x13, 0x10c, 0xe0)] [], [0x6#32, 0x6#32, 0x6#32, 0x6#32, 0x6#32, 0x6#32], by decide +kernel⟩
theorem witness_SplitCountersAndWindows_8 : ∃ (s : State) (tg : Tagged), s.calm ∧ s.dev.runs 0x13 ∧ s.dev.b 0x13 fTagEn = true ∧
    s.dev.g 0x13 fTagCount < 16 :=
  ⟨wst [(0x13, 0x200, 0x2c000081)] [], { pc := 0xb2ac332b#32, stamp := 0x6#32, stages := [some 54866, none, some 3], flags := 0x3#5 },
      by decide +kernel⟩
theorem witness_SplitCountersAndWindows_9 : ∃ (s : State) (tg : Tagged), s.calm ∧ s.dev.runs 0x13 ∧ s.dev.b 0x13 fTagEn = true ∧
    s.dev.g 0x13 fTagCount = 16 :=
  ⟨wst [(0x13, 0x200, 0x2c000081), (0x13, 0x204, 0x10)] [],
      { pc := 0x9eb91f8c#32, stamp := 0xfd1ad770#32, stages := [some 3400, none, some 3], flags := 0x1e#5 }, by decide +kernel⟩
theorem witness_SplitCountersAndWindows_10 : ∃ (s : State) (tg : Tagged), s.calm ∧ s.dev.b 0x13 fTagEn = false :=
  ⟨wst [] [], { pc := 0x9eb91f8c#32, stamp := 0xfd1ad770#32, stages := [some 3400, none, some 3], flags := 0x1e#5 }, by decide +kernel⟩
theorem witness_SplitCountersAndWindows_11 : ∃ (s : State) (w : Who), s.calm ∧ s.dev.takes w 0x13 0x208 :=
  ⟨wst [] [], { mid := 0, sub := 1, user := false }, by decide +kernel⟩
theorem witness_CaptureArmsTriggersAndReleases_0 : ∃ (s : State) (w : Who), s.calm ∧ s.dev.takes w pCap 0x040 ∧ s.dev.capState = cIdle :=
  ⟨wst [] [] (fun d => { d with cap := { d.cap with count := [1, 2, 3, 4, 5, 6, 7, 8], lost := [7] } }),
      { mid := 3, sub := 1, user := false }, by decide +kernel⟩
theorem witness_CaptureArmsTriggersAndReleases_1 : ∃ (s : State) (w : Who), s.calm ∧ s.dev.takes w pCap 0x040 ∧ s.dev.capState ≠ cIdle :=
  ⟨wst [(0x12, 0x44, 0x2)] [] (fun d => { d with cap := { d.cap with count := [1, 2, 3, 4, 5, 6, 7, 8], lost := [3] } }),
      { mid := 0, sub := 2, user := false }, by decide +kernel⟩
theorem witness_CaptureArmsTriggersAndReleases_2 : ∃ (s : State) (w : Who), s.calm ∧ s.dev.takes w pCap 0x040 ∧ s.dev.capState = cDone ∧
    s.dev.lg pCap fCapMode ≠ 1 :=
  ⟨wst [(0x12, 0x44, 0x3)] [] (fun d => { d with cap := { d.cap with count := [1, 2, 3, 4, 5, 6, 7, 8], lost := [3] } }),
      { mid := 0, sub := 2, user := false }, by decide +kernel⟩
theorem witness_CaptureArmsTriggersAndReleases_3 : ∃ (s : State) (w : Who), s.calm ∧ s.dev.takes w pCap 0x040 ∧ s.dev.capState = cDone ∧
    s.dev.lg pCap fCapMode = 1 :=
  ⟨wst [(0x12, 0x44, 0x3)] [(0x12, 0x48, 0x1)] (fun d => { d with cap := { d.cap with count := [1, 2, 3, 4, 5, 6, 7, 8], lost := [3] } }),
      { mid := 0, sub := 2, user := false }, by decide +kernel⟩
theorem witness_CaptureArmsTriggersAndReleases_4 : ∃ (s : State) (w : Who), s.calm ∧ s.dev.takes w pCap 0x040 ∧
    s.dev.capState ≠ cAnalysing :=
  ⟨wst [] [] (fun d => { d with cap := { d.cap with count := [1, 2, 3, 4, 5, 6, 7, 8], lost := [1] } }),
      { mid := 0, sub := 1, user := false }, by decide +kernel⟩
theorem witness_CaptureArmsTriggersAndReleases_5 : ∃ (s : State) (w : Who) (ts : List StreamTrig), s.calm ∧ s.dev.takes w pCap 0x040 ∧
    s.dev.capState = cArmed :=
  ⟨wst [(0x12, 0x44, 0x1)] [] (fun d => { d with cap := { d.cap with count := [1, 2, 3, 4, 5, 6, 7, 8], lost := [6], trigOut := true } }),
      { mid := 2, sub := 0, user := false }, [], by decide +kernel⟩
theorem witness_CaptureArmsTriggersAndReleases_6 : ∃ (s : State) (w : Who) (ts : List StreamTrig), s.calm ∧ s.dev.takes w pCap 0x040 ∧
    s.dev.capState = cTriggered :=
  ⟨wst [(0x12, 0x44, 0x2)] [] (fun d => { d with cap := { d.cap with count := [1, 2, 3, 4, 5, 6, 7, 8], lost := [6], trigOut := true } }),
      { mid := 2, sub := 0, user := false }, [], by decide +kernel⟩
theorem witness_CaptureArmsTriggersAndReleases_7 : ∃ (s : State) (ts : List StreamTrig), s.calm ∧ s.dev.runs pCap ∧
    s.dev.capState = cArmed ∧ 1 ≤ s.dev.lg pCap fTrgSrc ∧ s.dev.lg pCap fTrgSrc ≤ 4 :=
  ⟨wst [(0x12, 0x44, 0x1)] [(0x12, 0x50,
      0x2)] (fun d => { d with cap := { d.cap with count := [1, 2, 3, 4, 5, 6, 7, 8], lost := [6], trigOut := true } }), [],
      by decide +kernel⟩
theorem witness_CaptureArmsTriggersAndReleases_8 : ∃ (s : State) (ts : List StreamTrig), s.calm ∧ s.dev.runs pCap ∧
    s.dev.capState = cTriggered ∧ 1 ≤ s.dev.lg pCap fTrgSrc ∧ s.dev.lg pCap fTrgSrc ≤ 4 :=
  ⟨wst [(0x12, 0x44, 0x2)] [(0x12, 0x50,
      0x2)] (fun d => { d with cap := { d.cap with count := [1, 2, 3, 4, 5, 6, 7, 8], lost := [6], trigOut := true } }), [],
      by decide +kernel⟩
theorem witness_CaptureArmsTriggersAndReleases_9 : ∃ (s : State) (rising : Bool) (ts : List StreamTrig), s.calm ∧ s.dev.runs pCap ∧
    s.dev.capState = cArmed ∧ s.dev.lg pCap fTrgSrc = 5 ∧ (s.dev.lg pCap fTrgEdge = 3 ∨
    s.dev.lg pCap fTrgEdge = (if rising then 1 else 2)) :=
  ⟨wst [(0x12, 0x44, 0x1)] [(0x12, 0x50,
      0x305)] (fun d => { d with cap := { d.cap with count := [1, 2, 3, 4, 5, 6, 7, 8], lost := [1], trigOut := true } }), false, [],
      by decide +kernel⟩
theorem witness_CaptureArmsTriggersAndReleases_10 : ∃ (s : State) (rising : Bool) (ts : List StreamTrig), s.calm ∧
    (s.dev.lg pCap fTrgSrc ≠ 5 ∨ s.dev.lg pCap fTrgEdge = (if rising then 2 else 1)) :=
  ⟨wst [(0x12, 0x44, 0x1)] [(0x12, 0x50,
      0x102)] (fun d => { d with cap := { d.cap with count := [1, 2, 3, 4, 5, 6, 7, 8], lost := [6], trigOut := true } }), false, [],
      by decide +kernel⟩
theorem witness_CaptureArmsTriggersAndReleases_11 : ∃ (s : State) (ts : List StreamTrig), s.calm ∧ s.dev.runs pCap ∧
    s.dev.capState = cArmed ∧ s.dev.lg pCap fCapMode = 2 :=
  ⟨wst [(0x12, 0x44, 0x1)] [(0x12, 0x48,
      0x2)] (fun d => { d with cap := { d.cap with count := [1, 2, 3, 4, 5, 6, 7, 8], lost := [6], trigOut := true } }), [],
      by decide +kernel⟩
theorem witness_CaptureArmsTriggersAndReleases_12 : ∃ (s : State), s.calm ∧ s.dev.runs pCap :=
  ⟨wst [] [] (fun d => { d with cap := { d.cap with count := [1, 2, 3, 4, 5, 6, 7, 8], lost := [3] } }), by decide +kernel⟩
theorem witness_CaptureFillsAndCalibrates_0 : ∃ (s : State) (i : Nat) (xs : List StreamData), s.calm ∧ s.dev.runs pCap ∧
    s.dev.capState = cTriggered ∧ s.dev.streams = [i] ∧ s.dev.b pCap fAutoRun = false :=
  ⟨wst [(0x12, 0x44, 0x2)] [(0x12, 0x78,
      0x1)] (fun d => { d with cap := { d.cap with count := [1, 2, 3, 4, 5, 6, 7, 8], lost := [3] } }) [(4194305, 0x9#8), (5242879,
      0x4#8)], 6, [{ align := 0x1#32, bytes := [0x1#8, 0x2#8, 0x3#8, 0x4#8, 0x5#8] },
      { align := 0xffffffff#32, bytes := [0x1#8, 0x2#8, 0x3#8, 0x4#8, 0x5#8] },
      { align := 0xe3b11286#32, bytes := [0x1#8, 0x2#8, 0x3#8, 0x4#8, 0x5#8] },
      { align := 0x0#32, bytes := [0x1#8, 0x2#8, 0x3#8, 0x4#8, 0x5#8] }, { align := 0x0#32, bytes := [0x1#8, 0x2#8, 0x3#8, 0x4#8, 0x5#8] },
      { align := 0xffffffff#32, bytes := [0x1#8, 0x2#8, 0x3#8, 0x4#8, 0x5#8] },
      { align := 0x3d18d4ce#32, bytes := [0x1#8, 0x2#8, 0x3#8, 0x4#8, 0x5#8] },
      { align := 0x0#32, bytes := [0x1#8, 0x2#8, 0x3#8, 0x4#8, 0x5#8] }], by decide +kernel⟩
theorem witness_CaptureFillsAndCalibrates_1 : ∃ (s : State) (w : Who), s.calm ∧ s.dev.takes w pCap 0x040 ∧ s.dev.capState = cIdle :=
  ⟨wst [] [] (fun d => { d with cap := { d.cap with count := [1, 2, 3, 4, 5, 6, 7, 8], lost := [3] } }),
      { mid := 0, sub := 2, user := false }, by decide +kernel⟩
theorem witness_CaptureFillsAndCalibrates_2 : ∃ (s : State) (w : Who), s.calm ∧ s.dev.takes w pCap 0x040 ∧ s.dev.capState ≠ cIdle :=
  ⟨wst [(0x12, 0x44, 0x2)] [] (fun d => { d with cap := { d.cap with count := [1, 2, 3, 4, 5, 6, 7, 8], lost := [3] } }),
      { mid := 0, sub := 2, user := false }, by decide +kernel⟩
theorem witness_CaptureFillsAndCalibrates_3 : ∃ (s : State) (vals : List (BitVec 16)), s.calm ∧ s.dev.runs pCap ∧
    s.dev.b pCap fSkewBusy = true :=
  ⟨wst [(0x12, 0x44, 0x40), (0x20, 0x44, 0x4), (0x24, 0x44, 0x5), (0x25, 0x44, 0x5), (0x26, 0x44, 0x5), (0x27, 0x44, 0x1), (0x31, 0x44,
      0x5), (0x32, 0x44, 0x3), (0x33, 0x44, 0x3), (0x35, 0x44, 0x3), (0x37, 0x44,
      0x1)] [] (fun d => { d with cap := { d.cap with count := [1, 2, 3, 4, 5, 6, 7, 8], lost := [4] } }), [0xb0ab#16, 0xd17a#16,
      0x6319#16, 0x3c3c#16, 0xde25#16, 0x95cf#16, 0x3f0c#16, 0x382b#16, 0x4b30#16, 0xc739#16, 0x23c6#16, 0xb77a#16, 0xcae4#16, 0x2ced#16,
      0x9c15#16, 0x7fc0#16], by decide +kernel⟩
theorem witness_AnalysesRunAndJudge_0 : ∃ (s : State) (w : Who), s.calm ∧ s.dev.takes w pCap 0x124 ∧ s.dev.capState = cDone ∧
    getBits (s.dev.rd pCap 0x120) 0 2 ≠ 0 ∧ s.dev.anaUsable (s.dev.rd pCap 0x120) = [] ∧ (s.dev.rd pCap 0x120).getLsbD 17 = false :=
  ⟨wst [(0x12, 0x44, 0x3), (0x12, 0x120,
      0x1)] [] (fun d => { d with cap := { d.cap with count := [1, 2, 3, 4, 5, 6, 7, 8], lost := [3] } }),
      { mid := 3, sub := 1, user := false }, by decide +kernel⟩
theorem witness_AnalysesRunAndJudge_1 : ∃ (s : State) (w : Who), s.calm ∧ s.dev.takes w pCap 0x124 ∧ s.dev.capState = cDone ∧
    getBits (s.dev.rd pCap 0x120) 0 2 ≠ 0 ∧ s.dev.anaUsable (s.dev.rd pCap 0x120) ≠ [] ∧ s.dev.anaBad (s.dev.rd pCap 0x120) = true ∧
    (s.dev.rd pCap 0x120).getLsbD 17 = false :=
  ⟨wst [(0x12, 0x44, 0x3), (0x12, 0x120, 0xd010773), (0x57, 0x44,
      0x2)] [] (fun d => { d with squad := (d.squad.set 7 { d.squad.get 7 with excl := [1, 2, 5, 63] }), cap := { d.cap with count := [1, 2, 3, 4, 5, 6, 7, 8], lost := [2] } }), { mid := 2, sub := 1, user := false }, by decide +kernel⟩
theorem witness_AnalysesRunAndJudge_2 : ∃ (s : State) (w : Who), s.calm ∧ s.dev.takes w pCap 0x124 ∧ s.dev.capState = cDone ∧
    getBits (s.dev.rd pCap 0x120) 0 2 ≠ 0 ∧ s.dev.anaUsable (s.dev.rd pCap 0x120) ≠ [] ∧ s.dev.anaBad (s.dev.rd pCap 0x120) = false :=
  ⟨wst [(0x12, 0x44, 0x3), (0x12, 0x120, 0x1a00f763), (0x57, 0x44, 0x2)] [(0x12, 0x78,
      0x1)] (fun d => { d with squad := (d.squad.set 7 { d.squad.get 7 with excl := [1, 2, 5, 63] }), cap := { d.cap with count := [1, 2, 3, 4, 5, 6, 7, 8], lost := [5] } }) [(6160384, 0x3#8), (6193151, 0x3#8), (6193152, 0x3#8)], { mid := 1, sub := 3, user := false }, by decide +kernel⟩
theorem witness_AnalysesRunAndJudge_3 : ∃ (s : State) (eye : List (Nat × Nat × Nat)), s.calm ∧ s.dev.runs pCap ∧
    s.dev.capState = cAnalysing ∧ getBits s.dev.cap.anaCfg 0 2 = 3 ∧ s.dev.cap.anaCfg.getLsbD 17 = false :=
  ⟨wst [(0x12, 0x44, 0x4)] [] (fun d => { d with cap := { d.cap with count := [1, 2, 3, 4, 5, 6, 7, 8], lost := [3], anaCfg := 0x1b016e43#32, geo := [0x801c033e#32, 0x8010029b#32, 0x1e0179#32, 0x80080776#32, 0x10572#32, 0x2#32, 0x7#32, 0x80080314#32, 0xc05a1#32, 0x0#32, 0x0#32, 0x1f0576#32, 0x0#32, 0x5#32, 0xc025a#32, 0x1#32], lim := [0x0#32, 0x6#32, 0x4#32, 0x4#32, 0x3#32, 0x3#32, 0x2#32, 0x0#32, 0x5#32, 0x2#32, 0x2#32, 0x3#32, 0x2#32, 0x3#32, 0x3#32, 0x0#32], engines := [1, 2] } }) [(4980736, 0x3#8), (5013503, 0x3#8), (5013504, 0x3#8)], [(3, 4, 5), (40, 300, 7), (3, 4, 4294967295)], by decide +kernel⟩
theorem witness_AnalysesRunAndJudge_4 : ∃ (s : State) (eye : List (Nat × Nat × Nat)) (c : Nat) (a : Word), s.calm ∧ s.dev.runs pCap ∧
    s.dev.capState = cAnalysing ∧ s.dev.cap.anaCfg.getLsbD 17 = false ∧ s.dev.powered (0x50 + getBits s.dev.cap.anaCfg 8 4) = true ∧
    c < 4 :=
  ⟨wst [(0x12, 0x44, 0x4)] [] (fun d => { d with cap := { d.cap with count := [1, 2, 3, 4, 5, 6, 7, 8], lost := [3], anaCfg := 0x1b016e43#32, engines := [1, 2] } }), [(3, 4, 5), (40, 300, 7), (3, 4, 4294967295)], 2, 0x0#32, by decide +kernel⟩
theorem witness_AnalysesRunAndJudge_5 : ∃ (s : State) (w : Who), s.calm ∧ s.dev.takes w pCap 0x124 :=
  ⟨wst [] [] (fun d => { d with cap := { d.cap with count := [1, 2, 3, 4, 5, 6, 7, 8], lost := [3] } }) [(6160384, 0x3#8), (6193151,
      0x3#8), (6193152, 0x3#8)], { mid := 0, sub := 2, user := false }, by decide +kernel⟩
theorem witness_SensorsPaceAndTrip_0 : ∃ (s : State) (raws : List (BitVec 12)), let r : Nat → Int := fun i => signed 12 (raws.getD i 0).toNat; s.calm ∧ s.dev.g 0x02 fPowerState ≠ 2 ∧ s.dev.powered pTherm = true ∧ s.dev.therm.clr = 0 ∧ (∀ i < 24, s.dev.g pTherm (fTempState i) = snOk) ∧ (∀ i < 24, (2 * r i - median2 ((neighbours i).map r)).natAbs ≤ 64) ∧ s.dev.coachUp = false ∧ s.dev.trip = false ∧ (∀ i < 23, r i < signed 12 (s.dev.lg pTherm fTripThr)) :=
  ⟨wst [(0x6, 0x80, 0x0), (0x6, 0x84, 0x0), (0x6, 0x88, 0x0), (0x6, 0x8c, 0x0), (0x6, 0x90, 0x0), (0x6, 0x94, 0x0), (0x6, 0x98, 0x0), (0x6,
      0x9c, 0x0), (0x6, 0xa0, 0x0), (0x6, 0xa4, 0x0), (0x6, 0xa8, 0x0), (0x6, 0xac, 0x0), (0x6, 0xb0, 0x0), (0x6, 0xb4, 0x0), (0x6, 0xb8,
      0x0), (0x6, 0xbc, 0x0), (0x6, 0xc0, 0x0), (0x6, 0xc4, 0x0), (0x6, 0xc8, 0x0), (0x6, 0xcc, 0x0), (0x6, 0xd0, 0x0), (0x6, 0xd4, 0x0),
      (0x6, 0xd8, 0x0), (0x6, 0xdc, 0x0)] [(0x6, 0x40, 0x190), (0x6, 0x44,
      0x40200)] (fun d => { d with therm := { d.therm with count := [2, 2, 2, 1, 0, 2, 2, 2, 0, 1, 1, 0, 2, 2, 1, 1, 1, 2, 1, 1, 2, 2, 2, 0], lastOk := [none, none, none, some 235, none, some 141, some 100, some 247, none, none, some 275, some 172, some 196, none, none, some 242, some 177, some 204, none, none, some 222, none, some 133, none], reads := 4257 } }), [0x33#12, 0x2d#12, 0x36#12, 0x38#12, 0x3b#12, 0x2a#12, 0x38#12, 0x28#12, 0x29#12, 0x32#12, 0x2d#12, 0x35#12, 0x32#12, 0x29#12, 0x29#12, 0x36#12, 0x37#12, 0x30#12, 0x37#12, 0x2f#12, 0x36#12, 0x33#12, 0x29#12, 0x35#12], by dsimp only; decide +kernel⟩
theorem witness_SensorsPaceAndTrip_1 : ∃ (s : State) (raws : List (BitVec 12)), let r : Nat → Int := fun i => signed 12 (raws.getD i 0).toNat; s.calm ∧ s.dev.g 0x02 fPowerState ≠ 2 ∧ s.dev.powered pTherm = true ∧ s.dev.therm.clr = 0 ∧ (∀ i < 24, s.dev.g pTherm (fTempState i) = snOk) ∧ (∀ i < 24, (2 * r i - median2 ((neighbours i).map r)).natAbs ≤ 64) ∧ s.dev.coachUp = false ∧ s.dev.trip = false ∧ (∃ i ∈ List.range 23, signed 12 (s.dev.lg pTherm fTripThr) ≤ r i) :=
  ⟨wst [(0x6, 0x80, 0x0), (0x6, 0x84, 0x0), (0x6, 0x88, 0x0), (0x6, 0x8c, 0x0), (0x6, 0x90, 0x0), (0x6, 0x94, 0x0), (0x6, 0x98, 0x0), (0x6,
      0x9c, 0x0), (0x6, 0xa0, 0x0), (0x6, 0xa4, 0x0), (0x6, 0xa8, 0x0), (0x6, 0xac, 0x0), (0x6, 0xb0, 0x0), (0x6, 0xb4, 0x0), (0x6, 0xb8,
      0x0), (0x6, 0xbc, 0x0), (0x6, 0xc0, 0x0), (0x6, 0xc4, 0x0), (0x6, 0xc8, 0x0), (0x6, 0xcc, 0x0), (0x6, 0xd0, 0x0), (0x6, 0xd4, 0x0),
      (0x6, 0xd8, 0x0), (0x6, 0xdc, 0x0)] [(0x6, 0x40, 0x190), (0x6, 0x44,
      0x40030)] (fun d => { d with therm := { d.therm with count := [2, 2, 2, 1, 0, 2, 2, 2, 0, 1, 1, 0, 2, 2, 1, 1, 1, 2, 1, 1, 2, 2, 2, 0], lastOk := [none, none, none, some 235, none, some 141, some 100, some 247, none, none, some 275, some 172, some 196, none, none, some 242, some 177, some 204, none, none, some 222, none, some 133, none], reads := 4257 } }), [0x33#12, 0x2d#12, 0x36#12, 0x38#12, 0x3b#12, 0x2a#12, 0x38#12, 0x28#12, 0x29#12, 0x32#12, 0x2d#12, 0x35#12, 0x32#12, 0x29#12, 0x29#12, 0x36#12, 0x37#12, 0x30#12, 0x37#12, 0x2f#12, 0x36#12, 0x33#12, 0x29#12, 0x35#12], by dsimp only; decide +kernel⟩
theorem witness_SensorsPaceAndTrip_2 : ∃ (s : State) (raws : List (BitVec 12)), let r : Nat → Int := fun i => signed 12 (raws.getD i 0).toNat; s.calm ∧ s.dev.g 0x02 fPowerState ≠ 2 ∧ s.dev.powered pTherm = true ∧ s.dev.therm.clr = 0 ∧ (∀ i < 24, s.dev.g pTherm (fTempState i) = snOk) ∧ (∀ i < 24, (2 * r i - median2 ((neighbours i).map r)).natAbs ≤ 64) ∧ s.dev.coachUp = true ∧ s.dev.trip = false ∧ (∀ i < 23, r i < signed 12 (s.dev.lg pTherm fTripThr)) ∧ (∀ n : Lane, s.dev.g pTherm (fLevel n) = 7 ∧ s.dev.laneState n ∉ [stTrain, stRun, stHold]) ∧ s.dev.therm.lastStep = List.replicate 8 none ∧ s.dev.lg pTherm fPaceScope = 0 ∧ (∀ n : Lane, 1 ≤ shed (max (r n.val) (r (coreSensor n.val)) - signed 12 (s.dev.lg pTherm fTPace)) (s.dev.lg pTherm fPaceGain)) :=
  ⟨wst [(0x6, 0x80, 0x0), (0x6, 0x84, 0x0), (0x6, 0x88, 0x0), (0x6, 0x8c, 0x0), (0x6, 0x90, 0x0), (0x6, 0x94, 0x0), (0x6, 0x98, 0x0), (0x6,
      0x9c, 0x0), (0x6, 0xa0, 0x0), (0x6, 0xa4, 0x0), (0x6, 0xa8, 0x0), (0x6, 0xac, 0x0), (0x6, 0xb0, 0x0), (0x6, 0xb4, 0x0), (0x6, 0xb8,
      0x0), (0x6, 0xbc, 0x0), (0x6, 0xc0, 0x0), (0x6, 0xc4, 0x0), (0x6, 0xc8, 0x0), (0x6, 0xcc, 0x0), (0x6, 0xd0, 0x0), (0x6, 0xd4, 0x0),
      (0x6, 0xd8, 0x0), (0x6, 0xdc, 0x0), (0x21, 0x44, 0x1), (0x25, 0x44, 0x1)] [(0x6, 0x40, 0x4140), (0x6, 0x44,
      0x40200)] (fun d => { d with therm := { d.therm with count := [1, 2, 2, 1, 1, 2, 0, 1, 1, 2, 2, 2, 2, 2, 2, 2, 1, 0, 1, 2, 0, 1, 0, 2], lastOk := [some 179, some 215, some 278, some 174, none, some 233, none, none, some 177, none, none, none, some 237, none, none, none, none, some 260, some 209, none, some 125, some 280, some 275, some 207], release := 4, reads := 3593 }, coachUp := true }), [0x161#12, 0x166#12, 0x156#12, 0x165#12, 0x160#12, 0x166#12, 0x154#12, 0x15d#12, 0x163#12, 0x161#12, 0x164#12, 0x15b#12, 0x162#12, 0x15b#12, 0x15a#12, 0x15c#12, 0x155#12, 0x165#12, 0x15e#12, 0x15b#12, 0x166#12, 0x161#12, 0x157#12, 0x15d#12], by dsimp only; decide +kernel⟩
theorem witness_SensorsPaceAndTrip_3 : ∃ (s : State) (raws : List (BitVec 12)) (j : Nat), let r : Nat → Int := fun i => signed 12 (raws.getD i 0).toNat; s.calm ∧ s.dev.g 0x02 fPowerState ≠ 2 ∧ s.dev.powered pTherm = true ∧ s.dev.therm.clr = 0 ∧ (∀ i < 24, s.dev.g pTherm (fTempState i) = snOk) ∧ j < 24 ∧ 64 < (2 * r j - median2 ((neighbours j).map r)).natAbs ∧ s.dev.coachUp = false ∧ s.dev.trip = false ∧ s.dev.therm.count.getD j 0 < 2 :=
  ⟨wst [(0x6, 0x80, 0x0), (0x6, 0x84, 0x0), (0x6, 0x88, 0x0), (0x6, 0x8c, 0x0), (0x6, 0x90, 0x0), (0x6, 0x94, 0x0), (0x6, 0x98, 0x0), (0x6,
      0x9c, 0x0), (0x6, 0xa0, 0x0), (0x6, 0xa4, 0x0), (0x6, 0xa8, 0x0), (0x6, 0xac, 0x0), (0x6, 0xb0, 0x0), (0x6, 0xb4, 0x0), (0x6, 0xb8,
      0x0), (0x6, 0xbc, 0x0), (0x6, 0xc0, 0x0), (0x6, 0xc4, 0x0), (0x6, 0xc8, 0x0), (0x6, 0xcc, 0x0), (0x6, 0xd0, 0x0), (0x6, 0xd4, 0x0),
      (0x6, 0xd8, 0x0), (0x6, 0xdc, 0x0)] [(0x6, 0x40, 0x190), (0x6, 0x44,
      0x40200)] (fun d => { d with therm := { d.therm with lastOk := [some 191, some 137, some 123, none, none, none, none, none, some 131, some 140, some 218, none, some 231, none, some 291, none, some 256, none, none, none, some 181, some 117, some 264, none], reads := 7229 } }), [0x36#12, 0x2b#12, 0xa0#12, 0x2c#12, 0x32#12, 0x31#12, 0x33#12, 0x31#12, 0x2c#12, 0x2a#12, 0x2b#12, 0x2b#12, 0x31#12, 0x39#12, 0x35#12, 0x2a#12, 0x2a#12, 0x36#12, 0x31#12, 0x29#12, 0x3a#12, 0x36#12, 0x39#12, 0x2e#12], 2, by dsimp only; decide +kernel⟩
theorem witness_SensorsPaceAndTrip_4 : ∃ (s : State) (raws : List (BitVec 12)) (j : Nat), let r : Nat → Int := fun i => signed 12 (raws.getD i 0).toNat; s.calm ∧ s.dev.g 0x02 fPowerState ≠ 2 ∧ s.dev.powered pTherm = true ∧ s.dev.therm.clr = 0 ∧ (∀ i < 24, s.dev.g pTherm (fTempState i) = snOk) ∧ j < 24 ∧ 64 < (2 * r j - median2 ((neighbours j).map r)).natAbs ∧ (∀ i ∈ neighbours j, (2 * r i - median2 ((neighbours i).map r)).natAbs ≤ 64) ∧ s.dev.coachUp = false ∧ s.dev.trip = false ∧ s.dev.therm.count.getD j 0 = 2 :=
  ⟨wst [(0x6, 0x80, 0x0), (0x6, 0x84, 0x0), (0x6, 0x88, 0x0), (0x6, 0x8c, 0x0), (0x6, 0x90, 0x0), (0x6, 0x94, 0x0), (0x6, 0x98, 0x0), (0x6,
      0x9c, 0x0), (0x6, 0xa0, 0x0), (0x6, 0xa4, 0x0), (0x6, 0xa8, 0x0), (0x6, 0xac, 0x0), (0x6, 0xb0, 0x0), (0x6, 0xb4, 0x0), (0x6, 0xb8,
      0x0), (0x6, 0xbc, 0x0), (0x6, 0xc0, 0x0), (0x6, 0xc4, 0x0), (0x6, 0xc8, 0x0), (0x6, 0xcc, 0x0), (0x6, 0xd0, 0x0), (0x6, 0xd4, 0x0),
      (0x6, 0xd8, 0x0), (0x6, 0xdc, 0x0)] [(0x6, 0x40, 0x190), (0x6, 0x44,
      0x40200)] (fun d => { d with therm := { d.therm with count := [0, 0, 0, 0, 0, 0, 0, 0, 0, 0, 0, 0, 0, 0, 0, 0, 0, 0, 2, 0, 0, 0, 0, 0], lastOk := [none, none, none, some 235, none, some 141, some 100, some 247, none, none, some 275, some 172, some 196, none, none, some 242, some 177, some 204, some 123, none, some 222, none, some 133, none], reads := 4257 } }), [0x33#12, 0x2d#12, 0x36#12, 0x38#12, 0x3b#12, 0x2a#12, 0x38#12, 0x28#12, 0x29#12, 0x32#12, 0x2d#12, 0x35#12, 0x32#12, 0x29#12, 0x29#12, 0x36#12, 0x37#12, 0x30#12, 0xa0#12, 0x2f#12, 0x36#12, 0x33#12, 0x29#12, 0x35#12], 18, by dsimp only; decide +kernel⟩
theorem witness_SensorsPaceAndTrip_5 : ∃ (s : State) (w : Who) (v : Word), s.calm ∧ s.dev.takes w pTherm 0x05C :=
  ⟨wst [] [(0x6, 0x40, 0x190), (0x6, 0x44,
      0x40200)] (fun d => { d with therm := { d.therm with count := [2, 2, 2, 1, 0, 2, 2, 2, 0, 1, 1, 0, 2, 2, 1, 1, 1, 2, 1, 1, 2, 2, 2, 0], lastOk := [none, none, none, some 235, none, some 141, some 100, some 247, none, none, some 275, some 172, some 196, none, none, some 242, some 177, some 204, none, none, some 222, none, some 133, none], reads := 4257 } }), { mid := 3, sub := 1, user := false }, 0xffffffff#32, by decide +kernel⟩
theorem witness_CalibrationRequestsAndRestores_0 : ∃ (s : State), s.calm ∧ s.dev.runs pCal ∧ s.dev.coachUp = true ∧
    s.dev.b pCal fTempEn = true ∧ s.dev.b pCal fDeferred = false ∧ s.dev.b pCal fCalMadcEn = false :=
  ⟨wst [(0x6, 0x80, 0xc07b0000), (0x6, 0x84, 0xc0650000), (0x6, 0x88, 0xc0710000), (0x6, 0x8c, 0xc06d0000), (0x6, 0x90, 0xc0710000), (0x6,
      0x94, 0xc0930000), (0x6, 0x98, 0xc0830000), (0x6, 0x9c, 0xc0640000), (0x17, 0x40, 0x508), (0x17, 0x50, 0x820078), (0x17, 0x54,
      0x820078), (0x17, 0x58, 0x820078), (0x17, 0x5c, 0x820078), (0x17, 0x60, 0x820078), (0x17, 0x64, 0x820078), (0x17, 0x68, 0x820078),
      (0x17, 0x6c, 0x820078)] [] (fun d => { d with cal := { d.cal with seqA := 0x7#32, seqB := 0xe7d051b4#32 }, coachUp := true }),
      by decide +kernel⟩
theorem witness_CalibrationRequestsAndRestores_1 : ∃ (s : State), s.calm ∧ (s.dev.coachUp = false ∨ (s.dev.b pCal fTempEn = false ∧
    s.dev.b pCal fDeferred = false)) :=
  ⟨wst [] [] (fun d => { d with cal := { d.cal with seqA := 0x4d4c2194#32, seqB := 0x207e8b53#32 } }), by decide +kernel⟩
theorem witness_CalibrationRequestsAndRestores_2 : ∃ (s : State) (w : Who) (v : Word), s.calm ∧ s.dev.takes w pCal 0x048 :=
  ⟨wst [] [] (fun d => { d with cal := { d.cal with seqA := 0x7#32, seqB := 0xe7d051b4#32 } }), { mid := 0, sub := 1, user := false },
      0x41dc9157#32, by decide +kernel⟩
theorem witness_CalibrationRequestsAndRestores_3 : ∃ (s : State) (w : Who) (n : Lane) (v : Word) (x : CalSet), s.calm ∧
    s.dev.takes w pCal 0x048 ∧ getBits v 0 9 = 2 ^ n.val ∧ (s.dev.lx n).run = none ∧ (s.dev.lx n).prev = some x ∧ x.words.length = 256 ∧
    (s.dev.tx n).run = none ∧ (s.dev.tx n).prev = none :=
  ⟨wst [] [] (fun d => { d with lrx := (d.lrx.set 6 { d.lrx.get 6 with prev := some { words := (List.replicate 256 0x7#32) } }), cal := { d.cal with seqA := 0x7#32, seqB := 0xe7d051b4#32 } }), { mid := 0, sub := 1, user := false }, 6, 0x40#32, { words := (List.replicate 256 0x7#32) }, by decide +kernel⟩
theorem witness_CalibrationRequestsAndRestores_4 : ∃ (s : State) (w : Who) (n : Lane) (v : Word) (x : CalSet), s.calm ∧
    s.dev.takes w pCal 0x048 ∧ getBits v 0 9 = 2 ^ n.val ∧ (s.dev.tx n).run = none ∧ (s.dev.tx n).prev = some x ∧ x.words.length = 8 ∧
    (s.dev.lx n).run = none ∧ (s.dev.lx n).prev = none :=
  ⟨wst [] [] (fun d => { d with ltx := (d.ltx.set 6 { d.ltx.get 6 with prev := some { words := (List.replicate 8 0x7#32) } }), cal := { d.cal with seqA := 0x7#32, seqB := 0xe7d051b4#32 } }), { mid := 0, sub := 1, user := false }, 6, 0x40#32, { words := (List.replicate 8 0x7#32) }, by decide +kernel⟩
theorem witness_CalibrationRequestsAndRestores_5 : ∃ (s : State) (w : Who) (v : Word), s.calm ∧ s.dev.takes w pCal 0x048 ∧
    v.getLsbD 8 = false ∧ (∀ n : Lane, v.getLsbD n.val = true → (s.dev.lx n).prev = none ∧ (s.dev.tx n).prev = none) :=
  ⟨wst [] [] (fun d => { d with cal := { d.cal with seqA := 0x7#32, seqB := 0xe7d051b4#32 } }), { mid := 0, sub := 1, user := false },
      0x57#32, by decide +kernel⟩
theorem witness_CalibrationRequestsAndRestores_6 : ∃ (s : State) (w : Who) (v : Word), s.calm ∧ s.dev.takes w pCal 0x048 ∧
    s.dev.b pCal fStoreBusy = false ∧ s.dev.newest = none :=
  ⟨wst [] [] (fun d => { d with cal := { d.cal with seqA := 0x7#32, seqB := 0xe7d051b4#32 } }), { mid := 0, sub := 1, user := false },
      0x41dc9157#32, by decide +kernel⟩
theorem witness_CalibrationRequestsAndRestores_7 : ∃ (s : State) (w : Who) (v : Word), s.calm ∧ s.dev.takes w pCal 0x048 ∧
    s.dev.b pCal fStoreBusy = true :=
  ⟨wst [(0x17, 0x4c, 0x1)] [] (fun d => { d with cal := { d.cal with seqA := 0x7#32, seqB := 0xe7d051b4#32 } }),
      { mid := 0, sub := 1, user := false }, 0x41dc9157#32, by decide +kernel⟩
theorem witness_CalibrationRequestsAndRestores_8 : ∃ (s : State) (w : Who) (n : Lane) (v : Word) (c : Bool), s.calm ∧
    s.dev.takes w pCal 0x048 ∧ s.dev.b pCal fStoreBusy = false ∧ s.dev.newest = some c ∧ getBits v 0 9 = 2 ^ n.val ∧
    (s.dev.lx n).run = none ∧ (s.dev.tx n).run = none :=
  ⟨wst [(0x17, 0x4c, 0x18)] [] (fun d => { d with cal := { d.cal with seqA := 0xb1acfba2#32, seqB := 0xe59a5760#32 } }),
      { mid := 3, sub := 0, user := false }, 6, 0x40#32, true, by decide +kernel⟩
theorem witness_StoreWritesVerifyAndRetry_0 : ∃ (s : State) (w : Who) (v : Word), s.calm ∧ s.dev.takes w pCal 0x048 ∧
    s.dev.b pCal fStoreBusy = false ∧ s.dev.b pTherm fFlashOk = true :=
  ⟨wst [(0x6, 0x60, 0x2)] [] (fun d => { d with cal := { d.cal with seqA := 0x7#32, seqB := 0xe7d051b4#32 } }) [(58720255, 0x2#8),
      (58720256, 0x2#8), (58736639, 0x2#8), (58736640, 0x2#8), (58753023, 0x2#8), (58753024, 0x2#8)],
      { mid := 0, sub := 1, user := false }, 0x41dc9157#32, by decide +kernel⟩
theorem witness_StoreWritesVerifyAndRetry_1 : ∃ (s : State) (w : Who) (v : Word), s.calm ∧ s.dev.takes w pCal 0x048 ∧
    s.dev.b pCal fStoreBusy = false ∧ s.dev.b pTherm fFlashOk = false ∧ s.dev.b pCal fDeferred = false :=
  ⟨wst [] [] (fun d => { d with cal := { d.cal with seqA := 0x7#32, seqB := 0xe7d051b4#32 } }) [(58720255, 0x2#8), (58720256, 0x2#8),
      (58736639, 0x2#8), (58736640, 0x2#8), (58753023, 0x2#8), (58753024, 0x2#8)], { mid := 0, sub := 1, user := false }, 0x41dc9157#32,
      by decide +kernel⟩
theorem witness_StoreWritesVerifyAndRetry_2 : ∃ (s : State) (w : Who) (v : Word), s.calm ∧ s.dev.takes w pCal 0x048 ∧
    s.dev.b pCal fStoreBusy = true :=
  ⟨wst [(0x17, 0x4c, 0x1)] [] (fun d => { d with cal := { d.cal with seqA := 0x7#32, seqB := 0xe7d051b4#32 } }) [(58720255, 0x2#8),
      (58720256, 0x2#8), (58736639, 0x2#8), (58736640, 0x2#8), (58753023, 0x2#8), (58753024, 0x2#8)],
      { mid := 0, sub := 1, user := false }, 0x41dc9157#32, by decide +kernel⟩
theorem witness_StoreWritesVerifyAndRetry_3 : ∃ (s : State), s.calm ∧ s.dev.runs pCal ∧ s.dev.coachUp = true ∧
    s.dev.b pCal fStorePending = true ∧ s.dev.b pCal fStoreBusy = false ∧ s.dev.b pTherm fFlashOk = true :=
  ⟨wst [(0x6, 0x60, 0x2), (0x17, 0x4c,
      0x2)] [] (fun d => { d with cal := { d.cal with seqA := 0x7#32, seqB := 0xe7d051b4#32 }, coachUp := true }) [(58720255, 0x2#8),
      (58720256, 0x2#8), (58736639, 0x2#8), (58736640, 0x2#8), (58753023, 0x2#8), (58753024, 0x2#8)], by decide +kernel⟩
theorem witness_StoreWritesVerifyAndRetry_4 : ∃ (s : State), s.calm ∧ (s.dev.coachUp = false ∨ s.dev.b pCal fStorePending = false) :=
  ⟨wst [] [] (fun d => { d with cal := { d.cal with seqA := 0xffffffff#32, retry := true } }) [(58720255, 0x2#8), (58720256, 0x2#8),
      (58736639, 0x2#8), (58736640, 0x2#8), (58753023, 0x2#8), (58753024, 0x2#8)], by decide +kernel⟩
theorem witness_StoreWritesVerifyAndRetry_5 : ∃ (s : State) (b : Bool), s.calm ∧ s.dev.runs pCal ∧ s.dev.cal.copy = some b ∧
    s.dev.cal.reload = none :=
  ⟨wst [] [] (fun d => { d with cal := { d.cal with seqA := 0x7#32, seqB := 0xe7d051b4#32, copy := some false } }) [(58720255, 0x2#8),
      (58720256, 0x2#8), (58736639, 0x2#8), (58736640, 0x2#8), (58753023, 0x2#8), (58753024, 0x2#8)], false, by decide +kernel⟩
theorem witness_StoreWritesVerifyAndRetry_6 : ∃ (s : State) (b : Bool) (x : Word), s.calm ∧ s.dev.runs pCal ∧ s.dev.cal.copy = some b ∧
    s.dev.cal.reload = none ∧ x ≠ 0 ∧ s.dev.b pCal (fCopyOk b) = false :=
  ⟨wst [] [] (fun d => { d with cal := { d.cal with seqA := 0xffffffff#32, copy := some true, retry := true } }) [(58720255, 0x2#8),
      (58720256, 0x2#8), (58736639, 0x2#8), (58736640, 0x2#8), (58753023, 0x2#8), (58753024, 0x2#8)], true, 0xd17b7eeb#32,
      by decide +kernel⟩
theorem witness_SequencersStartAndStop_0 : ∃ (s : State) (w : Who) (u : Fin 2) (v : Word), s.calm ∧ s.dev.takes w (pMadc u) 0x040 ∧
    v.getLsbD 0 = false ∧ v.getLsbD 1 = false ∧ v.getLsbD 2 = false ∧ s.dev.interleaved = false :=
  ⟨wst [] [] (fun d => { d with filt := { d.filt with outs := [35, 0, 5, 24, 3, 16, 17, 1], faded := [4, 2, 13, 12, 3, 8, 7, 13] } }),
      { mid := 2, sub := 1, user := false }, 0, 0x9251c858#32, by decide +kernel⟩
theorem witness_SequencersStartAndStop_1 : ∃ (s : State) (w : Who) (u : Fin 2) (v : Word), s.calm ∧ s.dev.takes w (pMadc u) 0x040 ∧
    v.getLsbD 0 = true ∧ v.getLsbD 1 = false ∧ v.getLsbD 2 = false :=
  ⟨wst [] [] (fun d => { d with filt := { d.filt with outs := [35, 0, 5, 24, 3, 16, 17, 1], faded := [4, 2, 13, 12, 3, 8, 7, 13] } }),
      { mid := 2, sub := 1, user := false }, 0, 0x9251c859#32, by decide +kernel⟩
theorem witness_SequencersStartAndStop_2 : ∃ (s : State) (w : Who) (u : Fin 2) (v : Word), s.calm ∧ s.dev.takes w (pMadc u) 0x040 ∧
    v.getLsbD 0 = true ∧ v.getLsbD 2 = false ∧ s.dev.interleaved = false ∧ s.dev.g (pMadc u) fSeqState = 0 ∧ (s.dev.md u).powered = true :=
  ⟨wst [] [] (fun d => { d with madc := (d.madc.set 0 { d.madc.get 0 with powered := true }), filt := { d.filt with outs := [35, 0, 5, 24, 3, 16, 17, 1], faded := [4, 2, 13, 12, 3, 8, 7, 13] } }), { mid := 2, sub := 1, user := false }, 0, 0x9251c859#32, by decide +kernel⟩
theorem witness_SequencersStartAndStop_3 : ∃ (s : State) (w : Who) (u : Fin 2) (v : Word), s.calm ∧ s.dev.takes w (pMadc u) 0x040 ∧
    v.getLsbD 0 = true ∧ v.getLsbD 2 = false ∧ s.dev.interleaved = false ∧ s.dev.g (pMadc u) fSeqState = 0 ∧ (s.dev.md u).powered = false :=
  ⟨wst [] [] (fun d => { d with filt := { d.filt with outs := [35, 0, 5, 24, 3, 16, 17, 1], faded := [4, 2, 13, 12, 3, 8, 7, 13] } }),
      { mid := 2, sub := 1, user := false }, 0, 0x9251c859#32, by decide +kernel⟩
theorem witness_SequencersStartAndStop_4 : ∃ (s : State) (u : Fin 2), s.calm ∧ s.dev.runs (pMadc u) ∧ s.dev.b (pMadc u) fEn = true ∧
    (s.dev.md u).powered = false ∧ (s.dev.md u).starting = true ∧ s.dev.g (pMadc u) fSeqState = 0 ∧ s.dev.interleaved = false :=
  ⟨wst [(0xe, 0x40, 0x1)] [] (fun d => { d with madc := (d.madc.set 0 { d.madc.get 0 with starting := true }), filt := { d.filt with outs := [35, 0, 5, 24, 3, 16, 17, 1], faded := [4, 2, 13, 12, 3, 8, 7, 13] } }), 0, by decide +kernel⟩
theorem witness_SequencersStartAndStop_5 : ∃ (s : State) (u : Fin 2), s.calm ∧ s.dev.runs (pMadc u) ∧ s.dev.b (pMadc u) fEn = true ∧
    (s.dev.md u).powered = false ∧ (s.dev.md u).starting = false :=
  ⟨wst [(0xe, 0x40, 0x1)] [] (fun d => { d with filt := { d.filt with outs := [35, 0, 5, 24, 3, 16, 17, 1], faded := [4, 2, 13, 12, 3, 8, 7, 13] } }), 0, by decide +kernel⟩
theorem witness_SequencersStartAndStop_6 : ∃ (s : State) (w : Who) (u : Fin 2) (v : Word), s.calm ∧ s.dev.takes w (pMadc u) 0x040 ∧
    v.getLsbD 0 = true ∧ s.dev.interleaved = false ∧ s.dev.g (pMadc u) fSeqState = 1 ∧ (s.dev.md u).pass = true :=
  ⟨wst [(0xe, 0x44, 0x1)] [] (fun d => { d with madc := (d.madc.set 0 { d.madc.get 0 with pass := true }), filt := { d.filt with outs := [35, 0, 5, 24, 3, 16, 17, 1], faded := [4, 2, 13, 12, 3, 8, 7, 13] } }), { mid := 2, sub := 1, user := false }, 0, 0x9251c859#32, by decide +kernel⟩
theorem witness_SequencersStartAndStop_7 : ∃ (s : State) (w : Who) (u : Fin 2) (v : Word), s.calm ∧ s.dev.takes w (pMadc u) 0x040 ∧
    v.getLsbD 0 = true ∧ s.dev.interleaved = false ∧ (s.dev.md u).pass = false :=
  ⟨wst [] [] (fun d => { d with filt := { d.filt with outs := [35, 0, 5, 24, 3, 16, 17, 1], faded := [4, 2, 13, 12, 3, 8, 7, 13] } }),
      { mid := 2, sub := 1, user := false }, 0, 0x9251c859#32, by decide +kernel⟩
theorem witness_SequencersStartAndStop_8 : ∃ (s : State) (u : Fin 2) (late : Bool), s.calm ∧ s.dev.runs (pMadc u) ∧
    s.dev.g (pMadc u) fSeqState = 1 ∧ (s.dev.md u).powered = true ∧ (s.dev.md u).pass = false :=
  ⟨wst [(0xf, 0x44, 0x1)] [] (fun d => { d with madc := (d.madc.set 1 { d.madc.get 1 with powered := true }), filt := { d.filt with outs := [39, 10, 16, 34, 9, 4, 13, 13], faded := [2, 9, 8, 3, 6, 7, 15, 7] } }), 1, true, by decide +kernel⟩
theorem witness_ConversionsEnterResults_0 : ∃ (s : State) (u : Fin 2) (x : Conv), s.calm ∧ s.dev.runs (pMadc u) ∧
    s.dev.interleaved = false ∧ s.dev.g (pMadc u) fSeqState = 1 ∧ (s.dev.md u).pass = true ∧ s.dev.b (pMadc u) fUrgBusy = false ∧
    (s.dev.md u).stopping = false ∧ s.dev.lg (pMadc u) (fEntryOw (s.dev.g (pMadc u) fSeqEntry)) = 0 ∧
    (s.dev.g (pMadc u) fSeqEntry) < s.dev.lg (pMadc u) fSeqLast :=
  ⟨wst [(0xe, 0x44, 0x1)] [(0xe, 0x48,
      0x10003)] (fun d => { d with madc := (d.madc.set 0 { d.madc.get 0 with pass := true }), filt := { d.filt with outs := [35, 0, 5, 24, 3, 16, 17, 1], faded := [4, 2, 13, 12, 3, 8, 7, 13] } }), 0, { up := 0xd42c#16, down := 0x395d#16 }, by decide +kernel⟩
theorem witness_ConversionsEnterResults_1 : ∃ (s : State) (u : Fin 2) (x : Conv), s.calm ∧ s.dev.runs (pMadc u) ∧
    s.dev.interleaved = false ∧ s.dev.g (pMadc u) fSeqState = 1 ∧ (s.dev.md u).pass = true ∧ s.dev.b (pMadc u) fUrgBusy = false ∧
    (s.dev.md u).stopping = false ∧ s.dev.lg (pMadc u) (fEntryOw (s.dev.g (pMadc u) fSeqEntry)) = 1 ∧
    (s.dev.g (pMadc u) fSeqEntry) < s.dev.lg (pMadc u) fSeqLast :=
  ⟨wst [(0xe, 0x44, 0x1)] [(0xe, 0x48, 0x10003), (0xe, 0x80,
      0x20)] (fun d => { d with madc := (d.madc.set 0 { d.madc.get 0 with pass := true }), filt := { d.filt with outs := [35, 0, 5, 24, 3, 16, 17, 1], faded := [4, 2, 13, 12, 3, 8, 7, 13] } }), 0, { up := 0xd42c#16, down := 0x395d#16 }, by decide +kernel⟩
theorem witness_ConversionsEnterResults_2 : ∃ (s : State) (u : Fin 2) (x : Conv), s.calm ∧ s.dev.runs (pMadc u) ∧
    s.dev.interleaved = false ∧ s.dev.g (pMadc u) fSeqState = 1 ∧ (s.dev.md u).pass = true ∧ s.dev.b (pMadc u) fUrgBusy = false ∧
    (s.dev.md u).stopping = false ∧ s.dev.lg (pMadc u) (fEntryOw (s.dev.g (pMadc u) fSeqEntry)) = 0 ∧
    (s.dev.g (pMadc u) fSeqEntry) = s.dev.lg (pMadc u) fSeqLast ∧ s.dev.lg (pMadc u) fSeqMode = 0 :=
  ⟨wst [(0xe, 0x44, 0x1)] [(0xe, 0x48,
      0x0)] (fun d => { d with madc := (d.madc.set 0 { d.madc.get 0 with pass := true }), filt := { d.filt with outs := [35, 0, 5, 24, 3, 16, 17, 1], faded := [4, 2, 13, 12, 3, 8, 7, 13] } }), 0, { up := 0xd42c#16, down := 0x395d#16 }, by decide +kernel⟩
theorem witness_ConversionsEnterResults_3 : ∃ (s : State) (u : Fin 2) (x : Conv), s.calm ∧ s.dev.runs (pMadc u) ∧
    s.dev.interleaved = false ∧ s.dev.g (pMadc u) fSeqState = 1 ∧ (s.dev.md u).pass = true ∧ s.dev.b (pMadc u) fUrgBusy = false ∧
    (s.dev.md u).stopping = false ∧ s.dev.lg (pMadc u) (fEntryOw (s.dev.g (pMadc u) fSeqEntry)) = 0 ∧
    (s.dev.g (pMadc u) fSeqEntry) = s.dev.lg (pMadc u) fSeqLast ∧ s.dev.lg (pMadc u) fSeqMode ≠ 0 :=
  ⟨wst [(0xe, 0x44, 0x1)] [(0xe, 0x48,
      0x10100)] (fun d => { d with madc := (d.madc.set 0 { d.madc.get 0 with pass := true }), filt := { d.filt with outs := [35, 0, 5, 24, 3, 16, 17, 1], faded := [4, 2, 13, 12, 3, 8, 7, 13] } }), 0, { up := 0xd42c#16, down := 0x395d#16 }, by decide +kernel⟩
theorem witness_ConversionsEnterResults_4 : ∃ (s : State) (w : Who) (u : Fin 2) (v : Word), s.calm ∧ s.dev.takes w (pMadc u) 0x04C ∧
    s.dev.b (pMadc u) fUrgBusy = false ∧ s.dev.b (pMadc u) fEn = true ∧ s.dev.interleaved = false :=
  ⟨wst [(0xe, 0x40, 0x1)] [] (fun d => { d with filt := { d.filt with outs := [35, 0, 5, 24, 3, 16, 17, 1], faded := [4, 2, 13, 12, 3, 8, 7, 13] } }), { mid := 2, sub := 1, user := false }, 0, 0x9251c858#32, by decide +kernel⟩
theorem witness_ConversionsEnterResults_5 : ∃ (s : State) (w : Who) (u : Fin 2) (v : Word), s.calm ∧ s.dev.takes w (pMadc u) 0x04C ∧
    s.dev.b (pMadc u) fUrgBusy = true :=
  ⟨wst [(0xe, 0x50, 0x80000000)] [] (fun d => { d with filt := { d.filt with outs := [35, 0, 5, 24, 3, 16, 17, 1], faded := [4, 2, 13, 12, 3, 8, 7, 13] } }), { mid := 2, sub := 1, user := false }, 0, 0x9251c858#32, by decide +kernel⟩
theorem witness_ConversionsEnterResults_6 : ∃ (s : State) (w : Who) (u : Fin 2) (v : Word), s.calm ∧ s.dev.takes w (pMadc u) 0x04C ∧
    s.dev.b (pMadc u) fUrgBusy = false ∧ (s.dev.b (pMadc u) fEn = false ∨ s.dev.interleaved = true) :=
  ⟨wst [] [] (fun d => { d with filt := { d.filt with outs := [35, 0, 5, 24, 3, 16, 17, 1], faded := [4, 2, 13, 12, 3, 8, 7, 13] } }),
      { mid := 2, sub := 1, user := false }, 0, 0x9251c858#32, by decide +kernel⟩
theorem witness_ConversionsEnterResults_7 : ∃ (s : State) (u : Fin 2) (x : Conv), s.calm ∧ s.dev.runs (pMadc u) ∧
    s.dev.b (pMadc u) fUrgBusy = true ∧ (s.dev.md u).powered = true :=
  ⟨wst [(0xe, 0x50, 0x80000000)] [] (fun d => { d with madc := (d.madc.set 0 { d.madc.get 0 with powered := true }), filt := { d.filt with outs := [35, 0, 5, 24, 3, 16, 17, 1], faded := [4, 2, 13, 12, 3, 8, 7, 13] } }), 0, { up := 0xd42c#16, down := 0x395d#16 }, by decide +kernel⟩
theorem witness_ConversionsEnterResults_8 : ∃ (s : State), s.calm :=
  ⟨wst [] [] (fun d => { d with filt := { d.filt with outs := [35, 0, 5, 24, 3, 16, 17, 1], faded := [4, 2, 13, 12, 3, 8, 7, 13] } }),
      by decide +kernel⟩
theorem witness_ConversionsEnterResults_9 : ∃ (s : State) (u : Fin 2) (x : BitVec 16), s.calm ∧ s.dev.runs (pMadc u) ∧
    s.dev.b (pMadc u) fOfsBusy = true :=
  ⟨wst [(0xe, 0x44, 0x2000)] [] (fun d => { d with filt := { d.filt with outs := [35, 0, 5, 24, 3, 16, 17, 1], faded := [4, 2, 13, 12, 3, 8, 7, 13] } }), 0, 0xd42c#16, by decide +kernel⟩
theorem witness_SyncResetAndFilterOutputs_0 : ∃ (s : State) (rising : Bool), s.calm ∧ (s.dev.g pFilt fSyncEdge = 3 ∨
    s.dev.g pFilt fSyncEdge = (if rising then 1 else 2)) ∧ s.dev.b pFilt fSyncEn = false ∧ s.dev.interleaved = false :=
  ⟨wst [] [] (fun d => { d with filt := { d.filt with outs := [25, 0, 28, 21, 35, 41, 28, 4], faded := [0, 6, 2, 2, 11, 10, 2, 5] } }),
      true, by decide +kernel⟩
theorem witness_SyncResetAndFilterOutputs_1 : ∃ (s : State) (rising : Bool), s.calm ∧ s.dev.runs pFilt ∧ s.dev.g pFilt fSyncEdge = 3 ∧
    s.dev.b pFilt fSyncEn = true ∧ s.dev.b pFilt fFltFade = false ∧ (∀ u : Fin 2, s.dev.lg (pMadc u) fSeqSync = 0) :=
  ⟨wst [(0x10, 0x40, 0xe)] [] (fun d => { d with filt := { d.filt with outs := [25, 0, 28, 21, 35, 41, 28, 4], faded := [0, 6, 2, 2, 11, 10, 2, 5] } }), true, by decide +kernel⟩
theorem witness_SyncResetAndFilterOutputs_2 : ∃ (s : State) (rising : Bool), s.calm ∧ s.dev.g pFilt fSyncEdge ≠ 3 ∧
    s.dev.g pFilt fSyncEdge ≠ (if rising then 1 else 2) :=
  ⟨wst [] [] (fun d => { d with filt := { d.filt with outs := [35, 0, 5, 24, 3, 16, 17, 1], faded := [4, 2, 13, 12, 3, 8, 7, 13] } }),
      false, by decide +kernel⟩
theorem witness_SyncResetAndFilterOutputs_3 : ∃ (s : State) (w : Who) (v : Word), s.calm ∧ s.dev.takes w pFilt 0x040 ∧
    s.dev.b pFilt fFltFade = false :=
  ⟨wst [] [] (fun d => { d with filt := { d.filt with outs := [35, 0, 5, 24, 3, 16, 17, 1], faded := [4, 2, 13, 12, 3, 8, 7, 13] } }),
      { mid := 2, sub := 1, user := false }, 0x9251c858#32, by decide +kernel⟩
theorem witness_SyncResetAndFilterOutputs_4 : ∃ (s : State) (c : Fin 8) (live nw : Int), s.calm ∧ s.dev.runs pFilt ∧
    s.dev.chanOn c.val = true ∧ s.dev.b pFilt (fStarved c.val) = false ∧ s.dev.b pFilt fFltFade = false ∧ s.dev.filt.outs.length = 8 :=
  ⟨wst [] [(0x10, 0x98,
      0x1)] (fun d => { d with filt := { d.filt with outs := [35, 0, 5, 24, 3, 16, 17, 1], faded := [4, 2, 13, 12, 3, 8, 7, 13] } }), 6,
      2511267, 4, by decide +kernel⟩
theorem witness_SyncResetAndFilterOutputs_5 : ∃ (s : State) (c : Fin 8) (live nw : Int), s.calm ∧ (s.dev.chanOn c.val = false ∨
    s.dev.b pFilt (fStarved c.val) = true) :=
  ⟨wst [(0x10, 0x44, 0x1000000)] [] (fun d => { d with filt := { d.filt with outs := [0, 31, 16, 19, 3, 38, 5, 22], faded := [3, 8, 1, 15, 10, 2, 12, 6] } }), 0, 2725928, 4, by decide +kernel⟩
theorem witness_DacChannelsTrackAndSwitch_0 : ∃ (s : State) (c : Fin 8), s.calm ∧ s.dev.runs pHdac ∧ s.dev.walks = false ∧
    s.dev.tapHolds = false ∧ s.dev.hdState c = hdTrack ∧ (s.dev.hd c).span = none ∧ s.dev.lg pHdac (fHdGen c) ≠ 0 :=
  ⟨wst [(0x8, 0x44, 0x1), (0x11, 0xf4, 0x2000)] [(0x11, 0xe0, 0x10)], 3, by decide +kernel⟩
theorem witness_DacChannelsTrackAndSwitch_1 : ∃ (s : State) (c : Fin 8), s.calm ∧ s.dev.runs pHdac ∧ s.dev.walks = false ∧
    s.dev.tapHolds = false ∧ s.dev.hdState c = hdTrack ∧ (s.dev.hd c).span = none ∧ s.dev.lg pHdac (fHdGen c) = 0 :=
  ⟨wst [(0x8, 0x44, 0x1), (0x11, 0x94, 0x2000)] [(0x11, 0x80, 0x1)], 0, by decide +kernel⟩
theorem witness_DacChannelsTrackAndSwitch_2 : ∃ (s : State) (c : Fin 8) (x : Nat), s.calm ∧ s.dev.runs pHdac ∧ s.dev.walks = false ∧
    s.dev.tapHolds = false ∧ s.dev.hdState c = hdSpan ∧ (s.dev.hd c).span = some ⟨.slew, x⟩ :=
  ⟨wst [(0x8, 0x44, 0x1), (0x11, 0x94,
      0x40db)] [] (fun d => { d with hdac := (d.hdac.set 0 { d.hdac.get 0 with span := some { step := SpanStep.slew, dest := 0 } }) }), 0,
      0, by decide +kernel⟩
theorem witness_DacChannelsTrackAndSwitch_3 : ∃ (s : State) (c : Fin 8) (x : Nat), s.calm ∧ s.dev.runs pHdac ∧ s.dev.walks = false ∧
    s.dev.tapHolds = false ∧ s.dev.hdState c = hdSpan ∧ (s.dev.hd c).span = some ⟨.back, x⟩ ∧
    slewTo (s.dev.g pHdac (fHdLive c)) (s.dev.g pHdac (fHdCode c)) (s.dev.g pHdac (fHdStep c)) ≠ s.dev.g pHdac (fHdCode c) :=
  ⟨wst [(0x8, 0x44, 0x1), (0x11, 0x94,
      0x40db)] [] (fun d => { d with hdac := (d.hdac.set 0 { d.hdac.get 0 with span := some { step := SpanStep.back, dest := 0 } }) }), 0,
      0, by decide +kernel⟩
theorem witness_DacChannelsTrackAndSwitch_4 : ∃ (s : State) (c : Fin 8) (x : Nat), s.calm ∧ s.dev.runs pHdac ∧ s.dev.walks = false ∧
    s.dev.tapHolds = false ∧ s.dev.hdState c = hdSpan ∧ (s.dev.hd c).span = some ⟨.back, x⟩ ∧ (s.dev.hd c).pend = none ∧
    slewTo (s.dev.g pHdac (fHdLive c)) (s.dev.g pHdac (fHdCode c)) (s.dev.g pHdac (fHdStep c)) = s.dev.g pHdac (fHdCode c) :=
  ⟨wst [(0x8, 0x44, 0x1), (0x11, 0xd4,
      0x4001)] [] (fun d => { d with hdac := (d.hdac.set 2 { d.hdac.get 2 with span := some { step := SpanStep.back, dest := 1 } }) }), 2,
      1, by decide +kernel⟩
theorem witness_DacChannelsTrackAndSwitch_5 : ∃ (s : State) (c : Fin 8), s.calm ∧ (s.dev.walks = true ∨ s.dev.hdState c = hdOff ∨
    s.dev.hdState c = hdCleared) :=
  ⟨wst [(0x8, 0x44, 0x2)] [], 6, by decide +kernel⟩
theorem witness_DacChannelsTrackAndSwitch_6 : ∃ (s : State) (w : Who) (c : Fin 8) (v : Word), s.calm ∧
    s.dev.takes w pHdac (hdacBase c + 0x04) :=
  ⟨wst [(0x8, 0x44, 0x1)] [], { mid := 0, sub := 1, user := false }, 0, 0x41dc9157#32, by decide +kernel⟩
theorem witness_DacChannelsTrackAndSwitch_7 : ∃ (s : State) (c : Fin 8) (x : Nat), s.calm ∧ s.dev.runs pHdac ∧ s.dev.hdState c = hdSpan ∧
    (s.dev.hd c).span = some ⟨.hold, x⟩ :=
  ⟨wst [(0x8, 0x44, 0x1), (0x11, 0x94,
      0x4000)] [] (fun d => { d with hdac := (d.hdac.set 0 { d.hdac.get 0 with span := some { step := SpanStep.hold, dest := 0 } }) }), 0,
      0, by decide +kernel⟩
theorem witness_DacChannelsTrackAndSwitch_8 : ∃ (s : State) (c : Fin 8) (x : Nat), s.calm ∧ s.dev.runs pHdac ∧ s.dev.hdState c = hdSpan ∧
    (s.dev.hd c).span = some ⟨.switch, x⟩ ∧ s.dev.g pHdac (fHdLive c) ≠ s.dev.g pHdac (fHdCode c) :=
  ⟨wst [(0x8, 0x44, 0x1), (0x11, 0x94,
      0x4007)] [] (fun d => { d with hdac := (d.hdac.set 0 { d.hdac.get 0 with span := some { step := SpanStep.switch, dest := 0 } }) }),
      0, 0, by decide +kernel⟩
theorem witness_ClearDrivesTheClearCode_0 : ∃ (s : State) (w : Who) (v : Word), s.calm ∧ s.dev.takes w pHdac 0x040 ∧ s.dev.walks = false ∧
    s.dev.clrActive = false ∧ v.getLsbD 0 = true :=
  ⟨wst [(0x8, 0x44, 0x1), (0x11, 0x94, 0x4000), (0x11, 0xb4, 0x2000), (0x11, 0xf4, 0x4000), (0x11, 0x174, 0x4000)] [],
      { mid := 3, sub := 1, user := false }, 0xcd788183#32, by decide +kernel⟩
theorem witness_ClearDrivesTheClearCode_1 : ∃ (s : State) (w : Who) (v : Word), s.calm ∧ s.dev.takes w pHdac 0x040 ∧ s.dev.walks = false ∧
    s.dev.b pHdac fSwClr = true ∧ s.dev.clrLow = false ∧ v.getLsbD 0 = false ∧ (∀ c : Fin 8, (s.dev.hd c).span = none) :=
  ⟨wst [(0x8, 0x44, 0x1), (0x11, 0x40, 0x1), (0x11, 0x94, 0x4000), (0x11, 0xb4, 0x2000), (0x11, 0xf4, 0x4000), (0x11, 0x174, 0x4000)] [],
      { mid := 3, sub := 1, user := false }, 0xcd788182#32, by decide +kernel⟩
theorem witness_ClearDrivesTheClearCode_2 : ∃ (s : State) (w : Who) (v : Word), s.calm ∧ s.dev.takes w pHdac 0x040 ∧ s.dev.clrLow = true :=
  ⟨wst [(0x8, 0x44, 0x1), (0x11, 0x94, 0x4000), (0x11, 0xb4, 0x2000), (0x11, 0xf4, 0x4000), (0x11, 0x174,
      0x4000)] [] (fun d => { d with clrLow := true }), { mid := 3, sub := 1, user := false }, 0xcd788183#32, by decide +kernel⟩
theorem witness_ClearDrivesTheClearCode_3 : ∃ (s : State), s.calm ∧ s.dev.walks = false ∧ s.dev.clrActive = false ∧
    (∀ n : Lane, s.dev.b (pLtx n) fFollowClr = false ∧ s.dev.b (pLtx n) (fSq sqClr) = false) ∧ s.dev.powered pHdac = true :=
  ⟨wst [(0x8, 0x44, 0x1), (0x11, 0x94, 0x4000), (0x11, 0xb4, 0x2000), (0x11, 0xf4, 0x4000), (0x11, 0x174, 0x4000), (0x28, 0x50, 0x0),
      (0x29, 0x50, 0x0), (0x2a, 0x50, 0x0), (0x2b, 0x50, 0x0), (0x2c, 0x50, 0x0), (0x2d, 0x50, 0x0), (0x2e, 0x50, 0x0), (0x2f, 0x50,
      0x0)] [], by decide +kernel⟩
theorem witness_ClearDrivesTheClearCode_4 : ∃ (s : State), s.calm ∧ s.dev.b pHdac fSwClr = true ∧
    (∀ n : Lane, s.dev.b (pLtx n) fFollowClr = true) :=
  ⟨wst [(0x8, 0x44, 0x1), (0x11, 0x40, 0x1), (0x11, 0x94, 0x4000), (0x11, 0xb4, 0x2000), (0x11, 0xf4, 0x4000), (0x11, 0x174, 0x4000)] [],
      by decide +kernel⟩
theorem witness_ClearDrivesTheClearCode_5 : ∃ (s : State), s.calm ∧ s.dev.walks = false ∧ s.dev.clrLow = true ∧
    s.dev.b pHdac fSwClr = false ∧ (∀ n : Lane, s.dev.b (pLtx n) fFollowClr = false ∧ s.dev.b (pLtx n) (fSq sqClr) = false) ∧
    (∀ c : Fin 8, (s.dev.hd c).span = none) ∧ s.dev.powered pHdac = true :=
  ⟨wst [(0x8, 0x44, 0x1), (0x11, 0x94, 0x4000), (0x11, 0xb4, 0x2000), (0x11, 0xf4, 0x4000), (0x11, 0x174, 0x4000), (0x28, 0x50, 0x0),
      (0x29, 0x50, 0x0), (0x2a, 0x50, 0x0), (0x2b, 0x50, 0x0), (0x2c, 0x50, 0x0), (0x2d, 0x50, 0x0), (0x2e, 0x50, 0x0), (0x2f, 0x50,
      0x0)] [] (fun d => { d with clrLow := true }), by decide +kernel⟩
theorem witness_ClearDrivesTheClearCode_6 : ∃ (s : State) (c : Fin 8) (on : Bool), s.calm ∧ s.dev.runs pHdac ∧ s.dev.hdState c ≠ hdOff :=
  ⟨wst [(0x8, 0x44, 0x1), (0x11, 0xb4, 0x4000)] [], 1, true, by decide +kernel⟩
theorem witness_ScrubberReadsEveryWord_0 : ∃ (s : State) (p : Nat), s.calm ∧ s.dev.b pScrub fScrubEn = true ∧ s.dev.runs pScrub ∧
    s.dev.scrub.waits = false ∧ s.dev.g pScrub fScrubRegion < 24 ∧
    ((regionOf (regionLoc (s.dev.g pScrub fScrubRegion) s.dev.scrub.idx)).map (·.2) = some p) ∧ s.dev.powered p = true ∧
    s.dev.b p fClkOff = false ∧ s.dev.scrub.idx + 1 < regionWords (s.dev.g pScrub fScrubRegion) ∧
    s.dev.eccAt (regionLoc (s.dev.g pScrub fScrubRegion) s.dev.scrub.idx) = ⟨0, false⟩ :=
  ⟨wst [(0x14, 0x44, 0x8)] [] (fun d => { d with ecc := [(2097152, { flips := 0x3#39, poison := false }), (2097168, { flips := 0x4#39, poison := false }), (4194304, { flips := 0x7#39, poison := true })], scrub := { d.scrub with idx := 19, skip := 0xe7d051b4#32 } }), 85, by decide +kernel⟩
theorem witness_ScrubberReadsEveryWord_1 : ∃ (s : State) (p : Nat), s.calm ∧ s.dev.b pScrub fScrubEn = true ∧ s.dev.runs pScrub ∧
    s.dev.scrub.waits = false ∧ s.dev.g pScrub fScrubRegion < 24 ∧
    ((regionOf (regionLoc (s.dev.g pScrub fScrubRegion) s.dev.scrub.idx)).map (·.2) = some p) ∧ s.dev.powered p = true ∧
    s.dev.b p fClkOff = false ∧ s.dev.scrub.idx + 1 < regionWords (s.dev.g pScrub fScrubRegion) ∧
    (s.dev.eccAt (regionLoc (s.dev.g pScrub fScrubRegion) s.dev.scrub.idx)).corr = true :=
  ⟨wst [(0x14, 0x44, 0x8)] [] (fun d => { d with ecc := [(2097152, { flips := 0x3#39, poison := false }), (2097168, { flips := 0x4#39, poison := false }), (4194304, { flips := 0x7#39, poison := true }), (22020172, { flips := 0x100000000#39, poison := false })], scrub := { d.scrub with idx := 19, skip := 0xe7d051b4#32 } }), 85, by decide +kernel⟩
theorem witness_ScrubberReadsEveryWord_2 : ∃ (s : State) (p : Nat), s.calm ∧ s.dev.b pScrub fScrubEn = true ∧ s.dev.runs pScrub ∧
    s.dev.scrub.waits = false ∧ s.dev.g pScrub fScrubRegion < 24 ∧
    ((regionOf (regionLoc (s.dev.g pScrub fScrubRegion) s.dev.scrub.idx)).map (·.2) = some p) ∧ s.dev.powered p = true ∧
    s.dev.b p fClkOff = false ∧ s.dev.scrub.idx + 1 < regionWords (s.dev.g pScrub fScrubRegion) ∧
    (s.dev.eccAt (regionLoc (s.dev.g pScrub fScrubRegion) s.dev.scrub.idx)).uncorr = true ∧
    (s.dev.eccAt (regionLoc (s.dev.g pScrub fScrubRegion) s.dev.scrub.idx)).poison = false :=
  ⟨wst [(0x14, 0x44, 0x8)] [] (fun d => { d with ecc := [(2097152, { flips := 0x3#39, poison := false }), (2097168, { flips := 0x4#39, poison := false }), (4194304, { flips := 0x7#39, poison := true }), (22020172, { flips := 0x6#39, poison := false })], scrub := { d.scrub with idx := 19, skip := 0xe7d051b4#32 } }), 85, by decide +kernel⟩
theorem witness_ScrubberReadsEveryWord_3 : ∃ (s : State), s.calm ∧ s.dev.b pScrub fScrubEn = true ∧ s.dev.runs pScrub ∧
    s.dev.scrub.waits = false ∧ s.dev.g pScrub fScrubRegion = 19 ∧ s.dev.scrub.idx < regionWords 19 ∧ s.dev.powered 0x12 = false :=
  ⟨wst [(0x14, 0x44, 0x13)] [] (fun d => { d with offPages := [18], ecc := [(2097152, { flips := 0x3#39, poison := false }), (2097168, { flips := 0x4#39, poison := false }), (4194304, { flips := 0x7#39, poison := true })], scrub := { d.scrub with idx := 19, skip := 0xe7d051b4#32 } }), by decide +kernel⟩
theorem witness_ScrubberReadsEveryWord_4 : ∃ (s : State), s.calm ∧ s.dev.b pScrub fScrubEn = true ∧ s.dev.runs pScrub ∧
    s.dev.scrub.waits = false ∧ s.dev.scrub.late = false ∧ s.dev.g pScrub fScrubRegion = 23 ∧ s.dev.scrub.idx + 1 = regionWords 23 ∧
    s.dev.eccAt (regionLoc 23 s.dev.scrub.idx) = ⟨0, false⟩ ∧ s.dev.powered 0x10 = true ∧ s.dev.b 0x10 fClkOff = false ∧ s.dev.votes = [] :=
  ⟨wst [(0x14, 0x44, 0x17)] [] (fun d => { d with ecc := [(2097152, { flips := 0x3#39, poison := false }), (2097168, { flips := 0x4#39, poison := false }), (4194304, { flips := 0x7#39, poison := true })], scrub := { d.scrub with idx := 1023, skip := 0x5#32 } }), by decide +kernel⟩
theorem witness_ScrubberReadsEveryWord_5 : ∃ (s : State), s.calm ∧ (s.dev.b pScrub fScrubEn = false ∨ s.dev.scrub.waits = true) :=
  ⟨wst [(0x14, 0x44, 0xb)] [] (fun d => { d with ecc := [(2097152, { flips := 0x3#39, poison := false }), (2097168, { flips := 0x4#39, poison := false }), (4194304, { flips := 0x7#39, poison := true })], scrub := { d.scrub with idx := 198, skip := 0x863a105f#32, waits := true } }), by decide +kernel⟩
theorem witness_ScrubberReadsEveryWord_6 : ∃ (s : State), s.calm ∧ s.dev.b pScrub fScrubEn = true ∧ s.dev.runs pScrub ∧
    s.dev.scrub.waits = true :=
  ⟨wst [(0x14, 0x44, 0x8)] [] (fun d => { d with ecc := [(2097152, { flips := 0x3#39, poison := false }), (2097168, { flips := 0x4#39, poison := false }), (4194304, { flips := 0x7#39, poison := true })], scrub := { d.scrub with idx := 3, skip := 0x5#32, waits := true } }), by decide +kernel⟩
theorem witness_ScrubberReadsEveryWord_7 : ∃ (s : State), s.calm ∧ s.dev.b pScrub fScrubEn = true ∧ s.dev.runs pScrub ∧
    s.dev.scrub.waits = false ∧ s.dev.scrub.late = false :=
  ⟨wst [(0x14, 0x44, 0x8)] [] (fun d => { d with ecc := [(2097152, { flips := 0x3#39, poison := false }), (2097168, { flips := 0x4#39, poison := false }), (4194304, { flips := 0x7#39, poison := true })], scrub := { d.scrub with idx := 3, skip := 0x5#32 } }), by decide +kernel⟩
theorem witness_ScrubberReadsEveryWord_8 : ∃ (s : State) (w : Who) (v : Word), s.calm ∧ s.dev.takes w pScrub 0x040 ∧ v.getLsbD 2 = false :=
  ⟨wst [(0x14, 0x44, 0x8)] [] (fun d => { d with ecc := [(2097152, { flips := 0x3#39, poison := false }), (2097168, { flips := 0x4#39, poison := false }), (4194304, { flips := 0x7#39, poison := true })], scrub := { d.scrub with idx := 19, skip := 0xe7d051b4#32 } }), { mid := 0, sub := 1, user := false }, 0x41dc9153#32, by decide +kernel⟩
theorem witness_ScrubberReadsEveryWord_9 : ∃ (s : State) (w : Who) (v : Word), s.calm ∧ s.dev.takes w pScrub 0x040 ∧ v.getLsbD 1 = false :=
  ⟨wst [(0x14, 0x44, 0x8)] [] (fun d => { d with ecc := [(2097152, { flips := 0x3#39, poison := false }), (2097168, { flips := 0x4#39, poison := false }), (4194304, { flips := 0x7#39, poison := true })], scrub := { d.scrub with idx := 19, skip := 0xe7d051b4#32 } }), { mid := 0, sub := 1, user := false }, 0x41dc9155#32, by decide +kernel⟩
theorem witness_ReadsMeetErrorsAndFlips_0 : ∃ (s : State) (w : Who) (a pc : Word) (bad : List (Fin 2)), s.calm ∧ w.mid.val < 16 ∧
    s.dev.g 0x02 fPowerState ≠ 2 ∧ 0x00200000 ≤ a.toNat ∧ a.toNat < 0x00300000 ∧ a.toNat % 4 = 0 ∧ s.dev.eccAt a.toNat = ⟨0, false⟩ :=
  ⟨wst [(0x14, 0x44, 0x6)] [] (fun d => { d with ecc := [(2097152, { flips := 0x3#39, poison := false }), (2097168, { flips := 0x4#39, poison := false }), (4194304, { flips := 0x7#39, poison := true })], scrub := { d.scrub with idx := 143, skip := 0xffffffff#32 } }) [(2604672, 0x1#8)], { mid := 2, sub := 2, user := false }, 0x27be80#32, 0x9f9b33ee#32, [0], by decide +kernel⟩
theorem witness_ReadsMeetErrorsAndFlips_1 : ∃ (s : State) (w : Who) (a pc : Word) (bad : List (Fin 2)), s.calm ∧ w.mid.val < 16 ∧
    s.dev.g 0x02 fPowerState ≠ 2 ∧ 0x00200000 ≤ a.toNat ∧ a.toNat < 0x00300000 ∧ a.toNat % 4 = 0 ∧ (s.dev.eccAt a.toNat).corr = true ∧
    s.dev.powered 0x14 = true :=
  ⟨wst [(0x14, 0x44, 0x6)] [] (fun d => { d with ecc := [(2097152, { flips := 0x3#39, poison := false }), (2097168, { flips := 0x4#39, poison := false }), (2604672, { flips := 0x1000#39, poison := false }), (4194304, { flips := 0x7#39, poison := true })], scrub := { d.scrub with idx := 143, skip := 0xffffffff#32 } }) [(2604672, 0x1#8)], { mid := 2, sub := 2, user := false }, 0x27be80#32, 0x9f9b33ee#32, [0], by decide +kernel⟩
theorem witness_ReadsMeetErrorsAndFlips_2 : ∃ (s : State) (w : Who) (a pc : Word) (bad : List (Fin 2)), s.calm ∧ w.mid.val < 16 ∧
    s.dev.g 0x02 fPowerState ≠ 2 ∧ 0x00200000 ≤ a.toNat ∧ a.toNat < 0x00300000 ∧ a.toNat % 4 = 0 ∧ (s.dev.eccAt a.toNat).uncorr = true ∧
    s.dev.powered 0x14 = true ∧ w.mid.val ≠ 0 :=
  ⟨wst [(0x14, 0x44, 0x6)] [] (fun d => { d with ecc := [(2097152, { flips := 0x3#39, poison := false }), (2097168, { flips := 0x4#39, poison := false }), (2604672, { flips := 0x6#39, poison := false }), (4194304, { flips := 0x7#39, poison := true })], scrub := { d.scrub with idx := 143, skip := 0xffffffff#32 } }) [(2604672, 0x1#8)], { mid := 2, sub := 2, user := false }, 0x27be80#32, 0x9f9b33ee#32, [0], by decide +kernel⟩
theorem witness_ReadsMeetErrorsAndFlips_3 : ∃ (s : State) (loc : Nat) (b : Fin 39), s.calm ∧ (regionOf (loc - loc % 4)).isSome = true ∧
    (loc - loc % 4) < 2 ^ 32 ∧ ¬ (0x00100000 ≤ (loc - loc % 4) ∧ (loc - loc % 4) < 0x00200000) ∧ s.dev.eccAt (loc - loc % 4) = ⟨0, false⟩ :=
  ⟨wst [(0x14, 0x44, 0x6)] [] (fun d => { d with ecc := [(2097152, { flips := 0x3#39, poison := false }), (2097168, { flips := 0x4#39, poison := false }), (4194304, { flips := 0x7#39, poison := true })], scrub := { d.scrub with idx := 143, skip := 0xffffffff#32 } }) [(2604672, 0x1#8)], 2604674, 10, by decide +kernel⟩
theorem witness_ReadsMeetErrorsAndFlips_4 : ∃ (s : State) (loc : Nat) (b c : Fin 39), s.calm ∧ (regionOf (loc - loc % 4)).isSome = true ∧
    (loc - loc % 4) < 2 ^ 32 ∧ ¬ (0x00100000 ≤ (loc - loc % 4) ∧ (loc - loc % 4) < 0x00200000) ∧ b ≠ c ∧
    s.dev.eccAt (loc - loc % 4) = ⟨BitVec.twoPow 39 c.val, false⟩ :=
  ⟨wst [(0x14, 0x44, 0x6)] [] (fun d => { d with ecc := [(2097152, { flips := 0x3#39, poison := false }), (2097168, { flips := 0x4#39, poison := false }), (2604672, { flips := 0x10000#39, poison := false }), (4194304, { flips := 0x7#39, poison := true })], scrub := { d.scrub with idx := 143, skip := 0xffffffff#32 } }) [(2604672, 0x1#8)], 2604674, 10, 16, by decide +kernel⟩
theorem witness_ReadsMeetErrorsAndFlips_5 : ∃ (s : State) (loc : Nat) (bad : List (Fin 2)), s.calm ∧ sramBase ≤ (loc - loc % 4) ∧
    (loc - loc % 4) < sramBase + 0x00100000 ∧ (s.dev.eccAt (loc - loc % 4)).corr = true ∧ s.dev.powered 0x14 = true :=
  ⟨wst [(0x14, 0x44, 0x6)] [] (fun d => { d with ecc := [(2097152, { flips := 0x3#39, poison := false }), (2097168, { flips := 0x4#39, poison := false }), (2604672, { flips := 0x1000#39, poison := false }), (4194304, { flips := 0x7#39, poison := true })], scrub := { d.scrub with idx := 143, skip := 0xffffffff#32 } }) [(2604672, 0x1#8)], 2604674, [0], by decide +kernel⟩
theorem witness_ReadsMeetErrorsAndFlips_6 : ∃ (s : State) (loc : Nat) (bad : List (Fin 2)), s.calm ∧ sramBase ≤ (loc - loc % 4) ∧
    (loc - loc % 4) < sramBase + 0x00100000 ∧ (s.dev.eccAt (loc - loc % 4)).uncorr = true ∧ s.dev.coachUp = true ∧
    s.dev.flashSource = true ∧ s.dev.g pBoot fActState ≠ 2 ∧ bad.map (·.val) = [s.dev.g pBoot fActive] ∧
    (∀ c < 16, s.dev.g pMbox (fChRx c) ≠ 0 ∨ s.dev.b pMbox (fChFull c) = false) ∧ s.dev.powered 0x14 = true ∧ s.dev.powered pSec = true :=
  ⟨wst [(0x14, 0x44, 0x2)] [] (fun d => { d with ecc := [(2097152, { flips := 0x3#39, poison := false }), (2097168, { flips := 0x4#39, poison := false }), (2936096, { flips := 0x180#39, poison := false }), (4194304, { flips := 0x7#39, poison := true })], scrub := { d.scrub with idx := 153, skip := 0x207e8b53#32, late := true }, coachUp := true }), 2936098, [0], by decide +kernel⟩
theorem witness_RefereeAndWatchers_0 : ∃ (s : State) (p : Fin 256) (e : Fin 32), s.calm ∧ s.dev.faultN = s.dev.faultCause ∧
    s.dev.runs p.val ∧ 0x20 ≤ p.val ∧ p.val < 0x68 ∧ e.val < sourcesOf p.val ∧ (blockBit p.val).isSome = true ∧ s.dev.powered 0x03 = true ∧
    (p.val, e.val) ∉ s.dev.ref.busy ∧ (∀ a < 6, ∀ k < 32, s.dev.b (0x18 + a) (fWatchEn k) = false) ∧
    s.dev.sev p.val e.val < s.dev.g 0x03 fFaultMin :=
  ⟨wst [] [] (fun d => { d with ref := { d.ref with busy := [(33, 20)], head := 29, seq := 65535, overwritten := 65535 } }), 33, 8,
      by decide +kernel⟩
theorem witness_RefereeAndWatchers_1 : ∃ (s : State) (p : Fin 256) (e : Fin 32), s.calm ∧ s.dev.faultN = s.dev.faultCause ∧
    s.dev.runs p.val ∧ 0x20 ≤ p.val ∧ p.val < 0x68 ∧ e.val < sourcesOf p.val ∧ (blockBit p.val).isSome = true ∧ s.dev.powered 0x03 = true ∧
    (p.val, e.val) ∈ s.dev.ref.busy ∧ s.dev.sev p.val e.val < s.dev.g 0x03 fFaultMin :=
  ⟨wst [] [] (fun d => { d with ref := { d.ref with busy := [(33, 8)], head := 29, seq := 65535, overwritten := 65535 } }), 33, 8,
      by decide +kernel⟩
theorem witness_RefereeAndWatchers_2 : ∃ (s : State) (p : Fin 256) (e : Fin 32), s.calm ∧ s.dev.runs p.val ∧ 0x20 ≤ p.val ∧ p.val < 0x68 ∧
    e.val < sourcesOf p.val ∧ (blockBit p.val).isSome = true ∧ s.dev.powered 0x03 = true ∧ s.dev.g 0x02 fPowerState ≠ 2 ∧
    s.dev.g 0x03 fFaultMin ≤ s.dev.sev p.val e.val :=
  ⟨wst [(0x3, 0x40, 0x0)] [] (fun d => { d with ref := { d.ref with busy := [(34, 20)], seq := 7, overwritten := 7 } }), 34, 3,
      by decide +kernel⟩
theorem witness_RefereeAndWatchers_3 : ∃ (s : State) (p : Fin 256) (e : Fin 32) (sp : Nat) (k : Fin 32), s.calm ∧
    s.dev.faultN = s.dev.faultCause ∧ s.dev.runs p.val ∧ 0x20 ≤ p.val ∧ p.val < 0x68 ∧ e.val < sourcesOf p.val ∧
    (blockBit p.val).isSome = true ∧ s.dev.powered 0x03 = true ∧ (p.val, e.val) ∉ s.dev.ref.busy ∧
    s.dev.sev p.val e.val < s.dev.g 0x03 fFaultMin ∧ subsystemOf p.val = some sp ∧ s.dev.b sp (fWatchEn k.val) = true ∧
    s.dev.g sp (fWatchPage k.val) = p.val ∧ s.dev.g sp (fWatchSrc k.val) = e.val ∧
    (s.dev.watch sp k.val).count + 1 < s.dev.g sp (fWatchN k.val) ∧ (∀ j < 32, j ≠ k.val → s.dev.b sp (fWatchEn j) = false) :=
  ⟨wst [(0x18, 0x2e0, 0x88210005)] [] (fun d => { d with ref := { d.ref with busy := [(33, 20)], head := 29, seq := 65535, overwritten := 65535, watch := [(30, { hits := 124, isOpen := true, count := 0 })] } }), 33, 8, 24, 30, by decide +kernel⟩
theorem witness_RefereeAndWatchers_4 : ∃ (s : State) (p : Fin 256) (e : Fin 32) (sp : Nat) (k : Fin 32), s.calm ∧
    s.dev.faultN = s.dev.faultCause ∧ s.dev.runs p.val ∧ 0x20 ≤ p.val ∧ p.val < 0x68 ∧ e.val < sourcesOf p.val ∧
    (blockBit p.val).isSome = true ∧ s.dev.powered 0x03 = true ∧ (p.val, e.val) ∉ s.dev.ref.busy ∧
    s.dev.sev p.val e.val < s.dev.g 0x03 fFaultMin ∧ subsystemOf p.val = some sp ∧ s.dev.powered sp = true ∧
    s.dev.b sp (fWatchEn k.val) = true ∧ s.dev.g sp (fWatchPage k.val) = p.val ∧ s.dev.g sp (fWatchSrc k.val) = e.val ∧
    s.dev.g sp (fWatchN k.val) ≤ (s.dev.watch sp k.val).count + 1 ∧ (∀ j < 32, j ≠ k.val → s.dev.b sp (fWatchEn j) = false) ∧
    s.dev.g 0x02 fPowerState ≠ 2 :=
  ⟨wst [(0x18, 0x2e0, 0x88210003)] [] (fun d => { d with ref := { d.ref with busy := [(33, 20)], head := 29, seq := 65535, overwritten := 65535, watch := [(30, { hits := 124, isOpen := true, count := 2 })] } }), 33, 8, 24, 30, by decide +kernel⟩
theorem witness_RefereeAndWatchers_5 : ∃ (s : State) (p : Fin 256) (e : Fin 32), s.calm ∧ s.dev.faultN = s.dev.faultCause :=
  ⟨wst [] [] (fun d => { d with ref := { d.ref with busy := [(34, 20)], seq := 7, overwritten := 7 } }), 34, 3, by decide +kernel⟩
theorem witness_RefereeAndWatchers_6 : ∃ (s : State) (i : Fin 6) (k : Fin 32), s.calm ∧ s.dev.faultN = s.dev.faultCause :=
  ⟨wst [] [] (fun d => { d with ref := { d.ref with busy := [(34, 20)], seq := 7, overwritten := 7, watch := [(99, { hits := 3, isOpen := false, count := 2 })] } }), 3, 3, by decide +kernel⟩
theorem witness_RefereeAndWatchers_7 : ∃ (s : State) (w : Who) (i : Fin 6) (k : Fin 32) (v : Word), s.calm ∧
    s.dev.faultN = s.dev.faultCause ∧ s.dev.takes w (subPage i) (0x100 + 0x10 * k.val) :=
  ⟨wst [] [] (fun d => { d with ref := { d.ref with busy := [(34, 20)], seq := 7, overwritten := 7, watch := [(99, { hits := 3, isOpen := false, count := 2 })] } }), { mid := 0, sub := 2, user := false }, 3, 3, 0x85200003#32, by decide +kernel⟩
theorem witness_RefereeAndWatchers_8 : ∃ (s : State) (w : Who) (i : Fin 6) (k : Fin 32) (v : Word), s.calm ∧
    s.dev.faultN = s.dev.faultCause ∧ s.dev.takes w (subPage i) (0x104 + 0x10 * k.val) ∧ s.dev.b (subPage i) (fWatchEn k.val) = false :=
  ⟨wst [] [] (fun d => { d with ref := { d.ref with busy := [(34, 20)], seq := 7, overwritten := 7 } }),
      { mid := 0, sub := 2, user := false }, 3, 3, 0x2#32, by decide +kernel⟩
theorem witness_RefereeAndWatchers_9 : ∃ (s : State) (w : Who) (v : Word), s.calm ∧ s.dev.faultN = s.dev.faultCause ∧
    s.dev.takes w pRef 0x060 ∧ v.getLsbD 0 = false :=
  ⟨wst [] [] (fun d => { d with ref := { d.ref with busy := [(34, 20)], seq := 7, overwritten := 7 } }),
      { mid := 0, sub := 2, user := false }, 0x2#32, by decide +kernel⟩
theorem witness_RefereeAndWatchers_10 : ∃ (s : State) (w : Who) (v : Word), s.calm ∧ s.dev.faultN = s.dev.faultCause ∧
    s.dev.takes w pRef 0x060 ∧ v.getLsbD 1 = false :=
  ⟨wst [] [] (fun d => { d with ref := { d.ref with busy := [(34, 20)], seq := 7, overwritten := 7 } }),
      { mid := 0, sub := 2, user := false }, 0x0#32, by decide +kernel⟩
theorem witness_MailboxesAndLocks_0 : ∃ (s : State) (w : Who) (c : Fin 16) (v : Word), s.calm ∧ s.dev.takes w pMbox (0x0C0 + 4 * c.val) ∧
    w.mid.val ≠ 3 ∧ w.mid.val ≠ 4 ∧ 1 ≤ getBits v 0 5 ∧ getBits v 0 5 ≤ 16 :=
  ⟨wst [] [] (fun d => { d with mboxTimer := 0xa393#16 }), { mid := 1, sub := 1, user := false }, 3, 0x41dc9141#32, by decide +kernel⟩
theorem witness_MailboxesAndLocks_1 : ∃ (s : State) (w : Who) (c : Fin 16), s.calm ∧ s.dev.takes w pMbox (0x100 + 4 * c.val) ∧
    (w.mid.val = 0 ∨ w.mid.val = (s.dev.g pMbox (fChRx c.val))) ∧ s.dev.b pMbox (fChFull c.val) = true :=
  ⟨wst [(0xa, 0x8c, 0x80000000)] [] (fun d => { d with mboxTimer := 0xa393#16 }), { mid := 0, sub := 1, user := false }, 3,
      by decide +kernel⟩
theorem witness_MailboxesAndLocks_2 : ∃ (s : State) (w : Who) (c : Fin 16), s.calm ∧ s.dev.takes w pMbox (0x100 + 4 * c.val) ∧
    (w.mid.val = 0 ∨ w.mid.val = (s.dev.g pMbox (fChRx c.val))) ∧ s.dev.b pMbox (fChFull c.val) = false :=
  ⟨wst [] [] (fun d => { d with mboxTimer := 0xa393#16 }), { mid := 0, sub := 1, user := false }, 3, by decide +kernel⟩
theorem witness_MailboxesAndLocks_3 : ∃ (s : State) (w : Who) (r : Fin 4) (v : Word), s.calm ∧ s.dev.takes w pMbox (0x140 + 4 * r.val) ∧
    (w.mid.val = 0 ∨ doorbellOf w.mid.val = some r.val) :=
  ⟨wst [] [] (fun d => { d with mboxTimer := 0xfbab#16 }), { mid := 2, sub := 1, user := false }, 2, 0x53e4ffcf#32, by decide +kernel⟩
theorem witness_MailboxesAndLocks_4 : ∃ (s : State) (c : Fin 16), s.calm ∧ s.dev.runs pMbox ∧ s.dev.mboxTimer.getLsbD c.val = true :=
  ⟨wst [] [] (fun d => { d with mboxTimer := 0xa39b#16 }), 3, by decide +kernel⟩
theorem witness_MailboxesAndLocks_5 : ∃ (s : State) (w : Who) (v : Word), s.calm ∧ s.dev.takes w pMbox 0x160 ∧ v.getLsbD 2 = false ∧
    (w.mid.val = 0 ∨ w.mid.val = 1) ∧ s.dev.powered pMbox = true :=
  ⟨wst [(0xa, 0x44, 0x10000), (0xa, 0x4c, 0x20000), (0xa, 0x50, 0x20000), (0xa, 0x60, 0x20000), (0xa, 0x70, 0x20000), (0xa, 0x74, 0x10000),
      (0xa, 0x78, 0x10000), (0xa, 0x7c, 0x20000)] [] (fun d => { d with mboxTimer := 0xbef5#16 }), { mid := 0, sub := 0, user := false },
      0xfffffffb#32, by decide +kernel⟩
theorem witness_MailboxesAndLocks_6 : ∃ (s : State) (w : Who) (v : Word), s.calm ∧ s.dev.takes w pMbox 0x160 ∧ v.getLsbD 1 = false ∧
    (w.mid.val = 0 ∨ w.mid.val = 2) ∧ s.dev.powered pMbox = true :=
  ⟨wst [(0xa, 0x44, 0x10000), (0xa, 0x4c, 0x20000), (0xa, 0x50, 0x20000), (0xa, 0x60, 0x20000), (0xa, 0x70, 0x20000), (0xa, 0x74, 0x10000),
      (0xa, 0x78, 0x10000), (0xa, 0x7c, 0x20000)] [] (fun d => { d with mboxTimer := 0xbef5#16 }), { mid := 0, sub := 0, user := false },
      0xfffffffd#32, by decide +kernel⟩
theorem witness_MailboxesAndLocks_7 : ∃ (s : State) (w : Who) (i : Fin 32), s.calm ∧ s.dev.shows w pLocks (0x040 + 4 * i.val) ∧
    (s.dev.g pLocks (fOwn i.val)) = 0 :=
  ⟨wst [] [] (fun d => { d with mboxTimer := 0xe300#16 }), { mid := 0, sub := 2, user := false }, 3, by decide +kernel⟩
theorem witness_MailboxesAndLocks_8 : ∃ (s : State) (w : Who) (i : Fin 32), s.calm ∧ s.dev.shows w pLocks (0x040 + 4 * i.val) ∧
    (s.dev.g pLocks (fOwn i.val)) ≠ 0 :=
  ⟨wst [(0xb, 0xdc, 0x7)] [] (fun d => { d with mboxTimer := 0x2e52#16 }), { mid := 0, sub := 3, user := false }, 28, by decide +kernel⟩
theorem witness_MailboxesAndLocks_9 : ∃ (s : State) (w : Who) (i : Fin 32), s.calm ∧ s.dev.takes w pLocks (0x040 + 4 * i.val) ∧
    (w.mid.val = 0 ∨ (s.dev.g pLocks (fOwn i.val)) = w.mid.val + 1) :=
  ⟨wst [] [] (fun d => { d with mboxTimer := 0xa393#16 }), { mid := 0, sub := 1, user := false }, 26, by decide +kernel⟩
theorem witness_MailboxesAndLocks_10 : ∃ (s : State) (w : Who) (i : Fin 32) (v : Word), s.calm ∧ (v ≠ 0 ∨ (w.mid.val ≠ 0 ∧
    (s.dev.g pLocks (fOwn i.val)) ≠ w.mid.val + 1)) :=
  ⟨wst [] [] (fun d => { d with mboxTimer := 0x35bf#16 }), { mid := 3, sub := 1, user := false }, 1, 0xcd788183#32, by decide +kernel⟩
theorem witness_MailboxesAndLocks_11 : ∃ (s : State) (w : Who) (v : Word), s.calm ∧ s.dev.takes w pLocks 0x0E0 ∧ (w.mid.val = 0 ∨
    w.mid.val = getBits v 0 5) :=
  ⟨wst [(0xb, 0xc0, 0x1030303), (0xb, 0xc4, 0x10003), (0xb, 0xc8, 0x1000300), (0xb, 0xcc, 0x1010302), (0xb, 0xd0, 0x20300), (0xb, 0xd4,
      0x10000), (0xb, 0xd8, 0x100), (0xb, 0xdc, 0x2030101)] [] (fun d => { d with mboxTimer := 0xbef5#16 }),
      { mid := 3, sub := 0, user := false }, 0x3#32, by decide +kernel⟩
theorem witness_MailboxesAndLocks_12 : ∃ (s : State) (w : Who) (v : Word), s.calm ∧ w.mid.val ≠ 0 ∧ w.mid.val ≠ getBits v 0 5 :=
  ⟨wst [] [] (fun d => { d with mboxTimer := 0x28fe#16 }), { mid := 2, sub := 0, user := false }, 0xffffffff#32, by decide +kernel⟩
theorem witness_SpiFramesCarryWords_0 : ∃ (s : State) (len : BitVec 8) (ad : Word) (ws : List Word) (x : Facts), s.calm ∧
    s.dev.linkUp = true ∧ len.toNat ≤ 15 ∧ ws.length = len.toNat + 1 ∧ 0x00200000 ≤ ad.toNat ∧ ad.toNat + 64 ≤ 0x00300000 ∧
    ad.toNat % 4 = 0 :=
  ⟨wst [] [] (fun d => { d with boot := { d.boot with fwLen := 5 }, mboxTimer := 0x7f71#16 }), 0x1#8, 0x266294#32, [0x3#32, 0x3#32],
      { trigs := [], jbad := false, bad := [], pc := 0x0#32 }, by decide +kernel⟩
theorem witness_SpiFramesCarryWords_1 : ∃ (s : State) (len : BitVec 8) (ad : Word), s.calm ∧ s.dev.linkUp = true ∧ len.toNat ≤ 15 ∧
    0x00200000 ≤ ad.toNat ∧ ad.toNat + 64 ≤ 0x00300000 ∧ ad.toNat % 4 = 0 ∧ s.dev.ecc = [] :=
  ⟨wst [] [] (fun d => { d with boot := { d.boot with fwLen := 5 }, mboxTimer := 0x7f71#16 }) [(2515604, 0x3#8), (2515608, 0x3#8)], 0x1#8,
      0x266294#32, by decide +kernel⟩
theorem witness_SpiFramesCarryWords_2 : ∃ (s : State) (hd : SpiHead) (ws : List Word) (cut : Bool) (x : Facts), s.calm ∧
    s.dev.linkUp = true ∧ spiGood hd = false ∧ s.dev.powered pSpi = true :=
  ⟨wst [] [] (fun d => { d with boot := { d.boot with fwLen := 5 }, mboxTimer := 0x7f71#16 }),
      { header := true, len := 0x3#8, addr := 0x266297#32 }, [0x3#32, 0x3#32], true,
      { trigs := [], jbad := false, bad := [], pc := 0x0#32 }, by decide +kernel⟩
theorem witness_SpiFramesCarryWords_3 : ∃ (s : State) (hd : SpiHead) (cut late : Option Nat), s.calm ∧ s.dev.linkUp = true ∧
    spiGood hd = false ∧ s.dev.powered pSpi = true :=
  ⟨wst [] [] (fun d => { d with boot := { d.boot with fwLen := 5 }, mboxTimer := 0xe300#16 }),
      { header := false, len := 0x17#8, addr := 0x22d3d9#32 }, none, none, by decide +kernel⟩
theorem witness_SpiFramesCarryWords_4 : ∃ (s : State) (hd : SpiHead) (ws : List Word) (cut : Bool) (x : Facts), s.calm ∧
    s.dev.linkUp = false :=
  ⟨wst [] [] (fun d => { d with boot := { d.boot with fwLen := 5 }, tap := TapInstr.extest, mboxTimer := 0x7f71#16 }),
      { header := true, len := 0x1#8, addr := 0x266294#32 }, [0x3#32, 0x3#32], true,
      { trigs := [], jbad := false, bad := [], pc := 0x0#32 }, by decide +kernel⟩
theorem witness_BatonRequestsAndResponses_0 : ∃ (s : State) (f : BatonFrame) (x : Facts), s.calm ∧ s.dev.linkUp = true ∧
    f.violation = false ∧ f.crc = crc16 (batonBytes f) ∧ batonForm 1 f = true ∧ s.dev.batonReaches f.a.toNat = true ∧ f.guest = false ∧
    0x00200000 ≤ f.addr.toNat ∧ f.addr.toNat + 64 ≤ 0x00300000 ∧ f.addr.toNat % 4 = 0 ∧ f.a.toNat < 0x40 :=
  ⟨wst [(0xd, 0x40, 0x5)] [] (fun d => { d with boot := { d.boot with fwLen := 5 }, mboxTimer := 0x7f71#16 }),
      { a := 0x5#8, typ := 0x1#4, guest := false, tag := 0x5#3, l := 0x1#8, addr := 0x266294#32, data := [0x3#32, 0x3#32], crc := 0x1edc#16, violation := false }, { trigs := [], jbad := false, bad := [], pc := 0x0#32 }, by decide +kernel⟩
theorem witness_BatonRequestsAndResponses_1 : ∃ (s : State) (f : BatonFrame), s.calm ∧ s.dev.linkUp = true ∧ f.violation = false ∧
    f.crc = crc16 (batonBytes f) ∧ batonForm 2 f = true ∧ s.dev.batonReaches f.a.toNat = true ∧ f.guest = false ∧
    0x00200000 ≤ f.addr.toNat ∧ f.addr.toNat + 64 ≤ 0x00300000 ∧ f.addr.toNat % 4 = 0 ∧ f.a.toNat < 0x40 ∧ s.dev.ecc = [] :=
  ⟨wst [(0xd, 0x40, 0x5)] [] (fun d => { d with boot := { d.boot with fwLen := 5 }, mboxTimer := 0x7f71#16 }) [(2515604, 0x3#8), (2515608,
      0x3#8)], { a := 0x5#8, typ := 0x2#4, guest := false, tag := 0x5#3, l := 0x1#8, addr := 0x266294#32, data := [], crc := 0xce22#16, violation := false }, by decide +kernel⟩
theorem witness_BatonRequestsAndResponses_2 : ∃ (s : State) (f : BatonFrame), s.calm ∧ s.dev.linkUp = true ∧ f.violation = false ∧
    f.crc = crc16 (batonBytes f) ∧ batonForm 3 f = true ∧ s.dev.batonReaches f.a.toNat = true ∧ f.guest = false ∧
    0x00200000 ≤ f.addr.toNat ∧ f.addr.toNat + 64 ≤ 0x00300000 ∧ f.addr.toNat % 4 = 0 ∧ s.dev.ecc = [] :=
  ⟨wst [(0xd, 0x40, 0x5)] [] (fun d => { d with boot := { d.boot with fwLen := 5 }, mboxTimer := 0x6f21#16 }) [(2431620, 0x3#8)],
      { a := 0x5#8, typ := 0x3#4, guest := false, tag := 0x6#3, l := 0x0#8, addr := 0x251a84#32, data := [], crc := 0x7a86#16, violation := false }, by decide +kernel⟩
theorem witness_BatonRequestsAndResponses_3 : ∃ (s : State) (f : BatonFrame), s.calm ∧ s.dev.linkUp = true ∧ (f.violation = true ∨
    (f.crc = crc16 (batonBytes f) ∧ batonForm 2 f = false)) ∧ s.dev.powered pBaton = true :=
  ⟨wst [(0xd, 0x40, 0x5)] [] (fun d => { d with boot := { d.boot with fwLen := 5 }, mboxTimer := 0xa393#16 }),
      { a := 0x5#8, typ := 0x2#4, guest := false, tag := 0x1#3, l := 0x6#8, addr := 0x293380#32, data := [], crc := 0xec5d#16, violation := true }, by decide +kernel⟩
theorem witness_BatonRequestsAndResponses_4 : ∃ (s : State) (f : BatonFrame) (x : Facts), s.calm ∧ s.dev.linkUp = true ∧
    f.violation = false ∧ f.crc ≠ crc16 (batonBytes f) ∧ s.dev.powered pBaton = true :=
  ⟨wst [(0xd, 0x40, 0x5)] [] (fun d => { d with boot := { d.boot with fwLen := 5 }, mboxTimer := 0x7f71#16 }),
      { a := 0x5#8, typ := 0x1#4, guest := false, tag := 0x5#3, l := 0x1#8, addr := 0x266294#32, data := [0x3#32, 0x3#32], crc := 0x1edd#16, violation := false }, { trigs := [], jbad := false, bad := [], pc := 0x0#32 }, by decide +kernel⟩
theorem witness_BatonRequestsAndResponses_5 : ∃ (s : State) (q : BatonReq), s.calm ∧ s.dev.linkUp = true ∧ s.dev.baton = some q ∧
    q.poll = false ∧ q.outcome ≤ 4 :=
  ⟨wst [] [] (fun d => { d with boot := { d.boot with fwLen := 5 }, baton := some { tag := 1, poll := false, err := true, outcome := 1, words := [] }, mboxTimer := 0xa393#16 }), { tag := 1, poll := false, err := true, outcome := 1, words := [] }, by decide +kernel⟩
theorem witness_BatonRequestsAndResponses_6 : ∃ (s : State) (q : BatonReq), s.calm ∧ s.dev.linkUp = true ∧ s.dev.baton = some q ∧
    q.poll = false ∧ q.outcome ≤ 4 ∧ s.dev.powered pBaton = true :=
  ⟨wst [] [] (fun d => { d with boot := { d.boot with fwLen := 5 }, baton := some { tag := 1, poll := false, err := true, outcome := 1, words := [] }, mboxTimer := 0xa393#16 }), { tag := 1, poll := false, err := true, outcome := 1, words := [] }, by decide +kernel⟩
theorem witness_BatonRequestsAndResponses_7 : ∃ (s : State) (q : BatonReq), s.calm ∧ s.dev.linkUp = true ∧ s.dev.baton = some q ∧
    q.poll = true ∧ q.outcome ≤ 4 :=
  ⟨wst [] [] (fun d => { d with boot := { d.boot with fwLen := 5 }, baton := some { tag := 1, poll := true, err := true, outcome := 1, words := [] }, mboxTimer := 0xa393#16 }), { tag := 1, poll := true, err := true, outcome := 1, words := [] }, by decide +kernel⟩
theorem witness_BatonRequestsAndResponses_8 : ∃ (s : State) (q : BatonReq), s.calm ∧ s.dev.linkUp = true ∧ s.dev.baton = some q ∧
    q.poll = true ∧ q.outcome ≤ 4 ∧ s.dev.powered pBaton = true :=
  ⟨wst [] [] (fun d => { d with boot := { d.boot with fwLen := 5 }, baton := some { tag := 1, poll := true, err := true, outcome := 1, words := [] }, mboxTimer := 0xa393#16 }), { tag := 1, poll := true, err := true, outcome := 1, words := [] }, by decide +kernel⟩
theorem witness_BatonRequestsAndResponses_9 : ∃ (s : State), s.calm ∧ s.dev.baton = none :=
  ⟨wst [] [] (fun d => { d with boot := { d.boot with fwLen := 5 }, mboxTimer := 0xa393#16 }), by decide +kernel⟩
theorem witness_PowerRequestsAndEntries_0 : ∃ (s : State) (w : Who) (v : Word), s.calm ∧ s.dev.takes w pPower 0x040 ∧
    s.dev.b pPower fPwBusy = false ∧ (getBits (storeWord pPower 0x040 (s.dev.rd pPower 0x040) (setBits v 31 1 1)) 0 2) = s.dev.pwState :=
  ⟨wst [] [], { mid := 0, sub := 1, user := false }, 0x41dc9154#32, by decide +kernel⟩
theorem witness_PowerRequestsAndEntries_1 : ∃ (s : State) (w : Who) (v : Word), s.calm ∧ s.dev.takes w pPower 0x040 ∧
    s.dev.b pPower fPwBusy = false ∧ (getBits (storeWord pPower 0x040 (s.dev.rd pPower 0x040) (setBits v 31 1 1)) 0 2) ≠ s.dev.pwState ∧
    (getBits (storeWord pPower 0x040 (s.dev.rd pPower 0x040) (setBits v 31 1 1)) 0 2) ≠ pwRun ∧ s.dev.commit = .idle :=
  ⟨wst [] [], { mid := 0, sub := 1, user := false }, 0x41dc9156#32, by decide +kernel⟩
theorem witness_PowerRequestsAndEntries_2 : ∃ (s : State) (w : Who) (v : Word), s.calm ∧ s.dev.takes w pPower 0x040 ∧
    s.dev.b pPower fPwBusy = false ∧ (getBits (storeWord pPower 0x040 (s.dev.rd pPower 0x040) (setBits v 31 1 1)) 0 2) ≠ s.dev.pwState ∧
    s.dev.commit ≠ .idle :=
  ⟨wst [] [] (fun d => { d with commit := CommitPhase.undecided 1 }), { mid := 0, sub := 1, user := false }, 0x41dc9156#32,
      by decide +kernel⟩
theorem witness_PowerRequestsAndEntries_3 : ∃ (s : State) (w : Who) (v : Word), s.calm ∧ s.dev.takes w pPower 0x040 ∧
    s.dev.b pPower fPwBusy = true :=
  ⟨wst [(0x2, 0x44, 0x4)] [], { mid := 0, sub := 1, user := false }, 0x41dc9157#32, by decide +kernel⟩
theorem witness_PowerRequestsAndEntries_4 : ∃ (s : State) (x : Nat), s.calm ∧ s.dev.commit = .idle ∧ s.dev.power.deferred = some x ∧
    x ≠ pwRun :=
  ⟨wst [] [] (fun d => { d with power := { d.power with deferred := some 2 } }), 2, by decide +kernel⟩
theorem witness_PowerRequestsAndEntries_5 : ∃ (s : State), s.calm ∧ (s.dev.commit ≠ .idle ∨ s.dev.power.deferred = none) :=
  ⟨wst [] [], by decide +kernel⟩
theorem witness_PowerRequestsAndEntries_6 : ∃ (s : State) (x k : Nat), s.calm ∧ s.dev.power.entry = some ⟨x, k⟩ ∧
    (s.dev.refusals k).1 = [] ∧ (x = pwIdle ∧ k < 4 ∨ x = pwDoze ∧ k < 6) :=
  ⟨wst [] [] (fun d => { d with power := { d.power with entry := some { target := 2, group := 4 } } }), 2, 4, by decide +kernel⟩
theorem witness_PowerRequestsAndEntries_7 : ∃ (s : State) (x : Nat), s.calm ∧ s.dev.power.entry = some ⟨x, 1⟩ ∧
    s.dev.g 0x12 fCapState = 2 ∧ s.dev.powered pPower = true :=
  ⟨wst [(0x12, 0x44, 0x2)] [] (fun d => { d with power := { d.power with entry := some { target := 2, group := 1 } } }), 2,
      by decide +kernel⟩
theorem witness_PowerRequestsAndEntries_8 : ∃ (s : State), s.calm ∧ s.dev.power.entry = some ⟨pwIdle, 4⟩ ∧ s.dev.powered pPower = true :=
  ⟨wst [] [] (fun d => { d with power := { d.power with entry := some { target := 1, group := 4 } } }) [(2097407, 0x1#8), (3145727, 0x1#8),
      (3145728, 0x1#8), (4194304, 0x2#8), (6291455, 0x3#8), (16777216, 0x1#8), (33554431, 0x1#8), (33554432, 0x5#8), (33562623, 0x6#8),
      (50331648, 0x7#8)], by decide +kernel⟩
theorem witness_PowerRequestsAndEntries_9 : ∃ (s : State), s.calm ∧ s.dev.power.entry = some ⟨pwDoze, 6⟩ ∧ s.dev.nvm.op = none ∧
    s.dev.nvm.lc = none :=
  ⟨wst [] [] (fun d => { d with power := { d.power with entry := some { target := 2, group := 6 } } }) [(2097407, 0x1#8), (3145727, 0x1#8),
      (3145728, 0x1#8), (4194304, 0x2#8), (6291455, 0x3#8), (16777216, 0x1#8), (33554431, 0x1#8), (33554432, 0x5#8), (33562623, 0x6#8),
      (50331648, 0x7#8)], by decide +kernel⟩
theorem witness_WakingFromDoze_0 : ∃ (s : State), s.calm :=
  ⟨wst [(0x5, 0x50, 0x1)] [], by decide +kernel⟩
theorem witness_WakingFromDoze_1 : ∃ (s : State), s.calm :=
  ⟨wst [(0x5, 0x50, 0x1)] [], by decide +kernel⟩
theorem witness_WakingFromDoze_2 : ∃ (s : State) (lead : Nat) (cells : List Nat), s.calm :=
  ⟨wst [(0x5, 0x50, 0x1), (0xd, 0x44, 0xffff)] [], 39, [7, 15, 5, 8, 12, 10, 7, 8], by decide +kernel⟩
theorem witness_WakingFromDoze_3 : ∃ (s : State) (x : Nat), s.calm ∧ s.dev.power.wake = some x ∧ s.dev.pwState = pwDoze ∧
    s.dev.power.waking = false :=
  ⟨wst [(0x2, 0x44, 0x2)] [] (fun d => { d with power := { d.power with wake := some 2 } }), 2, by decide +kernel⟩
theorem witness_WakingFromDoze_4 : ∃ (s : State), s.calm ∧ s.dev.power.waking = true ∧ s.saveCheck = none ∧ s.dev.trip = false :=
  ⟨wst [(0x2, 0x44, 0x2)] [] (fun d => { d with power := { d.power with waking := true } }) [(33554432, 0x31#8)], by decide +kernel⟩
theorem witness_WakingFromDoze_6 : ∃ (s : State) (n : Lane), s.calm ∧ s.dev.power.held.getLsbD n.val = true ∧
    s.dev.sqRuns (lineSq n) = true ∧ s.dev.b (pLrx n) fLrxEn = true ∧ s.dev.b (pLtx n) fLtxEn = false ∧ s.dev.laneState n = stOff :=
  ⟨wst [(0x26, 0x40, 0x1), (0x56, 0x44, 0x2)] [] (fun d => { d with power := { d.power with held := 0xffff#16 } }), 6, by decide +kernel⟩
theorem witness_WakingFromDoze_7 : ∃ (s : State) (sd : Side) (n : Lane), s.calm ∧ (s.dev.power.held.getLsbD (match sd with | .line => n.val | .host => 8 + n.val) = false ∨ s.dev.sqRuns (match sd with | .line => lineSq n | .host => hostSq n) = false) :=
  ⟨wst [(0x52, 0x44, 0x3), (0x5a, 0x44, 0x3)] [], Side.host, 2, by decide +kernel⟩
theorem witness_TimekeeperEvents_0 : ∃ (s : State) (w : Who) (v : Word), s.calm ∧ s.dev.takes w pTk 0x05C :=
  ⟨wst [] [], { mid := 4, sub := 1, user := false }, 0x53e4ffcf#32, by decide +kernel⟩
theorem witness_TimekeeperEvents_1 : ∃ (s : State), s.calm ∧ s.dev.b pTk fArmed = true ∧ (s.dev.rd64 pTk 0x058).toNat ≤ s.dev.tk.toNat ∧
    s.dev.powered pTk = true :=
  ⟨wst [(0x5, 0x60, 0x1)] [], by decide +kernel⟩
theorem witness_TimekeeperEvents_2 : ∃ (s : State), s.calm ∧ (s.dev.b pTk fArmed = false ∨ s.dev.tk.toNat < (s.dev.rd64 pTk 0x058).toNat) :=
  ⟨wst [(0x5, 0x58, 0x5)] [], by decide +kernel⟩
theorem witness_TimekeeperEvents_3 : ∃ (s : State), s.calm ∧ s.dev.b pTk fTkRc = false ∧ s.dev.powered pTk = true :=
  ⟨wst [] [], by decide +kernel⟩
theorem witness_TimekeeperEvents_4 : ∃ (s : State), s.calm ∧ s.dev.b pTk fTkRc = true :=
  ⟨wst [(0x5, 0x44, 0x1)] [], by decide +kernel⟩
theorem witness_TimekeeperEvents_5 : ∃ (s : State), s.calm ∧ s.dev.powered pTk = true :=
  ⟨wst [] [], by decide +kernel⟩
theorem witness_TimekeeperEvents_6 : ∃ (s : State), s.calm ∧ s.dev.powered pTk = true :=
  ⟨wst [] [], by decide +kernel⟩
theorem witness_TimekeeperEvents_7 : ∃ (s : State), s.calm ∧ s.dev.powered pTk = true :=
  ⟨wst [] [], by decide +kernel⟩
theorem witness_TimekeeperEvents_8 : ∃ (s : State), s.dev.life = .held ∧ s.dev.b pTk fTkRc = false :=
  ⟨wst [] [] (fun d => { d with life := Life.held }), by decide +kernel⟩
theorem witness_TimekeeperEvents_9 : ∃ (s : State), s.dev.life = .held ∧ s.dev.b pTk fVioLow = false :=
  ⟨wst [] [] (fun d => { d with life := Life.held }), by decide +kernel⟩
theorem witness_ResetAndSupplies_0 : ∃ (s : State), (s.dev.life = .on ∨ s.dev.life = .undefined) ∧ s.dev.b pTrial fTrBusy = false ∧
    s.dev.dozing = false :=
  ⟨wst [] [] id [(2097407, 0x1#8), (3145727, 0x1#8), (3145728, 0x1#8), (4194304, 0x2#8), (6291455, 0x3#8), (16777216, 0x1#8), (33554431,
      0x1#8), (33554432, 0x5#8), (33562623, 0x6#8), (50331648, 0x7#8)], by decide +kernel⟩
theorem witness_ResetAndSupplies_1 : ∃ (s : State), (s.dev.life = .on ∨ s.dev.life = .undefined) ∧ s.dev.b pTrial fTrBusy = false ∧
    s.dev.dozing = false :=
  ⟨wst [] [] id [(2097407, 0x1#8), (3145727, 0x1#8), (3145728, 0x1#8), (4194304, 0x2#8), (6291455, 0x3#8), (16777216, 0x1#8), (33554431,
      0x1#8), (33554432, 0x5#8), (33562623, 0x6#8), (50331648, 0x7#8)], by decide +kernel⟩
theorem witness_ResetAndSupplies_2 : ∃ (s : State) (x : Bool), (s.dev.life = .unpowered ∨ (s.dev.life = .held ∧ (x = false ∨
    s.dev.boot.cause = 1 ∨ s.dev.boot.cause = 0))) :=
  ⟨wst [] [] (fun d => { d with life := Life.held }), true, by decide +kernel⟩
theorem witness_ResetAndSupplies_3 : ∃ (s : State) (sel : Fin 4) (addr : Fin 64), s.dev.life = .held ∧ s.dev.offPages = [] ∧
    s.dev.b pTrial fTrBusy = false :=
  ⟨wst [] [] (fun d => { d with life := Life.held }) [(2097407, 0x1#8), (3145727, 0x1#8), (3145728, 0x1#8), (4194304, 0x2#8), (6291455,
      0x3#8), (16777216, 0x1#8), (33554431, 0x1#8), (33554432, 0x5#8), (33562623, 0x6#8), (50331648, 0x7#8)], 2, 7, by decide +kernel⟩
theorem witness_ResetAndSupplies_4 : ∃ (s : State) (sel : Fin 4) (addr : Fin 64), s.dev.life ≠ .held :=
  ⟨wst [] [] (fun d => { d with coachUp := true }), 2, 9, by decide +kernel⟩
theorem witness_ResetAndSupplies_7 : ∃ (s : State), s.dev.life = .unpowered :=
  ⟨wst [] [] (fun d => { d with life := Life.unpowered }), by decide +kernel⟩
theorem witness_ResetAndSupplies_8 : ∃ (s : State), s.dev.life ≠ .unpowered :=
  ⟨wst [] [] (fun d => { d with coachUp := true }), by decide +kernel⟩
theorem witness_BootSequence_0 : ∃ (s : State) (bad : List (Fin 2)) (jb : Bool), s.calm ∧ s.dev.boot.phase ≠ .rom :=
  ⟨wst [] [], [0, 1], true, by decide +kernel⟩
theorem witness_BootSequence_1 : ∃ (s : State) (bad : List (Fin 2)) (jb : Bool) (r : Nat), s.calm ∧ s.dev.boot.phase = .rom ∧
    s.dev.boot.cancel = false ∧ s.dev.g pBoot fBootSel ≠ 0 ∧ s.dev.powered pBoot = true ∧ ((s.dev.g pSec fLc = 0 ∧ r = 3) ∨
    (s.dev.g pSec fLc = 4 ∧ r = 4) ∨ ((1 ≤ s.dev.g pSec fLc ∧ s.dev.g pSec fLc ≤ 3) ∧ s.dev.g pBoot fBootSel = 3 ∧ r = 1) ∨
    ((1 ≤ s.dev.g pSec fLc ∧ s.dev.g pSec fLc ≤ 3) ∧ s.dev.g pBoot fBootSel ≠ 3 ∧ 3 ≤ s.dev.g pTk fBootTry ∧ r = 2)) :=
  ⟨wst [(0x7, 0x40, 0x2), (0x7, 0x44, 0x1), (0x8, 0x44, 0x300), (0x8, 0x4c,
      0x5)] [] (fun d => { d with boot := { d.boot with phase := BootPhase.rom } }), [0, 1], false, 1, by decide +kernel⟩
theorem witness_BootSequence_2 : ∃ (s : State) (bad : List (Fin 2)) (jb : Bool), s.calm ∧ s.dev.boot.phase = .rom ∧
    s.dev.boot.cancel = false ∧ (s.dev.g pBoot fBootSel = 1 ∨ s.dev.g pBoot fBootSel = 2) ∧ (1 ≤ s.dev.g pSec fLc ∧ s.dev.g pSec fLc ≤ 3) ∧
    s.dev.g pTk fBootTry < 3 :=
  ⟨wst [(0x7, 0x40, 0x3), (0x7, 0x44, 0x1), (0x8, 0x44, 0x100), (0x8, 0x4c,
      0x8cb74cb2)] [] (fun d => { d with boot := { d.boot with phase := BootPhase.rom } }), [0, 1], false, by decide +kernel⟩
theorem witness_BootSequence_3 : ∃ (s : State) (bad : List (Fin 2)) (jb : Bool) (k : Nat), s.calm ∧ s.dev.boot.phase = .rom ∧
    s.dev.boot.cancel = false ∧ s.dev.boot.failed = none ∧ s.dev.g pBoot fBootSel = 0 ∧ (1 ≤ s.dev.g pSec fLc ∧ s.dev.g pSec fLc ≤ 3) ∧
    s.dev.keyUsable 0 = true ∧ s.dev.g pTk fBootTry + 1 = k ∧ k ≤ 3 ∧ s.dev.rd pBoot 0x04C ≠ 0 ∧ jrnlRecords s.mem = [] ∧
    (∀ j < 16, memGet s.mem (journalBase + j) = 0xFF) ∧ s.dev.b 0x06 fFlashWindow = true ∧ s.dev.powered pBoot = true ∧
    s.dev.powered pSec = true ∧ 0 ∈ bad ∧ 1 ∈ bad ∧ jb = false ∧ (s.dev.coachUp = false ∨ s.dev.coachUp = true) :=
  ⟨wst [(0x6, 0x60, 0x2), (0x7, 0x40, 0x3), (0x7, 0x44, 0x1), (0x8, 0x4c,
      0x8cb74cb2)] [] (fun d => { d with boot := { d.boot with phase := BootPhase.rom } }) [(50331664, 0x7#8)], [0, 1], false, 1,
      by decide +kernel⟩
theorem witness_BootSequence_4 : ∃ (s : State) (w : Who), s.calm ∧ s.dev.takes w pBoot 0x050 ∧ s.dev.g pBoot fBootSel = w.mid.val ∧
    (w.mid.val = 1 ∨ w.mid.val = 2) ∧ s.dev.g pBoot fBootMode = mHostLoad ∧ s.dev.powered pBoot = true ∧ s.dev.powered pSec = true :=
  ⟨wst [(0x7, 0x40, 0x1), (0x7, 0x44, 0x1), (0x8, 0x44, 0x103), (0x8, 0x4c,
      0x3f984bf)] [] (fun d => { d with boot := { d.boot with phase := BootPhase.rom } }), { mid := 1, sub := 1, user := false },
      by decide +kernel⟩
theorem witness_BootSequence_5 : ∃ (s : State) (w : Who), s.calm ∧ (s.dev.g pBoot fBootSel ≠ w.mid.val ∨ w.mid.val = 0 ∨ 3 ≤ w.mid.val) :=
  ⟨wst [(0x7, 0x40, 0x1), (0x7, 0x44, 0x1), (0x8, 0x44, 0x103), (0x8, 0x4c,
      0x3f984bf)] [] (fun d => { d with boot := { d.boot with phase := BootPhase.rom } }), { mid := 2, sub := 1, user := false },
      by decide +kernel⟩
theorem witness_BootSequence_6 : ∃ (s : State) (w : Who) (jb : Bool), s.calm ∧ s.dev.takes w pBoot 0x040 ∧ w.mid.val = 0 ∧
    s.dev.boot.phase = .started .restart :=
  ⟨wst [] [] (fun d => { d with boot := { d.boot with phase := BootPhase.started (StartKind.restart) } }),
      { mid := 0, sub := 0, user := false }, true, by decide +kernel⟩
theorem witness_BootSequence_7 : ∃ (s : State) (w : Who) (jb : Bool), s.calm ∧ s.dev.takes w pBoot 0x040 ∧ w.mid.val = 0 ∧
    s.dev.boot.phase = .started .attempt ∧ s.dev.g pBoot fBootSel ≠ 0 :=
  ⟨wst [(0x8, 0x44, 0x100)] [] (fun d => { d with boot := { d.boot with phase := BootPhase.started (StartKind.attempt) } }),
      { mid := 0, sub := 0, user := false }, true, by decide +kernel⟩
theorem witness_BootSequence_8 : ∃ (s : State) (w : Who) (jb : Bool), s.calm ∧ w.mid.val ≠ 0 :=
  ⟨wst [] [], { mid := 3, sub := 0, user := false }, true, by decide +kernel⟩
theorem witness_BootSequence_9 : ∃ (s : State) (bad : List (Fin 2)), s.calm ∧ s.dev.boot.phase = .started .attempt ∧
    s.dev.powered pBoot = true :=
  ⟨wst [] [] (fun d => { d with boot := { d.boot with phase := BootPhase.started (StartKind.attempt) } }), [0, 1], by decide +kernel⟩
theorem witness_BootSequence_10 : ∃ (s : State) (bad : List (Fin 2)), s.calm ∧ (s.dev.boot.phase = .idle ∨ s.dev.boot.phase = .rom) :=
  ⟨wst [] [], [0, 1], by decide +kernel⟩
theorem witness_BootSequence_11 : ∃ (s : State) (w : Who) (jb : Bool), s.calm ∧ s.dev.takes w pBoot 0x040 ∧
    s.dev.g pBoot fBootMode = mWalk ∧ getBits (s.dev.rd pBoot 0x048) 0 8 ≠ 3 ∧ getBits (s.dev.rd pBoot 0x048) 0 8 ≠ 4 ∧
    s.dev.g pBoot fBootSel ≠ 0 ∧ s.dev.dozing = false :=
  ⟨wst [(0x8, 0x44, 0x102), (0x8, 0x48, 0x2)] [] id [(2097407, 0x1#8), (3145727, 0x1#8), (3145728, 0x1#8), (4194304, 0x2#8), (6291455,
      0x3#8), (16777216, 0x1#8), (33554431, 0x1#8), (33554432, 0x5#8), (33562623, 0x6#8), (50331648, 0x7#8)],
      { mid := 3, sub := 0, user := false }, true, by decide +kernel⟩
theorem witness_BootSequence_12 : ∃ (s : State) (w : Who) (jb : Bool), s.calm ∧ s.dev.takes w pBoot 0x040 ∧
    (s.dev.g pBoot fBootMode ≠ mWalk ∨ getBits (s.dev.rd pBoot 0x048) 0 8 = 3 ∨ getBits (s.dev.rd pBoot 0x048) 0 8 = 4) :=
  ⟨wst [(0x8, 0x48, 0x3)] [], { mid := 1, sub := 3, user := false }, false, by decide +kernel⟩
theorem witness_CommandServiceAnswers_0 : ∃ (s : State) (c : Fin 2), s.calm ∧ s.dev.b pMbox (fChFull c.val) = true ∧
    s.dev.g pMbox (fChRx c.val) = 0 ∧ (s.dev.coachUp = true ∨ s.dev.inWalk = true) ∧ getBits (s.dev.slotWord c.val 0) 24 8 = 1 :=
  ⟨wst [(0xa, 0x80, 0x80020000), (0xa, 0x400, 0x1000000)] [] (fun d => { d with coachUp := true }), 0, by decide +kernel⟩
theorem witness_CommandServiceAnswers_1 : ∃ (s : State) (c : Fin 2), s.calm ∧ s.dev.b pMbox (fChFull c.val) = true ∧
    s.dev.g pMbox (fChRx c.val) = 0 ∧ (s.dev.coachUp = true ∨ s.dev.inWalk = true) ∧ (getBits (s.dev.slotWord c.val 0) 24 8 = 0 ∨
    5 < getBits (s.dev.slotWord c.val 0) 24 8) :=
  ⟨wst [(0xa, 0x80, 0x80020000)] [] (fun d => { d with coachUp := true }), 0, by decide +kernel⟩
theorem witness_CommandServiceAnswers_2 : ∃ (s : State) (c : Fin 2), s.calm ∧ (s.dev.b pMbox (fChFull c.val) = false ∨
    s.dev.g pMbox (fChRx c.val) ≠ 0 ∨ (1 < getBits (s.dev.slotWord c.val 0) 24 8 ∧ getBits (s.dev.slotWord c.val 0) 24 8 ≤ 5)) :=
  ⟨wst [(0xa, 0x80, 0x20000), (0xa, 0x400, 0x5000000)] [] (fun d => { d with coachUp := true }), 0, by decide +kernel⟩
theorem witness_CommandServiceAnswers_3 : ∃ (s : State) (c : Fin 2), s.calm ∧ s.dev.b pMbox (fChFull c.val) = true ∧
    s.dev.g pMbox (fChRx c.val) = 0 ∧ (s.dev.coachUp = true ∨ s.dev.inWalk = true) ∧ getBits (s.dev.slotWord c.val 0) 24 8 = 2 ∧
    s.dev.powered pSec = true ∧ s.dev.g pSec fLc ≠ 2 ∧ s.dev.g pSec fLc ≠ 3 :=
  ⟨wst [(0x7, 0x40, 0x1), (0xa, 0x80, 0x80020000), (0xa, 0x400, 0x2000000)] [] (fun d => { d with coachUp := true }), 0, by decide +kernel⟩
theorem witness_CommandServiceAnswers_4 : ∃ (s : State) (c : Fin 2) (bad : List (Fin 2)) (slot : Fin 2) (x : Nat), s.calm ∧
    s.dev.b pMbox (fChFull c.val) = true ∧ s.dev.g pMbox (fChRx c.val) = 0 ∧ (s.dev.coachUp = true ∨ s.dev.inWalk = true) ∧
    getBits (s.dev.slotWord c.val 0) 24 8 = 3 ∧ (s.dev.slotWord c.val 1).toNat = slot.val ∧
    x = (if slot ∈ bad then 7 else s.verify (slotBase slot.val)) ∧ s.dev.powered pSec = true :=
  ⟨wst [(0xa, 0x80, 0x80100000), (0xa, 0x400, 0x31b403a)] [] (fun d => { d with coachUp := true }), 0, [], 0, 1, by decide +kernel⟩
theorem witness_CommandServiceAnswers_5 : ∃ (s : State) (c : Fin 2), s.calm ∧ s.dev.b pMbox (fChFull c.val) = true ∧
    s.dev.g pMbox (fChRx c.val) = 0 ∧ (s.dev.coachUp = true ∨ s.dev.inWalk = true) ∧ getBits (s.dev.slotWord c.val 0) 24 8 = 2 ∧
    s.dev.powered pSec = true :=
  ⟨wst [(0x7, 0x40, 0x3), (0xa, 0x80, 0x80020000), (0xa, 0x400, 0x2000000)] [] (fun d => { d with coachUp := true }), 0, by decide +kernel⟩
theorem witness_CommandServiceAnswers_6 : ∃ (s : State) (c : Fin 2) (bad : List (Fin 2)), s.calm ∧ s.dev.b pMbox (fChFull c.val) = true ∧
    s.dev.g pMbox (fChRx c.val) = 0 ∧ (s.dev.coachUp = true ∨ s.dev.inWalk = true) ∧ getBits (s.dev.slotWord c.val 0) 24 8 = 3 ∧
    1 < (s.dev.slotWord c.val 1).toNat :=
  ⟨wst [(0xa, 0x80, 0x80020000), (0xa, 0x400, 0x3000000), (0xa, 0x404, 0x3)] [] (fun d => { d with coachUp := true }), 0, [0, 1],
      by decide +kernel⟩
theorem witness_CommandServiceAnswers_7 : ∃ (s : State) (c : Fin 2) (bad : List (Fin 2)) (jb : Bool), s.calm ∧
    s.dev.b pMbox (fChFull c.val) = true ∧ s.dev.g pMbox (fChRx c.val) = 0 ∧ (s.dev.coachUp = true ∨ s.dev.inWalk = true) ∧
    getBits (s.dev.slotWord c.val 0) 24 8 = 4 ∧ (s.dev.inWalk = true ∨ (s.dev.inWalk = false ∧ (s.dev.slotWord c.val 1).toNat ≤ 1 ∧
    (s.dev.g pBoot fBootSel ≠ 0 ∨ (s.dev.slotWord c.val 1).toNat ≠ s.dev.g pBoot fRunning ∧
    s.dev.b pBoot (fVerified (s.dev.slotWord c.val 1).toNat) = false))) :=
  ⟨wst [(0xa, 0x80, 0x80020000), (0xa, 0x400, 0x4000000), (0xa, 0x404, 0x1)] [] (fun d => { d with coachUp := true }), 0, [0, 1], false,
      by decide +kernel⟩
theorem witness_CommandServiceAnswers_8 : ∃ (s : State) (c : Fin 2) (bad : List (Fin 2)) (jb : Bool), s.calm ∧
    s.dev.b pMbox (fChFull c.val) = true ∧ s.dev.g pMbox (fChRx c.val) = 0 ∧ (s.dev.coachUp = true ∨ s.dev.inWalk = true) ∧
    getBits (s.dev.slotWord c.val 0) 24 8 = 4 ∧ s.dev.inWalk = false ∧ (1 < (s.dev.slotWord c.val 1).toNat ∨ s.dev.g pBoot fBootSel = 0 ∧
    (s.dev.slotWord c.val 1).toNat = s.dev.g pBoot fRunning) :=
  ⟨wst [(0xa, 0x80, 0x80010000), (0xa, 0x400, 0x4b4540c)] [] (fun d => { d with coachUp := true }), 0, [0, 1], false, by decide +kernel⟩
theorem witness_CommandServiceAnswers_9 : ∃ (s : State) (c : Fin 2) (bad : List (Fin 2)) (jb : Bool), s.calm ∧
    s.dev.b pMbox (fChFull c.val) = true ∧ s.dev.g pMbox (fChRx c.val) = 0 ∧ (s.dev.coachUp = true ∨ s.dev.inWalk = true) ∧
    getBits (s.dev.slotWord c.val 0) 24 8 = 4 ∧ s.dev.inWalk = false ∧ s.dev.g pBoot fBootSel = 0 ∧
    (s.dev.slotWord c.val 1).toNat = 1 - s.dev.g pBoot fRunning ∧ s.dev.b pBoot (fVerified (s.dev.slotWord c.val 1).toNat) = true ∧
    0 ∈ bad ∧ 1 ∈ bad ∧ s.dev.b 0x06 fFlashWindow = false ∧ s.dev.powered pBoot = true ∧ s.dev.powered pSec = true :=
  ⟨wst [(0x8, 0x58, 0x3), (0xa, 0x80, 0x80020000), (0xa, 0x400, 0x4000000), (0xa, 0x404, 0x1)] [] (fun d => { d with coachUp := true }), 0,
      [0, 1], false, by decide +kernel⟩
theorem witness_CommandServiceAnswers_10 : ∃ (s : State) (c : Fin 2) (bad : List (Fin 2)) (jb : Bool) (slot : Fin 2), s.calm ∧
    s.dev.b pMbox (fChFull c.val) = true ∧ s.dev.g pMbox (fChRx c.val) = 0 ∧ (s.dev.coachUp = true ∨ s.dev.inWalk = true) ∧
    getBits (s.dev.slotWord c.val 0) 24 8 = 4 ∧ s.dev.inWalk = false ∧ s.dev.g pBoot fBootSel = 0 ∧
    (s.dev.slotWord c.val 1).toNat = slot.val ∧ slot.val ≠ s.dev.g pBoot fRunning ∧ s.dev.b pBoot (fVerified slot.val) = true ∧
    slot ∉ bad ∧ s.dev.b 0x06 fFlashWindow = false ∧ s.dev.powered pBoot = true :=
  ⟨wst [(0x8, 0x58, 0x3), (0xa, 0x84, 0x801f0000), (0xa, 0x440, 0x4650584), (0xa, 0x444, 0x1)] [] (fun d => { d with coachUp := true }), 1,
      [], false, 1, by decide +kernel⟩
theorem witness_CommandServiceAnswers_11 : ∃ (s : State) (c : Fin 2) (jb : Bool), s.calm ∧ s.dev.b pMbox (fChFull c.val) = true ∧
    s.dev.g pMbox (fChRx c.val) = 0 ∧ (s.dev.coachUp = true ∨ s.dev.inWalk = true) ∧ getBits (s.dev.slotWord c.val 0) 24 8 = 5 ∧
    (s.dev.inWalk = true ∨ s.dev.g pBoot fActState ≠ 2) :=
  ⟨wst [(0x8, 0x54, 0x1), (0xa, 0x80, 0x80020000), (0xa, 0x400, 0x5000000)] [] (fun d => { d with coachUp := true }), 0, false,
      by decide +kernel⟩
theorem witness_CommandServiceAnswers_12 : ∃ (s : State) (c : Fin 2) (jb : Bool), s.calm ∧ s.dev.b pMbox (fChFull c.val) = true ∧
    s.dev.g pMbox (fChRx c.val) = 0 ∧ (s.dev.coachUp = true ∨ s.dev.inWalk = true) ∧ getBits (s.dev.slotWord c.val 0) 24 8 = 5 ∧
    s.dev.inWalk = false ∧ s.dev.g pBoot fActState = 2 ∧ (s.dev.slotWord c.val 1).getLsbD 0 = false ∧
    (s.dev.slotWord c.val 1).getLsbD 1 = false ∧ s.dev.boot.advance = 0 ∧ s.dev.boot.revoke = 0 ∧ s.dev.g pBoot fBootSel ≠ 0 ∧
    s.dev.b pBoot fRbPending = false :=
  ⟨wst [(0x8, 0x44, 0x101), (0x8, 0x54, 0x2), (0xa, 0x80, 0x80020000), (0xa, 0x400, 0x5384bde)] [] (fun d => { d with coachUp := true }),
      0, false, by decide +kernel⟩
theorem witness_CommandServiceAnswers_13 : ∃ (s : State), s.calm ∧ s.dev.b 0x06 fOtpWindow = true ∧ s.dev.powered pSec = true ∧
    (s.dev.boot.advance ≠ 0 ∨ s.dev.boot.revoke ≠ 0) :=
  ⟨wst [(0x6, 0x60, 0x1)] [] (fun d => { d with boot := { d.boot with advance := 3 } }), by decide +kernel⟩
theorem witness_CommandServiceAnswers_14 : ∃ (s : State), s.calm ∧ (s.dev.b 0x06 fOtpWindow = false ∨ (s.dev.boot.advance = 0 ∧
    s.dev.boot.revoke = 0)) :=
  ⟨wst [] [], by decide +kernel⟩
theorem witness_NonVolatileOperations_0 : ∃ (s : State) (w : Who) (v : Word), s.calm ∧ s.dev.takes w pNvm 0x040 ∧ w.mid.val ≤ 2 ∧
    s.dev.b pNvm fNvBusy = false ∧ (s.dev.g pNvm ⟨0x044, 0, 24⟩) % 4096 = 0 ∧ 0x80A000 ≤ (s.dev.g pNvm ⟨0x044, 0, 24⟩) :=
  ⟨wst [(0x9, 0x44, 0x900000)] [], { mid := 0, sub := 3, user := false }, 0x3#32, by decide +kernel⟩
theorem witness_NonVolatileOperations_1 : ∃ (s : State) (w : Who) (v : Word), s.calm ∧ s.dev.takes w pNvm 0x040 ∧ w.mid.val ≤ 2 ∧
    s.dev.b pNvm fNvBusy = false ∧ (s.dev.g pNvm ⟨0x044, 0, 24⟩) % 4096 = 0 ∧ (s.dev.g pNvm ⟨0x044, 0, 24⟩) < 0x800000 ∧
    s.dev.g pBoot fActive ≠ (s.dev.g pNvm ⟨0x044, 0, 24⟩) / 0x400000 ∧ s.dev.g pBoot fBootSel = 0 ∧
    s.dev.g pBoot fRunning ≠ (s.dev.g pNvm ⟨0x044, 0, 24⟩) / 0x400000 :=
  ⟨wst [(0x9, 0x44, 0x5f2000)] [], { mid := 0, sub := 3, user := false }, 0x3#32, by decide +kernel⟩
theorem witness_NonVolatileOperations_2 : ∃ (s : State) (w : Who) (v : Word), s.calm ∧ s.dev.takes w pNvm 0x040 ∧ w.mid.val ≤ 2 ∧
    s.dev.b pNvm fNvBusy = false ∧ (s.dev.g pNvm ⟨0x044, 0, 24⟩) % 4096 ≠ 0 ∧ s.dev.powered pNvm = true :=
  ⟨wst [(0x9, 0x44, 0x2)] [], { mid := 0, sub := 3, user := false }, 0x3#32, by decide +kernel⟩
theorem witness_NonVolatileOperations_3 : ∃ (s : State) (w : Who) (v : Word), s.calm ∧ s.dev.takes w pNvm 0x040 ∧ w.mid.val ≤ 2 ∧
    s.dev.b pNvm fNvBusy = false ∧ (s.dev.g pNvm ⟨0x044, 0, 24⟩) % 4096 = 0 ∧ ((0x800000 ≤ (s.dev.g pNvm ⟨0x044, 0, 24⟩) ∧
    (s.dev.g pNvm ⟨0x044, 0, 24⟩) < 0x80A000) ∨ ((s.dev.g pNvm ⟨0x044, 0, 24⟩) < 0x800000 ∧
    s.dev.g pBoot fActive = (s.dev.g pNvm ⟨0x044, 0, 24⟩) / 0x400000)) ∧ s.dev.powered pNvm = true :=
  ⟨wst [] [], { mid := 0, sub := 3, user := false }, 0x3#32, by decide +kernel⟩
theorem witness_NonVolatileOperations_4 : ∃ (s : State) (w : Who) (v : Word), s.calm ∧ s.dev.takes w pNvm 0x040 ∧ w.mid.val ≤ 2 ∧
    s.dev.b pNvm fNvBusy = true :=
  ⟨wst [(0x9, 0x4c, 0x80)] [], { mid := 0, sub := 3, user := false }, 0x3#32, by decide +kernel⟩
theorem witness_NonVolatileOperations_5 : ∃ (s : State) (w : Who) (v : Word), s.calm ∧ s.dev.takes w pNvm 0x040 ∧ w.mid.val ≤ 2 ∧
    s.dev.b pNvm fNvBusy = false ∧ 1 ≤ getBits v 0 9 ∧ (s.dev.g pNvm ⟨0x044, 0, 24⟩) % 256 + getBits v 0 9 ≤ 256 ∧
    0x80A000 ≤ (s.dev.g pNvm ⟨0x044, 0, 24⟩) :=
  ⟨wst [(0x9, 0x44, 0x844a00)] [], { mid := 0, sub := 3, user := false }, 0x53#32, by decide +kernel⟩
theorem witness_NonVolatileOperations_6 : ∃ (s : State) (w : Who) (v : Word), s.calm ∧ s.dev.takes w pNvm 0x040 ∧ w.mid.val ≤ 2 ∧
    s.dev.b pNvm fNvBusy = false ∧ 1 ≤ getBits v 0 9 ∧ 256 < (s.dev.g pNvm ⟨0x044, 0, 24⟩) % 256 + min (getBits v 0 9) 256 ∧
    s.dev.powered pNvm = true :=
  ⟨wst [(0x9, 0x44, 0x2)] [], { mid := 0, sub := 3, user := false }, 0x194#32, by decide +kernel⟩
theorem witness_NonVolatileOperations_7 : ∃ (s : State) (w : Who) (v : Word), s.calm ∧ s.dev.takes w pNvm 0x040 ∧ w.mid.val ≤ 2 ∧
    s.dev.b pNvm fNvBusy = false ∧ ((20 ≤ (s.dev.g pNvm ⟨0x044, 0, 7⟩) ∧ (s.dev.g pNvm ⟨0x044, 0, 7⟩) < 84 ∧ s.dev.g pSec fLc = 1) ∨
    (92 ≤ (s.dev.g pNvm ⟨0x044, 0, 7⟩) ∧ s.dev.g pSec fLc ≠ 4)) ∧ s.dev.b 0x06 fOtpWindow = true :=
  ⟨wst [(0x6, 0x60, 0x1), (0x7, 0x40, 0x2), (0x9, 0x44, 0x76)] [], { mid := 0, sub := 3, user := false }, 0x3#32, by decide +kernel⟩
theorem witness_NonVolatileOperations_8 : ∃ (s : State) (w : Who) (v : Word) (r : Nat), s.calm ∧ s.dev.takes w pNvm 0x040 ∧ w.mid.val ≤ 2 ∧
    s.dev.b pNvm fNvBusy = false ∧ (((s.dev.g pNvm ⟨0x044, 0, 7⟩) < 19 ∨ (84 ≤ (s.dev.g pNvm ⟨0x044, 0, 7⟩) ∧
    (s.dev.g pNvm ⟨0x044, 0, 7⟩) < 92)) ∧ r = 3 ∨ 20 ≤ (s.dev.g pNvm ⟨0x044, 0, 7⟩) ∧ (s.dev.g pNvm ⟨0x044, 0, 7⟩) < 84 ∧
    s.dev.g pSec fLc ≠ 1 ∧ r = 4 ∨ 92 ≤ (s.dev.g pNvm ⟨0x044, 0, 7⟩) ∧ s.dev.g pSec fLc = 4 ∧ r = 4 ∨ 92 ≤ (s.dev.g pNvm ⟨0x044, 0, 7⟩) ∧
    s.dev.g pSec fLc ≠ 4 ∧ s.dev.b 0x06 fOtpWindow = false ∧ r = 2) ∧ s.dev.powered pNvm = true :=
  ⟨wst [(0x7, 0x40, 0x4), (0x9, 0x44, 0x7)] [], { mid := 1, sub := 2, user := false }, 0xffffffff#32, 3, by decide +kernel⟩
theorem witness_NonVolatileOperations_9 : ∃ (s : State) (w : Who) (v : Word), s.calm ∧ s.dev.takes w pNvm 0x040 ∧ w.mid.val ≤ 2 ∧
    s.dev.b pNvm fNvBusy = false ∧ ((s.dev.g pNvm ⟨0x044, 0, 7⟩) < 84 ∨ 92 ≤ (s.dev.g pNvm ⟨0x044, 0, 7⟩)) :=
  ⟨wst [(0x9, 0x44, 0x72)] [], { mid := 0, sub := 3, user := false }, 0x3#32, by decide +kernel⟩
theorem witness_NonVolatileOperations_10 : ∃ (s : State) (w : Who) (v : Word), s.calm ∧ s.dev.takes w pNvm 0x040 ∧ w.mid.val ≤ 2 ∧
    s.dev.b pNvm fNvBusy = false ∧ 84 ≤ (s.dev.g pNvm ⟨0x044, 0, 7⟩) ∧ (s.dev.g pNvm ⟨0x044, 0, 7⟩) < 92 ∧ s.dev.powered pNvm = true :=
  ⟨wst [(0x9, 0x44, 0x56)] [], { mid := 0, sub := 3, user := false }, 0x3#32, by decide +kernel⟩
theorem witness_NonVolatileOperations_11 : ∃ (s : State) (x : Nat), s.calm ∧ s.dev.nvm.op = some (.erase x) ∧ x < 4096 ∧ s.memOk ∧
    s.dev.powered pNvm = true :=
  ⟨wst [] [] (fun d => { d with nvm := { d.nvm with op := some (NvmOp.erase 2060) } }) [(58769413, 0x3#8), (58773504, 0x1#8)], 2060,
      by decide +kernel⟩
theorem witness_NonVolatileOperations_12 : ∃ (s : State) (x : Nat) (l : List Byte), s.calm ∧ s.dev.nvm.op = some (.program x l) ∧
    x + l.length ≤ 2 ^ 24 ∧ s.memOk ∧ s.dev.powered pNvm = true :=
  ⟨wst [] [] (fun d => { d with nvm := { d.nvm with op := some (NvmOp.program 8429760 [0x51#8]) } }) [(58761221, 0x3#8), (58761344,
      0x5a#8), (58761471, 0x0#8)], 8429760, [0x51#8], by decide +kernel⟩
theorem witness_NonVolatileOperations_13 : ∃ (s : State) (x : Nat) (u : Word), s.calm ∧ s.dev.nvm.op = some (.otp x u) ∧ x ≠ 19 ∧
    s.dev.powered pNvm = true :=
  ⟨wst [] [] (fun d => { d with nvm := { d.nvm with op := some (NvmOp.otp 70 0x4be50652#32) } }), 70, 0x4be50652#32, by decide +kernel⟩
theorem witness_NonVolatileOperations_14 : ∃ (s : State) (held : Option (List Byte)) (x : Nat), s.calm ∧ s.dev.nvm.op = some (.read x) ∧
    s.dev.powered pNvm = true :=
  ⟨wst [] [] (fun d => { d with nvm := { d.nvm with op := some (NvmOp.read 18) } }), none, 18, by decide +kernel⟩
theorem witness_NonVolatileOperations_15 : ∃ (s : State) (x : Nat) (l : List Byte), s.calm ∧ s.dev.nvm.op = some (.erase x) ∧
    l.length ≤ 4096 ∧ x < 4096 ∧ s.memOk ∧ s.dev.powered pNvm = true :=
  ⟨wst [] [] (fun d => { d with nvm := { d.nvm with op := some (NvmOp.erase 2060) } }) [(58765317, 0x3#8)], 2060, [], by decide +kernel⟩
theorem witness_NonVolatileOperations_16 : ∃ (s : State) (w : Who) (v : Word) (bad : List (Fin 2)), s.calm ∧ s.dev.takes w pNvm 0x050 ∧
    w.mid.val ≤ 2 ∧ s.dev.b pNvm fNvBusy = false ∧ s.dev.b pNvm fLcBusy = false ∧ s.dev.b 0x06 fOtpWindow = true ∧ ((s.dev.g pSec fLc = 0 ∧
    getBits v 0 3 = 1) ∨ (s.dev.g pSec fLc ≠ 4 ∧ getBits v 0 3 = 4)) :=
  ⟨wst [(0x6, 0x60, 0x1), (0x7, 0x40, 0x1)] [], { mid := 1, sub := 0, user := false }, 0xd33f0d74#32, [0, 1], by decide +kernel⟩
theorem witness_NonVolatileOperations_17 : ∃ (s : State) (w : Who) (v : Word) (bad : List (Fin 2)) (r : Nat), s.calm ∧
    s.dev.takes w pNvm 0x050 ∧ w.mid.val ≤ 2 ∧ s.dev.powered pNvm = true ∧ (((s.dev.b pNvm fNvBusy = true ∨ s.dev.b pNvm fLcBusy = true) ∧
    r = 9) ∨ (s.dev.b pNvm fNvBusy = false ∧ s.dev.b pNvm fLcBusy = false ∧ ((s.dev.g pSec fLc = 4 ∨
    getBits v 0 3 ∉ ([1, 2, 3, 4] : List Nat) ∨ getBits v 0 3 = 1 ∧ s.dev.g pSec fLc ≠ 0) ∧ r = 4 ∨ s.dev.g pSec fLc ≠ 4 ∧
    getBits v 0 3 = 4 ∧ s.dev.b 0x06 fOtpWindow = false ∧ r = 2))) :=
  ⟨wst [(0x6, 0x60, 0x1)] [], { mid := 1, sub := 0, user := false }, 0xd94883e8#32, [0, 1], 4, by decide +kernel⟩
theorem witness_NonVolatileOperations_18 : ∃ (s : State) (x : BitVec 256), s.calm ∧ s.dev.nvm.lc = some 1 ∧ s.dev.powered pSec = true ∧
    s.dev.otp 16 = 0 :=
  ⟨wst [] [] (fun d => { d with nvm := { d.nvm with otp := [], lc := some 1 } }), 0x24629038860a5d9bb06b26a5ea642a68#256, by decide +kernel⟩
theorem witness_NonVolatileOperations_19 : ∃ (s : State) (x : BitVec 256), s.calm ∧ s.dev.nvm.lc = some 4 ∧ s.dev.powered pSec = true :=
  ⟨wst [] [] (fun d => { d with nvm := { d.nvm with lc := some 4 } }), 0x24629038860a5d9bb06b26a5ea642a68#256, by decide +kernel⟩
theorem witness_NonVolatileOperations_20 : ∃ (s : State) (x : BitVec 256), s.calm ∧ s.dev.nvm.lc = none :=
  ⟨wst [] [], 0x0#256, by decide +kernel⟩
theorem witness_TimeTrialRuns_0 : ∃ (s : State) (w : Who) (v : Word), s.calm ∧ s.dev.takes w pTrial 0x040 ∧ w.mid.val ≤ 2 ∧
    s.dev.trialRefusal (getBits v 0 4) (s.dev.rd pTrial 0x044) = 0 ∧ v.getLsbD 30 = false :=
  ⟨wst [(0x7, 0x40, 0x3), (0x15, 0x44, 0x10000), (0x50, 0x44,
      0x3)] [] (fun d => { d with trial := { d.trial with cpExp := 0x1efaed57#32, cpVec := 186 } }), { mid := 0, sub := 3, user := false },
      0xc#32, by decide +kernel⟩
theorem witness_TimeTrialRuns_1 : ∃ (s : State) (w : Who) (v : Word) (r : Nat), s.calm ∧ s.dev.takes w pTrial 0x040 ∧ w.mid.val ≤ 2 ∧
    s.dev.trialRefusal (getBits v 0 4) (s.dev.rd pTrial 0x044) = r ∧ 0 < r ∧ v.getLsbD 30 = false :=
  ⟨wst [(0x7, 0x40, 0x2)] [] (fun d => { d with trial := { d.trial with cpExp := 0x1efaed57#32, cpVec := 186 } }),
      { mid := 0, sub := 3, user := false }, 0x2#32, 3, by decide +kernel⟩
theorem witness_TimeTrialRuns_2 : ∃ (s : State) (w : Who) (v : Word), s.calm ∧ 2 < w.mid.val :=
  ⟨wst [] [] (fun d => { d with trial := { d.trial with suspended := true, cpSig := 0xc2f23bbf#32, cpExp := 0xbcc4e291#32, cpVec := 36 } }), { mid := 18, sub := 0, user := false }, 0xffffffff#32, by decide +kernel⟩
theorem witness_TimeTrialRuns_3 : ∃ (s : State) (bad : List (Nat × Word × BitVec 2)) (u : Word) (test vec : Nat), s.dev.life = .on ∧
    s.dev.b pTrial fTrBusy = true ∧ s.dev.trialReady (s.dev.g pTrial fTrTest) s.dev.trial.target = true ∧ s.dev.trial.suspended = false ∧
    s.dev.runs pTrial ∧ (s.dev.g pTrial fTrTest) = test ∧ test ∈ [1, 2, 6, 7, 8, 9] ∧ (s.dev.rd pTrial 0x054).toNat = vec ∧
    vec + 1 < (s.dev.rd pTrial 0x058).toNat ∧ (vec + 1) % segVectors test ≠ 0 :=
  ⟨wst [(0x15, 0x48, 0x800a0070), (0x15, 0x54, 0x2e), (0x15, 0x58,
      0x4e20)] [] (fun d => { d with trial := { d.trial with cpSig := 0x1#32, cpExp := 0x2#32, cpVec := 3 } }), [], 0x8502d82a#32, 7, 46,
      by decide +kernel⟩
theorem witness_TimeTrialRuns_4 : ∃ (s : State) (bad : List (Nat × Word × BitVec 2)) (u : Word) (vec : Nat), s.dev.life = .on ∧
    s.dev.b pTrial fTrBusy = true ∧ s.dev.trialReady (s.dev.g pTrial fTrTest) s.dev.trial.target = true ∧ s.dev.trial.suspended = false ∧
    s.dev.runs pTrial ∧ ((s.dev.g pTrial fTrTest) = 4 ∨ (s.dev.g pTrial fTrTest) = 5) ∧ (s.dev.rd pTrial 0x054).toNat = vec ∧
    vec + 1 = (s.dev.rd pTrial 0x058).toNat :=
  ⟨wst [(0xe, 0x40, 0x1), (0x15, 0x48, 0x800a0040), (0x15, 0x54, 0xff), (0x15, 0x58, 0x100)] [(0xe, 0x48,
      0x0)] (fun d => { d with trial := { d.trial with cpSig := 0x1#32, cpExp := 0x2#32, cpVec := 3 } }), [], 0x8502d82a#32, 255,
      by decide +kernel⟩
theorem witness_TimeTrialRuns_5 : ∃ (s : State) (bad : List (Nat × Word × BitVec 2)) (u : Word), s.dev.life = .on ∧
    (s.dev.b pTrial fTrBusy = false ∨ (s.dev.trial.suspended = true ∧
    s.dev.trialReady (s.dev.g pTrial fTrTest) s.dev.trial.target = true)) :=
  ⟨wst [] [] (fun d => { d with trial := { d.trial with suspended := true, cpSig := 0xc2f23bbf#32, cpExp := 0xbcc4e291#32, cpVec := 36 } }), [], 0x8502d82a#32, by decide +kernel⟩
theorem witness_TimeTrialRuns_6 : ∃ (s : State) (w : Who) (v : Word), s.dev.life = .on ∧ s.dev.b pTrial fTrBusy = true ∧
    s.dev.takes w pTrial 0x040 ∧ w.mid.val ≤ 2 ∧ v.getLsbD 31 = false ∧ s.dev.trial.cpVec < 2 ^ 32 :=
  ⟨wst [(0x15, 0x48, 0x800a0080), (0x15, 0x54, 0x4d), (0x15, 0x58,
      0x24)] [] (fun d => { d with trial := { d.trial with suspended := true, cpSig := 0xc2f23bbf#32, cpExp := 0xbcc4e291#32, cpVec := 36 } }), { mid := 0, sub := 0, user := false }, 0x7fffffff#32, by decide +kernel⟩
theorem witness_TimeTrialRuns_7 : ∃ (s : State) (w : Who) (v : Word), s.calm ∧ s.dev.takes w pTrial 0x040 ∧ w.mid.val ≤ 2 ∧
    v.getLsbD 31 = false :=
  ⟨wst [] [] (fun d => { d with trial := { d.trial with suspended := true, cpSig := 0xc2f23bbf#32, cpExp := 0xbcc4e291#32, cpVec := 36 } }), { mid := 0, sub := 0, user := false }, 0x7fffffff#32, by decide +kernel⟩
theorem witness_TimeTrialRuns_8 : ∃ (s : State), s.dev.life = .on ∧ s.dev.b pTrial fTrBusy = true ∧
    s.dev.trialReady (s.dev.g pTrial fTrTest) s.dev.trial.target = true ∧ s.dev.trial.suspended = true ∧ s.dev.runs pTrial ∧
    (s.dev.g pTrial fTrTest) ≠ 3 ∧ s.dev.trial.cpVec < 2 ^ 32 :=
  ⟨wst [(0x15, 0x48, 0x800a0080), (0x15, 0x54,
      0x4d)] [] (fun d => { d with trial := { d.trial with suspended := true, cpSig := 0x1#32, cpExp := 0x2#32, cpVec := 3 } }),
      by decide +kernel⟩
theorem witness_TimeTrialRuns_9 : ∃ (s : State), s.dev.life = .on ∧ (s.dev.b pTrial fTrBusy = false ∨ (s.dev.trial.suspended = false ∧
    s.dev.trialReady (s.dev.g pTrial fTrTest) s.dev.trial.target = true)) :=
  ⟨wst [] [] (fun d => { d with trial := { d.trial with suspended := true, cpSig := 0xc2f23bbf#32, cpExp := 0xbcc4e291#32, cpVec := 36 } }), by decide +kernel⟩
theorem witness_TapTakesTheBalls_0 : ∃ (s : State) (i : TapInstr), s.calm ∧ (s.dev.tapHolds = true ↔ (i = .extest ∨ i = .clamp ∨
    i = .highz ∨ i = .extestPulse ∨ i = .extestTrain)) :=
  ⟨wst [] [], TapInstr.samplePreload, by decide +kernel⟩
theorem witness_TapTakesTheBalls_1 : ∃ (s : State) (i : TapInstr), s.calm ∧ ¬ (s.dev.tapHolds = true ↔ (i = .extest ∨ i = .clamp ∨
    i = .highz ∨ i = .extestPulse ∨ i = .extestTrain)) :=
  ⟨wst [] [] (fun d => { d with tap := TapInstr.extest }), TapInstr.idcode, by decide +kernel⟩
theorem witness_TapTakesTheBalls_2 : ∃ (s : State), s.calm ∧ s.dev.tapHolds = false :=
  ⟨wst [] [], by decide +kernel⟩
theorem witness_TapTakesTheBalls_3 : ∃ (s : State), s.calm ∧ s.dev.tapHolds = true :=
  ⟨wst [] [] (fun d => { d with tap := TapInstr.clamp }), by decide +kernel⟩
theorem witness_TapTakesTheBalls_4 : ∃ (s : State) (i : TapInstr), s.dev.life = .held :=
  ⟨wst [] [] (fun d => { d with life := Life.held }), TapInstr.samplePreload, by decide +kernel⟩
theorem witness_RegisterPageAccesses_0 : ∃ (s : State) (w : Who) (addr : Word) (size : Size) (v : Word) (x : Facts), s.calm ∧
    isEngine w = false ∧ 0x00100000 ≤ addr.toNat ∧ addr.toNat < 0x00200000 ∧ (kindOf ((addr.toNat - 0x00100000) / 4096)).isSome = true ∧
    (size ≠ .word ∨ addr.toNat % 4 ≠ 0) :=
  ⟨wst [] [], { mid := 0, sub := 2, user := false }, 0x1105d2#32, Size.half, 0x2#32,
      { trigs := [], jbad := false, bad := [], pc := 0x0#32 }, by decide +kernel⟩
theorem witness_RegisterPageAccesses_1 : ∃ (s : State) (w : Who) (addr : Word) (size : Size) (pc : Word) (bad : List (Fin 2)), s.calm ∧
    isEngine w = false ∧ 0x00100000 ≤ addr.toNat ∧ addr.toNat < 0x00200000 ∧ (kindOf ((addr.toNat - 0x00100000) / 4096)).isSome = true ∧
    (size ≠ .word ∨ addr.toNat % 4 ≠ 0) :=
  ⟨wst [] [], { mid := 0, sub := 2, user := false }, 0x1105d2#32, Size.half, 0x5#32, [], by decide +kernel⟩
theorem witness_RegisterPageAccesses_2 : ∃ (s : State) (w : Who) (addr : Word) (size : Size) (v : Word) (x : Facts), s.calm ∧
    isEngine w = false ∧ 0x00100000 ≤ addr.toNat ∧ addr.toNat < 0x00200000 ∧ kindOf ((addr.toNat - 0x00100000) / 4096) = none :=
  ⟨wst [] [], { mid := 0, sub := 1, user := false }, 0x16bb4f#32, Size.byte, 0x41dc9157#32,
      { trigs := [], jbad := false, bad := [], pc := 0x0#32 }, by decide +kernel⟩
theorem witness_RegisterPageAccesses_3 : ∃ (s : State) (w : Who) (addr : Word) (size : Size) (pc : Word) (bad : List (Fin 2)), s.calm ∧
    isEngine w = false ∧ 0x00100000 ≤ addr.toNat ∧ addr.toNat < 0x00200000 ∧ kindOf ((addr.toNat - 0x00100000) / 4096) = none :=
  ⟨wst [] [], { mid := 0, sub := 1, user := false }, 0x16bb4f#32, Size.byte, 0x5#32, [], by decide +kernel⟩
theorem witness_RegisterPageAccesses_4 : ∃ (s : State) (w : Who) (p : Fin 256) (r : Fin 1024) (v : Word) (x : Facts), s.calm ∧
    (∀ o : Fin 1024, r.val ≤ o.val → regSpec p.val (4 * o.val) = none) ∧ s.dev.takes w p.val (4 * r.val) :=
  ⟨wst [] [], { mid := 2, sub := 0, user := false }, 18, 200, 0xffffffff#32, { trigs := [], jbad := false, bad := [], pc := 0x0#32 },
      by decide +kernel⟩
theorem witness_RegisterPageAccesses_5 : ∃ (s : State) (w : Who) (p : Fin 256) (r : Fin 1024) (pc : Word) (bad : List (Fin 2)), s.calm ∧
    (∀ o : Fin 1024, r.val ≤ o.val → regSpec p.val (4 * o.val) = none) ∧ s.dev.shows w p.val (4 * r.val) :=
  ⟨wst [] [], { mid := 2, sub := 0, user := false }, 18, 200, 0x5#32, [], by decide +kernel⟩
theorem witness_TripThresholdIsLimited_0 : ∃ (s : State) (w : Who) (v : Word), s.calm ∧ s.dev.takes w pTherm 0x044 :=
  ⟨wst [] [], { mid := 1, sub := 1, user := false }, 0x41dc9157#32, by decide +kernel⟩
theorem witness_TripThresholdIsLimited_1 : ∃ (s : State) (w : Who) (v : Word) (x : Facts), s.calm ∧ s.dev.takes w pTherm 0x044 :=
  ⟨wst [] [], { mid := 0, sub := 1, user := false }, 0x41dc9157#32, { trigs := [], jbad := false, bad := [], pc := 0x0#32 },
      by decide +kernel⟩
theorem witness_TripThresholdIsLimited_2 : ∃ (s : State) (w : Who) (v : Word), s.calm ∧ s.dev.takes w pTherm 0x028 ∧ v.getLsbD 0 = true :=
  ⟨wst [(0x6, 0x40, 0x1441e8), (0x6, 0x44, 0x501e8)] [], { mid := 1, sub := 1, user := false }, 0x41dc9157#32, by decide +kernel⟩

end Sys2Proof.Tests
end

section
/-! The queue: what each effect on the memories, each command and each step makes of the commands that wait (O4, O1). -/

open Sys2Proof Sys2Proof.Machine

namespace Sys2Proof.Machine

/-- A fold keeps the queue if each of its steps does. -/
theorem foldl_pending {α : Type} {f : State → α → State} (hf : ∀ s a, (f s a).pending = s.pending) (l : List α) (s : State) :
    (l.foldl f s).pending = s.pending := by
  induction l generalizing s with
  | nil => rfl
  | cons a t ih => exact (ih (f s a)).trans (hf s a)

/-! Memory errors -/

@[simp] theorem State.flip_pending (s : State) (loc bit : Nat) : (s.flip loc bit).pending = s.pending := by
  unfold State.flip
  dsimp only
  split
  · rfl
  · split
    · rfl
    · split <;> rfl

@[simp] theorem State.flipAt_pending (s : State) (x : FlipAt) : (s.flipAt x).pending = s.pending := by
  cases x with
  | word loc bit => exact s.flip_pending _ _
  | vote => rfl

/-! The calibration store -/

@[simp] theorem State.storeStart_pending (s : State) : s.storeStart.pending = s.pending := rfl

@[simp] theorem State.storeBegin_pending (s : State) : s.storeBegin.pending = s.pending := by
  unfold State.storeBegin; repeat' split
  all_goals rfl

@[simp] theorem State.reloadStore_pending (s : State) (v : Word) : (s.reloadStore v).pending = s.pending := by
  unfold State.reloadStore; dsimp only; repeat' split
  all_goals rfl

@[simp] theorem State.storeDone_pending (s : State) (bad : List (Nat × Word)) : (s.storeDone bad).pending = s.pending := by
  unfold State.storeDone; split
  · rfl
  · dsimp only; split
    · rfl
    · rw [State.reloadStore_pending]

@[simp] theorem State.calBoot_pending (s : State) : s.calBoot.pending = s.pending := rfl

@[simp] theorem State.calCmd_pending (s : State) (w : Who) (v : Word) : (s.calCmd w v).pending = s.pending := by
  unfold State.calCmd; dsimp only; split
  · split <;> simp
  · rfl

@[simp] theorem State.calCheck_pending (s : State) : s.calCheck.pending = s.pending := by
  unfold State.calCheck; dsimp only; split
  · rfl
  · split <;> rfl

@[simp] theorem State.storeDue_pending (s : State) : s.storeDue.pending = s.pending := by
  unfold State.storeDue; split <;> simp

/-! Memory tests and captures -/

@[simp] theorem State.marchLeft_pending (s : State) : s.marchLeft.pending = s.pending := by
  unfold State.marchLeft; dsimp only; split
  · rfl
  · exact foldl_pending (fun t i => by split <;> rfl) _ _

@[simp] theorem State.anaStart_pending (s : State) : s.anaStart.pending = s.pending := by
  unfold State.anaStart; dsimp only; repeat' split
  all_goals rfl

@[simp] theorem State.countUp_pending (s : State) (dest c row n : Nat) : (s.countUp dest c row n).pending = s.pending := by
  rw [State.countUp, State.setWord_pending]

@[simp] theorem State.histogram_pending (s : State) (kind str aux dest : Nat) : (s.histogram kind str aux dest).pending = s.pending := by
  unfold State.histogram
  exact foldl_pending (fun t i => foldl_pending (fun u k => u.countUp_pending _ _ _ _) _ t) _ s

@[simp] theorem State.anaEnd_pending (s : State) (eye : List (Nat × Nat × Nat)) (halt : Option (Nat × Word)) :
    (s.anaEnd eye halt).pending = s.pending := by
  unfold State.anaEnd; split
  · rfl
  · cases halt with
    | some => rfl
    | none =>
      dsimp only; split
      · exact foldl_pending (fun t e => t.countUp_pending _ _ _ _) eye s
      · simp

@[simp] theorem State.anaCtrlWrite_pending (s : State) (w : Who) (v : Word) : (s.anaCtrlWrite w v).pending = s.pending := by
  unfold State.anaCtrlWrite; split
  · dsimp only; repeat' split
    all_goals simp
  · rfl

@[simp] theorem State.strDone_pending (s : State) (str : Nat) (x : StreamData) : (s.strDone str x).pending = s.pending := rfl

@[simp] theorem State.capDone_pending (s : State) (xs : List StreamData) : (s.capDone xs).pending = s.pending := by
  unfold State.capDone; split
  · rfl
  · dsimp only
    generalize hu : s.dev.streams.foldl _ s = u
    have h : u.pending = s.pending := hu ▸ foldl_pending (fun t str => t.strDone_pending _ _) _ s
    split <;> simp [h]

/-! Packages and the journal -/

@[simp] theorem State.copySlot_pending (s : State) (slot : Nat) : (s.copySlot slot).pending = s.pending := by
  unfold State.copySlot
  dsimp only
  refine foldl_pending ?_ _ _
  intro t i; rfl

@[simp] theorem State.verifyEvent_pending (s : State) (cause : Nat) : (s.verifyEvent cause).pending = s.pending := rfl

@[simp] theorem State.jrnlErase_pending (s : State) (i : Nat) : (s.jrnlErase i).pending = s.pending := by
  unfold State.jrnlErase; split <;> rfl

@[simp] theorem State.jrnl_pending (s : State) (kind slot attempt cause : Nat) (bad : Bool) :
    (s.jrnl kind slot attempt cause bad).pending = s.pending := by
  unfold State.jrnl; dsimp only; repeat' split
  all_goals simp

/-! Boot, restarts and reset -/

@[simp] theorem State.loadImage_pending (s : State) (n : Sq) : (s.loadImage n).pending = s.pending := by
  rw [State.loadImage, State.copy_pending, State.forget_pending]

@[simp] theorem State.idleForget_pending (s : State) : s.idleForget.pending = s.pending := by
  rw [State.idleForget, State.forget_pending, State.forget_pending]

@[simp] theorem State.hold_pending (s : State) (cause : Nat) : (s.hold cause).pending = s.pending := by
  unfold State.hold; dsimp only; split <;> simp

@[simp] theorem State.startFw_pending (s : State) (slot : Nat) (k : StartKind) : (s.startFw slot k).pending = s.pending := by
  unfold State.startFw; rfl

@[simp] theorem State.tryCopy_pending (s : State) (slot : Nat) (bad : List Nat) : (s.tryCopy slot bad).2.pending = s.pending := by
  unfold State.tryCopy; split
  · rfl
  · simp

@[simp] theorem State.attemptBegin_pending (s : State) (k slot : Nat) (bad : Bool) : (s.attemptBegin k slot bad).pending = s.pending := by
  unfold State.attemptBegin; dsimp only; split <;> simp

@[simp] theorem State.flashAttempt_pending (s : State) (k : Nat) (bad : List Nat) (jbad : Bool) :
    (s.flashAttempt k bad jbad).pending = s.pending := by
  unfold State.flashAttempt; dsimp only; repeat' split
  all_goals simp

@[simp] theorem State.readJournal_pending (s : State) : s.readJournal.pending = s.pending := by
  unfold State.readJournal; split <;> rfl

@[simp] theorem State.cancelAttempt_pending (s : State) (jbad : Bool) : (s.cancelAttempt jbad).pending = s.pending := by
  unfold State.cancelAttempt; split <;> simp

@[simp] theorem State.bootRom_pending (s : State) (bad : List Nat) (jbad : Bool) : (s.bootRom bad jbad).pending = s.pending := by
  unfold State.bootRom; dsimp only; repeat' split
  all_goals simp

theorem State.accessUnless_pending {f : State → State} (hf : ∀ s, (f s).pending = s.pending) (s : State) (bad : Bool) (w : Who)
    (p off : Nat) : (s.accessUnless bad w p off f).pending = s.pending := by
  unfold State.accessUnless
  generalize (if bad && (kindOf p).isSome then Status.denied else s.dev.writeStatus w p off) = e
  dsimp only; split
  · exact hf s
  · rfl

@[simp] theorem State.hostLoad_pending (s : State) (w : Who) (v : Word) : (s.hostLoad w v).pending = s.pending :=
  State.accessUnless_pending (fun s => by dsimp only; repeat' split
                                          all_goals simp) s _ _ _ _

@[simp] theorem State.goodAttempt_pending (s : State) (jbad : Bool) : (s.goodAttempt jbad).pending = s.pending := by
  unfold State.goodAttempt; dsimp only; split <;> simp

@[simp] theorem State.bootGood_pending (s : State) (jbad : Bool) : (s.bootGood jbad).pending = s.pending := by
  unfold State.bootGood; split
  · split <;> simp
  · rfl

@[simp] theorem State.walkExit_pending (s : State) (jbad : Bool) : (s.walkExit jbad).pending = s.pending := by
  unfold State.walkExit; dsimp only; split <;> simp

@[simp] theorem State.bootCtrl_pending (s : State) (w : Who) (v : Word) (jbad : Bool) : (s.bootCtrl w v jbad).pending = s.pending :=
  State.accessUnless_pending (fun s => by dsimp only; repeat' split
                                          all_goals simp) s _ _ _ _

@[simp] theorem State.restartActive_pending (s : State) (bad : List Nat) : (s.restartActive bad).pending = s.pending := by
  unfold State.restartActive; dsimp only; split <;> simp

@[simp] theorem State.actFail_pending (s : State) (cause : Nat) (bad : List Nat) : (s.actFail cause bad).pending = s.pending := by
  unfold State.actFail; simp

@[simp] theorem State.bootWatchdog_pending (s : State) (bad : List Nat) : (s.bootWatchdog bad).pending = s.pending := by
  unfold State.bootWatchdog; repeat' split
  all_goals simp

@[simp] theorem State.coachException_pending (s : State) (bad : List Nat) : (s.coachException bad).pending = s.pending := by
  unfold State.coachException; dsimp only; repeat' split
  all_goals simp

@[simp] theorem State.coachRead_pending (s : State) (loc : Nat) (bad : List Nat) : (s.coachRead loc bad).pending = s.pending := by
  unfold State.coachRead; dsimp only; split <;> simp

@[simp] theorem State.resetAssert_pending (s : State) (power : Bool) : (s.resetAssert power).pending = s.pending := by
  unfold State.resetAssert; repeat' split
  all_goals simp

@[simp] theorem State.resetRelease_pending (s : State) (sel : Fin 4) (addr : Fin 64) : (s.resetRelease sel addr).pending = s.pending := by
  unfold State.resetRelease; split <;> rfl

@[simp] theorem State.vaonLoss_pending (s : State) : s.vaonLoss.pending = s.pending := by
  simp [State.vaonLoss]

@[simp] theorem State.vaonUp_pending (s : State) : s.vaonUp.pending = s.pending := by
  unfold State.vaonUp; split <;> rfl

@[simp] theorem State.railFault_pending (s : State) : s.railFault.pending = s.pending := by
  unfold State.railFault; split <;> rfl

/-! The command service, NVM and the life cycle -/

theorem State.serve_pending {f : State → State} (hf : ∀ s, (f s).pending = s.pending) (s : State) (c : Fin 2) (op : Nat) :
    (s.serve c op f).pending = s.pending := by
  unfold State.serve; dsimp only; split
  · rfl
  · split
    · exact hf s
    · split <;> rfl

@[simp] theorem State.verifySlot_pending (s : State) (c : Nat) (bad : List Nat) : (s.verifySlot c bad).pending = s.pending := by
  unfold State.verifySlot; dsimp only; split <;> rfl

@[simp] theorem State.activate_pending (s : State) (c : Nat) (bad : List Nat) (jbad : Bool) : (s.activate c bad jbad).pending = s.pending := by
  unfold State.activate; dsimp only; repeat' split
  all_goals simp

@[simp] theorem State.confirm_pending (s : State) (c : Nat) (jbad : Bool) : (s.confirm c jbad).pending = s.pending := by
  unfold State.confirm; dsimp only; split <;> simp

@[simp] theorem State.flashEnd_pending (s : State) (a : Nat) (now want : List Byte) : (s.flashEnd a now want).pending = s.pending := rfl

@[simp] theorem State.nvmDone_pending (s : State) (held : Option (List Byte)) : (s.nvmDone held).pending = s.pending := by
  unfold State.nvmDone; split <;> rfl

@[simp] theorem State.nvmTimeout_pending (s : State) (held : List Byte) : (s.nvmTimeout held).pending = s.pending := by
  unfold State.nvmTimeout; split <;> rfl

@[simp] theorem State.lcCheck_pending (s : State) (target slot : Nat) (bad : List Nat) :
    (s.lcCheck target slot bad).2.pending = s.pending := by
  unfold State.lcCheck; dsimp only; repeat' split
  all_goals rfl

@[simp] theorem State.lcReq_pending (s : State) (w : Who) (v : Word) (bad : List Nat) : (s.lcReq w v bad).pending = s.pending :=
  State.accessUnless_pending (fun s => by dsimp only; repeat' split
                                          all_goals simp) s _ _ _ _

/-! Power states -/

@[simp] theorem State.saveWrite_pending (s : State) : s.saveWrite.pending = s.pending := rfl
@[simp] theorem State.restoreSlices_pending (s : State) : s.restoreSlices.pending = s.pending := rfl

@[simp] theorem State.saveApply_pending (s : State) (l : List Word) : (s.saveApply l).pending = s.pending := by
  rw [State.saveApply, State.restoreSlices_pending, State.setWord_pending]

@[simp] theorem State.idleEnter_pending (s : State) : s.idleEnter.pending = s.pending := by
  rw [State.idleEnter, State.idleForget_pending]

@[simp] theorem State.dozeEnter_pending (s : State) : s.dozeEnter.pending = s.pending := by
  simp [State.dozeEnter]


@[simp] theorem State.sleepResponse_pending (s : State) : s.sleepResponse.pending = s.pending := by
  unfold State.sleepResponse; dsimp only; repeat' split
  all_goals simp

@[simp] theorem State.wakeRestore_pending (s : State) : s.wakeRestore.pending = s.pending := by
  unfold State.wakeRestore; dsimp only; repeat' split
  all_goals simp

/-! Accesses and DMA -/

@[simp] theorem State.regWrite_pending (s : State) (w : Who) (p off : Nat) (v : Word) (x : Facts) :
    (s.regWrite w p off v x).pending = s.pending := by
  unfold State.regWrite; repeat' split
  all_goals simp

@[simp] theorem State.touch_pending (s : State) (w : Who) (a : Nat) (read : Bool) : (s.touch w a read).pending = s.pending := rfl

@[simp] theorem State.memRead_pending (s : State) (w : Who) (a : Nat) (size : Size) (bad : List Nat) :
    (s.memRead w a size bad).pending = s.pending := by
  unfold State.memRead; dsimp only; repeat' split
  all_goals simp

@[simp] theorem State.memWrite_pending (s : State) (w : Who) (a : Nat) (size : Size) (v : Word) :
    (s.memWrite w a size v).pending = s.pending := by
  unfold State.memWrite; dsimp only; repeat' split
  all_goals simp

@[simp] theorem State.busRead_pending (s : State) (w : Who) (addr : Nat) (size : Size) (bad : List Nat) :
    (s.busRead w addr size bad).pending = s.pending := by
  unfold State.busRead; dsimp only; repeat' split
  all_goals simp

@[simp] theorem State.busWrite_pending (s : State) (w : Who) (addr : Nat) (size : Size) (v : Word) (x : Facts) :
    (s.busWrite w addr size v x).pending = s.pending := by
  unfold State.busWrite; dsimp only; repeat' split
  all_goals simp

@[simp] theorem State.engineOutcome_pending (s : State) (w : Who) (addr pc : Word) : (s.engineOutcome w addr pc).pending = s.pending := by
  unfold State.engineOutcome; dsimp only; repeat' split
  all_goals rfl

@[simp] theorem State.masterWrite_pending (s : State) (w : Who) (addr : Word) (size : Size) (v : Word) (x : Facts) :
    (s.masterWrite w addr size v x).pending = s.pending := by
  unfold State.masterWrite; split
  · rfl
  · simp

@[simp] theorem State.masterRead_pending (s : State) (w : Who) (addr : Word) (size : Size) (pc : Word) (bad : List Nat) :
    (s.masterRead w addr size pc bad).pending = s.pending := by
  unfold State.masterRead; split
  · rfl
  · simp

@[simp] theorem State.demand_pending (s : State) (c : Consumer) (bad : List Nat) : (s.demand c bad).pending = s.pending := by
  cases c with
  | master => exact s.masterRead_pending ..
  | fetch | hardware =>
    unfold State.demand; dsimp only; repeat' split
    all_goals rfl

@[simp] theorem State.dmaWord_pending (s : State) (n : Sq) (c : Fin 4) (src dst : Nat) : (s.dmaWord n c src dst).1.pending = s.pending := by
  unfold State.dmaWord; dsimp only; split
  · split <;> simp
  · simp
  · simp

theorem State.dmaTransfer_pending (s : State) (n : Sq) (c : Fin 4) (m : DmaMove) : (s.dmaTransfer n c m).pending = s.pending := by
  unfold State.dmaTransfer; split
  · rfl
  · exact List.foldlRecOn (motive := fun r : State × Bool => r.1.pending = s.pending) _ _ rfl
      (fun r hr x _ => by split <;> simp [hr])

/-! The management links -/

@[simp] theorem State.frameWrite_pending (s : State) (w : Who) (addr : Word) (ws : List Word) (x : Facts) :
    (s.frameWrite w addr ws x).1.pending = s.pending :=
  List.foldlRecOn (motive := fun t : State × FrameRun => t.1.pending = s.pending) _ _ rfl (fun t ht k _ => by simp [ht])

@[simp] theorem State.frameRead_pending (s : State) (w : Who) (addr : Word) (n : Nat) : (s.frameRead w addr n).1.pending = s.pending :=
  List.foldlRecOn (motive := fun t : State × FrameRun => t.1.pending = s.pending) _ _ rfl (fun t ht k _ => by simp [ht])

theorem State.spiWrite_pending (s : State) (h : SpiHead) (ws : List Word) (cut : Bool) (x : Facts) :
    (s.spiWrite h ws cut x).pending = s.pending := by
  unfold State.spiWrite; dsimp only; repeat' split
  all_goals simp

theorem State.spiRead_pending (s : State) (h : SpiHead) (cut late : Option Nat) : (s.spiRead h cut late).pending = s.pending := by
  unfold State.spiRead; dsimp only; repeat' split
  all_goals simp

@[simp] theorem State.batonServe_pending (s : State) (typ : Nat) (f : BatonFrame) (x : Facts) : (s.batonServe typ f x).pending = s.pending := by
  unfold State.batonServe; dsimp only; repeat' split
  all_goals simp

theorem State.batonRequest_pending (s : State) (typ : Nat) (f : BatonFrame) (x : Facts) : (s.batonRequest typ f x).pending = s.pending := by
  unfold State.batonRequest; repeat' split
  all_goals simp

/-! Every command, and the step -/

theorem actState_pending {s t : State} {f : State → State} (hf : ∀ u, (f u).pending = u.pending) (h : actState s f = .next t) :
    t.pending = s.pending :=
  actState_keeps (P := fun u => u.pending = s.pending) h rfl (hf s) fun _ _ hu => hu

theorem actStateOn_pending {p : Nat} {s t : State} {f : State → State} (hf : ∀ u, (f u).pending = u.pending)
    (h : actStateOn p s f = .next t) : t.pending = s.pending :=
  actState_pending (fun u => by split; exacts [hf u, rfl]) h

theorem execReloadStart_pending {n : Sq} {s t : State} (h : execReloadStart n s = .next t) : t.pending = s.pending := by
  refine actStateOn_pending (fun u => ?_) h
  dsimp only; repeat' split
  all_goals simp

theorem execReloadVerify_pending {n : Sq} {id : Word} {s t : State} (h : execReloadVerify n id s = .next t) : t.pending = s.pending := by
  refine actStateOn_pending (fun u => ?_) h
  repeat' split
  all_goals simp

/-- No command touches the queue. A command that acts on the device alone, or on pins, keeps it by its form; one that acts on the
memories keeps it because its effect does. -/
theorem exec_pending {c : Instr} {s t : State} (h : exec c s = .next t) : t.pending = s.pending := by
  cases c with
  | regWrite => exact actState_pending (fun u => u.masterWrite_pending ..) h
  | shadowWrite | wideWriteLo | wideWriteHi => exact actState_pending (fun u => u.regWrite_pending ..) h
  | dmaTransfer => exact actStateOn_pending (fun u => u.dmaTransfer_pending ..) h
  | reloadStart => exact execReloadStart_pending h
  | reloadVerify => exact execReloadVerify_pending h
  | capDone => exact actStateOn_pending (fun u => u.capDone_pending ..) h
  | anaGo | anaClear => exact actState_pending (fun u => u.anaCtrlWrite_pending ..) h
  | anaEnd => exact actStateOn_pending (fun u => u.anaEnd_pending ..) h
  | calTempCheck => exact actStateOn_pending (fun u => u.calCheck_pending) h
  | calCmdRun | store | restorePrev | reloadStore => exact actState_pending (fun u => u.calCmd_pending ..) h
  | storeDue => exact actStateOn_pending (fun u => u.storeDue_pending) h
  | storeWriteDone => exact actStateOn_pending (fun u => u.storeDone_pending ..) h
  | hostMemoryRead => exact actState_pending (fun u => u.demand_pending ..) h
  | coachMemoryException => exact actState_pending (fun u => u.coachRead_pending ..) h
  | spiWrite => exact actState_pending (fun u => u.spiWrite_pending ..) h
  | spiRead => exact actState_pending (fun u => u.spiRead_pending ..) h
  | batonWrite | batonRead | batonPoll => exact actState_pending (fun u => u.batonRequest_pending ..) h
  | sleepGroupResponse => exact actState_pending (fun u => u.sleepResponse_pending) h
  | wakeRestore => exact actState_pending (fun u => u.wakeRestore_pending) h
  | bootAttempt => exact actState_pending (fun u => u.bootRom_pending ..) h
  | hostLoad => exact actState_pending (fun u => u.hostLoad_pending ..) h
  | bootGood | walkExit => exact actState_pending (fun u => u.bootCtrl_pending ..) h
  | bootWatchdog => exact actState_pending (fun u => u.bootWatchdog_pending ..) h
  | ident | attest => exact actState_pending (fun u => u.serve_pending (by intro v; rfl) ..) h
  | verifySlot => exact actState_pending (fun u => u.serve_pending (fun v => v.verifySlot_pending ..) ..) h
  | activate => exact actState_pending (fun u => u.serve_pending (fun v => v.activate_pending ..) ..) h
  | confirm => exact actState_pending (fun u => u.serve_pending (fun v => v.confirm_pending ..) ..) h
  | nvmOpDone => exact actState_pending (fun u => u.nvmDone_pending ..) h
  | nvmTimeout => exact actState_pending (fun u => u.nvmTimeout_pending ..) h
  | lcReq => exact actState_pending (fun u => u.lcReq_pending ..) h
  | memoryBitFlip => exact actState_pending (fun u => u.flipAt_pending ..) h
  | dacClrNFall | dacClrNRise | alarm | xtalFail | xtalOk | vioLow | vioOk | tapInstruction | tapReset =>
    dsimp only [exec] at h; exact (actPin_keeps h).2
  | vaonPowerUp => cases h; exact s.vaonUp_pending
  | resetAssert power => cases h; exact s.resetAssert_pending power
  | resetRelease sel addr => cases h; exact s.resetRelease_pending sel addr
  | railFault => cases h; exact s.railFault_pending
  | vaonLoss => cases h; exact s.vaonLoss_pending
  | _ => dsimp only [exec] at h; exact (act_keeps h).2

theorem idleTick_pending {s t : State} (h : idleTick s = .next t) : t.pending = s.pending := (actPin_keeps h).2

/-- Settles O4: no meaning touches the queue (`exec_pending`), which `step` has shortened by the command that it runs. -/
theorem stepTakesOneCommand : Obligations.StepTakesOneCommand := by
  intro s t h
  unfold step at h
  unfold State.taken
  split at h
  case h_1 hq => rw [idleTick_pending h, hq]; rfl
  case h_2 c rest hq => rw [exec_pending h, hq]; rfl

/-- Settles O1: `step` takes the front command off, which leaves `s` itself. -/
theorem stepTakesTheFrontCommand : Obligations.StepTakesTheFrontCommand := fun _ _ => rfl

end Sys2Proof.Machine
end

section
/-! The state at reset (O6). -/

open Sys2Proof Sys2Proof.Machine

namespace Sys2Proof.Machine

/-- A register that nothing has written reads its reset value (R7). -/
theorem Dev.rd_unwritten {d : Dev} (h : d.regs = []) {p off : Nat} (ho : off < 4096) : d.rd p off = resetWord p off := by
  have hp : (p * 4096 + off) / 4096 = p := by omega
  have hm : (p * 4096 + off) % 4096 = off := by omega
  rw [Dev.rd, h, tabGet, resetAt, regKey, hp, hm]

theorem resetWord_paceCfg (n : Lane) : resetWord (pPacer n) 0x058 = 7 := by
  revert n; decide +kernel

/-- Settles O6: no word is listed at reset, so each register reads its reset value (`Dev.rd_unwritten`), and the words that the spec's
register tables name are evaluated. -/
theorem resetState : Obligations.ResetState := by
  have hrd : ∀ p off, off < 4096 → State.reset.dev.rd p off = resetWord p off := fun p off ho => Dev.rd_unwritten rfl ho
  refine ⟨rfl, rfl, rfl, rfl, (fun h => nomatch h), rfl, fun p _ off ho => hrd p off ho, ?_, ?_, fun n => ?_, ?_, ?_⟩
  · rw [hrd _ _ (by decide)]; decide +kernel
  · rw [hrd _ _ (by decide)]; decide +kernel
  · rw [hrd _ _ (by decide)]; exact resetWord_paceCfg n
  · rw [hrd _ _ (by decide)]; decide +kernel
  · rw [hrd _ _ (by decide)]; decide +kernel

end Sys2Proof.Machine
end

section
/-! Register writes that store and do nothing else: which registers these are, how the bus reaches them, and what settles after the
command (O7). -/

open Sys2Proof Sys2Proof.Machine

namespace Sys2Proof.Machine

/-! The page index -/

/-- A page of a kind lies in a row of the page index with that kind (R42). -/
theorem kindOf_row {p : Nat} {k : PageKind} (h : kindOf p = some k) :
    ∃ r ∈ kindRows, r.kind = k ∧ r.base ≤ p ∧ p < r.base + r.count := by
  obtain ⟨r, hr, rfl⟩ := Option.map_eq_some_iff.mp h
  have hp := List.find?_some hr
  exact ⟨r, List.mem_of_find?_eq_some hr, rfl, of_decide_eq_true hp⟩

theorem page_lt_of_kind {p : Nat} {k : PageKind} (h : kindOf p = some k) : p < 0x68 := by
  obtain ⟨r, hr, -, -, hp⟩ := kindOf_row h
  have hrows : ∀ r ∈ kindRows, r.base + r.count ≤ 0x68 := by decide
  exact Nat.lt_of_lt_of_le hp (hrows r hr)

theorem pSquad_sqOf {p : Nat} (h : kindOf p = some .squad) : pSquad (sqOf p) = p := by
  obtain ⟨r, hr, hk, hlo, hhi⟩ := kindOf_row h
  have hrows : ∀ r ∈ kindRows, r.kind = .squad → r.base = 0x50 ∧ r.count = 16 := by decide
  obtain ⟨hb, hc⟩ := hrows r hr hk
  simp only [pSquad, sqOf, Fin.ofNat]
  omega

/-! Which block registers have an effect of their own -/

/-- A write to the block register at `off` of a page of kind `k` has an effect of its own; every other block register just stores
(`Dev.regWrite_plain`, `State.regWrite_plain`). -/
def ownEffect (k : PageKind) (off : Nat) : Bool :=
  match k with
  | .device | .intc | .security | .spi | .baton => false
  | .lrx => [0x040, 0x048, 0x060, 0x080].contains off
  | .ltx => [0x040, 0x048, 0x050, 0x058, 0x060, 0x084].contains off
  | .hrx => [0x040, 0x080].contains off
  | .htx => [0x040, 0x048, 0x050, 0x064].contains off
  | .pacer => [0x040, 0x058].contains off
  | .squad => [0x040, 0x054, 0x060, 0x090, 0x0A0].contains off
  | .capture => [0x040, 0x124].contains off
  | .timekeeper => [0x048, 0x04C, 0x058, 0x05C].contains off
  | .thermal => off == 0x05C
  | .madc => [0x040, 0x04C].contains off
  | .hdac => off == 0x040 || decide (0x080 ≤ off ∧ off < 0x180 ∧ (off % 0x20 = 0x04 ∨ off % 0x20 = 0x0C))
  | .split => [0x040, 0x0C0, 0x200, 0x208].contains off || decide (0x600 ≤ off ∧ off < 0x800)
  | .sub => decide (0x100 ≤ off ∧ off < 0x300 ∧ (off % 16 = 0 ∨ off % 16 = 4))
  | .fecLtx => off == 0x0A0
  | .fecLrx => decide (0x080 ≤ off ∧ off < 0x0A0) || off == 0x0C4
  | .fecHrx => off == 0x048
  | .fecHtx => off == 0x064
  | .framer => off == 0x100
  | .clocks => [0x04C, 0x050].contains off
  | .referee => off == 0x060
  | .mbox => decide (0x0C0 ≤ off ∧ off ≤ 0x160)
  | .locks => decide (0x040 ≤ off ∧ off < 0x0C0) || off == 0x0E0
  | .boot => [0x040, 0x050].contains off
  | .nvm => [0x040, 0x050].contains off
  | .cal => off == 0x048
  | .power | .filter | .scrub | .trial | .mode => off == 0x040

theorem Dev.laneWrite_plain {p off : Nat} {k : PageKind} (hk : kindOf p = some k) (he : ownEffect k off = false) (d : Dev) (w : Who)
    (v : Word) : d.laneWrite w p off v = d.plainWrite w p off v := by
  unfold Dev.laneWrite
  rw [hk]
  dsimp only
  split
  case h_19 => rfl
  all_goals rename_i h; cases h; exact absurd he (by decide)

theorem Dev.squadWrite_plain {p off : Nat} (hk : kindOf p = some .squad) (he : ownEffect .squad off = false) (d : Dev) (w : Who)
    (v : Word) : d.squadWrite w (sqOf p) off v = d.plainWrite w p off v := by
  unfold Dev.squadWrite
  split
  case h_6 => rw [pSquad_sqOf hk]
  all_goals exact absurd he (by decide)

theorem Dev.relayWrite_plain {p off : Nat} {k : PageKind} (hk : kindOf p = some k) (hm : k = .mbox ∨ k = .locks)
    (he : ownEffect k off = false) (d : Dev) (w : Who) (v : Word) : d.relayWrite w p off v = d.plainWrite w p off v := by
  obtain ⟨r, hr, hrk, hlo, hhi⟩ := kindOf_row hk
  have hrows : ∀ r ∈ kindRows, (r.kind = .mbox → r.base = 0x0A) ∧ (r.kind = .mbox ∨ r.kind = .locks → r.count = 1) ∧
      (r.kind = .locks → r.base = 0x0B) := by decide
  obtain ⟨hb, hc, hl⟩ := hrows r hr
  unfold Dev.relayWrite pLocks
  rcases hm with rfl | rfl
  · have hne : p ≠ 0x0B := by have := hb hrk; have := hc (.inl hrk); omega
    simp only [ownEffect, decide_eq_false_iff_not] at he
    rw [if_neg hne]
    repeat rw [if_neg (by omega)]
  · have hp : p = 0x0B := by have := hl hrk; have := hc (.inr hrk); omega
    simp only [ownEffect, Bool.or_eq_false_iff, decide_eq_false_iff_not, beq_eq_false_iff_ne] at he
    rw [if_pos hp, if_neg he.1, if_neg he.2]

theorem Dev.houseWrite_plain {p off : Nat} {k : PageKind} (hk : kindOf p = some k) (he : ownEffect k off = false) (d : Dev) (w : Who)
    (v : Word) : d.houseWrite w p off v = d.plainWrite w p off v := by
  unfold Dev.houseWrite
  rw [hk]
  cases k with
  | timekeeper =>
    simp [ownEffect] at he
    simp [Dev.wideWrite, he]
  | thermal => simp [ownEffect] at he; simp [he]
  | madc => simp [ownEffect] at he; simp [he]
  | filter => simp [ownEffect] at he; simp [he]
  | hdac =>
    simp only [ownEffect, Bool.or_eq_false_iff, decide_eq_false_iff_not, beq_eq_false_iff_ne] at he
    dsimp only
    rw [if_neg he.1, if_neg (by omega), if_neg (by omega)]
  | _ => rfl

theorem Dev.countWrite_plain {p off : Nat} {k : PageKind} (hk : kindOf p = some k) (he : ownEffect k off = false) (d : Dev) (w : Who)
    (v : Word) : d.countWrite w p off v = d.plainWrite w p off v := by
  unfold Dev.countWrite
  rw [hk]
  cases k with
  | split =>
    simp [ownEffect] at he
    simp [he]
    omega
  | sub =>
    simp [ownEffect] at he
    dsimp only
    rw [if_neg (by omega), if_neg (by omega)]
  | fecLtx => simp [ownEffect] at he; simp [he]
  | fecLrx =>
    simp only [ownEffect, Bool.or_eq_false_iff, decide_eq_false_iff_not, beq_eq_false_iff_ne] at he
    dsimp only
    rw [if_neg (by omega), if_neg he.2]
  | fecHrx => simp [ownEffect] at he; simp [he]
  | fecHtx => simp [ownEffect] at he; simp [he]
  | framer => simp [ownEffect] at he; simp [he]
  | _ => rfl

theorem Dev.manageWrite_plain {p off : Nat} {k : PageKind} (hk : kindOf p = some k) (he : ownEffect k off = false) (d : Dev) (w : Who)
    (v : Word) : d.manageWrite w p off v = d.plainWrite w p off v := by
  unfold Dev.manageWrite
  rw [hk]
  cases k with
  | clocks => simp [ownEffect] at he; simp [he]
  | power => simp [ownEffect] at he; simp [he]
  | referee => simp [ownEffect] at he; simp [he]
  | nvm => simp [ownEffect] at he; simp [he]
  | mbox => exact d.relayWrite_plain hk (.inl rfl) he w v
  | locks => exact d.relayWrite_plain hk (.inr rfl) he w v
  | scrub => simp [ownEffect] at he; simp [he]
  | trial => simp [ownEffect] at he; simp [he]
  | mode => simp [ownEffect] at he; simp [he]
  | _ => rfl

theorem Dev.regWrite_plain {p off : Nat} {k : PageKind} (hk : kindOf p = some k) (ho : 0x040 ≤ off) (he : ownEffect k off = false)
    (d : Dev) (w : Who) (v : Word) (x : Facts) : d.regWrite w p off v x = d.plainWrite w p off v := by
  have hl := d.laneWrite_plain hk he w v
  have hh := d.houseWrite_plain hk he w v
  have hc := d.countWrite_plain hk he w v
  have hm := d.manageWrite_plain hk he w v
  unfold Dev.regWrite
  rw [if_neg (by omega), hk]
  cases k with
  | squad => exact d.squadWrite_plain hk he w v
  | capture => simp [ownEffect] at he; simp [he]
  | lrx | ltx | hrx | htx | pacer => exact hl
  | timekeeper | thermal | madc | filter | hdac => exact hh
  | split | sub | fecLtx | fecLrx | fecHrx | fecHtx | framer => exact hc
  | _ => exact hm

theorem State.regWrite_plain {p off : Nat} {k : PageKind} (hk : kindOf p = some k) (ho : 0x040 ≤ off) (he : ownEffect k off = false)
    (s : State) (w : Who) (v : Word) (x : Facts) : s.regWrite w p off v x = { s with dev := s.dev.plainWrite w p off v } := by
  have hne : ∀ {q o : Nat} {j : PageKind}, kindOf q = some j → ownEffect j o = true → ¬ (p = q ∧ off = o) := by
    rintro q o j hq ho ⟨rfl, rfl⟩
    rw [Option.some.inj (hk.symm.trans hq), ho] at he
    cases he
  unfold State.regWrite
  rw [if_neg (hne (j := .cal) (by decide) (by decide)), if_neg (hne (j := .capture) (by decide) (by decide)),
    if_neg (hne (j := .boot) (by decide) (by decide)), if_neg (hne (j := .boot) (by decide) (by decide)),
    if_neg (hne (j := .nvm) (by decide) (by decide)), Dev.regWrite_plain hk ho he]

/-- The event severities and the event route of a page just store. -/
theorem State.regWrite_header {p off : Nat} (ho : off ∈ [0x01C, 0x020, 0x024]) (s : State) (w : Who) (v : Word) (x : Facts) :
    s.regWrite w p off v x = { s with dev := s.dev.plainWrite w p off v } := by
  have hlt : off < 0x040 := by
    have : ∀ o ∈ [0x01C, 0x020, 0x024], o < 0x040 := by decide
    exact this off ho
  unfold State.regWrite
  repeat rw [if_neg (by omega)]
  rw [Dev.regWrite, if_pos hlt]
  simp only [List.mem_cons, List.not_mem_nil, or_false] at ho
  rcases ho with rfl | rfl | rfl <;> rfl

/-! Shadow registers -/

theorem RSpec.covers_index {r : RSpec} {off : Nat} (h : r.covers off = true) : ∃ i < r.cnt, off = r.off + r.stride * i := by
  unfold RSpec.covers at h
  simp only [Bool.and_eq_true, decide_eq_true_eq] at h
  obtain ⟨⟨hlo, hmod⟩, hcnt⟩ := h
  refine ⟨_, hcnt, ?_⟩
  rw [Nat.mul_div_cancel' (Nat.dvd_of_mod_eq_zero hmod)]
  omega

theorem headerRegs_shadow (k : PageKind) : ∀ r ∈ headerRegs k, r.shadow = false := by
  cases k <;> decide

/-- A shadow register is one of a shadow row of its page's block registers: the header has none. -/
theorem isShadow_row {p off : Nat} (h : isShadow p off = true) :
    ∃ k, kindOf p = some k ∧ ∃ r ∈ blockRegs k, r.shadow = true ∧ ∃ i < r.cnt, off = r.off + r.stride * i := by
  unfold isShadow regSpec at h
  cases hk : kindOf p with
  | none => rw [hk] at h; cases h
  | some k =>
    rw [hk] at h
    dsimp only at h
    generalize hf : List.find? (·.covers off) (if off < 0x40 then headerRegs k else blockRegs k) = f at h
    cases f with
    | none => split_ifs at h <;> cases h
    | some r =>
      have hsh : r.shadow = true := by split_ifs at h <;> exact h
      have hmem := List.mem_of_find?_eq_some hf
      have hcov := List.find?_some hf
      split at hmem
      · rw [headerRegs_shadow k r hmem] at hsh; cases hsh
      · exact ⟨k, rfl, r, hmem, hsh, RSpec.covers_index hcov⟩

/-- No shadow register of the maps has an effect of its own. -/
theorem shadow_rows_plain (k : PageKind) : ∀ r ∈ blockRegs k, r.shadow = true → ∀ i < r.cnt,
    0x040 ≤ r.off + r.stride * i ∧ r.off + r.stride * i < 4096 ∧ ownEffect k (r.off + r.stride * i) = false := by
  cases k <;> decide +kernel

theorem isShadow_plain {p off : Nat} (h : isShadow p off = true) :
    ∃ k, kindOf p = some k ∧ 0x040 ≤ off ∧ off < 4096 ∧ ownEffect k off = false := by
  obtain ⟨k, hk, r, hr, hsh, i, hi, rfl⟩ := isShadow_row h
  exact ⟨k, hk, shadow_rows_plain k r hr hsh i hi⟩

theorem isShadow_trial (off : Nat) : isShadow pTrial off = false := by
  by_contra h
  obtain ⟨k, hk, r, hr, hsh, -⟩ := isShadow_row (Bool.eq_true_of_not_eq_false h)
  cases hk
  have hrows : ∀ r ∈ blockRegs .trial, r.shadow = false := by decide
  rw [hrows r hr] at hsh
  cases hsh

/-! What settles after a command leaves the rest alone -/

theorem Dev.rd_wr_ne (d : Dev) {p off q o : Nat} (h1 : off < 4096) (h2 : o < 4096) (h : (q, o) ≠ (p, off)) (w : Word) :
    (d.wr p off w).rd q o = d.rd q o :=
  d.rd_wr_other (fun e => h (by obtain ⟨rfl, rfl⟩ := regKey_inj h2 h1 e; rfl)) w

theorem Dev.rd_sb_ne (d : Dev) {p q o : Nat} {f : Fld} (h1 : f.off < 4096) (h2 : o < 4096) (h : (q, o) ≠ (p, f.off)) (v : Bool) :
    (d.sb p f v).rd q o = d.rd q o := d.rd_wr_ne h1 h2 h _

/-- An event of the REFEREE page, which has no block bit, sets its own EVT_STATUS bit at most. -/
theorem Dev.raise_referee_evt (d : Dev) (src q x : Nat) (h : q ≠ 0x03) : (d.raise 0x03 src).evt q x = d.evt q x := by
  have hb : blockBit 0x03 = none := by decide
  unfold Dev.raise
  split
  · simp only [hb, Option.isSome_none, Bool.false_and]
    exact congrArg (·.getLsbD x) (d.rd_wr_page (off := 0x010) (o := 0x010) (by decide) (by decide) h _)
  · rfl

theorem Dev.faultSettle_evt (d : Dev) (q x : Nat) (h : q ≠ 0x03) : d.faultSettle.evt q x = d.evt q x := by
  unfold Dev.faultSettle
  dsimp only
  split
  · rfl
  · exact Dev.raise_referee_evt _ _ q x h

theorem Dev.b_congr {d e : Dev} {p : Nat} {f : Fld} (h : e.rd p f.off = d.rd p f.off) : e.b p f = d.b p f := by
  rw [Dev.b, Dev.b, Dev.g, Dev.g, h]

/-- The form of `Kept.hidden` is transitive. -/
theorem Kept.hidden_trans {a b c : Dev} (h : b = { a with regs := b.regs, ecc := b.ecc, ref := b.ref, faultN := b.faultN })
    (k : c = { b with regs := c.regs, ecc := c.ecc, ref := c.ref, faultN := c.faultN }) :
    c = { a with regs := c.regs, ecc := c.ecc, ref := c.ref, faultN := c.faultN } := by
  rw [h] at k
  exact k

/-- What the effect `e` of a command leaves alone stays after the command too, where no Time trial run is in progress. -/
theorem Kept.of_settle {s : State} {d e : Dev} {ex ev : List (Nat × Nat)}
    (regs : ∀ p off, off < 4096 → off ≠ 0x010 → (p, off) ∉ ex → e.rd p off = s.dev.rd p off)
    (events : ∀ p src, (p, src) ∉ ev → ¬ refereePage p → e.evt p src = s.dev.evt p src)
    (hidden : e = { d with regs := e.regs, ecc := e.ecc, ref := e.ref, faultN := e.faultN })
    (hlife : e.life = .on) (hbusy : e.b pTrial fTrBusy = false) : Kept s { s with dev := e.settle } d ex ev := by
  have hf := settle_frame e hlife hbusy
  refine ⟨fun p off h1 h2 h3 => (hf.rd p off h1 h2).trans (regs p off h1 h2 h3), fun p src h1 h2 => ?_, ?_, rfl, rfl⟩
  · rw [settle_still e hlife hbusy]
    exact (Dev.faultSettle_evt e p src fun h => h2 (.inl h)).trans (events p src h1 h2)
  · refine Kept.hidden_trans hidden ?_
    rw [hf.faultN]
    exact hf.same

/-! The bus reaches a register -/

/-- Without a run in progress an access meets no memory under test (R436). -/
theorem Dev.trialAccess_idle {d : Dev} (h : d.b pTrial fTrBusy = false) (loc : Nat) : d.trialAccess loc = d := by
  unfold Dev.trialAccess Dev.trialHolds
  rw [h]; rfl

theorem slotOf_regAddr {p off : Nat} (hp : p < 0x68) (ho : off < 4096) : slotOf (regAddr p off) = some (p, off) := by
  unfold slotOf regAddr regKey
  rw [if_pos (by omega)]
  congr 2 <;> omega

theorem State.engineOutcome_ok {s : State} (h : s.dev.resp.status = .ok) (w : Who) (addr pc : Word) : s.engineOutcome w addr pc = s := by
  unfold State.engineOutcome
  split
  · rfl
  · rw [h]

/-- An aligned 32-bit write to the address of a register is a write of that register. -/
theorem State.masterWrite_register {p off : Nat} (hp : (kindOf p).isSome = true) (ho : off < 4096) (ha : off % 4 = 0) (s : State)
    (w : Who) (v : Word) (x : Facts) : s.masterWrite w (BitVec.ofNat 32 (regAddr p off)) .word v x =
      (s.regWrite w p off v x).engineOutcome w (BitVec.ofNat 32 (regAddr p off)) x.pc := by
  obtain ⟨k, hk⟩ := Option.isSome_iff_exists.mp hp
  have hlt := page_lt_of_kind hk
  have haddr : regAddr p off < 0x00168000 ∧ regAddr p off % 4 = 0 := by unfold regAddr regKey; omega
  obtain ⟨hsmall, hal⟩ := haddr
  have hnat : (BitVec.ofNat 32 (regAddr p off)).toNat = regAddr p off := Nat.mod_eq_of_lt (by omega)
  have hmis : misaligned w (BitVec.ofNat 32 (regAddr p off)) .word = false := by
    simp [misaligned, sizeBytes, hnat, hal]
  have heng : engineAddr w (regAddr p off) = regAddr p off := if_neg (by omega)
  have hbus : s.busWrite w (regAddr p off) .word v x = s.regWrite w p off v x := by
    simp [State.busWrite, heng, slotOf_regAddr hlt ho, hk, hal]
  rw [State.masterWrite, hmis, hnat, hbus]
  rfl

/-! Plain writes -/

theorem Dev.plainWrite_takes {d : Dev} {w : Who} {p off : Nat} (ht : d.b pTrial fTrBusy = false) (h : d.takes w p off)
    (hs : isShadow p off = false) (v : Word) : d.plainWrite w p off v = { d.store p off v with resp := ⟨.ok, []⟩ } := by
  unfold Dev.plainWrite
  rw [access_takes _ _ _ _ _ h]
  simp [Dev.when, Dev.trialAccess_idle ht, hs]

/-- The registers after a write to a shadow register: the shadow copy is stored, ARM and applied are cleared (R43, R46). -/
def Dev.shadowStored (d : Dev) (p off : Nat) (v : Word) : Dev := ((d.store p off v).sb p fArm false).sb p fApplied false

theorem Dev.shadowStored_rd_ne (d : Dev) {p off q o : Nat} (v : Word) (hlt : off < 4096) (ho : o < 4096)
    (h : (q, o) ∉ [(p, off), (p, 0x028), (p, 0x004)]) : (d.shadowStored p off v).rd q o = d.rd q o := by
  simp only [List.mem_cons, List.not_mem_nil, or_false, not_or] at h
  obtain ⟨h1, h2, h3⟩ := h
  rw [Dev.shadowStored, Dev.rd_sb_ne _ (by decide) ho h3, Dev.rd_sb_ne _ (by decide) ho h2, Dev.store, d.rd_wr_ne hlt ho h1]

theorem Dev.shadowStored_rd_same (d : Dev) {p off : Nat} (v : Word) (hlo : 0x040 ≤ off) (hlt : off < 4096) :
    (d.shadowStored p off v).rd p off = storeWord p off (d.rd p off) v := by
  have hne : ∀ f : Fld, f.off < 0x040 → (p, off) ≠ (p, f.off) := fun f hf h => by
    have := (Prod.mk.inj h).2
    omega
  rw [Dev.shadowStored, Dev.rd_sb_ne _ (by decide) hlt (hne fApplied (by decide)), Dev.rd_sb_ne _ (by decide) hlt (hne fArm (by decide)),
    Dev.store, Dev.rd_wr_same]

theorem Dev.shadowStored_arm (d : Dev) (p off : Nat) (v : Word) : (d.shadowStored p off v).b p fArm = false := by
  rw [Dev.shadowStored, Dev.b_congr (f := fArm) (Dev.rd_sb_ne (f := fApplied) _ (by decide) (by decide) (by simp [fArm, fApplied]) false)]
  exact Dev.b_sb_same _ _ _ _ (by decide) rfl

theorem Dev.shadowStored_applied (d : Dev) (p off : Nat) (v : Word) : (d.shadowStored p off v).b p fApplied = false :=
  Dev.b_sb_same _ _ _ _ (by decide) rfl

/-- A write to a shadow register also notes the page, or the user set of FILTER, as changed. -/
theorem Dev.plainWrite_shadow {d : Dev} {w : Who} {p off : Nat} (ht : d.b pTrial fTrBusy = false) (h : d.takes w p off)
    (hs : isShadow p off = true) (v : Word) : ∃ late dirty, d.plainWrite w p off v =
      { d.shadowStored p off v with late := late, filt := { d.filt with dirty := dirty }, resp := ⟨.ok, []⟩ } := by
  have hst : ∃ late, d.storeShadow p off v = { d.shadowStored p off v with late := late } := by
    unfold Dev.storeShadow Dev.shadowStored
    generalize ((d.store p off v).sb p fArm false).sb p fApplied false = e
    dsimp only
    split
    · split
      · exact ⟨e.late, rfl⟩
      · exact ⟨e.late ++ [p], rfl⟩
    · exact ⟨e.late, rfl⟩
  obtain ⟨late, hst⟩ := hst
  have hfilt : (d.shadowStored p off v).filt = d.filt := rfl
  unfold Dev.plainWrite
  rw [access_takes _ _ _ _ _ h]
  simp only [Dev.when, Dev.trialAccess_idle ht, ite_self, hs, if_true, hst, ← hfilt]
  generalize d.shadowStored p off v = e
  split
  · exact ⟨late, true, rfl⟩
  · exact ⟨late, e.filt.dirty, rfl⟩

/-! The two writes of the statement -/

theorem plainReg_write {p off : Nat} (h : plainReg p off) (s : State) (w : Who) (v : Word) (x : Facts) :
    s.regWrite w p off v x = { s with dev := s.dev.plainWrite w p off v } := by
  obtain ⟨-, -, -, -, hh | ⟨ho, hk⟩ | ⟨rfl, rfl⟩ | ⟨hk, ho⟩⟩ := h
  · exact s.regWrite_header hh w v x
  · simp only [List.mem_cons, List.not_mem_nil, or_false] at hk
    rcases hk with hk | hk | hk | hk | hk <;> exact s.regWrite_plain hk ho rfl w v x
  · exact s.regWrite_plain (k := .referee) (by decide) (by decide) (by decide) w v x
  · simp only [List.mem_cons, List.not_mem_nil, or_false] at ho
    rcases ho with rfl | rfl <;> exact s.regWrite_plain hk (by decide) (by decide) w v x

theorem plainReg_ne {p off : Nat} (h : plainReg p off) : off ≠ 0x010 ∧ (pTrial, 0x048) ≠ (p, off) := by
  obtain ⟨-, -, -, -, hh | ⟨ho, hk⟩ | ⟨rfl, rfl⟩ | ⟨hk, ho⟩⟩ := h
  · simp only [List.mem_cons, List.not_mem_nil, or_false] at hh
    exact ⟨by omega, fun e => by cases e; omega⟩
  · refine ⟨by omega, fun e => ?_⟩
    cases e
    exact absurd hk (by decide)
  · decide
  · simp only [List.mem_cons, List.not_mem_nil, or_false] at ho
    exact ⟨by omega, fun e => by cases e; omega⟩

theorem exec_regWrite (w : Who) (addr : Word) (size : Size) (v : Word) (x : Facts) (s : State) :
    exec (.regWrite w addr size v x) s = actState s (·.masterWrite w addr size v x) := rfl

/-- REG_WRITE of a plain register stores by the access codes, and changes nothing else (R5, R6, R39). -/
theorem regWrite_stores {s : State} {w : Who} {p off : Nat} (v : Word) (x : Facts) (hc : s.calm) (hp : plainReg p off)
    (ht : s.dev.takes w p off) :
    Yields (exec (.regWrite w (BitVec.ofNat 32 (regAddr p off)) .word v x) s) fun t =>
      t.dev.rd p off = storeWord p off (s.dev.rd p off) v ∧ Kept s t s.dev.answered [(p, off)] [] := by
  obtain ⟨hne, htr⟩ := plainReg_ne hp
  have ⟨hal, hlt, hk, hs, _⟩ := hp
  have hw := Dev.plainWrite_takes hc.2 ht hs v
  generalize he : s.dev.plainWrite w p off v = e at hw
  have hstate : s.masterWrite w (BitVec.ofNat 32 (regAddr p off)) .word v x = { s with dev := e } := by
    rw [State.masterWrite_register hk hlt hal, plainReg_write hp, State.engineOutcome_ok (by rw [he, hw]), he]
  have hregs : ∀ q o, e.rd q o = (s.dev.store p off v).rd q o := fun q o => by rw [hw]; rfl
  have hrd : ∀ q o, o < 4096 → (q, o) ≠ (p, off) → e.rd q o = s.dev.rd q o := fun q o ho h =>
    (hregs q o).trans (s.dev.rd_wr_ne hlt ho h _)
  have hlife : e.life = .on := (congrArg Dev.life hw).trans hc.1
  have hbusy : e.b pTrial fTrBusy = false := (Dev.b_congr (hrd _ _ (by decide) htr)).trans hc.2
  refine ⟨{ s with dev := e.settle }, by rw [exec_regWrite, actState_on s _ hc.1, hstate], ?_, ?_⟩
  · rw [(settle_frame e hlife hbusy).rd p off hlt hne]
    exact (hregs p off).trans (s.dev.rd_wr_same p off _)
  · refine Kept.of_settle (fun q o ho _ hmem => hrd q o ho (by simpa using hmem)) (fun q src _ _ => ?_) (by rw [hw]; rfl) hlife hbusy
    exact congrArg (·.getLsbD src) (hrd q 0x010 (by decide) fun h => hne (congrArg Prod.snd h).symm)

/-- SHADOW_WRITE by page and offset: the shadow copy is stored, ARM and applied are cleared, and no applied value changes (R46). -/
theorem shadowWrite_stores {s : State} {w : Who} {p off : Nat} (v : Word) (x : Facts) (hc : s.calm) (hs : isShadow p off = true)
    (ht : s.dev.takes w p off) : Yields (actState s (·.regWrite w p off v x)) fun t =>
      t.dev.rd p off = storeWord p off (s.dev.rd p off) v ∧ t.dev.b p fArm = false ∧ t.dev.b p fApplied = false ∧
      t.dev.live = s.dev.live ∧
      Kept s t { s.dev.answered with late := t.dev.late, filt := { s.dev.filt with dirty := t.dev.filt.dirty } }
        [(p, off), (p, 0x028), (p, 0x004)] [] := by
  obtain ⟨k, hk, hlo, hlt, hplain⟩ := isShadow_plain hs
  obtain ⟨late, dirty, hw⟩ := Dev.plainWrite_shadow hc.2 ht hs v
  have hstate := s.regWrite_plain hk hlo hplain w v x
  generalize s.dev.plainWrite w p off v = e at hw hstate
  have hlife : e.life = .on := (congrArg Dev.life hw).trans hc.1
  have hregs : ∀ q o, e.rd q o = (s.dev.shadowStored p off v).rd q o := fun q o => by rw [hw]; rfl
  have hrd : ∀ q o, o < 4096 → (q, o) ∉ [(p, off), (p, 0x028), (p, 0x004)] → e.rd q o = s.dev.rd q o := fun q o ho h =>
    (hregs q o).trans (s.dev.shadowStored_rd_ne v hlt ho h)
  have hpage : pTrial ≠ p := by
    rintro rfl
    rw [isShadow_trial] at hs
    cases hs
  have hbusy : e.b pTrial fTrBusy = false := (Dev.b_congr (hrd pTrial 0x048 (by decide) (by simp [hpage]))).trans hc.2
  have hf := settle_frame e hlife hbusy
  refine ⟨{ s with dev := e.settle }, by rw [actState_on s _ hc.1, hstate], ?_, ?_, ?_, ?_, ?_⟩
  · rw [hf.rd p off hlt (by omega)]
    exact (hregs p off).trans (s.dev.shadowStored_rd_same v hlo hlt)
  · exact (Dev.b_congr ((hf.rd p 0x028 (by decide) (by decide)).trans (hregs p 0x028))).trans (s.dev.shadowStored_arm p off v)
  · exact (Dev.b_congr ((hf.rd p 0x004 (by decide) (by decide)).trans (hregs p 0x004))).trans (s.dev.shadowStored_applied p off v)
  · rw [hf.live, hw]; rfl
  · rw [hf.late, hf.filt]
    refine Kept.of_settle (fun q o ho _ hmem => hrd q o ho hmem) (fun q src _ _ => ?_) (by rw [hw]; rfl) hlife hbusy
    refine congrArg (·.getLsbD src) (hrd q 0x010 (by decide) ?_)
    simp only [List.mem_cons, Prod.mk.injEq, List.not_mem_nil, or_false]
    omega

/-- Settles O7: both writes reach `Dev.plainWrite` (`State.regWrite_plain`), which stores by the access codes. -/
theorem registerWritesStore : Obligations.RegisterWritesStore :=
  ⟨fun _ _ _ _ v x hc hp ht => regWrite_stores v x hc hp ht, fun _ _ _ _ v hc hs ht => shadowWrite_stores v noFacts hc hs ht⟩

end Sys2Proof.Machine
end

section
/-! The page header (O8). -/

open Sys2Proof Sys2Proof.Machine

namespace Sys2Proof.Machine

/-- A running device with one word listed at 0x041 of INTC, where no register lies. -/
def strayWord : State := { State.reset with dev := { Dev.reset with life := .on, regs := [(regKey 0x04 0x041, 5)] } }

theorem strayWord_calm : strayWord.calm := by decide +kernel

theorem strayWord_rd : strayWord.dev.rd 0x04 0x041 = 5 := by decide +kernel

/-- Refutes O8: the SOFT_RST clause for INTC and SPI says that every byte offset of the page reads its reset value afterwards, and also
that what is no register of the page (an offset that is not a multiple of 4) reads as before. Where the table of the registers lists a
word at such an offset, the two contradict each other; the other clauses play no part. -/
theorem not_pageHeaderControls : ¬ Obligations.PageHeaderControls := by
  rintro ⟨-, hreset, -⟩
  have htakes : strayWord.dev.takes ⟨0, 0, false⟩ 0x04 0x008 := by decide +kernel
  obtain ⟨t, -, hcleared, hkept⟩ := hreset strayWord ⟨0, 0, false⟩ 0x04 0 strayWord_calm (by decide) htakes
  have hzero : t.dev.rd 0x04 0x041 = 0 := hcleared 0x041 (by decide) (by decide)
  have hsame : t.dev.rd 0x04 0x041 = 5 := (hkept.regs 0x04 0x041 (by decide) (by decide) (by decide +kernel)).trans strayWord_rd
  exact absurd (hzero.symm.trans hsame) (by decide)

end Sys2Proof.Machine
end

section
/-! What the way from one device to another leaves alone, in the form of `Kept`, and how the named operations keep to it. -/

open Sys2Proof Sys2Proof.Machine

namespace Sys2Proof.Machine

/-! Fields -/

theorem Dev.g_congr {d e : Dev} {p : Nat} {f : Fld} (h : e.rd p f.off = d.rd p f.off) : e.g p f = d.g p f := by
  rw [Dev.g, Dev.g, h]

/-- Field `f` shares no bit with field `g`, on whatever pages they lie: another register, or other bits of the same one. -/
abbrev Fld.apart (f g : Fld) : Prop :=
  f.off < 4096 ∧ g.off < 4096 ∧ g.lo + g.w ≤ 32 ∧ (f.off = g.off → f.lo + f.w ≤ g.lo ∨ g.lo + g.w ≤ f.lo)

theorem Dev.g_s_apart {f g : Fld} (h : f.apart g) (d : Dev) (p q v : Nat) : (d.s p g v).g q f = d.g q f := by
  obtain ⟨hf, hg, hw, hd⟩ := h
  by_cases he : q = p ∧ f.off = g.off
  · obtain ⟨rfl, ho⟩ := he
    exact d.g_s_field q g f v ho hw (hd ho)
  · exact Dev.g_congr (d.rd_wr_ne hg hf (fun e => he ⟨congrArg Prod.fst e, congrArg Prod.snd e⟩) _)

theorem Dev.b_s_apart {f g : Fld} (h : f.apart g) (d : Dev) (p q v : Nat) : (d.s p g v).b q f = d.b q f := by
  rw [Dev.b, Dev.b, Dev.g_s_apart h]

theorem getBits_one (x : Word) (lo : Nat) : (getBits x lo 1 == 1) = x.getLsbD lo := by
  rw [getBits, BitVec.getLsbD, Nat.testBit_eq_decide_div_mod_eq, Nat.pow_one]
  rfl

/-! Events: which EVT_STATUS bits an event may set -/

/-- The subsystem page of a page is one of the six (R14). -/
theorem subsystemOf_page {p sp : Nat} (h : subsystemOf p = some sp) : 0x18 ≤ sp ∧ sp ≤ 0x1D := by
  unfold subsystemOf at h
  split at h <;> cases h <;> decide

theorem Dev.setEvt_evt_same (d : Dev) (p : Nat) {x : Nat} (h : x < 32) : (d.setEvt p x).evt p x = true := by
  rw [Dev.evt, Dev.setEvt, Dev.rd_wr_same, BitVec.getLsbD_or, BitVec.getLsbD_twoPow]
  simp [h]

theorem Dev.setEvt_evt_other (d : Dev) {p src q x : Nat} (h : (q, x) ≠ (p, src)) : (d.setEvt p src).evt q x = d.evt q x := by
  rw [Dev.evt, Dev.setEvt]
  by_cases hq : q = p
  · subst hq
    have hx : ¬ src = x := fun e => h (by rw [e])
    rw [Dev.rd_wr_same, BitVec.getLsbD_or, BitVec.getLsbD_twoPow]
    simp [Dev.evt, hx]
  · rw [Dev.rd_wr_page d (by decide) (by decide) hq]; rfl

/-- What `f` leaves alone stays whether `f` applies or not. -/
theorem Dev.when_keeps {α : Type} (π : Dev → α) {f : Dev → Dev} {d : Dev} (h : π (f d) = π d) (c : Bool) :
    π (d.when c f) = π d := by
  unfold Dev.when; split
  · exact h
  · rfl

theorem Dev.firstAdd_evt (d : Dev) (a b c : Nat) (m f : Bool) (q x : Nat) : (d.firstAdd a b c m f).evt q x = d.evt q x := by
  unfold Dev.firstAdd; split <;> rfl

theorem Dev.watchCount_evt (d : Dev) {sp q : Nat} (h : q ≠ sp) (p src w x : Nat) : (d.watchCount sp p src w).evt q x = d.evt q x := by
  unfold Dev.watchCount
  split
  · dsimp only; split
    · exact (Dev.firstAdd_evt _ _ _ _ _ _ _ _).trans (d.setEvt_evt_other fun e => h (congrArg Prod.fst e))
    · rfl
  · rfl

theorem Dev.foldl_evt {α : Type} {f : Dev → α → Dev} {q x : Nat} (hf : ∀ d a, (f d a).evt q x = d.evt q x) (l : List α) (d : Dev) :
    (l.foldl f d).evt q x = d.evt q x := by
  induction l generalizing d with
  | nil => rfl
  | cons a t ih => exact (ih (f d a)).trans (hf d a)

/-- What the Referee makes of an event shows on the subsystem pages only. -/
theorem Dev.referee_evt (d : Dev) (p src : Nat) (forced : Bool) {q : Nat} (h : ¬ refereePage q) (x : Nat) :
    (d.referee p src forced).evt q x = d.evt q x := by
  unfold Dev.referee
  dsimp only
  generalize hnoted : Dev.when _ _ _ = e
  have he : e.evt q x = d.evt q x := by
    rw [← hnoted]
    refine (Dev.when_keeps (·.evt q x) ?call _).trans ((Dev.when_keeps (·.evt q x) ?first _).trans (Dev.when_keeps (·.evt q x) ?log _))
    case call => rfl
    case first => exact Dev.firstAdd_evt ..
    case log => rfl
  split
  case h_1 => exact he
  case h_2 sp hs =>
    have hq : q ≠ sp := fun c => h (.inr (c ▸ subsystemOf_page hs))
    exact (Dev.foldl_evt (fun d w => d.watchCount_evt hq p src w x) _ e).trans he

theorem Dev.raise_evt_other (d : Dev) {p src q x : Nat} (forced : Bool) (h : (q, x) ≠ (p, src)) (hq : ¬ refereePage q) :
    (d.raise p src forced).evt q x = d.evt q x := by
  unfold Dev.raise
  split
  · dsimp only; split
    · exact (Dev.referee_evt _ p src forced hq x).trans (d.setEvt_evt_other h)
    · exact d.setEvt_evt_other h
  · rfl

theorem Dev.rd_raise (d : Dev) (p src q o : Nat) (ho : o < 4096 := by decide) (hne : o ≠ 0x010 := by decide) :
    (d.raise p src).rd q o = d.rd q o := (EvtFrame.raise d p src false).rd q o ho hne

theorem Dev.g_raise (d : Dev) (p src q : Nat) (f : Fld) (ho : f.off < 4096 := by decide) (hne : f.off ≠ 0x010 := by decide) :
    (d.raise p src).g q f = d.g q f := Dev.g_congr (d.rd_raise p src q f.off ho hne)

theorem Dev.b_raise (d : Dev) (p src q : Nat) (f : Fld) (ho : f.off < 4096 := by decide) (hne : f.off ≠ 0x010 := by decide) :
    (d.raise p src).b q f = d.b q f := Dev.b_congr (d.rd_raise p src q f.off ho hne)

theorem sourcesOf_pacer (n : Lane) : sourcesOf (pPacer n) = 9 := by revert n; decide

theorem blockBit_pacer (n : Lane) : blockBit (pPacer n) = none := by revert n; decide

/-- An event of a Pacer, whose page has no block bit, just sets its EVT_STATUS bit (R42). -/
theorem Dev.raise_pacer {d : Dev} {n : Lane} (hp : d.powered (pPacer n) = true) {src : Nat} (h : src < 9) :
    d.raise (pPacer n) src = d.setEvt (pPacer n) src := by
  unfold Dev.raise
  simp [sourcesOf_pacer, blockBit_pacer, h, hp]

theorem Dev.raise_pacer_evt {d : Dev} {n : Lane} (hp : d.powered (pPacer n) = true) {src : Nat} (h : src < 9) :
    (d.raise (pPacer n) src).evt (pPacer n) src = true := by
  rw [Dev.raise_pacer hp h]
  exact d.setEvt_evt_same _ (by omega)

theorem Dev.takes.powered {d : Dev} {w : Who} {p off : Nat} (h : d.takes w p off) : d.powered p = true := by
  by_contra hp
  rw [Bool.not_eq_true] at hp
  unfold Dev.takes Dev.writeStatus at h
  simp only [hp, Bool.not_false, Bool.true_or, if_true] at h
  split_ifs at h

theorem Dev.runs.powered {d : Dev} {p : Nat} (h : d.runs p) : d.powered p = true := by
  simp only [Dev.runs, Dev.running, Bool.and_eq_true] at h
  exact h.1.1.1

/-! The form of `Kept` between devices -/

/-- From `d` to `e` every register but those of `ex` and EVT_STATUS stays, and every EVT_STATUS bit but those of `ev` and the Referee's
own; the state of `e` beside the registers is that of `h`, but for what `Kept` leaves open. -/
structure DevKept (ex ev : List (Nat × Nat)) (d h e : Dev) : Prop where
  regs : ∀ p off, off < 4096 → off ≠ 0x010 → (p, off) ∉ ex → e.rd p off = d.rd p off
  events : ∀ p src, (p, src) ∉ ev → ¬ refereePage p → e.evt p src = d.evt p src
  hidden : e = { h with regs := e.regs, ecc := e.ecc, ref := e.ref, faultN := e.faultN }

namespace DevKept

variable {ex ev : List (Nat × Nat)} {d h e : Dev}

theorem refl (d : Dev) : DevKept ex ev d d d := ⟨fun _ _ _ _ _ => rfl, fun _ _ _ _ => rfl, rfl⟩

theorem lrx (k : DevKept ex ev d h e) : e.lrx = h.lrx := (congrArg Dev.lrx k.hidden :)

theorem pacer (k : DevKept ex ev d h e) : e.pacer = h.pacer := (congrArg Dev.pacer k.hidden :)

theorem lx (k : DevKept ex ev d h e) (n : Lane) : e.lx n = h.lx n := congrArg (·.get n) k.lrx

theorem pc (k : DevKept ex ev d h e) (n : Lane) : e.pc n = h.pc n := congrArg (·.get n) k.pacer

theorem wr (k : DevKept ex ev d h e) {p off : Nat} (w : Word) (hx : (p, off) ∈ ex) (hlt : off < 4096 := by decide)
    (hne : off ≠ 0x010 := by decide) : DevKept ex ev d h (e.wr p off w) where
  regs q o ho h1 h2 := (e.rd_wr_ne hlt ho (fun c => h2 (c ▸ hx)) w).trans (k.regs q o ho h1 h2)
  events q x h1 h2 := (congrArg (·.getLsbD x) (e.rd_wr_off hlt (by decide) hne.symm w)).trans (k.events q x h1 h2)
  hidden := Kept.hidden_trans k.hidden rfl

theorem s (k : DevKept ex ev d h e) {p : Nat} {f : Fld} (v : Nat) (hx : (p, f.off) ∈ ex) (hlt : f.off < 4096 := by decide)
    (hne : f.off ≠ 0x010 := by decide) : DevKept ex ev d h (e.s p f v) := k.wr _ hx hlt hne

theorem sb (k : DevKept ex ev d h e) {p : Nat} {f : Fld} (v : Bool) (hx : (p, f.off) ∈ ex) (hlt : f.off < 4096 := by decide)
    (hne : f.off ≠ 0x010 := by decide) : DevKept ex ev d h (e.sb p f v) := k.wr _ hx hlt hne

theorem when (k : DevKept ex ev d h e) {f : Dev → Dev} (kf : DevKept ex ev d h (f e)) (c : Bool) : DevKept ex ev d h (e.when c f) := by
  unfold Dev.when; split
  · exact kf
  · exact k

theorem raise (k : DevKept ex ev d h e) {p src : Nat} (hs : (p, src) ∈ ev) : DevKept ex ev d h (e.raise p src) := by
  have hf := EvtFrame.raise e p src false
  refine ⟨fun q o h1 h2 h3 => (hf.rd q o h1 h2).trans (k.regs q o h1 h2 h3), fun q x h1 h2 => ?_, ?_⟩
  · have hne : (q, x) ≠ (p, src) := fun c => h1 (by rw [c]; exact hs)
    exact (e.raise_evt_other false hne h2).trans (k.events q x h1 h2)
  · refine Kept.hidden_trans k.hidden ?_
    rw [hf.faultN]
    exact hf.same

theorem updPacer (k : DevKept ex ev d h e) (n : Lane) (f : PacerH → PacerH) : DevKept ex ev d (h.updPacer n f) (e.updPacer n f) where
  regs := k.regs
  events := k.events
  hidden := by
    unfold Dev.updPacer Dev.pc
    rw [k.pacer]
    exact congrArg (fun x : Dev => { x with pacer := h.pacer.set n.val (f (h.pacer.get n)) }) k.hidden

theorem updLrx (k : DevKept ex ev d h e) (n : Lane) (f : LrxH → LrxH) : DevKept ex ev d (h.updLrx n f) (e.updLrx n f) where
  regs := k.regs
  events := k.events
  hidden := by
    unfold Dev.updLrx Dev.lx
    rw [k.lrx]
    exact congrArg (fun x : Dev => { x with lrx := h.lrx.set n.val (f (h.lrx.get n)) }) k.hidden

theorem answered (k : DevKept ex ev d h e) : DevKept ex ev d h.answered e.answered :=
  ⟨k.regs, k.events, congrArg (fun x : Dev => x.answered) k.hidden⟩

end DevKept

/-! What settles after a command -/

/-- What stays while the levels settle after a command that leaves the device at `e`: registers, events of every page but REFEREE, and
the hidden parts of the lanes. -/
structure Settled (e t : Dev) : Prop where
  rd : ∀ p off, off < 4096 → off ≠ 0x010 → t.rd p off = e.rd p off
  evt : ∀ p x, p ≠ 0x03 → t.evt p x = e.evt p x
  lrx : t.lrx = e.lrx
  pacer : t.pacer = e.pacer

namespace Settled

variable {e t : Dev}

theorem g (h : Settled e t) (p : Nat) (f : Fld) (hlt : f.off < 4096 := by decide) (hne : f.off ≠ 0x010 := by decide) :
    t.g p f = e.g p f :=
  Dev.g_congr (h.rd p f.off hlt hne)

theorem b (h : Settled e t) (p : Nat) (f : Fld) (hlt : f.off < 4096 := by decide) (hne : f.off ≠ 0x010 := by decide) :
    t.b p f = e.b p f :=
  Dev.b_congr (h.rd p f.off hlt hne)

theorem pc (h : Settled e t) (n : Lane) : t.pc n = e.pc n := congrArg (·.get n) h.pacer

theorem lx (h : Settled e t) (n : Lane) : t.lx n = e.lx n := congrArg (·.get n) h.lrx

theorem laneState (h : Settled e t) (n : Lane) : t.laneState n = e.laneState n := h.g _ fLrxState

end Settled

theorem settled_settle {e : Dev} (hlife : e.life = .on) (hbusy : e.b pTrial fTrBusy = false) : Settled e e.settle := by
  have hf := settle_frame e hlife hbusy
  refine ⟨hf.rd, fun p x hp => ?_, hf.lrx, hf.pacer⟩
  rw [settle_still e hlife hbusy, Dev.faultSettle_evt e p x hp]

/-- A command on a device that runs, with no Time trial run before or after its effect. -/
theorem act_settles {s : State} {f : Dev → Dev} {e : Dev} {P : State → Prop} (hc : s.calm) (he : f s.dev = e) (hlife : e.life = .on)
    (hbusy : e.b pTrial fTrBusy = false) (hP : Settled e e.settle → P { s with dev := e.settle }) : Yields (act s f) P :=
  ⟨_, (act_on s f hc.1).trans (by rw [he]), hP (settled_settle hlife hbusy)⟩

/-- A command whose effect leaves alone what `DevKept` says leaves it alone altogether. -/
theorem DevKept.yields {s : State} {f : Dev → Dev} {h e : Dev} {ex ev : List (Nat × Nat)} {P : State → Prop}
    (k : DevKept ex ev s.dev h e) (hc : s.calm) (he : f s.dev = e) (hlife : h.life = s.dev.life) (hx : (pTrial, 0x048) ∉ ex)
    (hP : ∀ t : State, Settled e t.dev → Kept s t h ex ev → P t) : Yields (act s f) P := by
  have hon : e.life = .on := ((congrArg Dev.life k.hidden).trans hlife).trans hc.1
  have hbusy : e.b pTrial fTrBusy = false := (Dev.b_congr (k.regs pTrial 0x048 (by decide) (by decide) hx)).trans hc.2
  exact act_settles hc he hon hbusy fun hs => hP _ hs (Kept.of_settle k.regs k.events k.hidden hon hbusy)

theorem when_runs {d : Dev} {p : Nat} (h : d.runs p) (f : Dev → Dev) : d.when (d.running p) f = f d := if_pos h

end Sys2Proof.Machine
end

section
/-! The operations of a Pacer that its CTRL and PACE_CFG registers and its pace changes reach: what each does and what it leaves alone
(R91, R92, R102, R104, R106 to R110). -/

open Sys2Proof Sys2Proof.Machine

namespace Sys2Proof.Machine

/-! Pages -/

theorem pacer_ne_lrx (n m : Lane) : pPacer n ≠ pLrx m := by unfold pPacer pLrx; omega

theorem trial_le_pacer (n : Lane) : pTrial ≤ pPacer n := by unfold pTrial pPacer; omega

theorem pacer_ne_referee (n : Lane) : pPacer n ≠ 0x03 := by unfold pPacer; omega

/-- A field of a Pacer page says nothing of the state of a lane. -/
theorem Dev.s_pacer_laneState (d : Dev) (n m : Lane) (f : Fld) (v : Nat) (h : f.off < 4096 := by decide) :
    (d.s (pPacer n) f v).laneState m = d.laneState m :=
  Dev.g_congr (d.rd_s_page f v h (by decide) (pacer_ne_lrx n m).symm)

/-! The hidden part of a lane -/

theorem Dev.updPacer_congr {d : Dev} {n : Lane} {f g : PacerH → PacerH} (h : f (d.pc n) = g (d.pc n)) :
    d.updPacer n f = d.updPacer n g := by
  rw [Dev.updPacer, Dev.updPacer, h]

/-- What `Kept` says of the hidden state depends on what an update makes of the lane it meets, and on nothing else. -/
theorem Kept.updPacer_congr {s t : State} {d : Dev} {n : Lane} {ex ev : List (Nat × Nat)} {f g : PacerH → PacerH}
    (h : f (d.pc n) = g (d.pc n)) (k : Kept s t (d.updPacer n f) ex ev) : Kept s t (d.updPacer n g) ex ev := by
  rwa [← Dev.updPacer_congr h]

theorem Dev.updPacer_self {d : Dev} {n : Lane} {f : PacerH → PacerH} (h : f (d.pc n) = d.pc n) : d.updPacer n f = d := by
  have hset : d.pacer.set n.val (d.pc n) = d.pacer := Vector.set_getElem_self n.isLt
  rw [Dev.updPacer, h, hset]

theorem Dev.updLrx_self {d : Dev} {n : Lane} {f : LrxH → LrxH} (h : f (d.lx n) = d.lx n) : d.updLrx n f = d := by
  have hset : d.lrx.set n.val (d.lx n) = d.lrx := Vector.set_getElem_self n.isLt
  rw [Dev.updLrx, h, hset]

theorem Dev.g_updPacer (d : Dev) (n : Lane) (f : PacerH → PacerH) (q : Nat) (g : Fld) : (d.updPacer n f).g q g = d.g q g := rfl

theorem Dev.pc_sb (d : Dev) (p : Nat) (f : Fld) (b : Bool) (n : Lane) : (d.sb p f b).pc n = d.pc n := rfl

theorem Dev.updPacer_updPacer (d : Dev) (n : Lane) (f g : PacerH → PacerH) :
    (d.updPacer n f).updPacer n g = d.updPacer n fun h => g (f h) := by
  rw [Dev.updPacer, Dev.pc_updPacer_same]
  simp [Dev.updPacer]

/-! A candidate goes, and a deferred candidate with it -/

/-- The Pacer's hidden part without a candidate: a host swap stays deferred (R110). -/
def PacerH.noCandidate (h : PacerH) : PacerH := { h with cand := none, pend := if h.pend = some .manual then some .manual else none }

theorem Dev.dropCandidate_cases (d : Dev) (n : Lane) : d.dropCandidate n = d.updPacer n PacerH.noCandidate ∨
    d.dropCandidate n = (d.updPacer n PacerH.noCandidate).sb (pPacer n) fPcSwapPending false := by
  unfold Dev.dropCandidate
  split
  case h_1 e hp =>
    right
    rw [Dev.updPacer_congr (g := PacerH.noCandidate) (by simp [PacerH.noCandidate, hp])]
  case h_2 hp =>
    left
    refine Dev.updPacer_congr ?_
    cases hq : (d.pc n).pend with
    | none => simp [PacerH.noCandidate, hq]
    | some w =>
      cases w with
      | candidate e => exact absurd hq (hp e)
      | manual => simp [PacerH.noCandidate, hq]

theorem Dev.dropCandidate_pc (d : Dev) (n : Lane) : (d.dropCandidate n).pc n = (d.pc n).noCandidate := by
  rcases d.dropCandidate_cases n with h | h <;> rw [h]
  · exact d.pc_updPacer_same n _
  · exact d.pc_updPacer_same n _

theorem Dev.dropCandidate_g {f : Fld} (hf : f.apart fPcSwapPending) (d : Dev) (n : Lane) (q : Nat) :
    (d.dropCandidate n).g q f = d.g q f := by
  rcases d.dropCandidate_cases n with h | h <;> rw [h]
  · rfl
  · exact Dev.g_s_apart hf _ _ _ _

theorem Dev.dropCandidate_b {f : Fld} (hf : f.apart fPcSwapPending) (d : Dev) (n : Lane) (q : Nat) :
    (d.dropCandidate n).b q f = d.b q f := by
  rw [Dev.b, Dev.b, Dev.dropCandidate_g hf]

theorem Dev.dropCandidate_laneState (d : Dev) (n m : Lane) : (d.dropCandidate n).laneState m = d.laneState m := by
  rcases d.dropCandidate_cases n with h | h <;> rw [h]
  · rfl
  · exact Dev.s_pacer_laneState _ _ _ fPcSwapPending _

theorem DevKept.dropCandidate {ex ev : List (Nat × Nat)} {d h e : Dev} (k : DevKept ex ev d h e) {n : Lane}
    (hx : (pPacer n, 0x044) ∈ ex) : DevKept ex ev d (h.updPacer n PacerH.noCandidate) (e.dropCandidate n) := by
  have ku := k.updPacer n PacerH.noCandidate
  rcases e.dropCandidate_cases n with he | he <;> rw [he]
  · exact ku
  · exact ku.sb false hx

/-! Swap requests of the host -/

/-- A Handoff or a pace change is in the way of a swap. -/
def PacerH.busy (h : PacerH) : Bool := h.req || h.fade.isSome || h.pace.isSome

/-- The Pacer's hidden part after a swap request of the host: a Handoff is requested, or the swap is deferred (R104, R110). -/
def PacerH.swapRequested (h : PacerH) : PacerH := if h.busy then { h with pend := some .manual } else { h with req := true }

theorem PacerH.swapRequested_eq (h : PacerH) : h.swapRequested = { h with req := h.swapRequested.req, pend := h.swapRequested.pend } := by
  unfold PacerH.swapRequested
  split <;> rfl

/-- The device with a host swap deferred. -/
def Dev.swapDeferred (d : Dev) (n : Lane) : Dev := (d.updPacer n PacerH.swapRequested).sb (pPacer n) fPcSwapPending true

theorem Dev.requestSwap_starts {d : Dev} {n : Lane} (h : (d.pc n).busy = false) :
    d.requestSwap n .manual = d.updPacer n PacerH.swapRequested := by
  have hupd : d.updPacer n PacerH.swapRequested = d.updPacer n fun h => { h with req := true } :=
    Dev.updPacer_congr (by simp [PacerH.swapRequested, h])
  unfold PacerH.busy at h
  rw [Dev.requestSwap, Dev.swapBusy, h, hupd]
  rfl

theorem Dev.requestSwap_defers {d : Dev} {n : Lane} (h : (d.pc n).busy = true) : d.requestSwap n .manual =
    if (d.pc n).pend.isSome then ((d.swapDeferred n).inc (pPacer n) 0x080).raise (pPacer n) 3 else d.swapDeferred n := by
  have hupd : d.updPacer n PacerH.swapRequested = d.updPacer n fun h => { h with pend := some .manual } :=
    Dev.updPacer_congr (by simp [PacerH.swapRequested, h])
  unfold PacerH.busy at h
  rw [Dev.requestSwap, Dev.swapBusy, h, Dev.swapDeferred, hupd]
  rfl

theorem DevKept.requestSwap {ex ev : List (Nat × Nat)} {d h e : Dev} (k : DevKept ex ev d h e) {n : Lane} (h44 : (pPacer n, 0x044) ∈ ex)
    (h80 : (pPacer n, 0x080) ∈ ex) (h3 : (pPacer n, 3) ∈ ev) :
    DevKept ex ev d (h.updPacer n PacerH.swapRequested) (e.requestSwap n .manual) := by
  have ku := k.updPacer n PacerH.swapRequested
  have kd : DevKept ex ev d _ (e.swapDeferred n) := ku.sb true h44
  cases hb : (e.pc n).busy with
  | false => rwa [Dev.requestSwap_starts hb]
  | true =>
    rw [Dev.requestSwap_defers hb]
    split
    · exact (kd.wr _ h80).raise h3
    · exact kd

theorem Dev.requestSwap_pending {d : Dev} {n : Lane} (h : (d.pc n).busy = true) :
    (d.requestSwap n .manual).b (pPacer n) fPcSwapPending = true := by
  have hd : (d.swapDeferred n).b (pPacer n) fPcSwapPending = true := Dev.b_sb_same _ _ _ _ (by decide) rfl
  rw [Dev.requestSwap_defers h]
  split
  · exact (Dev.b_raise _ _ _ _ fPcSwapPending).trans ((Dev.b_congr (Dev.rd_wr_off _ (by decide) (by decide) (by decide) _)).trans hd)
  · exact hd

/-- A host swap that replaces a deferred one counts in REPLACE_CNT and raises swap_replaced (R104). -/
theorem Dev.requestSwap_replaces {d : Dev} {n : Lane} (h : (d.pc n).busy = true) (hp : (d.pc n).pend.isSome = true)
    (hpow : d.powered (pPacer n) = true) : (d.requestSwap n .manual).rd (pPacer n) 0x080 = d.rd (pPacer n) 0x080 + 1 ∧
      (d.requestSwap n .manual).evt (pPacer n) 3 = true := by
  have hcounted : ((d.swapDeferred n).inc (pPacer n) 0x080).powered (pPacer n) = true := hpow
  rw [Dev.requestSwap_defers h, if_pos hp]
  refine ⟨?_, Dev.raise_pacer_evt hcounted (by decide)⟩
  refine (Dev.rd_raise _ _ _ _ 0x080).trans ((Dev.rd_wr_same _ _ _ _).trans ?_)
  exact congrArg (· + 1) (Dev.rd_s_off _ fPcSwapPending _ (by decide) (by decide) (by decide))

/-! Hold reasons -/

theorem Dev.laneState_laneTo (d : Dev) (n : Lane) {st : Nat} (h : st < 8) : (d.laneTo n st).laneState n = st :=
  (d.g_s_same _ fLrxState st (by decide)).trans (Nat.mod_eq_of_lt h)

section
variable {ex ev : List (Nat × Nat)} {d h e : Dev} {n : Lane}

theorem DevKept.lrxCalAbandon (k : DevKept ex ev d h e) (h44 : (pLrx n, 0x044) ∈ ex) (h78 : (pLrx n, 0x078) ∈ ex)
    (h6 : (pLrx n, 6) ∈ ev) (reason : Nat) (keep : Bool) :
    DevKept ex ev d (h.updLrx n fun x => { x with run := none }) (e.lrxCalAbandon n reason keep) := by
  have ku := k.updLrx n fun x => { x with run := none }
  unfold Dev.lrxCalAbandon
  split
  case h_1 hr => rwa [Dev.updLrx_self (d := e) (by rw [← hr])] at ku
  case h_2 r hr =>
    have kb := (((ku.sb (f := fLrxCalBusy) false h44).sb (f := fCalAbandoned) true h78).sb (f := fCalApplied) false h78).s
      (f := fCalReason) reason h78
    exact (kb.when (kb.sb (f := fLrxCalPending) true h44) _).raise h6

theorem DevKept.dropPending (k : DevKept ex ev d h e) (h44 : (pPacer n, 0x044) ∈ ex) :
    DevKept ex ev d (h.updPacer n fun x => { x with pend := none }) (e.dropPending n) :=
  (k.updPacer n _).sb false h44

/-- RUN and HOLD follow the hold reasons: of the hidden state only that of the lane moves. -/
theorem DevKept.holdUpdate (k : DevKept ex ev d h e) (p44 : (pPacer n, 0x044) ∈ ex) (h44 : (pLrx n, 0x044) ∈ ex)
    (h78 : (pLrx n, 0x078) ∈ ex) (h6 : (pLrx n, 6) ∈ ev) :
    ∃ f g, DevKept ex ev d ((h.updLrx n f).updPacer n g) (e.holdUpdate n) := by
  unfold Dev.holdUpdate
  dsimp only
  split_ifs
  · exact ⟨_, _, ((k.lrxCalAbandon h44 h78 h6 1 true).dropPending p44).s stHold h44⟩
  · have hl : h.updLrx n id = h := Dev.updLrx_self rfl
    exact ⟨id, _, (hl.symm ▸ k.updPacer n _).s stRun h44⟩
  · have hl : h.updLrx n id = h := Dev.updLrx_self rfl
    have hp : h.updPacer n id = h := Dev.updPacer_self rfl
    exact ⟨id, id, by rwa [hl, hp]⟩

end

/-- No hold reason changes while RUN and HOLD follow them. -/
theorem Dev.holdUpdate_g {f : Fld} (hf : f.apart fPcSwapPending) (h10 : f.off ≠ 0x010) (d : Dev) (n : Lane) :
    (d.holdUpdate n).g (pPacer n) f = d.g (pPacer n) f := by
  have hpage := pacer_ne_lrx n n
  have hto : ∀ (e : Dev) st, (e.laneTo n st).g (pPacer n) f = e.g (pPacer n) f := fun e st =>
    Dev.g_congr (e.rd_s_page _ _ (by decide) hf.1 hpage)
  unfold Dev.holdUpdate
  dsimp only
  split_ifs
  · have k := (DevKept.refl (ex := [(pLrx n, 0x044), (pLrx n, 0x078)]) (ev := [(pLrx n, 6)]) d).lrxCalAbandon (n := n) (by simp) (by simp)
      (by simp) 1 true
    calc _ = ((d.lrxCalAbandon n 1 true).dropPending n).g (pPacer n) f := hto _ _
      _ = (d.lrxCalAbandon n 1 true).g (pPacer n) f := Dev.g_s_apart hf _ _ _ _
      _ = d.g (pPacer n) f := Dev.g_congr (k.regs _ _ hf.1 h10 (by simp [hpage]))
  · exact hto _ _
  · rfl

theorem Dev.holdUpdate_laneState (d : Dev) (n : Lane) : (d.holdUpdate n).laneState n =
    if d.laneState n = stRun ∧ d.g (pPacer n) fHoldSrc ≠ 0 then stHold
    else if d.laneState n = stHold ∧ d.g (pPacer n) fHoldSrc = 0 then stRun else d.laneState n := by
  unfold Dev.holdUpdate
  simp only [bne_iff_ne, ne_eq, Bool.not_eq_true', bne_eq_false_iff_eq]
  split_ifs
  · exact Dev.laneState_laneTo _ _ (by decide)
  · exact Dev.laneState_laneTo _ _ (by decide)
  · rfl

theorem Dev.setHold_same {d : Dev} {n : Lane} {f : Fld} {on : Bool} (h : d.b (pPacer n) f = on) : d.setHold n f on = d := if_pos h

/-- The device with the host hold reason at its new level, before RUN and HOLD follow. -/
def Dev.hostHeld (d : Dev) (n : Lane) (on : Bool) : Dev :=
  let e := d.sb (pPacer n) fHoldHost on
  e.when (e.laneState n == stTrain) fun e => e.sb (pPacer n) fPcTraining (e.enginesHere n || decide (e.g (pPacer n) fPhase ≤ 3))

/-- The host reason takes no engines away, so its change raises nothing (R102). -/
theorem Dev.setHold_host {d : Dev} {n : Lane} {on : Bool} (h : d.b (pPacer n) fHoldHost ≠ on) :
    d.setHold n fHoldHost on = (d.hostHeld n on).holdUpdate n := by
  have hhere : (d.sb (pPacer n) fHoldHost on).enginesHere n = d.enginesHere n := by
    have hr : (d.sb (pPacer n) fHoldHost on).b (pPacer n) fHoldReload = d.b (pPacer n) fHoldReload := Dev.b_s_apart (by decide) _ _ _ _
    have he : (d.sb (pPacer n) fHoldHost on).b (pPacer n) fHoldEngines = d.b (pPacer n) fHoldEngines := Dev.b_s_apart (by decide) _ _ _ _
    rw [Dev.enginesHere, hr, he, Dev.enginesHere]
  have hf : (fHoldHost == fHoldEngines) = false := by decide
  rw [Dev.setHold, if_neg h]
  simp only [hhere, hf, Bool.and_false, Bool.and_not_self, Bool.false_and, Bool.or_self, Dev.raiseIf]
  rfl

theorem Dev.hostHeld_host (d : Dev) (n : Lane) (on : Bool) : (d.hostHeld n on).b (pPacer n) fHoldHost = on :=
  (Dev.when_keeps (·.b (pPacer n) fHoldHost) (Dev.b_s_apart (by decide) ..) _).trans (Dev.b_sb_same _ _ _ _ (by decide) rfl)

theorem Dev.hostHeld_laneState (d : Dev) (n : Lane) (on : Bool) : (d.hostHeld n on).laneState n = d.laneState n :=
  (Dev.when_keeps (·.laneState n) (Dev.s_pacer_laneState _ _ _ fPcTraining _) _).trans (Dev.s_pacer_laneState _ _ _ fHoldHost _)

theorem Dev.setHold_host_b (d : Dev) (n : Lane) (on : Bool) : (d.setHold n fHoldHost on).b (pPacer n) fHoldHost = on := by
  by_cases h : d.b (pPacer n) fHoldHost = on
  · rwa [Dev.setHold_same h]
  · rw [Dev.setHold_host h, Dev.b, Dev.holdUpdate_g (by decide) (by decide)]
    exact d.hostHeld_host n on

/-- RUN and HOLD follow the hold reasons as the host reason leaves them (R92, R102). -/
theorem Dev.setHold_host_laneState (d : Dev) (n : Lane) (on : Bool) : (d.setHold n fHoldHost on).laneState n =
    if on = d.b (pPacer n) fHoldHost then d.laneState n
    else if d.laneState n = stRun ∧ (d.setHold n fHoldHost on).g (pPacer n) fHoldSrc ≠ 0 then stHold
    else if d.laneState n = stHold ∧ (d.setHold n fHoldHost on).g (pPacer n) fHoldSrc = 0 then stRun else d.laneState n := by
  by_cases h : d.b (pPacer n) fHoldHost = on
  · rw [Dev.setHold_same h, if_pos h.symm]
  · rw [Dev.setHold_host h, if_neg (Ne.symm h), Dev.holdUpdate_g (by decide) (by decide), Dev.holdUpdate_laneState, Dev.hostHeld_laneState]

theorem DevKept.setHold_host {ex ev : List (Nat × Nat)} {d h e : Dev} (k : DevKept ex ev d h e) {n : Lane} (p44 : (pPacer n, 0x044) ∈ ex)
    (h44 : (pLrx n, 0x044) ∈ ex) (h78 : (pLrx n, 0x078) ∈ ex) (h6 : (pLrx n, 6) ∈ ev) (on : Bool) :
    ∃ f g, DevKept ex ev d ((h.updLrx n f).updPacer n g) (e.setHold n fHoldHost on) := by
  by_cases hb : e.b (pPacer n) fHoldHost = on
  · have hl : h.updLrx n id = h := Dev.updLrx_self rfl
    have hp : h.updPacer n id = h := Dev.updPacer_self rfl
    exact ⟨id, id, by rwa [hl, hp, Dev.setHold_same hb]⟩
  · rw [Dev.setHold_host hb]
    have kh := k.sb (f := fHoldHost) on p44
    exact (kh.when (kh.sb (f := fPcTraining) _ p44) _).holdUpdate p44 h44 h78 h6

/-! CTRL (R102, R110) -/
/-! CTRL (R102, R110) -/

theorem regSpec_pacerCtrl (n : Lane) :
    regSpec (pPacer n) 0x040 = some ⟨"CTRL", 0x040, [w1t 3 3, w1t 2 2, rw 1 1 0, rw 0 0 1], 1, 4, false⟩ := by
  revert n; decide

/-- CTRL holds auto and hold_req as written. -/
theorem storeWord_pacerCtrl (n : Lane) (old v : Word) {i : Nat} (hi : i < 2) :
    (storeWord (pPacer n) 0x040 old v).getLsbD i = v.getLsbD i := by
  have hp : ¬ (pPacer n = 0x12 ∧ 0x040 = 0x050) := by omega
  unfold storeWord
  rw [regSpec_pacerCtrl]
  simp only [if_neg hp, List.foldl, FSpec.write, w1t, rw, FSpec.mask, Norm.store, BitVec.ofNat_toNat]
  interval_cases i <;> simp

theorem Dev.store_pacerCtrl_b (d : Dev) (n : Lane) (v : Word) {i : Nat} (hi : i < 2) :
    (d.store (pPacer n) 0x040 v).b (pPacer n) ⟨0x040, i, 1⟩ = v.getLsbD i := by
  rw [Dev.b, Dev.g, getBits_one, Dev.store, Dev.rd_wr_same]
  exact storeWord_pacerCtrl n _ v hi

theorem Dev.store_g (d : Dev) {p off q : Nat} {f : Fld} (v : Word) (h : f.off ≠ off) (hlt : off < 4096 := by decide)
    (hf : f.off < 4096 := by decide) : (d.store p off v).g q f = d.g q f :=
  Dev.g_congr (d.rd_wr_off hlt hf h _)

theorem Dev.store_b (d : Dev) {p off q : Nat} {f : Fld} (v : Word) (h : f.off ≠ off) (hlt : off < 4096 := by decide)
    (hf : f.off < 4096 := by decide) : (d.store p off v).b q f = d.b q f :=
  Dev.b_congr (d.rd_wr_off hlt hf h _)

/-- The device once a write of CTRL has stored and what it does to adaptation is done, a change of auto or a restart (R110). -/
def Dev.ctrlAdapted (d : Dev) (n : Lane) (v : Word) : Dev :=
  let was := d.b (pPacer n) fPcAuto
  let e := (d.store (pPacer n) 0x040 v).when (was && !v.getLsbD 0) fun e => (e.dropCandidate n).s (pPacer n) fSnrCand 0
  let e := e.when (!was && v.getLsbD 0) fun e => e.updPacer n fun h => { h with cand := none }
  e.when (v.getLsbD 0 && v.getLsbD 3) (·.dropCandidate n)

theorem Dev.ctrlAdapted_keeps {α : Type} (π : Dev → α) {n : Lane} (hdrop : ∀ e : Dev, π (e.dropCandidate n) = π e)
    (hsnr : ∀ e : Dev, π (e.s (pPacer n) fSnrCand 0) = π e)
    (hupd : ∀ e : Dev, π (e.updPacer n fun h => { h with cand := none }) = π e)
    (d : Dev) (v : Word) : π (d.ctrlAdapted n v) = π (d.store (pPacer n) 0x040 v) := by
  unfold Dev.ctrlAdapted
  dsimp only
  refine (Dev.when_keeps π ?restart _).trans ((Dev.when_keeps π ?on _).trans (Dev.when_keeps π ?off _))
  case restart => exact hdrop _
  case on => exact hupd _
  case off => exact (hsnr _).trans (hdrop _)

theorem Dev.ctrlAdapted_b {f : Fld} (hp : f.apart fPcSwapPending) (hs : f.apart fSnrCand) (d : Dev) (n : Lane) (v : Word) (q : Nat) :
    (d.ctrlAdapted n v).b q f = (d.store (pPacer n) 0x040 v).b q f :=
  Dev.ctrlAdapted_keeps (·.b q f) (fun _ => Dev.dropCandidate_b hp ..) (fun _ => Dev.b_s_apart hs ..) (fun _ => rfl) d v

theorem Dev.ctrlAdapted_laneState (d : Dev) (n m : Lane) (v : Word) :
    (d.ctrlAdapted n v).laneState m = (d.store (pPacer n) 0x040 v).laneState m :=
  Dev.ctrlAdapted_keeps (·.laneState m) (fun _ => Dev.dropCandidate_laneState ..) (fun _ => Dev.s_pacer_laneState _ _ _ fSnrCand _)
    (fun _ => rfl) d v

/-- The Pacer's hidden part as a write of CTRL leaves it: `was` and `auto` are auto before and after (R110). -/
def PacerH.adapted (was auto restart : Bool) (h : PacerH) : PacerH :=
  if was && !auto || auto && restart then h.noCandidate else if !was && auto then { h with cand := none } else h

/-- A write of CTRL moves no more of the hidden part than the candidate and the deferred swap. -/
theorem PacerH.adapted_eq (h : PacerH) (was auto restart : Bool) : h.adapted was auto restart =
    { h with cand := (h.adapted was auto restart).cand, pend := (h.adapted was auto restart).pend } := by
  unfold PacerH.adapted
  split
  · rfl
  · split <;> rfl

theorem PacerH.adapted_cand {was auto : Bool} (hne : was ≠ auto) (restart : Bool) (h : PacerH) :
    (h.adapted was auto restart).cand = none := by
  cases was <;> cases auto
  case false.true => cases restart <;> rfl
  case true.false => rfl
  all_goals contradiction

theorem PacerH.noCandidate_pend (h : PacerH) : h.noCandidate.pend ∈ [none, some .manual] := by
  unfold PacerH.noCandidate
  dsimp only
  split <;> simp

theorem Dev.ctrlAdapted_off {d : Dev} {n : Lane} {v : Word} (hd : d.b (pPacer n) fPcAuto = true) (h0 : v.getLsbD 0 = false) :
    d.ctrlAdapted n v = ((d.store (pPacer n) 0x040 v).dropCandidate n).s (pPacer n) fSnrCand 0 := by
  rw [Dev.ctrlAdapted, hd, h0]; rfl

theorem Dev.ctrlAdapted_same {d : Dev} {n : Lane} {v : Word} (h0 : v.getLsbD 0 = d.b (pPacer n) fPcAuto)
    (h3 : (v.getLsbD 0 && v.getLsbD 3) = false) : d.ctrlAdapted n v = d.store (pPacer n) 0x040 v := by
  rw [Dev.ctrlAdapted, h3, h0, Bool.and_not_self, Bool.not_and_self]; rfl

/-- A write of CTRL touches SNR only where it turns adaptation off. -/
theorem DevKept.ctrlAdapted {ex ev : List (Nat × Nat)} (d : Dev) {n : Lane} {v : Word} (h40 : (pPacer n, 0x040) ∈ ex)
    (h44 : (pPacer n, 0x044) ∈ ex) (h70 : d.b (pPacer n) fPcAuto = true → v.getLsbD 0 = false → (pPacer n, 0x070) ∈ ex) :
    DevKept ex ev d (d.updPacer n (PacerH.adapted (d.b (pPacer n) fPcAuto) (v.getLsbD 0) (v.getLsbD 3))) (d.ctrlAdapted n v) := by
  have ks : DevKept ex ev d d (d.store (pPacer n) 0x040 v) := (DevKept.refl d).wr _ h40
  have hid : d.updPacer n id = d := Dev.updPacer_self rfl
  cases hd : d.b (pPacer n) fPcAuto <;> cases h0 : v.getLsbD 0
  case true.false =>
    rw [Dev.ctrlAdapted_off hd h0]
    exact (ks.dropCandidate h44).s 0 (h70 hd h0)
  case false.false =>
    rw [Dev.ctrlAdapted_same (by rw [h0, hd]) (by rw [h0]; rfl)]
    exact hid.symm ▸ ks
  case false.true =>
    have kc := ks.updPacer n fun h => { h with cand := none }
    rw [Dev.ctrlAdapted, hd, h0]
    cases v.getLsbD 3 with
    | false => exact kc
    | true =>
      have kd := kc.dropCandidate h44
      rw [Dev.updPacer_updPacer] at kd
      exact kd
  case true.true =>
    rw [Dev.ctrlAdapted, hd, h0]
    cases v.getLsbD 3 with
    | false => exact hid.symm ▸ ks
    | true => exact ks.dropCandidate h44

section
variable {d : Dev} {w : Who} {n : Lane} {v : Word}

/-- A write of CTRL: adaptation, then the host hold reason, then a swap in manual mode (R102, R110). -/
theorem Dev.pacerCtrlWrite_takes (ht : d.takes w (pPacer n) 0x040) : d.pacerCtrlWrite w n v =
    (((d.ctrlAdapted n v).setHold n fHoldHost (v.getLsbD 1)).when (!v.getLsbD 0 && v.getLsbD 2 &&
      ((d.ctrlAdapted n v).setHold n fHoldHost (v.getLsbD 1)).laneValid n) (·.requestSwap n .manual)).answered := by
  have hauto : (d.store (pPacer n) 0x040 v).b (pPacer n) fPcAuto = v.getLsbD 0 := d.store_pacerCtrl_b n v (by decide)
  have hreq : (d.ctrlAdapted n v).b (pPacer n) fPcHoldReq = v.getLsbD 1 :=
    (Dev.ctrlAdapted_b (by decide) (by decide) _ _ _ _).trans (d.store_pacerCtrl_b n v (by decide))
  rw [Dev.pacerCtrlWrite, access_takes _ _ _ _ _ ht, ← hreq, ← hauto, Dev.ctrlAdapted, ← hauto]
  rfl

/-- CTRL written with the host hold reason as it is. -/
theorem Dev.pacerCtrlWrite_sameHold (ht : d.takes w (pPacer n) 0x040) (h1 : v.getLsbD 1 = d.b (pPacer n) fHoldHost) :
    d.pacerCtrlWrite w n v =
      ((d.ctrlAdapted n v).when (!v.getLsbD 0 && v.getLsbD 2 && d.laneValid n) (·.requestSwap n .manual)).answered := by
  have hheld : (d.ctrlAdapted n v).b (pPacer n) fHoldHost = v.getLsbD 1 :=
    (Dev.ctrlAdapted_b (by decide) (by decide) _ _ _ _).trans ((d.store_b v (by decide)).trans h1.symm)
  have hstate : (d.ctrlAdapted n v).laneState n = d.laneState n :=
    (Dev.ctrlAdapted_laneState _ _ _ _).trans (d.store_g v (by decide))
  rw [Dev.pacerCtrlWrite_takes ht, Dev.setHold_same hheld, Dev.laneValid, hstate, Dev.laneValid]

/-- CTRL written with the host hold reason as it is, and without a swap in manual mode. -/
theorem Dev.pacerCtrlWrite_noSwap (ht : d.takes w (pPacer n) 0x040) (h1 : v.getLsbD 1 = d.b (pPacer n) fHoldHost)
    (h2 : (!v.getLsbD 0 && v.getLsbD 2) = false) : d.pacerCtrlWrite w n v = (d.ctrlAdapted n v).answered := by
  rw [Dev.pacerCtrlWrite_sameHold ht h1, h2, Bool.false_and]
  rfl

/-- CTRL written with auto unchanged, and without a swap or a restart. -/
theorem Dev.pacerCtrlWrite_sameAuto (ht : d.takes w (pPacer n) 0x040) (h0 : v.getLsbD 0 = d.b (pPacer n) fPcAuto)
    (h2 : v.getLsbD 2 = false) (h3 : v.getLsbD 3 = false) :
    d.pacerCtrlWrite w n v = ((d.store (pPacer n) 0x040 v).setHold n fHoldHost (v.getLsbD 1)).answered := by
  rw [Dev.pacerCtrlWrite_takes ht, Dev.ctrlAdapted_same h0 (by rw [h3, Bool.and_false]), h2, Bool.and_false, Bool.false_and]
  rfl

end

/-! Pace levels (R91, R106 to R108) -/

/-- The field that is a whole register. -/
abbrev Fld.word (off : Nat) : Fld := ⟨off, 0, 32⟩

theorem Dev.rd_of_g {d e : Dev} {p off : Nat} (h : e.g p (.word off) = d.g p (.word off)) : e.rd p off = d.rd p off := by
  have hall : ∀ x : Word, getBits x 0 32 = x.toNat := fun x => by
    rw [getBits, pow_zero, Nat.div_one, Nat.mod_eq_of_lt x.isLt]
  rw [Dev.g, Dev.g, hall, hall] at h
  exact BitVec.eq_of_toNat_eq h

theorem Dev.wrs_rd_before {p off q o : Nat} (h : regKey q o < regKey p off) (d : Dev) (l : List Word) :
    (d.wrs p off l).rd q o = d.rd q o := by
  induction l generalizing d off with
  | nil => rfl
  | cons w t ih =>
    have hlt : regKey q o < regKey p (off + 4) := by unfold regKey at *; omega
    exact (ih hlt _).trans (d.rd_wr_other (by omega) w)

theorem Dev.wrs_life (d : Dev) (p off : Nat) (l : List Word) : (d.wrs p off l).life = d.life := by
  induction l generalizing d off with
  | nil => rfl
  | cons w t ih => exact (ih _ _).trans rfl

/-- A set written into a bank leaves the registers before the banks alone, whatever its length. -/
theorem Dev.putSet_rd_before (d : Dev) {n : Lane} {bank q o : Nat} (hq : q ≤ pPacer n) (ho : o < 0x400) (e : EqSet) :
    (d.putSet n bank e).rd q o = d.rd q o := by
  have hb : 0x400 ≤ bankOff bank := by unfold bankOff; split <;> omega
  have hk : ∀ k, regKey q o < regKey (pPacer n) (bankOff bank + k) := fun k => by unfold regKey; omega
  exact (Dev.wrs_rd_before (hk _) _ _).trans ((Dev.wrs_rd_before (hk _) _ _).trans (Dev.wrs_rd_before (hk 0) _ _))

theorem Dev.putSet_life (d : Dev) (n : Lane) (bank : Nat) (e : EqSet) : (d.putSet n bank e).life = d.life :=
  (Dev.wrs_life _ _ _ _).trans ((Dev.wrs_life _ _ _ _).trans (Dev.wrs_life _ _ _ _))

theorem Dev.startSwap_rd_before (d : Dev) {n : Lane} {q o : Nat} (hq : q ≤ pPacer n) (ho : o < 0x400) (w : Swap) :
    (d.startSwap n w).rd q o = d.rd q o := by
  cases w with
  | candidate e => exact d.putSet_rd_before hq ho e
  | manual => rfl

theorem Dev.startSwap_life (d : Dev) (n : Lane) (w : Swap) : (d.startSwap n w).life = d.life := by
  cases w with
  | candidate e => exact d.putSet_life n _ e
  | manual => rfl

theorem Dev.startDeferred_none {d : Dev} {n : Lane} (h : (d.pc n).pend = none) : d.startDeferred n = d := by
  unfold Dev.startDeferred
  rw [h]
  exact ite_self d

/-- A field that no start of a pace change or of a deferred swap touches: before the banks, and neither busy nor swap_pending. -/
abbrev Fld.outsidePace (f : Fld) : Prop := f.apart fPaceBusy ∧ f.apart fPcSwapPending ∧ f.off < 0x400

theorem Dev.startDeferred_g {f : Fld} (hf : f.outsidePace) (d : Dev) {n : Lane} {q : Nat} (hq : q ≤ pPacer n) :
    (d.startDeferred n).g q f = d.g q f := by
  obtain ⟨-, hswap, hoff⟩ := hf
  unfold Dev.startDeferred
  split
  · rfl
  · split
    · rfl
    · exact (Dev.g_congr (Dev.startSwap_rd_before _ hq hoff _)).trans (Dev.g_s_apart hswap _ _ _ _)

theorem Dev.startDeferred_life (d : Dev) (n : Lane) : (d.startDeferred n).life = d.life := by
  unfold Dev.startDeferred
  split
  · rfl
  · split
    · rfl
    · exact Dev.startSwap_life _ _ _

/-- A pace change at step 1 from a live level to a target: the units of a lower level are there (R106, R107). -/
def paceStep1 (target live : Nat) : PaceChange := ⟨.waiting (decide (target < live)), target⟩

/-- The device with a pace change at step 1, toward the effective level. -/
def Dev.paceBegun (d : Dev) (n : Lane) : Dev :=
  (d.updPacer n fun h => { h with pace := some (paceStep1 (d.g (pPacer n) fPaceTarget) (d.g (pPacer n) fPaceLive)) }).sb
    (pPacer n) fPaceBusy true

theorem Dev.paceStart_none {d : Dev} {n : Lane} (h : (d.pc n).pace = none) : d.paceStart n =
    if d.g (pPacer n) fPaceTarget = d.g (pPacer n) fPaceLive then (d.paceDrop n).startDeferred n else (d.paceBegun n).dropCandidate n := by
  unfold Dev.paceStart
  rw [h]
  rfl

theorem Dev.paceStart_g {f : Fld} (hf : f.outsidePace) {d : Dev} {n : Lane} {q : Nat} (hp : (d.pc n).pace = none) (hq : q ≤ pPacer n) :
    (d.paceStart n).g q f = d.g q f := by
  rw [Dev.paceStart_none hp]
  split
  · exact (Dev.startDeferred_g hf _ hq).trans (Dev.g_s_apart hf.1 _ _ _ _)
  · exact (Dev.dropCandidate_g hf.2.1 _ _ _).trans (Dev.g_s_apart hf.1 _ _ _ _)

theorem Dev.dropCandidate_life (d : Dev) (n : Lane) : (d.dropCandidate n).life = d.life := by
  rcases d.dropCandidate_cases n with h | h <;> rw [h] <;> rfl

theorem Dev.paceStart_life {d : Dev} {n : Lane} (hp : (d.pc n).pace = none) : (d.paceStart n).life = d.life := by
  rw [Dev.paceStart_none hp]
  split
  · exact Dev.startDeferred_life _ _
  · exact Dev.dropCandidate_life _ _

/-- The device with the effective level as the target. -/
def Dev.retargeted (d : Dev) (n : Lane) : Dev := d.s (pPacer n) fPaceTarget (d.effLevel n)

theorem Dev.retargeted_target (d : Dev) (n : Lane) : (d.retargeted n).g (pPacer n) fPaceTarget = d.effLevel n := by
  have hlt : d.effLevel n < 2 ^ fPaceTarget.w := Nat.lt_of_le_of_lt (Nat.min_le_left _ _) (Nat.mod_lt _ (by decide))
  exact (d.g_s_same _ _ _ (by decide)).trans (Nat.mod_eq_of_lt hlt)

theorem Dev.retargeted_laneState (d : Dev) (n : Lane) : (d.retargeted n).laneState n = d.laneState n :=
  Dev.s_pacer_laneState _ _ _ fPaceTarget _

/-- Outside TRAIN the target follows its inputs, and in RUN and HOLD a new target starts a pace change (R91, R106, R107). -/
theorem Dev.paceUpdate_eq {d : Dev} {n : Lane} (h : d.laneState n ≠ stTrain) : d.paceUpdate n =
    if d.effLevel n = d.g (pPacer n) fPaceTarget then d
    else if d.laneValid n then (d.retargeted n).paceStart n else d.retargeted n := by
  have hstate : (d.s (pPacer n) fPaceTarget (d.effLevel n)).laneState n = d.laneState n := d.retargeted_laneState n
  simp only [Dev.paceUpdate, Dev.laneValid, hstate, if_neg h]
  rfl

/-- The device after a write of PACE_CFG that is accepted, but for the answer. -/
def Dev.paceCfgStored (d : Dev) (n : Lane) (v : Word) : Dev := (d.store (pPacer n) 0x058 v).paceUpdate n

theorem Dev.paceCfgWrite_takes {d : Dev} {w : Who} {n : Lane} (ht : d.takes w (pPacer n) 0x058) (v : Word) :
    d.paceCfgWrite w n v = (d.paceCfgStored n v).answered := access_takes _ _ _ _ _ ht

theorem Dev.store_paceCfg_laneState (d : Dev) (n m : Lane) (v : Word) : (d.store (pPacer n) 0x058 v).laneState m = d.laneState m :=
  d.store_g v (by decide)

/-- A pace change that begins: PACE_STATUS is busy, and no candidate is held. -/
theorem Dev.paceStart_begins {d : Dev} {n : Lane} (hp : (d.pc n).pace = none)
    (hne : d.g (pPacer n) fPaceTarget ≠ d.g (pPacer n) fPaceLive) :
    ((d.paceStart n).pc n).pace = some (paceStep1 (d.g (pPacer n) fPaceTarget) (d.g (pPacer n) fPaceLive)) ∧
      (d.paceStart n).b (pPacer n) fPaceBusy = true ∧ ((d.paceStart n).pc n).cand = none := by
  have hbegun : ((d.paceBegun n).pc n).pace = some (paceStep1 (d.g (pPacer n) fPaceTarget) (d.g (pPacer n) fPaceLive)) := by
    rw [Dev.paceBegun, Dev.pc_sb, Dev.pc_updPacer_same]
  rw [Dev.paceStart_none hp, if_neg hne, Dev.dropCandidate_pc]
  exact ⟨hbegun, (Dev.dropCandidate_b (by decide) _ _ _).trans (Dev.b_sb_same _ _ _ _ (by decide) rfl), rfl⟩

section
variable {d : Dev} {n : Lane} (hst : d.laneState n ≠ stTrain) (hp : d.laneValid n = true → (d.pc n).pace = none) (v : Word)
include hst

theorem Dev.paceCfgStored_eq : d.paceCfgStored n v =
    if (d.store (pPacer n) 0x058 v).effLevel n = d.g (pPacer n) fPaceTarget then d.store (pPacer n) 0x058 v
    else if d.laneValid n then ((d.store (pPacer n) 0x058 v).retargeted n).paceStart n
    else (d.store (pPacer n) 0x058 v).retargeted n := by
  rw [← d.store_paceCfg_laneState n n v] at hst
  have hvalid : (d.store (pPacer n) 0x058 v).laneValid n = d.laneValid n := by
    rw [Dev.laneValid, d.store_paceCfg_laneState, Dev.laneValid]
  rw [Dev.paceCfgStored, Dev.paceUpdate_eq hst, hvalid, d.store_g (f := fPaceTarget) v (by decide)]

include hp

theorem Dev.paceCfgStored_target : (d.paceCfgStored n v).g (pPacer n) fPaceTarget = (d.store (pPacer n) 0x058 v).effLevel n := by
  rw [Dev.paceCfgStored_eq hst]
  split_ifs with he hv
  · exact (d.store_g v (by decide)).trans he.symm
  · have hkept := Dev.paceStart_g (d := (d.store (pPacer n) 0x058 v).retargeted n) (f := fPaceTarget) (by decide) (hp hv) (Nat.le_refl _)
    exact hkept.trans (Dev.retargeted_target _ n)
  · exact Dev.retargeted_target _ n

/-- A field that neither a target nor a pace change touches reads as it was stored. -/
theorem Dev.paceCfgStored_g {f : Fld} (ht : f.apart fPaceTarget) (hf : f.outsidePace) {q : Nat} (hq : q ≤ pPacer n) :
    (d.paceCfgStored n v).g q f = (d.store (pPacer n) 0x058 v).g q f := by
  have hr : ((d.store (pPacer n) 0x058 v).retargeted n).g q f = (d.store (pPacer n) 0x058 v).g q f := Dev.g_s_apart ht _ _ _ _
  rw [Dev.paceCfgStored_eq hst]
  split_ifs with _ hv
  · rfl
  · exact (Dev.paceStart_g (d := (d.store (pPacer n) 0x058 v).retargeted n) hf (hp hv) hq).trans hr
  · exact hr

theorem Dev.paceCfgStored_life : (d.paceCfgStored n v).life = d.life := by
  rw [Dev.paceCfgStored_eq hst]
  split_ifs with _ hv
  · rfl
  · exact Dev.paceStart_life (d := (d.store (pPacer n) 0x058 v).retargeted n) (hp hv)
  · rfl

/-- A write of PACE_CFG outside TRAIN: the limit is stored, the target is the lower of it and the thermal level, and the live level stays
(R91). -/
theorem Dev.paceCfgStored_reads :
    (d.paceCfgStored n v).rd (pPacer n) 0x058 = storeWord (pPacer n) 0x058 (d.rd (pPacer n) 0x058) v ∧
    (d.paceCfgStored n v).g (pPacer n) fPaceTarget =
      min ((d.paceCfgStored n v).g (pPacer n) fPaceMax) (d.g (pPacer n) fPaceThermal) ∧
    (d.paceCfgStored n v).g (pPacer n) fPaceLive = d.g (pPacer n) fPaceLive := by
  have hword := Dev.rd_of_g (Dev.paceCfgStored_g hst hp v (f := .word 0x058) (by decide) (by decide) (Nat.le_refl _))
  have hmax := Dev.paceCfgStored_g hst hp v (f := fPaceMax) (by decide) (by decide) (Nat.le_refl _)
  have hlive := Dev.paceCfgStored_g hst hp v (f := fPaceLive) (by decide) (by decide) (Nat.le_refl _)
  have htarget := Dev.paceCfgStored_target hst hp v
  rw [Dev.effLevel, ← hmax, d.store_g (f := fPaceThermal) v (by decide)] at htarget
  exact ⟨hword.trans (Dev.rd_wr_same _ _ _ _), htarget, hlive.trans (d.store_g v (by decide))⟩

theorem Dev.paceCfgStored_pacer (h : (d.paceCfgStored n v).g (pPacer n) fPaceTarget = d.g (pPacer n) fPaceTarget) :
    (d.paceCfgStored n v).pacer = d.pacer := by
  rw [Dev.paceCfgStored_target hst hp] at h
  rw [Dev.paceCfgStored_eq hst, if_pos h]
  rfl

/-- In RUN and HOLD a new target other than the live level starts a pace change (R106, R107). -/
theorem Dev.paceCfgStored_begins (hv : d.laneValid n = true)
    (hne : (d.paceCfgStored n v).g (pPacer n) fPaceTarget ≠ d.g (pPacer n) fPaceTarget)
    (hlive : (d.paceCfgStored n v).g (pPacer n) fPaceTarget ≠ d.g (pPacer n) fPaceLive) :
    ((d.paceCfgStored n v).pc n).pace =
        some (paceStep1 ((d.paceCfgStored n v).g (pPacer n) fPaceTarget) (d.g (pPacer n) fPaceLive)) ∧
      (d.paceCfgStored n v).b (pPacer n) fPaceBusy = true ∧ ((d.paceCfgStored n v).pc n).cand = none := by
  have hl : ((d.store (pPacer n) 0x058 v).retargeted n).g (pPacer n) fPaceLive = d.g (pPacer n) fPaceLive :=
    (Dev.g_s_apart (by decide) _ _ _ _).trans (d.store_g v (by decide))
  rw [Dev.paceCfgStored_target hst hp] at hne hlive ⊢
  rw [← Dev.retargeted_target, ← hl] at hlive ⊢
  rw [Dev.paceCfgStored_eq hst, if_neg hne, if_pos hv]
  exact Dev.paceStart_begins (d := (d.store (pPacer n) 0x058 v).retargeted n) (hp hv) hlive

end

/-- The device with a pace change through its step 4, but for the event: the level is live, and no candidate is held (R106, R107). -/
def Dev.levelTaken (d : Dev) (n : Lane) (l : Nat) : Dev :=
  ((d.setLevel n l).paceDrop n).updPacer n fun h => { h with cand := none }

/-- Of the fields only busy, the live level and the MLSE state count change at the boundary. -/
theorem Dev.levelTaken_g {f : Fld} (h : f.apart fPaceBusy) (d : Dev) (n : Lane) (l q : Nat) :
    (d.levelTaken n l).g q f = (d.setLevel n l).g q f := by
  rw [Dev.levelTaken, Dev.g_updPacer, Dev.paceDrop, Dev.sb, Dev.g_s_apart h, Dev.g_updPacer]

theorem Dev.levelTaken_busy (d : Dev) (n : Lane) (l : Nat) : (d.levelTaken n l).b (pPacer n) fPaceBusy = false := by
  rw [Dev.levelTaken, Dev.b, Dev.g_updPacer, Dev.paceDrop]
  exact Dev.b_sb_same _ _ _ _ (by decide) rfl

theorem Dev.levelTaken_mlse16 (d : Dev) (n : Lane) (l : Nat) : (d.levelTaken n l).b (pPacer n) fMlse16 = decide (3 ≤ l) := by
  rw [Dev.b, Dev.levelTaken_g (by decide), Dev.setLevel]
  exact Dev.b_sb_same _ _ _ _ (by decide) rfl

theorem Dev.levelTaken_live (d : Dev) (n : Lane) {l : Nat} (h : l < 2 ^ fPaceLive.w) : (d.levelTaken n l).g (pPacer n) fPaceLive = l := by
  rw [Dev.levelTaken_g (by decide), Dev.setLevel, Dev.sb, Dev.g_s_apart (by decide), Dev.g_s_same _ _ _ _ (by decide), Nat.mod_eq_of_lt h]

theorem Dev.levelTaken_target (d : Dev) (n : Lane) (l : Nat) :
    (d.levelTaken n l).g (pPacer n) fPaceTarget = d.g (pPacer n) fPaceTarget := by
  rw [Dev.levelTaken_g (by decide), Dev.setLevel, Dev.sb, Dev.g_s_apart (by decide), Dev.g_s_apart (by decide)]

theorem DevKept.levelTaken {ex ev : List (Nat × Nat)} {d h e : Dev} (k : DevKept ex ev d h e) {n : Lane} (h44 : (pPacer n, 0x044) ∈ ex)
    (h5C : (pPacer n, 0x05C) ∈ ex) (l : Nat) :
    DevKept ex ev d (h.updPacer n fun x => { x with pace := none, cand := none }) (e.levelTaken n l) := by
  have klevel := (k.s (f := fPaceLive) l h5C).sb (f := fMlse16) (paceMlse16 l) h44
  have kdrop := (klevel.updPacer n fun x => { x with pace := none }).sb (f := fPaceBusy) false h5C
  have kcand := kdrop.updPacer n fun x => { x with cand := none }
  rw [Dev.updPacer_updPacer] at kcand
  exact kcand

/-- The boundary of step 4 with no newer level and no deferred swap (R108, R110). -/
theorem Dev.paceApplied_last {d : Dev} {n : Lane} {l : Nat} (hpace : (d.pc n).pace = some ⟨.boundary, l⟩)
    (htgt : d.g (pPacer n) fPaceTarget = l) (hpend : (d.pc n).pend = none) :
    d.paceApplied n = (d.levelTaken n l).raise (pPacer n) 6 := by
  have hdrop : ((d.setLevel n l).paceDrop n).updPacer n (fun h => { h with cand := none }) = d.levelTaken n l := rfl
  have htarget : ((d.levelTaken n l).raise (pPacer n) 6).g (pPacer n) fPaceTarget = l :=
    (Dev.g_raise _ _ _ _ fPaceTarget).trans ((d.levelTaken_target n l).trans htgt)
  have hnone : (((d.levelTaken n l).raise (pPacer n) 6).pc n).pend = none := by
    rw [Dev.pc, (EvtFrame.raise _ _ _ _).pacer, ← Dev.pc, Dev.levelTaken, Dev.pc_updPacer_same, Dev.paceDrop, Dev.pc_sb,
      Dev.pc_updPacer_same]
    exact hpend
  rw [Dev.paceApplied, hpace]
  simp only [hdrop, htarget, bne_self_eq_false]
  exact Dev.startDeferred_none hnone

end Sys2Proof.Machine
end

section
/-! The Pacer's control and pace changes (O18): a lemma a clause. -/

open Sys2Proof Sys2Proof.Machine

namespace Sys2Proof.Machine

section
variable {s : State} {w : Who} {n : Lane} {v : Word}

/-- HOLD_REQ (R92, R102). -/
theorem holdReq_follows (hc : s.calm) (ht : s.dev.takes w (pPacer n) 0x040) (h0 : v.getLsbD 0 = s.dev.b (pPacer n) fPcAuto)
    (h2 : v.getLsbD 2 = false) (h3 : v.getLsbD 3 = false) :
    Yields (exec (.holdReq w n v) s) fun t =>
      t.dev.b (pPacer n) fHoldHost = v.getLsbD 1 ∧
      t.dev.laneState n = (if v.getLsbD 1 = s.dev.b (pPacer n) fHoldHost then s.dev.laneState n
        else if s.dev.laneState n = stRun ∧ t.dev.g (pPacer n) fHoldSrc ≠ 0 then stHold
        else if s.dev.laneState n = stHold ∧ t.dev.g (pPacer n) fHoldSrc = 0 then stRun else s.dev.laneState n) ∧
      (∀ m, m ≠ n → t.dev.lx m = s.dev.lx m ∧ t.dev.pc m = s.dev.pc m) ∧
      Kept s t { s.dev.answered with lrx := t.dev.lrx, pacer := t.dev.pacer }
        [(pPacer n, 0x040), (pPacer n, 0x044), (pLrx n, 0x044), (pLrx n, 0x078)] [(pLrx n, 6)] := by
  have hstate : (s.dev.store (pPacer n) 0x040 v).laneState n = s.dev.laneState n :=
    Dev.g_congr (s.dev.rd_wr_page (by decide) (by decide) (pacer_ne_lrx n n).symm _)
  have hhost : (s.dev.store (pPacer n) 0x040 v).b (pPacer n) fHoldHost = s.dev.b (pPacer n) fHoldHost := s.dev.store_b v (by decide)
  have hmoved := (s.dev.store (pPacer n) 0x040 v).setHold_host_laneState n (v.getLsbD 1)
  rw [hstate, hhost] at hmoved
  have kstored : DevKept [(pPacer n, 0x040), (pPacer n, 0x044), (pLrx n, 0x044), (pLrx n, 0x078)] [(pLrx n, 6)] s.dev s.dev
      (s.dev.store (pPacer n) 0x040 v) := (DevKept.refl _).wr _ (by simp)
  obtain ⟨f, g, k⟩ := kstored.setHold_host (n := n) (by simp) (by simp) (by simp) (by simp) (v.getLsbD 1)
  refine k.answered.yields (f := (·.pacerCtrlWrite w n v)) hc (Dev.pacerCtrlWrite_sameAuto ht h0 h2 h3) rfl (by simp)
    fun t hset kept => ⟨?_, ?_, fun m hm => ?_, ?_⟩
  · exact (hset.b _ fHoldHost).trans (Dev.setHold_host_b ..)
  · rw [hset.laneState, hset.g _ fHoldSrc]
    exact hmoved
  · rw [hset.lx, hset.pc, k.answered.lx, k.answered.pc]
    exact ⟨Dev.lx_updLrx_other _ hm f, Dev.pc_updPacer_other _ hm g⟩
  · rw [hset.lrx, hset.pacer, k.answered.lrx, k.answered.pacer]
    exact kept

/-- PACER_AUTO (R110). -/
theorem pacerAuto_adapts (hc : s.calm) (ht : s.dev.takes w (pPacer n) 0x040) (h1 : v.getLsbD 1 = s.dev.b (pPacer n) fHoldHost)
    (h2 : v.getLsbD 2 = false) (h3 : v.getLsbD 3 = false) :
    Yields (exec (.pacerAuto w n v) s) fun t =>
      t.dev.b (pPacer n) fPcAuto = v.getLsbD 0 ∧
      (s.dev.b (pPacer n) fPcAuto ≠ v.getLsbD 0 → (t.dev.pc n).cand = none) ∧
      (s.dev.b (pPacer n) fPcAuto = true → v.getLsbD 0 = false → t.dev.g (pPacer n) fSnrCand = 0 ∧
        (t.dev.pc n).pend ∈ [none, some .manual]) ∧
      (s.dev.b (pPacer n) fPcAuto = v.getLsbD 0 → t.dev.pacer = s.dev.pacer ∧ t.dev.rd (pPacer n) 0x070 = s.dev.rd (pPacer n) 0x070) ∧
      Kept s t (s.dev.answered.updPacer n fun h => { h with cand := (t.dev.pc n).cand, pend := (t.dev.pc n).pend })
        [(pPacer n, 0x040), (pPacer n, 0x044), (pPacer n, 0x070)] [] := by
  have hwrite := Dev.pacerCtrlWrite_noSwap ht h1 (by rw [h2, Bool.and_false])
  have k := DevKept.ctrlAdapted (ex := [(pPacer n, 0x040), (pPacer n, 0x044), (pPacer n, 0x070)]) (ev := []) s.dev (n := n) (v := v)
    (by simp) (by simp) (fun _ _ => by simp)
  refine k.answered.yields (f := (·.pacerCtrlWrite w n v)) hc hwrite rfl (by simp) fun t hset kept => ?_
  have hpc : t.dev.pc n = (s.dev.pc n).adapted (s.dev.b (pPacer n) fPcAuto) (v.getLsbD 0) (v.getLsbD 3) :=
    ((hset.pc n).trans (k.answered.pc n)).trans (s.dev.pc_updPacer_same n _)
  refine ⟨?_, fun hne => ?_, fun hon hoff => ⟨?_, ?_⟩, fun hsame => ?_, ?_⟩
  · exact (hset.b _ fPcAuto).trans ((Dev.ctrlAdapted_b (by decide) (by decide) _ _ _ _).trans (s.dev.store_pacerCtrl_b n v (by decide)))
  · rw [hpc]
    exact PacerH.adapted_cand hne _ _
  · refine (hset.g _ fSnrCand).trans ?_
    show (s.dev.ctrlAdapted n v).g (pPacer n) fSnrCand = 0
    rw [Dev.ctrlAdapted_off hon hoff]
    exact Dev.g_s_same _ _ _ _ (by decide)
  · rw [hpc, hon, hoff]
    exact PacerH.noCandidate_pend _
  · have hstored : s.dev.ctrlAdapted n v = s.dev.store (pPacer n) 0x040 v := Dev.ctrlAdapted_same hsame.symm (by rw [h3, Bool.and_false])
    rw [hset.pacer, hset.rd _ _ (by decide) (by decide), hstored]
    exact ⟨rfl, s.dev.rd_wr_off (by decide) (by decide) (by decide) _⟩
  · rw [hpc]
    exact Kept.updPacer_congr (d := s.dev.answered) (PacerH.adapted_eq (s.dev.pc n) _ _ _) kept

/-- PACER_SWAP in manual mode (R104, R110). -/
theorem pacerSwap_requests (hc : s.calm) (ht : s.dev.takes w (pPacer n) 0x040) (h1 : v.getLsbD 1 = s.dev.b (pPacer n) fHoldHost)
    (h0 : v.getLsbD 0 = false) (hauto : s.dev.b (pPacer n) fPcAuto = false) (hvalid : s.dev.laneValid n = true) :
    Yields (exec (.pacerSwap w n v) s) fun t =>
      (s.dev.swapBusy n = false → (s.dev.pc n).pace = none → (t.dev.pc n).req = true ∧ (t.dev.pc n).pend = (s.dev.pc n).pend) ∧
      ((s.dev.swapBusy n || (s.dev.pc n).pace.isSome) = true → (t.dev.pc n).pend = some .manual ∧
        t.dev.b (pPacer n) fPcSwapPending = true ∧ (t.dev.pc n).req = (s.dev.pc n).req) ∧
      ((s.dev.swapBusy n || (s.dev.pc n).pace.isSome) = true → (s.dev.pc n).pend.isSome = true →
        t.dev.rd (pPacer n) 0x080 = s.dev.rd (pPacer n) 0x080 + 1 ∧ t.dev.evt (pPacer n) 3 = true) ∧
      Kept s t (s.dev.answered.updPacer n fun h => { h with req := (t.dev.pc n).req, pend := (t.dev.pc n).pend })
        [(pPacer n, 0x040), (pPacer n, 0x044), (pPacer n, 0x080)] [(pPacer n, 3)] := by
  have v0 : (v ||| 4).getLsbD 0 = false := by simpa using h0
  have v1 : (v ||| 4).getLsbD 1 = s.dev.b (pPacer n) fHoldHost := by simpa using h1
  have v2 : (v ||| 4).getLsbD 2 = true := by simp
  have hexec : exec (.pacerSwap w n v) s = act s (·.pacerCtrlWrite w n (v ||| 4)) := rfl
  rw [hexec]
  generalize v ||| 4 = v' at v0 v1 v2 ⊢
  generalize he : s.dev.store (pPacer n) 0x040 v' = e
  have hwrite : s.dev.pacerCtrlWrite w n v' = (e.requestSwap n .manual).answered := by
    rw [Dev.pacerCtrlWrite_sameHold ht v1, Dev.ctrlAdapted_same (by rw [v0, hauto]) (by rw [v0]; rfl), v0, v2, hvalid, he]
    rfl
  have hlane : e.pc n = s.dev.pc n := he ▸ rfl
  have hpow : e.powered (pPacer n) = true := he ▸ ht.powered
  have kstored : DevKept [(pPacer n, 0x040), (pPacer n, 0x044), (pPacer n, 0x080)] [(pPacer n, 3)] s.dev s.dev e :=
    he ▸ (DevKept.refl _).wr _ (by simp)
  have k := kstored.requestSwap (n := n) (by simp) (by simp) (by simp)
  refine k.answered.yields (f := (·.pacerCtrlWrite w n v')) hc hwrite rfl (by simp) fun t hset kept => ?_
  have hpc : t.dev.pc n = (s.dev.pc n).swapRequested := ((hset.pc n).trans (k.answered.pc n)).trans (s.dev.pc_updPacer_same n _)
  rw [hpc]
  refine ⟨fun hfree hpace => ?_, fun hbusy => ?_, fun hbusy hpend => ?_,
    Kept.updPacer_congr (d := s.dev.answered) (PacerH.swapRequested_eq _) kept⟩
  · have hfree' : (s.dev.pc n).busy = false := by rw [PacerH.busy, hpace]; exact (Bool.or_false _).trans hfree
    rw [PacerH.swapRequested, hfree']
    exact ⟨rfl, rfl⟩
  · have hbusy' : (s.dev.pc n).busy = true := hbusy
    rw [PacerH.swapRequested, hbusy']
    exact ⟨rfl, (hset.b _ fPcSwapPending).trans (Dev.requestSwap_pending (hlane ▸ hbusy)), rfl⟩
  · obtain ⟨hcount, hevt⟩ := Dev.requestSwap_replaces (d := e) (n := n) (hlane ▸ hbusy) (hlane ▸ hpend) hpow
    have hold : e.rd (pPacer n) 0x080 = s.dev.rd (pPacer n) 0x080 := he ▸ s.dev.rd_wr_off (by decide) (by decide) (by decide) _
    exact ⟨(hset.rd _ _ (by decide) (by decide)).trans (hcount.trans (by rw [hold])), (hset.evt _ _ (pacer_ne_referee n)).trans hevt⟩

/-- PACER_RESTART (R110). -/
theorem pacerRestart_drops (hc : s.calm) (ht : s.dev.takes w (pPacer n) 0x040) (h1 : v.getLsbD 1 = s.dev.b (pPacer n) fHoldHost)
    (h0 : v.getLsbD 0 = true) (hauto : s.dev.b (pPacer n) fPcAuto = true) :
    Yields (exec (.pacerRestart w n v) s) fun t =>
      (t.dev.pc n).cand = none ∧
      (t.dev.pc n).pend = (if (s.dev.pc n).pend = some .manual then some .manual else none) ∧
      Kept s t (s.dev.answered.updPacer n fun h => { h with cand := none, pend := (t.dev.pc n).pend })
        [(pPacer n, 0x040), (pPacer n, 0x044)] [] := by
  have v0 : (v ||| 8).getLsbD 0 = true := by simpa using h0
  have v1 : (v ||| 8).getLsbD 1 = s.dev.b (pPacer n) fHoldHost := by simpa using h1
  have v3 : (v ||| 8).getLsbD 3 = true := by simp
  have hexec : exec (.pacerRestart w n v) s = act s (·.pacerCtrlWrite w n (v ||| 8)) := rfl
  rw [hexec]
  generalize v ||| 8 = v' at v0 v1 v3 ⊢
  have hwrite : s.dev.pacerCtrlWrite w n v' = (s.dev.ctrlAdapted n v').answered := Dev.pacerCtrlWrite_noSwap ht v1 (by rw [v0]; rfl)
  have k := DevKept.ctrlAdapted (ex := [(pPacer n, 0x040), (pPacer n, 0x044)]) (ev := []) s.dev (n := n) (v := v') (by simp) (by simp)
    (fun _ hoff => by rw [v0] at hoff; cases hoff)
  rw [hauto, v0, v3] at k
  refine k.answered.yields (f := (·.pacerCtrlWrite w n v')) hc hwrite rfl (by simp) fun t hset kept => ?_
  have hpc : t.dev.pc n = (s.dev.pc n).noCandidate := ((hset.pc n).trans (k.answered.pc n)).trans (s.dev.pc_updPacer_same n _)
  rw [hpc]
  exact ⟨rfl, rfl, Kept.updPacer_congr (d := s.dev.answered) rfl kept⟩

/-- PACE_CFG_WRITE on a lane that is in no state of the Pacer (R91). -/
theorem paceCfgWrite_idle (hc : s.calm) (ht : s.dev.takes w (pPacer n) 0x058) (hst : s.dev.laneState n ∉ [stTrain, stRun, stHold]) :
    Yields (exec (.paceCfgWrite w n v) s) fun t =>
      t.dev.rd (pPacer n) 0x058 = storeWord (pPacer n) 0x058 (s.dev.rd (pPacer n) 0x058) v ∧
      t.dev.g (pPacer n) fPaceTarget = min (t.dev.g (pPacer n) fPaceMax) (s.dev.g (pPacer n) fPaceThermal) ∧
      Kept s t s.dev.answered [(pPacer n, 0x058), (pPacer n, 0x05C)] [] := by
  simp only [List.mem_cons, List.not_mem_nil, or_false, not_or] at hst
  obtain ⟨htrain, hrun, hhold⟩ := hst
  have hinvalid : s.dev.laneValid n = false := by simp [Dev.laneValid, hrun, hhold]
  obtain ⟨hword, htarget, -⟩ := Dev.paceCfgStored_reads htrain (fun hv => absurd hv (by simp [hinvalid])) v
  have kstored : DevKept [(pPacer n, 0x058), (pPacer n, 0x05C)] [] s.dev s.dev (s.dev.store (pPacer n) 0x058 v) :=
    (DevKept.refl _).wr _ (by simp)
  have k : DevKept [(pPacer n, 0x058), (pPacer n, 0x05C)] [] s.dev s.dev (s.dev.paceCfgStored n v) := by
    rw [Dev.paceCfgStored_eq htrain, hinvalid]
    split
    · exact kstored
    · exact kstored.s _ (by simp [fPaceTarget])
  refine k.answered.yields (f := (·.paceCfgWrite w n v)) hc (Dev.paceCfgWrite_takes ht v) rfl (by simp) fun t hset kept => ?_
  rw [hset.rd _ _ (by decide) (by decide), hset.g _ fPaceTarget, hset.g _ fPaceMax]
  exact ⟨hword, htarget, kept⟩

/-- PACE_CFG_WRITE in RUN or HOLD with no pace change in progress (R91, R106, R107). -/
theorem paceCfgWrite_valid (hc : s.calm) (ht : s.dev.takes w (pPacer n) 0x058) (hvalid : s.dev.laneValid n = true)
    (hpace : (s.dev.pc n).pace = none) :
    Yields (exec (.paceCfgWrite w n v) s) fun t =>
      t.dev.rd (pPacer n) 0x058 = storeWord (pPacer n) 0x058 (s.dev.rd (pPacer n) 0x058) v ∧
      t.dev.g (pPacer n) fPaceTarget = min (t.dev.g (pPacer n) fPaceMax) (s.dev.g (pPacer n) fPaceThermal) ∧
      t.dev.g (pPacer n) fPaceLive = s.dev.g (pPacer n) fPaceLive ∧
      (t.dev.g (pPacer n) fPaceTarget ≠ s.dev.g (pPacer n) fPaceTarget →
        t.dev.g (pPacer n) fPaceTarget ≠ s.dev.g (pPacer n) fPaceLive →
        (t.dev.pc n).pace = some ⟨.waiting (decide (t.dev.g (pPacer n) fPaceTarget < s.dev.g (pPacer n) fPaceLive)),
          t.dev.g (pPacer n) fPaceTarget⟩ ∧ t.dev.b (pPacer n) fPaceBusy = true ∧ (t.dev.pc n).cand = none) ∧
      (t.dev.g (pPacer n) fPaceTarget = s.dev.g (pPacer n) fPaceTarget → t.dev.pacer = s.dev.pacer) := by
  have htrain : s.dev.laneState n ≠ stTrain := fun e => by rw [Dev.laneValid, e] at hvalid; cases hvalid
  have hfree : s.dev.laneValid n = true → (s.dev.pc n).pace = none := fun _ => hpace
  obtain ⟨hword, htarget, hlive⟩ := Dev.paceCfgStored_reads htrain hfree v
  have hon : (s.dev.paceCfgStored n v).life = .on := (Dev.paceCfgStored_life htrain hfree v).trans hc.1
  have hidle : (s.dev.paceCfgStored n v).b pTrial fTrBusy = false := by
    rw [Dev.b, Dev.paceCfgStored_g htrain hfree v (by decide) (by decide) (trial_le_pacer n),
      s.dev.store_g (f := fTrBusy) v (by decide)]
    exact hc.2
  refine act_settles (f := (·.paceCfgWrite w n v)) (e := (s.dev.paceCfgStored n v).answered) hc
    (Dev.paceCfgWrite_takes ht v) hon hidle fun hset => ?_
  rw [hset.rd _ _ (by decide) (by decide), hset.g _ fPaceTarget, hset.g _ fPaceMax, hset.g _ fPaceLive, hset.b _ fPaceBusy, hset.pc,
    hset.pacer]
  exact ⟨hword, htarget, hlive, Dev.paceCfgStored_begins htrain hfree v hvalid, Dev.paceCfgStored_pacer htrain hfree v⟩

/-- PACE_UNITS_READY (R107). -/
theorem paceUnitsReady_continues {l : Nat} (hc : s.calm) (hr : s.dev.runs (pPacer n))
    (hpace : (s.dev.pc n).pace = some ⟨.waiting false, l⟩) :
    Yields (exec (.paceUnitsReady n) s) fun t =>
      (t.dev.pc n).pace = some ⟨.waiting true, l⟩ ∧
      Kept s t (s.dev.updPacer n fun h => { h with pace := some ⟨.waiting true, l⟩ }) [] [] := by
  have hready : s.dev.when (s.dev.running (pPacer n)) (·.paceUnitsReady n) =
      s.dev.updPacer n fun h => { h with pace := some ⟨.waiting true, l⟩ } := by
    rw [when_runs hr, Dev.paceUnitsReady, hpace]
  have k := (DevKept.refl (ex := []) (ev := []) s.dev).updPacer n fun h => { h with pace := some ⟨.waiting true, l⟩ }
  refine k.yields hc hready rfl (by simp) fun t hset kept => ⟨?_, kept⟩
  rw [hset.pc, Dev.pc_updPacer_same]

/-- PACE_APPLIED (R106, R107). -/
theorem paceApplied_takesLevel {l : Nat} (hc : s.calm) (hr : s.dev.runs (pPacer n)) (hpace : (s.dev.pc n).pace = some ⟨.boundary, l⟩)
    (htgt : s.dev.g (pPacer n) fPaceTarget = l) (hpend : (s.dev.pc n).pend = none) :
    Yields (exec (.paceApplied n) s) fun t =>
      t.dev.g (pPacer n) fPaceLive = l ∧
      t.dev.b (pPacer n) fMlse16 = decide (3 ≤ l) ∧
      t.dev.b (pPacer n) fPaceBusy = false ∧
      t.dev.evt (pPacer n) 6 = true ∧
      Kept s t (s.dev.updPacer n fun h => { h with pace := none, cand := none }) [(pPacer n, 0x044), (pPacer n, 0x05C)]
        [(pPacer n, 6)] := by
  have happlied : s.dev.when (s.dev.running (pPacer n)) (·.paceApplied n) = (s.dev.levelTaken n l).raise (pPacer n) 6 :=
    (when_runs hr _).trans (Dev.paceApplied_last hpace htgt hpend)
  have hlive : l < 2 ^ fPaceLive.w := htgt ▸ Nat.mod_lt _ (by decide)
  have hpow : (s.dev.levelTaken n l).powered (pPacer n) = true := hr.powered
  have k0 := DevKept.refl (ex := [(pPacer n, 0x044), (pPacer n, 0x05C)]) (ev := [(pPacer n, 6)]) s.dev
  have k := (k0.levelTaken (n := n) (by simp) (by simp) l).raise (p := pPacer n) (src := 6) (by simp)
  refine k.yields hc happlied rfl (by simp) fun t hset kept => ?_
  rw [hset.g _ fPaceLive, hset.b _ fMlse16, hset.b _ fPaceBusy, hset.evt _ _ (pacer_ne_referee n), Dev.g_raise _ _ _ _ fPaceLive,
    Dev.b_raise _ _ _ _ fMlse16, Dev.b_raise _ _ _ _ fPaceBusy]
  exact ⟨s.dev.levelTaken_live n hlive, s.dev.levelTaken_mlse16 n l, s.dev.levelTaken_busy n l,
    Dev.raise_pacer_evt hpow (by decide), kept⟩

end

/-- Settles O18: a lemma a clause. The clauses of CTRL rest on `Dev.pacerCtrlWrite_takes`, which says once what a write of CTRL does, those
of PACE_CFG on `Dev.paceCfgStored_eq`. -/
theorem pacerControlAndPaceChanges : Obligations.PacerControlAndPaceChanges :=
  ⟨fun _ _ _ _ => holdReq_follows, fun _ _ _ _ => pacerAuto_adapts, fun _ _ _ _ => pacerSwap_requests, fun _ _ _ _ => pacerRestart_drops,
    fun _ _ _ _ => paceCfgWrite_idle, fun _ _ _ _ => paceCfgWrite_valid, fun _ _ _ => paceUnitsReady_continues,
    fun _ _ _ => paceApplied_takesLevel⟩

end Sys2Proof.Machine
end

section
/-! The canonical form of the memories: every effect on them keeps it, so every command and every step does (O3). -/

open Sys2Proof Sys2Proof.Machine

namespace Sys2Proof.Machine

theorem memWf_setWords (m : List Host.Cell) (a : Nat) (l : List Word) (h : memWf m = true) : memWf (memSetWords m a l) = true := by
  induction l generalizing m a with
  | nil => exact h
  | cons w t ih => exact ih _ _ (memWf_setWord m a w h)

namespace State.memOk

variable {s : State}

/-! The operations through which the memories change -/

/-- The device has no part in the form of the memories. -/
theorem dev (h : s.memOk) (d : Dev) : State.memOk { s with dev := d } := h

theorem setWord (h : s.memOk) (a : Nat) (w : Word) : (s.setWord a w).memOk := memWf_setWord _ _ _ h

theorem forget (h : s.memOk) (a n : Nat) : (s.forget a n).memOk := memWf_forget _ _ _ h

theorem copy (h : s.memOk) (src dst n : Nat) : (s.copy src dst n).memOk := memWf_copy _ _ _ _ h

theorem setBytes (h : s.memOk) (a : Nat) (l : List Byte) (d : Dev) : State.memOk { s with dev := d, mem := memSetBytes s.mem a l } :=
  memWf_setBytes _ _ _ h

theorem setWords (h : s.memOk) (a : Nat) (l : List Word) (d : Dev) : State.memOk { s with dev := d, mem := memSetWords s.mem a l } :=
  memWf_setWords _ _ _ h

theorem foldl {α : Type} {f : State → α → State} (hf : ∀ t a, t.memOk → (f t a).memOk) (h : s.memOk) (l : List α) :
    (l.foldl f s).memOk :=
  List.foldlRecOn l f h fun t ht a _ => hf t a ht

/-! Memory errors -/

theorem flip (h : s.memOk) (loc bit : Nat) : (s.flip loc bit).memOk := by
  unfold State.flip
  dsimp only
  split
  · exact h
  · refine State.memOk.dev ?_ _
    split
    · exact h
    · split
      · exact h.dev _
      · exact h.setWord _ _

theorem flipAt (h : s.memOk) (x : FlipAt) : (s.flipAt x).memOk := by
  cases x with
  | word loc bit => exact h.flip _ _
  | vote => exact h.dev _

/-! The calibration store -/

theorem storeStart (h : s.memOk) : s.storeStart.memOk := (h.dev _).forget _ _

theorem storeBegin (h : s.memOk) : s.storeBegin.memOk := by
  unfold State.storeBegin
  split_ifs
  · exact h
  · exact h.storeStart
  · exact h
  · exact h.dev _

theorem reloadStore (h : s.memOk) (v : Word) : (s.reloadStore v).memOk := by
  unfold State.reloadStore
  dsimp only
  split
  · exact h.dev _
  · split <;> exact h.dev _

theorem storeDone (h : s.memOk) (bad : List (Nat × Word)) : (s.storeDone bad).memOk := by
  unfold State.storeDone
  split
  · exact h
  · dsimp only
    split
    · exact h.setWords _ _ _
    · exact (h.setWords _ _ _).reloadStore _

theorem calCmd (h : s.memOk) (w : Who) (v : Word) : (s.calCmd w v).memOk := by
  unfold State.calCmd
  dsimp only
  split
  · split
    · exact h.dev _
    · exact (h.dev _).storeBegin
    · exact h.dev _
    · exact (h.dev _).reloadStore v
    · exact h.dev _
  · exact h.dev _

theorem calCheck (h : s.memOk) : s.calCheck.memOk := by
  unfold State.calCheck
  dsimp only
  split_ifs
  · exact h
  · exact (h.dev _).storeStart
  · exact h.dev _

theorem storeDue (h : s.memOk) : s.storeDue.memOk := by
  unfold State.storeDue
  split
  · exact h.storeBegin
  · exact h

/-! Memory tests and captures -/

theorem marchLeft (h : s.memOk) : s.marchLeft.memOk := by
  unfold State.marchLeft
  dsimp only
  split
  · exact h
  · refine h.foldl (fun t i ht => ?_) _
    split
    · exact ht.setWord _ _
    · exact ht

theorem anaStart (h : s.memOk) : s.anaStart.memOk := by
  unfold State.anaStart
  dsimp only
  split_ifs
  · exact h
  · exact h.dev _
  · exact h.dev _
  · exact h.dev _
  · exact (h.dev _).forget _ _

theorem countUp (h : s.memOk) (dest c row n : Nat) : (s.countUp dest c row n).memOk := h.setWord _ _

theorem histogram (h : s.memOk) (kind str aux dest : Nat) : (s.histogram kind str aux dest).memOk :=
  h.foldl (fun _ _ ht => ht.foldl (fun _ _ hu => hu.countUp _ _ _ _) _) _

theorem anaEnd (h : s.memOk) (eye : List (Nat × Nat × Nat)) (halt : Option (Nat × Word)) : (s.anaEnd eye halt).memOk := by
  unfold State.anaEnd
  split
  · exact h
  · cases halt with
    | some => exact h.dev _
    | none =>
      dsimp only
      refine State.memOk.dev ?_ _
      split
      · exact h.foldl (fun _ _ ht => ht.countUp _ _ _ _) _
      · exact h.histogram _ _ _ _

theorem anaCtrlWrite (h : s.memOk) (w : Who) (v : Word) : (s.anaCtrlWrite w v).memOk := by
  unfold State.anaCtrlWrite
  split
  · dsimp only
    split_ifs
    · exact ((h.dev _).forget _ _).anaStart
    · exact (h.dev _).anaStart
    · exact (h.dev _).forget _ _
    · exact h.dev _
  · exact h.dev _

theorem strDone (h : s.memOk) (str : Nat) (x : StreamData) : (s.strDone str x).memOk := h.setBytes _ _ _

theorem capDone (h : s.memOk) (xs : List StreamData) : (s.capDone xs).memOk := by
  have hdone := h.foldl (fun t str ht => ht.strDone str (xs.getD str ⟨0, []⟩)) s.dev.streams
  unfold State.capDone
  dsimp only
  split_ifs
  · exact h
  · exact (hdone.dev _).anaStart
  · exact hdone.dev _

/-! Packages and the journal -/

theorem copySlot (h : s.memOk) (slot : Nat) : (s.copySlot slot).memOk :=
  (h.setBytes _ _ _).foldl (fun _ _ ht => ht.setBytes _ _ _) _

theorem verifyEvent (h : s.memOk) (cause : Nat) : (s.verifyEvent cause).memOk := h.dev _

theorem jrnlErase (h : s.memOk) (i : Nat) : (s.jrnlErase i).memOk := by
  unfold State.jrnlErase
  split
  · exact h.forget _ _
  · exact h

theorem jrnl (h : s.memOk) (kind slot attempt cause : Nat) (bad : Bool) : (s.jrnl kind slot attempt cause bad).memOk := by
  unfold State.jrnl
  dsimp only
  split_ifs
  · exact h
  · exact h.dev _
  · exact h.dev _
  · exact (h.setBytes _ _ _).jrnlErase _

/-! Boot, restarts and reset -/

theorem loadImage (h : s.memOk) (n : Sq) : (s.loadImage n).memOk := ((h.dev _).forget _ _).copy _ _ _

theorem idleForget (h : s.memOk) : s.idleForget.memOk := ((h.forget _ _).forget _ _).dev _

theorem hold (h : s.memOk) (cause : Nat) : (s.hold cause).memOk := by
  unfold State.hold
  dsimp only
  refine State.memOk.dev ?_ _
  split
  · exact memWf_forget _ _ _ h.marchLeft
  · exact h.marchLeft

theorem startFw (h : s.memOk) (slot : Nat) (k : StartKind) : (s.startFw slot k).memOk := h.dev _

theorem tryCopy (h : s.memOk) (slot : Nat) (bad : List Nat) : (s.tryCopy slot bad).2.memOk := by
  unfold State.tryCopy
  split
  · exact h.verifyEvent _
  · exact (h.copySlot _).verifyEvent _

theorem attemptBegin (h : s.memOk) (k slot : Nat) (bad : Bool) : (s.attemptBegin k slot bad).memOk := by
  unfold State.attemptBegin
  dsimp only
  split
  · exact ((h.dev _).jrnl _ _ _ _ _).jrnl _ _ _ _ _
  · exact (h.dev _).jrnl _ _ _ _ _

theorem flashAttempt (h : s.memOk) (k : Nat) (bad : List Nat) (jbad : Bool) : (s.flashAttempt k bad jbad).memOk := by
  unfold State.flashAttempt
  dsimp only
  generalize (if k % 2 = 1 then s.dev.g pBoot fActive else 1 - s.dev.g pBoot fActive) = first
  split_ifs
  · exact ((h.attemptBegin _ _ _).tryCopy _ _).startFw _ _
  · exact (((h.attemptBegin _ _ _).tryCopy _ _).tryCopy _ _).startFw _ _
  · exact (((h.attemptBegin _ _ _).tryCopy _ _).tryCopy _ _).dev _

theorem readJournal (h : s.memOk) : s.readJournal.memOk := by
  unfold State.readJournal
  split
  · exact h
  · exact h.dev _

theorem cancelAttempt (h : s.memOk) (jbad : Bool) : (s.cancelAttempt jbad).memOk := by
  unfold State.cancelAttempt
  split
  · exact h
  · exact (h.dev _).jrnl _ _ _ _ _

theorem bootRom (h : s.memOk) (bad : List Nat) (jbad : Bool) : (s.bootRom bad jbad).memOk := by
  have hread := h.readJournal.cancelAttempt jbad
  unfold State.bootRom
  split
  · exact h
  · dsimp only
    split
    · exact hread.dev _
    · split
      · exact hread.flashAttempt _ _ _
      · exact hread.dev _

theorem accessUnless {f : State → State} (hf : ∀ {t : State}, t.memOk → (f t).memOk) (h : s.memOk) (bad : Bool) (w : Who) (p off : Nat) :
    (s.accessUnless bad w p off f).memOk := by
  unfold State.accessUnless
  generalize (if bad && (kindOf p).isSome then Status.denied else s.dev.writeStatus w p off) = e
  dsimp only
  refine State.memOk.dev ?_ _
  split
  · exact hf h
  · exact h

theorem hostLoad (h : s.memOk) (w : Who) (v : Word) : (s.hostLoad w v).memOk := by
  refine h.accessUnless (fun {t} ht => ?_) _ _ _ _
  dsimp only
  split
  · exact ht
  · split
    · exact (((ht.dev _).attemptBegin _ _ _).verifyEvent _).startFw _ _
    · exact (((ht.dev _).attemptBegin _ _ _).verifyEvent _).dev _

theorem goodAttempt (h : s.memOk) (jbad : Bool) : (s.goodAttempt jbad).memOk := by
  unfold State.goodAttempt
  dsimp only
  refine State.memOk.dev ?_ _
  split
  · exact (h.dev _).jrnl _ _ _ _ _
  · exact ((h.dev _).jrnl _ _ _ _ _).dev _

theorem bootGood (h : s.memOk) (jbad : Bool) : (s.bootGood jbad).memOk := by
  unfold State.bootGood
  split
  · split
    · exact (h.dev _).goodAttempt _
    · exact h.dev _
    · exact h.dev _
  · exact h

theorem walkExit (h : s.memOk) (jbad : Bool) : (s.walkExit jbad).memOk := by
  unfold State.walkExit
  dsimp only
  split
  · exact h
  · exact (((h.jrnl _ _ _ _ _).dev _).hold _).dev _

theorem bootCtrl (h : s.memOk) (w : Who) (v : Word) (jbad : Bool) : (s.bootCtrl w v jbad).memOk := by
  refine h.accessUnless (fun {t} ht => ?_) _ _ _ _
  dsimp only
  split_ifs
  · exact (ht.bootGood _).walkExit _
  · exact ht.walkExit _
  · exact ht.bootGood _
  · exact ht

theorem restartActive (h : s.memOk) (bad : List Nat) : (s.restartActive bad).memOk := by
  unfold State.restartActive
  dsimp only
  split
  · exact (h.tryCopy _ _).startFw _ _
  · exact (h.tryCopy _ _).dev _

theorem actFail (h : s.memOk) (cause : Nat) (bad : List Nat) : (s.actFail cause bad).memOk := (h.dev _).restartActive _

theorem bootWatchdog (h : s.memOk) (bad : List Nat) : (s.bootWatchdog bad).memOk := by
  unfold State.bootWatchdog
  split
  · exact h.dev _
  · exact h.actFail _ _
  · split
    · exact h.actFail _ _
    · exact h.dev _
  · exact h

theorem coachException (h : s.memOk) (bad : List Nat) : (s.coachException bad).memOk := by
  unfold State.coachException
  dsimp only
  split_ifs
  · exact ((h.dev _).verifyEvent _).startFw _ _
  · exact ((h.dev _).verifyEvent _).dev _
  · exact ((h.dev _).tryCopy _ _).startFw _ _
  · exact ((h.dev _).tryCopy _ _).actFail _ _
  · exact (h.dev _).restartActive _

theorem coachRead (h : s.memOk) (loc : Nat) (bad : List Nat) : (s.coachRead loc bad).memOk := by
  unfold State.coachRead
  dsimp only
  split
  · exact (h.dev _).coachException _
  · exact h.dev _

theorem resetAssert (h : s.memOk) (power : Bool) : (s.resetAssert power).memOk := by
  unfold State.resetAssert
  split
  · exact h
  · split
    · exact h.dev _
    · exact h
  · dsimp only
    split_ifs
    · exact (((h.hold _).forget _ _).forget _ _).forget _ _
    · exact h.hold _

theorem resetRelease (h : s.memOk) (sel : Fin 4) (addr : Fin 64) : (s.resetRelease sel addr).memOk := by
  unfold State.resetRelease
  split
  · exact h.dev _
  · exact h

theorem vaonLoss (h : s.memOk) : s.vaonLoss.memOk := ((((h.forget _ _).forget _ _).forget _ _).forget _ _).dev _

theorem vaonUp (h : s.memOk) : s.vaonUp.memOk := by
  unfold State.vaonUp
  split
  · exact h.dev _
  · exact h

theorem railFault (h : s.memOk) : s.railFault.memOk := by
  unfold State.railFault
  split
  · exact h.dev _
  · exact h

/-! The command service, NVM and the life cycle -/

theorem serve {f : State → State} (hf : ∀ {t : State}, t.memOk → (f t).memOk) (h : s.memOk) (c : Fin 2) (op : Nat) :
    (s.serve c op f).memOk := by
  unfold State.serve
  dsimp only
  split_ifs
  · exact h
  · exact hf h
  · exact h.dev _
  · exact h

theorem verifySlot (h : s.memOk) (c : Nat) (bad : List Nat) : (s.verifySlot c bad).memOk := by
  unfold State.verifySlot
  dsimp only
  split <;> exact h.dev _

theorem activate (h : s.memOk) (c : Nat) (bad : List Nat) (jbad : Bool) : (s.activate c bad jbad).memOk := by
  unfold State.activate
  dsimp only
  split_ifs
  · exact h.dev _
  · exact h.dev _
  · exact h.dev _
  · exact (((h.jrnl _ _ _ _ _).dev _).tryCopy _ _).startFw _ _
  · exact (((h.jrnl _ _ _ _ _).dev _).tryCopy _ _).actFail _ _

theorem confirm (h : s.memOk) (c : Nat) (jbad : Bool) : (s.confirm c jbad).memOk := by
  unfold State.confirm
  dsimp only
  split
  · exact h.dev _
  · exact ((h.dev _).jrnl _ _ _ _ _).dev _

theorem flashEnd (h : s.memOk) (a : Nat) (now want : List Byte) : (s.flashEnd a now want).memOk := h.setBytes _ _ _

theorem nvmDone (h : s.memOk) (held : Option (List Byte)) : (s.nvmDone held).memOk := by
  unfold State.nvmDone
  split
  · exact h
  · exact h.flashEnd _ _ _
  · exact h.flashEnd _ _ _
  · exact h.dev _
  · exact h.dev _

theorem nvmTimeout (h : s.memOk) (held : List Byte) : (s.nvmTimeout held).memOk := by
  unfold State.nvmTimeout
  split
  · exact h.setBytes _ _ _
  · exact h.setBytes _ _ _
  · exact h

theorem lcCheck (h : s.memOk) (target slot : Nat) (bad : List Nat) : (s.lcCheck target slot bad).2.memOk := by
  unfold State.lcCheck
  dsimp only
  repeat' split
  all_goals exact h

theorem lcReq (h : s.memOk) (w : Who) (v : Word) (bad : List Nat) : (s.lcReq w v bad).memOk := by
  refine h.accessUnless (fun {t} ht => ?_) _ _ _ _
  dsimp only
  split_ifs
  · exact ht.dev _
  · exact ht.dev _
  · exact ((ht.dev _).lcCheck _ _ _).dev _
  · exact ((ht.dev _).lcCheck _ _ _).dev _

/-! Power states -/

theorem saveWrite (h : s.memOk) : s.saveWrite.memOk := h.setWords _ _ _

theorem saveApply (h : s.memOk) (l : List Word) : (s.saveApply l).memOk := ((h.dev _).setWord _ _).dev _

theorem idleEnter (h : s.memOk) : s.idleEnter.memOk := by
  unfold State.idleEnter
  exact (State.memOk.idleForget (h.dev _)).dev _

theorem dozeEnter (h : s.memOk) : s.dozeEnter.memOk := by
  unfold State.dozeEnter
  exact ((((h.saveWrite).forget _ _).forget _ _).forget _ _).dev _

theorem sleepResponse (h : s.memOk) : s.sleepResponse.memOk := by
  unfold State.sleepResponse
  dsimp only
  split
  · exact h
  · split_ifs
    · exact h.dev _
    · exact h.idleEnter
    · exact h.dozeEnter
    · exact h.dev _

theorem wakeRestore (h : s.memOk) : s.wakeRestore.memOk := by
  unfold State.wakeRestore
  dsimp only
  split
  · exact h
  · split
    · exact ((h.dev _).saveApply _).dev _
    · exact h.dev _

/-! Accesses and DMA -/

theorem regWrite (h : s.memOk) (w : Who) (p off : Nat) (v : Word) (x : Facts) : (s.regWrite w p off v x).memOk := by
  unfold State.regWrite
  split_ifs
  · exact h.calCmd _ _
  · exact h.anaCtrlWrite _ _
  · exact h.bootCtrl _ _ _
  · exact h.hostLoad _ _
  · exact h.lcReq _ _ _
  · exact h.dev _

theorem answer (h : s.memOk) (e : Status) (data : List Word) : (s.answer e data).memOk := h.dev _

theorem touch (h : s.memOk) (w : Who) (a : Nat) (read : Bool) : (s.touch w a read).memOk := h.dev _

theorem memRead (h : s.memOk) (w : Who) (a : Nat) (size : Size) (bad : List Nat) : (s.memRead w a size bad).memOk := by
  unfold State.memRead
  dsimp only
  generalize (if s.dev.badWord a then Status.uncorr else Status.ok) = e
  split_ifs
  · exact h.answer _ _
  · exact ((h.touch _ _ _).answer _ _).coachException _
  · exact (h.touch _ _ _).answer _ _

theorem memWrite (h : s.memOk) (w : Who) (a : Nat) (size : Size) (v : Word) : (s.memWrite w a size v).memOk := by
  unfold State.memWrite
  dsimp only
  split_ifs
  · exact h.answer _ _
  · exact ((h.touch _ _ _).setWord _ _).answer _ _
  · exact (h.touch _ _ _).answer _ _
  · exact ((h.touch _ _ _).setWord _ _).answer _ _

theorem busRead (h : s.memOk) (w : Who) (addr : Nat) (size : Size) (bad : List Nat) : (s.busRead w addr size bad).memOk := by
  unfold State.busRead
  dsimp only
  split
  · split_ifs
    · exact h.answer _ _
    · exact h.answer _ _
    · exact h.dev _
  · split
    · exact h.answer _ _
    · exact h.memRead _ _ _ _

theorem busWrite (h : s.memOk) (w : Who) (addr : Nat) (size : Size) (v : Word) (x : Facts) : (s.busWrite w addr size v x).memOk := by
  unfold State.busWrite
  dsimp only
  split
  · split_ifs
    · exact h.answer _ _
    · exact h.answer _ _
    · exact h.regWrite _ _ _ _ _
  · split
    · exact h.answer _ _
    · exact h.memWrite _ _ _ _

theorem engineOutcome (h : s.memOk) (w : Who) (addr pc : Word) : (s.engineOutcome w addr pc).memOk := by
  unfold State.engineOutcome
  dsimp only
  split
  · exact h
  · split
    · exact h
    · exact h.dev _
    · exact h.dev _

theorem masterWrite (h : s.memOk) (w : Who) (addr : Word) (size : Size) (v : Word) (x : Facts) :
    (s.masterWrite w addr size v x).memOk := by
  unfold State.masterWrite
  split
  · exact h.dev _
  · exact (h.busWrite _ _ _ _ _).engineOutcome _ _ _

theorem masterRead (h : s.memOk) (w : Who) (addr : Word) (size : Size) (pc : Word) (bad : List Nat) :
    (s.masterRead w addr size pc bad).memOk := by
  unfold State.masterRead
  split
  · exact h.dev _
  · exact (h.busRead _ _ _ _).engineOutcome _ _ _

theorem demand (h : s.memOk) (c : Consumer) (bad : List Nat) : (s.demand c bad).memOk := by
  cases c with
  | master => exact h.masterRead ..
  | fetch =>
    unfold State.demand
    dsimp only
    split_ifs
    · exact h
    · exact h.dev _
    · exact h.dev _
  | hardware =>
    unfold State.demand
    dsimp only
    split
    · split
      · exact h.dev _
      · exact h
    · exact h

theorem dmaWord (h : s.memOk) (n : Sq) (c : Fin 4) (src dst : Nat) : (s.dmaWord n c src dst).1.memOk := by
  have hread := h.busRead (dmaWho n c) src .word []
  unfold State.dmaWord
  dsimp only
  split
  · split
    · exact hread.busWrite _ _ _ _ _
    · exact (hread.busWrite _ _ _ _ _).dev _
  · exact hread.dev _
  · exact hread.dev _

theorem dmaTransfer (h : s.memOk) (n : Sq) (c : Fin 4) (m : DmaMove) : (s.dmaTransfer n c m).memOk := by
  unfold State.dmaTransfer
  split
  · exact h
  · refine State.memOk.dev ?_ _
    refine List.foldlRecOn (motive := fun r : State × Bool => r.1.memOk) _ _ h fun r hr x _ => ?_
    split
    · exact hr.dmaWord _ _ _ _
    · exact hr

/-! The management links -/

theorem frameWrite (h : s.memOk) (w : Who) (addr : Word) (ws : List Word) (x : Facts) : (s.frameWrite w addr ws x).1.memOk :=
  List.foldlRecOn (motive := fun t : State × FrameRun => t.1.memOk) _ _ h fun _ ht _ _ => ht.busWrite _ _ _ _ _

theorem frameRead (h : s.memOk) (w : Who) (addr : Word) (n : Nat) : (s.frameRead w addr n).1.memOk :=
  List.foldlRecOn (motive := fun t : State × FrameRun => t.1.memOk) _ _ h fun _ ht _ _ => ht.busRead _ _ _ _

theorem spiWrite (h : s.memOk) (hd : SpiHead) (ws : List Word) (cut : Bool) (x : Facts) : (s.spiWrite hd ws cut x).memOk := by
  unfold State.spiWrite
  dsimp only
  split_ifs
  · exact h
  · exact h.dev _
  · exact (h.frameWrite _ _ _ _).dev _

theorem spiRead (h : s.memOk) (hd : SpiHead) (cut late : Option Nat) : (s.spiRead hd cut late).memOk := by
  unfold State.spiRead
  dsimp only
  split
  · exact h
  · split
    · exact h.dev _
    · refine State.memOk.dev ?_ _
      split
      · exact (h.frameRead _ _ _).busRead _ _ _ _
      · exact h.frameRead _ _ _

theorem batonServe (h : s.memOk) (typ : Nat) (f : BatonFrame) (x : Facts) : (s.batonServe typ f x).memOk := by
  unfold State.batonServe
  dsimp only
  split
  · exact h.dev _
  · split
    · exact ((h.dev _).frameWrite _ _ _ _).dev _
    · split
      · exact h.dev _
      · exact ((h.dev _).frameRead _ _ _).dev _

theorem batonRequest (h : s.memOk) (typ : Nat) (f : BatonFrame) (x : Facts) : (s.batonRequest typ f x).memOk := by
  unfold State.batonRequest
  split_ifs
  · exact h
  · exact h.dev _
  · exact h.dev _
  · exact h.dev _
  · exact h
  · exact h.batonServe _ _ _

end State.memOk

/-! Every command, and the step -/

theorem actState_memOk {s t : State} {f : State → State} (hf : ∀ {u : State}, u.memOk → (f u).memOk) (hs : s.memOk)
    (h : actState s f = .next t) : t.memOk :=
  actState_keeps h hs (hf hs) fun _ d hu => hu.dev d

theorem actStateOn_memOk {p : Nat} {s t : State} {f : State → State} (hf : ∀ {u : State}, u.memOk → (f u).memOk) (hs : s.memOk)
    (h : actStateOn p s f = .next t) : t.memOk :=
  actState_memOk (fun {u} hu => by split; exacts [hf hu, hu]) hs h

theorem memOk_of_mem_eq {s t : State} (h : t.mem = s.mem) (hs : s.memOk) : t.memOk := by
  rw [State.memOk, h]
  exact hs

theorem execReloadStart_memOk {n : Sq} {s t : State} (hs : s.memOk) (h : execReloadStart n s = .next t) : t.memOk := by
  refine actStateOn_memOk (fun {u} hu => ?_) hs h
  dsimp only
  split
  · split
    · exact (hu.dev _).loadImage _
    · exact hu.dev _
  · exact hu

theorem execReloadVerify_memOk {n : Sq} {id : Word} {s t : State} (hs : s.memOk) (h : execReloadVerify n id s = .next t) : t.memOk := by
  refine actStateOn_memOk (fun {u} hu => ?_) hs h
  split_ifs
  · exact hu.dev _
  · exact (hu.dev _).forget _ _
  · exact hu

/-- Every command keeps the memories in their canonical form. A command that acts on the device alone, or on pins, does not touch them;
for one that acts on the memories its effect keeps the form. -/
theorem exec_memOk {c : Instr} {s t : State} (hs : s.memOk) (h : exec c s = .next t) : t.memOk := by
  cases c with
  | regWrite => exact actState_memOk (·.masterWrite ..) hs h
  | shadowWrite | wideWriteLo | wideWriteHi => exact actState_memOk (·.regWrite ..) hs h
  | dmaTransfer => exact actStateOn_memOk (·.dmaTransfer ..) hs h
  | reloadStart => exact execReloadStart_memOk hs h
  | reloadVerify => exact execReloadVerify_memOk hs h
  | capDone => exact actStateOn_memOk (·.capDone ..) hs h
  | anaGo | anaClear => exact actState_memOk (·.anaCtrlWrite ..) hs h
  | anaEnd => exact actStateOn_memOk (·.anaEnd ..) hs h
  | calTempCheck => exact actStateOn_memOk (·.calCheck) hs h
  | calCmdRun | store | restorePrev | reloadStore => exact actState_memOk (·.calCmd ..) hs h
  | storeDue => exact actStateOn_memOk (·.storeDue) hs h
  | storeWriteDone => exact actStateOn_memOk (·.storeDone ..) hs h
  | hostMemoryRead => exact actState_memOk (·.demand ..) hs h
  | coachMemoryException => exact actState_memOk (·.coachRead ..) hs h
  | spiWrite => exact actState_memOk (·.spiWrite ..) hs h
  | spiRead => exact actState_memOk (·.spiRead ..) hs h
  | batonWrite | batonRead | batonPoll => exact actState_memOk (·.batonRequest ..) hs h
  | sleepGroupResponse => exact actState_memOk (·.sleepResponse) hs h
  | wakeRestore => exact actState_memOk (·.wakeRestore) hs h
  | bootAttempt => exact actState_memOk (·.bootRom ..) hs h
  | hostLoad => exact actState_memOk (·.hostLoad ..) hs h
  | bootGood | walkExit => exact actState_memOk (·.bootCtrl ..) hs h
  | bootWatchdog => exact actState_memOk (·.bootWatchdog ..) hs h
  | ident | attest => exact actState_memOk (fun hu => hu.serve (by intro v hv; exact hv.dev _) _ _) hs h
  | verifySlot => exact actState_memOk (·.serve (·.verifySlot ..) ..) hs h
  | activate => exact actState_memOk (·.serve (·.activate ..) ..) hs h
  | confirm => exact actState_memOk (·.serve (·.confirm ..) ..) hs h
  | nvmOpDone => exact actState_memOk (·.nvmDone ..) hs h
  | nvmTimeout => exact actState_memOk (·.nvmTimeout ..) hs h
  | lcReq => exact actState_memOk (·.lcReq ..) hs h
  | memoryBitFlip => exact actState_memOk (·.flipAt ..) hs h
  | dacClrNFall | dacClrNRise | alarm | xtalFail | xtalOk | vioLow | vioOk | tapInstruction | tapReset =>
    dsimp only [exec] at h; exact memOk_of_mem_eq (actPin_keeps h).1 hs
  | vaonPowerUp => cases h; exact hs.vaonUp
  | resetAssert power => cases h; exact hs.resetAssert power
  | resetRelease sel addr => cases h; exact hs.resetRelease sel addr
  | railFault => cases h; exact hs.railFault
  | vaonLoss => cases h; exact hs.vaonLoss
  | _ => dsimp only [exec] at h; exact memOk_of_mem_eq (act_keeps h).1 hs

theorem idleTick_mem {s t : State} (h : idleTick s = .next t) : t.mem = s.mem := (actPin_keeps h).1

/-- Settles O3: every command keeps the form (`exec_memOk`), and the tick of an empty queue touches no memory. -/
theorem stepKeepsMemoriesCanonical : Obligations.StepKeepsMemoriesCanonical := by
  intro s t hs h
  unfold step at h
  split at h
  case h_1 => exact memOk_of_mem_eq (idleTick_mem h) hs
  case h_2 c rest _ => exact exec_memOk (s := { s with pending := rest }) hs h

end Sys2Proof.Machine
end

section
/-! Accesses to the register pages (O59). -/

open Sys2Proof Sys2Proof.Machine

namespace Sys2Proof.Machine

/-- A running device with one word listed at 0xFFC of INTC, above the last register of the page. -/
def wordAboveLast : State := { State.reset with dev := { Dev.reset with life := .on, regs := [(regKey 0x04 0xFFC, 5)] } }

theorem exec_hostMemoryRead (c : Consumer) (bad : List (Fin 2)) (s : State) :
    exec (.hostMemoryRead c bad) s = actState s (·.demand c (bad.map (·.val))) := rfl

/-- The Coach's read of the last word of the page answers the word that is listed there. -/
theorem wordAboveLast_read :
    (wordAboveLast.demand (.master ⟨0, 0, false⟩ (BitVec.ofNat 32 (regAddr 0x04 0xFFC)) .word 0) []).dev.settle.resp = ⟨.ok, [5]⟩ := by
  decide +kernel

/-- Refutes O59: the clause on a read above the last register of a page asks for the answer 0 in every state, but a read there answers
what the table of the registers lists (`Dev.peek`), and no hypothesis says that the table lists registers only. No write puts a word there
(`storeWord` keeps what is there); in a state that has one, the read answers it. The other clauses play no part. -/
theorem not_registerPageAccesses : ¬ Obligations.RegisterPageAccesses := by
  rintro ⟨-, -, -, -, -, hread⟩
  have hcalm : wordAboveLast.calm := by decide +kernel
  have hshows : wordAboveLast.dev.shows ⟨0, 0, false⟩ 0x04 0xFFC := by decide +kernel
  have hnone : ∀ o : Fin 1024, 1023 ≤ o.val → regSpec 0x04 (4 * o.val) = none := fun o ho => by
    have ho : o.val = 1023 := by omega
    rw [ho]; decide
  obtain ⟨t, ht, hresp, -⟩ := hread wordAboveLast ⟨0, 0, false⟩ 0x04 1023 0 [] hcalm hnone hshows
  rw [exec_hostMemoryRead, actState_on _ _ hcalm.1] at ht
  rw [← Host.Outcome.next.inj ht] at hresp
  exact absurd (wordAboveLast_read.symm.trans hresp) (by decide)

end Sys2Proof.Machine
end

section
/-! What `DevKept` says of the operations that the mode commit and the wide values use, and of effects that reach no register. -/

open Sys2Proof Sys2Proof.Machine

namespace Sys2Proof.Machine

/-- An event of a page on which the Referee raises none sets its EVT_STATUS bit (R43). -/
theorem Dev.raise_evt_same {d : Dev} {p src : Nat} (hp : d.powered p = true) (hs : src < sourcesOf p) (h32 : src < 32)
    (hq : ¬ refereePage p) : (d.raise p src).evt p src = true := by
  unfold Dev.raise
  rw [if_pos (by simp [hs, hp])]
  dsimp only
  split
  · exact (Dev.referee_evt _ p src false hq src).trans (d.setEvt_evt_same p h32)
  · exact d.setEvt_evt_same p h32

/-- An effect that reaches no register keeps every register. -/
theorem DevKept.of_regs {ex ev : List (Nat × Nat)} {d e : Dev} (h : e.regs = d.regs) : DevKept ex ev d e e := by
  have hrd : ∀ p off, e.rd p off = d.rd p off := fun p off => by rw [Dev.rd, h, ← Dev.rd]
  exact ⟨fun p off _ _ _ => hrd p off, fun p src _ _ => congrArg (·.getLsbD src) (hrd p 0x010), rfl⟩

/-- A command whose effect reaches no register leaves every register alone. -/
theorem yields_of_regs {s : State} {f : Dev → Dev} {e : Dev} {P : State → Prop} (hc : s.calm) (he : f s.dev = e)
    (hregs : e.regs = s.dev.regs) (hlife : e.life = s.dev.life) (hP : ∀ t : State, Kept s t e [] [] → P t) : Yields (act s f) P :=
  (DevKept.of_regs hregs).yields hc he hlife List.not_mem_nil fun t _ kept => hP t kept

/-- An effect on the device alone is what `act` makes of it. -/
theorem actState_dev {s : State} {f : State → State} {g : Dev → Dev} (h : f s = { s with dev := g s.dev }) : actState s f = act s g := by
  unfold actState act
  rw [h]

namespace Kept

variable {s t : State} {d : Dev} {ex ev : List (Nat × Nat)}

theorem resp (k : Kept s t d ex ev) : t.dev.resp = d.resp := (congrArg Dev.resp k.hidden :)

theorem wideR (k : Kept s t d ex ev) : t.dev.wideR = d.wideR := (congrArg Dev.wideR k.hidden :)

theorem wideW (k : Kept s t d ex ev) : t.dev.wideW = d.wideW := (congrArg Dev.wideW k.hidden :)

theorem tk (k : Kept s t d ex ev) : t.dev.tk = d.tk := (congrArg Dev.tk k.hidden :)

theorem live (k : Kept s t d ex ev) : t.dev.live = d.live := (congrArg Dev.live k.hidden :)

theorem commit (k : Kept s t d ex ev) : t.dev.commit = d.commit := (congrArg Dev.commit k.hidden :)

theorem unapplied (k : Kept s t d ex ev) : t.dev.unapplied = d.unapplied := (congrArg Dev.unapplied k.hidden :)

end Kept

end Sys2Proof.Machine
end

section
/-! Wide values: the read shadow that a read of the low word fills, and the write shadow from which a write of the high word takes its
low word (O10). -/

open Sys2Proof Sys2Proof.Machine

namespace Sys2Proof.Machine

/-! Reads -/

/-- With no memory error listed, no word reads uncorrectable, and none is corrected. -/
theorem Dev.eccAt_clean {d : Dev} (h : d.ecc = []) (loc : Nat) : (d.eccAt loc).uncorr = false ∧ (d.eccAt loc).corr = false := by
  have he : d.eccAt loc = ⟨0, false⟩ := by rw [Dev.eccAt, h]; rfl
  rw [he]
  decide

/-- With no memory error listed, a demand read changes nothing (R315). -/
theorem Dev.demandRead_clean {d : Dev} (h : d.ecc = []) (loc master : Nat) : d.demandRead loc master = d := by
  obtain ⟨hu, hc⟩ := Dev.eccAt_clean h loc
  unfold Dev.demandRead
  simp only [hu, hc, Bool.false_eq_true, if_false]
  split <;> rfl

/-- With no voted word in disagreement, the read of a voted word repairs none (R323). -/
theorem Dev.voteRead_agreed {d : Dev} (h : d.votes = []) (i : Nat) : d.voteRead i = d := by
  unfold Dev.voteRead
  rw [h]
  exact if_pos ⟨rfl, rfl⟩

theorem Dev.latchHi_keeps {α : Type} (π : Dev → α) (h : ∀ (d : Dev) w x, π (d.setReadShadow w x) = π d) (d : Dev) (w : Who) (p off : Nat) :
    π (d.latchHi w p off) = π d := Dev.when_keeps π (h _ _ _) _

/-- Where no word is in error and no Time trial run is in progress, a read of a register does no more than latch. -/
theorem Dev.readEffects_latch {d : Dev} (hecc : d.ecc = []) (hv : d.votes = []) (ht : d.b pTrial fTrBusy = false) (w : Who) (p off : Nat) :
    d.readEffects w p off = d.latchHi w p off := by
  have hecc' : (d.latchHi w p off).ecc = [] := (Dev.latchHi_keeps Dev.ecc (fun _ _ _ => rfl) ..).trans hecc
  have hv' : (d.latchHi w p off).votes = [] := (Dev.latchHi_keeps Dev.votes (fun _ _ _ => rfl) ..).trans hv
  have ht' : (d.latchHi w p off).b pTrial fTrBusy = false := (Dev.latchHi_keeps (·.b pTrial fTrBusy) (fun _ _ _ => rfl) ..).trans ht
  have hquiet : ((d.latchHi w p off).when (w.mid.val != 3) (·.trialAccess (regAddr p off))).when (regSpec p off).isSome
      (·.demandRead (regAddr p off) w.mid.val) = d.latchHi w p off := by
    simp only [Dev.when, Dev.trialAccess_idle ht', ite_self, Dev.demandRead_clean hecc']
  unfold Dev.readEffects
  dsimp only
  rw [hquiet]
  split
  · exact Dev.voteRead_agreed hv' _
  · rfl

/-- No LOCK is a word of a wide value. -/
theorem Dev.page_ne_locks_of_wideLo {d : Dev} {p off : Nat} (h : d.wideLo p off = true) : p ≠ pLocks := by
  rintro rfl
  cases h

/-- An accepted read of a register that is no LOCK answers its word and latches. -/
theorem Dev.regRead_shows {d : Dev} {w : Who} {p off : Nat} (hp : p ≠ pLocks) (hs : d.shows w p off) (hecc : d.ecc = [])
    (hv : d.votes = []) (ht : d.b pTrial fTrBusy = false) :
    d.regRead w p off = { d.latchHi w p off with resp := ⟨.ok, [d.readWord w p off]⟩ } := by
  unfold Dev.regRead
  rw [if_neg fun h => hp h.1, show d.readStatus w p off = .ok from hs]
  simp only [(Dev.eccAt_clean hecc _).1, Bool.false_and, Bool.false_eq_true, if_false, Dev.readEffects_latch hecc hv ht]

/-- The word of a register that is no high word is what it shows. -/
theorem Dev.readWord_of_not_hi {d : Dev} {p off : Nat} (h : d.wideLo p (off - 4) = false) (w : Who) : d.readWord w p off = d.peek p off := by
  unfold Dev.readWord
  rw [if_neg (by simp [h])]

theorem Dev.readShadow_setReadShadow (d : Dev) (w : Who) (x : WideShadow) : (d.setReadShadow w x).readShadow w = x :=
  tabGet_set_same wideBlank _ _ _

theorem Dev.readShadow_congr {d e : Dev} (h : e.wideR = d.wideR) (w : Who) : e.readShadow w = d.readShadow w := by
  rw [Dev.readShadow, h, Dev.readShadow]

section
variable {s : State} {w : Who}

/-- WIDE_READ_LO (R49). -/
theorem wideReadLo_latches {p : Fin 256} {r : Fin 1024} (hc : s.calm) (hw : s.dev.wideLo p.val (4 * r.val) = true)
    (hs : s.dev.shows w p.val (4 * r.val)) (hecc : s.dev.ecc = []) (hv : s.dev.votes = [])
    (hlo : s.dev.wideLo p.val (4 * r.val - 4) = false) : Yields (exec (.wideReadLo w p r) s) fun t =>
      t.dev.resp = ⟨.ok, [s.dev.peek p.val (4 * r.val)]⟩ ∧
      t.dev.readShadow w = some (regAddr p.val (4 * r.val), s.dev.peek p.val (4 * r.val + 4)) ∧
      Kept s t { s.dev with resp := t.dev.resp, wideR := t.dev.wideR } [] [] := by
  have hread := Dev.regRead_shows (Dev.page_ne_locks_of_wideLo hw) hs hecc hv hc.2
  rw [Dev.readWord_of_not_hi hlo, Dev.latchHi, Dev.when, if_pos hw] at hread
  refine yields_of_regs (f := (·.regRead w p.val (4 * r.val))) hc hread rfl rfl fun t kept => ?_
  rw [kept.resp, kept.wideR, Dev.readShadow_congr kept.wideR]
  exact ⟨rfl, s.dev.readShadow_setReadShadow w (some (regAddr p.val (4 * r.val), s.dev.peek p.val (4 * r.val + 4))), kept⟩

/-- WIDE_READ_HI (R49). -/
theorem wideReadHi_answers {p : Fin 256} {r : Fin 1024} (hc : s.calm) (hlo : s.dev.wideLo p.val (4 * r.val - 4) = true)
    (hr : 0x040 < 4 * r.val) (hw : s.dev.wideLo p.val (4 * r.val) = false) (hs : s.dev.shows w p.val (4 * r.val))
    (hecc : s.dev.ecc = []) (hv : s.dev.votes = []) : Yields (exec (.wideReadHi w p r) s) fun t =>
      t.dev.resp = ⟨.ok, [match s.dev.readShadow w with
        | some (a, x) => if a = regAddr p.val (4 * r.val - 4) then x else s.dev.peek p.val (4 * r.val)
        | none => s.dev.peek p.val (4 * r.val)]⟩ ∧
      Kept s t { s.dev with resp := t.dev.resp } [] [] := by
  have hread := Dev.regRead_shows (Dev.page_ne_locks_of_wideLo hlo) hs hecc hv hc.2
  rw [Dev.readWord, if_pos ⟨hr, hlo⟩, Dev.latchHi, Dev.when, if_neg (by simp [hw])] at hread
  refine yields_of_regs (f := (·.regRead w p.val (4 * r.val))) hc hread rfl rfl fun t kept => ?_
  rw [kept.resp]
  exact ⟨rfl, kept⟩

end

/-! Writes -/

theorem Dev.heldLo_congr {d e : Dev} (h : e.wideW = d.wideW) (w : Who) (a : Nat) : e.heldLo w a = d.heldLo w a := by
  rw [Dev.heldLo, Dev.writeShadow, h, Dev.heldLo, Dev.writeShadow]

theorem Dev.writeShadow_setWriteShadow (d : Dev) (w : Who) (x : WideShadow) : (d.setWriteShadow w x).writeShadow w = x :=
  tabGet_set_same wideBlank _ _ _

theorem Dev.heldLo_setWriteShadow (d : Dev) (w : Who) (a : Nat) (v : Word) : (d.setWriteShadow w (some (a, v))).heldLo w a = some v := by
  rw [Dev.heldLo, Dev.writeShadow_setWriteShadow]
  exact if_pos rfl

/-- A release touches the write shadow of the writer and nothing else. -/
theorem Dev.releaseLo_eq (d : Dev) (w : Who) (a : Nat) : d.releaseLo w a = { d with wideW := (d.releaseLo w a).wideW } := by
  unfold Dev.releaseLo Dev.when
  split <;> rfl

theorem Dev.heldLo_releaseLo (d : Dev) (w : Who) (a : Nat) : (d.releaseLo w a).heldLo w a = none := by
  unfold Dev.releaseLo Dev.when
  split
  · rw [Dev.heldLo, Dev.writeShadow_setWriteShadow]
  · rename_i h
    exact Option.not_isSome_iff_eq_none.mp h

theorem DevKept.wideW {ex ev : List (Nat × Nat)} {d h e : Dev} (k : DevKept ex ev d h e) : e.wideW = h.wideW :=
  (congrArg Dev.wideW k.hidden :)

theorem DevKept.releaseLo {ex ev : List (Nat × Nat)} {d h e : Dev} (k : DevKept ex ev d h e) (w : Who) (a : Nat) :
    DevKept ex ev d (h.releaseLo w a) (e.releaseLo w a) := by
  have hset : DevKept ex ev d (h.setWriteShadow w none) (e.setWriteShadow w none) :=
    ⟨k.regs, k.events, by
      unfold Dev.setWriteShadow
      rw [k.wideW]
      exact congrArg (fun x : Dev => { x with wideW := tabSet wideBlank (wideKey w) none h.wideW }) k.hidden⟩
  unfold Dev.releaseLo Dev.when
  rw [Dev.heldLo_congr k.wideW]
  split
  · exact hset
  · exact k

/-- A write to one of the words of TK_TIME and ALARM goes through the write shadow (R390). -/
theorem State.regWrite_wide {s : State} {w : Who} {off : Nat} {v : Word} {e : Dev} (ho : 0x040 ≤ off)
    (h : s.dev.wideWrite w off v = some e) (x : Facts) : s.regWrite w pTk off v x = { s with dev := e } := by
  have hreg : s.dev.regWrite w pTk off v x = (s.dev.wideWrite w off v).getD (s.dev.plainWrite w pTk off v) := by
    rw [Dev.regWrite, if_neg (by omega)]; rfl
  unfold State.regWrite
  rw [hreg, h]; rfl

theorem Dev.wideWrite_lo {off : Nat} (h : off = 0x048 ∨ off = 0x058) (d : Dev) (w : Who) (v : Word) :
    d.wideWrite w off v = some (d.writeLo w pTk off v) := if_pos h

theorem Dev.wideWrite_tkHi (d : Dev) (w : Who) (v : Word) :
    d.wideWrite w 0x04C v = some (d.writeHi w pTk 0x048 v d.tk.lo Dev.tkSet) := rfl

theorem Dev.writeLo_takes {d : Dev} {w : Who} {p off : Nat} (h : d.takes w p off) (v : Word) :
    d.writeLo w p off v = (d.setWriteShadow w (some (regAddr p off, v))).answered := access_takes _ _ _ _ _ h

theorem Dev.writeHi_takes {d : Dev} {w : Who} {p off : Nat} (h : d.takes w p (off + 4)) (v lo : Word) (f : Dev → Long → Dev) :
    d.writeHi w p off v lo f =
      (f d (Long.ofWords ((d.heldLo w (regAddr p off)).getD lo) v)).answered.releaseLo w (regAddr p off) := by
  rw [Dev.writeHi, access_takes _ _ _ _ _ h]; rfl

theorem exec_wideWriteLo (w : Who) (p : Fin 256) (r : Fin 1024) (v : Word) (s : State) :
    exec (.wideWriteLo w p r v) s = actState s (·.regWrite w p.val (4 * r.val) v noFacts) := rfl

theorem exec_wideWriteHi (w : Who) (p : Fin 256) (r : Fin 1024) (v : Word) (s : State) :
    exec (.wideWriteHi w p r v) s = actState s (·.regWrite w p.val (4 * r.val) v noFacts) := rfl

section
variable {s : State} {w : Who} {v : Word}

/-- WIDE_WRITE_LO (R51). -/
theorem wideWriteLo_holds {r : Fin 1024} (hc : s.calm) (hr : r.val = 0x12 ∨ r.val = 0x16) (ht : s.dev.takes w pTk (4 * r.val)) :
    Yields (exec (.wideWriteLo w 0x05 r v) s) fun t =>
      t.dev.heldLo w (regAddr pTk (4 * r.val)) = some v ∧ Kept s t { s.dev.answered with wideW := t.dev.wideW } [] [] := by
  have hexec : exec (.wideWriteLo w 0x05 r v) s = act s (·.writeLo w pTk (4 * r.val) v) :=
    (exec_wideWriteLo w 0x05 r v s).trans <| actState_dev (g := (·.writeLo w pTk (4 * r.val) v)) <|
      State.regWrite_wide (by omega) (s.dev.wideWrite_lo (by omega) w v) noFacts
  rw [hexec]
  refine yields_of_regs hc (Dev.writeLo_takes ht v) rfl rfl fun t kept => ?_
  rw [Dev.heldLo_congr kept.wideW, kept.wideW]
  exact ⟨s.dev.heldLo_setWriteShadow w _ v, kept⟩

/-- WIDE_WRITE_HI of TK_TIME (R51, R385). -/
theorem wideWriteHi_setsTime (hc : s.calm) (ht : s.dev.takes w pTk 0x04C) : Yields (exec (.wideWriteHi w 0x05 0x13 v) s) fun t =>
      t.dev.tk = Long.ofWords ((s.dev.heldLo w (regAddr pTk 0x048)).getD s.dev.tk.lo) v ∧
      t.dev.heldLo w (regAddr pTk 0x048) = none ∧
      t.dev.evt pTk 5 = true ∧
      Kept s t { s.dev.answered with tk := t.dev.tk, wideW := t.dev.wideW } [] [(pTk, 5)] := by
  have hexec : exec (.wideWriteHi w 0x05 0x13 v) s = act s fun d => d.writeHi w pTk 0x048 v d.tk.lo Dev.tkSet :=
    (exec_wideWriteHi w 0x05 0x13 v s).trans <| actState_dev (g := fun d => d.writeHi w pTk 0x048 v d.tk.lo Dev.tkSet) <|
      State.regWrite_wide (by decide) (s.dev.wideWrite_tkHi w v) noFacts
  generalize hx : Long.ofWords ((s.dev.heldLo w (regAddr pTk 0x048)).getD s.dev.tk.lo) v = x
  have hset : s.dev.writeHi w pTk 0x048 v s.dev.tk.lo Dev.tkSet =
      (({ s.dev with tk := x }.raise pTk 5).answered).releaseLo w (regAddr pTk 0x048) := hx ▸ Dev.writeHi_takes ht v _ _
  have k0 : DevKept [] [(pTk, 5)] s.dev { s.dev with tk := x } { s.dev with tk := x } := DevKept.of_regs rfl
  have k := ((k0.raise (p := pTk) (src := 5) (by simp)).answered).releaseLo w (regAddr pTk 0x048)
  have hevt : ({ s.dev with tk := x }.raise pTk 5).evt pTk 5 = true :=
    Dev.raise_evt_same (d := { s.dev with tk := x }) ht.powered (by decide) (by decide) (by decide)
  have hrel := Dev.releaseLo_eq { s.dev with tk := x }.answered w (regAddr pTk 0x048)
  rw [hexec]
  refine k.yields hc hset (congrArg Dev.life hrel :) List.not_mem_nil fun t hsett kept => ?_
  have htk : t.dev.tk = x := kept.tk.trans (congrArg Dev.tk hrel :)
  refine ⟨htk, ?_, ?_, ?_⟩
  · rw [Dev.heldLo_congr kept.wideW]
    exact Dev.heldLo_releaseLo _ w _
  · rw [hsett.evt pTk 5 (by decide), Dev.releaseLo_eq]
    exact hevt
  · rw [htk, kept.wideW]
    rw [hrel] at kept
    exact kept

end

/-- Settles O10: a lemma a clause. The reads rest on `Dev.regRead_shows`, the writes on `Dev.writeLo_takes` and `Dev.writeHi_takes`. -/
theorem wideValuesAreWhole : Obligations.WideValuesAreWhole :=
  ⟨fun _ _ _ _ hc hw _ hs hecc hv hlo => wideReadLo_latches hc hw hs hecc hv hlo,
    fun _ _ _ _ hc hlo hr hw hs hecc hv => wideReadHi_answers hc hlo hr hw hs hecc hv,
    fun _ _ _ _ hc hr ht => wideWriteLo_holds hc hr ht, fun _ _ _ hc ht => wideWriteHi_setsTime hc ht⟩

end Sys2Proof.Machine
end

section
/-! The mode commit: what a request, the decision, the deadline and the last gate make of the registers and of the applied values (O9). -/

open Sys2Proof Sys2Proof.Machine

namespace Sys2Proof.Machine

/-! Shadow values of a page -/

/-- A table with the registers of page `p` at the offsets of `l` set to what `f` gives for each. -/
def setAll (p : Nat) (f : Nat → Word) (l : List Nat) (t : List (Nat × Word)) : List (Nat × Word) :=
  l.foldl (fun t o => tabSet resetAt (regKey p o) (f o) t) t

theorem tabGet_setAll_other {p : Nat} {l : List Nat} {k : Nat} (h : ∀ o ∈ l, k ≠ regKey p o) (f : Nat → Word) (t : List (Nat × Word)) :
    tabGet resetAt k (setAll p f l t) = tabGet resetAt k t :=
  List.foldlRecOn (motive := fun u => tabGet resetAt k u = tabGet resetAt k t) l _ rfl
    fun u hu o ho => (tabGet_set_other resetAt (h o ho) (f o) u).trans hu

theorem tabGet_setAll_mem {p : Nat} {l : List Nat} {o : Nat} (h : o ∈ l) (f : Nat → Word) (t : List (Nat × Word)) :
    tabGet resetAt (regKey p o) (setAll p f l t) = f o := by
  induction l generalizing t with
  | nil => cases h
  | cons a l ih =>
    by_cases hl : o ∈ l
    · exact ih hl _
    · obtain rfl : o = a := (List.mem_cons.mp h).resolve_right hl
      have hne : ∀ x ∈ l, regKey p o ≠ regKey p x := fun x hx e => hl (Nat.add_left_cancel e ▸ hx)
      exact (tabGet_setAll_other hne f _).trans (tabGet_set_same resetAt _ (f o) t)

theorem shadowOffs_lt {p o : Nat} (h : o ∈ shadowOffs p) : o < 4096 := by
  unfold shadowOffs at h
  split at h
  case h_1 => cases h
  case h_2 k hk =>
    obtain ⟨r, hr, ho⟩ := List.mem_flatMap.mp h
    split at ho
    case isTrue hsh =>
      obtain ⟨i, hi, rfl⟩ := List.mem_map.mp ho
      exact (shadow_rows_plain k r hr hsh i (List.mem_range.mp hi)).2.1
    case isFalse => cases ho

/-- The shadow values of a page, as the decision samples them (R48). -/
def Dev.sampled (d : Dev) (p : Nat) : List (Nat × Word) := setAll p (d.rd p) (shadowOffs p) []

/-- The applied values once page `p` has taken its sampled values (R48). -/
def Dev.liveTaken (d : Dev) (p : Nat) : List (Nat × Word) :=
  setAll p (fun o => tabGet resetAt (regKey p o) d.samp) (shadowOffs p) d.live

theorem Dev.foldl_lwr (d : Dev) (p : Nat) (f : Nat → Word) (l : List Nat) :
    l.foldl (fun d o => d.lwr p o (f o)) d = { d with live := setAll p f l d.live } := by
  induction l generalizing d with
  | nil => rfl
  | cons o l ih => exact ih (d.lwr p o (f o))

/-! The request (R47) -/

theorem Dev.commitRequest_busy {d : Dev} (h : d.commit ≠ .idle) (targets : Nat) : d.commitRequest targets = d := by
  unfold Dev.commitRequest
  split
  case h_1 hi => exact absurd hi h
  case h_2 => rfl

/-- The device with failed and missing cleared. -/
def Dev.verdictCleared (d : Dev) : Dev := (d.sb 0x16 fCommitFailed false).s 0x16 fMissing 0

theorem Dev.commitRequest_none {d : Dev} (h : d.commit = .idle) : d.commitRequest 0 = d.verdictCleared := by
  unfold Dev.commitRequest
  rw [h]
  rfl

theorem Dev.commitRequest_named {d : Dev} (h : d.commit = .idle) {targets : Nat} (ht : targets ≠ 0) :
    ∃ u, d.commitRequest targets = { d.verdictCleared with commit := .undecided targets, unapplied := u }.sb 0x16 fCommitBusy true := by
  unfold Dev.commitRequest
  rw [h]
  dsimp only
  rw [if_neg ht]
  exact ⟨_, rfl⟩

theorem Dev.verdictCleared_clear (d : Dev) :
    d.verdictCleared.b 0x16 fCommitFailed = false ∧ d.verdictCleared.g 0x16 fMissing = 0 :=
  ⟨(Dev.b_s_apart (by decide) _ _ _ _).trans (Dev.b_sb_same _ _ _ _ (by decide) rfl), Dev.g_s_same _ _ fMissing 0 (by decide)⟩

/-- A request of an idle commit leaves failed and missing at 0. -/
theorem Dev.commitRequest_clear {d : Dev} (h : d.commit = .idle) (targets : Nat) :
    (d.commitRequest targets).b 0x16 fCommitFailed = false ∧ (d.commitRequest targets).g 0x16 fMissing = 0 := by
  obtain ⟨hf, hm⟩ := d.verdictCleared_clear
  by_cases ht : targets = 0
  · rw [ht, Dev.commitRequest_none h]
    exact ⟨hf, hm⟩
  · obtain ⟨u, hu⟩ := Dev.commitRequest_named h ht
    rw [hu]
    exact ⟨(Dev.b_s_apart (by decide) _ _ _ _).trans hf, (Dev.g_s_apart (by decide) _ _ _ _).trans hm⟩

/-- A request touches COMMIT_STATUS, the commit, and the coding pages that wait for it. -/
theorem DevKept.commitRequest {ex ev : List (Nat × Nat)} (d : Dev) (targets : Nat) (hx : (0x16, 0x044) ∈ ex) :
    DevKept ex ev d { d with commit := (d.commitRequest targets).commit, unapplied := (d.commitRequest targets).unapplied }
      (d.commitRequest targets) := by
  have hcleared : DevKept ex ev d d d.verdictCleared := ((DevKept.refl d).sb false hx).s 0 hx
  by_cases h : d.commit = .idle
  · by_cases ht : targets = 0
    · rw [ht, Dev.commitRequest_none h]
      exact hcleared
    · obtain ⟨u, hu⟩ := Dev.commitRequest_named h ht
      rw [hu]
      have k : DevKept ex ev d { d with commit := .undecided targets, unapplied := u }
          { d.verdictCleared with commit := .undecided targets, unapplied := u } :=
        ⟨hcleared.regs, hcleared.events,
          congrArg (fun x : Dev => { x with commit := .undecided targets, unapplied := u }) hcleared.hidden⟩
      exact k.sb (f := fCommitBusy) true hx
  · rw [Dev.commitRequest_busy h]
    exact .refl d

/-- COMMIT (R47). -/
theorem commit_requests {s : State} {w : Who} {v : Word} (hc : s.calm) (ht : s.dev.takes w 0x16 0x040) :
    Yields (exec (.commit w v) s) fun t =>
      (s.dev.commit = .idle → getBits v 0 30 ≠ 0 → t.dev.commit = .undecided (getBits v 0 30) ∧ t.dev.b 0x16 fCommitBusy = true) ∧
      (s.dev.commit = .idle → getBits v 0 30 = 0 → t.dev.commit = .idle) ∧
      (s.dev.commit = .idle → t.dev.b 0x16 fCommitFailed = false ∧ t.dev.g 0x16 fMissing = 0) ∧
      (s.dev.commit ≠ .idle → t.dev.commit = s.dev.commit ∧ t.dev.unapplied = s.dev.unapplied ∧
        t.dev.rd 0x16 0x044 = s.dev.rd 0x16 0x044) ∧
      Kept s t { s.dev.answered with commit := t.dev.commit, unapplied := t.dev.unapplied } [(0x16, 0x044)] [] := by
  have hwrite : s.dev.commitWrite w v = (s.dev.commitRequest (getBits v 0 30)).answered := access_takes _ _ _ _ _ ht
  have k := (DevKept.commitRequest (ex := [(0x16, 0x044)]) (ev := []) s.dev (getBits v 0 30) (by simp)).answered
  refine k.yields (f := (·.commitWrite w v)) hc hwrite rfl (by decide) fun t hset kept => ⟨fun hi hn => ?_, fun hi hn => ?_, fun hi => ?_, fun hi => ?_, ?_⟩
  · obtain ⟨u, hu⟩ := Dev.commitRequest_named hi hn
    rw [kept.commit, hset.b 0x16 fCommitBusy]
    exact ⟨congrArg Dev.commit hu, (Dev.b_congr (congrArg (·.rd 0x16 0x044) hu)).trans (Dev.b_sb_same _ _ _ _ (by decide) rfl)⟩
  · rw [kept.commit, hn, Dev.commitRequest_none hi]
    exact hi
  · rw [hset.b 0x16 fCommitFailed, hset.g 0x16 fMissing]
    exact Dev.commitRequest_clear hi _
  · rw [kept.commit, kept.unapplied, hset.rd 0x16 0x044 (by decide) (by decide), Dev.commitRequest_busy hi]
    exact ⟨rfl, rfl, rfl⟩
  · rw [kept.commit, kept.unapplied]
    exact kept

/-! The last gate (R48 step 3) -/

theorem DevKept.powered {ex ev : List (Nat × Nat)} {d h e : Dev} (k : DevKept ex ev d h e) (p : Nat) : e.powered p = h.powered p := by
  have ho : e.offPages = h.offPages := (congrArg Dev.offPages k.hidden :)
  rw [Dev.powered, ho, Dev.powered]

/-- The kinds of page that do nothing at their gate but take their values. -/
def gateQuiet (k : PageKind) : Bool := [.pacer, .cal, .capture, .split].contains k

theorem Dev.gateEffect_quiet {p : Nat} {k : PageKind} (hk : kindOf p = some k) (hq : gateQuiet k = true) (d old : Dev) :
    d.gateEffect old p = d := by
  unfold Dev.gateEffect
  rw [hk]
  cases k with
  | pacer | cal | capture | split => rfl
  | _ => cases hq

theorem page_ne_framer {p : Nat} {k : PageKind} (hk : kindOf p = some k) (hq : gateQuiet k = true) : p ≠ pFramer := by
  rintro rfl
  cases hk
  cases hq

/-- Page `p` disarmed, and applied unless `late` says that a shadow register has been written since the decision (R48). -/
def Dev.gated (d : Dev) (p : Nat) (late : Bool) : Dev := (d.sb p fArm false).when (!late) (·.sb p fApplied true)

theorem Dev.gated_arm (d : Dev) (p : Nat) (late : Bool) : (d.gated p late).b p fArm = false :=
  (Dev.when_keeps (·.b p fArm) (Dev.b_s_apart (by decide) ..) _).trans (Dev.b_sb_same _ _ _ _ (by decide) rfl)

theorem Dev.gated_applied (d : Dev) (p : Nat) (late : Bool) : (d.gated p late).b p fApplied = (d.b p fApplied || !late) := by
  cases late with
  | true => exact (Dev.b_s_apart (by decide) ..).trans (Bool.or_false _).symm
  | false => exact (Dev.b_sb_same _ _ _ _ (by decide) rfl).trans (Bool.or_true _).symm

theorem DevKept.gated {ex ev : List (Nat × Nat)} {d h e : Dev} (k : DevKept ex ev d h e) {p : Nat} (harm : (p, 0x028) ∈ ex)
    (happ : (p, 0x004) ∈ ex) (late : Bool) : DevKept ex ev d h (e.gated p late) :=
  (k.sb (f := fArm) false harm).when ((k.sb (f := fArm) false harm).sb (f := fApplied) true happ) _

/-- The state beside the registers once the last page of a commit has taken its values and the commit is over. -/
def Dev.commitDone (d : Dev) (p : Nat) : Dev :=
  { d with commit := .idle, samp := [], late := [], live := d.liveTaken p, unapplied := d.unapplied.filter (· != p) }

/-- The last gate of a commit, of a page that only takes its values: the page is disarmed, and the commit ends with source 0. -/
theorem Dev.gateCome_last {p : Nat} {k : PageKind} (hk : kindOf p = some k) (hq : gateQuiet k = true) (d : Dev) (targets : Nat) :
    (d.gateCome targets ⟨p, none⟩ []).commitEnd =
      (((d.commitDone p).gated p (d.late.contains p)).sb 0x16 fCommitBusy false).raise 0x16 0 := by
  have hunit : d.applyUnit ⟨p, none⟩ = { d with live := d.liveTaken p } := by
    unfold Dev.applyUnit
    dsimp only
    rw [if_neg (page_ne_framer hk hq), Dev.gateEffect_quiet hk hq]
    exact d.foldl_lwr p _ _
  have hlate : ({ d with live := d.liveTaken p }.sb p fArm false).late = d.late := rfl
  unfold Dev.gateCome
  rw [hunit]
  simp only [List.any_nil, Bool.not_false, Dev.when, if_true, Dev.pageApplied, hlate, Dev.gated]
  cases d.late.contains p <;> rfl

/-- What stands after the last gate of a commit, of page `p`: its sampled values are applied and no other page's, it is disarmed, and
applied unless written since the decision; the commit is over, with source 0. -/
structure GateEnded (s t : State) (p : Nat) (samp : List (Nat × Word)) (late : List Nat) : Prop where
  taken : ∀ o ∈ shadowOffs p, t.dev.lrd p o = tabGet resetAt (regKey p o) samp
  others : ∀ q, q ≠ p → ∀ o ∈ shadowOffs q, t.dev.lrd q o = s.dev.lrd q o
  arm : t.dev.b p fArm = false
  applied : t.dev.b p fApplied = (s.dev.b p fApplied || !late.contains p)
  commit : t.dev.commit = .idle
  busy : t.dev.b 0x16 fCommitBusy = false
  event : t.dev.evt 0x16 0 = true
  kept : Kept s t { s.dev with commit := .idle, samp := [], late := [], live := t.dev.live, unapplied := s.dev.unapplied.filter (· != p) }
    [(p, 0x028), (p, 0x004), (0x16, 0x044)] [(0x16, 0)]

theorem lrd_of_live {d e : Dev} {p : Nat} (h : e.live = d.liveTaken p) {q o : Nat} :
    e.lrd q o = tabGet resetAt (regKey q o) (d.liveTaken p) := by
  rw [Dev.lrd, h]

/-- A command that brings the last gate, on a device that differs from the one before it in the samples and the phase of the commit
only. -/
theorem gate_ends {s : State} {f : Dev → Dev} {p targets : Nat} {k : PageKind} {samp : List (Nat × Word)} {late : List Nat}
    {phase : CommitPhase} (hc : s.calm) (hk : kindOf p = some k) (hq : gateQuiet k = true) (hpow : s.dev.powered 0x16 = true)
    (hf : f s.dev = ({ s.dev with samp := samp, late := late, commit := phase }.gateCome targets ⟨p, none⟩ []).commitEnd) :
    Yields (act s f) fun t => GateEnded s t p samp late := by
  generalize hd : ({ s.dev with samp := samp, late := late, commit := phase } : Dev) = d at hf
  rw [Dev.gateCome_last hk hq] at hf
  have hregs : (d.commitDone p).regs = s.dev.regs := by rw [← hd]; rfl
  have hlate : d.late = late := by rw [← hd]
  have hdone : d.commitDone p =
      { s.dev with commit := .idle, samp := [], late := [], live := d.liveTaken p, unapplied := s.dev.unapplied.filter (· != p) } := by
    rw [← hd]; rfl
  have k0 : DevKept [(p, 0x028), (p, 0x004), (0x16, 0x044)] [(0x16, 0)] s.dev (d.commitDone p) (d.commitDone p) := .of_regs hregs
  have kb := (k0.gated (p := p) (by simp) (by simp) (d.late.contains p)).sb (p := 0x16) (f := fCommitBusy) false (by simp [fCommitBusy])
  have hlife : (d.commitDone p).life = s.dev.life := by rw [hdone]
  have hpow' : (((d.commitDone p).gated p (d.late.contains p)).sb 0x16 fCommitBusy false).powered 0x16 = true :=
    (kb.powered 0x16).trans (by rw [hdone]; exact hpow)
  refine (kb.raise (p := 0x16) (src := 0) (by simp)).yields hc hf hlife (by simp) fun t hset kept => ?_
  have hreg : ∀ g : Fld, g.off < 4096 → g.off ≠ 0x010 → g.apart fCommitBusy →
      t.dev.b p g = ((d.commitDone p).gated p (d.late.contains p)).b p g := fun g h1 h2 h3 =>
    (hset.b p g h1 h2).trans ((Dev.b_raise _ _ _ _ g h1 h2).trans (Dev.b_s_apart h3 _ _ _ _))
  have hlive := kept.live
  exact {
    taken := fun o ho => by
      rw [lrd_of_live hlive, Dev.liveTaken, tabGet_setAll_mem ho, ← hd]
    others := fun q hne o ho => by
      rw [lrd_of_live hlive, Dev.liveTaken, tabGet_setAll_other, ← hd]
      · rfl
      · exact fun x hx e => hne (regKey_inj (shadowOffs_lt ho) (shadowOffs_lt hx) e).1
    arm := (hreg fArm (by decide) (by decide) (by decide)).trans (Dev.gated_arm _ _ _)
    applied := by
      rw [hreg fApplied (by decide) (by decide) (by decide), Dev.gated_applied, hlate, hdone]; rfl
    commit := kept.commit
    busy := (hset.b 0x16 fCommitBusy).trans ((Dev.b_raise _ _ _ _ fCommitBusy).trans (Dev.b_sb_same _ _ _ _ (by decide) rfl))
    event := (hset.evt 0x16 0 (by decide)).trans (Dev.raise_evt_same hpow' (by decide) (by decide) (by decide))
    kept := by
      rw [hlive]
      rw [hdone] at kept
      exact kept }

/-! The decision (R48 step 2) -/

/-- A commit of one armed page, whose function carries no traffic, is decided, applies and ends at the same tick. -/
theorem Dev.commitTick_single {d : Dev} {targets p : Nat} {k : PageKind} (hu : d.commit = .undecided targets) (hn : namedPages targets = [p])
    (hk : kindOf p = some k) (hq : k ∈ [PageKind.cal, .capture, .split]) (ha : d.b p fArm = true) :
    d.commitTick =
      ({ d with samp := d.sampled p, late := [], commit := .decided targets [] }.gateCome targets ⟨p, none⟩ []).commitEnd := by
  have hready : d.commitReady targets = true := by simp [Dev.commitReady, hn, ha]
  have hpart : d.takesPart p = true := by simp [Dev.takesPart, ha]
  have hunits : ∀ e : Dev, e.unitsOf p = [⟨p, none⟩] := fun e => by
    unfold Dev.unitsOf
    rw [hk]
    cases k with
    | cal | capture | split => rfl
    | _ => simp at hq
  have htraffic : ∀ e : Dev, e.gateTraffic ⟨p, none⟩ = false := fun e => by
    unfold Dev.gateTraffic
    dsimp only
    rw [hk]
    cases k with
    | cal | capture | split => rfl
    | _ => simp at hq
  have hfr : p ≠ pFramer := by
    rintro rfl
    cases hk
    simp at hq
  unfold Dev.commitTick
  rw [hu]
  dsimp only
  rw [if_pos hready, Dev.commitDecided]
  simp [hn, hpart, hunits, htraffic, hfr, Dev.commitDecided.go]
  rfl

/-- COMMIT_DECIDE with every required page armed (R48). -/
theorem commitDecide_applies {s : State} {b p : Nat} (hc : s.calm) (hb : (b, p) ∈ ([(22, 0x17), (28, 0x12), (29, 0x13)] : List (Nat × Nat)))
    (hu : s.dev.commit = .undecided (2 ^ b)) (ha : s.dev.b p fArm = true) (hpow : s.dev.powered 0x16 = true) :
    Yields (exec .commitDecide s) fun t => GateEnded s t p (s.dev.sampled p) [] := by
  have hrow : ∀ x ∈ ([(22, 0x17), (28, 0x12), (29, 0x13)] : List (Nat × Nat)), namedPages (2 ^ x.1) = [x.2] ∧
      ∃ k ∈ [PageKind.cal, .capture, .split], kindOf x.2 = some k := by decide +kernel
  obtain ⟨hn, k, hq, hk⟩ := hrow _ hb
  have hquiet : ∀ k ∈ [PageKind.cal, .capture, .split], gateQuiet k = true := by decide
  exact gate_ends (f := (·.commitTick)) hc hk (hquiet k hq) hpow (Dev.commitTick_single hu hn hk hq ha)

theorem Dev.commitTick_waits {d : Dev} {targets : Nat} (hu : d.commit = .undecided targets) (hr : d.commitReady targets = false) :
    d.commitTick = d := by
  unfold Dev.commitTick
  rw [hu]
  exact if_neg (by simp [hr])

/-- COMMIT_DECIDE with a required page that is not armed (R48). -/
theorem commitDecide_waits {s : State} {targets : Nat} (hc : s.calm) (hu : s.dev.commit = .undecided targets)
    (hr : s.dev.commitReady targets = false) : Yields (exec .commitDecide s) fun t => Kept s t s.dev [] [] :=
  yields_of_regs (f := (·.commitTick)) hc (Dev.commitTick_waits hu hr) rfl rfl fun _ kept => kept

/-! The deadline (R48 step 4) -/

/-- The sum of the bits below `n` for which `c` holds. -/
def bitSum (c : Nat → Bool) (n : Nat) : Nat := (List.range n).foldl (fun m b => if c b then m + 2 ^ b else m) 0

theorem bitSum_succ (c : Nat → Bool) (n : Nat) : bitSum c (n + 1) = if c n then bitSum c n + 2 ^ n else bitSum c n := by
  simp [bitSum, List.range_succ]

theorem bitSum_lt (c : Nat → Bool) (n : Nat) : bitSum c n < 2 ^ n := by
  induction n with
  | zero => exact Nat.one_pos
  | succ n ih =>
    rw [bitSum_succ, Nat.pow_succ]
    split <;> omega

theorem bitSum_testBit (c : Nat → Bool) {n b : Nat} (h : b < n) : (bitSum c n).testBit b = c b := by
  induction n with
  | zero => cases h
  | succ n ih =>
    have htop : (bitSum c n).testBit n = false := Nat.testBit_lt_two_pow (bitSum_lt c n)
    rw [bitSum_succ]
    rcases Nat.lt_succ_iff_lt_or_eq.mp h with hlt | rfl
    · split
      · rw [Nat.add_comm, Nat.testBit_two_pow_add_gt hlt, ih hlt]
      · exact ih hlt
    · split
      case isTrue hb => rw [Nat.add_comm, Nat.testBit_two_pow_add_eq, htop, hb]; rfl
      case isFalse hb => rw [htop, Bool.eq_false_iff.mpr hb]

/-- The pages of `l` disarmed. -/
def Dev.disarm (d : Dev) (l : List Nat) : Dev := l.foldl (fun d p => d.sb p fArm false) d

theorem Dev.sb_arm_false {d : Dev} {p : Nat} (h : d.b p fArm = false) (q : Nat) : (d.sb q fArm false).b p fArm = false := by
  by_cases hq : p = q
  · rw [hq]
    exact Dev.b_sb_same _ _ _ _ (by decide) rfl
  · exact (Dev.b_congr (d.rd_wr_ne (by decide) (by decide) (fun c => hq (congrArg Prod.fst c)) _)).trans h

theorem Dev.disarm_arm {l : List Nat} {p : Nat} (h : p ∈ l) (d : Dev) : (d.disarm l).b p fArm = false := by
  induction l generalizing d with
  | nil => cases h
  | cons q l ih =>
    by_cases hl : p ∈ l
    · exact ih hl _
    · obtain rfl : p = q := (List.mem_cons.mp h).resolve_right hl
      exact List.foldlRecOn (motive := fun e : Dev => e.b p fArm = false) l _ (Dev.b_sb_same d p fArm false (by decide) rfl)
        fun e he q _ => Dev.sb_arm_false he q

theorem DevKept.disarm {ex ev : List (Nat × Nat)} {d h e : Dev} {l : List Nat} (k : DevKept ex ev d h e) (hl : ∀ p ∈ l, (p, 0x028) ∈ ex) :
    DevKept ex ev d h (e.disarm l) :=
  List.foldlRecOn (motive := fun e => DevKept ex ev d h e) l _ k fun _ ke p hp => ke.sb (f := fArm) false (hl p hp)

/-- Target `b` is named, and one of its pages is required and not armed. -/
def Dev.misses (d : Dev) (targets b : Nat) : Bool :=
  targets.testBit b && (commitPages b).any fun p => d.required p && !d.b p fArm

/-- COMMIT_STATUS after a deadline that found a page missing. -/
def Dev.verdictFailed (d : Dev) (missing : Nat) : Dev := ((d.sb 0x16 fCommitFailed true).s 0x16 fMissing missing).sb 0x16 fCommitBusy false

theorem Dev.commitDeadline_fails {d : Dev} {targets : Nat} (hu : d.commit = .undecided targets) (hr : d.commitReady targets = false) :
    d.commitDeadline =
      (({ d.disarm (namedPages targets) with commit := .idle }).verdictFailed (bitSum (d.misses targets) 30)).raise 0x16 1 := by
  unfold Dev.commitDeadline
  rw [hu]
  dsimp only
  rw [if_neg (by simp [hr])]
  rfl

theorem Dev.verdictFailed_reads (d : Dev) (missing : Nat) : (d.verdictFailed missing).b 0x16 fCommitFailed = true ∧
    (d.verdictFailed missing).b 0x16 fCommitBusy = false ∧ (d.verdictFailed missing).g 0x16 fMissing = missing % 2 ^ 30 :=
  ⟨(Dev.b_s_apart (by decide) ..).trans ((Dev.b_s_apart (by decide) ..).trans (Dev.b_sb_same _ _ _ _ (by decide) rfl)),
    Dev.b_sb_same _ _ _ _ (by decide) rfl, (Dev.g_s_apart (by decide) ..).trans (Dev.g_s_same _ _ fMissing missing (by decide))⟩

theorem Dev.verdictFailed_arm (d : Dev) (missing p : Nat) : (d.verdictFailed missing).b p fArm = d.b p fArm :=
  (Dev.b_s_apart (by decide) ..).trans ((Dev.b_s_apart (by decide) ..).trans (Dev.b_s_apart (by decide) ..))

theorem DevKept.verdictFailed {ex ev : List (Nat × Nat)} {d h e : Dev} (k : DevKept ex ev d h e) (missing : Nat) (hx : (0x16, 0x044) ∈ ex) :
    DevKept ex ev d h (e.verdictFailed missing) :=
  ((k.sb (f := fCommitFailed) true hx).s (f := fMissing) missing hx).sb (f := fCommitBusy) false hx

/-- Bit `b` of the missing targets is bit `b` of COMMIT_STATUS. -/
theorem Dev.missing_bit (d : Dev) {b : Nat} (h : b < 30) : (d.rd 0x16 0x044).getLsbD b = (d.g 0x16 fMissing).testBit b := by
  rw [Dev.g, getBits_testBit, decide_eq_true (show b < fMissing.w from h), Bool.true_and, show fMissing.lo + b = b from Nat.zero_add b]
  rfl

/-- COMMIT_DEADLINE with a required page that is not armed (R48). -/
theorem commitDeadline_fails {s : State} {targets : Nat} (hc : s.calm) (hu : s.dev.commit = .undecided targets)
    (hr : s.dev.commitReady targets = false) (hpow : s.dev.powered 0x16 = true) :
    Yields (exec .commitDeadline s) fun t =>
      t.dev.commit = .idle ∧
      t.dev.b 0x16 fCommitFailed = true ∧
      t.dev.b 0x16 fCommitBusy = false ∧
      t.dev.evt 0x16 1 = true ∧
      (∀ b, b < 30 → (t.dev.rd 0x16 0x044).getLsbD b = s.dev.misses targets b) ∧
      (∀ p ∈ namedPages targets, t.dev.b p fArm = false) ∧
      Kept s t { s.dev with commit := .idle } ((0x16, 0x044) :: (namedPages targets).map fun p => (p, 0x028)) [(0x16, 1)] := by
  have hfail := Dev.commitDeadline_fails hu hr
  generalize hd : ({ s.dev.disarm (namedPages targets) with commit := .idle } : Dev) = d at hfail
  have hdis : DevKept ((0x16, 0x044) :: (namedPages targets).map fun p => (p, 0x028)) [(0x16, 1)] s.dev s.dev
      (s.dev.disarm (namedPages targets)) :=
    (DevKept.refl s.dev).disarm fun p hp => List.mem_cons_of_mem _ (List.mem_map_of_mem hp)
  have k : DevKept ((0x16, 0x044) :: (namedPages targets).map fun p => (p, 0x028)) [(0x16, 1)] s.dev { s.dev with commit := .idle } d :=
    hd ▸ ⟨hdis.regs, hdis.events, congrArg (fun x : Dev => { x with commit := .idle }) hdis.hidden⟩
  have kv := k.verdictFailed (bitSum (s.dev.misses targets) 30) List.mem_cons_self
  obtain ⟨hfailed, hbusy, hmissing⟩ := d.verdictFailed_reads (bitSum (s.dev.misses targets) 30)
  refine (kv.raise (p := 0x16) (src := 1) (by simp)).yields (f := (·.commitDeadline)) hc hfail rfl (by simp [pTrial])
    fun t hset kept => ⟨kept.commit, ?_, ?_, ?_, fun b hb => ?_, fun p hp => ?_, kept⟩
  · exact (hset.b 0x16 fCommitFailed).trans ((Dev.b_raise _ _ _ _ fCommitFailed).trans hfailed)
  · exact (hset.b 0x16 fCommitBusy).trans ((Dev.b_raise _ _ _ _ fCommitBusy).trans hbusy)
  · exact (hset.evt 0x16 1 (by decide)).trans
      (Dev.raise_evt_same ((kv.powered 0x16).trans hpow) (by decide) (by decide) (by decide))
  · rw [Dev.missing_bit _ hb, hset.g 0x16 fMissing, Dev.g_raise _ _ _ _ fMissing, hmissing, Nat.mod_eq_of_lt (bitSum_lt _ _),
      bitSum_testBit _ hb]
  · rw [hset.b p fArm, Dev.b_raise _ _ _ _ fArm, Dev.verdictFailed_arm, ← hd]
    exact s.dev.disarm_arm hp

/-! The gate of a Pacer (R48 step 3) -/

theorem kindOf_pPacer : ∀ n : Lane, kindOf (pPacer n) = some .pacer := by decide

theorem Dev.commitGate_only {d : Dev} {targets p : Nat} (hd : d.commit = .decided targets [⟨p, none⟩]) (base : Lane) :
    d.commitGate p base = (d.gateCome targets ⟨p, none⟩ []).commitEnd := by
  unfold Dev.commitGate
  rw [hd]
  simp [Dev.gateWaits]

/-- COMMIT_GATE of a PACER page that is the last to come (R48). -/
theorem commitGate_ends {s : State} {p : Fin 256} {n : Lane} {targets : Nat} (base : Lane) (hc : s.calm) (hp : p.val = pPacer n)
    (hd : s.dev.commit = .decided targets [⟨p.val, none⟩]) (hpow : s.dev.powered 0x16 = true) :
    Yields (exec (.commitGate p base) s) fun t => GateEnded s t p.val s.dev.samp s.dev.late := by
  have hk : kindOf p.val = some .pacer := hp ▸ kindOf_pPacer n
  exact gate_ends (f := (·.commitGate p.val base)) hc hk rfl hpow (Dev.commitGate_only hd base)

/-- Settles O9: the request and the deadline write COMMIT_STATUS and ARM only, and a commit whose last page only takes its values ends
there, whether at the decision or at a gate after it. -/
theorem modeCommitRuns : Obligations.ModeCommitRuns := by
  refine ⟨fun s w v hc ht => commit_requests hc ht, fun s b p hc hb hu ha hpow => ?_, fun s targets hc hu hr => commitDecide_waits hc hu hr,
    fun s targets hc hu hr hpow => commitDeadline_fails hc hu hr hpow, fun s p base n targets hc hp hd hpow => ?_⟩
  · obtain ⟨t, ht, g⟩ := commitDecide_applies hc hb hu ha hpow
    refine ⟨t, ht, fun o ho => (g.taken o ho).trans (tabGet_setAll_mem ho _ _), fun q _ hne => g.others q hne, g.arm,
      g.applied.trans (Bool.or_true _), g.commit, g.busy, g.event, ?_⟩
    rw [g.kept.unapplied]
    exact g.kept
  · obtain ⟨t, ht, g⟩ := commitGate_ends base hc hp hd hpow
    exact ⟨t, ht, g.taken, g.arm, g.applied, g.commit, g.busy, g.event, g.kept⟩

end Sys2Proof.Machine
end

section
/-! The pages of the receivers and their events, and what `DevKept` says of the operations that line and host receivers share. -/

open Sys2Proof Sys2Proof.Machine

namespace Sys2Proof.Machine

/-! Pages and their events -/

theorem sourcesOf_pLrx (n : Lane) : sourcesOf (pLrx n) = 16 := by revert n; decide

theorem sourcesOf_pHrx (n : Lane) : sourcesOf (pHrx n) = 12 := by revert n; decide

theorem pLrx_not_referee (n : Lane) : ¬ refereePage (pLrx n) := by unfold refereePage pLrx; omega

theorem pHrx_not_referee (n : Lane) : ¬ refereePage (pHrx n) := by unfold refereePage pHrx; omega

/-- Page `p` shows events of sources below `k`: it is powered, has as many sources, and the Referee raises none on it. -/
structure Dev.Signals (d : Dev) (p k : Nat) : Prop where
  powered : d.powered p = true
  sources : k ≤ sourcesOf p
  word : k ≤ 32
  page : ¬ refereePage p

theorem Dev.signals_lrx {d : Dev} {n : Lane} (h : d.powered (pLrx n) = true) : d.Signals (pLrx n) 16 :=
  ⟨h, (sourcesOf_pLrx n).ge, by decide, pLrx_not_referee n⟩

theorem Dev.signals_hrx {d : Dev} {n : Lane} (h : d.powered (pHrx n) = true) : d.Signals (pHrx n) 12 :=
  ⟨h, (sourcesOf_pHrx n).ge, by decide, pHrx_not_referee n⟩

namespace Dev.Signals

variable {d e : Dev} {p k src : Nat}

theorem congr (h : d.Signals p k) (hp : e.offPages = d.offPages) : e.Signals p k :=
  ⟨by rw [Dev.powered, hp]; exact h.powered, h.sources, h.word, h.page⟩

theorem not_three (h : d.Signals p k) : p ≠ 0x03 := fun e => h.page (.inl e)

theorem raise (h : d.Signals p k) (hs : src < k) : (d.raise p src).evt p src = true :=
  Dev.raise_evt_same h.powered (Nat.lt_of_lt_of_le hs h.sources) (Nat.lt_of_lt_of_le hs h.word) h.page

theorem raiseIf (h : d.Signals p k) (hs : src < k) (c : Bool) : (d.raiseIf c p src).evt p src = (d.evt p src || c) := by
  cases c with
  | false => exact (Bool.or_false _).symm
  | true => rw [Bool.or_true]; exact h.raise hs

theorem raiseIf_other (h : d.Signals p k) {x : Nat} (hx : x ≠ src) (c : Bool) : (d.raiseIf c p src).evt p x = d.evt p x := by
  cases c with
  | false => rfl
  | true => exact d.raise_evt_other false (fun e => hx (congrArg Prod.snd e)) h.page

end Dev.Signals

theorem Dev.raiseIf_offPages (d : Dev) (c : Bool) (p src : Nat) : (d.raiseIf c p src).offPages = d.offPages :=
  (EvtFrame.raiseIf d c p src).offPages

theorem Dev.rd_raiseIf (d : Dev) (c : Bool) (p src q o : Nat) (ho : o < 4096 := by decide) (hne : o ≠ 0x010 := by decide) :
    (d.raiseIf c p src).rd q o = d.rd q o := (EvtFrame.raiseIf d c p src).rd q o ho hne

theorem Dev.evt_wr (d : Dev) {p off : Nat} (w : Word) (q x : Nat) (ho : off < 4096 := by decide) (hne : off ≠ 0x010 := by decide) :
    (d.wr p off w).evt q x = d.evt q x := congrArg (·.getLsbD x) (d.rd_wr_off ho (by decide) hne.symm w)

/-- What is done on a condition leaves a field alone that it leaves alone when done. -/
theorem Dev.g_when {f : Dev → Dev} {d : Dev} {q : Nat} {x : Fld} (h : (f d).g q x = d.g q x) (c : Bool) : (d.when c f).g q x = d.g q x :=
  Dev.when_keeps (fun e => e.g q x) h c

theorem Dev.g_when_s {x f : Fld} (h : x.apart f) (d : Dev) (p q v : Nat) (c : Bool) : (d.when c (·.s p f v)).g q x = d.g q x :=
  Dev.g_when (f := (·.s p f v)) (Dev.g_s_apart h d p q v) c

theorem Dev.g_when_sb {x f : Fld} (h : x.apart f) (d : Dev) (p q : Nat) (v c : Bool) : (d.when c (·.sb p f v)).g q x = d.g q x :=
  Dev.g_when_s h d p q _ c

/-! `DevKept` -/

namespace DevKept

variable {ex ev : List (Nat × Nat)} {d h e : Dev}

theorem g (k : DevKept ex ev d h e) {p : Nat} {f : Fld} (hx : (p, f.off) ∉ ex) (hlt : f.off < 4096 := by decide)
    (hne : f.off ≠ 0x010 := by decide) : e.g p f = d.g p f := Dev.g_congr (k.regs _ _ hlt hne hx)

theorem b (k : DevKept ex ev d h e) {p : Nat} {f : Fld} (hx : (p, f.off) ∉ ex) (hlt : f.off < 4096 := by decide)
    (hne : f.off ≠ 0x010 := by decide) : e.b p f = d.b p f := Dev.b_congr (k.regs _ _ hlt hne hx)

theorem incSat (k : DevKept ex ev d h e) {p : Nat} {f : Fld} (hx : (p, f.off) ∈ ex) (hlt : f.off < 4096 := by decide)
    (hne : f.off ≠ 0x010 := by decide) : DevKept ex ev d h (e.incSat p f) := k.s _ hx hlt hne

theorem raiseIf (k : DevKept ex ev d h e) {p src : Nat} (c : Bool) (hs : (p, src) ∈ ev) : DevKept ex ev d h (e.raiseIf c p src) := by
  unfold Dev.raiseIf
  split
  · exact k.raise hs
  · exact k

theorem wrs (k : DevKept ex ev d h e) {p off : Nat} {l : List Word} (hx : ∀ i < l.length, (p, off + 4 * i) ∈ ex)
    (hlt : off + 4 * l.length ≤ 4096) (hne : 0x010 < off) : DevKept ex ev d h (e.wrs p off l) := by
  induction l generalizing e off with
  | nil => exact k
  | cons w t ih =>
    rw [List.length_cons] at hx hlt
    refine ih (k.wr w (hx 0 (by omega)) (by omega) (by omega)) (fun i hi => ?_) (by omega) (by omega)
    have := hx (i + 1) (by omega)
    rwa [show off + 4 * (i + 1) = off + 4 + 4 * i by omega] at this

theorem wr64 (k : DevKept ex ev d h e) {p off : Nat} (v : Long) (hlo : (p, off) ∈ ex) (hhi : (p, off + 4) ∈ ex)
    (hlt : off + 4 < 4096 := by decide) (hne : 0x010 < off := by decide) : DevKept ex ev d h (e.wr64 p off v) :=
  (k.wr _ hlo (by omega) (by omega)).wr _ hhi hlt (by omega)

theorem foldl {α : Type} {f : Dev → α → Dev} {l : List α} (hf : ∀ e, ∀ a ∈ l, DevKept ex ev d h e → DevKept ex ev d h (f e a))
    (k : DevKept ex ev d h e) : DevKept ex ev d h (l.foldl f e) := by
  induction l generalizing e with
  | nil => exact k
  | cons a t ih => exact ih (fun e b hb => hf e b (.tail _ hb)) (hf e a (.head _) k)

theorem updHrx (k : DevKept ex ev d h e) (n : Lane) (f : HrxH → HrxH) : DevKept ex ev d (h.updHrx n f) (e.updHrx n f) where
  regs := k.regs
  events := k.events
  hidden := by
    have hh : e.hrx = h.hrx := (congrArg Dev.hrx k.hidden :)
    unfold Dev.updHrx Dev.hr
    rw [hh]
    exact congrArg (fun x : Dev => { x with hrx := h.hrx.set n.val (f (h.hrx.get n)) }) k.hidden

theorem updHtx (k : DevKept ex ev d h e) (n : Lane) (f : HtxH → HtxH) : DevKept ex ev d (h.updHtx n f) (e.updHtx n f) where
  regs := k.regs
  events := k.events
  hidden := by
    have hh : e.htx = h.htx := (congrArg Dev.htx k.hidden :)
    unfold Dev.updHtx Dev.hx
    rw [hh]
    exact congrArg (fun x : Dev => { x with htx := h.htx.set n.val (f (h.htx.get n)) }) k.hidden

theorem updLtx (k : DevKept ex ev d h e) (n : Lane) (f : LtxH → LtxH) : DevKept ex ev d (h.updLtx n f) (e.updLtx n f) where
  regs := k.regs
  events := k.events
  hidden := by
    have hh : e.ltx = h.ltx := (congrArg Dev.ltx k.hidden :)
    unfold Dev.updLtx Dev.tx
    rw [hh]
    exact congrArg (fun x : Dev => { x with ltx := h.ltx.set n.val (f (h.ltx.get n)) }) k.hidden

theorem offPages (k : DevKept ex ev d h e) : e.offPages = h.offPages := (congrArg Dev.offPages k.hidden :)

/-- A command of a page's own function, on a page that runs. -/
theorem yieldsOn {s : State} {p : Nat} {f : Dev → Dev} {P : State → Prop} (k : DevKept ex ev s.dev h e) (hc : s.calm) (hr : s.dev.runs p)
    (he : f s.dev = e) (hlife : h.life = s.dev.life) (hx : (pTrial, 0x048) ∉ ex)
    (hP : ∀ t : State, Settled e t.dev → Kept s t h ex ev → P t) : Yields (actOn p s f) P :=
  k.yields hc ((when_runs hr f).trans he) hlife hx hP

end DevKept

theorem mem_regsOf {p q o : Nat} {l : List Nat} : (p, o) ∈ regsOf q l ↔ p = q ∧ o ∈ l := by
  simp only [regsOf, List.mem_map, Prod.mk.injEq]
  exact ⟨fun ⟨a, ha, hq, ho⟩ => ⟨hq.symm, ho ▸ ha⟩, fun ⟨hq, ho⟩ => ⟨o, ho, hq.symm, rfl⟩⟩

theorem mem_regRun {off n o : Nat} : o ∈ regRun off n ↔ ∃ i < n, o = off + 4 * i := by
  simp [regRun, eq_comm]

/-- No register below the run or beyond it is of it. -/
theorem not_mem_regRun {off n o : Nat} (h : o < off ∨ off + 4 * n ≤ o) : o ∉ regRun off n := by
  rw [mem_regRun]
  omega

namespace Kept

variable {s t : State} {d : Dev} {ex ev : List (Nat × Nat)}

theorem hrx (k : Kept s t d ex ev) : t.dev.hrx = d.hrx := (congrArg Dev.hrx k.hidden :)

theorem htx (k : Kept s t d ex ev) : t.dev.htx = d.htx := (congrArg Dev.htx k.hidden :)

theorem hr (k : Kept s t d ex ev) (n : Lane) : t.dev.hr n = d.hr n := congrArg (·.get n) k.hrx

end Kept

/-- A field that saturates at its largest code. -/
theorem Dev.incSat_g (d : Dev) (p : Nat) (f : Fld) (h : f.lo + f.w ≤ 32 := by decide) :
    (d.incSat p f).g p f = min (d.g p f + 1) (2 ^ f.w - 1) := by
  have hpos := Nat.two_pow_pos f.w
  exact (d.g_s_same _ _ _ h).trans (Nat.mod_eq_of_lt (by omega))

/-! Words in a row -/

theorem Dev.wrs_rd_at (d : Dev) {p off : Nat} {l : List Word} {i : Nat} (hi : i < l.length) (hlt : off + 4 * l.length ≤ 4096) :
    (d.wrs p off l).rd p (off + 4 * i) = l.getD i 0 := by
  induction l generalizing d off i with
  | nil => exact absurd hi (by simp)
  | cons w t ih =>
    rw [List.length_cons] at hi hlt
    cases i with
    | zero =>
      have hbefore : ((d.wr p off w).wrs p (off + 4) t).rd p off = (d.wr p off w).rd p off :=
        Dev.wrs_rd_before (by unfold regKey; omega) _ _
      exact hbefore.trans (d.rd_wr_same p off w)
    | succ j =>
      rw [show off + 4 * (j + 1) = off + 4 + 4 * j by omega]
      exact ih _ (by omega) (by omega)

theorem Dev.rds_length (d : Dev) (p off n : Nat) : (d.rds p off n).length = n := by
  induction n generalizing off with
  | zero => rfl
  | succ n ih => exact congrArg (· + 1) (ih _)

theorem Dev.rds_getD (d : Dev) {p off n i : Nat} (hi : i < n) : (d.rds p off n).getD i 0 = d.rd p (off + 4 * i) := by
  induction n generalizing off i with
  | zero => omega
  | succ n ih =>
    cases i with
    | zero => rfl
    | succ j =>
      rw [show off + 4 * (j + 1) = off + 4 + 4 * j by omega]
      exact ih (by omega)

theorem Dev.rds_congr {d e : Dev} {p q off off' n : Nat} (h : ∀ i < n, d.rd p (off + 4 * i) = e.rd q (off' + 4 * i)) :
    d.rds p off n = e.rds q off' n := by
  refine List.ext_getElem (by rw [Dev.rds_length, Dev.rds_length]) fun i h1 _ => ?_
  rw [Dev.rds_length] at h1
  rw [← List.getD_eq_getElem _ 0, ← List.getD_eq_getElem _ 0, Dev.rds_getD _ h1, Dev.rds_getD _ h1, h i h1]

/-! Wide counters -/

theorem Long.ofWords_lo_hi (v : Long) : Long.ofWords v.lo v.hi = v := by
  refine BitVec.eq_of_getLsbD_eq fun i hi => ?_
  rw [Long.ofWords, BitVec.getLsbD_append, Long.lo, Long.hi]
  by_cases h : i < 32
  · simp [h]
  · have h' : i - 32 < 32 := by omega
    simp [h, h', show 32 + (i - 32) = i by omega]

theorem Dev.rd64_wr64_same (d : Dev) (p off : Nat) (v : Long) (h : off + 4 < 4096 := by decide) : (d.wr64 p off v).rd64 p off = v := by
  have hlo : (d.wr64 p off v).rd p off = v.lo :=
    (Dev.rd_wr_off _ h (by omega) (by omega) _).trans (d.rd_wr_same p off v.lo)
  rw [Dev.rd64, hlo, Dev.wr64, Dev.rd_wr_same, Long.ofWords_lo_hi]

theorem Dev.rd64_congr {d e : Dev} {p off : Nat} (h : ∀ o ∈ [off, off + 4], d.rd p o = e.rd p o) : d.rd64 p off = e.rd64 p off := by
  rw [Dev.rd64, Dev.rd64, h off (by simp), h (off + 4) (by simp)]

end Sys2Proof.Machine
end

section
/-! The pattern checkers (O15, R76 to R78, R199), by the page of the checker and the sources it raises. -/

open Sys2Proof Sys2Proof.Machine

namespace Sys2Proof.Machine

/-! Lock -/

theorem Dev.prbsLock_free {d : Dev} {p : Nat} (h : d.g p fPrbsPattern ≠ 0) (hl : d.b p fPrbsLock = false) (src : Nat) :
    d.prbsLock p src = (d.sb p fPrbsLock true).raise p src := by
  rw [Dev.prbsLock, if_neg (by simp [h, hl])]

section
variable {s : State} {n : Lane} {p k src : Nat}

/-- PRBS_LOCK of a line lane (R77): a checker that is locked already stays as it is. -/
theorem prbsLock_locks (hc : s.calm) (hr : s.dev.runs (pLrx n)) (hp : s.dev.g (pLrx n) fPrbsPattern ≠ 0) :
    Yields (exec (.prbsLock .line n) s) fun t =>
      t.dev.b (pLrx n) fPrbsLock = true ∧
      t.dev.evt (pLrx n) 9 = (s.dev.evt (pLrx n) 9 || !s.dev.b (pLrx n) fPrbsLock) ∧
      Kept s t s.dev [(pLrx n, 0x084)] [(pLrx n, 9)] := by
  have k0 : DevKept [(pLrx n, 0x084)] [(pLrx n, 9)] s.dev s.dev s.dev := .refl _
  cases hl : s.dev.b (pLrx n) fPrbsLock with
  | true =>
    have hsame : s.dev.prbsLock (pLrx n) 9 = s.dev := if_pos (.inr hl)
    refine k0.yieldsOn hc hr hsame rfl (by simp) fun t hset kept => ⟨(hset.b _ fPrbsLock).trans hl, ?_, kept⟩
    rw [hset.evt _ _ (Dev.signals_lrx hr.powered).not_three, Bool.not_true, Bool.or_false]
  | false =>
    refine ((k0.sb true (by simp [fPrbsLock])).raise (by simp)).yieldsOn hc hr (Dev.prbsLock_free hp hl 9) rfl (by simp)
      fun t hset kept => ⟨?_, ?_, kept⟩
    · exact (hset.b _ fPrbsLock).trans ((Dev.b_raise _ _ _ _ fPrbsLock).trans (Dev.b_sb_same _ _ _ _ (by decide) rfl))
    · have hs : s.dev.Signals (pLrx n) 16 := Dev.signals_lrx hr.powered
      have hs' : (s.dev.sb (pLrx n) fPrbsLock true).Signals (pLrx n) 16 := hs.congr rfl
      rw [hset.evt _ _ hs.not_three, hs'.raise (by decide), Bool.not_false, Bool.or_true]

/-- PRBS_LOCK of a host lane, which has no source for it (R199). -/
theorem prbsLock_locks_host (hc : s.calm) (hr : s.dev.runs (pHrx n)) (hp : s.dev.g (pHrx n) fPrbsPattern ≠ 0) :
    Yields (exec (.prbsLock .host n) s) fun t =>
      t.dev.b (pHrx n) fPrbsLock = true ∧ Kept s t s.dev [(pHrx n, 0x084)] [] := by
  refine ((DevKept.refl s.dev).sb true (by simp [fPrbsLock])).yieldsOn hc hr (if_neg hp) rfl (by simp) fun t hset kept => ⟨?_, kept⟩
  exact (hset.b _ fPrbsLock).trans (Dev.b_sb_same _ _ _ _ (by decide) rfl)

/-- PRBS_LOCK_LOST on the page of a checker (R77). -/
theorem prbsLost_unlocks (hc : s.calm) (hr : s.dev.runs p) (hs : s.dev.Signals p k) (hsrc : src < k) (hl : s.dev.b p fPrbsLock = true) :
    Yields (actOn p s (·.prbsLost p src)) fun t =>
      t.dev.b p fPrbsLock = false ∧
      t.dev.g p fPrbsLoss = min (s.dev.g p fPrbsLoss + 1) 255 ∧
      t.dev.evt p src = true ∧
      Kept s t s.dev [(p, 0x084)] [(p, src)] := by
  have k0 : DevKept [(p, 0x084)] [(p, src)] s.dev s.dev s.dev := .refl _
  have hloss : (s.dev.sb p fPrbsLock false).g p fPrbsLoss = s.dev.g p fPrbsLoss := Dev.g_s_apart (by decide) ..
  refine (((k0.sb false (by simp [fPrbsLock])).incSat (f := fPrbsLoss) (by simp [fPrbsLoss])).raise (by simp)).yieldsOn hc hr
    (if_pos hl) rfl (by simp)
    fun t hset kept => ⟨?_, ?_, ?_, kept⟩
  · refine (hset.b _ fPrbsLock).trans ((Dev.b_raise _ _ _ _ fPrbsLock).trans ?_)
    exact (Dev.b_s_apart (by decide) ..).trans (Dev.b_sb_same _ _ _ _ (by decide) rfl)
  · refine (hset.g _ fPrbsLoss).trans ((Dev.g_raise _ _ _ _ fPrbsLoss).trans ((Dev.incSat_g _ _ fPrbsLoss).trans ?_))
    rw [hloss]
    rfl
  · have hs' : ((s.dev.sb p fPrbsLock false).incSat p fPrbsLoss).Signals p k := hs.congr rfl
    rw [hset.evt _ _ hs.not_three, hs'.raise hsrc]

end

/-! Counters -/

/-- The device with the three counters of the checker of page `p` moved on. -/
def Dev.prbsAdded (d : Dev) (p bits errBits errSyms : Nat) : Dev :=
  ((d.wr64 p 0x088 (count48 (d.rd64 p 0x088) bits).1).wr64 p 0x090 (count48 (d.rd64 p 0x090) errBits).1).wr64 p 0x098
    (count48 (d.rd64 p 0x098) errSyms).1

/-- ERR_BIT reaches its threshold, or wraps past it, for the first time since the clear. -/
def Dev.prbsReaches (d : Dev) (p : Nat) (raised : Bool) (errBits : Nat) : Bool :=
  !raised && ((count48 (d.rd64 p 0x090) errBits).2 || decide (2 ^ d.g p fPrbsErrExp ≤ (count48 (d.rd64 p 0x090) errBits).1.toNat))

/-- One of the counters wraps. -/
def Dev.prbsWraps (d : Dev) (p bits errBits errSyms : Nat) : Bool :=
  (count48 (d.rd64 p 0x088) bits).2 || (count48 (d.rd64 p 0x090) errBits).2 || (count48 (d.rd64 p 0x098) errSyms).2

theorem Dev.rd64_wr64_other (d : Dev) {p off o : Nat} (v : Long) (h : off + 8 ≤ o ∨ o + 8 ≤ off) (h1 : off + 4 < 4096)
    (h2 : o + 4 < 4096) :
    (d.wr64 p off v).rd64 p o = d.rd64 p o := by
  refine Dev.rd64_congr fun x hx => ?_
  simp only [List.mem_cons, List.not_mem_nil, or_false] at hx
  exact (Dev.rd_wr_off _ h1 (by omega) (by omega) _).trans (d.rd_wr_off (by omega) (by omega) (by omega) _)

theorem Dev.prbsAdded_reads (d : Dev) (p bits errBits errSyms : Nat) :
    (d.prbsAdded p bits errBits errSyms).rd64 p 0x088 = (count48 (d.rd64 p 0x088) bits).1 ∧
    (d.prbsAdded p bits errBits errSyms).rd64 p 0x090 = (count48 (d.rd64 p 0x090) errBits).1 ∧
    (d.prbsAdded p bits errBits errSyms).rd64 p 0x098 = (count48 (d.rd64 p 0x098) errSyms).1 := by
  refine ⟨?_, ?_, Dev.rd64_wr64_same _ _ _ _⟩
  · rw [Dev.prbsAdded, Dev.rd64_wr64_other _ _ (by decide) (by decide) (by decide),
      Dev.rd64_wr64_other _ _ (by decide) (by decide) (by decide), Dev.rd64_wr64_same _ _ _ _ (by decide)]
  · rw [Dev.prbsAdded, Dev.rd64_wr64_other _ _ (by decide) (by decide) (by decide), Dev.rd64_wr64_same _ _ _ _ (by decide)]

theorem DevKept.prbsAdded {ex ev : List (Nat × Nat)} {d h e : Dev} (k : DevKept ex ev d h e) {p : Nat} (hx : regsOf p (regRun 0x088 6) ⊆ ex)
    (bits errBits errSyms : Nat) : DevKept ex ev d h (e.prbsAdded p bits errBits errSyms) := by
  have hm : ∀ o ∈ regRun 0x088 6, (p, o) ∈ ex := fun o ho => hx (mem_regsOf.mpr ⟨rfl, ho⟩)
  exact ((k.wr64 _ (hm _ (by decide)) (hm _ (by decide))).wr64 _ (hm _ (by decide)) (hm _ (by decide))).wr64 _ (hm _ (by decide))
    (hm _ (by decide))

/-- A locked checker counts (R78). -/
theorem Dev.prbsCount_locked {d : Dev} {p : Nat} (hl : d.b p fPrbsLock = true) (srcErr srcOvf : Nat) (raised : Bool)
    (bits errBits errSyms : Nat) : d.prbsCount p srcErr srcOvf raised bits errBits errSyms =
      (((d.prbsAdded p bits errBits errSyms).raiseIf (d.prbsReaches p raised errBits) p srcErr).raiseIf
        (d.prbsWraps p bits errBits errSyms) p srcOvf, raised || d.prbsReaches p raised errBits) := by
  have hexp : (d.prbsAdded p bits errBits errSyms).g p fPrbsErrExp = d.g p fPrbsErrExp :=
    ((DevKept.refl (ev := []) d).prbsAdded (List.Subset.refl _) bits errBits errSyms).g (fun h =>
      not_mem_regRun (by decide) (mem_regsOf.mp h).2)
  rw [Dev.prbsCount, if_pos hl, Dev.prbsReaches, ← hexp]
  rfl

/-- What a count leaves on the page of a locked checker (R78): the counters, cnt_ovf where one wraps, and prbs_err where ERR_BIT is at
its threshold and prbs_err has not been raised since the clear. -/
structure PrbsCounts (d e : Dev) (p srcErr srcOvf : Nat) (raised : Bool) (b eb es : Nat) : Prop where
  bits : e.rd64 p 0x088 = (count48 (d.rd64 p 0x088) b).1
  errBits : e.rd64 p 0x090 = (count48 (d.rd64 p 0x090) eb).1
  errSyms : e.rd64 p 0x098 = (count48 (d.rd64 p 0x098) es).1
  ovf : e.evt p srcOvf = (d.evt p srcOvf || (count48 (d.rd64 p 0x088) b).2 || (count48 (d.rd64 p 0x090) eb).2 ||
    (count48 (d.rd64 p 0x098) es).2)
  err : 2 ^ d.g p fPrbsErrExp ≤ (e.rd64 p 0x090).toNat → e.evt p srcErr = (d.evt p srcErr || !raised)

section
variable {d : Dev} {p k srcErr srcOvf : Nat} {raised : Bool} {bits errBits errSyms : Nat}

theorem Dev.prbsCount_counts (hs : d.Signals p k) (he : srcErr < k) (ho : srcOvf < k) (hne : srcErr ≠ srcOvf)
    (hl : d.b p fPrbsLock = true) :
    PrbsCounts d (d.prbsCount p srcErr srcOvf raised bits errBits errSyms).1 p srcErr srcOvf raised bits errBits errSyms := by
  rw [Dev.prbsCount_locked hl]
  obtain ⟨hbits, herr, hsyms⟩ := d.prbsAdded_reads p bits errBits errSyms
  have hevt : ∀ x, (d.prbsAdded p bits errBits errSyms).evt p x = d.evt p x := fun x =>
    ((DevKept.refl (ev := []) d).prbsAdded (List.Subset.refl _) bits errBits errSyms).events p x List.not_mem_nil hs.page
  have hsa : (d.prbsAdded p bits errBits errSyms).Signals p k :=
    hs.congr ((DevKept.refl (ev := []) d).prbsAdded (List.Subset.refl _) bits errBits errSyms).offPages
  have hsr : ((d.prbsAdded p bits errBits errSyms).raiseIf (d.prbsReaches p raised errBits) p srcErr).Signals p k :=
    hsa.congr (Dev.raiseIf_offPages ..)
  have hrd : ∀ o, o + 4 < 4096 → 0x010 < o → (((d.prbsAdded p bits errBits errSyms).raiseIf (d.prbsReaches p raised errBits) p
      srcErr).raiseIf (d.prbsWraps p bits errBits errSyms) p srcOvf).rd64 p o = (d.prbsAdded p bits errBits errSyms).rd64 p o :=
    fun o h1 h2 => Dev.rd64_congr fun x hx => by
      simp only [List.mem_cons, List.not_mem_nil, or_false] at hx
      rw [Dev.rd_raiseIf _ _ _ _ _ _ (by omega) (by omega), Dev.rd_raiseIf _ _ _ _ _ _ (by omega) (by omega)]
  refine ⟨(hrd _ (by decide) (by decide)).trans hbits, (hrd _ (by decide) (by decide)).trans herr,
    (hrd _ (by decide) (by decide)).trans hsyms, ?_, fun hreach => ?_⟩
  · rw [hsr.raiseIf ho, hsa.raiseIf_other hne.symm, hevt, Dev.prbsWraps, Bool.or_assoc, Bool.or_assoc, Bool.or_assoc]
  · rw [hrd _ (by decide) (by decide), herr] at hreach
    rw [hsr.raiseIf_other hne, hsa.raiseIf he, hevt, Dev.prbsReaches, decide_eq_true hreach, Bool.or_true, Bool.and_true]

theorem Dev.prbsCount_kept (d : Dev) (hl : d.b p fPrbsLock = true) : DevKept (regsOf p (regRun 0x088 6)) [(p, srcErr), (p, srcOvf)] d d
    (d.prbsCount p srcErr srcOvf raised bits errBits errSyms).1 := by
  rw [Dev.prbsCount_locked hl]
  exact (((DevKept.refl d).prbsAdded (List.Subset.refl _) _ _ _).raiseIf _ (by simp)).raiseIf _ (by simp)

theorem PrbsCounts.settled {e t : Dev} (h : PrbsCounts d e p srcErr srcOvf raised bits errBits errSyms) (hset : Settled e t)
    (hp : p ≠ 0x03) : PrbsCounts d t p srcErr srcOvf raised bits errBits errSyms := by
  have hrd : ∀ o, o + 4 < 4096 → 0x010 < o → t.rd64 p o = e.rd64 p o := fun o h1 h2 => Dev.rd64_congr fun x hx => by
    simp only [List.mem_cons, List.not_mem_nil, or_false] at hx
    exact hset.rd _ _ (by omega) (by omega)
  obtain ⟨h1, h2, h3, h4, h5⟩ := h
  refine ⟨?_, ?_, ?_, (hset.evt _ _ hp).trans h4, fun hreach => (hset.evt _ _ hp).trans (h5 ?_)⟩
  · rw [hrd _ (by decide) (by decide), h1]
  · rw [hrd _ (by decide) (by decide), h2]
  · rw [hrd _ (by decide) (by decide), h3]
  · rwa [hrd _ (by decide) (by decide)] at hreach

end

theorem not_trial_regRun {p off n : Nat} (h : 0x048 < off) : (pTrial, 0x048) ∉ regsOf p (regRun off n) := fun hm =>
  not_mem_regRun (.inl h) (mem_regsOf.mp hm).2

section
variable {s : State} {n : Lane} {bits errBits errSyms : Nat}

/-- PRBS_ERR and CNT_OVF of a line lane. -/
theorem lrxPrbsCount_counts (hc : s.calm) (hr : s.dev.runs (pLrx n)) (hl : s.dev.b (pLrx n) fPrbsLock = true) :
    Yields (actOn (pLrx n) s (·.lrxPrbsCount n bits errBits errSyms)) fun t =>
      PrbsCounts s.dev t.dev (pLrx n) 11 12 (s.dev.lx n).prbsErr bits errBits errSyms ∧
      Kept s t (s.dev.updLrx n fun h => { h with prbsErr := (t.dev.lx n).prbsErr }) (regsOf (pLrx n) (regRun 0x088 6))
        [(pLrx n, 11), (pLrx n, 12)] := by
  have hs := Dev.signals_lrx hr.powered
  have hcounts := Dev.prbsCount_counts (raised := (s.dev.lx n).prbsErr) (bits := bits) (errBits := errBits) (errSyms := errSyms) hs
    (srcErr := 11) (srcOvf := 12) (by decide) (by decide) (by decide) hl
  have kcount := Dev.prbsCount_kept (srcErr := 11) (srcOvf := 12) (raised := (s.dev.lx n).prbsErr) (bits := bits) (errBits := errBits)
    (errSyms := errSyms) s.dev hl
  generalize hcount : s.dev.prbsCount (pLrx n) 11 12 (s.dev.lx n).prbsErr bits errBits errSyms = r at hcounts kcount
  have k := kcount.updLrx n fun h => { h with prbsErr := r.2 }
  refine k.yieldsOn hc hr (f := (·.lrxPrbsCount n bits errBits errSyms)) (by rw [Dev.lrxPrbsCount, hcount]) rfl
    (not_trial_regRun (by decide)) fun t hset kept => ⟨?_, ?_⟩
  · exact PrbsCounts.settled (e := r.1.updLrx n fun h => { h with prbsErr := r.2 })
      ⟨hcounts.bits, hcounts.errBits, hcounts.errSyms, hcounts.ovf, hcounts.err⟩ hset hs.not_three
  · rw [hset.lx, Dev.lx_updLrx_same]
    exact kept

/-- PRBS_ERR and CNT_OVF of a host lane. -/
theorem hrxPrbsCount_counts (hc : s.calm) (hr : s.dev.runs (pHrx n)) (hl : s.dev.b (pHrx n) fPrbsLock = true) :
    Yields (actOn (pHrx n) s (·.hrxPrbsCount n bits errBits errSyms)) fun t =>
      PrbsCounts s.dev t.dev (pHrx n) 8 9 (s.dev.hr n).prbsErr bits errBits errSyms ∧
      Kept s t (s.dev.updHrx n fun h => { h with prbsErr := (t.dev.hr n).prbsErr }) (regsOf (pHrx n) (regRun 0x088 6))
        [(pHrx n, 8), (pHrx n, 9)] := by
  have hs := Dev.signals_hrx hr.powered
  have hcounts := Dev.prbsCount_counts (raised := (s.dev.hr n).prbsErr) (bits := bits) (errBits := errBits) (errSyms := errSyms) hs
    (srcErr := 8) (srcOvf := 9) (by decide) (by decide) (by decide) hl
  have kcount := Dev.prbsCount_kept (srcErr := 8) (srcOvf := 9) (raised := (s.dev.hr n).prbsErr) (bits := bits) (errBits := errBits)
    (errSyms := errSyms) s.dev hl
  generalize hcount : s.dev.prbsCount (pHrx n) 8 9 (s.dev.hr n).prbsErr bits errBits errSyms = r at hcounts kcount
  have k := kcount.updHrx n fun h => { h with prbsErr := r.2 }
  refine k.yieldsOn hc hr (f := (·.hrxPrbsCount n bits errBits errSyms)) (by rw [Dev.hrxPrbsCount, hcount]) rfl
    (not_trial_regRun (by decide)) fun t hset kept => ⟨?_, ?_⟩
  · exact PrbsCounts.settled (e := r.1.updHrx n fun h => { h with prbsErr := r.2 })
      ⟨hcounts.bits, hcounts.errBits, hcounts.errSyms, hcounts.ovf, hcounts.err⟩ hset hs.not_three
  · rw [kept.hr, Dev.hr_updHrx_same]
    exact kept

end

/-! PRBS_CTRL -/

/-- PRBS_CTRL with the pattern changed or set off: the checker loses lock (R77). -/
def Dev.prbsRelock (d : Dev) (p : Nat) (old : Word) : Dev :=
  d.when (decide (getBits old 0 4 ≠ getBits (d.rd p 0x080) 0 4)) (·.sb p fPrbsLock false)

theorem Dev.prbsRelock_rd (d : Dev) {p q o : Nat} (old : Word) (ho : o < 4096) (hne : o ≠ 0x084) : (d.prbsRelock p old).rd q o = d.rd q o :=
  Dev.when_keeps (·.rd q o) (d.rd_s_off fPrbsLock _ (by decide) ho hne) _

theorem Dev.prbsRelock_loss (d : Dev) (p : Nat) (old : Word) : (d.prbsRelock p old).g p fPrbsLoss = d.g p fPrbsLoss := by
  rw [Dev.prbsRelock, Dev.g_when_sb (by decide)]

theorem DevKept.prbsRelock {ex ev : List (Nat × Nat)} {d h e : Dev} (k : DevKept ex ev d h e) {p : Nat} (h84 : (p, 0x084) ∈ ex)
    (old : Word) : DevKept ex ev d h (e.prbsRelock p old) := k.when (k.sb false h84) _

/-- The page with the counters copied to SNAP. -/
def Dev.prbsSnapped (d : Dev) (p : Nat) (v : Word) : Dev :=
  ((d.store p 0x080 v).wrs p 0x0A0 ((d.store p 0x080 v).rds p 0x088 6)).prbsRelock p (d.rd p 0x080)

/-- The page with the counters and the loss count at zero. -/
def Dev.prbsCleared (d : Dev) (p : Nat) (v : Word) : Dev :=
  (((d.store p 0x080 v).wrs p 0x088 [0, 0, 0, 0, 0, 0]).s p fPrbsLoss 0).prbsRelock p (d.rd p 0x080)

theorem Dev.prbsSnapped_reads (d : Dev) (p : Nat) (v : Word) :
    (d.prbsSnapped p v).rds p 0x0A0 6 = d.rds p 0x088 6 ∧ (d.prbsSnapped p v).rd p 0x080 = storeWord p 0x080 (d.rd p 0x080) v := by
  refine ⟨Dev.rds_congr fun i hi => ?_, ?_⟩
  · calc _ = ((d.store p 0x080 v).wrs p 0x0A0 ((d.store p 0x080 v).rds p 0x088 6)).rd p (0x0A0 + 4 * i) :=
          Dev.prbsRelock_rd _ _ (by omega) (by omega)
      _ = ((d.store p 0x080 v).rds p 0x088 6).getD i 0 := Dev.wrs_rd_at _ (by rwa [Dev.rds_length]) (by rw [Dev.rds_length]; decide)
      _ = (d.store p 0x080 v).rd p (0x088 + 4 * i) := Dev.rds_getD _ hi
      _ = d.rd p (0x088 + 4 * i) := d.rd_wr_off (by decide) (by omega) (by omega) _
  · rw [Dev.prbsSnapped, Dev.prbsRelock_rd _ _ (by decide) (by decide), Dev.wrs_rd_before (by unfold regKey; omega)]
    exact d.rd_wr_same p _ _

theorem Dev.prbsCleared_reads (d : Dev) (p : Nat) (v : Word) :
    (∀ o ∈ regRun 0x088 6, (d.prbsCleared p v).rd p o = 0) ∧ (d.prbsCleared p v).g p fPrbsLoss = 0 ∧
      (d.prbsCleared p v).rd p 0x080 = storeWord p 0x080 (d.rd p 0x080) v := by
  refine ⟨fun o ho => ?_, (Dev.prbsRelock_loss _ _ _).trans (Dev.g_s_same _ _ _ _ (by decide)), ?_⟩
  · obtain ⟨i, hi, rfl⟩ := mem_regRun.mp ho
    rw [Dev.prbsCleared, Dev.prbsRelock_rd _ _ (by omega) (by omega),
      Dev.rd_s_off _ fPrbsLoss _ (by decide) (by omega) (by simp only [fPrbsLoss]; omega), Dev.wrs_rd_at _ hi (by decide)]
    interval_cases i <;> rfl
  · rw [Dev.prbsCleared, Dev.prbsRelock_rd _ _ (by decide) (by decide), Dev.rd_s_off _ fPrbsLoss _ (by decide) (by decide) (by decide),
      Dev.wrs_rd_before (by unfold regKey; omega)]
    exact d.rd_wr_same p _ _

section
variable {d : Dev} {w : Who} {p : Nat} {v : Word}

theorem Dev.prbsCtrlWrite_snap (ht : d.takes w p 0x080) (h4 : v.getLsbD 4 = true) (h5 : v.getLsbD 5 = false) :
    d.prbsCtrlWrite w p v = (d.prbsSnapped p v).answered := by
  rw [Dev.prbsCtrlWrite, access_takes _ _ _ _ _ ht, h4, h5]
  rfl

theorem Dev.prbsCtrlWrite_clr (ht : d.takes w p 0x080) (h4 : v.getLsbD 4 = false) (h5 : v.getLsbD 5 = true) :
    d.prbsCtrlWrite w p v = (d.prbsCleared p v).answered := by
  rw [Dev.prbsCtrlWrite, access_takes _ _ _ _ _ ht, h4, h5]
  rfl

theorem Dev.prbsSnapped_kept (d : Dev) (p : Nat) (v : Word) :
    DevKept ([(p, 0x080), (p, 0x084)] ++ regsOf p (regRun 0x0A0 6)) [] d d (d.prbsSnapped p v) := by
  refine (DevKept.wrs ((DevKept.refl d).wr _ (by simp)) (fun i hi => ?_) (by rw [Dev.rds_length]; decide) (by decide)).prbsRelock (by simp) _
  rw [Dev.rds_length] at hi
  exact List.mem_append_right _ (mem_regsOf.mpr ⟨rfl, mem_regRun.mpr ⟨i, hi, rfl⟩⟩)

theorem Dev.prbsCleared_kept (d : Dev) (p : Nat) (v : Word) :
    DevKept ([(p, 0x080), (p, 0x084)] ++ regsOf p (regRun 0x088 6)) [] d d (d.prbsCleared p v) := by
  refine (DevKept.s (DevKept.wrs ((DevKept.refl d).wr _ (by simp)) (fun i hi => ?_) (by decide) (by decide)) 0
    (by simp [fPrbsLoss])).prbsRelock (by simp) _
  exact List.mem_append_right _ (mem_regsOf.mpr ⟨rfl, mem_regRun.mpr ⟨i, hi, rfl⟩⟩)

end

theorem not_trial_prbs {p off n : Nat} (h : 0x048 < off) : (pTrial, 0x048) ∉ [(p, 0x080), (p, 0x084)] ++ regsOf p (regRun off n) :=
  fun hm => (List.mem_append.mp hm).elim (by simp) (not_trial_regRun h)

section
variable {s : State} {w : Who} {p : Nat} {v : Word} {f : Dev → Dev}

/-- PRBS_SNAP: a write of PRBS_CTRL with snap and without clr (R78). -/
theorem prbsSnap_copies (hc : s.calm) (hf : f s.dev = (s.dev.prbsSnapped p v).answered) : Yields (act s f) fun t =>
    t.dev.rds p 0x0A0 6 = s.dev.rds p 0x088 6 ∧ t.dev.rd p 0x080 = storeWord p 0x080 (s.dev.rd p 0x080) v ∧
    Kept s t s.dev.answered ([(p, 0x080), (p, 0x084)] ++ regsOf p (regRun 0x0A0 6)) [] := by
  obtain ⟨hsnap, hctrl⟩ := s.dev.prbsSnapped_reads p v
  refine (s.dev.prbsSnapped_kept p v).answered.yields hc hf rfl (not_trial_prbs (by decide)) fun t hset kept => ⟨?_, ?_, kept⟩
  · exact (Dev.rds_congr fun i hi => hset.rd _ _ (by omega) (by omega)).trans hsnap
  · exact (hset.rd _ _ (by decide) (by decide)).trans hctrl

/-- PRBS_CLR: a write of PRBS_CTRL with clr and without snap (R78); `e` is the device with prbs_err free to be raised again. -/
theorem prbsClr_zeroes {h e : Dev} (hc : s.calm) (k : DevKept ([(p, 0x080), (p, 0x084)] ++ regsOf p (regRun 0x088 6)) [] s.dev h e)
    (hregs : e.regs = (s.dev.prbsCleared p v).regs) (hlife : h.life = s.dev.life) (hf : f s.dev = e) :
    Yields (act s f) fun t =>
      (∀ o ∈ regRun 0x088 6, t.dev.rd p o = 0) ∧ t.dev.g p fPrbsLoss = 0 ∧
      t.dev.rd p 0x080 = storeWord p 0x080 (s.dev.rd p 0x080) v ∧
      Kept s t h ([(p, 0x080), (p, 0x084)] ++ regsOf p (regRun 0x088 6)) [] := by
  have hrd : ∀ q o, e.rd q o = (s.dev.prbsCleared p v).rd q o := fun q o => by rw [Dev.rd, hregs, ← Dev.rd]
  obtain ⟨hzero, hloss, hctrl⟩ := s.dev.prbsCleared_reads p v
  refine k.yields hc hf hlife (not_trial_prbs (by decide)) fun t hset kept => ⟨fun o ho => ?_, ?_, ?_, kept⟩
  · have hlt : o < 4096 ∧ o ≠ 0x010 := by
      obtain ⟨i, hi, rfl⟩ := mem_regRun.mp ho
      omega
    rw [hset.rd _ _ hlt.1 hlt.2, hrd, hzero o ho]
  · rw [hset.g _ fPrbsLoss, Dev.g_congr (hrd _ _), hloss]
  · rw [hset.rd _ _ (by decide) (by decide), hrd, hctrl]

end

section
variable {s : State} {sd : Side} {w : Who} {n : Lane} {v : Word}

theorem snap_bits (h : v.getLsbD 5 = false) : (v ||| 0x10).getLsbD 4 = true ∧ (v ||| 0x10).getLsbD 5 = false := by
  simpa using h

theorem clr_bits (h : v.getLsbD 4 = false) : (v ||| 0x20).getLsbD 4 = false ∧ (v ||| 0x20).getLsbD 5 = true := by
  simpa using h

theorem Dev.lrxPrbsWrite_takes {d : Dev} (ht : d.takes w (pLrx n) 0x080) : d.lrxPrbsWrite w n v =
    (d.prbsCtrlWrite w (pLrx n) v).when (v.getLsbD 5) (·.updLrx n fun h => { h with prbsErr := false }) := by
  have hok : (d.writeStatus w (pLrx n) 0x080 == .ok) = true := by rw [show d.writeStatus w (pLrx n) 0x080 = .ok from ht]; rfl
  simp only [Dev.lrxPrbsWrite, hok, Bool.true_and]

theorem Dev.hrxPrbsWrite_takes {d : Dev} (ht : d.takes w (pHrx n) 0x080) : d.hrxPrbsWrite w n v =
    (d.prbsCtrlWrite w (pHrx n) v).when (v.getLsbD 5) (·.updHrx n fun h => { h with prbsErr := false }) := by
  have hok : (d.writeStatus w (pHrx n) 0x080 == .ok) = true := by rw [show d.writeStatus w (pHrx n) 0x080 = .ok from ht]; rfl
  simp only [Dev.hrxPrbsWrite, hok, Bool.true_and]

theorem prbsSnap_line (hc : s.calm) (ht : s.dev.takes w (pLrx n) 0x080) (h5 : v.getLsbD 5 = false) :
    Yields (exec (.prbsSnap .line w n v) s) fun t =>
      t.dev.rds (pLrx n) 0x0A0 6 = s.dev.rds (pLrx n) 0x088 6 ∧
      t.dev.rd (pLrx n) 0x080 = storeWord (pLrx n) 0x080 (s.dev.rd (pLrx n) 0x080) (v ||| 0x10) ∧
      Kept s t s.dev.answered ([(pLrx n, 0x080), (pLrx n, 0x084)] ++ regsOf (pLrx n) (regRun 0x0A0 6)) [] := by
  obtain ⟨h4', h5'⟩ := snap_bits h5
  refine prbsSnap_copies hc (f := (·.lrxPrbsWrite w n (v ||| 0x10))) ?_
  rw [Dev.lrxPrbsWrite_takes ht, Dev.prbsCtrlWrite_snap ht h4' h5', h5']
  rfl

theorem prbsSnap_host (hc : s.calm) (ht : s.dev.takes w (pHrx n) 0x080) (h5 : v.getLsbD 5 = false) :
    Yields (exec (.prbsSnap .host w n v) s) fun t =>
      t.dev.rds (pHrx n) 0x0A0 6 = s.dev.rds (pHrx n) 0x088 6 ∧
      t.dev.rd (pHrx n) 0x080 = storeWord (pHrx n) 0x080 (s.dev.rd (pHrx n) 0x080) (v ||| 0x10) ∧
      Kept s t s.dev.answered ([(pHrx n, 0x080), (pHrx n, 0x084)] ++ regsOf (pHrx n) (regRun 0x0A0 6)) [] := by
  obtain ⟨h4', h5'⟩ := snap_bits h5
  refine prbsSnap_copies hc (f := (·.hrxPrbsWrite w n (v ||| 0x10))) ?_
  rw [Dev.hrxPrbsWrite_takes ht, Dev.prbsCtrlWrite_snap ht h4' h5', h5']
  rfl

theorem prbsClr_line (hc : s.calm) (ht : s.dev.takes w (pLrx n) 0x080) (h4 : v.getLsbD 4 = false) :
    Yields (exec (.prbsClr .line w n v) s) fun t =>
      (∀ o ∈ regRun 0x088 6, t.dev.rd (pLrx n) o = 0) ∧ t.dev.g (pLrx n) fPrbsLoss = 0 ∧
      t.dev.rd (pLrx n) 0x080 = storeWord (pLrx n) 0x080 (s.dev.rd (pLrx n) 0x080) (v ||| 0x20) ∧
      Kept s t (s.dev.answered.updLrx n fun h => { h with prbsErr := false })
        ([(pLrx n, 0x080), (pLrx n, 0x084)] ++ regsOf (pLrx n) (regRun 0x088 6)) [] := by
  obtain ⟨h4', h5'⟩ := clr_bits h4
  refine prbsClr_zeroes hc (f := (·.lrxPrbsWrite w n (v ||| 0x20)))
    ((s.dev.prbsCleared_kept (pLrx n) (v ||| 0x20)).answered.updLrx n fun h => { h with prbsErr := false }) rfl rfl ?_
  rw [Dev.lrxPrbsWrite_takes ht, Dev.prbsCtrlWrite_clr ht h4' h5', h5']
  rfl

theorem prbsClr_host (hc : s.calm) (ht : s.dev.takes w (pHrx n) 0x080) (h4 : v.getLsbD 4 = false) :
    Yields (exec (.prbsClr .host w n v) s) fun t =>
      (∀ o ∈ regRun 0x088 6, t.dev.rd (pHrx n) o = 0) ∧ t.dev.g (pHrx n) fPrbsLoss = 0 ∧
      t.dev.rd (pHrx n) 0x080 = storeWord (pHrx n) 0x080 (s.dev.rd (pHrx n) 0x080) (v ||| 0x20) ∧
      Kept s t (s.dev.answered.updHrx n fun h => { h with prbsErr := false })
        ([(pHrx n, 0x080), (pHrx n, 0x084)] ++ regsOf (pHrx n) (regRun 0x088 6)) [] := by
  obtain ⟨h4', h5'⟩ := clr_bits h4
  refine prbsClr_zeroes hc (f := (·.hrxPrbsWrite w n (v ||| 0x20)))
    ((s.dev.prbsCleared_kept (pHrx n) (v ||| 0x20)).answered.updHrx n fun h => { h with prbsErr := false }) rfl rfl ?_
  rw [Dev.hrxPrbsWrite_takes ht, Dev.prbsCtrlWrite_clr ht h4' h5', h5']
  rfl

end

/-- Settles O15: what a checker does is said once for the page it stands on; the sides differ in their sources and in the latch of
prbs_err. -/
theorem patternCheckersCount : Obligations.PatternCheckersCount := by
  refine ⟨?lock, ?lost, ?count, ?count, ?snap, ?clr⟩
  case lock =>
    rintro s (_ | _) n hc hr hp
    · obtain ⟨t, ht, hl, he, kept⟩ := prbsLock_locks hc hr hp
      exact ⟨t, ht, hl, fun _ => he, kept⟩
    · obtain ⟨t, ht, hl, kept⟩ := prbsLock_locks_host hc hr hp
      exact ⟨t, ht, hl, (by simp), kept⟩
  case lost =>
    rintro s (_ | _) n hc hr hl
    · exact prbsLost_unlocks hc hr (Dev.signals_lrx hr.powered) (by decide) hl
    · exact prbsLost_unlocks hc hr (Dev.signals_hrx hr.powered) (by decide) hl
  case count =>
    rintro s (_ | _) n bits errBits errSyms hc hr hl
    · obtain ⟨t, ht, h, kept⟩ := lrxPrbsCount_counts (bits := bits) (errBits := errBits) (errSyms := errSyms) hc hr hl
      exact ⟨t, ht, h.bits, h.errBits, h.errSyms, h.ovf, h.err, kept⟩
    · obtain ⟨t, ht, h, kept⟩ := hrxPrbsCount_counts (bits := bits) (errBits := errBits) (errSyms := errSyms) hc hr hl
      exact ⟨t, ht, h.bits, h.errBits, h.errSyms, h.ovf, h.err, kept⟩
  case snap =>
    rintro s (_ | _) w n v hc ht h5
    · exact prbsSnap_line hc ht h5
    · exact prbsSnap_host hc ht h5
  case clr =>
    rintro s (_ | _) w n v hc ht h4
    · exact prbsClr_line hc ht h4
    · exact prbsClr_host hc ht h4

end Sys2Proof.Machine
end

section
/-! The operations of a line lane that its receiver events and its training reach: what each does and what it leaves alone (R58, R75, R91,
R92, R94, R105). -/

open Sys2Proof Sys2Proof.Machine

namespace Sys2Proof.Machine

/-! Pages -/

@[simp] theorem lrx_ne_pacer (n m : Lane) : pLrx n ≠ pPacer m := (pacer_ne_lrx m n).symm

@[simp] theorem lrx_ne_capture (n : Lane) : pLrx n ≠ 0x12 := by unfold pLrx; omega

@[simp] theorem pacer_ne_capture (n : Lane) : pPacer n ≠ 0x12 := by unfold pPacer; omega

@[simp] theorem hrx_ne_capture (n : Lane) : pHrx n ≠ 0x12 := by unfold pHrx; omega

@[simp] theorem trial_ne_capture : pTrial ≠ 0x12 := by decide

/-- The registers of CAPTURE that show the inversion of a stream's lane (R251). -/
abbrev capRegs : List (Nat × Nat) := regsOf 0x12 (regRun 0x080 8)

theorem not_mem_capRegs {p off : Nat} (h : p ≠ 0x12) : (p, off) ∉ capRegs := fun hm => h (mem_regsOf.mp hm).1

/-- A register of no page of `ex` but of a lane, beside the run of CAPTURE. -/
theorem not_mem_append_capRegs {ex : List (Nat × Nat)} {p off : Nat} (h : (p, off) ∉ ex) (hp : p ≠ 0x12) : (p, off) ∉ ex ++ capRegs :=
  fun hm => (List.mem_append.mp hm).elim h (not_mem_capRegs hp)

theorem DevKept.captureLaneLeft {ex ev : List (Nat × Nat)} {d h e : Dev} (k : DevKept ex ev d h e) (hx : capRegs ⊆ ex) (side : Nat)
    (n : Lane) : DevKept ex ev d h (e.captureLaneLeft side n) := by
  unfold Dev.captureLaneLeft
  split
  · refine DevKept.foldl (fun e x hm ke => ke.when (ke.sb true (hx ?_) ?_ ?_) _) k
    all_goals have hlt : x < 8 := List.mem_range.mp hm
    · exact mem_regsOf.mpr ⟨rfl, mem_regRun.mpr ⟨x, hlt, rfl⟩⟩
    · simp only [fStrInv]; omega
    · simp only [fStrInv]; omega
  · exact k

/-! Leaving TRAIN, RUN and HOLD -/

/-- The Pacer's hidden part once the Pacer has stopped (R92, R105). -/
def PacerH.stopped (h : PacerH) : PacerH :=
  { h with cand := none, pend := none, req := false, fade := none, pace := none, search := none, accepted := false }

/-- The hidden state once a lane has left the states in which the Pacer works (R75, R92, R197). -/
def Dev.laneStopped (h : Dev) (n : Lane) : Dev :=
  ((h.updLrx n fun x => { x with run := none }).updPacer n PacerH.stopped).updHtx n fun x => { x with glide := false }

theorem Dev.laneStopped_life (d : Dev) (n : Lane) : (d.laneStopped n).life = d.life := rfl

/-- A Pacer that does no work: no phase, no Handoff (R92, R105). -/
structure Dev.PacerIdle (d : Dev) (n : Lane) : Prop where
  phase : d.g (pPacer n) fPhase = 0
  fade : d.b (pPacer n) fPcFade = false
  step : d.g (pPacer n) fHandoffStep = 0

/-- The registers of the Pacer that tell of its work. -/
abbrev pacerStatusRegs (n : Lane) : List (Nat × Nat) := [(pPacer n, 0x044), (pPacer n, 0x05C), (pPacer n, 0x064)]

section
variable {ex ev : List (Nat × Nat)} {d h e : Dev} {n : Lane}

theorem DevKept.pacerStop (k : DevKept ex ev d h e) (hx : pacerStatusRegs n ⊆ ex) :
    DevKept ex ev d (h.updPacer n PacerH.stopped) (e.pacerStop n) := by
  have h44 : (pPacer n, 0x044) ∈ ex := hx (by simp)
  have h5C : (pPacer n, 0x05C) ∈ ex := hx (by simp)
  have h64 : (pPacer n, 0x064) ∈ ex := hx (by simp)
  have kfade := (((k.updPacer n PacerH.stopped).sb (f := fPcFade) false h44).s (f := fHandoffStep) 0 h44).sb (f := fPcSwapPending) false h44
  exact ((kfade.sb (f := fPaceBusy) false h5C).s (f := fPhase) 0 h64).sb (f := fPcTraining) false h44

theorem Dev.pacerStop_idle (d : Dev) (n : Lane) : (d.pacerStop n).PacerIdle n := by
  have hreads : (d.pacerStop n).g (pPacer n) fPhase = 0 ∧ (d.pacerStop n).b (pPacer n) fPcFade = false ∧
      (d.pacerStop n).g (pPacer n) fHandoffStep = 0 := by
    simp (disch := decide) only [Dev.pacerStop, Dev.b, Dev.sb, Dev.g_s_apart, Dev.g_s_same]
    decide
  obtain ⟨hphase, hfade, hstep⟩ := hreads
  exact ⟨hphase, hfade, hstep⟩

theorem Dev.pacerStop_lrx (d : Dev) (n m : Lane) {f : Fld} (hlt : f.off < 4096 := by decide) (hne : f.off ≠ 0x010 := by decide) :
    (d.pacerStop n).g (pLrx m) f = d.g (pLrx m) f :=
  ((DevKept.refl (ev := []) d).pacerStop (List.Subset.refl _)).g (by simp) hlt hne

/-- A field that no abandoned calibration run touches. -/
abbrev Fld.outsideCal (f : Fld) : Prop := f.apart fLrxCalBusy ∧ f.apart fLrxCalPending ∧ f.apart fCalAbandoned ∧ f.apart fCalApplied ∧
  f.apart fCalReason ∧ f.off ≠ 0x010

theorem Dev.lrxCalAbandon_g {f : Fld} (hf : f.outsideCal) (d : Dev) (n : Lane) (reason q : Nat) (keep : Bool) :
    (d.lrxCalAbandon n reason keep).g q f = d.g q f := by
  obtain ⟨hbusy, hpend, hab, hap, hre, hne⟩ := hf
  unfold Dev.lrxCalAbandon
  split
  · rfl
  · refine (Dev.g_raise _ _ _ _ _ hbusy.1 hne).trans ((Dev.g_when_sb hpend ..).trans ?_)
    rw [Dev.calResultAbandoned, Dev.g_s_apart hre, Dev.sb, Dev.g_s_apart hap, Dev.sb, Dev.g_s_apart hab, Dev.sb, Dev.g_s_apart hbusy]
    rfl

theorem Dev.lrxCalAbandon_busy (d : Dev) (n : Lane) (reason : Nat) (keep : Bool) :
    (d.lrxCalAbandon n reason keep).b (pLrx n) fLrxCalBusy = (d.b (pLrx n) fLrxCalBusy && (d.lx n).run.isNone) := by
  unfold Dev.lrxCalAbandon
  split
  case h_1 hr => rw [hr, Option.isNone_none, Bool.and_true]
  case h_2 r hr =>
    rw [hr, Option.isNone_some, Bool.and_false, Dev.b_raise _ _ _ _ fLrxCalBusy]
    rw [Dev.b, Dev.g_when_sb (by decide)]
    simp (disch := decide) only [Dev.calResultAbandoned, Dev.sb, Dev.g_s_apart, Dev.g_s_same]
    decide

/-- A lane stops: CAPTURE notes it only where the lane was valid. -/
theorem DevKept.laneStop (k : DevKept ex ev d h e) (h44 : (pLrx n, 0x044) ∈ ex) (h78 : (pLrx n, 0x078) ∈ ex)
    (hp : pacerStatusRegs n ⊆ ex) (hcap : e.laneValid n = true → capRegs ⊆ ex) (h6 : (pLrx n, 6) ∈ ev) (reason : Nat) :
    DevKept ex ev d (h.laneStopped n) (e.laneStop n reason) := by
  have kcap : DevKept ex ev d h (e.when (e.laneValid n) (·.captureLaneLeft 0 n)) := by
    unfold Dev.when
    split
    case isTrue hv => exact k.captureLaneLeft (hcap hv) 0 n
    case isFalse => exact k
  exact ((kcap.lrxCalAbandon h44 h78 h6 reason _).pacerStop hp).updHtx n _

theorem Dev.captureLaneLeft_g (d : Dev) (side : Nat) (m : Lane) {p : Nat} {f : Fld} (hp : p ≠ 0x12) (hlt : f.off < 4096)
    (hne : f.off ≠ 0x010) : (d.captureLaneLeft side m).g p f = d.g p f :=
  ((DevKept.refl (ev := []) d).captureLaneLeft (List.Subset.refl _) side m).g (not_mem_capRegs hp) hlt hne

/-- What is left of a lane that stops before its Pacer stops. -/
def Dev.runLeft (d : Dev) (n : Lane) (reason : Nat) : Dev :=
  let e := d.when (d.laneValid n) (·.captureLaneLeft 0 n)
  e.lrxCalAbandon n reason (e.laneState n != stTrain)

/-- The hidden part of a transmitter says nothing of a field. -/
theorem Dev.g_updHtx (d : Dev) (n : Lane) (f : HtxH → HtxH) (q : Nat) (g : Fld) : (d.updHtx n f).g q g = d.g q g := rfl

theorem Dev.laneStop_g (d : Dev) (n : Lane) (reason q : Nat) (f : Fld) :
    (d.laneStop n reason).g q f = ((d.runLeft n reason).pacerStop n).g q f := Dev.g_updHtx _ n (fun x => { x with glide := false }) q f

theorem Dev.laneStop_lrx {f : Fld} (hf : f.outsideCal) (d : Dev) (n : Lane) (reason : Nat) :
    (d.laneStop n reason).g (pLrx n) f = d.g (pLrx n) f := by
  have hlt := hf.1.1
  have hne := hf.2.2.2.2.2
  calc _ = ((d.runLeft n reason).pacerStop n).g (pLrx n) f := d.laneStop_g ..
    _ = (d.runLeft n reason).g (pLrx n) f := Dev.pacerStop_lrx _ n n hlt hne
    _ = (d.when (d.laneValid n) (·.captureLaneLeft 0 n)).g (pLrx n) f := Dev.lrxCalAbandon_g hf ..
    _ = d.g (pLrx n) f := Dev.g_when (d.captureLaneLeft_g 0 n (lrx_ne_capture n) hlt hne) _

theorem Dev.laneStop_busy (d : Dev) (n : Lane) (reason : Nat) :
    (d.laneStop n reason).b (pLrx n) fLrxCalBusy = (d.b (pLrx n) fLrxCalBusy && (d.lx n).run.isNone) := by
  have hcap : DevKept capRegs [] d d (d.when (d.laneValid n) (·.captureLaneLeft 0 n)) :=
    (DevKept.refl d).when ((DevKept.refl d).captureLaneLeft (List.Subset.refl _) 0 n) _
  calc _ = ((d.runLeft n reason).pacerStop n).b (pLrx n) fLrxCalBusy := congrArg (· == 1) (d.laneStop_g ..)
    _ = (d.runLeft n reason).b (pLrx n) fLrxCalBusy := congrArg (· == 1) (Dev.pacerStop_lrx _ n n (f := fLrxCalBusy))
    _ = _ := Dev.lrxCalAbandon_busy ..
    _ = _ := by rw [hcap.b (not_mem_capRegs (lrx_ne_capture n)), hcap.lx]

theorem Dev.laneStop_idle (d : Dev) (n : Lane) (reason : Nat) : (d.laneStop n reason).PacerIdle n := by
  obtain ⟨hphase, hfade, hstep⟩ := (d.runLeft n reason).pacerStop_idle n
  exact ⟨(d.laneStop_g ..).trans hphase, (congrArg (· == 1) (d.laneStop_g ..)).trans hfade, (d.laneStop_g ..).trans hstep⟩

/-! SEEK -/

/-- What changes where a lane goes to another state touches no page but its own. -/
theorem Dev.laneTo_pacer (d : Dev) (n m : Lane) (st : Nat) (f : Fld) (hlt : f.off < 4096 := by decide) :
    (d.laneTo n st).g (pPacer m) f = d.g (pPacer m) f :=
  Dev.g_congr (d.rd_s_page fLrxState st (by decide) hlt (pacer_ne_lrx m n))

theorem DevKept.laneSeek (k : DevKept ex ev d h e) (h44 : (pLrx n, 0x044) ∈ ex) (h78 : (pLrx n, 0x078) ∈ ex)
    (hp : pacerStatusRegs n ⊆ ex) (hcap : e.laneValid n = true → capRegs ⊆ ex) (h6 : (pLrx n, 6) ∈ ev) (reason : Nat) :
    DevKept ex ev d (h.laneStopped n) (e.laneSeek n reason) := (k.laneStop h44 h78 hp hcap h6 reason).s _ h44

theorem Dev.laneSeek_state (d : Dev) (n : Lane) (reason : Nat) : (d.laneSeek n reason).laneState n = stSeek :=
  Dev.laneState_laneTo _ _ (by decide)

theorem Dev.laneSeek_lrx {f : Fld} (hf : f.outsideCal) (hs : f.apart fLrxState) (d : Dev) (n : Lane) (reason : Nat) :
    (d.laneSeek n reason).g (pLrx n) f = d.g (pLrx n) f := (Dev.g_s_apart hs ..).trans (Dev.laneStop_lrx hf ..)

theorem Dev.laneSeek_busy (d : Dev) (n : Lane) (reason : Nat) :
    (d.laneSeek n reason).b (pLrx n) fLrxCalBusy = (d.b (pLrx n) fLrxCalBusy && (d.lx n).run.isNone) :=
  (Dev.b_s_apart (by decide) ..).trans (Dev.laneStop_busy ..)

theorem Dev.laneSeek_pacer (d : Dev) (n : Lane) (reason : Nat) : (d.laneSeek n reason).g (pPacer n) fPhase = 0 ∧
    (d.laneSeek n reason).b (pPacer n) fPcFade = false := by
  obtain ⟨hphase, hfade, -⟩ := d.laneStop_idle n reason
  exact ⟨(Dev.laneTo_pacer _ n n stSeek fPhase).trans hphase, (congrArg (· == 1) (Dev.laneTo_pacer _ n n stSeek fPcFade)).trans hfade⟩

/-! Training phases -/

/-- Training at phase `k`: the phase, whether the engines train, and the level that the phase runs at (R91, R94). -/
def Dev.phaseSet (d : Dev) (n : Lane) (k : Nat) : Dev :=
  let e := d.s (pPacer n) fPhase k
  let e := e.sb (pPacer n) fPcTraining (e.enginesHere n || decide (k ≤ 3))
  e.setLevel n (e.trainLevel n)

/-- Phases 4 and 5 have effects of their own; every other one is `phaseSet`. With fe_manual phase 2 is skipped (R94). -/
theorem Dev.trainPhase_eq (d : Dev) (n : Lane) {k k' : Nat} (snr : Nat)
    (hk : (if d.b (pLrx n) fLrxFeManual && (k == 2 || k == 5) then k + 1 else k) = k') (h4 : k' ≠ 4) (h5 : k' ≠ 5) :
    d.trainPhase n k snr = d.phaseSet n k' := by
  unfold Dev.trainPhase
  simp only [hk, if_neg h4, if_neg h5]
  rfl

theorem Dev.trainPhase_two (d : Dev) (n : Lane) (snr : Nat) :
    d.trainPhase n 2 snr = d.phaseSet n (if d.b (pLrx n) fLrxFeManual then 3 else 2) := by
  refine d.trainPhase_eq n snr ?_ ?_ ?_ <;> cases d.b (pLrx n) fLrxFeManual <;> decide

theorem DevKept.setLevel (k : DevKept ex ev d h e) (h44 : (pPacer n, 0x044) ∈ ex) (h5C : (pPacer n, 0x05C) ∈ ex) (l : Nat) :
    DevKept ex ev d h (e.setLevel n l) := (k.s (f := fPaceLive) l h5C).sb (f := fMlse16) _ h44

theorem DevKept.phaseSet (k : DevKept ex ev d h e) (hx : pacerStatusRegs n ⊆ ex) (ph : Nat) : DevKept ex ev d h (e.phaseSet n ph) :=
  ((k.s (f := fPhase) ph (hx (by simp [fPhase]))).sb (f := fPcTraining) _ (hx (by simp [fPcTraining]))).setLevel (hx (by simp))
    (hx (by simp)) _

theorem Dev.phaseSet_lrx (d : Dev) (n m : Lane) (k : Nat) {f : Fld} (hlt : f.off < 4096 := by decide) (hne : f.off ≠ 0x010 := by decide) :
    (d.phaseSet n k).g (pLrx m) f = d.g (pLrx m) f :=
  ((DevKept.refl (ev := []) d).phaseSet (List.Subset.refl _) k).g (by simp) hlt hne

theorem Dev.phaseSet_phase (d : Dev) (n : Lane) {k : Nat} (hk : k < 8) : (d.phaseSet n k).g (pPacer n) fPhase = k := by
  simp (disch := decide) only [Dev.phaseSet, Dev.setLevel, Dev.sb, Dev.g_s_apart, Dev.g_s_same]
  exact Nat.mod_eq_of_lt hk

theorem Dev.setLevel_live (d : Dev) (n : Lane) {l : Nat} (hl : l < 8) : (d.setLevel n l).g (pPacer n) fPaceLive = l := by
  simp (disch := decide) only [Dev.setLevel, Dev.sb, Dev.g_s_apart, Dev.g_s_same]
  exact Nat.mod_eq_of_lt hl

theorem Dev.g_lt (d : Dev) (p : Nat) (f : Fld) : d.g p f < 2 ^ f.w := Nat.mod_lt _ (Nat.two_pow_pos _)

/-- Outside phase 4 the lane trains at its pace target (R91). -/
theorem Dev.phaseSet_live (d : Dev) (n : Lane) {k : Nat} (hk : k < 8) (h4 : k ≠ 4) :
    (d.phaseSet n k).g (pPacer n) fPaceLive = d.g (pPacer n) fPaceTarget := by
  have hphase : ∀ on, ((d.s (pPacer n) fPhase k).sb (pPacer n) fPcTraining on).g (pPacer n) fPhase = k := fun on => by
    simp (disch := decide) only [Dev.sb, Dev.g_s_apart, Dev.g_s_same]
    exact Nat.mod_eq_of_lt hk
  have htarget : ∀ on, ((d.s (pPacer n) fPhase k).sb (pPacer n) fPcTraining on).g (pPacer n) fPaceTarget = d.g (pPacer n) fPaceTarget :=
    fun on => by simp (disch := decide) only [Dev.sb, Dev.g_s_apart]
  unfold Dev.phaseSet
  simp only [Dev.trainLevel, hphase, htarget, if_neg h4]
  exact Dev.setLevel_live _ n (d.g_lt _ fPaceTarget)

end

end Sys2Proof.Machine
end

section
/-! The operations of a host lane that its receiver events reach (R186, R187, R191, R202). -/

open Sys2Proof Sys2Proof.Machine

namespace Sys2Proof.Machine

/-! Pages -/

@[simp] theorem hrx_ne_htx (n m : Lane) : pHrx n ≠ pHtx m := by unfold pHrx pHtx; omega

/-! Training stops -/

/-- The hidden part of a host receiver whose training has stopped. -/
def HrxH.stopped (h : HrxH) : HrxH :=
  { h with search := none, valid3 := 0, ready16 := 0, announced := false, failRun := 0, passRun := 0 }

/-- The hidden state once training has stopped: a line transmitter that follows the lane holds its rate (R197). -/
def Dev.hostStopped (h : Dev) (n : Lane) : Dev := (h.updHrx n HrxH.stopped).updLtx n fun x => { x with glide := false }

/-- TRN_STATUS of a lane that does not train: its phase and readiness read 0 (R202). -/
def Dev.trainingZero (d : Dev) (n : Lane) : Dev :=
  ((d.s (pHrx n) fHostPhase 0).sb (pHrx n) fLocalReady false).sb (pHrx n) fFarReady false

theorem Dev.g_hostStopped (d : Dev) (n : Lane) (q : Nat) (f : Fld) : (d.hostStopped n).g q f = d.g q f := rfl

theorem Dev.hostStop_eq (d : Dev) (n : Lane) :
    d.hostStop n = ((d.when (d.hostValid n) (·.captureLaneLeft 1 n)).trainingZero n).hostStopped n := rfl

section
variable {ex ev : List (Nat × Nat)} {d h e : Dev} {n : Lane}

theorem DevKept.trainingZero (k : DevKept ex ev d h e) (h68 : (pHrx n, 0x068) ∈ ex) : DevKept ex ev d h (e.trainingZero n) :=
  ((k.s (f := fHostPhase) 0 h68).sb (f := fLocalReady) false h68).sb (f := fFarReady) false h68

theorem DevKept.hostStop (k : DevKept ex ev d h e) (h68 : (pHrx n, 0x068) ∈ ex) (hcap : e.hostValid n = true → capRegs ⊆ ex) :
    DevKept ex ev d (h.hostStopped n) (e.hostStop n) := by
  have kcap : DevKept ex ev d h (e.when (e.hostValid n) (·.captureLaneLeft 1 n)) := by
    unfold Dev.when
    split
    case isTrue hv => exact k.captureLaneLeft (hcap hv) 1 n
    case isFalse => exact k
  exact ((kcap.trainingZero h68).updHrx n _).updLtx n _

/-- Outside TRN_STATUS a lane that stops keeps its page. -/
theorem Dev.hostStop_g (d : Dev) (n : Lane) {p : Nat} {f : Fld} (hp : p ≠ 0x12) (h68 : f.off ≠ 0x068) (hlt : f.off < 4096 := by decide)
    (hne : f.off ≠ 0x010 := by decide) : (d.hostStop n).g p f = d.g p f :=
  ((DevKept.refl (ex := (pHrx n, 0x068) :: capRegs) (ev := []) d).hostStop (.head _) fun _ => List.subset_cons_self _ _).g
    (fun hm => (List.mem_cons.mp hm).elim (fun he => h68 (congrArg Prod.snd he)) (not_mem_capRegs hp)) hlt hne

theorem Dev.trainingZero_phase (d : Dev) (n : Lane) : (d.trainingZero n).g (pHrx n) fHostPhase = 0 := by
  simp (disch := decide) only [Dev.trainingZero, Dev.sb, Dev.g_s_apart, Dev.g_s_same]
  decide

theorem Dev.hostStop_phase (d : Dev) (n : Lane) : (d.hostStop n).g (pHrx n) fHostPhase = 0 := by
  rw [Dev.hostStop_eq, Dev.g_hostStopped, Dev.trainingZero_phase]

/-! SEEK -/

/-- The registers of a host transmitter that a return to frames or data touches (R186, R191). -/
abbrev htxBackRegs (n : Lane) : List (Nat × Nat) := [(pHtx n, 0x044), (pHtx n, 0x05C), (pHtx n, 0x060)]

theorem DevKept.firTake (k : DevKept ex ev d h e) (hx : htxBackRegs n ⊆ ex) :
    DevKept ex ev d (h.updHtx n fun x => { x with fir := none }) (e.firTake n) :=
  ((k.wr _ (hx (by simp))).wr _ (hx (by simp))).updHtx n _

/-- Of the hidden state HTXn's part only is new. -/
theorem DevKept.htxOf {x : Vector HtxH 8} (k : DevKept ex ev d { h with htx := x } e) : DevKept ex ev d { h with htx := e.htx } e := by
  have hx : e.htx = x := (congrArg Dev.htx k.hidden :)
  rwa [hx]

/-- Of the hidden state HRXn's part only is new, beside HTXn's. -/
theorem DevKept.hrxOf {l : Vector LtxH 8} {x : Vector HrxH 8} {y : Vector HtxH 8}
    (k : DevKept ex ev d { h with ltx := l, hrx := x, htx := y } e) : DevKept ex ev d { h with hrx := e.hrx, htx := y, ltx := l } e := by
  have hx : e.hrx = x := (congrArg Dev.hrx k.hidden :)
  rw [hx]
  exact k

theorem Dev.hostStopped_updHrx (h : Dev) (n : Lane) (f : HrxH → HrxH) : (h.hostStopped n).updHrx n f =
    { h with ltx := (h.updLtx n fun x => { x with glide := false }).ltx, hrx := ((h.hostStopped n).updHrx n f).hrx } := rfl

theorem DevKept.htxBack (k : DevKept ex ev d h e) (hx : htxBackRegs n ⊆ ex) :
    DevKept ex ev d { h with htx := (e.htxBack n).htx } (e.htxBack n) := by
  have kc := k.updHtx n fun x => { x with countdown := none }
  have ks : ∀ v, DevKept ex ev d (h.updHtx n fun x => { x with countdown := none })
      ((e.updHtx n fun x => { x with countdown := none }).s (pHtx n) fHtxState v) := fun v => kc.s v (hx (by simp [fHtxState]))
  have hmoved : ∃ x, DevKept ex ev d { h with htx := x } (e.htxBack n) := by
    unfold Dev.htxBack Dev.when
    dsimp only
    split_ifs
    · exact ⟨_, (ks _).firTake hx⟩
    · exact ⟨_, ks _⟩
    · exact ⟨_, (ks _).firTake hx⟩
    · exact ⟨_, ks _⟩
    · exact ⟨_, kc⟩
  obtain ⟨x, kx⟩ := hmoved
  exact kx.htxOf

theorem Dev.htxBack_g (d : Dev) (n m : Lane) {f : Fld} (hlt : f.off < 4096 := by decide) (hne : f.off ≠ 0x010 := by decide) :
    (d.htxBack n).g (pHrx m) f = d.g (pHrx m) f :=
  ((DevKept.refl (ev := []) d).htxBack (List.Subset.refl (htxBackRegs n))).g (by simp) hlt hne

theorem DevKept.hostSeek (k : DevKept ex ev d h e) (h44 : (pHrx n, 0x044) ∈ ex) (h68 : (pHrx n, 0x068) ∈ ex) (hx : htxBackRegs n ⊆ ex)
    (hcap : e.hostValid n = true → capRegs ⊆ ex) : DevKept ex ev d
      { h with hrx := (e.hostSeek n).hrx, htx := (e.hostSeek n).htx, ltx := (h.updLtx n fun x => { x with glide := false }).ltx }
      (e.hostSeek n) := by
  have ks := ((k.hostStop h68 hcap).s (f := fHostState) stSeek h44).sb (f := fWuLock) false h44
  have kb : DevKept ex ev d _ (e.hostSeek n) := (ks.updHrx n _).htxBack hx
  rw [Dev.hostStopped_updHrx] at kb
  exact kb.hrxOf

/-- Frame lock goes, and Warm-up and the settings of the attempt are taken (R193, R202). -/
def Dev.attemptTaken (d : Dev) (n : Lane) : Dev :=
  (d.sb (pHrx n) fWuLock false).updHrx n fun h =>
    { h with wu := d.b (pHrx n) fWuEn && !d.hostNear n, cfg := d.rd (pHrx n) 0x060, cfg2 := d.rd (pHrx n) 0x064,
             matches' := 0, misses := 0, ctl := 0xE000 }

theorem Dev.hostSeek_eq (d : Dev) (n : Lane) : d.hostSeek n = (((d.hostStop n).hostTo n stSeek).attemptTaken n).htxBack n := rfl

theorem Dev.attemptTaken_g (d : Dev) (n : Lane) (q : Nat) (f : Fld) :
    (d.attemptTaken n).g q f = (d.sb (pHrx n) fWuLock false).g q f := rfl

/-- A lane that enters SEEK keeps its page but for the state, frame lock and TRN_STATUS. -/
theorem Dev.hostSeek_g {f : Fld} (hs : f.apart fHostState) (hw : f.apart fWuLock) (h68 : f.off ≠ 0x068) (hne : f.off ≠ 0x010) (d : Dev)
    (n : Lane) : (d.hostSeek n).g (pHrx n) f = d.g (pHrx n) f := by
  rw [Dev.hostSeek_eq, Dev.htxBack_g _ n n hs.1 hne, Dev.attemptTaken_g, Dev.sb, Dev.g_s_apart hw, Dev.hostTo, Dev.g_s_apart hs]
  exact d.hostStop_g n (hrx_ne_capture n) h68 hs.1 hne

theorem Dev.hostSeek_state (d : Dev) (n : Lane) : (d.hostSeek n).hostState n = stSeek := by
  rw [Dev.hostState, Dev.hostSeek_eq, Dev.htxBack_g _ n n (f := fHostState), Dev.attemptTaken_g, Dev.sb, Dev.g_s_apart (by decide)]
  exact Dev.g_s_same _ _ _ _ (by decide)

theorem Dev.hostSeek_phase (d : Dev) (n : Lane) : (d.hostSeek n).g (pHrx n) fHostPhase = 0 := by
  rw [Dev.hostSeek_eq, Dev.htxBack_g _ n n (f := fHostPhase), Dev.attemptTaken_g, Dev.sb, Dev.g_s_apart (by decide), Dev.hostTo,
    Dev.g_s_apart (by decide), Dev.hostStop_phase]

theorem Dev.hostSeek_wuLock (d : Dev) (n : Lane) : (d.hostSeek n).b (pHrx n) fWuLock = false := by
  rw [Dev.b, Dev.hostSeek_eq, Dev.htxBack_g _ n n (f := fWuLock), Dev.attemptTaken_g]
  exact Dev.b_sb_same _ _ _ _ (by decide) rfl

/-! TRAIN -/

/-- Phase 1 ends where timing and, with Warm-up, frames are locked (R187, R192). -/
theorem Dev.hostPhase1_train {d : Dev} {n : Lane} (hs : d.hostState n = stTrain) : d.hostPhase1 n =
    d.when (decide (d.g (pHrx n) fHostPhase = 1) && (d.b (pHrx n) fHrxCdrLock && (!(d.hr n).wu || d.b (pHrx n) fWuLock)))
      (·.s (pHrx n) fHostPhase 2) := by
  unfold Dev.hostPhase1 Dev.when
  simp [hs]

theorem Dev.hostPhase1_other {d : Dev} {n : Lane} (hs : d.hostState n ≠ stTrain) : d.hostPhase1 n = d := if_neg fun h => hs h.1

theorem DevKept.hostPhase1 (k : DevKept ex ev d h e) (h68 : (pHrx n, 0x068) ∈ ex) : DevKept ex ev d h (e.hostPhase1 n) := by
  unfold Dev.hostPhase1
  split
  · exact k.s (f := fHostPhase) 2 h68
  · exact k

/-- Outside TRN_STATUS the end of phase 1 changes nothing. -/
theorem Dev.hostPhase1_g (d : Dev) (n : Lane) {q : Nat} {f : Fld} (h : f.apart fHostPhase) : (d.hostPhase1 n).g q f = d.g q f := by
  unfold Dev.hostPhase1
  split
  · exact Dev.g_s_apart h ..
  · rfl

theorem Dev.hostPhase1_phase {d : Dev} {n : Lane} (hs : d.hostState n = stTrain) : (d.hostPhase1 n).g (pHrx n) fHostPhase =
    if d.g (pHrx n) fHostPhase = 1 ∧ (d.b (pHrx n) fHrxCdrLock && (!(d.hr n).wu || d.b (pHrx n) fWuLock)) = true then 2
    else d.g (pHrx n) fHostPhase := by
  rw [Dev.hostPhase1_train hs, Dev.when]
  simp only [Bool.and_eq_true, decide_eq_true_eq]
  split
  · exact Dev.g_s_same _ _ _ _ (by decide)
  · rfl

end

end Sys2Proof.Machine
end

section
/-! Timing recovery of the receivers (O12, R64, R92, R94, R186, R187, R201). -/

open Sys2Proof Sys2Proof.Machine

namespace Sys2Proof.Machine

/-! The loop -/

/-- The loop of the receiver of page `p` works on a signal: it is enabled, has a signal, and is not bypassed (R62, R64). -/
def Dev.loops (d : Dev) (p : Nat) : Bool := d.b p fLrxEn && d.b p fLrxSigDet && !(d.lg p fLoopback == 2)

theorem Dev.lrxLoop_eq (d : Dev) (n : Lane) : d.lrxLoop n = d.loops (pLrx n) := rfl

theorem Dev.hostLoop_eq (d : Dev) (n : Lane) : d.hostLoop n = d.loops (pHrx n) := rfl

theorem Dev.loops_true {d : Dev} {p : Nat} (he : d.b p fLrxEn = true) (hs : d.b p fLrxSigDet = true) (hl : d.lg p fLoopback ≠ 2) :
    d.loops p = true := by
  simp [Dev.loops, he, hs, hl]

theorem unsigned_lt (w : Nat) (x : Int) : unsigned w x < 2 ^ w := by
  have hpos : (0 : Int) < ((2 ^ w : Nat) : Int) := by exact_mod_cast Nat.two_pow_pos w
  have h0 := Int.emod_nonneg x hpos.ne'
  have h1 := Int.emod_lt_of_pos x hpos
  unfold unsigned
  omega

/-- The receiver with its frequency estimate as the loop holds it. -/
def Dev.atFreq (d : Dev) (p : Nat) (freq : Int) : Dev := d.s p fTrFreq (freqCode freq)

/-- The receiver with timing lock, at a frequency and a phase. -/
def Dev.cdrLocked (d : Dev) (p : Nat) (freq : Int) (phase : Nat) : Dev :=
  ((d.atFreq p freq).s p fTrPhase phase).sb p fLrxCdrLock true

/-- The receiver without timing lock, at a frequency. -/
def Dev.cdrUnlocked (d : Dev) (p : Nat) (freq : Int) : Dev := (d.atFreq p freq).sb p fLrxCdrLock false

/-- The receiver of page `p` shows timing lock at a frequency, in 0.01 ppm, and a phase (R64). -/
structure Dev.LockedAt (d : Dev) (p : Nat) (freq : Int) (phase : Nat) : Prop where
  lock : d.b p fLrxCdrLock = true
  freq : d.g p fTrFreq = unsigned 16 freq
  phase : d.g p fTrPhase = phase % 64

/-- The registers of the receiver of page `p` that tell of its timing: STATUS and TR_STATUS. -/
abbrev timingRegs (p : Nat) : List (Nat × Nat) := [(p, 0x044), (p, 0x05C)]

section
variable {ex ev : List (Nat × Nat)} {d h e : Dev} {p : Nat}

theorem DevKept.atFreq (k : DevKept ex ev d h e) (hx : timingRegs p ⊆ ex) (freq : Int) : DevKept ex ev d h (e.atFreq p freq) :=
  k.s (f := fTrFreq) _ (hx (by simp [fTrFreq]))

theorem DevKept.cdrLocked (k : DevKept ex ev d h e) (hx : timingRegs p ⊆ ex) (freq : Int) (phase : Nat) :
    DevKept ex ev d h (e.cdrLocked p freq phase) :=
  ((k.atFreq hx freq).s (f := fTrPhase) phase (hx (by simp [fTrPhase]))).sb (f := fLrxCdrLock) true (hx (by simp [fLrxCdrLock]))

theorem DevKept.cdrUnlocked (k : DevKept ex ev d h e) (hx : timingRegs p ⊆ ex) (freq : Int) :
    DevKept ex ev d h (e.cdrUnlocked p freq) := (k.atFreq hx freq).sb (f := fLrxCdrLock) false (hx (by simp [fLrxCdrLock]))

theorem Dev.atFreq_freq (d : Dev) (p : Nat) (freq : Int) :
    (d.atFreq p freq).g p fTrFreq = unsigned 16 (max (-30000) (min 30000 freq)) :=
  (Dev.g_s_same _ _ _ _ (by decide)).trans (Nat.mod_eq_of_lt (unsigned_lt 16 _))

theorem Dev.atFreq_g (d : Dev) (p : Nat) (freq : Int) {f : Fld} (hf : f.apart fTrFreq) (q : Nat) : (d.atFreq p freq).g q f = d.g q f :=
  Dev.g_s_apart hf ..

theorem Dev.cdrLocked_reads (d : Dev) (p : Nat) {freq : Int} (phase : Nat) (hf : -30000 < freq ∧ freq < 30000) :
    (d.cdrLocked p freq phase).LockedAt p freq phase := by
  refine ⟨Dev.b_sb_same _ _ _ _ (by decide) rfl, ?_, ?_⟩
  · rw [Dev.cdrLocked, Dev.sb, Dev.g_s_apart (by decide), Dev.g_s_apart (by decide), Dev.atFreq_freq, min_eq_right hf.2.le,
      max_eq_right hf.1.le]
  · rw [Dev.cdrLocked, Dev.sb, Dev.g_s_apart (by decide)]
    exact Dev.g_s_same _ _ _ _ (by decide)

/-- A field beside lock, frequency and phase. -/
theorem Dev.cdrLocked_g {f : Fld} (hl : f.apart fLrxCdrLock) (hp : f.apart fTrPhase) (hf : f.apart fTrFreq) (d : Dev) (p : Nat)
    (freq : Int) (phase q : Nat) : (d.cdrLocked p freq phase).g q f = d.g q f := by
  rw [Dev.cdrLocked, Dev.sb, Dev.g_s_apart hl, Dev.g_s_apart hp, Dev.atFreq_g _ _ _ hf]

theorem Dev.cdrUnlocked_reads (d : Dev) (p : Nat) (freq : Int) : (d.cdrUnlocked p freq).b p fLrxCdrLock = false ∧
    (d.cdrUnlocked p freq).g p fTrFreq = unsigned 16 (max (-30000) (min 30000 freq)) := by
  refine ⟨Dev.b_sb_same _ _ _ _ (by decide) rfl, ?_⟩
  rw [Dev.cdrUnlocked, Dev.sb, Dev.g_s_apart (by decide), Dev.atFreq_freq]

end

/-! CDR_LOCK -/

theorem freqAtLimit_inside {freq : Int} (h : -30000 < freq ∧ freq < 30000) : freqAtLimit freq = false :=
  decide_eq_false (by omega)

section
variable {d : Dev} {n : Lane} {freq : Int} {phase : Nat}

theorem Dev.cdrLocked_laneState (d : Dev) (n : Lane) (freq : Int) (phase : Nat) :
    (d.cdrLocked (pLrx n) freq phase).laneState n = d.laneState n := Dev.cdrLocked_g (by decide) (by decide) (by decide) ..

theorem Dev.cdrLocked_phase (d : Dev) (n : Lane) (freq : Int) (phase : Nat) :
    (d.cdrLocked (pLrx n) freq phase).g (pPacer n) fPhase = d.g (pPacer n) fPhase :=
  Dev.cdrLocked_g (by decide) (by decide) (by decide) ..

theorem Dev.lrxCdrLock_eq (hl : d.loops (pLrx n) = true) (hf : -30000 < freq ∧ freq < 30000) (hu : d.b (pLrx n) fLrxCdrLock = false) :
    d.lrxCdrLock n freq phase = if d.laneState n = stTrain ∧ d.g (pPacer n) fPhase = 1 then (d.cdrLocked (pLrx n) freq phase).trainPhase n 2 0
      else d.cdrLocked (pLrx n) freq phase := by
  rw [← d.cdrLocked_laneState n freq phase, ← d.cdrLocked_phase n freq phase]
  refine if_pos ?_
  rw [Dev.lrxLoop_eq, hl, freqAtLimit_inside hf, hu]
  rfl

theorem Dev.hrxCdrLock_eq (hl : d.loops (pHrx n) = true) (hf : -30000 < freq ∧ freq < 30000) (hu : d.b (pHrx n) fLrxCdrLock = false) :
    d.hrxCdrLock n freq phase = (d.cdrLocked (pHrx n) freq phase).hostPhase1 n := by
  have hu' : d.b (pHrx n) fHrxCdrLock = false := hu
  refine if_pos ?_
  rw [Dev.hostLoop_eq, hl, freqAtLimit_inside hf, hu']
  rfl

end

/-- Lock with no other effect. -/
theorem cdrLocked_yields {s : State} {p : Nat} {f : Dev → Dev} {freq : Int} {phase : Nat} (hc : s.calm) (hr : s.dev.runs p)
    (hf : -30000 < freq ∧ freq < 30000) (he : f s.dev = s.dev.cdrLocked p freq phase) : Yields (actOn p s f) fun t =>
      t.dev.b p fLrxCdrLock = true ∧ t.dev.g p fTrFreq = unsigned 16 freq ∧ t.dev.g p fTrPhase = phase % 64 ∧
      Kept s t s.dev [(p, 0x044), (p, 0x05C)] [] := by
  obtain ⟨hlock, hfreq, hphase⟩ := s.dev.cdrLocked_reads p phase hf
  refine ((DevKept.refl (ev := []) _).cdrLocked (List.Subset.refl _) freq phase).yieldsOn hc hr he rfl (by simp) fun t hset kept => ?_
  exact ⟨(hset.b _ fLrxCdrLock).trans hlock, (hset.g _ fTrFreq).trans hfreq, (hset.g _ fTrPhase).trans hphase, kept⟩

/-- Outside TRAIN lock has no other effect. -/
theorem Dev.lrxCdrLock_other {d : Dev} {n : Lane} {freq : Int} {phase : Nat} (hl : d.loops (pLrx n) = true)
    (hf : -30000 < freq ∧ freq < 30000) (hu : d.b (pLrx n) fLrxCdrLock = false) (hst : d.g (pLrx n) fLrxState ≠ stTrain) :
    d.lrxCdrLock n freq phase = d.cdrLocked (pLrx n) freq phase := (Dev.lrxCdrLock_eq hl hf hu).trans (if_neg fun h => hst h.1)

theorem Dev.hrxCdrLock_other {d : Dev} {n : Lane} {freq : Int} {phase : Nat} (hl : d.loops (pHrx n) = true)
    (hf : -30000 < freq ∧ freq < 30000) (hu : d.b (pHrx n) fLrxCdrLock = false) (hst : d.g (pHrx n) fLrxState ≠ stTrain) :
    d.hrxCdrLock n freq phase = d.cdrLocked (pHrx n) freq phase := by
  have hst' : (d.cdrLocked (pHrx n) freq phase).hostState n ≠ stTrain := fun h =>
    hst ((Dev.cdrLocked_g (f := fLrxState) (by decide) (by decide) (by decide) ..).symm.trans h)
  exact (Dev.hrxCdrLock_eq hl hf hu).trans (Dev.hostPhase1_other hst')

section
variable {s : State} {n : Lane} {freq : Int} {phase : Nat}

/-- In TRAIN of a line lane lock ends phase 1 (R94). -/
theorem cdrLock_line_train (hc : s.calm) (hr : s.dev.runs (pLrx n)) (hl : s.dev.loops (pLrx n) = true)
    (hu : s.dev.b (pLrx n) fLrxCdrLock = false) (hf : -30000 < freq ∧ freq < 30000) (hst : s.dev.laneState n = stTrain) :
    Yields (exec (.cdrLock .line n freq phase) s) fun t =>
      t.dev.b (pLrx n) fLrxCdrLock = true ∧ t.dev.g (pLrx n) fTrFreq = unsigned 16 freq ∧ t.dev.g (pLrx n) fTrPhase = phase % 64 ∧
      t.dev.laneState n = stTrain ∧
      t.dev.g (pPacer n) fPhase = (if s.dev.g (pPacer n) fPhase = 1 then (if s.dev.b (pLrx n) fLrxFeManual then 3 else 2)
        else s.dev.g (pPacer n) fPhase) ∧
      Kept s t s.dev ([(pLrx n, 0x044), (pLrx n, 0x05C)] ++ pacerStatusRegs n) [] := by
  obtain ⟨hlock, hfreq, hphase⟩ := s.dev.cdrLocked_reads (pLrx n) phase hf
  have hst' := (s.dev.cdrLocked_laneState n freq phase).trans hst
  have hman : (s.dev.cdrLocked (pLrx n) freq phase).b (pLrx n) fLrxFeManual = s.dev.b (pLrx n) fLrxFeManual :=
    congrArg (· == 1) (Dev.cdrLocked_g (by decide) (by decide) (by decide) ..)
  have k : DevKept ([(pLrx n, 0x044), (pLrx n, 0x05C)] ++ pacerStatusRegs n) [] s.dev s.dev (s.dev.cdrLocked (pLrx n) freq phase) :=
    (DevKept.refl _).cdrLocked (List.subset_append_left _ _) freq phase
  have he := Dev.lrxCdrLock_eq (phase := phase) hl hf hu
  by_cases h1 : s.dev.g (pPacer n) fPhase = 1
  · rw [if_pos ⟨hst, h1⟩, Dev.trainPhase_two, hman] at he
    rw [if_pos h1]
    have hlt : (if s.dev.b (pLrx n) fLrxFeManual then 3 else 2) < 8 := by split <;> decide
    refine (k.phaseSet (List.subset_append_right _ _) _).yieldsOn hc hr he rfl (by simp) fun t hset kept => ⟨?_, ?_, ?_, ?_, ?_, kept⟩
    · rw [hset.b _ fLrxCdrLock, Dev.b, Dev.phaseSet_lrx _ n n]
      exact hlock
    · rw [hset.g _ fTrFreq, Dev.phaseSet_lrx _ n n, hfreq]
    · rw [hset.g _ fTrPhase, Dev.phaseSet_lrx _ n n, hphase]
    · rw [hset.laneState, Dev.laneState, Dev.phaseSet_lrx _ n n]
      exact hst'
    · rw [hset.g _ fPhase, Dev.phaseSet_phase _ n hlt]
  · rw [if_neg fun h => h1 h.2] at he
    rw [if_neg h1]
    refine k.yieldsOn hc hr he rfl (by simp) fun t hset kept => ?_
    exact ⟨(hset.b _ fLrxCdrLock).trans hlock, (hset.g _ fTrFreq).trans hfreq, (hset.g _ fTrPhase).trans hphase,
      (hset.laneState n).trans hst', (hset.g _ fPhase).trans (s.dev.cdrLocked_phase n freq phase), kept⟩

/-- In TRAIN of a host lane lock ends phase 1 where, with Warm-up, frames are locked too (R187, R192). -/
theorem cdrLock_host_train (hc : s.calm) (hr : s.dev.runs (pHrx n)) (hl : s.dev.loops (pHrx n) = true)
    (hu : s.dev.b (pHrx n) fLrxCdrLock = false) (hf : -30000 < freq ∧ freq < 30000) (hst : s.dev.hostState n = stTrain) :
    Yields (exec (.cdrLock .host n freq phase) s) fun t =>
      t.dev.b (pHrx n) fHrxCdrLock = true ∧ t.dev.g (pHrx n) fHrxFreq = unsigned 16 freq ∧
      t.dev.g (pHrx n) fHrxPhaseTr = phase % 64 ∧
      t.dev.g (pHrx n) fHostPhase = (if s.dev.g (pHrx n) fHostPhase = 1 ∧ (!(s.dev.hr n).wu || s.dev.b (pHrx n) fWuLock) = true then 2
        else s.dev.g (pHrx n) fHostPhase) ∧
      Kept s t s.dev [(pHrx n, 0x044), (pHrx n, 0x05C), (pHrx n, 0x068)] [] := by
  obtain ⟨hlock, hfreq, hphase⟩ := s.dev.cdrLocked_reads (pHrx n) phase hf
  have hkeep : ∀ f : Fld, f.apart fLrxCdrLock → f.apart fTrPhase → f.apart fTrFreq →
      (s.dev.cdrLocked (pHrx n) freq phase).g (pHrx n) f = s.dev.g (pHrx n) f := fun f h1 h2 h3 => Dev.cdrLocked_g h1 h2 h3 ..
  have hst' : (s.dev.cdrLocked (pHrx n) freq phase).hostState n = stTrain :=
    (hkeep fHostState (by decide) (by decide) (by decide)).trans hst
  have hwu : (s.dev.cdrLocked (pHrx n) freq phase).b (pHrx n) fWuLock = s.dev.b (pHrx n) fWuLock :=
    congrArg (· == 1) (hkeep fWuLock (by decide) (by decide) (by decide))
  have hlock' : (s.dev.cdrLocked (pHrx n) freq phase).b (pHrx n) fHrxCdrLock = true := hlock
  have hhr : (s.dev.cdrLocked (pHrx n) freq phase).hr n = s.dev.hr n := rfl
  have k : DevKept [(pHrx n, 0x044), (pHrx n, 0x05C), (pHrx n, 0x068)] [] s.dev s.dev (s.dev.cdrLocked (pHrx n) freq phase) :=
    (DevKept.refl _).cdrLocked (by simp) freq phase
  refine (k.hostPhase1 (by simp)).yieldsOn hc hr (Dev.hrxCdrLock_eq hl hf hu) rfl (by simp) fun t hset kept => ⟨?_, ?_, ?_, ?_, kept⟩
  · rw [hset.b _ fHrxCdrLock, Dev.b, Dev.hostPhase1_g _ _ (by decide)]
    exact hlock
  · rw [hset.g _ fHrxFreq, Dev.hostPhase1_g _ _ (by decide)]
    exact hfreq
  · rw [hset.g _ fHrxPhaseTr, Dev.hostPhase1_g _ _ (by decide)]
    exact hphase
  · rw [hset.g _ fHostPhase, Dev.hostPhase1_phase hst', hkeep fHostPhase (by decide) (by decide) (by decide), hlock', hwu, hhr,
      Bool.true_and]

end

/-! CDR_UNLOCK and FREQ_RANGE -/

theorem Dev.Signals.mono {d : Dev} {p k j : Nat} (h : d.Signals p k) (hj : j ≤ k) : d.Signals p j :=
  ⟨h.powered, hj.trans h.sources, hj.trans h.word, h.page⟩

/-- The receiver loses timing lock, with source `src`, where it has it (R64). -/
def Dev.lockLost (d : Dev) (p src : Nat) : Dev :=
  if d.b p fLrxCdrLock then (d.sb p fLrxCdrLock false).raise p src else d

section
variable {ex ev : List (Nat × Nat)} {d h e : Dev} {p src k : Nat}

theorem DevKept.lockLost (kp : DevKept ex ev d h e) (hx : timingRegs p ⊆ ex) (hv : (p, src) ∈ ev) :
    DevKept ex ev d h (e.lockLost p src) := by
  unfold Dev.lockLost
  split
  · exact (kp.sb (f := fLrxCdrLock) false (hx (by simp [fLrxCdrLock]))).raise hv
  · exact kp

theorem Dev.lockLost_lock (d : Dev) (p src : Nat) : (d.lockLost p src).b p fLrxCdrLock = false := by
  unfold Dev.lockLost
  split
  · rw [Dev.b_raise _ _ _ _ fLrxCdrLock]
    exact Dev.b_sb_same _ _ _ _ (by decide) rfl
  · exact Bool.eq_false_of_not_eq_true ‹_›

theorem Dev.lockLost_freq (d : Dev) (p src : Nat) : (d.lockLost p src).g p fTrFreq = d.g p fTrFreq := by
  unfold Dev.lockLost
  split
  · rw [Dev.g_raise _ _ _ _ fTrFreq, Dev.sb, Dev.g_s_apart (by decide)]
  · rfl

/-- The loss of a lock shows its source; without a lock no bit is new. -/
theorem Dev.lockLost_evt (hs : d.Signals p k) (hk : src < k) : (d.lockLost p src).evt p src = (d.evt p src || d.b p fLrxCdrLock) := by
  have hs' : (d.sb p fLrxCdrLock false).Signals p k := hs.congr rfl
  unfold Dev.lockLost
  split
  case isTrue hl => rw [hs'.raise hk, hl, Bool.or_true]
  case isFalse hl => rw [Bool.eq_false_of_not_eq_true hl, Bool.or_false]

theorem Dev.lockLost_evt_other (hs : d.Signals p k) {x : Nat} (hx : x ≠ src) : (d.lockLost p src).evt p x = d.evt p x := by
  unfold Dev.lockLost
  split
  · rw [Dev.raise_evt_other _ false (fun e => hx (congrArg Prod.snd e)) hs.page]
    exact Dev.evt_wr _ _ _ _ (by decide) (by decide)
  · rfl

end

theorem Dev.lrxCdrUnlock_eq {d : Dev} {n : Lane} {freq : Int} (hl : d.loops (pLrx n) = true) (hk : d.b (pLrx n) fLrxCdrLock = true) :
    d.lrxCdrUnlock n freq = (d.cdrUnlocked (pLrx n) freq).raise (pLrx n) 3 := if_pos (by rw [Dev.lrxLoop_eq, hl, hk]; rfl)

theorem Dev.hrxCdrUnlock_eq {d : Dev} {n : Lane} {freq : Int} (hl : d.loops (pHrx n) = true) (hk : d.b (pHrx n) fHrxCdrLock = true) :
    d.hrxCdrUnlock n freq = (d.cdrUnlocked (pHrx n) freq).raise (pHrx n) 2 := if_pos (by rw [Dev.hostLoop_eq, hl, hk]; rfl)

section
variable {s : State} {p k src : Nat} {f : Dev → Dev} {freq : Int}

/-- CDR_UNLOCK: lock is lost, with its source `src`. -/
theorem cdrUnlocked_yields (hc : s.calm) (hr : s.dev.runs p) (hs : s.dev.Signals p k) (hk : src < k)
    (he : f s.dev = (s.dev.cdrUnlocked p freq).raise p src) : Yields (actOn p s f) fun t =>
      t.dev.b p fLrxCdrLock = false ∧ t.dev.g p fTrFreq = unsigned 16 (max (-30000) (min 30000 freq)) ∧ t.dev.evt p src = true ∧
      Kept s t s.dev [(p, 0x044), (p, 0x05C)] [(p, src)] := by
  obtain ⟨hun, hfreq⟩ := s.dev.cdrUnlocked_reads p freq
  have hs' : (s.dev.cdrUnlocked p freq).Signals p k := hs.congr rfl
  refine (((DevKept.refl _).cdrUnlocked (List.Subset.refl _) freq).raise (by simp)).yieldsOn hc hr he rfl (by simp)
    fun t hset kept => ⟨?_, ?_, ?_, kept⟩
  · rw [hset.b _ fLrxCdrLock, Dev.b_raise _ _ _ _ fLrxCdrLock, hun]
  · rw [hset.g _ fTrFreq, Dev.g_raise _ _ _ _ fTrFreq, hfreq]
  · rw [hset.evt _ _ hs.not_three, hs'.raise hk]

end

section
variable {s : State} {n : Lane} {high : Bool}

/-- The limit is one of the two codes at which the loop holds (R64). -/
theorem Dev.atFreq_limit (d : Dev) (p : Nat) (high : Bool) :
    (d.atFreq p (if high then 30000 else -30000)).g p fTrFreq = unsigned 16 (if high then 30000 else -30000) := by
  rw [Dev.atFreq_freq]
  cases high <;> rfl

theorem Dev.lrxFreqRange_eq {d : Dev} (hl : d.loops (pLrx n) = true) : d.lrxFreqRange n high =
    ((d.atFreq (pLrx n) (if high then 30000 else -30000)).raise (pLrx n) 4).lockLost (pLrx n) 3 := if_pos hl

theorem Dev.hrxFreqRange_eq {d : Dev} (hl : d.loops (pHrx n) = true) : d.hrxFreqRange n high =
    (d.atFreq (pHrx n) (if high then 30000 else -30000)).lockLost (pHrx n) 2 := if_pos hl

/-- Lock as it was before the estimate reached its limit. -/
theorem Dev.atFreq_lock (d : Dev) (p : Nat) (freq : Int) : (d.atFreq p freq).b p fLrxCdrLock = d.b p fLrxCdrLock :=
  congrArg (· == 1) (Dev.atFreq_g _ _ _ (by decide) _)

theorem Dev.atFreq_evt (d : Dev) (p : Nat) (freq : Int) (x : Nat) : (d.atFreq p freq).evt p x = d.evt p x :=
  Dev.evt_wr _ _ _ _ (by decide) (by decide)

/-- FREQ_RANGE of a line lane raises freq_range, and cdr_unlock where lock was there. -/
theorem freqRange_line (hc : s.calm) (hr : s.dev.runs (pLrx n)) (hl : s.dev.loops (pLrx n) = true) :
    Yields (exec (.freqRange .line n high) s) fun t =>
      t.dev.b (pLrx n) fLrxCdrLock = false ∧ t.dev.g (pLrx n) fTrFreq = unsigned 16 (if high then 30000 else -30000) ∧
      t.dev.evt (pLrx n) 4 = true ∧ t.dev.evt (pLrx n) 3 = (s.dev.evt (pLrx n) 3 || s.dev.b (pLrx n) fLrxCdrLock) ∧
      Kept s t s.dev [(pLrx n, 0x044), (pLrx n, 0x05C)] [(pLrx n, 3), (pLrx n, 4)] := by
  have hs := Dev.signals_lrx hr.powered
  have hs1 : (s.dev.atFreq (pLrx n) (if high then 30000 else -30000)).Signals (pLrx n) 16 := hs.congr rfl
  have hs2 : ((s.dev.atFreq (pLrx n) (if high then 30000 else -30000)).raise (pLrx n) 4).Signals (pLrx n) 16 :=
    hs1.congr (Dev.raiseIf_offPages _ true _ _)
  refine ((((DevKept.refl _).atFreq (List.Subset.refl _) _).raise (by simp)).lockLost (List.Subset.refl _) (by simp)).yieldsOn hc hr
    (Dev.lrxFreqRange_eq hl) rfl (by simp) fun t hset kept => ⟨?_, ?_, ?_, ?_, kept⟩
  · rw [hset.b _ fLrxCdrLock, Dev.lockLost_lock]
  · rw [hset.g _ fTrFreq, Dev.lockLost_freq, Dev.g_raise _ _ _ _ fTrFreq, Dev.atFreq_limit]
  · rw [hset.evt _ _ hs.not_three, Dev.lockLost_evt_other hs2 (by decide), hs1.raise (by decide)]
  · rw [hset.evt _ _ hs.not_three, Dev.lockLost_evt hs2 (by decide), Dev.b_raise _ _ _ _ fLrxCdrLock, Dev.atFreq_lock,
      Dev.raise_evt_other _ false (by simp) hs.page, Dev.atFreq_evt]

/-- FREQ_RANGE of a host lane raises cdr_unlock alone (R201). -/
theorem freqRange_host (hc : s.calm) (hr : s.dev.runs (pHrx n)) (hl : s.dev.loops (pHrx n) = true) :
    Yields (exec (.freqRange .host n high) s) fun t =>
      t.dev.b (pHrx n) fLrxCdrLock = false ∧ t.dev.g (pHrx n) fTrFreq = unsigned 16 (if high then 30000 else -30000) ∧
      t.dev.evt (pHrx n) 2 = (s.dev.evt (pHrx n) 2 || s.dev.b (pHrx n) fLrxCdrLock) ∧
      Kept s t s.dev [(pHrx n, 0x044), (pHrx n, 0x05C)] [(pHrx n, 2)] := by
  have hs := Dev.signals_hrx hr.powered
  have hs1 : (s.dev.atFreq (pHrx n) (if high then 30000 else -30000)).Signals (pHrx n) 12 := hs.congr rfl
  refine (((DevKept.refl _).atFreq (List.Subset.refl _) _).lockLost (List.Subset.refl _) (by simp)).yieldsOn hc hr
    (Dev.hrxFreqRange_eq hl) rfl (by simp) fun t hset kept => ⟨?_, ?_, ?_, kept⟩
  · rw [hset.b _ fLrxCdrLock, Dev.lockLost_lock]
  · rw [hset.g _ fTrFreq, Dev.lockLost_freq, Dev.atFreq_limit]
  · rw [hset.evt _ _ hs.not_three, Dev.lockLost_evt hs1 (by decide), Dev.atFreq_lock, Dev.atFreq_evt]

end

/-! CDR_LOSS_TIMEOUT -/

theorem Dev.lrxCdrLoss_eq {d : Dev} {n : Lane} (hv : d.laneValid n = true) (hu : d.b (pLrx n) fLrxCdrLock = false) :
    d.lrxCdrLoss n = d.laneSeek n 1 := if_pos (by rw [hv, hu]; rfl)

theorem Dev.hrxCdrLoss_eq {d : Dev} {n : Lane} (hv : d.hostValid n = true) (hu : d.b (pHrx n) fHrxCdrLock = false) :
    d.hrxCdrLoss n = d.hostSeek n := if_pos (by rw [hv, hu]; rfl)

section
variable {s : State} {n : Lane}

theorem cdrLoss_line (hc : s.calm) (hr : s.dev.runs (pLrx n)) (hv : s.dev.laneValid n = true)
    (hu : s.dev.b (pLrx n) fLrxCdrLock = false) : Yields (exec (.cdrLossTimeout .line n) s) fun t =>
      t.dev.laneState n = stSeek ∧ t.dev.b (pLrx n) fLrxSigDet = s.dev.b (pLrx n) fLrxSigDet ∧ t.dev.g (pPacer n) fPhase = 0 ∧
      t.dev.b (pPacer n) fPcFade = false ∧
      Kept s t (s.dev.laneStopped n) ([(pLrx n, 0x044), (pLrx n, 0x078), (pPacer n, 0x044), (pPacer n, 0x05C), (pPacer n, 0x064)] ++
        capRegs) [(pLrx n, 6)] := by
  obtain ⟨hphase, hfade⟩ := s.dev.laneSeek_pacer n 1
  refine (DevKept.laneSeek (DevKept.refl _) (by simp) (by simp) (by simp [List.subset_def]) (fun _ => List.subset_append_right _ _)
    (by simp) 1).yieldsOn hc hr (Dev.lrxCdrLoss_eq hv hu) rfl (not_mem_append_capRegs (by simp) trial_ne_capture)
    fun t hset kept => ⟨?_, ?_, ?_, ?_, kept⟩
  · rw [hset.laneState, Dev.laneSeek_state]
  · rw [hset.b _ fLrxSigDet, Dev.b, Dev.laneSeek_lrx (by decide) (by decide), ← Dev.b]
  · rw [hset.g _ fPhase, hphase]
  · rw [hset.b _ fPcFade, hfade]

/-- What a host lane that enters SEEK may change. -/
abbrev hostSeekRegs (n : Lane) : List (Nat × Nat) :=
  [(pHrx n, 0x044), (pHrx n, 0x068), (pHtx n, 0x044), (pHtx n, 0x05C), (pHtx n, 0x060)] ++ capRegs

theorem not_trial_hostSeek (n : Lane) : (pTrial, 0x048) ∉ hostSeekRegs n := not_mem_append_capRegs (by simp) trial_ne_capture

theorem cdrLoss_host (hc : s.calm) (hr : s.dev.runs (pHrx n)) (hv : s.dev.hostValid n = true)
    (hu : s.dev.b (pHrx n) fHrxCdrLock = false) : Yields (exec (.cdrLossTimeout .host n) s) fun t =>
      t.dev.hostState n = stSeek ∧ t.dev.b (pHrx n) fHrxSigDet = s.dev.b (pHrx n) fHrxSigDet ∧ t.dev.b (pHrx n) fWuLock = false ∧
      t.dev.g (pHrx n) fHostPhase = 0 ∧
      Kept s t { s.dev with hrx := t.dev.hrx, htx := t.dev.htx, ltx := (s.dev.updLtx n fun h => { h with glide := false }).ltx }
        (hostSeekRegs n) [] := by
  refine (DevKept.hostSeek (DevKept.refl (ev := []) _) (by simp) (by simp) (by simp [List.subset_def])
    fun _ => List.subset_append_right _ _).yieldsOn hc hr (Dev.hrxCdrLoss_eq hv hu) rfl (not_trial_hostSeek n) fun t hset kept =>
    ⟨?_, ?_, ?_, ?_, ?_⟩
  · exact (hset.g _ fHostState).trans (Dev.hostSeek_state _ n)
  · rw [hset.b _ fHrxSigDet, Dev.b, Dev.hostSeek_g (by decide) (by decide) (by decide) (by decide), ← Dev.b]
  · rw [hset.b _ fWuLock, Dev.hostSeek_wuLock]
  · rw [hset.g _ fHostPhase, Dev.hostSeek_phase]
  · rw [kept.hrx, kept.htx]
    exact kept

end

/-- Settles O12: each event by what it makes of the receiver's STATUS and TR_STATUS; a lane in TRAIN that locks ends phase 1, and a lane
in RUN or HOLD that stays without lock goes to SEEK. -/
theorem timingRecoveryFollowsTheLoop : Obligations.TimingRecoveryFollowsTheLoop := by
  refine ⟨?lock, ?lockLineTrain, ?lockHostTrain, ?unlock, ?range, ?lossLine, ?lossHost⟩
  case lock =>
    rintro s (_ | _) n freq phase hc hr he hd hl hu hf hst
    · exact cdrLocked_yields hc hr hf (Dev.lrxCdrLock_other (Dev.loops_true he hd hl) hf hu hst)
    · exact cdrLocked_yields hc hr hf (Dev.hrxCdrLock_other (Dev.loops_true he hd hl) hf hu hst)
  case lockLineTrain =>
    intro s n freq phase hc hr he hd hl hu hf hst
    exact cdrLock_line_train hc hr (Dev.loops_true he hd hl) hu hf hst
  case lockHostTrain =>
    intro s n freq phase hc hr he hd hl hu hf hst
    exact cdrLock_host_train hc hr (Dev.loops_true he hd hl) hu hf hst
  case unlock =>
    rintro s (_ | _) n freq hc hr he hd hl hlock
    · exact cdrUnlocked_yields hc hr (Dev.signals_lrx hr.powered) (by decide) (Dev.lrxCdrUnlock_eq (Dev.loops_true he hd hl) hlock)
    · exact cdrUnlocked_yields hc hr (Dev.signals_hrx hr.powered) (by decide) (Dev.hrxCdrUnlock_eq (Dev.loops_true he hd hl) hlock)
  case range =>
    rintro s (_ | _) n high hc hr he hd hl
    · obtain ⟨t, ht, hlock, hfreq, h4, h3, kept⟩ := freqRange_line (high := high) hc hr (Dev.loops_true he hd hl)
      exact ⟨t, ht, hlock, hfreq, fun _ => h4, fun hu => h3.trans ((congrArg (s.dev.evt (pLrx n) 3 || ·) hu).trans (Bool.or_true _)),
        fun hu => h3.trans ((congrArg (s.dev.evt (pLrx n) 3 || ·) hu).trans (Bool.or_false _)), kept⟩
    · obtain ⟨t, ht, hlock, hfreq, h2, kept⟩ := freqRange_host (high := high) hc hr (Dev.loops_true he hd hl)
      exact ⟨t, ht, hlock, hfreq, nofun, fun hu => h2.trans ((congrArg (s.dev.evt (pHrx n) 2 || ·) hu).trans (Bool.or_true _)),
        fun hu => h2.trans ((congrArg (s.dev.evt (pHrx n) 2 || ·) hu).trans (Bool.or_false _)), kept⟩
  case lossLine => exact fun s n hc hr hv hu => cdrLoss_line hc hr hv hu
  case lossHost => exact fun s n hc hr hv hu => cdrLoss_host hc hr hv hu

end Sys2Proof.Machine
end

section
/-! LANE_CTRL.en, SIG_DET and LOS of the receivers (O11, R58, R61, R62, R75, R92, R174, R186). -/

open Sys2Proof Sys2Proof.Machine

namespace Sys2Proof.Machine

/-! LANE_CTRL -/

theorem regSpec_lrxCtrl (n : Lane) : regSpec (pLrx n) 0x040 = some ⟨"LANE_CTRL", 0x040, [rw 4 4 0, rw 3 3 0, rw 0 0 0], 1, 4, false⟩ := by
  revert n; decide

/-- LANE_CTRL holds en as written. -/
theorem storeWord_lrxCtrl_en (n : Lane) (old v : Word) : (storeWord (pLrx n) 0x040 old v).getLsbD 0 = v.getLsbD 0 := by
  have hp : ¬ (pLrx n = 0x12 ∧ 0x040 = 0x050) := by omega
  unfold storeWord
  rw [regSpec_lrxCtrl]
  simp only [if_neg hp, List.foldl, FSpec.write, rw, FSpec.mask, Norm.store, BitVec.ofNat_toNat]
  simp

theorem Dev.store_lrxCtrl_en (d : Dev) (n : Lane) (v : Word) : (d.store (pLrx n) 0x040 v).b (pLrx n) fLrxEn = v.getLsbD 0 := by
  rw [Dev.b, Dev.g, fLrxEn, getBits_one, Dev.store, Dev.rd_wr_same]
  exact storeWord_lrxCtrl_en n _ v

section
variable {d : Dev} {w : Who} {n : Lane}

theorem Dev.lrxCtrlWrite_set (ht : d.takes w (pLrx n) 0x040) (v : Word) :
    d.lrxCtrlWrite w n (v ||| 1) = ((d.store (pLrx n) 0x040 (v ||| 1)).laneEnable n).answered := by
  have hen : (d.store (pLrx n) 0x040 (v ||| 1)).b (pLrx n) fLrxEn = true := by
    rw [Dev.store_lrxCtrl_en]
    simp
  rw [Dev.lrxCtrlWrite, access_takes _ _ _ _ _ ht]
  exact congrArg Dev.answered (if_pos hen)

theorem Dev.store_lrxCtrl_clear (d : Dev) (n : Lane) (v : Word) :
    (d.store (pLrx n) 0x040 (v &&& ~~~ 1)).b (pLrx n) fLrxEn = false := by
  rw [Dev.store_lrxCtrl_en]
  simp

theorem Dev.lrxCtrlWrite_clear (ht : d.takes w (pLrx n) 0x040) (v : Word) :
    d.lrxCtrlWrite w n (v &&& ~~~ 1) = ((d.store (pLrx n) 0x040 (v &&& ~~~ 1)).laneOff n).answered := by
  rw [Dev.lrxCtrlWrite, access_takes _ _ _ _ _ ht]
  exact congrArg Dev.answered (if_neg (by rw [Dev.store_lrxCtrl_clear]; decide))

end

theorem Dev.answered_life (d : Dev) : d.answered.life = d.life := rfl

theorem Settled.unanswered {e t : Dev} (h : Settled e.answered t) : Settled e t := ⟨h.rd, h.evt, h.lrx, h.pacer⟩

/-! OFF to SEEK -/

theorem Dev.laneEnable_off {d : Dev} {n : Lane} (h : d.laneState n = stOff) : d.laneEnable n = (d.laneTo n stSeek).lanePar n := if_pos h

theorem Dev.laneEnable_other {d : Dev} {n : Lane} (h : d.laneState n ≠ stOff) : d.laneEnable n = d := if_neg h

/-- A lane that enters SEEK from OFF has signal and lock where a near-end parallel loopback stands for them (R62, R64). -/
theorem Dev.seekPar_reads (d : Dev) (n : Lane) : ((d.laneTo n stSeek).lanePar n).laneState n = stSeek ∧
    ((d.laneTo n stSeek).lanePar n).b (pLrx n) fLrxSigDet = (d.lg (pLrx n) fLoopback == 2) ∧
    ((d.laneTo n stSeek).lanePar n).b (pLrx n) fLrxCdrLock = (d.lg (pLrx n) fLoopback == 2) := by
  refine ⟨?_, ?_, Dev.b_sb_same _ _ _ _ (by decide) rfl⟩
  · simp (disch := decide) only [Dev.lanePar, Dev.laneTo, Dev.laneState, Dev.sb, Dev.g_s_apart, Dev.g_s_same]
    decide
  · refine (Dev.b_s_apart (by decide) ..).trans ?_
    exact Dev.b_sb_same _ _ _ _ (by decide) rfl

theorem DevKept.laneEnable {ex ev : List (Nat × Nat)} {d h e : Dev} (k : DevKept ex ev d h e) {n : Lane} (h44 : (pLrx n, 0x044) ∈ ex) :
    DevKept ex ev d h (e.laneEnable n) := by
  unfold Dev.laneEnable
  split
  · exact ((k.s (f := fLrxState) stSeek h44).sb (f := fLrxSigDet) _ h44).sb (f := fLrxCdrLock) _ h44
  · exact k

/-- Of a lane's page OFF to SEEK touches STATUS alone. -/
theorem Dev.laneEnable_rd (d : Dev) (n : Lane) {p o : Nat} (ho : o < 4096) (hne : o ≠ 0x010) (h : (p, o) ≠ (pLrx n, 0x044)) :
    (d.laneEnable n).rd p o = d.rd p o :=
  ((DevKept.refl (ex := [(pLrx n, 0x044)]) (ev := []) d).laneEnable (.head _)).regs p o ho hne fun hm => h (List.mem_singleton.mp hm)

theorem Dev.store_laneState (d : Dev) (n m : Lane) (v : Word) : (d.store (pLrx n) 0x040 v).laneState m = d.laneState m :=
  Dev.store_g d (f := fLrxState) v (by decide)

/-- LRX_EN_SET. -/
theorem lrxEnSet_enables {s : State} {w : Who} {n : Lane} {v : Word} (hc : s.calm) (ht : s.dev.takes w (pLrx n) 0x040) :
    Yields (exec (.lrxEnSet w n v) s) fun t =>
      t.dev.rd (pLrx n) 0x040 = storeWord (pLrx n) 0x040 (s.dev.rd (pLrx n) 0x040) (v ||| 1) ∧
      t.dev.laneState n = (if s.dev.laneState n = stOff then stSeek else s.dev.laneState n) ∧
      (s.dev.laneState n = stOff → t.dev.b (pLrx n) fLrxSigDet = (s.dev.lg (pLrx n) fLoopback == 2) ∧
        t.dev.b (pLrx n) fLrxCdrLock = (s.dev.lg (pLrx n) fLoopback == 2)) ∧
      (s.dev.laneState n ≠ stOff → t.dev.rd (pLrx n) 0x044 = s.dev.rd (pLrx n) 0x044) ∧
      Kept s t s.dev.answered [(pLrx n, 0x040), (pLrx n, 0x044)] [] := by
  have hst := s.dev.store_laneState n n (v ||| 1)
  have k : DevKept [(pLrx n, 0x040), (pLrx n, 0x044)] [] s.dev s.dev (s.dev.store (pLrx n) 0x040 (v ||| 1)) :=
    (DevKept.refl _).wr _ (by simp)
  refine (k.laneEnable (n := n) (by simp)).answered.yields hc (f := (·.lrxCtrlWrite w n (v ||| 1))) (Dev.lrxCtrlWrite_set ht v) rfl (by simp)
    fun t hans kept => have hset := hans.unanswered; ⟨?_, ?_, fun hoff => ?_, fun hon => ?_, kept⟩
  · refine (hset.rd _ _ (by decide) (by decide)).trans ((Dev.laneEnable_rd _ n (by decide) (by decide) (by simp)).trans ?_)
    exact s.dev.rd_wr_same _ _ _
  · refine (hset.laneState n).trans ?_
    split
    case isTrue hoff =>
      rw [Dev.laneEnable_off (hst.trans hoff)]
      exact (Dev.seekPar_reads _ n).1
    case isFalse hon =>
      rw [Dev.laneEnable_other (hst ▸ hon)]
      exact hst
  · rw [Dev.laneEnable_off (hst.trans hoff)] at hset
    obtain ⟨-, hsig, hlock⟩ := (s.dev.store (pLrx n) 0x040 (v ||| 1)).seekPar_reads n
    exact ⟨(hset.b _ fLrxSigDet).trans hsig, (hset.b _ fLrxCdrLock).trans hlock⟩
  · rw [Dev.laneEnable_other (hst ▸ hon)] at hset
    exact (hset.rd _ _ (by decide) (by decide)).trans (s.dev.rd_wr_off (by decide) (by decide) (by decide) _)

/-! OFF -/

/-- A receiver in OFF: no signal, no lock, no calibration run and none requested (R62, R75, R92). -/
structure Dev.ReceiverOff (d : Dev) (n : Lane) : Prop where
  state : d.laneState n = stOff
  sig : d.b (pLrx n) fLrxSigDet = false
  lock : d.b (pLrx n) fLrxCdrLock = false
  busy : d.b (pLrx n) fLrxCalBusy = false
  pending : d.b (pLrx n) fLrxCalPending = false

/-- What is left of a lane that goes to OFF before its Pacer stops. -/
def Dev.offLeft (d : Dev) (n : Lane) : Dev := (d.when (d.laneValid n) (·.captureLaneLeft 0 n)).lrxCalDiscard n

section
variable {ex ev : List (Nat × Nat)} {d h e : Dev} {n : Lane}

theorem DevKept.laneOff (k : DevKept ex ev d h e) (h44 : (pLrx n, 0x044) ∈ ex) (hp : pacerStatusRegs n ⊆ ex) (hcap : capRegs ⊆ ex) :
    DevKept ex ev d (h.laneStopped n) (e.laneOff n) := by
  have kcap : DevKept ex ev d h (e.when (e.laneValid n) (·.captureLaneLeft 0 n)) := k.when (k.captureLaneLeft hcap 0 n) _
  have kleft := ((kcap.updLrx n fun x => { x with run := none }).sb (f := fLrxCalBusy) false h44).sb (f := fLrxCalPending) false h44
  have kstop := (kleft.pacerStop hp).updHtx n fun x => { x with glide := false }
  exact ((kstop.s (f := fLrxState) stOff h44).sb (f := fLrxSigDet) false h44).sb (f := fLrxCdrLock) false h44

theorem Dev.laneOff_g {f : Fld} (hs : f.apart fLrxState) (hd : f.apart fLrxSigDet) (hl : f.apart fLrxCdrLock) (d : Dev) (n : Lane)
    (q : Nat) : (d.laneOff n).g q f = ((d.offLeft n).pacerStop n).g q f := by
  rw [Dev.laneOff, Dev.sb, Dev.g_s_apart hl, Dev.sb, Dev.g_s_apart hd, Dev.laneTo, Dev.g_s_apart hs]
  exact Dev.g_updHtx _ n _ q f

theorem Dev.laneOff_off (d : Dev) (n : Lane) : (d.laneOff n).ReceiverOff n where
  state := by
    simp (disch := decide) only [Dev.laneOff, Dev.laneTo, Dev.laneState, Dev.sb, Dev.g_s_apart, Dev.g_s_same]
    decide
  sig := by
    refine (Dev.b_s_apart (by decide) ..).trans ?_
    exact Dev.b_sb_same _ _ _ _ (by decide) rfl
  lock := Dev.b_sb_same _ _ _ _ (by decide) rfl
  busy := by
    have hbusy : (d.offLeft n).b (pLrx n) fLrxCalBusy = false := by
      refine (Dev.b_s_apart (by decide) ..).trans ?_
      exact Dev.b_sb_same _ _ _ _ (by decide) rfl
    rw [Dev.b, Dev.laneOff_g (by decide) (by decide) (by decide), Dev.pacerStop_lrx _ n n]
    exact hbusy
  pending := by
    have hpend : (d.offLeft n).b (pLrx n) fLrxCalPending = false := Dev.b_sb_same _ _ _ _ (by decide) rfl
    rw [Dev.b, Dev.laneOff_g (by decide) (by decide) (by decide), Dev.pacerStop_lrx _ n n]
    exact hpend

/-- A field of the Pacer reads as the Pacer's stop leaves it. -/
theorem Dev.laneOff_pacer (d : Dev) (n : Lane) (f : Fld) (hlt : f.off < 4096) :
    (d.laneOff n).g (pPacer n) f = ((d.offLeft n).pacerStop n).g (pPacer n) f := by
  have hpage : ∀ (e : Dev) (x : Fld) (v : Nat), x.off < 4096 → (e.s (pLrx n) x v).g (pPacer n) f = e.g (pPacer n) f := fun e x v hx =>
    Dev.g_congr (e.rd_s_page x v hx hlt (pacer_ne_lrx n n))
  rw [Dev.laneOff, Dev.sb, hpage _ _ _ (by decide), Dev.sb, hpage _ _ _ (by decide), Dev.laneTo, hpage _ _ _ (by decide)]
  exact Dev.g_updHtx _ n _ _ f

end

/-- What a line lane that goes to OFF by LANE_CTRL may change. -/
abbrev laneOffRegs (n : Lane) : List (Nat × Nat) :=
  [(pLrx n, 0x040), (pLrx n, 0x044), (pPacer n, 0x044), (pPacer n, 0x05C), (pPacer n, 0x064)] ++ capRegs

/-- LRX_EN_CLEAR. -/
theorem lrxEnClear_stops {s : State} {w : Who} {n : Lane} {v : Word} (hc : s.calm) (ht : s.dev.takes w (pLrx n) 0x040) :
    Yields (exec (.lrxEnClear w n v) s) fun t =>
      t.dev.laneState n = stOff ∧ t.dev.b (pLrx n) fLrxEn = false ∧ t.dev.b (pLrx n) fLrxSigDet = false ∧
      t.dev.b (pLrx n) fLrxCdrLock = false ∧ t.dev.b (pLrx n) fLrxCalBusy = false ∧ t.dev.b (pLrx n) fLrxCalPending = false ∧
      t.dev.b (pPacer n) fPcFade = false ∧ t.dev.g (pPacer n) fHandoffStep = 0 ∧ t.dev.g (pPacer n) fPhase = 0 ∧
      Kept s t (s.dev.answered.laneStopped n) (laneOffRegs n) [] := by
  have hen := s.dev.store_lrxCtrl_clear n v
  have k : DevKept (laneOffRegs n) [] s.dev s.dev (s.dev.store (pLrx n) 0x040 (v &&& ~~~ 1)) := (DevKept.refl _).wr _ (by simp)
  generalize he : s.dev.store (pLrx n) 0x040 (v &&& ~~~ 1) = e at hen k
  obtain ⟨hoff, hsig, hlock, hbusy, hpend⟩ := e.laneOff_off n
  obtain ⟨hphase, hfade, hstep⟩ := (e.offLeft n).pacerStop_idle n
  refine (k.laneOff (n := n) (by simp) (by simp [List.subset_def]) (List.subset_append_right _ _)).answered.yields hc
    (f := (·.lrxCtrlWrite w n (v &&& ~~~ 1))) (he ▸ Dev.lrxCtrlWrite_clear ht v)
    ((Dev.answered_life _).trans (Dev.laneStopped_life _ n)) (not_mem_append_capRegs (by simp) trial_ne_capture)
    fun t hans kept => have hset := hans.unanswered; ⟨?_, ?_, ?_, ?_, ?_, ?_, ?_, ?_, ?_, kept⟩
  · exact (hset.laneState n).trans hoff
  · refine (hset.b _ fLrxEn).trans (Eq.trans ?_ hen)
    exact ((DevKept.refl (ex := [(pLrx n, 0x044)] ++ pacerStatusRegs n ++ capRegs) (ev := []) e).laneOff (by simp)
      (by simp [List.subset_def]) (List.subset_append_right _ _)).b (not_mem_append_capRegs (by simp [fLrxEn]) (lrx_ne_capture n))
  · exact (hset.b _ fLrxSigDet).trans hsig
  · exact (hset.b _ fLrxCdrLock).trans hlock
  · exact (hset.b _ fLrxCalBusy).trans hbusy
  · exact (hset.b _ fLrxCalPending).trans hpend
  · refine (hset.b _ fPcFade).trans (Eq.trans ?_ hfade)
    exact congrArg (· == 1) (e.laneOff_pacer n fPcFade (by decide))
  · exact (hset.g _ fHandoffStep).trans ((e.laneOff_pacer n fHandoffStep (by decide)).trans hstep)
  · exact (hset.g _ fPhase).trans ((e.laneOff_pacer n fPhase (by decide)).trans hphase)

end Sys2Proof.Machine
end

section
/-! Signal and its loss at the receivers (R61, R62, R64, R92, R174, R186). -/

open Sys2Proof Sys2Proof.Machine

namespace Sys2Proof.Machine

/-! A signal -/

/-- The receiver of page `p` has a signal, with source 0 where it had none (R61). -/
def Dev.signalSeen (d : Dev) (p : Nat) : Dev := (d.sb p fLrxSigDet true).raiseIf (!d.b p fLrxSigDet) p 0

/-- The receiver of page `p` has lost its signal and its lock, with source 1 (R61, R64). -/
def Dev.signalGone (d : Dev) (p : Nat) : Dev := ((d.sb p fLrxSigDet false).sb p fLrxCdrLock false).raise p 1

section
variable {ex ev : List (Nat × Nat)} {d h e : Dev} {p k : Nat}

theorem DevKept.signalSeen (kp : DevKept ex ev d h e) (h44 : (p, 0x044) ∈ ex) (hv : (p, 0) ∈ ev) :
    DevKept ex ev d h (e.signalSeen p) := (kp.sb (f := fLrxSigDet) true h44).raiseIf _ hv

theorem DevKept.signalGone (kp : DevKept ex ev d h e) (h44 : (p, 0x044) ∈ ex) (hv : (p, 1) ∈ ev) :
    DevKept ex ev d h (e.signalGone p) :=
  ((kp.sb (f := fLrxSigDet) false h44).sb (f := fLrxCdrLock) false h44).raise hv

theorem Dev.signalSeen_g {f : Fld} (hf : f.apart fLrxSigDet) (hne : f.off ≠ 0x010) (d : Dev) (p q : Nat) :
    (d.signalSeen p).g q f = d.g q f := by
  rw [Dev.signalSeen, Dev.g_congr (Dev.rd_raiseIf _ _ _ _ q f.off hf.1 hne), Dev.sb, Dev.g_s_apart hf]

theorem Dev.signalSeen_sig (d : Dev) (p : Nat) : (d.signalSeen p).b p fLrxSigDet = true := by
  rw [Dev.signalSeen, Dev.b_congr (Dev.rd_raiseIf _ _ _ _ p fLrxSigDet.off)]
  exact Dev.b_sb_same _ _ _ _ (by decide) rfl

theorem Dev.signalSeen_evt (hs : d.Signals p k) (hk : 0 < k) : (d.signalSeen p).evt p 0 = (d.evt p 0 || !d.b p fLrxSigDet) := by
  have hs' : (d.sb p fLrxSigDet true).Signals p k := hs.congr rfl
  have hevt : (d.sb p fLrxSigDet true).evt p 0 = d.evt p 0 := Dev.evt_wr _ _ _ _ (by decide) (by decide)
  rw [Dev.signalSeen, hs'.raiseIf hk, hevt]

theorem Dev.signalGone_g {f : Fld} (hd : f.apart fLrxSigDet) (hl : f.apart fLrxCdrLock) (hne : f.off ≠ 0x010) (d : Dev) (p q : Nat) :
    (d.signalGone p).g q f = d.g q f := by
  rw [Dev.signalGone, Dev.g_raise _ _ _ _ f hd.1 hne, Dev.sb, Dev.g_s_apart hl, Dev.sb, Dev.g_s_apart hd]

theorem Dev.signalGone_reads (d : Dev) (p : Nat) :
    (d.signalGone p).b p fLrxSigDet = false ∧ (d.signalGone p).b p fLrxCdrLock = false := by
  rw [Dev.signalGone, Dev.b_raise _ _ _ _ fLrxSigDet, Dev.b_raise _ _ _ _ fLrxCdrLock]
  refine ⟨(Dev.b_s_apart (by decide) ..).trans ?_, Dev.b_sb_same _ _ _ _ (by decide) rfl⟩
  exact Dev.b_sb_same _ _ _ _ (by decide) rfl

theorem Dev.signalGone_evt (hs : d.Signals p k) (hk : 1 < k) : (d.signalGone p).evt p 1 = true := by
  have hs' : ((d.sb p fLrxSigDet false).sb p fLrxCdrLock false).Signals p k := hs.congr rfl
  exact hs'.raise hk

end

/-! A receiver that stays in its state -/

section
variable {s : State} {p k : Nat} {f : Dev → Dev}

theorem signalSeen_yields (hc : s.calm) (hr : s.dev.runs p) (hs : s.dev.Signals p k) (hk : 0 < k) (he : f s.dev = s.dev.signalSeen p) :
    Yields (actOn p s f) fun t =>
      t.dev.b p fLrxSigDet = true ∧ t.dev.evt p 0 = (s.dev.evt p 0 || !s.dev.b p fLrxSigDet) ∧
      t.dev.g p fLrxState = s.dev.g p fLrxState ∧ Kept s t s.dev [(p, 0x044)] [(p, 0)] := by
  refine ((DevKept.refl _).signalSeen (by simp) (by simp)).yieldsOn hc hr he rfl (by simp) fun t hset kept => ⟨?_, ?_, ?_, kept⟩
  · exact (hset.b _ fLrxSigDet).trans (s.dev.signalSeen_sig p)
  · exact (hset.evt _ _ hs.not_three).trans (Dev.signalSeen_evt hs hk)
  · exact (hset.g _ fLrxState).trans (Dev.signalSeen_g (by decide) (by decide) ..)

theorem signalGone_yields (hc : s.calm) (hr : s.dev.runs p) (hs : s.dev.Signals p k) (hk : 1 < k) (he : f s.dev = s.dev.signalGone p) :
    Yields (actOn p s f) fun t =>
      t.dev.b p fLrxSigDet = false ∧ t.dev.b p fLrxCdrLock = false ∧ t.dev.evt p 1 = true ∧
      t.dev.g p fLrxState = s.dev.g p fLrxState ∧ Kept s t s.dev [(p, 0x044)] [(p, 1)] := by
  obtain ⟨hsig, hlock⟩ := s.dev.signalGone_reads p
  refine ((DevKept.refl _).signalGone (by simp) (by simp)).yieldsOn hc hr he rfl (by simp) fun t hset kept => ⟨?_, ?_, ?_, ?_, kept⟩
  · exact (hset.b _ fLrxSigDet).trans hsig
  · exact (hset.b _ fLrxCdrLock).trans hlock
  · exact (hset.evt _ _ hs.not_three).trans (Dev.signalGone_evt hs hk)
  · exact (hset.g _ fLrxState).trans (Dev.signalGone_g (by decide) (by decide) (by decide) ..)

end

section
variable {d : Dev} {n : Lane}

theorem Dev.lrxSigDet_eq (he : d.b (pLrx n) fLrxEn = true) : d.lrxSigDet n = (d.signalSeen (pLrx n)).laneTryTrain n := if_pos he

theorem Dev.signalSeen_laneState (d : Dev) (n : Lane) : (d.signalSeen (pLrx n)).laneState n = d.laneState n :=
  Dev.signalSeen_g (f := fLrxState) (by decide) (by decide) ..

theorem Dev.lrxSigDet_other (he : d.b (pLrx n) fLrxEn = true) (hst : d.laneState n ≠ stSeek) : d.lrxSigDet n = d.signalSeen (pLrx n) :=
  (Dev.lrxSigDet_eq he).trans (if_neg fun h => hst (d.signalSeen_laneState n ▸ h.1))

theorem Dev.signalSeen_hostState (d : Dev) (n : Lane) : (d.signalSeen (pHrx n)).hostState n = d.hostState n :=
  Dev.signalSeen_g (f := fHostState) (by decide) (by decide) ..

theorem Dev.hrxSigDet_eq (he : d.b (pHrx n) fHrxEn = true) (hoff : d.hostState n ≠ stOff) : d.hrxSigDet n =
    if (d.signalSeen (pHrx n)).hostState n = stSeek then (d.signalSeen (pHrx n)).hostTrain n else d.signalSeen (pHrx n) :=
  if_pos (by rw [he, Bool.true_and]; exact bne_iff_ne.mpr hoff)

theorem Dev.hrxSigDet_other (he : d.b (pHrx n) fHrxEn = true) (hoff : d.hostState n ≠ stOff) (hst : d.hostState n ≠ stSeek) :
    d.hrxSigDet n = d.signalSeen (pHrx n) :=
  (Dev.hrxSigDet_eq he hoff).trans (if_neg fun h => hst (d.signalSeen_hostState n ▸ h))

theorem Dev.hrxSigDet_seek (he : d.b (pHrx n) fHrxEn = true) (hst : d.hostState n = stSeek) :
    d.hrxSigDet n = (d.signalSeen (pHrx n)).hostTrain n :=
  (Dev.hrxSigDet_eq he (by rw [hst]; decide)).trans (if_pos ((d.signalSeen_hostState n).trans hst))

theorem Dev.lrxLos_eq (hl : d.loops (pLrx n) = true) : d.lrxLos n =
    if (d.signalGone (pLrx n)).laneState n = stTrain ∨ (d.signalGone (pLrx n)).laneValid n = true then (d.signalGone (pLrx n)).laneSeek n 1
    else d.signalGone (pLrx n) := if_pos hl

theorem Dev.signalGone_laneState (d : Dev) (n : Lane) : (d.signalGone (pLrx n)).laneState n = d.laneState n :=
  Dev.signalGone_g (f := fLrxState) (by decide) (by decide) (by decide) ..

/-- TRAIN, RUN and HOLD are the states in which the Pacer works. -/
theorem Dev.lane_works (d : Dev) (n : Lane) :
    (d.laneState n = stTrain ∨ d.laneValid n = true) ↔ d.laneState n ∈ [stTrain, stRun, stHold] := by
  simp [Dev.laneValid]

theorem Dev.host_works (d : Dev) (n : Lane) :
    (d.hostState n = stTrain ∨ d.hostValid n = true) ↔ d.hostState n ∈ [stTrain, stRun, stHold] := by
  simp [Dev.hostValid, Dev.hostState, stRun, stHold]

theorem Dev.lrxLos_other (hl : d.loops (pLrx n) = true) (hst : d.laneState n ∉ [stTrain, stRun, stHold]) :
    d.lrxLos n = d.signalGone (pLrx n) :=
  (Dev.lrxLos_eq hl).trans (if_neg fun h => hst (d.signalGone_laneState n ▸ (Dev.lane_works _ n).mp h))

theorem Dev.lrxLos_works (hl : d.loops (pLrx n) = true) (hst : d.laneState n ∈ [stTrain, stRun, stHold]) :
    d.lrxLos n = (d.signalGone (pLrx n)).laneSeek n 1 :=
  (Dev.lrxLos_eq hl).trans (if_pos ((Dev.lane_works _ n).mpr ((d.signalGone_laneState n).symm ▸ hst)))

theorem Dev.hrxLos_eq (hl : d.loops (pHrx n) = true) : d.hrxLos n =
    if (d.signalGone (pHrx n)).hostState n = stTrain ∨ (d.signalGone (pHrx n)).hostValid n = true then (d.signalGone (pHrx n)).hostSeek n
    else d.signalGone (pHrx n) := if_pos hl

theorem Dev.signalGone_hostState (d : Dev) (n : Lane) : (d.signalGone (pHrx n)).hostState n = d.hostState n :=
  Dev.signalGone_g (f := fHostState) (by decide) (by decide) (by decide) ..

theorem Dev.hrxLos_other (hl : d.loops (pHrx n) = true) (hst : d.hostState n ∉ [stTrain, stRun, stHold]) :
    d.hrxLos n = d.signalGone (pHrx n) :=
  (Dev.hrxLos_eq hl).trans (if_neg fun h => hst (d.signalGone_hostState n ▸ (Dev.host_works _ n).mp h))

theorem Dev.hrxLos_works (hl : d.loops (pHrx n) = true) (hst : d.hostState n ∈ [stTrain, stRun, stHold]) :
    d.hrxLos n = (d.signalGone (pHrx n)).hostSeek n :=
  (Dev.hrxLos_eq hl).trans (if_pos ((Dev.host_works _ n).mpr ((d.signalGone_hostState n).symm ▸ hst)))

end

/-! LOS of a lane that works -/

section
variable {s : State} {n : Lane}

theorem los_line (hc : s.calm) (hr : s.dev.runs (pLrx n)) (hl : s.dev.loops (pLrx n) = true)
    (hst : s.dev.laneState n ∈ [stTrain, stRun, stHold]) : Yields (exec (.los .line n) s) fun t =>
      t.dev.b (pLrx n) fLrxSigDet = false ∧ t.dev.b (pLrx n) fLrxCdrLock = false ∧ t.dev.evt (pLrx n) 1 = true ∧
      t.dev.laneState n = stSeek ∧ t.dev.b (pLrx n) fLrxCalBusy = (s.dev.b (pLrx n) fLrxCalBusy && (s.dev.lx n).run.isNone) ∧
      t.dev.b (pPacer n) fPcFade = false ∧
      Kept s t (s.dev.laneStopped n) ([(pLrx n, 0x044), (pLrx n, 0x078), (pPacer n, 0x044), (pPacer n, 0x05C), (pPacer n, 0x064)] ++
        capRegs) [(pLrx n, 1), (pLrx n, 6)] := by
  have hs := Dev.signals_lrx hr.powered
  obtain ⟨hsig, hlock⟩ := s.dev.signalGone_reads (pLrx n)
  have hevt := Dev.signalGone_evt hs (by decide)
  have hbusy : (s.dev.signalGone (pLrx n)).b (pLrx n) fLrxCalBusy = s.dev.b (pLrx n) fLrxCalBusy :=
    congrArg (· == 1) (Dev.signalGone_g (by decide) (by decide) (by decide) ..)
  have kgone : DevKept _ _ s.dev s.dev (s.dev.signalGone (pLrx n)) := (DevKept.refl (ex := [(pLrx n, 0x044), (pLrx n, 0x078),
    (pPacer n, 0x044), (pPacer n, 0x05C), (pPacer n, 0x064)] ++ capRegs) (ev := [(pLrx n, 1), (pLrx n, 6)]) _).signalGone (by simp) (by simp)
  have hlx := kgone.lx n
  have he := Dev.lrxLos_works hl hst
  generalize s.dev.signalGone (pLrx n) = e at *
  have hseek := ((DevKept.refl (ex := [(pLrx n, 0x044), (pLrx n, 0x078)] ++ pacerStatusRegs n ++ capRegs) (ev := [(pLrx n, 6)])
    e).laneSeek (n := n) (by simp) (by simp) (by simp [List.subset_def]) (fun _ => List.subset_append_right _ _) (by simp) 1).events
    (pLrx n) 1 (by simp) hs.page
  refine (kgone.laneSeek (by simp) (by simp) (by simp [List.subset_def]) (fun _ => List.subset_append_right _ _) (by simp) 1).yieldsOn hc hr
    he rfl (not_mem_append_capRegs (by simp) trial_ne_capture) fun t hset kept => ⟨?_, ?_, ?_, ?_, ?_, ?_, kept⟩
  · rw [hset.b _ fLrxSigDet, Dev.b, Dev.laneSeek_lrx (by decide) (by decide)]
    exact hsig
  · rw [hset.b _ fLrxCdrLock, Dev.b, Dev.laneSeek_lrx (by decide) (by decide)]
    exact hlock
  · rw [hset.evt _ _ hs.not_three, hseek, hevt]
  · rw [hset.laneState, Dev.laneSeek_state]
  · rw [hset.b _ fLrxCalBusy, Dev.laneSeek_busy, hbusy, hlx]
  · rw [hset.b _ fPcFade, (e.laneSeek_pacer n 1).2]

theorem los_host (hc : s.calm) (hr : s.dev.runs (pHrx n)) (hl : s.dev.loops (pHrx n) = true)
    (hst : s.dev.hostState n ∈ [stTrain, stRun, stHold]) : Yields (exec (.los .host n) s) fun t =>
      t.dev.b (pHrx n) fHrxSigDet = false ∧ t.dev.b (pHrx n) fHrxCdrLock = false ∧ t.dev.b (pHrx n) fWuLock = false ∧
      t.dev.evt (pHrx n) 1 = true ∧ t.dev.hostState n = stSeek ∧ t.dev.g (pHrx n) fHostPhase = 0 ∧
      Kept s t { s.dev with hrx := t.dev.hrx, htx := t.dev.htx, ltx := (s.dev.updLtx n fun h => { h with glide := false }).ltx }
        (hostSeekRegs n) [(pHrx n, 1)] := by
  have hs := Dev.signals_hrx hr.powered
  obtain ⟨hsig, hlock⟩ := s.dev.signalGone_reads (pHrx n)
  have hevt := Dev.signalGone_evt hs (by decide)
  have kgone : DevKept (hostSeekRegs n) [(pHrx n, 1)] s.dev s.dev (s.dev.signalGone (pHrx n)) :=
    (DevKept.refl _).signalGone (by simp) (by simp)
  have he := Dev.hrxLos_works hl hst
  generalize s.dev.signalGone (pHrx n) = e at *
  have hseek := ((DevKept.refl (ex := hostSeekRegs n) (ev := []) e).hostSeek (n := n) (by simp) (by simp) (by simp [List.subset_def])
    fun _ => List.subset_append_right _ _).events (pHrx n) 1 (by simp) hs.page
  refine (kgone.hostSeek (n := n) (by simp) (by simp) (by simp [List.subset_def]) fun _ => List.subset_append_right _ _).yieldsOn hc hr he
    rfl (not_trial_hostSeek n) fun t hset kept => ⟨?_, ?_, ?_, ?_, ?_, ?_, ?_⟩
  · rw [hset.b _ fHrxSigDet, Dev.b, Dev.hostSeek_g (by decide) (by decide) (by decide) (by decide)]
    exact hsig
  · rw [hset.b _ fHrxCdrLock, Dev.b, Dev.hostSeek_g (by decide) (by decide) (by decide) (by decide)]
    exact hlock
  · rw [hset.b _ fWuLock, Dev.hostSeek_wuLock]
  · rw [hset.evt _ _ hs.not_three, hseek, hevt]
  · exact (hset.g _ fHostState).trans (Dev.hostSeek_state e n)
  · rw [hset.g _ fHostPhase, Dev.hostSeek_phase]
  · rw [kept.hrx, kept.htx]
    exact kept

end

end Sys2Proof.Machine
end

section
/-! The entry to TRAIN of line and host lanes, and O11 (R58, R84, R91, R92, R94, R186, R191). -/

open Sys2Proof Sys2Proof.Machine

namespace Sys2Proof.Machine

/-! A line lane enters TRAIN -/

/-- The front end's part of the hidden state with the settings that an entry to TRAIN takes (R58). -/
def LrxH.taken (fe : Word) (inv : Nat) (h : LrxH) : LrxH := { h with feTaken := fe, invTaken := inv }

/-- The Pacer's part with its main cursor at an entry to TRAIN (R84, R94). -/
def PacerH.fresh (main : Nat) (h : PacerH) : PacerH :=
  { h with main := main, cand := none, pend := none, failRun := 0, passRun := 0, accepted := false }

/-- The lane in TRAIN with its front-end settings live (R58). -/
def Dev.frontLive (d : Dev) (n : Lane) : Dev :=
  let e := d.laneTo n stTrain
  e.wr (pLrx n) 0x04C (e.rd (pLrx n) 0x048)

/-- The lane with what an entry to TRAIN takes of its settings: the front end's, and its main cursor's (R58, R84). -/
def Dev.settingsTaken (d : Dev) (n : Lane) : Dev :=
  let e := d.frontLive n
  let e := e.updLrx n (LrxH.taken (e.rd (pLrx n) 0x048) (e.g (pLrx n) fLrxInvert))
  e.updPacer n (PacerH.fresh (e.g (pPacer n) fEqMain))

theorem Dev.settingsTaken_rd (d : Dev) (n : Lane) (q o : Nat) : (d.settingsTaken n).rd q o = (d.frontLive n).rd q o := by
  unfold Dev.settingsTaken
  rfl

/-- The Pacer in phase 1, with its counters at 0 (R94, R113). -/
def Dev.phaseOne (d : Dev) (n : Lane) : Dev :=
  ((d.wrs (pPacer n) 0x078 [0, 0, 0, 0, 0, 0]).s (pPacer n) fPhase 1).sb (pPacer n) fPcTraining true

/-- The lane as an entry to TRAIN leaves it, but for its pace; a pending calibration request goes (R73). -/
def Dev.laneEntered (d : Dev) (n : Lane) : Dev := ((d.settingsTaken n).sb (pLrx n) fLrxCalPending false).phaseOne n

theorem Dev.laneTrain_eq (d : Dev) (n : Lane) :
    d.laneTrain n = (d.laneEntered n).setLevel n ((d.laneEntered n).g (pPacer n) fPaceTarget) := rfl

/-- The hidden state after an entry to TRAIN: `d` is the device that the lane takes its settings from. -/
def Dev.trainTaken (h d : Dev) (n : Lane) : Dev :=
  (h.updLrx n (LrxH.taken (d.rd (pLrx n) 0x048) (d.g (pLrx n) fLrxInvert))).updPacer n (PacerH.fresh (d.g (pPacer n) fEqMain))

/-- The registers of the Pacer that count (R113). -/
abbrev countRegs (n : Lane) : List (Nat × Nat) := regsOf (pPacer n) (regRun 0x078 6)

/-- The registers that an entry to TRAIN writes in the front end. -/
abbrev frontRegs (n : Lane) : List (Nat × Nat) := [(pLrx n, 0x044), (pLrx n, 0x04C)]

section
variable {ex ev : List (Nat × Nat)} {d h e : Dev} {n : Lane}

theorem DevKept.frontLive (k : DevKept ex ev d h e) (hx : frontRegs n ⊆ ex) : DevKept ex ev d h (e.frontLive n) :=
  (k.s (f := fLrxState) stTrain (hx (by simp [fLrxState]))).wr _ (hx (by simp))

theorem DevKept.settingsTaken (k : DevKept ex ev d h e) (hx : frontRegs n ⊆ ex) :
    DevKept ex ev d (h.trainTaken e n) (e.settingsTaken n) := by
  have hlive : DevKept (frontRegs n) [] e e (e.frontLive n) := (DevKept.refl e).frontLive (List.Subset.refl _)
  have hfe : (e.frontLive n).rd (pLrx n) 0x048 = e.rd (pLrx n) 0x048 := hlive.regs _ _ (by decide) (by decide) (by simp)
  have hinv : (e.frontLive n).g (pLrx n) fLrxInvert = e.g (pLrx n) fLrxInvert := hlive.g (by simp [fLrxInvert])
  have hmain : (e.frontLive n).g (pPacer n) fEqMain = e.g (pPacer n) fEqMain := hlive.g (by simp [fEqMain])
  rw [Dev.trainTaken, ← hfe, ← hinv, ← hmain]
  exact ((k.frontLive hx).updLrx n _).updPacer n _

theorem DevKept.phaseOne (k : DevKept ex ev d h e) (h44 : (pPacer n, 0x044) ∈ ex) (h64 : (pPacer n, 0x064) ∈ ex) (hc : countRegs n ⊆ ex) :
    DevKept ex ev d h (e.phaseOne n) := by
  have kzero := DevKept.wrs (p := pPacer n) (off := 0x078) (l := [0, 0, 0, 0, 0, 0]) k
    (fun i hi => hc (mem_regsOf.mpr ⟨rfl, mem_regRun.mpr ⟨i, hi, rfl⟩⟩)) (by decide) (by decide)
  exact (kzero.s (f := fPhase) 1 h64).sb (f := fPcTraining) true h44

/-- What the Pacer's entry to phase 1 may change. -/
abbrev phaseOneRegs (n : Lane) : List (Nat × Nat) := [(pPacer n, 0x044), (pPacer n, 0x064)] ++ countRegs n

theorem Dev.phaseOne_kept (d : Dev) (n : Lane) : DevKept (phaseOneRegs n) [] d d (d.phaseOne n) :=
  (DevKept.refl d).phaseOne (by simp) (by simp) (List.subset_append_right _ _)

theorem lrx_not_mem_phaseOneRegs (n : Lane) (o : Nat) : (pLrx n, o) ∉ phaseOneRegs n := fun hm =>
  (List.mem_append.mp hm).elim (by simp) fun hc => lrx_ne_pacer n n (mem_regsOf.mp hc).1

theorem Dev.phaseOne_phase (d : Dev) (n : Lane) : (d.phaseOne n).g (pPacer n) fPhase = 1 := by
  simp (disch := decide) only [Dev.phaseOne, Dev.sb, Dev.g_s_apart, Dev.g_s_same]
  decide

theorem Dev.phaseOne_counts (d : Dev) (n : Lane) {o : Nat} (ho : o ∈ regRun 0x078 6) : (d.phaseOne n).rd (pPacer n) o = 0 := by
  obtain ⟨i, hi, rfl⟩ := mem_regRun.mp ho
  rw [Dev.phaseOne, Dev.sb, Dev.rd_s_off _ fPcTraining _ (by decide) (by omega) (by simp only [fPcTraining]; omega),
    Dev.rd_s_off _ fPhase _ (by decide) (by omega) (by simp only [fPhase]; omega), Dev.wrs_rd_at _ hi (by decide)]
  interval_cases i <;> rfl

theorem DevKept.laneEntered (k : DevKept ex ev d h e) (hf : frontRegs n ⊆ ex) (hp : phaseOneRegs n ⊆ ex) :
    DevKept ex ev d (h.trainTaken e n) (e.laneEntered n) :=
  ((k.settingsTaken hf).sb (f := fLrxCalPending) false (hf (by simp [fLrxCalPending]))).phaseOne (hp (by simp)) (hp (by simp))
    (List.Subset.trans (List.subset_append_right _ _) hp)

theorem Dev.laneEntered_lrx (d : Dev) (n : Lane) {f : Fld} (hlt : f.off < 4096) (hne : f.off ≠ 0x010) (hp : f.apart fLrxCalPending) :
    (d.laneEntered n).g (pLrx n) f = (d.frontLive n).g (pLrx n) f := by
  rw [Dev.laneEntered, (Dev.phaseOne_kept _ n).g (lrx_not_mem_phaseOneRegs n _) hlt hne, Dev.sb, Dev.g_s_apart hp]
  exact Dev.g_congr (d.settingsTaken_rd n _ _)

theorem Dev.laneEntered_state (d : Dev) (n : Lane) : (d.laneEntered n).laneState n = stTrain := by
  rw [Dev.laneState, Dev.laneEntered_lrx _ _ (by decide) (by decide) (by decide), Dev.frontLive,
    Dev.g_congr (Dev.rd_wr_off _ (by decide) (by decide) (by decide) _)]
  exact Dev.g_s_same _ _ _ _ (by decide)

/-- A field of the front end that the entry does not write. -/
theorem Dev.laneEntered_g (d : Dev) (n : Lane) {f : Fld} (hs : f.apart fLrxState) (hp : f.apart fLrxCalPending) (h4C : f.off ≠ 0x04C)
    (hne : f.off ≠ 0x010) : (d.laneEntered n).g (pLrx n) f = d.g (pLrx n) f := by
  rw [Dev.laneEntered_lrx _ _ hs.1 hne hp, Dev.frontLive, Dev.g_congr (Dev.rd_wr_off _ (by decide) hs.1 h4C _)]
  exact Dev.g_s_apart hs ..

theorem Dev.laneEntered_pending (d : Dev) (n : Lane) : (d.laneEntered n).b (pLrx n) fLrxCalPending = false :=
  ((Dev.phaseOne_kept _ n).b (lrx_not_mem_phaseOneRegs n _)).trans (Dev.b_sb_same _ _ _ _ (by decide) rfl)

theorem Dev.laneEntered_live (d : Dev) (n : Lane) : (d.laneEntered n).rd (pLrx n) 0x04C = d.rd (pLrx n) 0x048 := by
  have hlive : (d.frontLive n).rd (pLrx n) 0x04C = (d.laneTo n stTrain).rd (pLrx n) 0x048 := Dev.rd_wr_same _ _ _ _
  have hpend : ((d.settingsTaken n).sb (pLrx n) fLrxCalPending false).rd (pLrx n) 0x04C = (d.settingsTaken n).rd (pLrx n) 0x04C :=
    Dev.rd_s_off _ fLrxCalPending _ (by decide) (by decide) (by decide)
  rw [Dev.laneEntered, (Dev.phaseOne_kept _ n).regs _ _ (by decide) (by decide) (lrx_not_mem_phaseOneRegs n _), hpend, d.settingsTaken_rd,
    hlive]
  exact d.rd_s_off fLrxState _ (by decide) (by decide) (by decide)

theorem Dev.laneEntered_target (d : Dev) (n : Lane) : (d.laneEntered n).g (pPacer n) fPaceTarget = d.g (pPacer n) fPaceTarget :=
  ((DevKept.refl (ev := []) d).laneEntered (ex := frontRegs n ++ phaseOneRegs n) (n := n) (List.subset_append_left _ _)
    (List.subset_append_right _ _)).g (fun hm => not_mem_regRun (off := 0x078) (n := 6) (o := 0x05C) (by omega) (by
      simpa [fPaceTarget, regsOf] using hm))

/-- The lane at its pace: the pace says nothing of the front end and of the Pacer's phase and counts. -/
theorem Dev.setLevel_kept (d : Dev) (n : Lane) (l : Nat) :
    DevKept [(pPacer n, 0x044), (pPacer n, 0x05C)] [] d d (d.setLevel n l) := (DevKept.refl d).setLevel (by simp) (by simp) l

end

/-! A signal in SEEK -/

/-- What an entry to TRAIN does, whether or not phase 1 ends with it: `e` is the lane after it, `d` the one that takes its settings. -/
structure Enters (d e : Dev) (n : Lane) : Prop where
  state : e.laneState n = stTrain
  live : e.rd (pLrx n) 0x04C = d.rd (pLrx n) 0x048
  pending : e.b (pLrx n) fLrxCalPending = false
  signal : e.b (pLrx n) fLrxSigDet = d.b (pLrx n) fLrxSigDet
  counts : ∀ o ∈ regRun 0x078 6, e.rd (pPacer n) o = 0

theorem Dev.laneEntered_enters (d : Dev) (n : Lane) : Enters d (d.laneEntered n) n where
  state := d.laneEntered_state n
  live := d.laneEntered_live n
  pending := d.laneEntered_pending n
  signal := congrArg (· == 1) (d.laneEntered_g n (by decide) (by decide) (by decide) (by decide))
  counts _ ho := Dev.phaseOne_counts _ n ho

/-- A step that writes in the Pacer's page beside its counts keeps what the entry does. -/
theorem Enters.kept {d e c : Dev} {n : Lane} (h : Enters d e n) (k : DevKept (pacerStatusRegs n) [] e e c) : Enters d c n where
  state := (k.g (f := fLrxState) (by simp)).trans h.state
  live := (k.regs _ _ (by decide) (by decide) (by simp)).trans h.live
  pending := (k.b (f := fLrxCalPending) (by simp)).trans h.pending
  signal := (k.b (f := fLrxSigDet) (by simp)).trans h.signal
  counts o ho := by
    refine (k.regs _ _ ?_ ?_ ?_).trans (h.counts o ho)
    all_goals obtain ⟨i, hi, rfl⟩ := mem_regRun.mp ho
    · omega
    · omega
    · simp
      omega

section
variable {d : Dev} {n : Lane}

theorem Dev.laneTrain_enters (d : Dev) (n : Lane) : Enters d (d.laneTrain n) n :=
  (d.laneEntered_enters n).kept (by
    rw [Dev.laneTrain_eq]
    exact (DevKept.refl _).setLevel (by simp) (by simp) _)

/-- Phase 1 at the pace target (R91, R94). -/
theorem Dev.laneTrain_pacer (d : Dev) (n : Lane) : (d.laneTrain n).g (pPacer n) fPhase = 1 ∧
    (d.laneTrain n).g (pPacer n) fPaceLive = d.g (pPacer n) fPaceTarget := by
  rw [Dev.laneTrain_eq, d.laneEntered_target]
  refine ⟨?_, Dev.setLevel_live _ n (d.g_lt _ fPaceTarget)⟩
  exact ((Dev.setLevel_kept _ n _).g (f := fPhase) (by simp [fPhase])).trans (Dev.phaseOne_phase _ n)

theorem DevKept.laneTrain {ex ev : List (Nat × Nat)} {h e : Dev} (k : DevKept ex ev d h e) (hf : frontRegs n ⊆ ex)
    (hp : pacerStatusRegs n ⊆ ex) (hc : countRegs n ⊆ ex) : DevKept ex ev d (h.trainTaken e n) (e.laneTrain n) :=
  DevKept.setLevel (k.laneEntered hf (List.append_subset.mpr ⟨by simp [hp (show (pPacer n, 0x044) ∈ _ by simp),
    hp (show (pPacer n, 0x064) ∈ _ by simp)], hc⟩)) (hp (by simp)) (hp (by simp)) _

/-- The lane in TRAIN, past phase 1 where timing is locked (R92, R94). -/
def Dev.trainStart (d : Dev) (n : Lane) : Dev :=
  if d.b (pLrx n) fLrxCdrLock then (d.laneTrain n).phaseSet n (if d.b (pLrx n) fLrxFeManual then 3 else 2) else d.laneTrain n

theorem Dev.laneTrain_g (d : Dev) (n : Lane) {f : Fld} (hs : f.apart fLrxState) (hp : f.apart fLrxCalPending) (h4C : f.off ≠ 0x04C)
    (hne : f.off ≠ 0x010) : (d.laneTrain n).g (pLrx n) f = d.g (pLrx n) f :=
  ((Dev.setLevel_kept _ n _).g (by simp) hs.1 hne).trans (d.laneEntered_g n hs hp h4C hne)

theorem Dev.laneTryTrain_seek (hst : d.laneState n = stSeek) (hsig : d.b (pLrx n) fLrxSigDet = true) :
    d.laneTryTrain n = d.trainStart n := by
  have hkeep : ∀ f : Fld, f.apart fLrxState → f.apart fLrxCalPending → f.off ≠ 0x04C → f.off ≠ 0x010 →
      (d.laneTrain n).b (pLrx n) f = d.b (pLrx n) f := fun f h1 h2 h3 h4 => congrArg (· == 1) (d.laneTrain_g n h1 h2 h3 h4)
  refine (if_pos ⟨hst, hsig⟩).trans ?_
  dsimp only
  rw [Dev.trainPhase_two, hkeep fLrxCdrLock (by decide) (by decide) (by decide) (by decide),
    hkeep fLrxFeManual (by decide) (by decide) (by decide) (by decide)]
  rfl

theorem Dev.lrxSigDet_seek (he : d.b (pLrx n) fLrxEn = true) (hst : d.laneState n = stSeek) :
    d.lrxSigDet n = (d.signalSeen (pLrx n)).trainStart n :=
  (Dev.lrxSigDet_eq he).trans (Dev.laneTryTrain_seek ((d.signalSeen_laneState n).trans hst) (d.signalSeen_sig _))

theorem DevKept.trainStart {ex ev : List (Nat × Nat)} {h e : Dev} (k : DevKept ex ev d h e) (hf : frontRegs n ⊆ ex)
    (hp : pacerStatusRegs n ⊆ ex) (hc : countRegs n ⊆ ex) : DevKept ex ev d (h.trainTaken e n) (e.trainStart n) := by
  have ktrain := k.laneTrain (n := n) hf hp hc
  unfold Dev.trainStart
  split
  · exact ktrain.phaseSet hp _
  · exact ktrain

theorem Dev.trainStart_enters (d : Dev) (n : Lane) : Enters d (d.trainStart n) n := by
  unfold Dev.trainStart
  split
  · exact (d.laneTrain_enters n).kept ((DevKept.refl _).phaseSet (List.Subset.refl _) _)
  · exact d.laneTrain_enters n

theorem Dev.laneTrain_target (d : Dev) (n : Lane) : (d.laneTrain n).g (pPacer n) fPaceTarget = d.g (pPacer n) fPaceTarget := by
  rw [Dev.laneTrain_eq]
  simp (disch := decide) only [Dev.setLevel, Dev.sb, Dev.g_s_apart]
  exact d.laneEntered_target n

theorem Dev.trainStart_phase (d : Dev) (n : Lane) : (d.trainStart n).g (pPacer n) fPhase =
    (if d.b (pLrx n) fLrxCdrLock then (if d.b (pLrx n) fLrxFeManual then 3 else 2) else 1) := by
  unfold Dev.trainStart
  split
  · refine Dev.phaseSet_phase _ n ?_
    split <;> decide
  · exact (d.laneTrain_pacer n).1

theorem Dev.trainStart_paceLive (d : Dev) (n : Lane) :
    (d.trainStart n).g (pPacer n) fPaceLive = d.g (pPacer n) fPaceTarget := by
  have hman : (if d.b (pLrx n) fLrxFeManual then 3 else 2) < 8 ∧ (if d.b (pLrx n) fLrxFeManual then 3 else 2) ≠ 4 := by
    split <;> decide
  unfold Dev.trainStart
  split
  · rw [Dev.phaseSet_live _ n hman.1 hman.2, Dev.laneTrain_target]
  · exact (d.laneTrain_pacer n).2

end

/-- What a line lane that enters TRAIN may change. -/
abbrev trainRegs (n : Lane) : List (Nat × Nat) :=
  [(pLrx n, 0x044), (pLrx n, 0x04C), (pPacer n, 0x044), (pPacer n, 0x05C), (pPacer n, 0x064)] ++ countRegs n

theorem not_trial_trainRegs (n : Lane) : (pTrial, 0x048) ∉ trainRegs n := fun hm =>
  (List.mem_append.mp hm).elim (by simp) (not_trial_regRun (by decide))

/-- A lane in SEEK that gets a signal enters TRAIN. -/
theorem sigDet_line_seek {s : State} {n : Lane} {f : Dev → Dev} (hc : s.calm) (hr : s.dev.runs (pLrx n))
    (hf : f s.dev = (s.dev.signalSeen (pLrx n)).trainStart n) : Yields (actOn (pLrx n) s f) fun t =>
      t.dev.b (pLrx n) fLrxSigDet = true ∧ t.dev.evt (pLrx n) 0 = (s.dev.evt (pLrx n) 0 || !s.dev.b (pLrx n) fLrxSigDet) ∧
      t.dev.laneState n = stTrain ∧ t.dev.rd (pLrx n) 0x04C = s.dev.rd (pLrx n) 0x048 ∧ t.dev.b (pLrx n) fLrxCalPending = false ∧
      t.dev.g (pPacer n) fPhase = (if s.dev.b (pLrx n) fLrxCdrLock then (if s.dev.b (pLrx n) fLrxFeManual then 3 else 2) else 1) ∧
      t.dev.g (pPacer n) fPaceLive = s.dev.g (pPacer n) fPaceTarget ∧ (∀ o ∈ regRun 0x078 6, t.dev.rd (pPacer n) o = 0) ∧
      Kept s t (s.dev.trainTaken s.dev n) (trainRegs n) [(pLrx n, 0)] := by
  have hs := Dev.signals_lrx hr.powered
  have hsig := s.dev.signalSeen_sig (pLrx n)
  have hevt := Dev.signalSeen_evt hs (by decide)
  have kseen : DevKept (trainRegs n) [(pLrx n, 0)] s.dev s.dev (s.dev.signalSeen (pLrx n)) :=
    (DevKept.refl _).signalSeen (by simp) (by simp)
  have hseen : DevKept [(pLrx n, 0x044)] [(pLrx n, 0)] s.dev s.dev (s.dev.signalSeen (pLrx n)) :=
    (DevKept.refl _).signalSeen (by simp) (by simp)
  have hlock : (s.dev.signalSeen (pLrx n)).b (pLrx n) fLrxCdrLock = s.dev.b (pLrx n) fLrxCdrLock :=
    congrArg (· == 1) (Dev.signalSeen_g (by decide) (by decide) ..)
  generalize s.dev.signalSeen (pLrx n) = e at *
  have hfe : e.rd (pLrx n) 0x048 = s.dev.rd (pLrx n) 0x048 := hseen.regs _ _ (by decide) (by decide) (by simp)
  have hman : e.b (pLrx n) fLrxFeManual = s.dev.b (pLrx n) fLrxFeManual := hseen.b (by simp [fLrxFeManual])
  have htarget : e.g (pPacer n) fPaceTarget = s.dev.g (pPacer n) fPaceTarget := hseen.g (by simp [fPaceTarget])
  have htaken : s.dev.trainTaken e n = s.dev.trainTaken s.dev n := by
    rw [Dev.trainTaken, Dev.trainTaken, hfe, hseen.g (f := fLrxInvert) (by simp [fLrxInvert]), hseen.g (f := fEqMain) (by simp [fEqMain])]
  have hkept := ((DevKept.refl (ex := trainRegs n) (ev := []) e).trainStart (n := n) (by simp [List.subset_def]) (by simp [List.subset_def])
    (List.subset_append_right _ _)).events (pLrx n) 0 (by simp) hs.page
  obtain ⟨hstate, hlive, hpend, hsignal, hcounts⟩ := e.trainStart_enters n
  refine (kseen.trainStart (n := n) (by simp [List.subset_def]) (by simp [List.subset_def]) (List.subset_append_right _ _)).yieldsOn hc hr
    hf rfl (not_trial_trainRegs n) fun t hset kept => ⟨?_, ?_, ?_, ?_, ?_, ?_, ?_, fun o ho => ?_, htaken ▸ kept⟩
  · rw [hset.b _ fLrxSigDet, hsignal, hsig]
  · rw [hset.evt _ _ hs.not_three, hkept, hevt]
  · rw [hset.laneState, hstate]
  · rw [hset.rd _ _ (by decide) (by decide), hlive, hfe]
  · rw [hset.b _ fLrxCalPending, hpend]
  · rw [hset.g _ fPhase, Dev.trainStart_phase, hlock, hman]
  · rw [hset.g _ fPaceLive, Dev.trainStart_paceLive, htarget]
  · refine (hset.rd _ _ ?_ ?_).trans (hcounts o ho)
    all_goals obtain ⟨i, hi, rfl⟩ := mem_regRun.mp ho
    · omega
    · omega

end Sys2Proof.Machine
end

section
/-! A host lane enters TRAIN, and O11 (R58, R186, R187, R191). -/

open Sys2Proof Sys2Proof.Machine

namespace Sys2Proof.Machine

/-- The receiver's part of the hidden state with the settings that an entry to TRAIN takes (R58), and the taps' request at rest. -/
def HrxH.taken (fe : Word) (inv : Nat) (h : HrxH) : HrxH := { h with feTaken := fe, invTaken := inv, ctl := 0xE000 }

/-- The host lane in TRAIN (R186). -/
def Dev.hostTrainState (d : Dev) (n : Lane) : Dev := (d.hostStop n).hostTo n stTrain

/-- The host lane in TRAIN with its front-end settings live and the attempt counted (R58, R202). -/
def Dev.attemptCounted (d : Dev) (n : Lane) : Dev :=
  (d.wr (pHrx n) 0x050 (d.rd (pHrx n) 0x04C)).s (pHrx n) fAttempts (d.g (pHrx n) fAttempts + 1)

/-- The settings of the attempt are taken (R58). -/
def Dev.hostSettings (d : Dev) (n : Lane) : Dev := d.updHrx n (HrxH.taken (d.rd (pHrx n) 0x04C) (d.g (pHrx n) fHrxInvert))

theorem Dev.rd_hostSettings (d : Dev) (n : Lane) (q o : Nat) : (d.hostSettings n).rd q o = d.rd q o := rfl

theorem Dev.g_hostSettings (d : Dev) (n : Lane) (q : Nat) (f : Fld) : (d.hostSettings n).g q f = d.g q f := rfl

/-- The host lane at phase 1, before that phase ends where timing and frames are locked. -/
def Dev.hostEntered (d : Dev) (n : Lane) : Dev := (((d.hostTrainState n).attemptCounted n).hostSettings n).s (pHrx n) fHostPhase 1

theorem Dev.hostTrain_eq (d : Dev) (n : Lane) : d.hostTrain n = (d.hostEntered n).hostPhase1 n := rfl

/-- What a host lane that enters TRAIN may change. -/
abbrev hostTrainRegs (n : Lane) : List (Nat × Nat) := [(pHrx n, 0x044), (pHrx n, 0x050), (pHrx n, 0x068), (pHrx n, 0x078)]

section
variable {ex ev : List (Nat × Nat)} {d h e : Dev} {n : Lane}

theorem DevKept.hostTrainState (k : DevKept ex ev d h e) (hv : e.hostValid n = false) (h44 : (pHrx n, 0x044) ∈ ex)
    (h68 : (pHrx n, 0x068) ∈ ex) : DevKept ex ev d (h.hostStopped n) (e.hostTrainState n) :=
  (k.hostStop h68 fun c => absurd (hv.symm.trans c) (by decide)).s (f := fHostState) stTrain h44

theorem Dev.hostTrainState_kept (hv : d.hostValid n = false) :
    DevKept [(pHrx n, 0x044), (pHrx n, 0x068)] [] d (d.hostStopped n) (d.hostTrainState n) :=
  (DevKept.refl d).hostTrainState hv (by simp) (by simp)

theorem DevKept.attemptCounted (k : DevKept ex ev d h e) (h50 : (pHrx n, 0x050) ∈ ex) (h78 : (pHrx n, 0x078) ∈ ex) :
    DevKept ex ev d h (e.attemptCounted n) := (k.wr _ h50).s (f := fAttempts) _ h78

theorem Dev.attemptCounted_kept (d : Dev) (n : Lane) : DevKept [(pHrx n, 0x050), (pHrx n, 0x078)] [] d d (d.attemptCounted n) :=
  (DevKept.refl d).attemptCounted (by simp) (by simp)

/-- The hidden state after an entry to TRAIN of a host lane: `d` is the device that the lane takes its settings from. -/
def Dev.hostTaken (h d : Dev) (n : Lane) : Dev := (h.hostStopped n).updHrx n (HrxH.taken (d.rd (pHrx n) 0x04C) (d.g (pHrx n) fHrxInvert))

theorem DevKept.hostEntered (k : DevKept ex ev d h e) (hv : e.hostValid n = false) (hx : hostTrainRegs n ⊆ ex) :
    DevKept ex ev d (h.hostTaken e n) (e.hostEntered n) := by
  have hstate := Dev.hostTrainState_kept (d := e) hv
  have hcount := (e.hostTrainState n).attemptCounted_kept n
  have hfe : ((e.hostTrainState n).attemptCounted n).rd (pHrx n) 0x04C = e.rd (pHrx n) 0x04C :=
    (hcount.regs _ _ (by decide) (by decide) (by simp)).trans (hstate.regs _ _ (by decide) (by decide) (by simp))
  have hinv : ((e.hostTrainState n).attemptCounted n).g (pHrx n) fHrxInvert = e.g (pHrx n) fHrxInvert :=
    (hcount.g (by simp [fHrxInvert])).trans (hstate.g (by simp [fHrxInvert]))
  have kcount := (k.hostTrainState hv (hx (by simp)) (hx (by simp))).attemptCounted (n := n) (hx (by simp)) (hx (by simp))
  rw [Dev.hostTaken, ← hfe, ← hinv]
  exact (kcount.updHrx n _).s (f := fHostPhase) 1 (hx (by simp [fHostPhase]))

/-- A field of the entered lane, but for its phase, as the counted attempt has it. -/
theorem Dev.hostEntered_g (d : Dev) (n : Lane) {f : Fld} (hf : f.apart fHostPhase) :
    (d.hostEntered n).g (pHrx n) f = ((d.hostTrainState n).attemptCounted n).g (pHrx n) f := by
  rw [Dev.hostEntered, Dev.g_s_apart hf, Dev.g_hostSettings]

theorem Dev.hostEntered_state (d : Dev) (n : Lane) : (d.hostEntered n).hostState n = stTrain := by
  rw [Dev.hostState, Dev.hostEntered_g _ _ (by decide), (Dev.attemptCounted_kept _ n).g (by simp [fHostState])]
  exact Dev.g_s_same _ _ _ _ (by decide)

theorem Dev.hostEntered_phase (d : Dev) (n : Lane) : (d.hostEntered n).g (pHrx n) fHostPhase = 1 := Dev.g_s_same _ _ _ _ (by decide)

/-- A field of STATUS beside the state. -/
theorem Dev.hostEntered_status (d : Dev) (n : Lane) {f : Fld} (hs : f.apart fHostState) (h44 : f.off = 0x044) :
    (d.hostEntered n).g (pHrx n) f = d.g (pHrx n) f := by
  have h68 : f.off ≠ 0x068 := by omega
  have hne : f.off ≠ 0x010 := by omega
  have hphase : f.apart fHostPhase := ⟨hs.1, by decide, by decide, fun he => absurd (h44.symm.trans he) (by decide)⟩
  rw [Dev.hostEntered_g _ _ hphase, (Dev.attemptCounted_kept _ n).g (by simp [h44]) hs.1 hne, Dev.hostTrainState, Dev.hostTo,
    Dev.g_s_apart hs]
  exact d.hostStop_g n (hrx_ne_capture n) h68 hs.1 hne

theorem Dev.attemptCounted_live (d : Dev) (n : Lane) : (d.attemptCounted n).rd (pHrx n) 0x050 = d.rd (pHrx n) 0x04C :=
  (Dev.rd_s_off _ fAttempts _ (by decide) (by decide) (by decide)).trans (Dev.rd_wr_same _ _ _ _)

theorem Dev.hostEntered_live (d : Dev) (n : Lane) (hv : d.hostValid n = false) :
    (d.hostEntered n).rd (pHrx n) 0x050 = d.rd (pHrx n) 0x04C := by
  have hphase : (d.hostEntered n).rd (pHrx n) 0x050 = ((d.hostTrainState n).attemptCounted n).rd (pHrx n) 0x050 := by
    rw [Dev.hostEntered, Dev.rd_s_off _ fHostPhase _ (by decide) (by decide) (by decide), Dev.rd_hostSettings]
  rw [hphase, Dev.attemptCounted_live, (Dev.hostTrainState_kept hv).regs _ _ (by decide) (by decide) (by simp)]

theorem Dev.hostEntered_attempts (d : Dev) (n : Lane) (hv : d.hostValid n = false) :
    (d.hostEntered n).g (pHrx n) fAttempts = (d.g (pHrx n) fAttempts + 1) % 2 ^ 16 := by
  rw [Dev.hostEntered_g _ _ (by decide), Dev.attemptCounted, Dev.g_s_same _ _ _ _ (by decide),
    (Dev.hostTrainState_kept hv).g (by simp [fAttempts])]
  rfl

theorem Dev.updHrx_updHrx (d : Dev) (n : Lane) (f g : HrxH → HrxH) : (d.updHrx n f).updHrx n g = d.updHrx n fun h => g (f h) := by
  rw [Dev.updHrx, Dev.hr_updHrx_same]
  simp [Dev.updHrx]

/-- The receiver's part of the lane that a stop and an entry leave. -/
theorem Dev.hostTaken_eq (h d : Dev) (n : Lane) : h.hostTaken d n =
    (h.updHrx n fun x => HrxH.taken (d.rd (pHrx n) 0x04C) (d.g (pHrx n) fHrxInvert) x.stopped).updLtx n fun x => { x with glide := false } := by
  rw [← Dev.updHrx_updHrx]
  rfl

theorem DevKept.hr (k : DevKept ex ev d h e) (m : Lane) : e.hr m = h.hr m := congrArg (·.get m) (congrArg Dev.hrx k.hidden :)

theorem Dev.hostStopped_hr (h : Dev) (n : Lane) : (h.hostStopped n).hr n = (h.hr n).stopped := h.hr_updHrx_same n HrxH.stopped

/-- Whether Warm-up trains the lane stays as the attempt took it. -/
theorem Dev.hostTaken_wu (h d : Dev) (n : Lane) : ((h.hostTaken d n).hr n).wu = (h.hr n).wu := by
  rw [Dev.hostTaken, Dev.hr_updHrx_same, Dev.hostStopped_hr]
  rfl

theorem Dev.hostValid_seek (hst : d.hostState n = stSeek) : d.hostValid n = false := by
  rw [Dev.hostState] at hst
  rw [Dev.hostValid, hst]
  rfl

end

/-- A lane in SEEK that gets a signal enters TRAIN. -/
theorem sigDet_host_seek {s : State} {n : Lane} {f : Dev → Dev} (hc : s.calm) (hr : s.dev.runs (pHrx n)) (hst : s.dev.hostState n = stSeek)
    (hf : f s.dev = (s.dev.signalSeen (pHrx n)).hostTrain n) : Yields (actOn (pHrx n) s f) fun t =>
      t.dev.b (pHrx n) fHrxSigDet = true ∧ t.dev.evt (pHrx n) 0 = (s.dev.evt (pHrx n) 0 || !s.dev.b (pHrx n) fHrxSigDet) ∧
      t.dev.hostState n = stTrain ∧ t.dev.rd (pHrx n) 0x050 = s.dev.rd (pHrx n) 0x04C ∧
      t.dev.g (pHrx n) fHostPhase =
        (if s.dev.b (pHrx n) fHrxCdrLock && (!(s.dev.hr n).wu || s.dev.b (pHrx n) fWuLock) then 2 else 1) ∧
      t.dev.g (pHrx n) fAttempts = (s.dev.g (pHrx n) fAttempts + 1) % 2 ^ 16 ∧
      Kept s t (s.dev.hostTaken s.dev n) (hostTrainRegs n) [(pHrx n, 0)] := by
  have hs := Dev.signals_hrx hr.powered
  have hsig := s.dev.signalSeen_sig (pHrx n)
  have hevt := Dev.signalSeen_evt hs (by decide)
  have hlock : (s.dev.signalSeen (pHrx n)).b (pHrx n) fHrxCdrLock = s.dev.b (pHrx n) fHrxCdrLock :=
    congrArg (· == 1) (Dev.signalSeen_g (by decide) (by decide) ..)
  have hwu : (s.dev.signalSeen (pHrx n)).b (pHrx n) fWuLock = s.dev.b (pHrx n) fWuLock :=
    congrArg (· == 1) (Dev.signalSeen_g (by decide) (by decide) ..)
  have hst' := (s.dev.signalSeen_hostState n).trans hst
  have hseen : DevKept [(pHrx n, 0x044)] [(pHrx n, 0)] s.dev s.dev (s.dev.signalSeen (pHrx n)) :=
    (DevKept.refl _).signalSeen (by simp) (by simp)
  have kseen : DevKept (hostTrainRegs n) [(pHrx n, 0)] s.dev s.dev (s.dev.signalSeen (pHrx n)) :=
    (DevKept.refl _).signalSeen (by simp) (by simp)
  generalize s.dev.signalSeen (pHrx n) = e at *
  have hv := Dev.hostValid_seek hst'
  have hfe : e.rd (pHrx n) 0x04C = s.dev.rd (pHrx n) 0x04C := hseen.regs _ _ (by decide) (by decide) (by simp)
  have htaken : s.dev.hostTaken e n = s.dev.hostTaken s.dev n := by
    rw [Dev.hostTaken, Dev.hostTaken, hfe, hseen.g (f := fHrxInvert) (by simp [fHrxInvert])]
  have kentered : DevKept (hostTrainRegs n) [] e (e.hostTaken e n) (e.hostEntered n) :=
    (DevKept.refl e).hostEntered hv (List.Subset.refl _)
  have hhr : ((e.hostEntered n).hr n).wu = (s.dev.hr n).wu := by
    rw [kentered.hr, Dev.hostTaken_wu, hseen.hr]
  have hstatus : ∀ f : Fld, f.apart fHostState → f.off = 0x044 → (e.hostEntered n).b (pHrx n) f = e.b (pHrx n) f := fun f h1 h2 =>
    congrArg (· == 1) (e.hostEntered_status n h1 h2)
  have hkept := (kentered.hostPhase1 (n := n) (by simp)).events (pHrx n) 0 (by simp) hs.page
  have hphase1 := (DevKept.refl (ex := [(pHrx n, 0x068)]) (ev := []) (e.hostEntered n)).hostPhase1 (n := n) (by simp)
  refine ((kseen.hostEntered hv (List.Subset.refl _)).hostPhase1 (n := n) (by simp)).yieldsOn hc hr
    (hf.trans (e.hostTrain_eq n)) rfl (by simp) fun t hset kept =>
    ⟨?_, ?_, ?_, ?_, ?_, ?_, htaken ▸ kept⟩
  · rw [hset.b _ fHrxSigDet, hphase1.b (by simp [fHrxSigDet]), hstatus fHrxSigDet (by decide) rfl]
    exact hsig
  · rw [hset.evt _ _ hs.not_three, hkept, hevt]
    rfl
  · exact (hset.g _ fHostState).trans ((hphase1.g (by simp [fHostState])).trans (e.hostEntered_state n))
  · rw [hset.rd _ _ (by decide) (by decide), hphase1.regs _ _ (by decide) (by decide) (by simp), e.hostEntered_live n hv, hfe]
  · rw [hset.g _ fHostPhase, Dev.hostPhase1_phase (e.hostEntered_state n), e.hostEntered_phase, hhr,
      hstatus fHrxCdrLock (by decide) rfl, hstatus fWuLock (by decide) rfl, hlock, hwu]
    simp only [true_and]
  · rw [hset.g _ fAttempts, hphase1.g (by simp [fAttempts]), e.hostEntered_attempts n hv, hseen.g (by simp [fAttempts])]

/-- Settles O11: LANE_CTRL.en by what it makes of the lane's state, and a signal or its loss by whether the lane's state follows. -/
theorem lineLaneEnableAndSignal : Obligations.LineLaneEnableAndSignal := by
  refine ⟨?set, ?clear, ?seen, ?seenLine, ?seenHost, ?gone, ?goneLine, ?goneHost⟩
  case set => exact fun s w n v hc ht => lrxEnSet_enables hc ht
  case clear => exact fun s w n v hc ht => lrxEnClear_stops hc ht
  case seen =>
    rintro s (_ | _) n hc hr htap he hst hoff
    · exact signalSeen_yields hc hr (Dev.signals_lrx hr.powered) (by decide)
        ((if_neg (Bool.not_eq_true _ ▸ htap)).trans (Dev.lrxSigDet_other he hst))
    · exact signalSeen_yields hc hr (Dev.signals_hrx hr.powered) (by decide)
        ((if_neg (Bool.not_eq_true _ ▸ htap)).trans (Dev.hrxSigDet_other he (hoff rfl) hst))
  case seenLine =>
    intro s n hc hr htap he hst
    exact sigDet_line_seek hc hr ((if_neg (Bool.not_eq_true _ ▸ htap)).trans (Dev.lrxSigDet_seek he hst))
  case seenHost =>
    intro s n hc hr htap he hst
    obtain ⟨t, ht, hsig, hevt, hstate, hlive, hphase, hatt, kept⟩ :=
      sigDet_host_seek (f := fun d => if d.tapHolds then d else d.hrxSigDet n) hc hr hst
        ((if_neg (Bool.not_eq_true _ ▸ htap)).trans (Dev.hrxSigDet_seek he hst))
    rw [Dev.hostTaken_eq] at kept
    exact ⟨t, ht, hsig, hevt, hstate, hlive, hphase, hatt, kept⟩
  case gone =>
    rintro s (_ | _) n hc hr he hd hl hst
    · exact signalGone_yields hc hr (Dev.signals_lrx hr.powered) (by decide) (Dev.lrxLos_other (Dev.loops_true he hd hl) hst)
    · exact signalGone_yields hc hr (Dev.signals_hrx hr.powered) (by decide) (Dev.hrxLos_other (Dev.loops_true he hd hl) hst)
  case goneLine => exact fun s n hc hr he hd hl hst => los_line hc hr (Dev.loops_true he hd hl) hst
  case goneHost => exact fun s n hc hr he hd hl hst => los_host hc hr (Dev.loops_true he hd hl) hst

end Sys2Proof.Machine
end

section
/-! Training of a line lane, its FAULT dwell and its clip window (R59, R60, R92, R94, R95). -/

open Sys2Proof Sys2Proof.Machine

namespace Sys2Proof.Machine

theorem pPacer_not_referee (n : Lane) : ¬ refereePage (pPacer n) := by unfold refereePage pPacer; omega

theorem Dev.signals_pacer {d : Dev} {n : Lane} (h : d.powered (pPacer n) = true) : d.Signals (pPacer n) 9 :=
  ⟨h, (sourcesOf_pacer n).ge, by decide, pPacer_not_referee n⟩

/-! AGC_DONE -/

theorem Dev.trainPhase_three (d : Dev) (n : Lane) (snr : Nat) : d.trainPhase n 3 snr = d.phaseSet n 3 :=
  d.trainPhase_eq n snr (by simp) (by decide) (by decide)

theorem Dev.trainPhase_six (d : Dev) (n : Lane) (snr : Nat) : d.trainPhase n 6 snr = d.phaseSet n 6 :=
  d.trainPhase_eq n snr (by simp) (by decide) (by decide)

theorem Dev.lrxAgcDone_eq {d : Dev} {n : Lane} {gain : Nat} (hst : d.laneState n = stTrain) (hp : d.g (pPacer n) fPhase = 2) :
    d.lrxAgcDone n gain = (d.s (pLrx n) fFeLiveGain (min gain 72)).phaseSet n 3 :=
  (if_pos ⟨hst, hp⟩).trans (Dev.trainPhase_three _ n 0)

/-- The gain code of the front end fits its field (R59). -/
theorem Dev.gain_reads (d : Dev) (p gain : Nat) : (d.s p fFeLiveGain (min gain 72)).g p fFeLiveGain = min gain 72 :=
  (d.g_s_same _ _ _ (by decide)).trans (Nat.mod_eq_of_lt (show min gain 72 < 256 by omega))

theorem agcDone_line {s : State} {n : Lane} {gain peak snr : Nat} (hc : s.calm) (hr : s.dev.runs (pLrx n))
    (hst : s.dev.laneState n = stTrain) (hp : s.dev.g (pPacer n) fPhase = 2) : Yields (exec (.agcDone .line n gain peak snr) s) fun t =>
      t.dev.g (pLrx n) fFeLiveGain = min gain 72 ∧ t.dev.g (pPacer n) fPhase = 3 ∧ t.dev.laneState n = stTrain ∧
      t.dev.g (pPacer n) fPaceLive = s.dev.g (pPacer n) fPaceTarget ∧
      Kept s t s.dev [(pLrx n, 0x04C), (pPacer n, 0x044), (pPacer n, 0x05C), (pPacer n, 0x064)] [] := by
  have k : DevKept [(pLrx n, 0x04C), (pPacer n, 0x044), (pPacer n, 0x05C), (pPacer n, 0x064)] [] s.dev s.dev
      (s.dev.s (pLrx n) fFeLiveGain (min gain 72)) := (DevKept.refl _).s _ (by simp [fFeLiveGain])
  have hstate : (s.dev.s (pLrx n) fFeLiveGain (min gain 72)).laneState n = stTrain := (Dev.g_s_apart (by decide) ..).trans hst
  refine (k.phaseSet (by simp) 3).yieldsOn hc hr (Dev.lrxAgcDone_eq hst hp) rfl (by simp) fun t hset kept => ⟨?_, ?_, ?_, ?_, kept⟩
  · rw [hset.g _ fFeLiveGain, Dev.phaseSet_lrx _ n n, Dev.gain_reads]
  · rw [hset.g _ fPhase, Dev.phaseSet_phase _ n (by decide)]
  · rw [hset.laneState, Dev.laneState, Dev.phaseSet_lrx _ n n]
    exact hstate
  · rw [hset.g _ fPaceLive, Dev.phaseSet_live _ n (by decide) (by decide), Dev.g_s_apart (by decide)]

/-! PEAK_SEARCH_DWELL_END -/

/-- A dwell's place in the search with its SNR noted, as the search goes on from setting `cur`. -/
def Search.noted (x : Search) (cur snr : Nat) : Search :=
  { x with last := snr, best := if x.bestSnr < snr then cur else x.best, bestSnr := max x.bestSnr snr }

section
variable {d : Dev} {n : Lane} {snr : Nat} {x : Search}

/-- The search of a lane in phase 5 that its engines serve goes by the direction of its last move (R94). -/
theorem Dev.peakDwellEnd_eq (hx : (d.pc n).search = some x) (hst : d.laneState n = stTrain) (hp : d.g (pPacer n) fPhase = 5)
    (he : d.enginesHere n = true) : d.peakDwellEnd n snr =
      match x.climb with
      | .back => d.searchEnd n
      | .up =>
        if x.last + 5 ≤ snr then
          (if d.g (pLrx n) fFeLivePeak = 24 then d.searchBack n (x.noted (d.g (pLrx n) fFeLivePeak) snr)
              (x.noted (d.g (pLrx n) fFeLivePeak) snr).best
            else d.searchTo n (x.noted (d.g (pLrx n) fFeLivePeak) snr) (d.g (pLrx n) fFeLivePeak + 1))
        else if d.g (pLrx n) fFeLivePeak = x.start + 1 then
          (if x.start = 0 then d.searchBack n (x.noted (d.g (pLrx n) fFeLivePeak) snr) 0
            else d.searchTo n { x.noted (d.g (pLrx n) fFeLivePeak) snr with climb := .down, last := x.startSnr } (x.start - 1))
        else d.searchBack n (x.noted (d.g (pLrx n) fFeLivePeak) snr) (x.noted (d.g (pLrx n) fFeLivePeak) snr).best
      | .down =>
        if x.last + 5 ≤ snr then
          (if d.g (pLrx n) fFeLivePeak = 0 then d.searchBack n (x.noted (d.g (pLrx n) fFeLivePeak) snr)
              (x.noted (d.g (pLrx n) fFeLivePeak) snr).best
            else d.searchTo n (x.noted (d.g (pLrx n) fFeLivePeak) snr) (d.g (pLrx n) fFeLivePeak - 1))
        else if d.g (pLrx n) fFeLivePeak + 1 = x.start then d.searchBack n (x.noted (d.g (pLrx n) fFeLivePeak) snr) x.start
        else d.searchBack n (x.noted (d.g (pLrx n) fFeLivePeak) snr) (x.noted (d.g (pLrx n) fFeLivePeak) snr).best := by
  unfold Dev.peakDwellEnd
  simp only [hx, hst, hp, he, bne_self_eq_false, Bool.not_true, Bool.or_self, Bool.false_eq_true, if_false, decide_eq_true_eq]
  rfl

/-- The search goes on from another setting, or it has ended. -/
def Dev.searchGoes (d e : Dev) (n : Lane) : Prop := (∃ x peak, e = d.searchTo n x peak) ∨ e = d.searchEnd n

theorem Dev.searchBack_goes (d : Dev) (n : Lane) (x : Search) (peak : Nat) : d.searchGoes (d.searchBack n x peak) n := by
  unfold Dev.searchBack
  split
  · exact .inr rfl
  · exact .inl ⟨_, _, rfl⟩

theorem Dev.peakDwellEnd_goes (hx : (d.pc n).search = some x) (hst : d.laneState n = stTrain) (hp : d.g (pPacer n) fPhase = 5)
    (he : d.enginesHere n = true) : d.searchGoes (d.peakDwellEnd n snr) n := by
  rw [Dev.peakDwellEnd_eq hx hst hp he]
  split
  case h_1 => exact .inr rfl
  case h_2 =>
    split_ifs
    · exact d.searchBack_goes ..
    · exact .inl ⟨_, _, rfl⟩
    · exact d.searchBack_goes ..
    · exact .inl ⟨_, _, rfl⟩
    · exact d.searchBack_goes ..
  case h_3 =>
    split_ifs
    · exact d.searchBack_goes ..
    · exact .inl ⟨_, _, rfl⟩
    · exact d.searchBack_goes ..
    · exact d.searchBack_goes ..

/-- What a dwell of the search may change. -/
abbrev searchRegs (n : Lane) : List (Nat × Nat) := [(pLrx n, 0x04C), (pPacer n, 0x044), (pPacer n, 0x05C), (pPacer n, 0x064)]

/-- The Pacer's part with the search at a place. -/
def PacerH.searching (o : Option Search) (h : PacerH) : PacerH := { h with search := o }

theorem Dev.searchTo_kept (d : Dev) (n : Lane) (x : Search) (peak : Nat) :
    DevKept (searchRegs n) [] d (d.updPacer n (PacerH.searching (some x))) (d.searchTo n x peak) :=
  ((DevKept.refl d).updPacer n _).s (f := fFeLivePeak) peak (by simp [fFeLivePeak])

theorem Dev.searchEnd_eq (d : Dev) (n : Lane) : d.searchEnd n = (d.updPacer n (PacerH.searching none)).phaseSet n 6 :=
  Dev.trainPhase_six _ n 0

theorem Dev.searchEnd_kept (d : Dev) (n : Lane) :
    DevKept (searchRegs n) [] d (d.updPacer n (PacerH.searching none)) (d.searchEnd n) := by
  rw [Dev.searchEnd_eq]
  exact ((DevKept.refl d).updPacer n _).phaseSet (by simp) 6

theorem Dev.searchTo_peak (d : Dev) (n : Lane) (x : Search) {peak : Nat} (h : peak < 64) :
    (d.searchTo n x peak).g (pLrx n) fFeLivePeak = peak := (Dev.g_s_same _ _ _ _ (by decide)).trans (Nat.mod_eq_of_lt h)

theorem Dev.searchTo_phase (d : Dev) (n : Lane) (x : Search) (peak : Nat) : (d.searchTo n x peak).g (pPacer n) fPhase = d.g (pPacer n) fPhase :=
  Dev.g_s_apart (by decide) ..

theorem Dev.searchEnd_phase (d : Dev) (n : Lane) : (d.searchEnd n).g (pPacer n) fPhase = 6 := by
  rw [Dev.searchEnd_eq, Dev.phaseSet_phase _ n (by decide)]

/-- Every course of the search keeps the lane but for the search's own place. -/
theorem Dev.searchGoes.kept {e : Dev} (h : d.searchGoes e n) : ∃ o, DevKept (searchRegs n) [] d (d.updPacer n (PacerH.searching o)) e := by
  obtain ⟨x, peak, rfl⟩ | rfl := h
  · exact ⟨_, d.searchTo_kept n x peak⟩
  · exact ⟨_, d.searchEnd_kept n⟩

theorem DevKept.search {ex ev : List (Nat × Nat)} {e : Dev} {o : Option Search}
    (k : DevKept ex ev d (d.updPacer n (PacerH.searching o)) e) : (e.pc n).search = o := by
  rw [k.pc, Dev.pc_updPacer_same]
  rfl

/-- The search is on in phase 5, or over in phase 6. -/
theorem Dev.searchGoes.phase {e : Dev} (h : d.searchGoes e n) (hp : d.g (pPacer n) fPhase = 5) :
    e.g (pPacer n) fPhase = 5 ∧ (e.pc n).search.isSome = true ∨ e.g (pPacer n) fPhase = 6 ∧ (e.pc n).search = none := by
  obtain ⟨x, peak, rfl⟩ | rfl := h
  · exact .inl ⟨(d.searchTo_phase n x peak).trans hp, by rw [(d.searchTo_kept n x peak).search]; rfl⟩
  · exact .inr ⟨d.searchEnd_phase n, (d.searchEnd_kept n).search⟩

end

theorem peakSearchDwellEnd_goes {s : State} {n : Lane} {snr : Nat} {x : Search} (hc : s.calm) (hr : s.dev.runs (pPacer n))
    (hst : s.dev.laneState n = stTrain) (hp : s.dev.g (pPacer n) fPhase = 5) (he : s.dev.enginesHere n = true)
    (hx : (s.dev.pc n).search = some x) : Yields (exec (.peakSearchDwellEnd n snr) s) fun t =>
      (x.climb = .back → t.dev.g (pPacer n) fPhase = 6 ∧ (t.dev.pc n).search = none) ∧
      (x.climb = .up → x.last + 5 ≤ snr → s.dev.g (pLrx n) fFeLivePeak < 24 →
        t.dev.g (pLrx n) fFeLivePeak = s.dev.g (pLrx n) fFeLivePeak + 1) ∧
      (x.climb = .down → x.last + 5 ≤ snr → s.dev.g (pLrx n) fFeLivePeak ≠ 0 →
        t.dev.g (pLrx n) fFeLivePeak = s.dev.g (pLrx n) fFeLivePeak - 1) ∧
      (t.dev.g (pPacer n) fPhase = 5 ∧ (t.dev.pc n).search.isSome = true ∨ t.dev.g (pPacer n) fPhase = 6 ∧ (t.dev.pc n).search = none) ∧
      Kept s t (s.dev.updPacer n (PacerH.searching (t.dev.pc n).search)) (searchRegs n) [] := by
  have heq := Dev.peakDwellEnd_eq (snr := snr) hx hst hp he
  have hgoes := Dev.peakDwellEnd_goes (snr := snr) hx hst hp he
  have hphase := hgoes.phase hp
  obtain ⟨o, k⟩ := hgoes.kept
  have hlt : s.dev.g (pLrx n) fFeLivePeak < 64 := s.dev.g_lt _ fFeLivePeak
  refine k.yieldsOn hc hr rfl rfl (by simp) fun t hset kept =>
    ⟨fun hback => ?_, fun hup hrose hcur => ?_, fun hdown hrose hcur => ?_, ?_, ?_⟩
  · rw [hset.g _ fPhase, hset.pc, heq, hback]
    exact ⟨s.dev.searchEnd_phase n, (s.dev.searchEnd_kept n).search⟩
  · rw [hset.g _ fFeLivePeak, heq, hup]
    simp only [if_pos hrose, if_neg hcur.ne]
    exact s.dev.searchTo_peak n _ (by omega)
  · rw [hset.g _ fFeLivePeak, heq, hdown]
    simp only [if_pos hrose, if_neg hcur]
    exact s.dev.searchTo_peak n _ (by omega)
  · rw [hset.g _ fPhase, hset.pc]
    exact hphase
  · rw [hset.pc, k.search]
    exact kept

end Sys2Proof.Machine
end

section
/-! The end of an attempt of a line lane, its FAULT dwell and its clip window (R60, R92, R95). -/

open Sys2Proof Sys2Proof.Machine

namespace Sys2Proof.Machine

/-! TRAIN_TIMEOUT -/

/-- The attempt has failed: the failure is counted and shown (R95). -/
def Dev.attemptFailed (d : Dev) (n : Lane) : Dev := (d.incSat (pPacer n) fFails).raise (pPacer n) 7

/-- The lane in FAULT, with source 15 (R95). -/
def Dev.laneFault (d : Dev) (n : Lane) : Dev := ((d.laneStop n 1).laneTo n stFault).raise (pLrx n) 15

/-- What a failed attempt of a line lane may change. -/
abbrev timeoutRegs (n : Lane) : List (Nat × Nat) :=
  [(pLrx n, 0x044), (pLrx n, 0x078), (pPacer n, 0x044), (pPacer n, 0x05C), (pPacer n, 0x064)]

section
variable {ex ev : List (Nat × Nat)} {d h e : Dev} {n : Lane}

theorem Dev.trainTimeout_eq (hst : d.laneState n = stTrain) : d.trainTimeout n =
    if (d.attemptFailed n).g (pPacer n) fFailLim ≤ (d.attemptFailed n).g (pPacer n) fFails then (d.attemptFailed n).laneFault n
    else (d.attemptFailed n).laneSeek n 1 := if_pos hst

theorem DevKept.attemptFailed (k : DevKept ex ev d h e) (h64 : (pPacer n, 0x064) ∈ ex) (h7 : (pPacer n, 7) ∈ ev) :
    DevKept ex ev d h (e.attemptFailed n) := (k.incSat (f := fFails) h64).raise h7

theorem Dev.attemptFailed_kept (d : Dev) (n : Lane) : DevKept [(pPacer n, 0x064)] [(pPacer n, 7)] d d (d.attemptFailed n) :=
  (DevKept.refl d).attemptFailed (by simp) (by simp)

theorem Dev.attemptFailed_fails (d : Dev) (n : Lane) : (d.attemptFailed n).g (pPacer n) fFails = min (d.g (pPacer n) fFails + 1) 15 :=
  (Dev.g_raise _ _ _ _ fFails).trans (Dev.incSat_g d _ fFails)

theorem Dev.attemptFailed_evt (hp : d.powered (pPacer n) = true) : (d.attemptFailed n).evt (pPacer n) 7 = true := by
  have hs : (d.incSat (pPacer n) fFails).Signals (pPacer n) 9 := (Dev.signals_pacer hp).congr rfl
  exact hs.raise (by decide)

/-- The count of failed attempts outlasts the Pacer's work. -/
theorem Dev.pacerStop_fails (d : Dev) (n : Lane) : (d.pacerStop n).g (pPacer n) fFails = d.g (pPacer n) fFails := by
  simp (disch := decide) only [Dev.pacerStop, Dev.sb, Dev.g_s_apart]
  rfl

theorem Dev.runLeft_fails (d : Dev) (n : Lane) (reason : Nat) : (d.runLeft n reason).g (pPacer n) fFails = d.g (pPacer n) fFails := by
  refine (Dev.lrxCalAbandon_g (f := fFails) (by decide) ..).trans ?_
  exact Dev.g_when (d.captureLaneLeft_g 0 n (pacer_ne_capture n) (by decide) (by decide)) _

theorem Dev.laneStop_fails (d : Dev) (n : Lane) (reason : Nat) : (d.laneStop n reason).g (pPacer n) fFails = d.g (pPacer n) fFails := by
  rw [Dev.laneStop_g, Dev.pacerStop_fails, Dev.runLeft_fails]

theorem DevKept.laneStop_train (k : DevKept ex ev d h e) (hst : e.laneState n = stTrain) (hx : timeoutRegs n ⊆ ex) (h6 : (pLrx n, 6) ∈ ev)
    (reason : Nat) : DevKept ex ev d (h.laneStopped n) (e.laneStop n reason) := by
  have hv : e.laneValid n = false := by
    rw [Dev.laneValid, hst]
    rfl
  refine k.laneStop (hx (by simp)) (hx (by simp)) (fun q hq => hx ?_) (fun c => absurd (hv.symm.trans c) (by decide)) h6 reason
  simp only [List.mem_cons, List.not_mem_nil, or_false] at hq ⊢
  exact .inr (.inr hq)

/-- What a failed attempt comes to: `st` is the state it ends in, `e` the lane after it. -/
structure TimedOut (d e : Dev) (n : Lane) (st : Nat) : Prop where
  state : e.laneState n = st
  fails : e.g (pPacer n) fFails = d.g (pPacer n) fFails
  failed : e.evt (pPacer n) 7 = d.evt (pPacer n) 7
  kept : ∀ {s : Dev}, DevKept (timeoutRegs n) [(pPacer n, 7), (pLrx n, 15), (pLrx n, 6)] s s d →
    DevKept (timeoutRegs n) [(pPacer n, 7), (pLrx n, 15), (pLrx n, 6)] s (s.laneStopped n) e

theorem Dev.laneStop_train_kept (hst : d.laneState n = stTrain) (reason : Nat) :
    DevKept (timeoutRegs n) [(pLrx n, 6)] d (d.laneStopped n) (d.laneStop n reason) :=
  (DevKept.refl d).laneStop_train hst (List.Subset.refl _) (by simp) reason

theorem Dev.laneSeek_timedOut (hst : d.laneState n = stTrain) : TimedOut d (d.laneSeek n 1) n stSeek where
  state := d.laneSeek_state n 1
  fails := (Dev.laneTo_pacer _ n n stSeek fFails).trans (d.laneStop_fails n 1)
  failed := ((Dev.laneStop_train_kept hst 1).s (f := fLrxState) stSeek (by simp [fLrxState])).events _ _ (by simp) (pPacer_not_referee n)
  kept k := (k.laneStop_train hst (List.Subset.refl _) (by simp) 1).s (f := fLrxState) stSeek (by simp [fLrxState])

theorem Dev.laneSeek_no15 (hst : d.laneState n = stTrain) : (d.laneSeek n 1).evt (pLrx n) 15 = d.evt (pLrx n) 15 :=
  ((Dev.laneStop_train_kept hst 1).s (f := fLrxState) stSeek (by simp [fLrxState])).events _ _ (by simp) (pLrx_not_referee n)

theorem Dev.laneFault_timedOut (hst : d.laneState n = stTrain) : TimedOut d (d.laneFault n) n stFault where
  state := (Dev.g_raise _ _ _ _ fLrxState).trans (Dev.laneState_laneTo _ _ (by decide))
  fails := (Dev.g_raise _ _ _ _ fFails).trans ((Dev.laneTo_pacer _ n n stFault fFails).trans (d.laneStop_fails n 1))
  failed := by
    have kstop : DevKept (timeoutRegs n) [(pLrx n, 15), (pLrx n, 6)] d (d.laneStopped n) (d.laneStop n 1) :=
      (DevKept.refl d).laneStop_train hst (List.Subset.refl _) (by simp) 1
    exact ((kstop.s (f := fLrxState) stFault (by simp [fLrxState])).raise (by simp)).events _ _ (by simp) (pPacer_not_referee n)
  kept k := ((k.laneStop_train hst (List.Subset.refl _) (by simp) 1).s (f := fLrxState) stFault (by simp [fLrxState])).raise (by simp)

theorem Dev.laneFault_15 (hst : d.laneState n = stTrain) (hs : d.Signals (pLrx n) 16) : (d.laneFault n).evt (pLrx n) 15 = true := by
  have hoff := ((Dev.laneStop_train_kept hst 1).s (p := pLrx n) (f := fLrxState) stFault (by simp [fLrxState])).offPages
  have hs' : ((d.laneStop n 1).laneTo n stFault).Signals (pLrx n) 16 := hs.congr hoff
  exact hs'.raise (by decide)

end

section
variable {s : State} {n : Lane}

theorem timedOut_yields {e e' : Dev} {st : Nat} (hc : s.calm) (hr : s.dev.runs (pLrx n)) (he : s.dev.trainTimeout n = e')
    (hout : TimedOut e e' n st) (k : DevKept (timeoutRegs n) [(pPacer n, 7), (pLrx n, 15), (pLrx n, 6)] s.dev s.dev e) :
    Yields (exec (.trainTimeout n) s) fun t =>
      t.dev.laneState n = st ∧ t.dev.g (pPacer n) fFails = e.g (pPacer n) fFails ∧ t.dev.evt (pPacer n) 7 = e.evt (pPacer n) 7 ∧
      t.dev.evt (pLrx n) 15 = e'.evt (pLrx n) 15 ∧
      Kept s t (s.dev.laneStopped n) (timeoutRegs n) [(pPacer n, 7), (pLrx n, 15), (pLrx n, 6)] :=
  (hout.kept k).yieldsOn hc hr he rfl (by simp) fun t hset kept => ⟨(hset.laneState n).trans hout.state,
    (hset.g _ fFails).trans hout.fails, (hset.evt _ _ (pacer_ne_referee n)).trans hout.failed,
    hset.evt _ _ (Dev.signals_lrx hr.powered).not_three, kept⟩

theorem trainTimeout_fails (hc : s.calm) (hr : s.dev.runs (pLrx n)) (hst : s.dev.laneState n = stTrain)
    (hp : s.dev.powered (pPacer n) = true) : Yields (exec (.trainTimeout n) s) fun t =>
      t.dev.g (pPacer n) fFails = min (s.dev.g (pPacer n) fFails + 1) 15 ∧ t.dev.evt (pPacer n) 7 = true ∧
      t.dev.laneState n = (if s.dev.g (pPacer n) fFailLim ≤ t.dev.g (pPacer n) fFails then stFault else stSeek) ∧
      (t.dev.laneState n = stFault → t.dev.evt (pLrx n) 15 = true) ∧
      (t.dev.laneState n = stSeek → t.dev.evt (pLrx n) 15 = s.dev.evt (pLrx n) 15) ∧
      Kept s t (s.dev.laneStopped n) (timeoutRegs n) [(pPacer n, 7), (pLrx n, 15), (pLrx n, 6)] := by
  have hfails := s.dev.attemptFailed_fails n
  have hevt := Dev.attemptFailed_evt hp
  have hfailed := s.dev.attemptFailed_kept n
  have kfailed : DevKept (timeoutRegs n) [(pPacer n, 7), (pLrx n, 15), (pLrx n, 6)] s.dev s.dev (s.dev.attemptFailed n) :=
    (DevKept.refl _).attemptFailed (by simp) (by simp)
  have he := Dev.trainTimeout_eq hst
  generalize s.dev.attemptFailed n = e at *
  have hst' : e.laneState n = stTrain := (hfailed.g (f := fLrxState) (by simp [fLrxState])).trans hst
  have hlim : e.g (pPacer n) fFailLim = s.dev.g (pPacer n) fFailLim := hfailed.g (by simp [fFailLim])
  have hs : e.Signals (pLrx n) 16 := (Dev.signals_lrx hr.powered).congr hfailed.offPages
  rw [hlim] at he
  by_cases hle : s.dev.g (pPacer n) fFailLim ≤ e.g (pPacer n) fFails
  · rw [if_pos hle] at he
    obtain ⟨t, ht, hstate, hf, h7, h15, kept⟩ := timedOut_yields hc hr he (Dev.laneFault_timedOut hst') kfailed
    exact ⟨t, ht, hf.trans hfails, h7.trans hevt, by rw [hf, if_pos hle, hstate], fun _ => h15.trans (Dev.laneFault_15 hst' hs),
      fun c => absurd (hstate.symm.trans c) (by decide), kept⟩
  · rw [if_neg hle] at he
    obtain ⟨t, ht, hstate, hf, h7, h15, kept⟩ := timedOut_yields hc hr he (Dev.laneSeek_timedOut hst') kfailed
    exact ⟨t, ht, hf.trans hfails, h7.trans hevt, by rw [hf, if_neg hle, hstate], fun c => absurd (hstate.symm.trans c) (by decide),
      fun _ => h15.trans ((Dev.laneSeek_no15 hst').trans (hfailed.events _ _ (by simp) hs.page)), kept⟩

/-! LANE_FAULT_DWELL_END and CLIP_WINDOW_END -/

theorem faultDwellEnd_seeks (hc : s.calm) (hr : s.dev.runs (pLrx n)) (hst : s.dev.laneState n = stFault) :
    Yields (exec (.laneFaultDwellEnd n) s) fun t => t.dev.laneState n = stSeek ∧ Kept s t s.dev [(pLrx n, 0x044)] [] := by
  refine ((DevKept.refl (ev := []) s.dev).s (f := fLrxState) stSeek (List.mem_singleton_self (pLrx n, 0x044))).yieldsOn hc hr (if_pos hst)
    rfl (by simp) fun t hset kept => ⟨?_, kept⟩
  exact (hset.laneState n).trans (Dev.laneState_laneTo _ _ (by decide))

theorem clipWindowEnd_raises {count : Nat} (hc : s.calm) (hr : s.dev.runs (pLrx n)) : Yields (exec (.clipWindowEnd n count) s) fun t =>
    t.dev.evt (pLrx n) 2 =
      (s.dev.evt (pLrx n) 2 || decide (2 ^ s.dev.g (pLrx n) fAgcClipExp ≤ count) && s.dev.b (pLrx n) fLrxEn) ∧
    Kept s t s.dev [] [(pLrx n, 2)] := by
  have hs := Dev.signals_lrx hr.powered
  refine ((DevKept.refl (ex := []) s.dev).raiseIf _ (by simp)).yieldsOn hc hr (f := (·.lrxClipEnd n count)) rfl rfl (by simp)
    fun t hset kept => ⟨?_, kept⟩
  rw [hset.evt _ _ hs.not_three, hs.raiseIf (by decide)]

end

/-! AGC_DONE of a host lane -/

/-- The taps that a host lane acquires, from the `k`-th free value (R187). -/
def acquiredTaps (k : Nat) : List Word := (List.range 24).map fun i => (Config.trained k i).zeroExtend 32

/-- The table that a host lane acquires, from the `k`-th free value (R187). -/
def acquiredTable (k : Nat) : List Word := (List.range 16).map fun j => ((Config.trained k (79 + j)).truncate 10).zeroExtend 32

/-- Gain and peaking, unless the host sets them (R59). -/
def Dev.hostGain (d : Dev) (n : Lane) (gain peak : Nat) : Dev :=
  if d.b (pHrx n) fHrxFeManual then d else (d.s (pHrx n) fHrxGain (min gain 72)).s (pHrx n) fHrxPeak (min peak 30)

/-- Taps, table and SNR of phase 2 (R187). -/
def Dev.tapsAcquired (d : Dev) (n : Lane) (snr : Nat) : Dev :=
  ((d.drawn.wrs (pHrx n) 0x100 (acquiredTaps d.free)).wrs (pHrx n) 0x180 (acquiredTable d.free)).s (pHrx n) fHostSnr snr

/-- The search over the far transmitter's taps begins (R188). -/
def Dev.searchBegun (d : Dev) (n : Lane) (snr : Nat) : Dev :=
  (d.s (pHrx n) fHostPhase 3).searchSend n (searchFirst (d.hr n).cfg snr)

/-- The receiver as phase 2 leaves it, before a search begins. -/
def Dev.hostAcquired (d : Dev) (n : Lane) (gain peak snr : Nat) : Dev := (d.hostGain n gain peak).tapsAcquired n snr

/-- What phase 2 of a host lane may change. -/
abbrev hostAgcRegs (n : Lane) : List (Nat × Nat) :=
  [(pHrx n, 0x050), (pHrx n, 0x068), (pHrx n, 0x074)] ++ regsOf (pHrx n) (regRun 0x100 24 ++ regRun 0x180 16)

section
variable {ex ev : List (Nat × Nat)} {d h e : Dev} {n : Lane} {gain peak snr : Nat}

theorem Dev.hrxAgcDone_eq (hst : d.hostState n = stTrain) (hp : d.g (pHrx n) fHostPhase = 2) (hq : d.hostSquadHere n = true) :
    d.hrxAgcDone n gain peak snr =
      if ((d.hostAcquired n gain peak snr).hr n).wu then (d.hostAcquired n gain peak snr).searchBegun n snr
      else d.hostAcquired n gain peak snr := if_pos ⟨hst, hp, hq⟩

theorem DevKept.drawn (k : DevKept ex ev d h e) : DevKept ex ev d h.drawn e.drawn := ⟨k.regs, k.events, congrArg Dev.drawn k.hidden⟩

theorem DevKept.hostGain (k : DevKept ex ev d h e) (h50 : (pHrx n, 0x050) ∈ ex) : DevKept ex ev d h (e.hostGain n gain peak) := by
  unfold Dev.hostGain
  split
  · exact k
  · exact (k.s (f := fHrxGain) _ h50).s (f := fHrxPeak) _ h50

theorem DevKept.tapsAcquired (k : DevKept ex ev d h e) (hx : hostAgcRegs n ⊆ ex) : DevKept ex ev d h.drawn (e.tapsAcquired n snr) := by
  have ktaps : DevKept ex ev d h.drawn (e.drawn.wrs (pHrx n) 0x100 (acquiredTaps e.free)) :=
    k.drawn.wrs (fun i hi => hx (List.mem_append_right _ (mem_regsOf.mpr ⟨rfl, List.mem_append_left _ (mem_regRun.mpr ⟨i, hi, rfl⟩)⟩)))
      (by simp [acquiredTaps]) (by decide)
  have ktable : DevKept ex ev d h.drawn ((e.drawn.wrs (pHrx n) 0x100 (acquiredTaps e.free)).wrs (pHrx n) 0x180 (acquiredTable e.free)) :=
    ktaps.wrs (fun i hi => hx (List.mem_append_right _ (mem_regsOf.mpr ⟨rfl, List.mem_append_right _ (mem_regRun.mpr ⟨i, hi, rfl⟩)⟩)))
      (by simp [acquiredTable]) (by decide)
  exact ktable.s (f := fHostSnr) snr (hx (by simp [fHostSnr]))

theorem Dev.tapsAcquired_taps (d : Dev) (n : Lane) (snr : Nat) {i : Nat} (hi : i < 24) :
    (d.tapsAcquired n snr).rd (pHrx n) (0x100 + 4 * i) = (Config.trained d.free i).zeroExtend 32 := by
  rw [Dev.tapsAcquired, Dev.rd_s_off _ fHostSnr _ (by decide) (by omega) (by simp only [fHostSnr]; omega),
    Dev.wrs_rd_before (by unfold regKey; omega), Dev.wrs_rd_at _ (by simpa [acquiredTaps] using hi) (by simp [acquiredTaps])]
  simp [acquiredTaps, hi]

theorem Dev.tapsAcquired_snr (d : Dev) (n : Lane) (snr : Nat) : (d.tapsAcquired n snr).g (pHrx n) fHostSnr = snr % 2 ^ 16 :=
  Dev.g_s_same _ _ _ _ (by decide)

/-- Taps, table and SNR leave a register below the SNR as it is. -/
theorem Dev.tapsAcquired_rd (d : Dev) (n : Lane) (snr : Nat) {o : Nat} (ho : o < 0x074) :
    (d.tapsAcquired n snr).rd (pHrx n) o = d.rd (pHrx n) o := by
  rw [Dev.tapsAcquired, Dev.rd_s_off _ fHostSnr _ (by decide) (by omega) (by simp only [fHostSnr]; omega),
    Dev.wrs_rd_before (by unfold regKey; omega), Dev.wrs_rd_before (by unfold regKey; omega)]
  rfl

theorem Dev.hostGain_free (d : Dev) (n : Lane) (gain peak : Nat) : (d.hostGain n gain peak).free = d.free := by
  unfold Dev.hostGain
  split <;> rfl

theorem Dev.hostGain_auto (hm : d.b (pHrx n) fHrxFeManual = false) :
    (d.hostGain n gain peak).g (pHrx n) fHrxGain = min gain 72 ∧ (d.hostGain n gain peak).g (pHrx n) fHrxPeak = min peak 30 := by
  have hauto : d.hostGain n gain peak = (d.s (pHrx n) fHrxGain (min gain 72)).s (pHrx n) fHrxPeak (min peak 30) :=
    if_neg (by rw [hm]; decide)
  rw [hauto, Dev.g_s_apart (by decide), Dev.g_s_same _ _ _ _ (by decide), Dev.g_s_same _ _ _ _ (by decide)]
  exact ⟨Nat.mod_eq_of_lt (show min gain 72 < 256 by omega), Nat.mod_eq_of_lt (show min peak 30 < 64 by omega)⟩

/-- What phase 2 leaves of the lane: `e` is the lane after it. -/
structure Acquired (d e : Dev) (n : Lane) (gain peak snr : Nat) : Prop where
  auto : d.b (pHrx n) fHrxFeManual = false → e.g (pHrx n) fHrxGain = min gain 72 ∧ e.g (pHrx n) fHrxPeak = min peak 30
  manual : d.b (pHrx n) fHrxFeManual = true → e.rd (pHrx n) 0x050 = d.rd (pHrx n) 0x050
  snr : e.g (pHrx n) fHostSnr = snr % 2 ^ 16
  taps : ∀ i, i < 24 → e.rd (pHrx n) (0x100 + 4 * i) = (Config.trained d.free i).zeroExtend 32

theorem Dev.hostAcquired_acquired (d : Dev) (n : Lane) (gain peak snr : Nat) :
    Acquired d (d.hostAcquired n gain peak snr) n gain peak snr where
  auto hm := by
    have hkeep : ∀ f : Fld, f.off < 0x074 → (d.hostAcquired n gain peak snr).g (pHrx n) f = (d.hostGain n gain peak).g (pHrx n) f :=
      fun f hf => Dev.g_congr (Dev.tapsAcquired_rd _ n snr hf)
    rw [hkeep _ (by decide), hkeep _ (by decide)]
    exact Dev.hostGain_auto hm
  manual hm := (Dev.tapsAcquired_rd _ n snr (by decide)).trans (congrArg (fun e : Dev => e.rd (pHrx n) 0x050) (if_pos hm))
  snr := Dev.tapsAcquired_snr _ n snr
  taps i hi := by
    rw [Dev.hostAcquired, Dev.tapsAcquired_taps _ n snr hi, Dev.hostGain_free]

theorem DevKept.hostAcquired (k : DevKept ex ev d h e) (hx : hostAgcRegs n ⊆ ex) :
    DevKept ex ev d h.drawn (e.hostAcquired n gain peak snr) := (k.hostGain (hx (by simp))).tapsAcquired hx

/-- A step that touches TRN_STATUS alone keeps what phase 2 left. -/
theorem Acquired.kept {c h : Dev} (a : Acquired d e n gain peak snr) (k : DevKept [(pHrx n, 0x068)] [] e h c) :
    Acquired d c n gain peak snr where
  auto hm := by
    rw [k.g (by simp [fHrxGain]), k.g (by simp [fHrxPeak])]
    exact a.auto hm
  manual hm := (k.regs _ _ (by decide) (by decide) (by simp)).trans (a.manual hm)
  snr := (k.g (by simp [fHostSnr])).trans a.snr
  taps i hi := (k.regs _ _ (by omega) (by omega) (by simp; omega)).trans (a.taps i hi)

theorem Acquired.settled {t : Dev} (a : Acquired d e n gain peak snr) (hset : Settled e t) : Acquired d t n gain peak snr where
  auto hm := by
    rw [hset.g _ fHrxGain, hset.g _ fHrxPeak]
    exact a.auto hm
  manual hm := (hset.rd _ _ (by decide) (by decide)).trans (a.manual hm)
  snr := (hset.g _ fHostSnr).trans a.snr
  taps i hi := (hset.rd _ _ (by omega) (by omega)).trans (a.taps i hi)

end

end Sys2Proof.Machine
end

section
/-! AGC_DONE of a host lane, and O13 (R59, R187, R188). -/

open Sys2Proof Sys2Proof.Machine

namespace Sys2Proof.Machine

section
variable {ex ev : List (Nat × Nat)} {d h e : Dev} {n : Lane} {gain peak snr : Nat}

theorem DevKept.searchBegun (k : DevKept ex ev d h e) (h68 : (pHrx n, 0x068) ∈ ex) : ∃ x, DevKept ex ev d
    (h.updHrx n fun y => { y with ctl := searchCtl y.cfg (searchFirst (e.hr n).cfg snr) ((ctlSeq y.ctl + 1) % 4), search := some x })
    (e.searchBegun n snr) := ⟨_, (k.s (f := fHostPhase) 3 h68).updHrx n _⟩

/-- The hidden part of a receiver says nothing of a field. -/
theorem Dev.g_updHrx (d : Dev) (n : Lane) (f : HrxH → HrxH) (q : Nat) (x : Fld) : (d.updHrx n f).g q x = d.g q x := rfl

theorem Dev.searchBegun_phase (d : Dev) (n : Lane) (snr : Nat) : (d.searchBegun n snr).g (pHrx n) fHostPhase = 3 := by
  rw [Dev.searchBegun, Dev.searchSend, Dev.g_updHrx]
  exact Dev.g_s_same _ _ _ _ (by decide)

theorem Dev.hostAcquired_phase (d : Dev) (n : Lane) (gain peak snr : Nat) :
    (d.hostAcquired n gain peak snr).g (pHrx n) fHostPhase = d.g (pHrx n) fHostPhase := by
  have hgain : (d.hostGain n gain peak).g (pHrx n) fHostPhase = d.g (pHrx n) fHostPhase :=
    ((DevKept.refl (ex := [(pHrx n, 0x050)]) (ev := []) d).hostGain (by simp)).g (by simp [fHostPhase])
  exact (Dev.g_congr (Dev.tapsAcquired_rd _ n snr (by decide))).trans hgain

end

theorem not_trial_hostAgc (n : Lane) : (pTrial, 0x048) ∉ hostAgcRegs n := by
  refine fun hm => (List.mem_append.mp hm).elim (by simp) fun hr => ?_
  obtain hr | hr := List.mem_append.mp (mem_regsOf.mp hr).2
  · exact not_mem_regRun (.inl (by decide)) hr
  · exact not_mem_regRun (.inl (by decide)) hr

section
variable {s : State} {n : Lane} {gain peak snr : Nat}

theorem agcDone_host (hc : s.calm) (hr : s.dev.runs (pHrx n)) (hst : s.dev.hostState n = stTrain)
    (hp : s.dev.g (pHrx n) fHostPhase = 2) (hq : s.dev.hostSquadHere n = true) :
    Yields (exec (.agcDone .host n gain peak snr) s) fun t =>
      Acquired s.dev t.dev n gain peak snr ∧ t.dev.g (pHrx n) fHostPhase = (if (s.dev.hr n).wu then 3 else 2) ∧
      ((s.dev.hr n).wu = true → (t.dev.hr n).search.isSome = true) ∧
      Kept s t { s.dev with free := s.dev.free + 1, hrx := t.dev.hrx } (hostAgcRegs n) [] := by
  have hacq := s.dev.hostAcquired_acquired n gain peak snr
  have hphase := (s.dev.hostAcquired_phase n gain peak snr).trans hp
  have kacq : DevKept (hostAgcRegs n) [] s.dev s.dev.drawn (s.dev.hostAcquired n gain peak snr) :=
    (DevKept.refl _).hostAcquired (List.Subset.refl _)
  have he := Dev.hrxAgcDone_eq (gain := gain) (peak := peak) (snr := snr) hst hp hq
  generalize s.dev.hostAcquired n gain peak snr = e at *
  have hwu : (e.hr n).wu = (s.dev.hr n).wu := congrArg HrxH.wu (kacq.hr n)
  rw [hwu] at he
  by_cases h : (s.dev.hr n).wu = true
  · rw [if_pos h] at he
    obtain ⟨x, kbegun⟩ := kacq.searchBegun (snr := snr) (n := n) (by simp)
    obtain ⟨_, hself⟩ := (DevKept.refl (ex := [(pHrx n, 0x068)]) (ev := []) e).searchBegun (n := n) (snr := snr) (by simp)
    refine kbegun.yieldsOn hc hr he rfl (not_trial_hostAgc n) fun t hset kept => ⟨(hacq.kept hself).settled hset, ?_, fun _ => ?_, ?_⟩
    · rw [hset.g _ fHostPhase, Dev.searchBegun_phase, if_pos h]
    · rw [kept.hr, Dev.hr_updHrx_same]
      rfl
    · rw [kept.hrx]
      exact kept
  · rw [if_neg h] at he
    refine kacq.yieldsOn hc hr he rfl (not_trial_hostAgc n) fun t hset kept => ⟨hacq.settled hset, ?_, fun c => absurd c h, ?_⟩
    · rw [hset.g _ fHostPhase, hphase, if_neg h]
    · rw [kept.hrx]
      exact kept

end

/-- Settles O13: each end of a training step by what it makes of the lane's phase and state. -/
theorem lineTrainingSteps : Obligations.LineTrainingSteps := by
  refine ⟨?agcLine, ?agcHost, ?dwell, ?timeout, ?fault, ?clip⟩
  case agcLine => exact fun s n gain peak snr hc hr hst hp => agcDone_line hc hr hst hp
  case agcHost =>
    intro s n gain peak snr hc hr hst hp hq
    obtain ⟨t, ht, ⟨hauto, hmanual, hsnr, htaps⟩, hphase, hsearch, kept⟩ := agcDone_host (gain := gain) (peak := peak) (snr := snr) hc hr
      hst hp hq
    exact ⟨t, ht, hauto, hmanual, hsnr, htaps, hphase, hsearch, kept⟩
  case dwell => exact fun s n snr x hc hr hst hp he hx => peakSearchDwellEnd_goes hc hr hst hp he hx
  case timeout => exact fun s n hc hr hst hp => trainTimeout_fails hc hr hst hp
  case fault => exact fun s n hc hr hst => faultDwellEnd_seeks hc hr hst
  case clip => exact fun s n count hc hr => clipWindowEnd_raises hc hr

end Sys2Proof.Machine
end

section
/-! A live calibration run of a line receiver up to its targets: request, start, observation (O14, R66, R68, R69, R73, R75). -/

open Sys2Proof Sys2Proof.Machine

namespace Sys2Proof.Machine

/-! The request -/

section
variable {ex ev : List (Nat × Nat)} {d h e : Dev} {n : Lane}

theorem Dev.adcCalWrite_run {w : Who} (ht : d.takes w (pLrx n) 0x060) (v : Word) :
    d.adcCalWrite w n (v ||| 8) = ((d.store (pLrx n) 0x060 (v ||| 8)).lrxCalRequest n).answered := by
  have hrun : (v ||| 8).getLsbD 3 = true := by simp
  rw [Dev.adcCalWrite, access_takes _ _ _ _ _ ht, hrun]
  rfl

/-- The request as it stands before cal_deferred. -/
def Dev.calRequested (d : Dev) (n : Lane) : Dev := d.sb (pLrx n) fLrxCalPending true

/-- A new request outside RUN (R75). -/
def Dev.calDeferred (d : Dev) (n : Lane) : Bool := !d.b (pLrx n) fLrxCalPending && d.laneState n != stRun

theorem Dev.lrxCalRequest_eq (d : Dev) (n : Lane) : d.lrxCalRequest n = (d.calRequested n).raiseIf (d.calDeferred n) (pLrx n) 8 := by
  have hst : (d.calRequested n).laneState n = d.laneState n := Dev.g_s_apart (by decide) ..
  rw [Dev.calDeferred, ← hst]
  rfl

theorem DevKept.lrxCalRequest (k : DevKept ex ev d h e) (h44 : (pLrx n, 0x044) ∈ ex) (h8 : (pLrx n, 8) ∈ ev) :
    DevKept ex ev d h (e.lrxCalRequest n) := by
  rw [Dev.lrxCalRequest_eq]
  exact (k.sb (f := fLrxCalPending) true h44).raiseIf _ h8

theorem Dev.lrxCalRequest_pending (d : Dev) (n : Lane) : (d.lrxCalRequest n).b (pLrx n) fLrxCalPending = true := by
  rw [Dev.lrxCalRequest_eq, Dev.b_congr (Dev.rd_raiseIf _ _ _ _ _ fLrxCalPending.off)]
  exact Dev.b_sb_same _ _ _ _ (by decide) rfl

theorem Dev.lrxCalRequest_evt {k : Nat} (hs : d.Signals (pLrx n) k) (hk : 8 < k) :
    (d.lrxCalRequest n).evt (pLrx n) 8 = (d.evt (pLrx n) 8 || d.calDeferred n) := by
  have hs' : (d.calRequested n).Signals (pLrx n) k := hs.congr rfl
  have hevt : (d.calRequested n).evt (pLrx n) 8 = d.evt (pLrx n) 8 := Dev.evt_wr _ _ _ _ (by decide) (by decide)
  rw [Dev.lrxCalRequest_eq, hs'.raiseIf hk, hevt]

theorem Dev.lrxCalRequest_rd (d : Dev) (n : Lane) {o : Nat} (ho : o < 4096) (hne : o ≠ 0x010) (h44 : o ≠ 0x044) :
    (d.lrxCalRequest n).rd (pLrx n) o = d.rd (pLrx n) o :=
  ((DevKept.refl (ex := [(pLrx n, 0x044)]) (ev := [(pLrx n, 8)]) d).lrxCalRequest (by simp) (by simp)).regs _ _ ho hne (by simp [h44])

end

/-- ADC_CAL_RUN. -/
theorem adcCalRun_requests {s : State} {w : Who} {n : Lane} {v : Word} (hc : s.calm) (ht : s.dev.takes w (pLrx n) 0x060) :
    Yields (exec (.adcCalRun w n v) s) fun t =>
      t.dev.rd (pLrx n) 0x060 = storeWord (pLrx n) 0x060 (s.dev.rd (pLrx n) 0x060) (v ||| 8) ∧
      t.dev.b (pLrx n) fLrxCalPending = true ∧ t.dev.evt (pLrx n) 8 = (s.dev.evt (pLrx n) 8 || s.dev.calDeferred n) ∧
      Kept s t s.dev.answered [(pLrx n, 0x060), (pLrx n, 0x044)] [(pLrx n, 8)] := by
  have hs := Dev.signals_lrx ht.powered
  have kstore : DevKept [(pLrx n, 0x060), (pLrx n, 0x044)] [(pLrx n, 8)] s.dev s.dev (s.dev.store (pLrx n) 0x060 (v ||| 8)) :=
    (DevKept.refl _).wr _ (by simp)
  have hword : (s.dev.store (pLrx n) 0x060 (v ||| 8)).rd (pLrx n) 0x060 = _ := s.dev.rd_wr_same _ _ _
  have hpend : (s.dev.store (pLrx n) 0x060 (v ||| 8)).b (pLrx n) fLrxCalPending = s.dev.b (pLrx n) fLrxCalPending :=
    Dev.store_b _ _ (by decide) (by decide) (by decide)
  have hstate : (s.dev.store (pLrx n) 0x060 (v ||| 8)).laneState n = s.dev.laneState n := Dev.store_g _ _ (by decide) (by decide) (by decide)
  have hevt : (s.dev.store (pLrx n) 0x060 (v ||| 8)).evt (pLrx n) 8 = s.dev.evt (pLrx n) 8 := Dev.evt_wr _ _ _ _ (by decide) (by decide)
  have hse : (s.dev.store (pLrx n) 0x060 (v ||| 8)).Signals (pLrx n) 16 := hs.congr rfl
  have he := Dev.adcCalWrite_run ht v
  generalize s.dev.store (pLrx n) 0x060 (v ||| 8) = e at *
  have hdef : e.calDeferred n = s.dev.calDeferred n := by rw [Dev.calDeferred, Dev.calDeferred, hpend, hstate]
  refine (kstore.lrxCalRequest (n := n) (by simp) (by simp)).answered.yields hc (f := (·.adcCalWrite w n (v ||| 8))) he
    (Dev.answered_life _) (by simp) fun t hans kept => have hset := hans.unanswered; ⟨?_, ?_, ?_, kept⟩
  · rw [hset.rd _ _ (by decide) (by decide), e.lrxCalRequest_rd n (by decide) (by decide) (by decide), hword]
  · rw [hset.b _ fLrxCalPending, Dev.lrxCalRequest_pending]
  · rw [hset.evt _ _ hs.not_three, Dev.lrxCalRequest_evt hse (by decide), hevt, hdef]

/-! The start -/

/-- A run that starts: the training run fits at once, a live one by the step that the host has set (R69, R73). -/
def Dev.calRun (d : Dev) (n : Lane) (forced : Bool) : CalRun :=
  ⟨forced, false, if forced then 0 else d.g (pLrx n) fAdcStep, d.g (pLrx n) fAdcEn, d.rd (pLrx n) 0x064⟩

/-- The receiver at step 1 of a run (R69). -/
def Dev.calStarted (d : Dev) (n : Lane) (r : CalRun) : Dev :=
  ((d.updLrx n fun h => { h with run := some r }).sb (pLrx n) fLrxCalBusy true).sb (pLrx n) fLrxCalPending false

section
variable {d : Dev} {n : Lane}

theorem Dev.lrxCalStart_train (hr : (d.lx n).run = none) (hst : d.laneState n = stTrain) (hp : d.g (pPacer n) fPhase = 3) :
    d.lrxCalStart n = d.calStarted n (d.calRun n true) :=
  (if_neg (by rw [hr]; decide)).trans (if_pos ⟨hst, hp⟩)

theorem Dev.lrxCalStart_run (hr : (d.lx n).run = none) (hst : d.laneState n = stRun) (hp : d.b (pLrx n) fLrxCalPending = true) :
    d.lrxCalStart n = d.calStarted n (d.calRun n false) :=
  (if_neg (by rw [hr]; decide)).trans ((if_neg fun h => absurd (hst.symm.trans h.1) (by decide)).trans (if_pos ⟨hst, hp⟩))

end

/-- CAL_RUN_START. -/
theorem calStarted_yields {s : State} {n : Lane} {r : CalRun} (hc : s.calm) (hr : s.dev.runs (pLrx n))
    (he : s.dev.lrxCalStart n = s.dev.calStarted n r) : Yields (exec (.calRunStart n) s) fun t =>
      t.dev.b (pLrx n) fLrxCalBusy = true ∧ t.dev.b (pLrx n) fLrxCalPending = false ∧
      Kept s t (s.dev.updLrx n fun h => { h with run := some r }) [(pLrx n, 0x044)] [] := by
  have kst : DevKept [(pLrx n, 0x044)] [] s.dev (s.dev.updLrx n fun h => { h with run := some r }) (s.dev.calStarted n r) :=
    (((DevKept.refl _).updLrx n _).sb (f := fLrxCalBusy) true (by simp [fLrxCalBusy])).sb (f := fLrxCalPending) false
      (by simp [fLrxCalPending])
  refine kst.yieldsOn hc hr he rfl (by simp) fun t hset kept => ⟨?_, ?_, kept⟩
  · refine (hset.b _ fLrxCalBusy).trans ((Dev.b_s_apart (by decide) ..).trans ?_)
    exact Dev.b_sb_same _ _ _ _ (by decide) rfl
  · exact (hset.b _ fLrxCalPending).trans (Dev.b_sb_same _ _ _ _ (by decide) rfl)

/-! The observation -/

/-- The targets as SLICE_MEAS holds them (R66). -/
def sliceTargets (targets : List Word) : List Word := (List.range 256).map fun k => targets.getD k 0 &&& 0x0FFFFFFF

/-- The receiver with its targets (R69 steps 2 and 3). -/
def Dev.calObserved (d : Dev) (n : Lane) (r : CalRun) (targets : List Word) : Dev :=
  ((d.wrs (pLrx n) 0x800 (sliceTargets targets)).updLrx n fun h => { h with run := some { r with computed := true } }).sb (pLrx n)
    fCalMeasValid true

theorem Dev.lrxCalObserved_eq {d : Dev} {n : Lane} {r : CalRun} {targets : List Word} (hr : (d.lx n).run = some r)
    (hc : r.computed = false) : d.lrxCalObserved n targets = d.calObserved n r targets := by
  unfold Dev.lrxCalObserved
  rw [hr]
  exact if_neg (by rw [hc]; decide)

/-- The hidden part of a receiver says nothing of a register. -/
theorem Dev.rd_updLrx (d : Dev) (n : Lane) (f : LrxH → LrxH) (p o : Nat) : (d.updLrx n f).rd p o = d.rd p o := rfl

theorem Dev.calObserved_target (d : Dev) (n : Lane) (r : CalRun) (targets : List Word) {k : Nat} (hk : k < 256) :
    (d.calObserved n r targets).rd (pLrx n) (0x800 + 4 * k) = targets.getD k 0 &&& 0x0FFFFFFF := by
  rw [Dev.calObserved, Dev.sb, Dev.rd_s_off _ fCalMeasValid _ (by decide) (by omega) (by simp only [fCalMeasValid]; omega),
    Dev.rd_updLrx, Dev.wrs_rd_at _ (by simpa [sliceTargets] using hk) (by simp [sliceTargets])]
  simp [sliceTargets, hk]

/-- CAL_OBSERVATION_END. -/
theorem calObservationEnd_targets {s : State} {n : Lane} {targets : List Word} {r : CalRun} (hc : s.calm) (hr : s.dev.runs (pLrx n))
    (hrun : (s.dev.lx n).run = some r) (hcomp : r.computed = false) : Yields (exec (.calObservationEnd n targets) s) fun t =>
      (∀ k, k < 256 → t.dev.rd (pLrx n) (0x800 + 4 * k) = targets.getD k 0 &&& 0x0FFFFFFF) ∧ t.dev.b (pLrx n) fCalMeasValid = true ∧
      Kept s t (s.dev.updLrx n fun h => { h with run := some { r with computed := true } })
        ((pLrx n, 0x078) :: regsOf (pLrx n) (regRun 0x800 256)) [] := by
  have kmeas : DevKept ((pLrx n, 0x078) :: regsOf (pLrx n) (regRun 0x800 256)) [] s.dev s.dev
      (s.dev.wrs (pLrx n) 0x800 (sliceTargets targets)) :=
    (DevKept.refl _).wrs (fun i hi => .tail _ (mem_regsOf.mpr ⟨rfl, mem_regRun.mpr ⟨i, by simpa [sliceTargets] using hi, rfl⟩⟩))
      (by simp [sliceTargets]) (by decide)
  refine ((kmeas.updLrx n _).sb (f := fCalMeasValid) true (.head _)).yieldsOn hc hr (Dev.lrxCalObserved_eq hrun hcomp) rfl
    (fun hm => (List.mem_cons.mp hm).elim (by simp) (not_trial_regRun (by decide))) fun t hset kept => ⟨fun k hk => ?_, ?_, kept⟩
  · exact (hset.rd _ _ (by omega) (by omega)).trans (s.dev.calObserved_target n r targets hk)
  · exact (hset.b _ fCalMeasValid).trans (Dev.b_sb_same _ _ _ _ (by decide) rfl)

end Sys2Proof.Machine
end

section
/-! The application of a live calibration run, and O14 (R66, R69, R70, R72, R265, R267, R268). -/

open Sys2Proof Sys2Proof.Machine

namespace Sys2Proof.Machine

@[simp] theorem lrx_ne_cal (n : Lane) : pLrx n ≠ 0x17 := by unfold pLrx; omega

theorem Dev.updLrx_updLrx (d : Dev) (n : Lane) (f g : LrxH → LrxH) : (d.updLrx n f).updLrx n g = d.updLrx n fun h => g (f h) := by
  rw [Dev.updLrx, Dev.lx_updLrx_same]
  simp [Dev.updLrx]

theorem Kept.mono {s t : State} {d : Dev} {ex ex' ev ev' : List (Nat × Nat)} (k : Kept s t d ex ev) (hx : ex ⊆ ex') (hv : ev ⊆ ev') :
    Kept s t d ex' ev' where
  regs p o h1 h2 h3 := k.regs p o h1 h2 fun m => h3 (hx m)
  events p x h1 h2 := k.events p x (fun m => h1 (hv m)) h2
  hidden := k.hidden
  mem := k.mem
  pending := k.pending

/-! The corrections -/

/-- The slices after a run: each correction, and whether its limit held it (R66, R69). -/
def Dev.slicesMoved (d : Dev) (n : Lane) (r : CalRun) : List (Word × Bool) :=
  (List.range 256).map fun k => sliceMove r ((d.rds (pLrx n) 0x400 256).getD k 0) ((d.rds (pLrx n) 0x800 256).getD k 0)

/-- A run that applies was held by its limit (R70). -/
def Dev.calHeld (d : Dev) (n : Lane) (r : CalRun) : Bool := r.applies && (d.slicesMoved n r).any (·.2)

/-- The corrections of a run, with the previous ones kept (R70). -/
def Dev.slicesWritten (d : Dev) (n : Lane) (r : CalRun) : Dev :=
  (d.wrs (pLrx n) 0x400 ((d.slicesMoved n r).map (·.1))).updLrx n fun h => { h with prev := some ⟨d.rds (pLrx n) 0x400 256⟩ }

/-- The run counted and stamped (R70, R267). -/
def Dev.runCounted (d : Dev) (n : Lane) : Dev := (d.inc (pLrx n) 0x068).wr64 (pLrx n) 0x070 d.tk

/-- A run that applies (R69, R70, R267, R268). -/
def Dev.calWritten (d : Dev) (n : Lane) (r : CalRun) : Dev :=
  (((d.slicesWritten n r).runCounted n).sb (pLrx n) fCalClamped (d.calHeld n r)).calStoreMark

/-- A run that is complete: its result, its reference, and its end (R69, R72, R265). -/
def Dev.calClosed (d : Dev) (n : Lane) (applied : Bool) : Dev :=
  ((((((d.sb (pLrx n) fCalApplied applied).sb (pLrx n) fCalAbandoned false).s (pLrx n) fCalReason 0).updLrx n
    fun h => { h with run := none }).sb (pLrx n) fLrxCalBusy false).calReference n (fRefLrx n))

/-- What completes a run tells (R69, R70). -/
def Dev.calTold (d : Dev) (n : Lane) (held : Bool) : Dev := (d.raise (pLrx n) 5).raiseIf held (pLrx n) 7

/-- A live run outside a Handoff: its corrections where it applies, then its end. -/
theorem Dev.lrxCalApply_eq {d : Dev} {n : Lane} {r : CalRun} (hr : (d.lx n).run = some r) (hc : r.computed = true)
    (hf : r.forced = false) (hfade : (d.pc n).fade = none) : d.lrxCalApply n =
      ((if r.applies then d.calWritten n r else d).calClosed n r.applies).calTold n (d.calHeld n r) := by
  unfold Dev.lrxCalApply
  simp only [hr, hc, hf, hfade, Bool.not_true, Option.isSome_none, Bool.or_self, Bool.false_eq_true, if_false, false_and]
  rfl

/-- The registers of a run's result and of its references (R81, R265, R274). -/
abbrev closeRegs (n : Lane) : List (Nat × Nat) := [(pLrx n, 0x044), (pLrx n, 0x078), (0x17, 0x050 + 4 * n.val), (0x17, 0x04C)]

/-- What the application of a run may change. -/
abbrev applyRegs (n : Lane) : List (Nat × Nat) :=
  [(pLrx n, 0x044), (pLrx n, 0x068), (pLrx n, 0x070), (pLrx n, 0x074), (pLrx n, 0x078), (0x17, 0x050 + 4 * n.val), (0x17, 0x04C)] ++
    regsOf (pLrx n) (regRun 0x400 256)

section
variable {ex ev : List (Nat × Nat)} {d h e : Dev} {n : Lane} {r : CalRun}

theorem DevKept.calStoreMark (k : DevKept ex ev d h e) (h4C : (0x17, 0x04C) ∈ ex) : DevKept ex ev d h e.calStoreMark :=
  k.when (k.sb (f := fStorePending) true h4C (by decide) (by decide)) _

theorem DevKept.calReference (k : DevKept ex ev d h e) (hx : (0x17, 0x050 + 4 * n.val) ∈ ex) :
    DevKept ex ev d h (e.calReference n (fRefLrx n)) :=
  k.when (k.s (f := fRefLrx n) _ hx (by simp only [fRefLrx]; omega) (by simp only [fRefLrx]; omega)) _

theorem DevKept.calClosed (k : DevKept ex ev d h e) (hx : closeRegs n ⊆ ex) (applied : Bool) :
    DevKept ex ev d (h.updLrx n fun x => { x with run := none }) (e.calClosed n applied) := by
  have h44 : (pLrx n, 0x044) ∈ ex := hx (by simp)
  have h78 : (pLrx n, 0x078) ∈ ex := hx (by simp)
  have kres := ((k.sb (f := fCalApplied) applied h78 (by decide) (by decide)).sb (f := fCalAbandoned) false h78 (by decide) (by decide)).s
    (f := fCalReason) 0 h78 (by decide) (by decide)
  exact ((kres.updLrx n _).sb (f := fLrxCalBusy) false h44 (by decide) (by decide)).calReference (hx (by simp))

theorem DevKept.calTold (k : DevKept ex ev d h e) (h5 : (pLrx n, 5) ∈ ev) (h7 : (pLrx n, 7) ∈ ev) (held : Bool) :
    DevKept ex ev d h (e.calTold n held) := (k.raise h5).raiseIf held h7

theorem DevKept.slicesWritten (k : DevKept ex ev d h e) (hx : regsOf (pLrx n) (regRun 0x400 256) ⊆ ex) :
    DevKept ex ev d (h.updLrx n fun x => { x with prev := some ⟨e.rds (pLrx n) 0x400 256⟩ }) (e.slicesWritten n r) :=
  (k.wrs (fun i hi => hx (mem_regsOf.mpr ⟨rfl, mem_regRun.mpr ⟨i, by simpa [Dev.slicesMoved] using hi, rfl⟩⟩))
    (by simp [Dev.slicesMoved]) (by decide)).updLrx n _

theorem DevKept.runCounted (k : DevKept ex ev d h e) (hx : [(pLrx n, 0x068), (pLrx n, 0x070), (pLrx n, 0x074)] ⊆ ex) :
    DevKept ex ev d h (e.runCounted n) :=
  (k.wr _ (hx (by simp)) (by decide) (by decide)).wr64 _ (hx (by simp)) (hx (by simp)) (by decide) (by decide)

theorem DevKept.calWritten (k : DevKept ex ev d h e) (hx : applyRegs n ⊆ ex) :
    DevKept ex ev d (h.updLrx n fun x => { x with prev := some ⟨e.rds (pLrx n) 0x400 256⟩ }) (e.calWritten n r) := by
  have kcor := k.slicesWritten (n := n) (r := r) (List.Subset.trans (List.subset_append_right _ _) hx)
  have kcount := kcor.runCounted (n := n) (fun q hq => hx (List.mem_append_left _ (by
    simp only [List.mem_cons, List.not_mem_nil, or_false] at hq ⊢
    tauto)))
  exact (kcount.sb (f := fCalClamped) _ (hx (by simp [fCalClamped])) (by decide) (by decide)).calStoreMark (hx (by simp))

end

/-! What the application shows -/

/-- Corrections, count and time stamp of a run that applies: `d` is the receiver before it, `e` after (R66, R69, R70). -/
structure CalWritten (d e : Dev) (n : Lane) (r : CalRun) : Prop where
  slices : ∀ k, k < 256 → e.rd (pLrx n) (0x400 + 4 * k) =
    (sliceMove r (d.rd (pLrx n) (0x400 + 4 * k)) (d.rd (pLrx n) (0x800 + 4 * k))).1
  count : e.rd (pLrx n) 0x068 = d.rd (pLrx n) 0x068 + 1
  time : e.rd64 (pLrx n) 0x070 = d.tk

/-- The end of a run, as CAL_RESULT and STATUS show it. -/
structure CalClosed (e : Dev) (n : Lane) (applied : Bool) : Prop where
  applied : e.b (pLrx n) fCalApplied = applied
  abandoned : e.b (pLrx n) fCalAbandoned = false
  busy : e.b (pLrx n) fLrxCalBusy = false

section
variable {d e : Dev} {n : Lane} {r : CalRun}

theorem Dev.slicesMoved_getD (d : Dev) (n : Lane) (r : CalRun) {k : Nat} (hk : k < 256) : ((d.slicesMoved n r).map (·.1)).getD k 0 =
    (sliceMove r (d.rd (pLrx n) (0x400 + 4 * k)) (d.rd (pLrx n) (0x800 + 4 * k))).1 := by
  rw [← Dev.rds_getD d (off := 0x400) hk, ← Dev.rds_getD d (off := 0x800) hk]
  simp [Dev.slicesMoved, hk]

theorem Dev.slicesWritten_slice (d : Dev) (n : Lane) (r : CalRun) {k : Nat} (hk : k < 256) :
    (d.slicesWritten n r).rd (pLrx n) (0x400 + 4 * k) =
      (sliceMove r (d.rd (pLrx n) (0x400 + 4 * k)) (d.rd (pLrx n) (0x800 + 4 * k))).1 := by
  rw [Dev.slicesWritten, Dev.rd_updLrx, Dev.wrs_rd_at _ (by simpa [Dev.slicesMoved] using hk) (by simp [Dev.slicesMoved]),
    d.slicesMoved_getD n r hk]

theorem Dev.slicesWritten_rd (d : Dev) (n : Lane) (r : CalRun) {o : Nat} (ho : o < 0x400) :
    (d.slicesWritten n r).rd (pLrx n) o = d.rd (pLrx n) o := by
  rw [Dev.slicesWritten, Dev.rd_updLrx, Dev.wrs_rd_before (by unfold regKey; omega)]

theorem Dev.slicesWritten_tk (d : Dev) (n : Lane) (r : CalRun) : (d.slicesWritten n r).tk = d.tk := by
  have k : DevKept (regsOf (pLrx n) (regRun 0x400 256)) [] d _ (d.slicesWritten n r) := (DevKept.refl d).slicesWritten (List.Subset.refl _)
  exact (congrArg Dev.tk k.hidden :)

theorem Dev.runCounted_reads (d : Dev) (n : Lane) :
    (d.runCounted n).rd (pLrx n) 0x068 = d.rd (pLrx n) 0x068 + 1 ∧ (d.runCounted n).rd64 (pLrx n) 0x070 = d.tk := by
  refine ⟨?_, Dev.rd64_wr64_same _ _ _ _ (by decide)⟩
  rw [Dev.runCounted, Dev.wr64, Dev.rd_wr_off _ (by decide) (by decide) (by decide), Dev.rd_wr_off _ (by decide) (by decide) (by decide),
    Dev.inc, Dev.rd_wr_same]

/-- A step that touches neither corrections nor count nor time stamp keeps what the run wrote. -/
theorem CalWritten.kept {h c : Dev} {ev : List (Nat × Nat)} (a : CalWritten d e n r) (k : DevKept (closeRegs n) ev e h c) :
    CalWritten d c n r where
  slices i hi := (k.regs _ _ (by omega) (by omega) (by simp; omega)).trans (a.slices i hi)
  count := (k.regs _ _ (by decide) (by decide) (by simp)).trans a.count
  time := (Dev.rd64_congr fun o ho => k.regs _ _ (by simp at ho; omega) (by simp at ho; omega) (by simp at ho ⊢; omega)).trans a.time

theorem CalWritten.settled {t : Dev} (a : CalWritten d e n r) (hset : Settled e t) : CalWritten d t n r where
  slices i hi := (hset.rd _ _ (by omega) (by omega)).trans (a.slices i hi)
  count := (hset.rd _ _ (by decide) (by decide)).trans a.count
  time := (Dev.rd64_congr fun o ho => hset.rd _ _ (by simp at ho; omega) (by simp at ho; omega)).trans a.time

theorem Dev.runCounted_written (d : Dev) (n : Lane) (r : CalRun) : CalWritten d ((d.slicesWritten n r).runCounted n) n r where
  slices i hi := by
    have k := (DevKept.refl (ev := []) (d.slicesWritten n r)).runCounted (n := n) (List.Subset.refl _)
    exact (k.regs _ _ (by omega) (by omega) (by simp; omega)).trans (d.slicesWritten_slice n r hi)
  count := by rw [((d.slicesWritten n r).runCounted_reads n).1, d.slicesWritten_rd n r (by decide)]
  time := by rw [((d.slicesWritten n r).runCounted_reads n).2, Dev.slicesWritten_tk]

theorem Dev.calWritten_written (d : Dev) (n : Lane) (r : CalRun) : CalWritten d (d.calWritten n r) n r :=
  (d.runCounted_written n r).kept (ev := []) (((DevKept.refl _).sb (f := fCalClamped) _ (by simp [fCalClamped]) (by decide)
    (by decide)).calStoreMark (by simp))

/-- A reference says nothing of a lane's page. -/
theorem Dev.calReference_lrx (d : Dev) (n : Lane) {f : Fld} (hlt : f.off < 4096) :
    (d.calReference n (fRefLrx n)).g (pLrx n) f = d.g (pLrx n) f := by
  have hpage : (d.s 0x17 (fRefLrx n) (d.g 0x06 (fTempUsed n.val))).g (pLrx n) f = d.g (pLrx n) f :=
    Dev.g_congr (d.rd_s_page (fRefLrx n) _ (by simp only [fRefLrx]; omega) hlt (lrx_ne_cal n))
  unfold Dev.calReference Dev.when
  split
  · exact hpage
  · rfl

theorem Dev.g_updLrx (d : Dev) (n : Lane) (f : LrxH → LrxH) (q : Nat) (x : Fld) : (d.updLrx n f).g q x = d.g q x := rfl

theorem Dev.calClosed_closed (d : Dev) (n : Lane) (applied : Bool) : CalClosed (d.calClosed n applied) n applied where
  applied := by
    rw [Dev.calClosed, Dev.b, Dev.calReference_lrx _ n (by decide), Dev.sb, Dev.g_s_apart (by decide), Dev.g_updLrx,
      Dev.g_s_apart (by decide), Dev.sb, Dev.g_s_apart (by decide)]
    exact Dev.b_sb_same _ _ _ _ (by decide) rfl
  abandoned := by
    rw [Dev.calClosed, Dev.b, Dev.calReference_lrx _ n (by decide), Dev.sb, Dev.g_s_apart (by decide), Dev.g_updLrx,
      Dev.g_s_apart (by decide)]
    exact Dev.b_sb_same _ _ _ _ (by decide) rfl
  busy := by
    rw [Dev.calClosed, Dev.b, Dev.calReference_lrx _ n (by decide)]
    exact Dev.b_sb_same _ _ _ _ (by decide) rfl

theorem CalClosed.settled {t : Dev} {applied : Bool} (a : CalClosed e n applied) (hset : Settled e t) : CalClosed t n applied :=
  ⟨(hset.b _ fCalApplied (by decide) (by decide)).trans a.applied, (hset.b _ fCalAbandoned (by decide) (by decide)).trans a.abandoned,
    (hset.b _ fLrxCalBusy (by decide) (by decide)).trans a.busy⟩

theorem Dev.calTold_kept (d : Dev) (n : Lane) (held : Bool) : DevKept [] [(pLrx n, 5), (pLrx n, 7)] d d (d.calTold n held) :=
  (DevKept.refl d).calTold (by simp) (by simp) held

theorem Dev.calTold_evt {k : Nat} (hs : d.Signals (pLrx n) k) (hk : 5 < k) (held : Bool) : (d.calTold n held).evt (pLrx n) 5 = true := by
  have hs' : (d.raise (pLrx n) 5).Signals (pLrx n) k := hs.congr (Dev.raiseIf_offPages d true _ _)
  rw [Dev.calTold, hs'.raiseIf_other (by decide), hs.raise hk]

theorem CalClosed.told {applied : Bool} (a : CalClosed e n applied) (held : Bool) : CalClosed (e.calTold n held) n applied :=
  ⟨((e.calTold_kept n held).b List.not_mem_nil (by decide) (by decide)).trans a.applied,
    ((e.calTold_kept n held).b List.not_mem_nil (by decide) (by decide)).trans a.abandoned,
    ((e.calTold_kept n held).b List.not_mem_nil (by decide) (by decide)).trans a.busy⟩

end

theorem not_trial_apply (n : Lane) : (pTrial, 0x048) ∉ applyRegs n := fun hm =>
  (List.mem_append.mp hm).elim (by simp [pTrial]) (not_trial_regRun (by decide))

section
variable {s : State} {n : Lane} {r : CalRun}

/-- A run that applies (R69, R70, R72). -/
theorem calApply_applies (hc : s.calm) (hr : s.dev.runs (pLrx n)) (hrun : (s.dev.lx n).run = some r) (hcomp : r.computed = true)
    (hf : r.forced = false) (hfade : (s.dev.pc n).fade = none) (ha : r.applies = true) : Yields (exec (.calApply n) s) fun t =>
      CalWritten s.dev t.dev n r ∧ CalClosed t.dev n true ∧ t.dev.evt (pLrx n) 5 = true ∧
      Kept s t (s.dev.updLrx n fun h => { h with run := none, prev := some ⟨s.dev.rds (pLrx n) 0x400 256⟩ }) (applyRegs n)
        [(pLrx n, 5), (pLrx n, 7)] := by
  have hs := Dev.signals_lrx hr.powered
  have he := Dev.lrxCalApply_eq hrun hcomp hf hfade
  have hwritten := s.dev.calWritten_written n r
  have kwritten : DevKept (applyRegs n) [(pLrx n, 5), (pLrx n, 7)] s.dev _ (s.dev.calWritten n r) :=
    (DevKept.refl s.dev).calWritten (List.Subset.refl _)
  have hclose : closeRegs n ⊆ applyRegs n := by simp [List.subset_def]
  rw [ha, if_pos rfl] at he
  generalize s.dev.calWritten n r = e at *
  have kclosed := kwritten.calClosed hclose true
  have hse : (e.calClosed n true).Signals (pLrx n) 16 := hs.congr kclosed.offPages
  have ktail : DevKept (closeRegs n) [(pLrx n, 5), (pLrx n, 7)] e _ ((e.calClosed n true).calTold n (s.dev.calHeld n r)) :=
    ((DevKept.refl e).calClosed (List.Subset.refl _) true).calTold (by simp) (by simp) _
  have kall := kclosed.calTold (n := n) (by simp) (by simp) (s.dev.calHeld n r)
  rw [Dev.updLrx_updLrx] at kall
  refine kall.yieldsOn hc hr he rfl (not_trial_apply n) fun t hset kept =>
    ⟨(hwritten.kept ktail).settled hset, ((e.calClosed_closed n true).told _).settled hset, ?_, kept⟩
  exact (hset.evt _ _ hs.not_three).trans (Dev.calTold_evt hse (by decide) _)

/-- A run that applies nothing: its mode is above 1 or nothing is enabled (R72). -/
theorem calApply_nothing (hc : s.calm) (hr : s.dev.runs (pLrx n)) (hrun : (s.dev.lx n).run = some r) (hcomp : r.computed = true)
    (hf : r.forced = false) (hfade : (s.dev.pc n).fade = none) (ha : r.applies = false) : Yields (exec (.calApply n) s) fun t =>
      (∀ o ∈ [0x068, 0x070, 0x074] ++ regRun 0x400 256, t.dev.rd (pLrx n) o = s.dev.rd (pLrx n) o) ∧ CalClosed t.dev n false ∧
      t.dev.evt (pLrx n) 5 = true ∧
      Kept s t (s.dev.updLrx n fun h => { h with run := none }) (closeRegs n) [(pLrx n, 5), (pLrx n, 7)] := by
  have hs := Dev.signals_lrx hr.powered
  have he := Dev.lrxCalApply_eq hrun hcomp hf hfade
  rw [ha, if_neg (by decide)] at he
  have kclosed : DevKept (closeRegs n) [(pLrx n, 5), (pLrx n, 7)] s.dev _ (s.dev.calClosed n false) :=
    (DevKept.refl s.dev).calClosed (List.Subset.refl _) false
  have hse : (s.dev.calClosed n false).Signals (pLrx n) 16 := hs.congr kclosed.offPages
  refine (kclosed.calTold (n := n) (by simp) (by simp) _).yieldsOn hc hr he rfl (by simp [pTrial]) fun t hset kept =>
    ⟨fun o ho => ?_, ((s.dev.calClosed_closed n false).told _).settled hset, ?_, kept⟩
  · have hrange : 0x068 ≤ o ∧ o < 0x800 ∧ o ≠ 0x078 := by
      obtain ho | ho := List.mem_append.mp ho
      · simp at ho
        omega
      · obtain ⟨i, hi, rfl⟩ := mem_regRun.mp ho
        omega
    exact kept.regs _ _ (by omega) (by omega) (by simp; omega)
  · exact (hset.evt _ _ hs.not_three).trans (Dev.calTold_evt hse (by decide) _)

end

/-- Settles O14: the request, the start, the observation and the application of a run by what each leaves of the receiver. -/
theorem converterCalibrationRuns : Obligations.ConverterCalibrationRuns := by
  refine ⟨?request, ?live, ?train, ?observe, ?apply⟩
  case request => exact fun s w n v hc ht => adcCalRun_requests hc ht
  case live => exact fun s n hc hr hrun hst hp => calStarted_yields hc hr (Dev.lrxCalStart_run hrun hst hp)
  case train => exact fun s n hc hr hrun hst hp => calStarted_yields hc hr (Dev.lrxCalStart_train hrun hst hp)
  case observe => exact fun s n targets r hc hr hrun hcomp => calObservationEnd_targets hc hr hrun hcomp
  case apply =>
    intro s n r hc hr hrun hcomp hf hfade
    cases ha : r.applies with
    | true =>
      obtain ⟨t, ht, ⟨hslices, hcount, htime⟩, ⟨happ, hab, hbusy⟩, hevt, kept⟩ := calApply_applies hc hr hrun hcomp hf hfade ha
      exact ⟨t, ht, fun _ => ⟨hslices, hcount, htime⟩, nofun, happ, hab, hbusy, hevt, kept⟩
    | false =>
      obtain ⟨t, ht, hsame, ⟨happ, hab, hbusy⟩, hevt, kept⟩ := calApply_nothing hc hr hrun hcomp hf hfade ha
      exact ⟨t, ht, nofun, fun _ => hsame, happ, hab, hbusy, hevt, kept.mono (by simp [List.subset_def]) (List.Subset.refl _)⟩

end Sys2Proof.Machine
end

section
/-! The banks of a line equaliser: what a set written into a bank, a Handoff and a pace target make of them (R85, R103, R104, R106, R107,
R109, R113). -/

open Sys2Proof Sys2Proof.Machine

namespace Sys2Proof.Machine

/-! Sets in banks -/

/-- A set has as many coefficients as a bank holds (R84 to R86). -/
abbrev EqSet.full (e : EqSet) : Prop := e.ffe.length = 64 ∧ e.volt.length = 15 ∧ e.mlse.length = 64

/-- The registers of a bank. -/
abbrev bankRegs (n : Lane) (bank : Nat) : List (Nat × Nat) := regsOf (pPacer n) (eqOffs.map (bankOff bank + ·))

theorem mem_eqOffs {o : Nat} : o ∈ eqOffs ↔
    (∃ i < 64, o = 4 * i) ∨ (∃ i < 15, o = 0x100 + 4 * i) ∨ ∃ i < 64, o = 0x140 + 4 * i := by
  simp only [eqOffs, List.mem_append, List.mem_map, List.mem_range, or_assoc, eq_comm]

theorem bankOff_range (bank : Nat) : 0x400 ≤ bankOff bank ∧ bankOff bank ≤ 0x800 := by
  unfold bankOff
  split <;> decide

theorem eqOffs_range {o : Nat} (h : o ∈ eqOffs) : o < 0x240 := by
  rw [mem_eqOffs] at h
  omega

/-- The registers of a bank lie between the counters and PARK. -/
theorem bankRegs_range {n : Lane} {bank p o : Nat} (h : (p, o) ∈ bankRegs n bank) : p = pPacer n ∧ 0x400 ≤ o ∧ o < 0xC00 := by
  obtain ⟨hp, ho⟩ := mem_regsOf.mp h
  obtain ⟨x, hx, rfl⟩ := List.mem_map.mp ho
  have hoff := eqOffs_range hx
  have hbank := bankOff_range bank
  exact ⟨hp, by omega, by omega⟩

theorem mem_bankRegs {n : Lane} {bank o : Nat} (h : o ∈ eqOffs) : (pPacer n, bankOff bank + o) ∈ bankRegs n bank :=
  mem_regsOf.mpr ⟨rfl, List.mem_map_of_mem h⟩

theorem DevKept.putSet {ex ev : List (Nat × Nat)} {d h c : Dev} (k : DevKept ex ev d h c) {n : Lane} {bank : Nat} {e : EqSet}
    (he : e.full) (hx : bankRegs n bank ⊆ ex) : DevKept ex ev d h (c.putSet n bank e) := by
  obtain ⟨hffe, hvolt, hmlse⟩ := he
  have hbank := bankOff_range bank
  have hmem : ∀ o ∈ eqOffs, (pPacer n, bankOff bank + o) ∈ ex := fun o ho => hx (mem_bankRegs ho)
  have kffe := k.wrs (p := pPacer n) (off := bankOff bank) (l := e.ffe)
    (fun i hi => hmem _ (mem_eqOffs.mpr (.inl ⟨i, by omega, rfl⟩))) (by omega) (by omega)
  have kvolt := kffe.wrs (p := pPacer n) (off := bankOff bank + 0x100) (l := e.volt)
    (fun i hi => Nat.add_assoc _ _ _ ▸ hmem _ (mem_eqOffs.mpr (.inr (.inl ⟨i, by omega, rfl⟩)))) (by omega) (by omega)
  exact kvolt.wrs (p := pPacer n) (off := bankOff bank + 0x140) (l := e.mlse)
    (fun i hi => Nat.add_assoc _ _ _ ▸ hmem _ (mem_eqOffs.mpr (.inr (.inr ⟨i, by omega, rfl⟩)))) (by omega) (by omega)

theorem Dev.putSet_ffe (d : Dev) (n : Lane) (bank : Nat) {e : EqSet} (he : e.full) {i : Nat} (hi : i < 64) :
    (d.putSet n bank e).rd (pPacer n) (bankOff bank + 4 * i) = e.ffe.getD i 0 := by
  obtain ⟨hffe, -, -⟩ := he
  have hbank := bankOff_range bank
  rw [Dev.putSet, Dev.wrs_rd_before (by unfold regKey; omega), Dev.wrs_rd_before (by unfold regKey; omega),
    Dev.wrs_rd_at _ (by omega) (by omega)]

theorem Dev.putSet_volt (d : Dev) (n : Lane) (bank : Nat) {e : EqSet} (he : e.full) {i : Nat} (hi : i < 15) :
    (d.putSet n bank e).rd (pPacer n) (bankOff bank + 0x100 + 4 * i) = e.volt.getD i 0 := by
  obtain ⟨-, hvolt, -⟩ := he
  have hbank := bankOff_range bank
  rw [Dev.putSet, Dev.wrs_rd_before (by unfold regKey; omega), Dev.wrs_rd_at _ (by omega) (by omega)]

theorem Dev.putSet_mlse (d : Dev) (n : Lane) (bank : Nat) {e : EqSet} (he : e.full) {i : Nat} (hi : i < 64) :
    (d.putSet n bank e).rd (pPacer n) (bankOff bank + 0x140 + 4 * i) = e.mlse.getD i 0 := by
  obtain ⟨-, -, hmlse⟩ := he
  have hbank := bankOff_range bank
  rw [Dev.putSet, Dev.wrs_rd_at _ (by omega) (by omega)]

/-- Words in a row that read as a list are that list. -/
theorem Dev.rds_eq {d : Dev} {p off : Nat} {l : List Word} (h : ∀ i < l.length, d.rd p (off + 4 * i) = l.getD i 0) :
    d.rds p off l.length = l := by
  refine List.ext_getElem (d.rds_length ..) fun i h1 h2 => ?_
  rw [← List.getD_eq_getElem _ 0, ← List.getD_eq_getElem _ 0, Dev.rds_getD d h2, h i h2]

/-- A bank holds the set that is written into it (R103). -/
theorem Dev.getSet_putSet (d : Dev) (n : Lane) (bank : Nat) {e : EqSet} (he : e.full) : (d.putSet n bank e).getSet n bank = e := by
  obtain ⟨hffe, hvolt, hmlse⟩ := id he
  have hf := Dev.rds_eq (d := d.putSet n bank e) (p := pPacer n) (l := e.ffe) fun i hi => d.putSet_ffe n bank he (hffe ▸ hi)
  have hv := Dev.rds_eq (d := d.putSet n bank e) (p := pPacer n) (l := e.volt) fun i hi => d.putSet_volt n bank he (hvolt ▸ hi)
  have hm := Dev.rds_eq (d := d.putSet n bank e) (p := pPacer n) (l := e.mlse) fun i hi => d.putSet_mlse n bank he (hmlse ▸ hi)
  rw [hffe] at hf
  rw [hvolt] at hv
  rw [hmlse] at hm
  rw [Dev.getSet, hf, hv, hm]

theorem Dev.getSet_congr {d e : Dev} {n : Lane} {bank : Nat} (h : ∀ o ∈ eqOffs,
    d.rd (pPacer n) (bankOff bank + o) = e.rd (pPacer n) (bankOff bank + o)) : d.getSet n bank = e.getSet n bank := by
  have hoff : ∀ k i, k + 4 * i ∈ eqOffs → d.rd (pPacer n) (bankOff bank + k + 4 * i) = e.rd (pPacer n) (bankOff bank + k + 4 * i) :=
    fun k i hk => by rw [Nat.add_assoc]; exact h _ hk
  unfold Dev.getSet
  congr 1
  · exact Dev.rds_congr fun i hi => h _ (mem_eqOffs.mpr (.inl ⟨i, hi, rfl⟩))
  · exact Dev.rds_congr fun i hi => hoff _ i (mem_eqOffs.mpr (.inr (.inl ⟨i, hi, rfl⟩)))
  · exact Dev.rds_congr fun i hi => hoff _ i (mem_eqOffs.mpr (.inr (.inr ⟨i, hi, rfl⟩)))

theorem Settled.getSet {e t : Dev} (h : Settled e t) (n : Lane) (bank : Nat) : t.getSet n bank = e.getSet n bank := by
  have hbank := bankOff_range bank
  refine Dev.getSet_congr fun o ho => ?_
  have hoff := eqOffs_range ho
  exact h.rd _ _ (by omega) (by omega)

/-! The target of a pace change -/

/-- The FFE tap of the target: a tap that stays keeps its value, one that returns takes it from PARK, one that goes is 0 (R106, R107). -/
def Dev.targetTap (d : Dev) (n : Lane) (level i : Nat) : Word :=
  if tapOn level (d.pc n).main i then
    (if tapOn (d.g (pPacer n) fPaceLive) (d.pc n).main i then d.rd (pPacer n) (bankOff (d.liveBank n) + 4 * i)
     else d.rd (pPacer n) (0xC00 + 4 * i))
  else if tapOn (d.g (pPacer n) fPaceLive) (d.pc n).main i then 0 else d.rd (pPacer n) (bankOff (d.liveBank n) + 4 * i)

/-- A pace target is a set in the inactive bank, and PARK is written anew (R106, R107, R109). -/
theorem Dev.buildTarget_writes (d : Dev) (n : Lane) (level : Nat) : ∃ (e : EqSet) (pf pv : List Word),
    e.full ∧ (∀ i < 64, e.ffe.getD i 0 = d.targetTap n level i) ∧ pf.length = 64 ∧ pv.length = 15 ∧
    d.buildTarget n level = ((d.putSet n (1 - d.liveBank n) e).wrs (pPacer n) 0xC00 pf).wrs (pPacer n) 0xD00 pv := by
  refine ⟨_, _, _, ⟨?ffe, ?volt, ?mlse⟩, ?taps, ?pf, ?pv, rfl⟩
  case mlse =>
    dsimp only
    split_ifs
    · simp [mlseTo4]
    · simp [mlseTo16]
    · exact d.rds_length ..
  case taps =>
    intro i hi
    have hlive : (d.getSet n (d.liveBank n)).ffe.getD i 0 = d.rd (pPacer n) (bankOff (d.liveBank n) + 4 * i) := d.rds_getD hi
    rw [Dev.targetTap, ← hlive]
    simp [hi]
  all_goals simp

/-- The registers that a pace target takes: the inactive bank and PARK. -/
abbrev targetRegs (n : Lane) (bank : Nat) : List (Nat × Nat) :=
  bankRegs n bank ++ regsOf (pPacer n) (regRun 0xC00 64) ++ regsOf (pPacer n) (regRun 0xD00 15)

theorem DevKept.buildTarget {ex ev : List (Nat × Nat)} {d h c : Dev} (k : DevKept ex ev d h c) {n : Lane}
    (hx : targetRegs n (1 - c.liveBank n) ⊆ ex) (level : Nat) : DevKept ex ev d h (c.buildTarget n level) := by
  obtain ⟨e, pf, pv, he, -, hpf, hpv, hb⟩ := c.buildTarget_writes n level
  have hbank : bankRegs n (1 - c.liveBank n) ⊆ ex := fun x hm => hx (List.mem_append_left _ (List.mem_append_left _ hm))
  have hrun : ∀ off len i, i < len → regsOf (pPacer n) (regRun off len) ⊆ ex → (pPacer n, off + 4 * i) ∈ ex :=
    fun off len i hi hs => hs (mem_regsOf.mpr ⟨rfl, mem_regRun.mpr ⟨i, hi, rfl⟩⟩)
  rw [hb]
  refine ((k.putSet he hbank).wrs (fun i hi => hrun 0xC00 64 i (hpf ▸ hi) fun x hm => hx ?_) (by omega) (by decide)).wrs
    (fun i hi => hrun 0xD00 15 i (hpv ▸ hi) fun x hm => hx ?_) (by omega) (by decide)
  · exact List.mem_append_left _ (List.mem_append_right _ hm)
  · exact List.mem_append_right _ hm

theorem Dev.buildTarget_tap (d : Dev) (n : Lane) (level : Nat) {i : Nat} (hi : i < 64) :
    (d.buildTarget n level).rd (pPacer n) (bankOff (1 - d.liveBank n) + 4 * i) = d.targetTap n level i := by
  obtain ⟨e, pf, pv, he, htaps, -, -, hb⟩ := d.buildTarget_writes n level
  have hbank := bankOff_range (1 - d.liveBank n)
  rw [hb, Dev.wrs_rd_before (by unfold regKey; omega), Dev.wrs_rd_before (by unfold regKey; omega), d.putSet_ffe n _ he hi, htaps i hi]

end Sys2Proof.Machine
end

section
/-! The Handoff (O17, R103, R104, R106, R107, R113). -/

open Sys2Proof Sys2Proof.Machine

namespace Sys2Proof.Machine

/-! The start -/

/-- The device at step 1 of a Handoff, with the zone exponent taken (R103). -/
def Dev.fadeBegun (d : Dev) (n : Lane) (f : Fade) : Dev :=
  ((d.updPacer n fun h => { h with fade := some f, zone := d.g (pPacer n) fZoneExp }).sb (pPacer n) fPcFade true).s (pPacer n)
    fHandoffStep 1

theorem DevKept.fadeBegun {ex ev : List (Nat × Nat)} {d h e : Dev} (k : DevKept ex ev d h e) {n : Lane} (h44 : (pPacer n, 0x044) ∈ ex)
    (f : Fade) : DevKept ex ev d (h.updPacer n fun x => { x with fade := some f, zone := e.g (pPacer n) fZoneExp }) (e.fadeBegun n f) :=
  ((k.updPacer n fun x => { x with fade := some f, zone := e.g (pPacer n) fZoneExp }).sb (f := fPcFade) true h44).s (f := fHandoffStep)
    1 h44

theorem Dev.fadeBegun_reads (d : Dev) (n : Lane) (f : Fade) : (d.fadeBegun n f).b (pPacer n) fPcFade = true ∧
    (d.fadeBegun n f).g (pPacer n) fHandoffStep = 1 ∧ (d.fadeBegun n f).g (pPacer n) fLiveBank = d.g (pPacer n) fLiveBank := by
  refine ⟨?_, ?_, ?_⟩
  · exact (Dev.b_s_apart (by decide) ..).trans (Dev.b_sb_same _ _ _ _ (by decide) rfl)
  · exact Dev.g_s_same _ _ _ _ (by decide)
  · exact (Dev.g_s_apart (by decide) ..).trans (Dev.g_s_apart (by decide) ..)

theorem Dev.handoffStart_swap {d : Dev} {n : Lane} (hv : d.laneValid n = true) (hf : (d.pc n).fade = none) (hq : (d.pc n).req = true) :
    d.handoffStart n = (d.updPacer n fun h => { h with req := false }).fadeBegun n .swap := by
  simp only [Dev.handoffStart, hv, hf, hq, Bool.not_true, Option.isSome_none, Bool.or_self, Bool.false_eq_true, if_false, if_true]
  rfl

theorem Dev.handoffStart_pace {d : Dev} {n : Lane} {l : Nat} (hv : d.laneValid n = true) (hf : (d.pc n).fade = none)
    (hq : (d.pc n).req = false) (hp : (d.pc n).pace = some ⟨.waiting true, l⟩) :
    d.handoffStart n = ((d.buildTarget n l).updPacer n fun h => { h with pace := some ⟨.fading, l⟩ }).fadeBegun n .pace := by
  simp only [Dev.handoffStart, hv, hf, hq, hp, Bool.not_true, Option.isSome_none, Bool.or_self, Bool.false_eq_true, if_false]
  rfl

/-! The end -/

/-- The device once the bank roles have changed, but for the event (R103, R113). -/
def Dev.rolesChanged (d : Dev) (n : Lane) : Dev :=
  ((((d.s (pPacer n) fLiveBank (1 - d.liveBank n)).sb (pPacer n) fPcFade false).s (pPacer n) fHandoffStep 0).inc (pPacer n)
    0x08C).updPacer n fun h => { h with fade := none }

/-- A swap ends, but for a deferred one (R104). -/
def Dev.swapEnded (d : Dev) (n : Lane) : Dev := (d.rolesChanged n).raise (pPacer n) 2

/-- A swap ends at its step 16, and a deferred one follows (R104). -/
theorem Dev.handoffDone_swap {d : Dev} {n : Lane} (hf : (d.pc n).fade = some .swap) (hs : d.g (pPacer n) fHandoffStep = 16) :
    d.handoffDone n = (d.swapEnded n).startDeferred n := by
  simp only [Dev.handoffDone, hf, hs, bne_self_eq_false, Bool.false_eq_true, if_false]
  rfl

/-- What a device shows at the end of a swap: `d` before it, `e` after. -/
structure SwapEnded (d e : Dev) (n : Lane) : Prop where
  bank : e.g (pPacer n) fLiveBank = 1 - d.g (pPacer n) fLiveBank
  fade : e.b (pPacer n) fPcFade = false
  step : e.g (pPacer n) fHandoffStep = 0
  count : e.rd (pPacer n) 0x08C = d.rd (pPacer n) 0x08C + 1
  event : e.evt (pPacer n) 2 = true

section
variable {ex ev : List (Nat × Nat)} {d h e : Dev} {n : Lane}

theorem Dev.rd_updPacer (d : Dev) (n : Lane) (f : PacerH → PacerH) (q o : Nat) : (d.updPacer n f).rd q o = d.rd q o := rfl

theorem Dev.rolesChanged_reads (d : Dev) (n : Lane) : (d.rolesChanged n).g (pPacer n) fLiveBank = 1 - d.g (pPacer n) fLiveBank ∧
    (d.rolesChanged n).b (pPacer n) fPcFade = false ∧ (d.rolesChanged n).g (pPacer n) fHandoffStep = 0 := by
  have hinc : ∀ (e : Dev) (f : Fld), f.off = 0x044 → (e.inc (pPacer n) 0x08C).g (pPacer n) f = e.g (pPacer n) f := fun e f hf =>
    Dev.g_congr (e.rd_wr_off (by decide) (by omega) (by omega) _)
  rw [Dev.b, Dev.rolesChanged]
  simp only [Dev.g_updPacer, hinc _ fLiveBank rfl, hinc _ fPcFade rfl, hinc _ fHandoffStep rfl]
  simp (disch := decide) only [Dev.sb, Dev.g_s_apart, Dev.g_s_same]
  refine ⟨Nat.mod_eq_of_lt ?_, by decide, by decide⟩
  exact Nat.lt_of_le_of_lt (Nat.sub_le _ _) (by decide)

theorem Dev.rolesChanged_count (d : Dev) (n : Lane) : (d.rolesChanged n).rd (pPacer n) 0x08C = d.rd (pPacer n) 0x08C + 1 := by
  have hkept : DevKept [(pPacer n, 0x044)] [] d d
      (((d.s (pPacer n) fLiveBank (1 - d.liveBank n)).sb (pPacer n) fPcFade false).s (pPacer n) fHandoffStep 0) :=
    (((DevKept.refl d).s (f := fLiveBank) _ (by simp [fLiveBank])).sb (f := fPcFade) _ (by simp [fPcFade])).s (f := fHandoffStep) _
      (by simp [fHandoffStep])
  rw [Dev.rolesChanged, Dev.rd_updPacer, Dev.inc, Dev.rd_wr_same, hkept.regs (pPacer n) 0x08C (by decide) (by decide) (by simp)]

theorem Dev.swapEnded_reads (hp : d.powered (pPacer n) = true) : SwapEnded d (d.swapEnded n) n := by
  obtain ⟨hbank, hfade, hstep⟩ := d.rolesChanged_reads n
  have hcount := d.rolesChanged_count n
  have hpow : (d.rolesChanged n).powered (pPacer n) = true := hp
  rw [Dev.swapEnded]
  generalize d.rolesChanged n = c at *
  exact ⟨(c.g_raise _ _ _ fLiveBank).trans hbank, (c.b_raise _ _ _ fPcFade).trans hfade, (c.g_raise _ _ _ fHandoffStep).trans hstep,
    (c.rd_raise _ _ _ _).trans hcount, Dev.raise_pacer_evt hpow (by decide)⟩

theorem DevKept.swapEnded (k : DevKept ex ev d h e) (h44 : (pPacer n, 0x044) ∈ ex) (h8C : (pPacer n, 0x08C) ∈ ex)
    (h2 : (pPacer n, 2) ∈ ev) : DevKept ex ev d (h.updPacer n fun x => { x with fade := none }) (e.swapEnded n) :=
  (((((k.s (f := fLiveBank) _ h44).sb (f := fPcFade) false h44).s (f := fHandoffStep) 0 h44).wr _ h8C).updPacer n _).raise h2

theorem Dev.swapEnded_pc (d : Dev) (n : Lane) : (d.swapEnded n).pc n = { d.pc n with fade := none } := by
  have k := (DevKept.refl (ex := [(pPacer n, 0x044), (pPacer n, 0x08C)]) (ev := [(pPacer n, 2)]) d).swapEnded (n := n) (by simp)
    (by simp) (by simp)
  rw [k.pc, Dev.pc_updPacer_same]

theorem SwapEnded.settled {t : Dev} (a : SwapEnded d e n) (hset : Settled e t) : SwapEnded d t n :=
  ⟨(hset.g _ fLiveBank).trans a.bank, (hset.b _ fPcFade).trans a.fade, (hset.g _ fHandoffStep).trans a.step,
    (hset.rd _ _ (by decide) (by decide)).trans a.count, (hset.evt _ _ (pacer_ne_referee n)).trans a.event⟩

/-- The device with a deferred candidate on its way: it enters the inactive bank and is requested (R104). -/
def Dev.deferredTaken (d : Dev) (n : Lane) (c : EqSet) : Dev :=
  ((d.dropPending n).putSet n (1 - d.liveBank n) c).updPacer n fun h => { h with req := true }

/-- A deferred candidate starts where nothing is in its way (R104, R110). -/
theorem Dev.startDeferred_candidate {c : EqSet} (hb : (d.pc n).busy = false) (hp : (d.pc n).pend = some (.candidate c)) :
    d.startDeferred n = d.deferredTaken n c := by
  have hbank : (d.dropPending n).liveBank n = d.liveBank n := Dev.g_s_apart (f := fLiveBank) (g := fPcSwapPending) (by decide) ..
  unfold PacerH.busy at hb
  rw [Dev.startDeferred, Dev.swapBusy, hb, hp, Dev.deferredTaken, ← hbank]
  rfl

theorem DevKept.deferredTaken (k : DevKept ex ev d h e) {c : EqSet} (hc : c.full) (h44 : (pPacer n, 0x044) ∈ ex)
    (hx : bankRegs n (1 - e.liveBank n) ⊆ ex) :
    DevKept ex ev d (h.updPacer n fun x => { x with pend := none, req := true }) (e.deferredTaken n c) := by
  have ktaken := ((k.dropPending h44).putSet hc hx).updPacer n fun x => { x with req := true }
  rw [Dev.updPacer_updPacer] at ktaken
  exact ktaken

/-- Before the banks, a deferred candidate that starts shows in STATUS.swap_pending only. -/
theorem Dev.deferredTaken_g {f : Fld} (hf : f.apart fPcSwapPending) (ho : f.off < 0x400) (d : Dev) (n : Lane) (c : EqSet) :
    (d.deferredTaken n c).g (pPacer n) f = d.g (pPacer n) f :=
  (Dev.g_congr (Dev.putSet_rd_before _ (Nat.le_refl _) ho c)).trans (Dev.g_s_apart hf ..)

theorem Dev.deferredTaken_rd (d : Dev) (n : Lane) (c : EqSet) {o : Nat} (ho : o < 0x400) (h : o ≠ 0x044) :
    (d.deferredTaken n c).rd (pPacer n) o = d.rd (pPacer n) o :=
  (Dev.putSet_rd_before _ (Nat.le_refl _) ho c).trans (Dev.rd_s_off _ fPcSwapPending _ (by decide) (by omega) h)

theorem SwapEnded.deferredTaken (a : SwapEnded d e n) (c : EqSet) : SwapEnded d (e.deferredTaken n c) n where
  bank := (Dev.deferredTaken_g (by decide) (by decide) ..).trans a.bank
  fade := (congrArg (· == 1) (Dev.deferredTaken_g (f := fPcFade) (by decide) (by decide) ..)).trans a.fade
  step := (Dev.deferredTaken_g (by decide) (by decide) ..).trans a.step
  count := (e.deferredTaken_rd n c (by decide) (by decide)).trans a.count
  event := (congrArg (·.getLsbD 2) (e.deferredTaken_rd n c (o := 0x010) (by decide) (by decide))).trans a.event

end

/-! The commands -/

section
variable {s : State} {n : Lane}

/-- HANDOFF_START of a requested swap. -/
theorem handoffStart_swaps (hc : s.calm) (hr : s.dev.runs (pPacer n)) (hv : s.dev.laneValid n = true) (hf : (s.dev.pc n).fade = none)
    (hq : (s.dev.pc n).req = true) : Yields (exec (.handoffStart n) s) fun t =>
      t.dev.b (pPacer n) fPcFade = true ∧
      t.dev.g (pPacer n) fHandoffStep = 1 ∧
      t.dev.g (pPacer n) fLiveBank = s.dev.g (pPacer n) fLiveBank ∧
      Kept s t (s.dev.updPacer n fun h => { h with fade := some .swap, req := false, zone := s.dev.g (pPacer n) fZoneExp })
        [(pPacer n, 0x044)] [] := by
  have k := ((DevKept.refl (ex := [(pPacer n, 0x044)]) (ev := []) s.dev).updPacer n fun h => { h with req := false }).fadeBegun (n := n)
    (by simp) .swap
  rw [Dev.updPacer_updPacer] at k
  refine k.yieldsOn hc hr (Dev.handoffStart_swap hv hf hq) rfl (by simp [pTrial]) fun t hset kept => ?_
  obtain ⟨hfade, hstep, hbank⟩ := (s.dev.updPacer n fun h => { h with req := false }).fadeBegun_reads n .swap
  exact ⟨(hset.b _ fPcFade).trans hfade, (hset.g _ fHandoffStep).trans hstep, (hset.g _ fLiveBank).trans hbank, kept⟩

/-- No register of a pace target lies before the banks. -/
theorem targetRegs_range {n : Lane} {bank p o : Nat} (h : (p, o) ∈ targetRegs n bank) : p = pPacer n ∧ 0x400 ≤ o := by
  rcases List.mem_append.mp h with h | h
  · rcases List.mem_append.mp h with h | h
    · exact ⟨(bankRegs_range h).1, (bankRegs_range h).2.1⟩
    · obtain ⟨i, -, hi⟩ := mem_regRun.mp (mem_regsOf.mp h).2
      exact ⟨(mem_regsOf.mp h).1, by omega⟩
  · obtain ⟨i, -, hi⟩ := mem_regRun.mp (mem_regsOf.mp h).2
    exact ⟨(mem_regsOf.mp h).1, by omega⟩

/-- HANDOFF_START of a pace change whose units are ready. -/
theorem handoffStart_paces {l : Nat} (hc : s.calm) (hr : s.dev.runs (pPacer n)) (hv : s.dev.laneValid n = true)
    (hf : (s.dev.pc n).fade = none) (hq : (s.dev.pc n).req = false) (hp : (s.dev.pc n).pace = some ⟨.waiting true, l⟩) :
    Yields (exec (.handoffStart n) s) fun t =>
      t.dev.b (pPacer n) fPcFade = true ∧
      t.dev.g (pPacer n) fHandoffStep = 1 ∧
      (∀ i, i < 64 → t.dev.rd (pPacer n) (bankOff (1 - s.dev.liveBank n) + 4 * i) = s.dev.targetTap n l i) ∧
      Kept s t (s.dev.updPacer n fun h => { h with fade := some .pace, zone := s.dev.g (pPacer n) fZoneExp, pace := some ⟨.fading, l⟩ })
        ((pPacer n, 0x044) :: targetRegs n (1 - s.dev.liveBank n)) [] := by
  have ktarget : DevKept (targetRegs n (1 - s.dev.liveBank n)) [] s.dev s.dev (s.dev.buildTarget n l) :=
    (DevKept.refl s.dev).buildTarget (List.Subset.refl _) l
  have hzone : (s.dev.buildTarget n l).g (pPacer n) fZoneExp = s.dev.g (pPacer n) fZoneExp :=
    ktarget.g fun hm => absurd (targetRegs_range hm).2 (by decide)
  have htap := fun i hi => s.dev.buildTarget_tap n l (i := i) hi
  have k := (((DevKept.refl (ex := (pPacer n, 0x044) :: targetRegs n (1 - s.dev.liveBank n)) (ev := []) s.dev).buildTarget (n := n)
    (List.subset_cons_self _ _) l).updPacer n fun h => { h with pace := some ⟨.fading, l⟩ }).fadeBegun (n := n) (by simp) .pace
  have hstart := Dev.handoffStart_pace hv hf hq hp
  rw [Dev.updPacer_updPacer, Dev.g_updPacer, hzone] at k
  generalize s.dev.buildTarget n l = e at *
  refine k.yieldsOn hc hr hstart rfl (fun hm => ?_) fun t hset kept => ?_
  · rcases List.mem_cons.mp hm with hm | hm
    · simp [pTrial] at hm
    · exact absurd (targetRegs_range hm).2 (by decide)
  · obtain ⟨hfade, hstep, -⟩ := (e.updPacer n fun h => { h with pace := some ⟨.fading, l⟩ }).fadeBegun_reads n .pace
    refine ⟨(hset.b _ fPcFade).trans hfade, (hset.g _ fHandoffStep).trans hstep, fun i hi => ?_, kept⟩
    have hbank := bankOff_range (1 - s.dev.liveBank n)
    have kbegun := ((DevKept.refl (ex := [(pPacer n, 0x044)]) (ev := []) e).updPacer n fun h =>
      { h with pace := some ⟨.fading, l⟩ }).fadeBegun (n := n) (by simp) .pace
    rw [← htap i hi]
    exact (hset.rd _ _ (by omega) (by omega)).trans (kbegun.regs _ _ (by omega) (by omega) (by simp; omega))

/-- HANDOFF_STEP before step 16. -/
theorem handoffStep_steps (hc : s.calm) (hr : s.dev.runs (pPacer n)) (hf : (s.dev.pc n).fade.isSome = true)
    (hs : s.dev.g (pPacer n) fHandoffStep < 16) : Yields (exec (.handoffStep n) s) fun t =>
      t.dev.g (pPacer n) fHandoffStep = s.dev.g (pPacer n) fHandoffStep + 1 ∧ Kept s t s.dev [(pPacer n, 0x044)] [] := by
  have hstep : s.dev.handoffStep n = s.dev.s (pPacer n) fHandoffStep (s.dev.g (pPacer n) fHandoffStep + 1) := if_pos ⟨hf, hs⟩
  have k := (DevKept.refl (ex := [(pPacer n, 0x044)]) (ev := []) s.dev).s (p := pPacer n) (f := fHandoffStep)
    (s.dev.g (pPacer n) fHandoffStep + 1) (by simp [fHandoffStep])
  refine k.yieldsOn hc hr hstep rfl (by simp [pTrial]) fun t hset kept => ⟨?_, kept⟩
  refine (hset.g _ fHandoffStep).trans ((Dev.g_s_same _ _ _ _ (by decide)).trans (Nat.mod_eq_of_lt ?_))
  exact Nat.lt_of_le_of_lt hs (by decide)

/-- HANDOFF_DONE of a swap with none deferred. -/
theorem handoffDone_last (hc : s.calm) (hr : s.dev.runs (pPacer n)) (hf : (s.dev.pc n).fade = some .swap)
    (hs : s.dev.g (pPacer n) fHandoffStep = 16) (hp : (s.dev.pc n).pend = none) : Yields (exec (.handoffDone n) s) fun t =>
      SwapEnded s.dev t.dev n ∧
      Kept s t (s.dev.updPacer n fun h => { h with fade := none }) [(pPacer n, 0x044), (pPacer n, 0x08C)] [(pPacer n, 2)] := by
  have hpend : ((s.dev.swapEnded n).pc n).pend = none := by rw [Dev.swapEnded_pc]; exact hp
  have k := (DevKept.refl (ex := [(pPacer n, 0x044), (pPacer n, 0x08C)]) (ev := [(pPacer n, 2)]) s.dev).swapEnded (n := n) (by simp)
    (by simp) (by simp)
  exact k.yieldsOn hc hr ((Dev.handoffDone_swap hf hs).trans (Dev.startDeferred_none hpend)) rfl (by simp [pTrial])
    fun t hset kept => ⟨(Dev.swapEnded_reads hr.powered).settled hset, kept⟩

/-- The registers that the end of a swap and a deferred candidate change. -/
abbrev swapRegs (n : Lane) (bank : Nat) : List (Nat × Nat) := regsOf (pPacer n) ([0x044, 0x08C] ++ eqOffs.map (bankOff bank + ·))

theorem bankRegs_subset_swapRegs (n : Lane) (bank : Nat) : bankRegs n bank ⊆ swapRegs n bank := fun q hq => by
  obtain ⟨hp, ho⟩ := mem_regsOf.mp hq
  exact mem_regsOf.mpr ⟨hp, List.mem_append_right _ ho⟩

theorem not_trial_swapRegs (n : Lane) (bank : Nat) : (pTrial, 0x048) ∉ swapRegs n bank := fun hm => by
  have hp := (mem_regsOf.mp hm).1
  unfold pTrial pPacer at hp
  omega

/-- HANDOFF_DONE of a swap with a deferred candidate. -/
theorem handoffDone_follows {c : EqSet} (hc : s.calm) (hr : s.dev.runs (pPacer n)) (hf : (s.dev.pc n).fade = some .swap)
    (hs : s.dev.g (pPacer n) fHandoffStep = 16) (hp : (s.dev.pc n).pend = some (.candidate c)) (hq : (s.dev.pc n).req = false)
    (hpace : (s.dev.pc n).pace = none) (hfull : c.full) : Yields (exec (.handoffDone n) s) fun t =>
      SwapEnded s.dev t.dev n ∧
      t.dev.b (pPacer n) fPcSwapPending = false ∧
      t.dev.getSet n (s.dev.liveBank n) = c ∧
      Kept s t (s.dev.updPacer n fun h => { h with fade := none, pend := none, req := true }) (swapRegs n (s.dev.liveBank n))
        [(pPacer n, 2)] := by
  have hreads := Dev.swapEnded_reads (n := n) hr.powered
  have hpc := s.dev.swapEnded_pc n
  have k := (DevKept.refl (ex := swapRegs n (s.dev.liveBank n)) (ev := [(pPacer n, 2)]) s.dev).swapEnded (n := n)
    (mem_regsOf.mpr ⟨rfl, by simp⟩) (mem_regsOf.mpr ⟨rfl, by simp⟩) (by simp)
  have hdone := Dev.handoffDone_swap hf hs
  generalize s.dev.swapEnded n = e at *
  have hbit : s.dev.liveBank n < 2 := s.dev.g_lt _ fLiveBank
  have hother : 1 - e.liveBank n = s.dev.liveBank n := by
    have hbank : e.liveBank n = 1 - s.dev.liveBank n := hreads.bank
    omega
  have hbusy : (e.pc n).busy = false := by rw [hpc]; simp [PacerH.busy, hq, hpace]
  have hpend : (e.pc n).pend = some (.candidate c) := by rw [hpc]; exact hp
  have ktaken := k.deferredTaken (n := n) hfull (mem_regsOf.mpr ⟨rfl, by simp⟩) (hother.symm ▸ bankRegs_subset_swapRegs n _)
  rw [Dev.updPacer_updPacer] at ktaken
  refine ktaken.yieldsOn hc hr (hdone.trans (Dev.startDeferred_candidate hbusy hpend)) rfl (not_trial_swapRegs n _)
    fun t hset kept => ⟨(hreads.deferredTaken c).settled hset, ?_, ?_, kept⟩
  · have hcleared : (e.dropPending n).b (pPacer n) fPcSwapPending = false := Dev.b_sb_same _ _ _ _ (by decide) rfl
    have hkept : (e.deferredTaken n c).b (pPacer n) fPcSwapPending = (e.dropPending n).b (pPacer n) fPcSwapPending :=
      Dev.b_congr (Dev.putSet_rd_before _ (Nat.le_refl _) (by decide) c)
    exact (hset.b _ fPcSwapPending).trans (hkept.trans hcleared)
  · rw [hset.getSet, ← hother]
    exact Dev.getSet_putSet _ _ _ hfull

end

/-- Settles O17: HANDOFF_START by what begins, HANDOFF_DONE by the end of the swap (`SwapEnded`), on which a deferred candidate
follows. -/
theorem handoffMovesTheBanks : Obligations.HandoffMovesTheBanks := by
  refine ⟨?swap, ?pace, ?step, ?last, ?deferred⟩
  case swap => exact fun s n => handoffStart_swaps
  case pace =>
    intro s n l hc hr hv hf hq hp
    obtain ⟨t, ht, hfade, hstep, htaps, kept⟩ := handoffStart_paces hc hr hv hf hq hp
    exact ⟨t, ht, hfade, hstep, htaps, kept.mono (by simp [regsOf]) (List.Subset.refl _)⟩
  case step => exact fun s n => handoffStep_steps
  case last =>
    intro s n hc hr hf hs hp
    obtain ⟨t, ht, ⟨hbank, hfade, hstep, hcount, hevt⟩, kept⟩ := handoffDone_last hc hr hf hs hp
    exact ⟨t, ht, hbank, hfade, hstep, hcount, hevt, kept⟩
  case deferred =>
    intro s n c hc hr hf hs hp hq hpace hfull
    obtain ⟨t, ht, ⟨hbank, hfade, -, hcount, hevt⟩, hpend, hset, kept⟩ := handoffDone_follows hc hr hf hs hp hq hpace hfull
    exact ⟨t, ht, hbank, hfade, hpend, hcount, hevt, hset, kept⟩

end Sys2Proof.Machine
end

section
/-! The Pacer's cycle (O16). -/

open Sys2Proof Sys2Proof.Machine

namespace Sys2Proof.Machine

/-- Line lane 0 in RUN, while Squad 8 waits for the end of the Pacer's cycle to take back the 8 engines it has lent to PACER0: its LEND
asks for no loan any more (R221). -/
def enginesReturning : State := { State.reset with dev := { Dev.reset.s (pLrx 0) fLrxState stRun with
  life := .on, squad := Dev.reset.squad.set 8 { SquadH.reset with lent := some ⟨0, 8⟩, move := .returning } } }

/-- A block in which no level occurs: it fails the gate (R100). -/
def emptyBlock : Block := ⟨0, 0, 0, 0, 0, false, false, false, 0, 0, false, 0⟩

theorem exec_pacerCycle (n : Lane) (b : Block) (s : State) : exec (.pacerCycle n b) s =
    actOn (pPacer n) s fun d => (((if d.pacerCycles n then d.lendJoins n else d).pacerCycle n b).lendReturns n) := rfl

/-- The loan as the cycle leaves it. -/
theorem enginesReturning_returned {t : State} (h : exec (.pacerCycle 0 emptyBlock) enginesReturning = .next t) :
    (t.dev.sq 8).lent = none := by
  have hruns : enginesReturning.dev.running (pPacer 0) = true := by decide +kernel
  rw [exec_pacerCycle, actOn_on _ _ _ rfl hruns] at h
  rw [← Host.Outcome.next.inj h]
  decide +kernel

/-- Refutes O16: PACER_CYCLE also moves loans of engines. At its end the engines that a host Squad takes back return (R221,
`Dev.lendReturns`), which changes the hidden state of that Squad. The clause on a block that fails the gate says that the failure counts
and nothing else changes, and no hypothesis says that no loan is on its way. The other clauses play no part. -/
theorem not_pacerCycleAcceptsAndGates : ¬ Obligations.PacerCycleAcceptsAndGates := by
  rintro ⟨-, hfail, -⟩
  have hcalm : enginesReturning.calm := by decide +kernel
  have hruns : enginesReturning.dev.runs (pPacer 0) := by decide +kernel
  have hvalid : enginesReturning.dev.laneValid 0 = true := by decide +kernel
  have hgate : enginesReturning.dev.gatePasses 0 emptyBlock = false := by decide +kernel
  have hrun : (enginesReturning.dev.pc 0).failRun + 1 < enginesReturning.dev.g (pPacer 0) fFailN := by decide +kernel
  obtain ⟨t, ht, -, -, -, hkept⟩ := hfail enginesReturning 0 emptyBlock hcalm hruns hvalid hgate hrun
  have hsquad : t.dev.squad = enginesReturning.dev.squad := (congrArg Dev.squad hkept.hidden :)
  have hlent : (t.dev.sq 8).lent = some ⟨0, 8⟩ := by
    rw [Dev.sq, hsquad]
    decide +kernel
  exact absurd ((enginesReturning_returned ht).symm.trans hlent) nofun

end Sys2Proof.Machine
end

section
/-! The judgement of a temperature reading: what each sensor is taken for, and the hottest of them (R255 to R257). -/

open Sys2Proof Sys2Proof.Machine

namespace Sys2Proof.Machine

/-! Codes in two's complement -/

/-- A value of 12 bits in two's complement. -/
abbrev inRange12 (x : Int) : Prop := -2048 ≤ x ∧ x < 2048

theorem signed12_range (v : Nat) : inRange12 (signed 12 v) := by
  unfold signed inRange12
  split <;> omega

/-- A value of 12 bits reads back from its code. -/
theorem signed12_unsigned {x : Int} (h : inRange12 x) : signed 12 (unsigned 12 x) = x := by
  obtain ⟨hlo, hhi⟩ := h
  unfold signed unsigned
  split <;> omega

theorem Dev.g_s_unsigned (d : Dev) (p : Nat) (f : Fld) (x : Int) (hw : f.w = 12) (h : f.lo + f.w ≤ 32 := by decide) :
    (d.s p f (unsigned 12 x)).g p f = unsigned 12 x := by
  rw [Dev.g_s_same _ _ _ _ h, hw, Nat.mod_eq_of_lt (unsigned_lt 12 x)]

/-! Neighbours (R255) -/

theorem neighbours_lt : ∀ i < 24, ∀ j ∈ neighbours i, j < 24 := by decide

theorem neighbours_length : ∀ i < 24, 3 ≤ (neighbours i).length := by decide

/-! One sensor -/

/-- The reading of sensor `i`, in steps of 0.25 °C. -/
abbrev readingOf (raws : List (BitVec 12)) (i : Nat) : Int := signed 12 (raws.getD i 0).toNat

theorem readings_getD (raws : List (BitVec 12)) (i : Nat) : (raws.map fun x => signed 12 x.toNat).getD i 0 = readingOf raws i := by
  have h0 : signed 12 (0 : BitVec 12).toNat = 0 := by decide
  rw [readingOf, List.getD_eq_getElem?_getD, List.getD_eq_getElem?_getD, List.getElem?_map]
  cases raws[i]? with
  | none => exact h0.symm
  | some x => rfl

/-- A sensor deviates from the median of its neighbours by more than 8 °C (R256). -/
abbrev deviates (raws : List (BitVec 12)) (i : Nat) : Prop :=
  64 < (2 * readingOf raws i - median2 ((neighbours i).map (readingOf raws))).natAbs

/-- A sensor in OK with its reading. -/
def Sensor.sound (x : Int) : Sensor := ⟨snOk, 0, x, x, some x, false⟩

/-- Every sensor runs and is in OK, and none is to be cleared. -/
structure Dev.SensorsOk (d : Dev) : Prop where
  awake : d.g 0x02 fPowerState ≠ 2
  noClear : d.therm.clr = 0
  state : ∀ i < 24, d.g pTherm (fTempState i) = snOk

/-- The sensors as a reading leaves them (R256, R257). -/
def Dev.judged (d : Dev) (raws : List (BitVec 12)) : List Sensor :=
  sensorUse d.free ((List.range 24).map fun i => d.sensorJudge (raws.map fun x => signed 12 x.toNat) i)

section
variable {d : Dev} {raws : List (BitVec 12)} {i : Nat}

theorem Dev.SensorsOk.runs (h : d.SensorsOk) (i : Nat) : d.sensorRuns i = true := by
  simp [Dev.sensorRuns, h.awake]

theorem Dev.SensorsOk.before (h : d.SensorsOk) (hi : i < 24) : d.sensorBefore i = snOk := by
  simp [Dev.sensorBefore, h.runs, h.state i hi, snOk, snOff, snFailed]

theorem Dev.SensorsOk.checked (h : d.SensorsOk) (hi : i < 24) :
    (neighbours i).filter (fun j => d.sensorBefore j == snOk) = neighbours i :=
  List.filter_eq_self.mpr fun j hj => by rw [h.before (neighbours_lt i hi j hj)]; rfl

/-- Among sensors in OK the cross-check compares a reading with those of all neighbours. -/
theorem Dev.SensorsOk.judge (h : d.SensorsOk) (raws : List (BitVec 12)) (hi : i < 24) :
    d.sensorJudge (raws.map fun x => signed 12 x.toNat) i = if deviates raws i then
      ⟨if 3 ≤ d.therm.count.getD i 0 + 1 then snFailed else snSuspect, d.therm.count.getD i 0 + 1, readingOf raws i,
        (d.therm.lastOk.getD i none).getD (signed 12 (Config.sensorUsed (d.free + i)).toNat), d.therm.lastOk.getD i none, false⟩
    else Sensor.sound (readingOf raws i) := by
  have hlen := neighbours_length i hi
  have hbefore := h.before hi
  have hcheck := h.checked hi
  have hst := h.state i hi
  unfold Dev.sensorJudge
  simp only [hbefore, hcheck, hst, readings_getD, show ¬ (snOk = snOff) by decide, show ¬ (snOk = snFailed) by decide, false_and,
    if_false, if_neg (show ¬ (neighbours i).length < 2 by omega)]
  cases d.therm.lastOk.getD i none <;> rfl

theorem Dev.SensorsOk.judge_agrees (h : d.SensorsOk) (hi : i < 24) (ha : ¬ deviates raws i) :
    d.sensorJudge (raws.map fun x => signed 12 x.toNat) i = Sensor.sound (readingOf raws i) := by
  rw [h.judge raws hi, if_neg ha]

end

/-! Substitutes (R257) -/

/-- The used values of those of the sensors `ids` that are in OK. -/
def okUsed (l : List Sensor) (ids : List Nat) : List Int :=
  ids.filterMap fun j => match l[j]? with
    | some x => if x.state = snOk then some x.used else none
    | none => none

/-- A FAILED sensor with its substitute: from the hottest neighbour in OK, else from the hottest sensor in OK, else free. -/
def Sensor.substituted (x : Sensor) (free i : Nat) (near main : Option Int) : Sensor :=
  match near with
  | some u => { x with used := u + 12 }
  | none => match main with
    | some u => { x with used := u + 12 }
    | none => { x with used := signed 12 (Config.sensorUsed (free + 24 + i)).toNat }

theorem sensorUse_eq (free : Nat) (l : List Sensor) : sensorUse free l = (List.range 24).map fun i =>
    if (l.getD i ⟨snOff, 0, 0, 0, none, false⟩).state = snFailed then
      (l.getD i ⟨snOff, 0, 0, 0, none, false⟩).substituted free i (maxInt (okUsed l (neighbours i))) (maxInt (okUsed l mainSensors))
    else l.getD i ⟨snOff, 0, 0, 0, none, false⟩ := rfl

theorem sensorUse_getElem? (free : Nat) (l : List Sensor) {i : Nat} {x : Sensor} (hi : i < 24) (hx : l[i]? = some x) :
    (sensorUse free l)[i]? = some (if x.state = snFailed then
      x.substituted free i (maxInt (okUsed l (neighbours i))) (maxInt (okUsed l mainSensors)) else x) := by
  have hd : l.getD i ⟨snOff, 0, 0, 0, none, false⟩ = x := by rw [List.getD_eq_getElem?_getD, hx]; rfl
  rw [sensorUse_eq, List.getElem?_map, List.getElem?_range hi, Option.map_some, hd]

/-- Of a FAILED sensor its used value only is a substitute. -/
theorem Sensor.substituted_eq (x : Sensor) (free i : Nat) (near main : Option Int) :
    x.substituted free i near main = { x with used := (x.substituted free i near main).used } := by
  unfold Sensor.substituted
  split
  · rfl
  · split <;> rfl

theorem maxInt_eq_max? (l : List Int) : maxInt l = l.max? := by
  cases l <;> rfl

/-- The greatest of some values is one of them, and none is greater. -/
theorem maxInt_spec {l : List Int} (h : l ≠ []) : ∃ u ∈ l, maxInt l = some u ∧ ∀ x ∈ l, x ≤ u := by
  obtain ⟨u, hu⟩ := Option.isSome_iff_exists.mp (List.isSome_max?_of_ne_nil h)
  obtain ⟨hmem, hle⟩ := List.max?_eq_some_iff.mp hu
  exact ⟨u, hmem, (maxInt_eq_max? l).trans hu, hle⟩

/-! A reading of all sensors -/

section
variable {d : Dev} {raws : List (BitVec 12)}

theorem judged_getElem? {i : Nat} (hi : i < 24) : ((List.range 24).map fun i => d.sensorJudge (raws.map fun x => signed 12 x.toNat) i)[i]? =
    some (d.sensorJudge (raws.map fun x => signed 12 x.toNat) i) := by
  rw [List.getElem?_map, List.getElem?_range hi, Option.map_some]

theorem Dev.judged_length (d : Dev) (raws : List (BitVec 12)) : (d.judged raws).length = 24 := by
  rw [Dev.judged, sensorUse_eq, List.length_map, List.length_range]

/-- Where no sensor deviates, all are sound. -/
theorem Dev.SensorsOk.judged_sound (h : d.SensorsOk) (ha : ∀ i < 24, ¬ deviates raws i) :
    d.judged raws = (List.range 24).map fun i => Sensor.sound (readingOf raws i) := by
  refine List.ext_getElem? fun i => ?_
  by_cases hi : i < 24
  · rw [Dev.judged, sensorUse_getElem? _ _ hi (judged_getElem? hi), h.judge_agrees hi (ha i hi), List.getElem?_map,
      List.getElem?_range hi]
    rfl
  · rw [List.getElem?_eq_none (by rw [Dev.judged_length]; omega), List.getElem?_eq_none (by simp; omega)]

/-- A sensor that deviates for the first or the second time is SUSPECT (R256). -/
theorem Dev.SensorsOk.judged_suspect {j : Nat} (h : d.SensorsOk) (hj : j < 24) (hd : deviates raws j) (hc : d.therm.count.getD j 0 < 2) :
    (d.judged raws)[j]? = some ⟨snSuspect, d.therm.count.getD j 0 + 1, readingOf raws j,
      (d.therm.lastOk.getD j none).getD (signed 12 (Config.sensorUsed (d.free + j)).toNat), d.therm.lastOk.getD j none, false⟩ := by
  have hstate : (if 3 ≤ d.therm.count.getD j 0 + 1 then snFailed else snSuspect) = snSuspect := if_neg (by omega)
  rw [Dev.judged, sensorUse_getElem? _ _ hj (judged_getElem? hj), h.judge raws hj, if_pos hd, hstate]
  rfl

/-- A sensor that deviates for the third time is FAILED, and its hottest neighbour in OK gives its used value (R256, R257). -/
theorem Dev.SensorsOk.judged_failed {j : Nat} (h : d.SensorsOk) (hj : j < 24) (hd : deviates raws j) (hc : d.therm.count.getD j 0 = 2)
    (hn : ∀ i ∈ neighbours j, ¬ deviates raws i) : ∃ i ∈ neighbours j, (∀ k ∈ neighbours j, readingOf raws k ≤ readingOf raws i) ∧
      (d.judged raws)[j]? = some ⟨snFailed, 3, readingOf raws j, readingOf raws i + 12, d.therm.lastOk.getD j none, false⟩ := by
  have hok : okUsed ((List.range 24).map fun i => d.sensorJudge (raws.map fun x => signed 12 x.toNat) i) (neighbours j) =
      (neighbours j).map (readingOf raws) := by
    rw [okUsed, List.filterMap_congr (g := fun i => some (readingOf raws i)) fun i hi => ?_]
    · exact congrFun List.filterMap_eq_map _
    · have hlt := neighbours_lt j hj i hi
      simp only [judged_getElem? hlt, h.judge_agrees hlt (hn i hi)]
      rfl
  have hne : (neighbours j).map (readingOf raws) ≠ [] := fun e => by
    have := neighbours_length j hj
    rw [List.map_eq_nil_iff.mp e] at this
    simp at this
  obtain ⟨u, hu, hmax, hle⟩ := maxInt_spec hne
  obtain ⟨i, hi, rfl⟩ := List.mem_map.mp hu
  refine ⟨i, hi, fun k hk => hle _ (List.mem_map_of_mem hk), ?_⟩
  rw [Dev.judged, sensorUse_getElem? _ _ hj (judged_getElem? hj), h.judge raws hj, if_pos hd, hc, hok, hmax]
  rfl

end

end Sys2Proof.Machine
end

section
/-! What a temperature reading writes: the sensors' registers, the hottest of them, the interlock windows and the events (R256 to R258,
R264). -/

open Sys2Proof Sys2Proof.Machine

namespace Sys2Proof.Machine

/-! The registers of the sensors -/

/-- A sensor that the list of a reading does not hold. -/
abbrev noSensor : Sensor := ⟨snOff, 0, 0, 0, none, false⟩

/-- A sensor enters its TEMP register. -/
def Dev.sensorShown (d : Dev) (i : Nat) (x : Sensor) : Dev :=
  ((d.s pTherm (fTempState i) x.state).s pTherm (fTempUsed i) (unsigned 12 x.used)).s pTherm (fTempRaw i) (unsigned 12 x.raw)

/-- The first `n` sensors enter their registers. -/
def Dev.sensorsShown (d : Dev) (l : List Sensor) (n : Nat) : Dev :=
  (List.range n).foldl (fun d i => d.sensorShown i (l.getD i noSensor)) d

/-- The maps of the FAILED, SUSPECT and unchecked sensors. -/
def Dev.mapsShown (d : Dev) (l : List Sensor) : Dev :=
  ((d.wr pTherm 0x050 (sensorMap (·.state == snFailed) l)).wr pTherm 0x054 (sensorMap (·.state == snSuspect) l)).wr pTherm 0x058
    (sensorMap (·.unchecked) l)

/-- The hotter of a sensor and those before it. -/
def hotter (m : Option (Nat × Int)) (x : Nat × Int) : Option (Nat × Int) :=
  match m with
  | none => some x
  | some y => if y.2 < x.2 then some x else m

/-- The hottest of some sensors, with its number. -/
def hottestOf (l : List (Nat × Int)) : Nat × Int := (l.foldl hotter none).getD (0, 0)

theorem Dev.sensorStore_eq (d : Dev) (l : List Sensor) : d.sensorStore l =
    (((d.sensorsShown l 24).mapsShown l).s pTherm fHottest (unsigned 12 (hottestOf (usedOf mainSensors l)).2)).s pTherm fHotIdx
      (hottestOf (usedOf mainSensors l)).1 := rfl

/-- Register TEMP of sensor `i` shows the sensor `x`. -/
structure TempShows (e : Dev) (i : Nat) (x : Sensor) : Prop where
  state : e.g pTherm (fTempState i) = x.state
  used : e.g pTherm (fTempUsed i) = unsigned 12 x.used
  raw : e.g pTherm (fTempRaw i) = unsigned 12 x.raw

theorem TempShows.congr {d e : Dev} {i : Nat} {x : Sensor} (a : TempShows d i x)
    (h : e.rd pTherm (0x080 + 4 * i) = d.rd pTherm (0x080 + 4 * i)) : TempShows e i x :=
  ⟨(Dev.g_congr h).trans a.state, (Dev.g_congr h).trans a.used, (Dev.g_congr h).trans a.raw⟩

theorem tempFields_apart : ∀ i < 24, (fTempState i).apart (fTempUsed i) ∧ (fTempState i).apart (fTempRaw i) ∧
    (fTempUsed i).apart (fTempRaw i) := by decide

theorem Dev.sensorShown_shows (d : Dev) {i : Nat} (hi : i < 24) {x : Sensor} (hx : x.state < 4) : TempShows (d.sensorShown i x) i x := by
  obtain ⟨hsu, hsr, hur⟩ := tempFields_apart i hi
  refine ⟨?_, ?_, ?_⟩
  · rw [Dev.sensorShown, Dev.g_s_apart hsr, Dev.g_s_apart hsu, Dev.g_s_same _ _ (fTempState i) _ (Nat.le_refl 32)]
    exact Nat.mod_eq_of_lt hx
  · rw [Dev.sensorShown, Dev.g_s_apart hur, Dev.g_s_unsigned _ _ (fTempUsed i) _ rfl (by simp [fTempUsed])]
  · rw [Dev.sensorShown, Dev.g_s_unsigned _ _ (fTempRaw i) _ rfl (by simp [fTempRaw])]

section
variable {ex ev : List (Nat × Nat)} {d h e : Dev}

theorem DevKept.sensorShown (k : DevKept ex ev d h e) {i : Nat} (hi : i < 24) (hx : (pTherm, 0x080 + 4 * i) ∈ ex) (x : Sensor) :
    DevKept ex ev d h (e.sensorShown i x) :=
  ((k.s (f := fTempState i) _ hx (by simp only [fTempState]; omega) (by simp only [fTempState]; omega)).s (f := fTempUsed i) _ hx
    (by simp only [fTempUsed]; omega) (by simp only [fTempUsed]; omega)).s (f := fTempRaw i) _ hx (by simp only [fTempRaw]; omega)
    (by simp only [fTempRaw]; omega)

theorem DevKept.sensorsShown (k : DevKept ex ev d h e) {n : Nat} (hn : n ≤ 24) (hx : ∀ i < n, (pTherm, 0x080 + 4 * i) ∈ ex)
    (l : List Sensor) : DevKept ex ev d h (e.sensorsShown l n) :=
  DevKept.foldl (fun _ i hi ke => ke.sensorShown (Nat.lt_of_lt_of_le (List.mem_range.mp hi) hn) (hx i (List.mem_range.mp hi)) _) k

theorem Dev.sensorsShown_succ (d : Dev) (l : List Sensor) (n : Nat) :
    d.sensorsShown l (n + 1) = (d.sensorsShown l n).sensorShown n (l.getD n noSensor) := by
  rw [Dev.sensorsShown, List.range_succ, List.foldl_append]
  rfl

theorem Dev.sensorsShown_shows (d : Dev) {l : List Sensor} (hl : ∀ x ∈ l, x.state < 4) {n : Nat} (hn : n ≤ 24) :
    ∀ i < n, TempShows (d.sensorsShown l n) i (l.getD i noSensor) := by
  have hstate : ∀ i, (l.getD i noSensor).state < 4 := fun i => by
    rw [List.getD_eq_getElem?_getD]
    cases hx : l[i]? with
    | none => decide
    | some x => exact hl x (List.mem_of_getElem? hx)
  induction n with
  | zero => exact fun i hi => absurd hi (by omega)
  | succ n ih =>
    intro i hi
    rw [Dev.sensorsShown_succ]
    rcases Nat.lt_succ_iff_lt_or_eq.mp hi with hlt | rfl
    · have k := (DevKept.refl (ev := []) (d.sensorsShown l n)).sensorShown (i := n) (by omega) (List.mem_singleton_self _)
        (l.getD n noSensor)
      exact (ih (by omega) i hlt).congr (k.regs _ _ (by omega) (by omega) (by simp; omega))
    · exact Dev.sensorShown_shows _ (by omega) (hstate i)

/-! A reading as a whole -/

/-- The hidden state of the sensors as a reading leaves it. -/
def ThermH.read (x : ThermH) (l : List Sensor) : ThermH :=
  { x with count := l.map Sensor.count, lastOk := l.map Sensor.lastOk, clr := 0, reads := x.reads + 1 }

/-- A reading enters the hidden state: it has taken its 48 free values. -/
def Dev.thermRead (d : Dev) (l : List Sensor) : Dev := { d with free := d.free + 48, therm := d.therm.read l }

/-- A reading entered, but for the events. -/
def Dev.readingStored (d : Dev) (l : List Sensor) : Dev := (d.sensorStore l).thermRead l

/-- No sensor of 0 to 22 is in OK. -/
def allFailed (l : List Sensor) : Bool := !(mainSensors.any fun i => (l[i]?.map (·.state)) == some snOk)

/-- The events of a reading: a sensor became SUSPECT, FAILED or unchecked, or all of 0 to 22 failed (R256, R257, R273). -/
def Dev.readingTold (e : Dev) (sus fail unchk all was : Bool) : Dev :=
  ((((e.raiseIf sus pTherm 0).raiseIf fail pTherm 1).raiseIf unchk pTherm 2).sb pTherm fAllFailed all).raiseIf (all && !was) pTherm 8

/-- The device with a reading entered and told. -/
def Dev.readingEntered (d : Dev) (l : List Sensor) : Dev :=
  (d.readingStored l).readingTold (!(d.entered l snSuspect).isEmpty) (!(d.entered l snFailed).isEmpty)
    (sensorMap (·.unchecked) l &&& ~~~ d.rd pTherm 0x058 != 0) (allFailed l) (d.b pTherm fAllFailed)

/-- The interlock windows of flash and OTP (R264). -/
def Dev.windowsShown (e : Dev) (l : List Sensor) : Dev :=
  (e.sb pTherm fFlashOk (windowOpen ((usedOf mainSensors l).map (·.2)) (allFailed l) 0 95)).sb pTherm fOtpOk
    (windowOpen ((usedOf mainSensors l).map (·.2)) (allFailed l) 10 85)

/-- What follows a reading that is entered: Pace control, the trip and the windows; `bad` has entered SUSPECT or FAILED (R259 to R264). -/
def Dev.readingFollowed (e : Dev) (l : List Sensor) (bad : List Nat) : Dev :=
  ((e.when e.coachUp (·.paceControl l (allFailed l) bad)).tripJudge l (allFailed l)).windowsShown l

/-- A reading of sensors judged to be `l`, with sensors 0 to 22 running or not. -/
def Dev.readingOn (d : Dev) (l : List Sensor) (main : Bool) : Dev :=
  let bad := d.entered l snSuspect ++ d.entered l snFailed
  let all := main && allFailed l
  let e := (d.readingStored l).readingTold (!(d.entered l snSuspect).isEmpty) (!(d.entered l snFailed).isEmpty)
    (sensorMap (·.unchecked) l &&& ~~~ d.rd pTherm 0x058 != 0) all (d.b pTherm fAllFailed)
  let e := (e.when (main && e.coachUp) (·.paceControl l all bad)).tripJudge l (all || !main)
  (e.sb pTherm fFlashOk (windowOpen ((usedOf mainSensors l).map (·.2)) all 0 95)).sb pTherm fOtpOk
    (windowOpen ((usedOf mainSensors l).map (·.2)) all 10 85)

theorem Dev.readingOn_main (d : Dev) (l : List Sensor) : d.readingOn l true =
    (d.readingEntered l).readingFollowed l (d.entered l snSuspect ++ d.entered l snFailed) := by
  simp only [Dev.readingOn, Bool.true_and, Bool.not_true, Bool.or_false]
  rfl

/-- Outside DOZE a reading enters, then Pace control, the trip and the windows follow it (R255 to R264). -/
theorem Dev.reading_eq {d : Dev} (hs : d.sensorRuns 0 = true) (raws : List (BitVec 12)) : d.reading raws =
    (d.readingEntered (d.judged raws)).readingFollowed (d.judged raws)
      (d.entered (d.judged raws) snSuspect ++ d.entered (d.judged raws) snFailed) := by
  have hon : d.reading raws = d.readingOn (d.judged raws) (d.sensorRuns 0) := by
    unfold Dev.reading Dev.readingOn
    delta Dev.readingStored Dev.thermRead Dev.readingTold allFailed
    rfl
  rw [hon, hs, Dev.readingOn_main]

/-- The registers that a reading enters. -/
abbrev readingRegs : List (Nat × Nat) := regsOf pTherm (regRun 0x080 24 ++ [0x048, 0x050, 0x054, 0x058, 0x060])

theorem mem_readingRegs_temp {i : Nat} (hi : i < 24) : (pTherm, 0x080 + 4 * i) ∈ readingRegs :=
  mem_regsOf.mpr ⟨rfl, List.mem_append_left _ (mem_regRun.mpr ⟨i, hi, rfl⟩)⟩

theorem mem_readingRegs {o : Nat} (h : o ∈ [0x048, 0x050, 0x054, 0x058, 0x060]) : (pTherm, o) ∈ readingRegs :=
  mem_regsOf.mpr ⟨rfl, List.mem_append_right _ h⟩

theorem DevKept.sensorStore (k : DevKept ex ev d h e) (hx : readingRegs ⊆ ex) (l : List Sensor) : DevKept ex ev d h (e.sensorStore l) := by
  have hreg : ∀ o ∈ [0x048, 0x050, 0x054, 0x058, 0x060], (pTherm, o) ∈ ex := fun o ho => hx (mem_readingRegs ho)
  have kmaps := (((k.sensorsShown (Nat.le_refl 24) (fun i hi => hx (mem_readingRegs_temp hi)) l).wr (off := 0x050)
    (sensorMap (·.state == snFailed) l) (hreg _ (by simp))).wr (off := 0x054) (sensorMap (·.state == snSuspect) l)
    (hreg _ (by simp))).wr (off := 0x058) (sensorMap (·.unchecked) l) (hreg _ (by simp))
  exact (kmaps.s (f := fHottest) _ (hreg _ (by simp [fHottest]))).s (f := fHotIdx) _ (hreg _ (by simp [fHotIdx]))

theorem DevKept.therm (k : DevKept ex ev d h e) : e.therm = h.therm := (congrArg Dev.therm k.hidden :)

theorem DevKept.free (k : DevKept ex ev d h e) : e.free = h.free := (congrArg Dev.free k.hidden :)

theorem DevKept.thermRead (k : DevKept ex ev d h e) (l : List Sensor) : DevKept ex ev d (h.thermRead l) (e.thermRead l) := by
  refine ⟨k.regs, k.events, ?_⟩
  rw [Dev.thermRead, k.free, k.therm]
  exact congrArg (fun x : Dev => { x with free := h.free + 48, therm := h.therm.read l }) k.hidden

theorem DevKept.readingStored (k : DevKept ex ev d h e) (hx : readingRegs ⊆ ex) (l : List Sensor) :
    DevKept ex ev d (h.thermRead l) (e.readingStored l) := (k.sensorStore hx l).thermRead l

theorem DevKept.readingTold (k : DevKept ex ev d h e) (hx : (pTherm, 0x048) ∈ ex) (hv : ∀ x ∈ [0, 1, 2, 8], (pTherm, x) ∈ ev)
    (sus fail unchk all was : Bool) : DevKept ex ev d h (e.readingTold sus fail unchk all was) :=
  ((((k.raiseIf sus (hv 0 (by simp))).raiseIf fail (hv 1 (by simp))).raiseIf unchk (hv 2 (by simp))).sb (f := fAllFailed) all hx).raiseIf
    _ (hv 8 (by simp))

theorem DevKept.windowsShown (k : DevKept ex ev d h e) (hx : (pTherm, 0x060) ∈ ex) (l : List Sensor) :
    DevKept ex ev d h (e.windowsShown l) := (k.sb (f := fFlashOk) _ hx).sb (f := fOtpOk) _ hx

theorem Dev.windowsShown_reads (e : Dev) (l : List Sensor) :
    (e.windowsShown l).b pTherm fFlashOk = windowOpen ((usedOf mainSensors l).map (·.2)) (allFailed l) 0 95 ∧
    (e.windowsShown l).b pTherm fOtpOk = windowOpen ((usedOf mainSensors l).map (·.2)) (allFailed l) 10 85 := by
  refine ⟨?_, Dev.b_sb_same _ _ _ _ (by decide) rfl⟩
  rw [Dev.windowsShown, Dev.b, Dev.sb, Dev.g_s_apart (by decide)]
  exact Dev.b_sb_same _ _ _ _ (by decide) rfl

end

end Sys2Proof.Machine
end

section
/-! What the registers show of a temperature reading (R256 to R258). -/

open Sys2Proof Sys2Proof.Machine

namespace Sys2Proof.Machine

/-! Maps of sensors -/

/-- The map of the sensors of `ids`, set beside the bits of `w`. -/
theorem sensorMap_foldl (p : Sensor → Bool) (l : List Sensor) (j : Nat) (ids : List Nat) (w : Word) :
    (ids.foldl (fun w i => if (l[i]?.map p).getD false then w ||| BitVec.twoPow 32 i else w) w).getLsbD j =
      (w.getLsbD j || (decide (j < 32 ∧ j ∈ ids) && (l[j]?.map p).getD false)) := by
  induction ids generalizing w with
  | nil => simp
  | cons i ids ih =>
    rw [List.foldl_cons, ih]
    by_cases hij : i = j
    · subst hij
      by_cases hp : (l[i]?.map p).getD false = true
      · by_cases hi : i < 32 <;> simp [hp, hi, BitVec.getLsbD_twoPow]
      · simp [hp]
    · have hbit : (if (l[i]?.map p).getD false then w ||| BitVec.twoPow 32 i else w).getLsbD j = w.getLsbD j := by
        split
        · simp [BitVec.getLsbD_twoPow, hij]
        · rfl
      simp [hbit, Ne.symm hij]

/-- A bit of a map is set where its sensor is in the state. -/
theorem sensorMap_bit {p : Sensor → Bool} {l : List Sensor} {j : Nat} {x : Sensor} (hj : j < 24) (hx : l[j]? = some x) :
    (sensorMap p l).getLsbD j = p x := by
  rw [sensorMap, sensorMap_foldl, hx]
  simp [hj, show j < 32 by omega]

theorem sensorMap_none {p : Sensor → Bool} {l : List Sensor} (h : ∀ x ∈ l, p x = false) : sensorMap p l = 0 := by
  refine BitVec.eq_of_getLsbD_eq fun j _ => ?_
  rw [sensorMap, sensorMap_foldl]
  have hp : (l[j]?.map p).getD false = false := by
    cases hx : l[j]? with
    | none => rfl
    | some x => exact h x (List.mem_of_getElem? hx)
  simp [hp]

/-! The registers of a reading -/

/-- A reading of the sensors `l` stands in the registers of `e`. -/
structure Dev.Shows (e : Dev) (l : List Sensor) : Prop where
  temp : ∀ i < 24, TempShows e i (l.getD i noSensor)
  failed : e.rd pTherm 0x050 = sensorMap (·.state == snFailed) l
  suspect : e.rd pTherm 0x054 = sensorMap (·.state == snSuspect) l
  unchecked : e.rd pTherm 0x058 = sensorMap (·.unchecked) l
  all : e.b pTherm fAllFailed = allFailed l
  hottest : e.g pTherm fHottest = unsigned 12 (hottestOf (usedOf mainSensors l)).2
  hotIdx : e.g pTherm fHotIdx = (hottestOf (usedOf mainSensors l)).1 % 2 ^ fHotIdx.w
  count : e.therm.count = l.map Sensor.count
  lastOk : e.therm.lastOk = l.map Sensor.lastOk

/-- What a reading enters stays from `d` to `e`, but for the windows. -/
structure SensorsKept (d e : Dev) : Prop where
  regs : ∀ o ∈ regRun 0x080 24 ++ [0x050, 0x054, 0x058], e.rd pTherm o = d.rd pTherm o
  fields : ∀ f ∈ [fAllFailed, fHottest, fHotIdx], e.g pTherm f = d.g pTherm f
  count : e.therm.count = d.therm.count
  lastOk : e.therm.lastOk = d.therm.lastOk

namespace SensorsKept

variable {a b c : Dev}

theorem trans (h : SensorsKept a b) (k : SensorsKept b c) : SensorsKept a c :=
  ⟨fun o ho => (k.regs o ho).trans (h.regs o ho), fun f hf => (k.fields f hf).trans (h.fields f hf), k.count.trans h.count,
    k.lastOk.trans h.lastOk⟩

/-- Where no register of a reading is touched, the reading stays. -/
theorem of_rd (h : ∀ o, o < 4096 → o ≠ 0x010 → o ∉ [0x04C, 0x05C, 0x060, 0x064] → b.rd pTherm o = a.rd pTherm o)
    (hc : b.therm.count = a.therm.count) (hl : b.therm.lastOk = a.therm.lastOk) : SensorsKept a b := by
  have hregs : ∀ o ∈ regRun 0x080 24 ++ [0x050, 0x054, 0x058], o < 4096 ∧ o ≠ 0x010 ∧ o ∉ [0x04C, 0x05C, 0x060, 0x064] := by decide
  have hoff : ∀ f ∈ [fAllFailed, fHottest, fHotIdx], f.off = 0x048 := by decide
  refine ⟨fun o ho => ?_, fun f hf => Dev.g_congr ?_, hc, hl⟩
  · obtain ⟨hlt, hne, hother⟩ := hregs o ho
    exact h o hlt hne hother
  · rw [hoff f hf]
    exact h _ (by decide) (by decide) (by decide)

theorem refl (a : Dev) : SensorsKept a a := ⟨fun _ _ => rfl, fun _ _ => rfl, rfl, rfl⟩

/-- A field of THERM_STATUS beside those of a reading is set. -/
theorem sb (h : SensorsKept a b) {f : Fld} (ho : f.off = 0x048) (hf : ∀ x ∈ [fAllFailed, fHottest, fHotIdx], x.apart f) (v : Bool) :
    SensorsKept a (b.sb pTherm f v) := by
  have hne : ∀ o ∈ regRun 0x080 24 ++ [0x050, 0x054, 0x058], o < 4096 ∧ o ≠ 0x048 := by decide
  refine h.trans ⟨fun o hm => ?_, fun x hx => Dev.g_s_apart (hf x hx) .., rfl, rfl⟩
  exact Dev.rd_sb_ne _ (by omega) (hne o hm).1 (fun e => (hne o hm).2 ((congrArg Prod.snd e).trans ho)) _

end SensorsKept

theorem Dev.Shows.kept {d e : Dev} {l : List Sensor} (h : d.Shows l) (k : SensorsKept d e) : e.Shows l where
  temp i hi := (h.temp i hi).congr (k.regs _ (List.mem_append_left _ (mem_regRun.mpr ⟨i, hi, rfl⟩)))
  failed := (k.regs 0x050 (by decide)).trans h.failed
  suspect := (k.regs 0x054 (by decide)).trans h.suspect
  unchecked := (k.regs 0x058 (by decide)).trans h.unchecked
  all := (congrArg (· == 1) (k.fields fAllFailed (by decide))).trans h.all
  hottest := (k.fields fHottest (by decide)).trans h.hottest
  hotIdx := (k.fields fHotIdx (by decide)).trans h.hotIdx
  count := k.count.trans h.count
  lastOk := k.lastOk.trans h.lastOk

section
variable {d e : Dev} {l : List Sensor}

/-- The sensors of a reading stand in their registers once the maps and the hottest sensor are entered too. -/
theorem Dev.sensorStore_temp (d : Dev) (hl : ∀ x ∈ l, x.state < 4) {i : Nat} (hi : i < 24) :
    TempShows (d.sensorStore l) i (l.getD i noSensor) := by
  have hkept : DevKept (regsOf pTherm [0x048, 0x050, 0x054, 0x058]) [] (d.sensorsShown l 24) (d.sensorsShown l 24) (d.sensorStore l) := by
    rw [Dev.sensorStore_eq]
    exact (((((DevKept.refl _).wr _ (by decide)).wr _ (by decide)).wr _ (by decide)).s (f := fHottest) _ (by decide)).s (f := fHotIdx) _
      (by decide)
  refine (d.sensorsShown_shows hl (Nat.le_refl 24) i hi).congr (hkept.regs _ _ (by omega) (by omega) fun hm => ?_)
  have hoff := (mem_regsOf.mp hm).2
  simp only [List.mem_cons, List.not_mem_nil, or_false] at hoff
  omega

theorem Dev.mapsShown_reads (d : Dev) (l : List Sensor) : (d.mapsShown l).rd pTherm 0x050 = sensorMap (·.state == snFailed) l ∧
    (d.mapsShown l).rd pTherm 0x054 = sensorMap (·.state == snSuspect) l ∧
    (d.mapsShown l).rd pTherm 0x058 = sensorMap (·.unchecked) l := by
  unfold Dev.mapsShown
  refine ⟨?_, ?_, Dev.rd_wr_same ..⟩
  · rw [Dev.rd_wr_off _ (by decide) (by decide) (by decide), Dev.rd_wr_off _ (by decide) (by decide) (by decide), Dev.rd_wr_same]
  · rw [Dev.rd_wr_off _ (by decide) (by decide) (by decide), Dev.rd_wr_same]

theorem Dev.sensorStore_hottest (d : Dev) (l : List Sensor) :
    (d.sensorStore l).g pTherm fHottest = unsigned 12 (hottestOf (usedOf mainSensors l)).2 ∧
    (d.sensorStore l).g pTherm fHotIdx = (hottestOf (usedOf mainSensors l)).1 % 2 ^ fHotIdx.w := by
  rw [Dev.sensorStore_eq]
  exact ⟨(Dev.g_s_apart (by decide) ..).trans (Dev.g_s_unsigned _ _ _ _ rfl), Dev.g_s_same _ _ _ _ (by decide)⟩

theorem Dev.sensorStore_maps (d : Dev) (l : List Sensor) : (d.sensorStore l).rd pTherm 0x050 = sensorMap (·.state == snFailed) l ∧
    (d.sensorStore l).rd pTherm 0x054 = sensorMap (·.state == snSuspect) l ∧
    (d.sensorStore l).rd pTherm 0x058 = sensorMap (·.unchecked) l := by
  have hstatus : ∀ (e : Dev) (f : Fld) (v o : Nat), f.off = 0x048 → o < 4096 → o ≠ 0x048 → (e.s pTherm f v).rd pTherm o = e.rd pTherm o :=
    fun e f v o hf ho hne => Dev.rd_s_off e f v (by omega) ho (by omega)
  obtain ⟨hfail, hsus, hun⟩ := (d.sensorsShown l 24).mapsShown_reads l
  rw [Dev.sensorStore_eq]
  refine ⟨?_, ?_, ?_⟩
  · exact (hstatus _ _ _ _ rfl (by decide) (by decide)).trans ((hstatus _ _ _ _ rfl (by decide) (by decide)).trans hfail)
  · exact (hstatus _ _ _ _ rfl (by decide) (by decide)).trans ((hstatus _ _ _ _ rfl (by decide) (by decide)).trans hsus)
  · exact (hstatus _ _ _ _ rfl (by decide) (by decide)).trans ((hstatus _ _ _ _ rfl (by decide) (by decide)).trans hun)

/-! The events of a reading -/

theorem Dev.readingTold_rd (e : Dev) (sus fail unchk all was : Bool) {o : Nat} (ho : o < 4096) (hne : o ≠ 0x010) (h48 : o ≠ 0x048) :
    (e.readingTold sus fail unchk all was).rd pTherm o = e.rd pTherm o := by
  unfold Dev.readingTold
  rw [Dev.rd_raiseIf _ _ _ _ _ _ ho hne, Dev.rd_sb_ne _ (by decide) ho (fun e => h48 (congrArg Prod.snd e)),
    Dev.rd_raiseIf _ _ _ _ _ _ ho hne, Dev.rd_raiseIf _ _ _ _ _ _ ho hne, Dev.rd_raiseIf _ _ _ _ _ _ ho hne]

theorem Dev.readingTold_g (e : Dev) (sus fail unchk all was : Bool) {f : Fld} (ho : f.off = 0x048) (hf : f.apart fAllFailed) :
    (e.readingTold sus fail unchk all was).g pTherm f = e.g pTherm f := by
  have hraise : ∀ (d : Dev) (c : Bool) (x : Nat), (d.raiseIf c pTherm x).g pTherm f = d.g pTherm f := fun d c x =>
    Dev.g_congr (d.rd_raiseIf c _ _ _ _ (by omega) (by omega))
  unfold Dev.readingTold
  rw [hraise, Dev.sb, Dev.g_s_apart hf, hraise, hraise, hraise]

theorem Dev.readingTold_all (e : Dev) (sus fail unchk all was : Bool) :
    (e.readingTold sus fail unchk all was).b pTherm fAllFailed = all := by
  unfold Dev.readingTold
  exact (Dev.b_congr (Dev.rd_raiseIf _ _ _ _ _ _)).trans (Dev.b_sb_same _ _ _ _ (by decide) rfl)

/-- A sensor that becomes SUSPECT raises source 0, one that becomes FAILED source 1 (R256, R257). -/
theorem Dev.readingTold_events (h : e.Signals pTherm 9) (sus fail unchk all was : Bool) :
    (e.readingTold sus fail unchk all was).evt pTherm 0 = (e.evt pTherm 0 || sus) ∧
    (e.readingTold sus fail unchk all was).evt pTherm 1 = (e.evt pTherm 1 || fail) := by
  have h0 := h.congr (e.raiseIf_offPages sus pTherm 0)
  have h1 := h0.congr (Dev.raiseIf_offPages _ fail pTherm 1)
  have h2 := h1.congr (Dev.raiseIf_offPages _ unchk pTherm 2)
  have hsb : ∀ (d : Dev) (x : Nat), (d.sb pTherm fAllFailed all).evt pTherm x = d.evt pTherm x := fun d x => Dev.evt_wr d _ _ _
  unfold Dev.readingTold
  constructor
  · rw [(h2.congr (e := Dev.sb _ _ _ all) rfl).raiseIf_other (by decide), hsb, h1.raiseIf_other (by decide), h0.raiseIf_other (by decide),
      h.raiseIf (by decide)]
  · rw [(h2.congr (e := Dev.sb _ _ _ all) rfl).raiseIf_other (by decide), hsb, h1.raiseIf_other (by decide), h0.raiseIf (by decide),
      h.raiseIf_other (by decide)]

theorem Dev.readingTold_therm (e : Dev) (sus fail unchk all was : Bool) : (e.readingTold sus fail unchk all was).therm = e.therm := by
  unfold Dev.readingTold
  rw [(EvtFrame.raiseIf ..).therm]
  exact (EvtFrame.raiseIf ..).therm.trans ((EvtFrame.raiseIf ..).therm.trans (EvtFrame.raiseIf ..).therm)

/-- The events of a reading leave its registers alone, and all_failed is told with them. -/
theorem Dev.readingTold_shows {c : Dev} (htemp : ∀ i < 24, TempShows c i (l.getD i noSensor))
    (hfail : c.rd pTherm 0x050 = sensorMap (·.state == snFailed) l) (hsus : c.rd pTherm 0x054 = sensorMap (·.state == snSuspect) l)
    (hunchk : c.rd pTherm 0x058 = sensorMap (·.unchecked) l)
    (hhot : c.g pTherm fHottest = unsigned 12 (hottestOf (usedOf mainSensors l)).2)
    (hidx : c.g pTherm fHotIdx = (hottestOf (usedOf mainSensors l)).1 % 2 ^ fHotIdx.w)
    (hcount : c.therm.count = l.map Sensor.count) (hlast : c.therm.lastOk = l.map Sensor.lastOk) (sus fail unchk was : Bool) :
    (c.readingTold sus fail unchk (allFailed l) was).Shows l where
  temp i hi := (htemp i hi).congr (Dev.readingTold_rd _ _ _ _ _ _ (by omega) (by omega) (by omega))
  failed := (Dev.readingTold_rd _ _ _ _ _ _ (by decide) (by decide) (by decide)).trans hfail
  suspect := (Dev.readingTold_rd _ _ _ _ _ _ (by decide) (by decide) (by decide)).trans hsus
  unchecked := (Dev.readingTold_rd _ _ _ _ _ _ (by decide) (by decide) (by decide)).trans hunchk
  all := Dev.readingTold_all ..
  hottest := (Dev.readingTold_g _ _ _ _ _ _ rfl (by decide)).trans hhot
  hotIdx := (Dev.readingTold_g _ _ _ _ _ _ rfl (by decide)).trans hidx
  count := (congrArg ThermH.count (Dev.readingTold_therm ..)).trans hcount
  lastOk := (congrArg ThermH.lastOk (Dev.readingTold_therm ..)).trans hlast

theorem Dev.rd_thermRead (d : Dev) (l : List Sensor) (p o : Nat) : (d.thermRead l).rd p o = d.rd p o := rfl

theorem Dev.g_thermRead (d : Dev) (l : List Sensor) (p : Nat) (f : Fld) : (d.thermRead l).g p f = d.g p f := rfl

theorem Dev.thermRead_therm (d : Dev) (l : List Sensor) : (d.thermRead l).therm = d.therm.read l := rfl

/-- A reading that is entered stands in the registers. -/
theorem Dev.readingEntered_shows (d : Dev) (hl : ∀ x ∈ l, x.state < 4) : (d.readingEntered l).Shows l := by
  obtain ⟨hfail, hsus, hunchk⟩ := d.sensorStore_maps l
  obtain ⟨hhot, hidx⟩ := d.sensorStore_hottest l
  unfold Dev.readingEntered Dev.readingStored
  refine Dev.readingTold_shows (fun i hi => (d.sensorStore_temp hl hi).congr (Dev.rd_thermRead ..)) ?fail ?sus ?unchk ?hot ?idx ?count ?last
    _ _ _ _
  case fail => rw [Dev.rd_thermRead, hfail]
  case sus => rw [Dev.rd_thermRead, hsus]
  case unchk => rw [Dev.rd_thermRead, hunchk]
  case hot => rw [Dev.g_thermRead, hhot]
  case idx => rw [Dev.g_thermRead, hidx]
  case count => rw [Dev.thermRead_therm]; rfl
  case last => rw [Dev.thermRead_therm]; rfl

end

end Sys2Proof.Machine
end

section
/-! A temperature reading in which every sensor is sound (R256 to R258, R264). -/

open Sys2Proof Sys2Proof.Machine

namespace Sys2Proof.Machine

/-! The hottest of some sensors -/

/-- The hotter of a sensor and some others is one of them, and none is hotter. -/
theorem hotter_foldl (l : List (Nat × Int)) (x : Nat × Int) :
    ∃ y ∈ x :: l, l.foldl hotter (some x) = some y ∧ ∀ z ∈ x :: l, z.2 ≤ y.2 := by
  induction l generalizing x with
  | nil => exact ⟨x, List.mem_singleton_self x, rfl, fun z hz => by rw [List.mem_singleton.mp hz]⟩
  | cons a l ih =>
    by_cases ha : x.2 < a.2
    · obtain ⟨y, hy, hf, hle⟩ := ih a
      have hstep : hotter (some x) a = some a := if_pos ha
      refine ⟨y, List.mem_cons_of_mem x hy, by rw [List.foldl_cons, hstep, hf], fun z hz => ?_⟩
      rcases List.mem_cons.mp hz with rfl | hz
      · exact Int.le_of_lt (Int.lt_of_lt_of_le ha (hle a List.mem_cons_self))
      · exact hle z hz
    · obtain ⟨y, hy, hf, hle⟩ := ih x
      have hstep : hotter (some x) a = some x := if_neg ha
      have hx := hle x List.mem_cons_self
      refine ⟨y, ?_, by rw [List.foldl_cons, hstep, hf], fun z hz => ?_⟩
      · rcases List.mem_cons.mp hy with rfl | hy
        · exact List.mem_cons_self
        · exact List.mem_cons_of_mem _ (List.mem_cons_of_mem _ hy)
      · rcases List.mem_cons.mp hz with rfl | hz
        · exact hx
        · rcases List.mem_cons.mp hz with rfl | hz
          · omega
          · exact hle z (List.mem_cons_of_mem _ hz)

theorem hottestOf_spec {l : List (Nat × Int)} (h : l ≠ []) : hottestOf l ∈ l ∧ ∀ z ∈ l, z.2 ≤ (hottestOf l).2 := by
  cases l with
  | nil => exact absurd rfl h
  | cons x l =>
    obtain ⟨y, hy, hf, hle⟩ := hotter_foldl l x
    have hhot : hottestOf (x :: l) = y := congrArg (·.getD (0, 0)) hf
    rw [hhot]
    exact ⟨hy, hle⟩

/-! Sound sensors -/

/-- The sensors of a reading in which every one is sound. -/
def soundReading (raws : List (BitVec 12)) : List Sensor := (List.range 24).map fun i => Sensor.sound (readingOf raws i)

variable {raws : List (BitVec 12)}

theorem soundReading_getElem? {i : Nat} (hi : i < 24) : (soundReading raws)[i]? = some (Sensor.sound (readingOf raws i)) := by
  rw [soundReading, List.getElem?_map, List.getElem?_range hi, Option.map_some]

theorem soundReading_getD {i : Nat} (hi : i < 24) (x : Sensor) : (soundReading raws).getD i x = Sensor.sound (readingOf raws i) := by
  rw [List.getD_eq_getElem?_getD, soundReading_getElem? hi, Option.getD_some]

theorem mem_soundReading {x : Sensor} (h : x ∈ soundReading raws) : x.state = snOk ∧ x.unchecked = false := by
  obtain ⟨i, -, rfl⟩ := List.mem_map.mp h
  exact ⟨rfl, rfl⟩

theorem soundReading_map_none {p : Sensor → Bool} (h : ∀ x : Int, p (Sensor.sound x) = false) : sensorMap p (soundReading raws) = 0 := by
  refine sensorMap_none fun x hx => ?_
  obtain ⟨i, -, rfl⟩ := List.mem_map.mp hx
  exact h _

theorem allFailed_soundReading : allFailed (soundReading raws) = false := by
  rw [allFailed, Bool.not_eq_false', List.any_eq_true]
  exact ⟨0, by decide, by rw [soundReading_getElem? (by decide)]; rfl⟩

/-- No sensor enters another state than OK. -/
theorem Dev.entered_soundReading (d : Dev) {st : Nat} (h : st ≠ snOk) : d.entered (soundReading raws) st = [] := by
  refine List.filter_eq_nil_iff.mpr fun i hi => ?_
  rw [soundReading_getElem? (List.mem_range.mp hi)]
  have hne : ((some (Sensor.sound (readingOf raws i))).map (·.state) == some st) = false := beq_false_of_ne fun e =>
    h (Option.some.inj e).symm
  rw [hne]
  exact Bool.false_ne_true

theorem usedOf_soundReading {ids : List Nat} (h : ∀ i ∈ ids, i < 24) : usedOf ids (soundReading raws) =
    ids.map fun i => (i, readingOf raws i) := by
  rw [usedOf, List.filterMap_congr (g := fun i => some (i, readingOf raws i)) fun i hi => ?_]
  · exact congrFun List.filterMap_eq_map _
  · rw [soundReading_getElem? (h i hi)]
    rfl

theorem usedOf_main_soundReading : (usedOf mainSensors (soundReading raws)).map (·.2) = (List.range 23).map (readingOf raws) := by
  rw [usedOf_soundReading (by decide), List.map_map]
  rfl

theorem windowOpen_soundReading (lo hi : Int) :
    windowOpen ((usedOf mainSensors (soundReading raws)).map (·.2)) (allFailed (soundReading raws)) lo hi =
      (List.range 23).all fun i => decide (4 * lo ≤ readingOf raws i ∧ readingOf raws i ≤ 4 * hi) := by
  have hne : ((List.range 23).map (readingOf raws)).isEmpty = false := rfl
  rw [windowOpen, allFailed_soundReading, usedOf_main_soundReading, hne, List.all_map]
  rfl

/-! What the registers show of it -/

/-- The registers of THERMAL show a reading in which every sensor is sound, but for the windows. -/
structure Dev.AllSound (e : Dev) (raws : List (BitVec 12)) : Prop where
  temp : ∀ i < 24, e.g pTherm (fTempState i) = snOk ∧ e.g pTherm (fTempRaw i) = unsigned 12 (readingOf raws i) ∧
    e.g pTherm (fTempUsed i) = unsigned 12 (readingOf raws i)
  failed : e.rd pTherm 0x050 = 0
  suspect : e.rd pTherm 0x054 = 0
  unchecked : e.rd pTherm 0x058 = 0
  all : e.b pTherm fAllFailed = false
  hottest_ge : ∀ i < 23, readingOf raws i ≤ signed 12 (e.g pTherm fHottest)
  hottest : signed 12 (e.g pTherm fHottest) = readingOf raws (e.g pTherm fHotIdx)
  hotIdx : e.g pTherm fHotIdx < 23
  count : e.therm.count = List.replicate 24 0
  lastOk : e.therm.lastOk = (List.range 24).map fun i => some (readingOf raws i)

/-- The registers of the hottest sensor name one of sensors 0 to 22, and none is hotter (R258). -/
theorem Dev.Shows.hottest_sound {e : Dev} (h : e.Shows (soundReading raws)) :
    (∀ i < 23, readingOf raws i ≤ signed 12 (e.g pTherm fHottest)) ∧
    signed 12 (e.g pTherm fHottest) = readingOf raws (e.g pTherm fHotIdx) ∧ e.g pTherm fHotIdx < 23 := by
  have hused : usedOf mainSensors (soundReading raws) = (List.range 23).map fun i => (i, readingOf raws i) :=
    usedOf_soundReading (by decide)
  have hne : (List.range 23).map (fun i => (i, readingOf raws i)) ≠ [] := List.cons_ne_nil _ _
  obtain ⟨hmem, hle⟩ := hottestOf_spec hne
  have hhot := h.hottest
  have hidx := h.hotIdx
  rw [hused] at hhot hidx
  obtain ⟨j, hj, hpair⟩ := List.mem_map.mp hmem
  have hj23 := List.mem_range.mp hj
  rw [← hpair] at hhot hidx hle
  rw [hidx, Nat.mod_eq_of_lt (Nat.lt_trans hj23 (by decide)), hhot, signed12_unsigned (signed12_range _)]
  exact ⟨fun i hi => hle _ (List.mem_map_of_mem (List.mem_range.mpr hi)), rfl, hj23⟩

theorem Dev.Shows.allSound {e : Dev} (h : e.Shows (soundReading raws)) : e.AllSound raws := by
  obtain ⟨hge, hhot, hidx⟩ := h.hottest_sound
  have htemp : ∀ i < 24, TempShows e i (Sensor.sound (readingOf raws i)) := fun i hi => by
    have ht := h.temp i hi
    rwa [soundReading_getD hi] at ht
  exact {
    temp := fun i hi => ⟨(htemp i hi).state, (htemp i hi).raw, (htemp i hi).used⟩
    failed := h.failed.trans (soundReading_map_none fun _ => rfl)
    suspect := h.suspect.trans (soundReading_map_none fun _ => rfl)
    unchecked := h.unchecked.trans (soundReading_map_none fun _ => rfl)
    all := h.all.trans allFailed_soundReading
    hottest_ge := hge
    hottest := hhot
    hotIdx := hidx
    count := h.count.trans (by rw [soundReading, List.map_map]; rfl)
    lastOk := h.lastOk.trans (by rw [soundReading, List.map_map]; rfl) }

/-- A reading in which every sensor is sound tells no event. -/
theorem Dev.readingEntered_sound (d : Dev) :
    d.readingEntered (soundReading raws) = (d.readingStored (soundReading raws)).sb pTherm fAllFailed false := by
  have hmap : (sensorMap (·.unchecked) (soundReading raws) &&& ~~~ d.rd pTherm 0x058 != 0) = false := by
    rw [soundReading_map_none fun _ => rfl, show (0 : Word) = 0#32 from rfl, BitVec.zero_and]
    rfl
  rw [Dev.readingEntered, d.entered_soundReading (by decide), d.entered_soundReading (by decide), allFailed_soundReading, hmap]
  rfl

theorem DevKept.readingEntered_sound {ex ev : List (Nat × Nat)} (d : Dev) (hx : readingRegs ⊆ ex) :
    DevKept ex ev d (d.thermRead (soundReading raws)) (d.readingEntered (soundReading raws)) := by
  rw [Dev.readingEntered_sound]
  exact ((DevKept.refl d).readingStored hx _).sb (f := fAllFailed) false (hx (mem_readingRegs (by decide)))

/-- The windows of flash and OTP follow sound sensors (R264). -/
theorem Dev.windowsShown_sound (e : Dev) : ((e.windowsShown (soundReading raws)).b pTherm fFlashOk = (List.range 23).all fun i =>
      decide (0 ≤ readingOf raws i ∧ readingOf raws i ≤ 380)) ∧
    ((e.windowsShown (soundReading raws)).b pTherm fOtpOk = (List.range 23).all fun i =>
      decide (40 ≤ readingOf raws i ∧ readingOf raws i ≤ 340)) := by
  obtain ⟨hflash, hotp⟩ := e.windowsShown_reads (soundReading raws)
  exact ⟨hflash.trans (windowOpen_soundReading 0 95), hotp.trans (windowOpen_soundReading 10 85)⟩

end Sys2Proof.Machine
end

section
/-! The thermal trip (R262): what it sets, and the squelch of every line transmitter. -/

open Sys2Proof Sys2Proof.Machine

namespace Sys2Proof.Machine

/-! What is done to every lane -/

theorem foldl_lane {α : Type} {f : Lane → Dev → Dev} {π : Dev → α} {n : Lane} (h : ∀ m d, m ≠ n → π (f m d) = π d) {l : List Lane}
    (hl : n ∉ l) (d : Dev) : π (l.foldl (fun d m => f m d) d) = π d :=
  List.foldlRecOn (motive := fun c => π c = π d) l _ rfl fun c hc m hm => (h m c fun e => hl (e ▸ hm)).trans hc

/-- What the steps of other lanes leave alone at lane `n` is, after the steps of all lanes, as the step of lane `n` makes it. -/
theorem Dev.eachLane_at {α : Type} {f : Lane → Dev → Dev} {π : Dev → α} {n : Lane} (h : ∀ m d, m ≠ n → π (f m d) = π d) (d : Dev) :
    ∃ c, π c = π d ∧ π (d.eachLane f) = π (f n c) := by
  obtain ⟨pre, post, hsplit⟩ := List.append_of_mem (List.mem_finRange n)
  have hnodup : (pre ++ n :: post).Nodup := hsplit ▸ List.nodup_finRange 8
  have hpre : n ∉ pre := fun hm => (List.nodup_append.mp hnodup).2.2 n hm n List.mem_cons_self rfl
  have hpost : n ∉ post := (List.nodup_cons.mp (List.nodup_append.mp hnodup).2.1).1
  refine ⟨pre.foldl (fun d m => f m d) d, foldl_lane h hpre d, ?_⟩
  rw [Dev.eachLane, hsplit, List.foldl_append, List.foldl_cons]
  exact foldl_lane h hpost _

/-! The squelch of a line transmitter -/

/-- The thermal squelch sets (R128). -/
def Dev.thermalSquelched (d : Dev) (n : Lane) : Dev :=
  (((d.sb (pLtx n) (fSq sqThermal) true).updLtx n fun h => { h with ramping := false, ramp := 0 }).raise (pLtx n) 2).raiseIf
    (d.ltxDriven n) (pLtx n) 0

theorem Dev.ltxSq_thermal (d : Dev) (n : Lane) :
    d.ltxSq n sqThermal true = if d.b (pLtx n) (fSq sqThermal) = true then d else d.thermalSquelched n := rfl

/-- The registers and the events that the squelch of every line transmitter may take. -/
abbrev squelchRegs : List (Nat × Nat) := lanes.map fun n => (pLtx n, 0x044)

abbrev squelchEvents : List (Nat × Nat) := lanes.flatMap fun n => (List.range 8).map fun e => (pLtx n, e)

theorem mem_squelchRegs (n : Lane) : (pLtx n, 0x044) ∈ squelchRegs := List.mem_map_of_mem (List.mem_finRange n)

theorem mem_squelchEvents (n : Lane) {x : Nat} (hx : x < 8) : (pLtx n, x) ∈ squelchEvents :=
  List.mem_flatMap.mpr ⟨n, List.mem_finRange n, List.mem_map_of_mem (List.mem_range.mpr hx)⟩

section
variable {ex ev : List (Nat × Nat)} {d h e : Dev}

theorem DevKept.thermalSquelched {x : Vector LtxH 8} (k : DevKept ex ev d { h with ltx := x } e) (hx : squelchRegs ⊆ ex)
    (hv : squelchEvents ⊆ ev) (n : Lane) : ∃ y, DevKept ex ev d { h with ltx := y } (e.thermalSquelched n) :=
  ⟨_, (((k.sb (f := fSq sqThermal) true (hx (mem_squelchRegs n))).updLtx n _).raise (hv (mem_squelchEvents n (by decide)))).raiseIf _
    (hv (mem_squelchEvents n (by decide)))⟩

theorem DevKept.ltxSq_thermal {x : Vector LtxH 8} (k : DevKept ex ev d { h with ltx := x } e) (hx : squelchRegs ⊆ ex)
    (hv : squelchEvents ⊆ ev) (n : Lane) : ∃ y, DevKept ex ev d { h with ltx := y } (e.ltxSq n sqThermal true) := by
  rw [Dev.ltxSq_thermal]
  split
  · exact ⟨x, k⟩
  · exact k.thermalSquelched hx hv n

/-- The squelch of every line transmitter reaches them alone. -/
theorem DevKept.allSquelched (k : DevKept ex ev d h e) (hx : squelchRegs ⊆ ex) (hv : squelchEvents ⊆ ev) :
    ∃ y, DevKept ex ev d { h with ltx := y } (e.eachLane fun n d => d.ltxSq n sqThermal true) :=
  List.foldlRecOn (motive := fun c => ∃ y, DevKept ex ev d { h with ltx := y } c) _ _ ⟨h.ltx, k⟩ fun _ ⟨_, kc⟩ n _ =>
    kc.ltxSq_thermal hx hv n

theorem pLtx_inj {n m : Lane} (h : m ≠ n) : pLtx n ≠ pLtx m := fun e => h (Fin.ext (by unfold pLtx at e; omega))

/-- The thermal squelch of another lane leaves a line transmitter alone. -/
theorem Dev.ltxSq_thermal_other {n m : Lane} (h : m ≠ n) (c : Dev) :
    ((c.ltxSq m sqThermal true).b (pLtx n) (fSq sqThermal), (c.ltxSq m sqThermal true).tx n) =
      (c.b (pLtx n) (fSq sqThermal), c.tx n) := by
  rw [Dev.ltxSq_thermal]
  split
  · rfl
  · have hevt : ∀ (a b : Dev), EvtFrame a b → b.b (pLtx n) (fSq sqThermal) = a.b (pLtx n) (fSq sqThermal) ∧ b.tx n = a.tx n :=
      fun a b hf => ⟨Dev.b_congr (hf.rd _ _ (by decide) (by decide)), congrArg (·.get n) hf.ltx⟩
    obtain ⟨hb, ht⟩ := hevt _ _ ((EvtFrame.raise _ (pLtx m) 2 false).trans (EvtFrame.raiseIf _ (c.ltxDriven m) (pLtx m) 0))
    rw [Dev.thermalSquelched, hb, ht, Dev.tx_updLtx_other _ (Ne.symm h)]
    exact congrArg (·, c.tx n) (Dev.b_congr (Dev.rd_wr_page c (by decide) (by decide) (pLtx_inj h) _))

/-- The thermal squelch of a line transmitter sets its reason, and ends a ramp where the reason was clear (R128). -/
theorem Dev.ltxSq_thermal_same (c : Dev) (n : Lane) : (c.ltxSq n sqThermal true).b (pLtx n) (fSq sqThermal) = true ∧
    (c.b (pLtx n) (fSq sqThermal) = false → (c.ltxSq n sqThermal true).tx n = { c.tx n with ramping := false, ramp := 0 }) := by
  rw [Dev.ltxSq_thermal]
  split
  case isTrue hset => exact ⟨hset, fun hclear => absurd (hset.symm.trans hclear) nofun⟩
  case isFalse =>
    have hf := (EvtFrame.raise ((c.sb (pLtx n) (fSq sqThermal) true).updLtx n fun h => { h with ramping := false, ramp := 0 }) (pLtx n) 2
      false).trans (EvtFrame.raiseIf _ (c.ltxDriven n) (pLtx n) 0)
    refine ⟨(Dev.b_congr (hf.rd _ _ (by decide) (by decide))).trans (Dev.b_sb_same c _ _ _ (by decide) rfl), fun _ => ?_⟩
    exact (congrArg (·.get n) hf.ltx).trans (Dev.tx_updLtx_same _ _ _)

/-! The trip -/

/-- The status and the count of a trip that asserts (R262). -/
def Dev.tripMarked (d : Dev) : Dev :=
  ({ d with trip := true, therm := { d.therm with release := 0 } }.sb pTherm fTrip true).incSat pTherm fTripCnt

/-- The trip asserts and squelches every line transmitter, but for the event (R262). -/
def Dev.tripped (d : Dev) : Dev := d.tripMarked.eachLane fun n d => d.ltxSq n sqThermal true

/-- A trip that does not hold asserts where a used value is at the threshold or above (R262). -/
theorem Dev.tripJudge_off (h : d.trip = false) (l : List Sensor) (alone : Bool) : d.tripJudge l alone =
    d.when (((usedOf (if alone then [23] else mainSensors) l).map (·.2)).any fun v => decide (signed 12 (d.lg pTherm fTripThr) ≤ v))
      (·.setTrip true) := by
  unfold Dev.tripJudge
  simp only [h, Bool.not_false, if_true]

/-- The registers and the events of a trip. -/
abbrev tripRegs : List (Nat × Nat) := (pTherm, 0x048) :: (pTherm, 0x064) :: squelchRegs

abbrev tripEvents : List (Nat × Nat) := (pTherm, 6) :: squelchEvents

theorem DevKept.tripped (k : DevKept ex ev d h e) (hx : tripRegs ⊆ ex) (hv : squelchEvents ⊆ ev) :
    ∃ y, DevKept ex ev d { h with trip := true, therm := { h.therm with release := 0 }, ltx := y } e.tripped := by
  have kset : DevKept ex ev d { h with trip := true, therm := { h.therm with release := 0 } }
      { e with trip := true, therm := { e.therm with release := 0 } } :=
    ⟨k.regs, k.events, by
      rw [k.therm]
      exact congrArg (fun x : Dev => { x with trip := true, therm := { h.therm with release := 0 } }) k.hidden⟩
  exact ((kset.sb (f := fTrip) true (hx (by simp [fTrip]))).incSat (f := fTripCnt) (hx (by simp [fTripCnt]))).allSquelched
    (fun _ hm => hx (List.mem_cons_of_mem _ (List.mem_cons_of_mem _ hm))) hv

theorem DevKept.setTrip (k : DevKept ex ev d h e) (hx : tripRegs ⊆ ex) (hv : tripEvents ⊆ ev) :
    ∃ y, DevKept ex ev d { h with trip := true, therm := { h.therm with release := 0 }, ltx := y } (e.setTrip true) := by
  obtain ⟨y, ky⟩ := k.tripped hx fun _ hm => hv (List.mem_cons_of_mem _ hm)
  exact ⟨y, ky.raise (hv List.mem_cons_self)⟩

/-- What a trip shows: `d` before it, `e` after. -/
structure Tripped (d e : Dev) : Prop where
  status : e.b pTherm fTrip = true
  count : e.g pTherm fTripCnt = min (d.g pTherm fTripCnt + 1) 65535
  lane : ∀ n, e.b (pLtx n) (fSq sqThermal) = true ∧
    (d.b (pLtx n) (fSq sqThermal) = false → e.tx n = { d.tx n with ramping := false, ramp := 0 })

theorem pTherm_ne_pLtx (n : Lane) : pTherm ≠ pLtx n := by unfold pTherm pLtx; omega

theorem pTherm_notMem_squelchRegs (o : Nat) : (pTherm, o) ∉ squelchRegs := fun hm => by
  obtain ⟨n, -, he⟩ := List.mem_map.mp hm
  exact pTherm_ne_pLtx n (congrArg Prod.fst he).symm

/-- The squelches of a trip leave THERMAL alone. -/
theorem Dev.allSquelched_rd (e : Dev) {o : Nat} (ho : o < 4096) (hne : o ≠ 0x010) :
    (e.eachLane fun n d => d.ltxSq n sqThermal true).rd pTherm o = e.rd pTherm o := by
  obtain ⟨y, ky⟩ := (DevKept.refl (ex := squelchRegs) (ev := squelchEvents) e).allSquelched (fun _ hm => hm) fun _ hm => hm
  exact ky.regs _ _ ho hne (pTherm_notMem_squelchRegs o)

theorem Dev.tripMarked_rd (d : Dev) {q o : Nat} (ho : o < 4096) (h : (q, o) ∉ [(pTherm, 0x048), (pTherm, 0x064)]) :
    d.tripMarked.rd q o = d.rd q o := by
  have h48 : (q, o) ≠ (pTherm, 0x048) := List.ne_of_not_mem_cons h
  have h64 : (q, o) ≠ (pTherm, 0x064) := List.ne_of_not_mem_cons (List.not_mem_of_not_mem_cons h)
  exact (Dev.rd_wr_ne _ (by decide) ho h64 _).trans (Dev.rd_sb_ne _ (by decide) ho h48 _)

theorem Dev.tripped_shows (d : Dev) : Tripped d d.tripped where
  status := by
    rw [Dev.tripped]
    refine (Dev.b_congr (Dev.allSquelched_rd _ (by decide) (by decide))).trans ?_
    exact (Dev.b_s_apart (by decide) ..).trans (Dev.b_sb_same _ _ _ _ (by decide) rfl)
  count := by
    rw [Dev.tripped]
    refine (Dev.g_congr (Dev.allSquelched_rd _ (by decide) (by decide))).trans ?_
    rw [Dev.tripMarked, Dev.incSat_g _ _ fTripCnt, Dev.sb, Dev.g_s_apart (by decide)]
    rfl
  lane n := by
    rw [Dev.tripped]
    obtain ⟨c, hc, he⟩ := Dev.eachLane_at (π := fun d => (d.b (pLtx n) (fSq sqThermal), d.tx n))
      (fun m c hm => Dev.ltxSq_thermal_other hm c) d.tripMarked
    obtain ⟨hset, htx⟩ := c.ltxSq_thermal_same n
    have hb : c.b (pLtx n) (fSq sqThermal) = d.b (pLtx n) (fSq sqThermal) := (congrArg Prod.fst hc).trans
      (Dev.b_congr (d.tripMarked_rd (by decide) (by simp [Ne.symm (pTherm_ne_pLtx n)])))
    have ht : c.tx n = d.tx n := congrArg Prod.snd hc
    refine ⟨(congrArg Prod.fst he).trans hset, fun hclear => (congrArg Prod.snd he).trans ?_⟩
    rw [← ht]
    exact htx (hb.trans hclear)

theorem Tripped.raise {a b : Dev} (h : Tripped a b) (p src : Nat) : Tripped a (b.raise p src) :=
  ⟨(Dev.b_raise ..).trans h.status, (Dev.g_raise ..).trans h.count, fun n =>
    ⟨(Dev.b_raise ..).trans (h.lane n).1, fun hc => (congrArg (·.get n) (EvtFrame.raise ..).ltx).trans ((h.lane n).2 hc)⟩⟩

/-- A trip leaves the registers of a reading alone. -/
theorem SensorsKept.setTrip (d : Dev) : SensorsKept d (d.setTrip true) := by
  have hmark : SensorsKept d d.tripMarked := by
    have hoff : ∀ o ∈ regRun 0x080 24 ++ [0x050, 0x054, 0x058], o < 4096 ∧ (pTherm, o) ∉ [(pTherm, 0x048), (pTherm, 0x064)] := by decide
    have hfld : ∀ f ∈ [fAllFailed, fHottest, fHotIdx], f.apart fTripCnt ∧ f.apart fTrip := by decide
    exact ⟨fun o hm => d.tripMarked_rd (hoff o hm).1 (hoff o hm).2,
      fun f hf => (Dev.g_s_apart (hfld f hf).1 ..).trans (Dev.g_s_apart (hfld f hf).2 ..), rfl, rfl⟩
  have hrest : SensorsKept d.tripMarked (d.setTrip true) := by
    obtain ⟨y, ky⟩ := ((DevKept.refl (ex := squelchRegs) (ev := tripEvents) d.tripMarked).allSquelched (fun _ hm => hm)
      fun _ hm => List.mem_cons_of_mem _ hm)
    have kr := ky.raise (p := pTherm) (src := 6) List.mem_cons_self
    exact .of_rd (fun o hlt hne _ => kr.regs _ _ hlt hne (pTherm_notMem_squelchRegs o)) (congrArg ThermH.count kr.therm)
      (congrArg ThermH.lastOk kr.therm)
  exact hmark.trans hrest

end

end Sys2Proof.Machine
end

section
/-! The first step of Pace control (R91, R259, R271): every line lane leaves level 7. -/

open Sys2Proof Sys2Proof.Machine

namespace Sys2Proof.Machine

/-! The level of one lane -/

/-- No line lane is in TRAIN, RUN or HOLD: a pace target just follows its inputs (R91, R106). -/
abbrev Dev.idleLanes (d : Dev) : Prop := ∀ n : Lane, d.laneState n ∉ [stTrain, stRun, stHold]

/-- The device with thermal level 6 at lane `n`, but for its pace target. -/
def Dev.levelSix (d : Dev) (n : Lane) : Dev := (d.s pTherm (fLevel n) 6).s (pPacer n) fPaceThermal 6

/-- Lane `n` takes thermal level 6, and its pace target follows. -/
def Dev.toSix (d : Dev) (n : Lane) : Dev :=
  if 6 = d.g pTherm (fLevel n) then d
  else if (d.levelSix n).effLevel n = (d.levelSix n).g (pPacer n) fPaceTarget then d.levelSix n
  else (d.levelSix n).retargeted n

/-- All lanes have the same two registers for their levels, beside the register of THERMAL. -/
abbrev levelRegs : List (Nat × Nat) := (pTherm, 0x04C) :: lanes.map fun n => (pPacer n, 0x05C)

theorem mem_levelRegs (n : Lane) : (pPacer n, 0x05C) ∈ levelRegs := List.mem_cons_of_mem _ (List.mem_map_of_mem (List.mem_finRange n))

theorem pTherm_ne_pPacer (n : Lane) : pTherm ≠ pPacer n := by unfold pTherm pPacer; omega

theorem pPacer_inj {n m : Lane} (h : m ≠ n) : pPacer n ≠ pPacer m := fun e => h (Fin.ext (by unfold pPacer at e; omega))

theorem mem_levelRegs_off {p o : Nat} (h : (p, o) ∈ levelRegs) : o = 0x04C ∨ o = 0x05C := by
  rcases List.mem_cons.mp h with e | h
  · exact .inl (congrArg Prod.snd e)
  · obtain ⟨n, -, e⟩ := List.mem_map.mp h
    exact .inr (congrArg Prod.snd e).symm

/-- The level of a lane shares no bit with the fields that follow it. -/
theorem fLevel_apart : ∀ n : Lane, (fLevel n).apart fPaceThermal ∧ (fLevel n).apart fPaceTarget ∧ (fLevel n).apart fPaceActive ∧
    (fLevel n).lo + (fLevel n).w ≤ 32 := by decide

theorem fLevel_apart_level : ∀ n m : Lane, m ≠ n → (fLevel n).apart (fLevel m) := by decide

/-- The fields of a lane's level and those that it depends on. -/
def Dev.pace (d : Dev) (n : Lane) : Nat × Nat × Nat × Nat :=
  (d.g pTherm (fLevel n), d.g (pPacer n) fPaceThermal, d.g (pPacer n) fPaceTarget, d.g (pPacer n) fPaceMax)

section
variable {ex ev : List (Nat × Nat)} {d h e : Dev}

theorem DevKept.levelSix (k : DevKept ex ev d h e) (hx : levelRegs ⊆ ex) (n : Lane) : DevKept ex ev d h (e.levelSix n) :=
  (k.s (f := fLevel n) 6 (hx List.mem_cons_self) (by simp [fLevel]) (by simp [fLevel])).s (f := fPaceThermal) 6 (hx (mem_levelRegs n))

theorem DevKept.toSix (k : DevKept ex ev d h e) (hx : levelRegs ⊆ ex) (n : Lane) : DevKept ex ev d h (e.toSix n) := by
  have ksix := k.levelSix hx n
  unfold Dev.toSix
  split
  · exact k
  · split
    · exact ksix
    · exact ksix.s (f := fPaceTarget) _ (hx (mem_levelRegs n))

theorem Dev.toSix_idle (d : Dev) (n : Lane) (h : d.idleLanes) : (d.toSix n).idleLanes := by
  have k := (DevKept.refl (ev := []) d).toSix (ex := levelRegs) (fun _ hm => hm) n
  intro m
  have hlane : (d.toSix n).laneState m = d.laneState m := Dev.g_congr (f := fLrxState) (k.regs _ _ (by decide) (by decide) fun hm => by
    rcases mem_levelRegs_off hm with h | h <;> cases h)
  rw [hlane]
  exact h m

/-- In a lane that is in none of TRAIN, RUN and HOLD, a new level starts no pace change. -/
theorem Dev.toSix_eq (h : d.idleLanes) (n : Lane) : d.toSix n =
    if 6 = d.g pTherm (fLevel n) then d else (d.levelSix n).paceUpdate n := by
  have hstate : (d.levelSix n).laneState n = d.laneState n := (Dev.s_pacer_laneState _ _ _ _ _).trans
    (Dev.g_s_apart (f := fLrxState) (g := fLevel n) (by revert n; decide) ..)
  have hidle := h n
  rw [← hstate] at hidle
  simp only [List.mem_cons, List.not_mem_nil, or_false, not_or] at hidle
  obtain ⟨htrain, hrun, hhold⟩ := hidle
  have hvalid : (d.levelSix n).laneValid n = false := by simp [Dev.laneValid, hrun, hhold]
  rw [Dev.paceUpdate_eq htrain, hvalid]
  rfl

theorem Dev.levelSix_pace (d : Dev) (n : Lane) : (d.levelSix n).pace n = (6, 6, d.g (pPacer n) fPaceTarget, d.g (pPacer n) fPaceMax) := by
  have hpage : ∀ f : Fld, f.off < 4096 → (d.s pTherm (fLevel n) 6).g (pPacer n) f = d.g (pPacer n) f := fun f hf =>
    Dev.g_congr (d.rd_s_page (fLevel n) 6 (by simp [fLevel]) hf (pTherm_ne_pPacer n).symm)
  obtain ⟨hapart, -, -, hfits⟩ := fLevel_apart n
  have hlevel : (d.levelSix n).g pTherm (fLevel n) = 6 := (Dev.g_s_apart hapart ..).trans (Dev.g_s_same _ _ _ _ hfits)
  have hthermal : (d.levelSix n).g (pPacer n) fPaceThermal = 6 := Dev.g_s_same _ _ _ _ (by decide)
  have htarget : (d.levelSix n).g (pPacer n) fPaceTarget = d.g (pPacer n) fPaceTarget :=
    (Dev.g_s_apart (by decide) ..).trans (hpage _ (by decide))
  have hmax : (d.levelSix n).g (pPacer n) fPaceMax = d.g (pPacer n) fPaceMax := (Dev.g_s_apart (by decide) ..).trans (hpage _ (by decide))
  rw [Dev.pace, hlevel, hthermal, htarget, hmax]

theorem Dev.retargeted_pace (d : Dev) (n : Lane) : (d.retargeted n).pace n =
    (d.g pTherm (fLevel n), d.g (pPacer n) fPaceThermal, d.effLevel n, d.g (pPacer n) fPaceMax) := by
  obtain ⟨-, hlevel, -, -⟩ := fLevel_apart n
  rw [Dev.pace, Dev.retargeted_target, Dev.retargeted, Dev.g_s_apart hlevel, Dev.g_s_apart (by decide), Dev.g_s_apart (by decide)]

/-- A lane that leaves level 7 is at level 6, and its target is the effective level (R91). -/
theorem Dev.toSix_pace (h : d.g pTherm (fLevel n) = 7) : (d.toSix n).pace n =
    (6, 6, min 6 (d.g (pPacer n) fPaceMax), d.g (pPacer n) fPaceMax) := by
  have hsix := d.levelSix_pace n
  simp only [Dev.pace, Prod.mk.injEq] at hsix
  obtain ⟨hlevel, hthermal, -, hmax⟩ := hsix
  have heff : (d.levelSix n).effLevel n = min 6 (d.g (pPacer n) fPaceMax) := by rw [Dev.effLevel, hmax, hthermal, Nat.min_comm]
  rw [Dev.toSix, if_neg (by rw [h]; decide)]
  split
  case isTrue he => rw [Dev.pace, ← he, heff, hlevel, hthermal, hmax]
  case isFalse => rw [Dev.retargeted_pace, heff, hlevel, hthermal, hmax]

/-- The level of another lane leaves a lane's alone. -/
theorem Dev.toSix_pace_other {n m : Lane} (hne : m ≠ n) (d : Dev) : (d.toSix m).pace n = d.pace n := by
  obtain ⟨hthermal, htarget, -, -⟩ := fLevel_apart n
  have hsix : (d.levelSix m).pace n = d.pace n := by
    have hpage : ∀ f : Fld, f.off < 4096 → (d.levelSix m).g (pPacer n) f = d.g (pPacer n) f := fun f hf =>
      (Dev.g_congr (Dev.rd_s_page _ fPaceThermal 6 (by decide) hf (pPacer_inj hne))).trans
        (Dev.g_congr (d.rd_s_page (fLevel m) 6 (by simp [fLevel]) hf (pTherm_ne_pPacer n).symm))
    have hlevel : (d.levelSix m).g pTherm (fLevel n) = d.g pTherm (fLevel n) :=
      (Dev.g_s_apart hthermal ..).trans (Dev.g_s_apart (fLevel_apart_level n m hne) ..)
    rw [Dev.pace, hpage _ (by decide), hpage _ (by decide), hpage _ (by decide), hlevel]
    rfl
  have hret : ∀ c : Dev, (c.retargeted m).pace n = c.pace n := fun c => by
    have hpage : ∀ f : Fld, f.off < 4096 → (c.retargeted m).g (pPacer n) f = c.g (pPacer n) f := fun f hf =>
      Dev.g_congr (Dev.rd_s_page _ fPaceTarget _ (by decide) hf (pPacer_inj hne))
    rw [Dev.pace, hpage _ (by decide), hpage _ (by decide), hpage _ (by decide), Dev.retargeted, Dev.g_s_apart htarget]
    rfl
  unfold Dev.toSix
  split
  · rfl
  · split
    · exact hsix
    · exact (hret _).trans hsix

/-! The levels of all lanes -/

/-- Steps that agree on the devices of an invariant agree on all lanes. -/
theorem Dev.eachLane_congr {I : Dev → Prop} {f g : Lane → Dev → Dev} (hfg : ∀ n d, I d → f n d = g n d) (hI : ∀ n d, I d → I (g n d))
    (h : I d) : d.eachLane f = d.eachLane g := by
  unfold Dev.eachLane
  generalize List.finRange 8 = l
  induction l generalizing d with
  | nil => rfl
  | cons n l ih =>
    rw [List.foldl_cons, List.foldl_cons, hfg n d h]
    exact ih (hI n d h)

/-- Every lane takes level 6, and with it Pace control is active. -/
def Dev.allSix (d : Dev) : Dev := (d.eachLane fun n d => d.toSix n).sb pTherm fPaceActive true

theorem Dev.setLevels_six (h : d.idleLanes) : d.setLevels (List.replicate 8 6) = d.allSix := by
  have hsteps : d.eachLane (fun n d => d.toSix n) = d.eachLane fun n d =>
      if (List.replicate 8 6).getD n.val 7 = d.g pTherm (fLevel n) then d
      else ((d.s pTherm (fLevel n) ((List.replicate 8 6).getD n.val 7)).s (pPacer n) fPaceThermal
        ((List.replicate 8 6).getD n.val 7)).paceUpdate n := by
    refine (Dev.eachLane_congr (I := Dev.idleLanes) (fun n d hd => ?_) (fun n d hd => d.toSix_idle n hd) h).symm
    have hsix : (List.replicate 8 6).getD n.val 7 = 6 := by revert n; decide
    rw [hsix, Dev.toSix_eq hd]
    rfl
  rw [Dev.allSix, hsteps]
  rfl

theorem DevKept.eachToSix (k : DevKept ex ev d h e) (hx : levelRegs ⊆ ex) : DevKept ex ev d h (e.eachLane fun n d => d.toSix n) :=
  k.foldl fun _ n _ kc => kc.toSix hx n

theorem DevKept.allSix (k : DevKept ex ev d h e) (hx : levelRegs ⊆ ex) (h48 : (pTherm, 0x048) ∈ ex) : DevKept ex ev d h e.allSix :=
  (k.eachToSix hx).sb (f := fPaceActive) true h48

/-- From level 7 every lane is at level 6, and its target is the effective level (R91). -/
theorem Dev.allSix_pace (h : ∀ n : Lane, d.g pTherm (fLevel n) = 7) (n : Lane) :
    d.allSix.pace n = (6, 6, min 6 (d.g (pPacer n) fPaceMax), d.g (pPacer n) fPaceMax) := by
  obtain ⟨c, hc, he⟩ := Dev.eachLane_at (f := fun n d => d.toSix n) (π := fun d => d.pace n) (fun m c hm => Dev.toSix_pace_other hm c) d
  simp only [Dev.pace, Prod.mk.injEq] at hc
  obtain ⟨hlevel, -, -, hmax⟩ := hc
  have hactive : d.allSix.pace n = (d.eachLane fun n d => d.toSix n).pace n := by
    obtain ⟨-, -, hapart, -⟩ := fLevel_apart n
    rw [Dev.pace, Dev.allSix, Dev.sb, Dev.g_s_apart hapart, Dev.g_s_apart (by decide), Dev.g_s_apart (by decide), Dev.g_s_apart (by decide)]
    rfl
  rw [hactive, ← hmax]
  exact he.trans (Dev.toSix_pace (hlevel.trans (h n)))

theorem Dev.allSix_active (d : Dev) : d.allSix.b pTherm fPaceActive = true := Dev.b_sb_same _ _ _ _ (by decide) rfl

theorem SensorsKept.allSix (d : Dev) : SensorsKept d d.allSix := by
  have k := (DevKept.refl (ev := []) d).eachToSix (ex := levelRegs) fun _ hm => hm
  refine SensorsKept.sb (.of_rd (fun o hlt hne hother => k.regs _ _ hlt hne fun hm => hother ?_) (congrArg ThermH.count k.therm)
    (congrArg ThermH.lastOk k.therm)) rfl (by decide) true
  rcases mem_levelRegs_off hm with rfl | rfl <;> decide

/-! Pace control -/

theorem coreSensor_lt : ∀ n : Lane, coreSensor n.val < 24 := by decide

/-- A lane at level 7 that is hot enough leaves it, where no step waits (R259). -/
theorem Dev.paceLevel_first {raws : List (BitVec 12)} {n : Lane} (hlevel : d.g pTherm (fLevel n) = 7)
    (hlast : d.therm.lastStep = List.replicate 8 none) (hscope : d.lg pTherm fPaceScope = 0)
    (hshed : 1 ≤ shed (max (readingOf raws n.val) (readingOf raws (coreSensor n.val)) - signed 12 (d.lg pTherm fTPace))
      (d.lg pTherm fPaceGain)) : d.paceLevel (soundReading raws) false [] n.val = 6 := by
  have hlane : Fin.ofNat 8 n.val = n := Fin.ext (Nat.mod_eq_of_lt n.isLt)
  have hsensors : d.govSensors n.val = [n.val, coreSensor n.val] := by rw [Dev.govSensors, hscope]; rfl
  have hlt : ∀ i ∈ [n.val, coreSensor n.val], i < 24 :=
    List.forall_mem_cons.mpr ⟨Nat.lt_trans n.isLt (by decide), List.forall_mem_singleton.mpr (coreSensor_lt n)⟩
  have hnone : (List.replicate 8 none : List (Option Nat)).getD n.val none = none := List.getD_replicate none n.isLt
  have hhot : maxInt ((usedOf (d.govSensors n.val) (soundReading raws)).map (·.2)) =
      some (max (readingOf raws n.val) (readingOf raws (coreSensor n.val))) := by
    rw [hsensors, usedOf_soundReading hlt]
    rfl
  have hany : (d.govSensors n.val).any (List.contains []) = false := by rw [hsensors]; rfl
  have hpos : 7 - 7 < shed (max (readingOf raws n.val) (readingOf raws (coreSensor n.val)) - signed 12 (d.lg pTherm fTPace))
      (d.lg pTherm fPaceGain) := hshed
  unfold Dev.paceLevel
  simp only [hlane, hlevel, hhot, hlast, hnone, hany, if_pos hpos, Bool.not_true, Bool.false_eq_true, if_false]

/-- The readings at which the levels last stepped are set. -/
def Dev.stepsNoted (d : Dev) (last : List (Option Nat)) : Dev := { d with therm := { d.therm with lastStep := last } }

/-- The first step of all lanes together: sources 5 and 3 (R259, R271). -/
theorem Dev.paceControl_first {l : List Sensor} {alone : Bool} {bad : List Nat} (hidle : d.idleLanes)
    (hold : ∀ n : Lane, d.g pTherm (fLevel n) = 7) (hnew : ∀ n : Lane, d.paceLevel l alone bad n.val = 6) :
    d.paceControl l alone bad = (((d.stepsNoted (List.replicate 8 (some d.therm.reads))).allSix).raise pTherm 5).raise pTherm 3 := by
  have hseven : ((List.range 8).map fun n => d.g pTherm (fLevel (Fin.ofNat 8 n))) = List.replicate 8 7 :=
    List.eq_replicate_iff.mpr ⟨rfl, fun x hx => by obtain ⟨n, -, rfl⟩ := List.mem_map.mp hx; exact hold _⟩
  have hsix : ((List.range 8).map fun n => d.paceLevel l alone bad n) = List.replicate 8 6 :=
    List.eq_replicate_iff.mpr ⟨rfl, fun x hx => by
      obtain ⟨n, hn, rfl⟩ := List.mem_map.mp hx
      exact hnew ⟨n, List.mem_range.mp hn⟩⟩
  have hset : (d.stepsNoted (List.replicate 8 (some d.therm.reads))).setLevels (List.replicate 8 6) =
      (d.stepsNoted (List.replicate 8 (some d.therm.reads))).allSix := Dev.setLevels_six hidle
  unfold Dev.paceControl
  rw [hseven, hsix, ← hset]
  rfl

theorem DevKept.stepsNoted (k : DevKept ex ev d h e) (last : List (Option Nat)) :
    DevKept ex ev d (h.stepsNoted last) (e.stepsNoted last) := by
  refine ⟨k.regs, k.events, ?_⟩
  rw [Dev.stepsNoted, k.therm]
  exact congrArg (fun x : Dev => { x with therm := { h.therm with lastStep := last } }) k.hidden

end

end Sys2Proof.Machine
end

section
/-! A temperature reading as a command (R255 to R264). -/

open Sys2Proof Sys2Proof.Machine

namespace Sys2Proof.Machine

section
variable {ex ev : List (Nat × Nat)} {d h e : Dev} {s : State} {raws : List (BitVec 12)} {l : List Sensor}

theorem exec_thermalReading (raws : List (BitVec 12)) (s : State) : exec (.thermalReading raws) s = act s (·.reading raws) := rfl

theorem Dev.signals_therm (h : d.powered pTherm = true) : d.Signals pTherm 9 := ⟨h, by decide, by decide, by decide⟩

theorem DevKept.lg (k : DevKept ex ev d h e) (p : Nat) (f : Fld) : e.lg p f = h.lg p f := by
  have hlive : e.live = h.live := (congrArg Dev.live k.hidden :)
  rw [Dev.lg, Dev.lrd, hlive, ← Dev.lrd, ← Dev.lg]

theorem Dev.windowsShown_rd (e : Dev) (l : List Sensor) {q o : Nat} (ho : o < 4096) (h : (q, o) ≠ (pTherm, 0x060)) :
    (e.windowsShown l).rd q o = e.rd q o :=
  (Dev.rd_sb_ne _ (by decide) ho h _).trans (Dev.rd_sb_ne _ (by decide) ho h _)

theorem Dev.windowsShown_evt (e : Dev) (l : List Sensor) (q x : Nat) : (e.windowsShown l).evt q x = e.evt q x :=
  (Dev.evt_wr _ _ _ _).trans (Dev.evt_wr _ _ _ _)

theorem SensorsKept.windowsShown (e : Dev) (l : List Sensor) : SensorsKept e (e.windowsShown l) := by
  refine .of_rd (fun o hlt _ hother => e.windowsShown_rd l hlt fun he => hother ?_) rfl rfl
  rw [show o = 0x060 from congrArg Prod.snd he]
  decide

theorem SensorsKept.settled {t : Dev} (h : Settled e t) (ht : t.therm = e.therm) : SensorsKept e t := by
  exact .of_rd (fun o hlt hne _ => h.rd _ _ hlt hne) (congrArg _ ht) (congrArg _ ht)

theorem readingRegs_trial : (pTrial, 0x048) ∉ readingRegs := by decide

/-! A reading of sound sensors -/

/-- The registers of THERMAL show a reading in which every sensor is sound, with the windows. -/
structure Dev.ReadingSound (e : Dev) (raws : List (BitVec 12)) : Prop extends e.AllSound raws where
  flash : e.b pTherm fFlashOk = (List.range 23).all fun i => decide (0 ≤ readingOf raws i ∧ readingOf raws i ≤ 380)
  otp : e.b pTherm fOtpOk = (List.range 23).all fun i => decide (40 ≤ readingOf raws i ∧ readingOf raws i ≤ 340)

/-- A reading that finds every sensor sound, and no sensor that has entered SUSPECT or FAILED. -/
theorem Dev.SensorsOk.reading_sound (h : d.SensorsOk) (ha : ∀ i < 24, ¬ deviates raws i) : d.reading raws =
    (d.readingEntered (soundReading raws)).readingFollowed (soundReading raws) [] := by
  rw [Dev.reading_eq (h.runs 0), h.judged_sound ha, ← soundReading, d.entered_soundReading (by decide), d.entered_soundReading (by decide)]
  rfl

/-- What the command yields where the reading of sound sensors and what follows it leave the device at `e`, but for the windows. -/
theorem reading_yields_sound {P : State → Prop} (hc : s.calm) (hok : s.dev.SensorsOk) (ha : ∀ i < 24, ¬ deviates raws i)
    (he : (s.dev.readingEntered (soundReading raws)).readingFollowed (soundReading raws) [] = e.windowsShown (soundReading raws))
    (hs : SensorsKept (s.dev.readingEntered (soundReading raws)) e) (k : DevKept ex ev s.dev h e) (hx : readingRegs ⊆ ex)
    (hlife : h.life = s.dev.life) (htrial : (pTrial, 0x048) ∉ ex)
    (hP : ∀ t : State, t.dev.ReadingSound raws → Settled (e.windowsShown (soundReading raws)) t.dev → Kept s t h ex ev → P t) :
    Yields (exec (.thermalReading raws) s) P := by
  have hstate : ∀ x ∈ soundReading raws, x.state < 4 := fun x hm => by rw [(mem_soundReading hm).1]; decide
  have hshows := ((s.dev.readingEntered_shows hstate).kept hs).kept (SensorsKept.windowsShown e (soundReading raws))
  have kwin := k.windowsShown (hx (mem_readingRegs (by decide))) (soundReading raws)
  rw [exec_thermalReading]
  refine kwin.yields hc ((hok.reading_sound ha).trans he) hlife htrial fun t settled kept => ?_
  have htherm : t.dev.therm = (e.windowsShown (soundReading raws)).therm := (congrArg Dev.therm kept.hidden :).trans kwin.therm.symm
  obtain ⟨hflash, hotp⟩ := e.windowsShown_sound (raws := raws)
  exact hP t { (hshows.kept (.settled settled htherm)).allSound with
    flash := (settled.b _ _).trans hflash, otp := (settled.b _ _).trans hotp } settled kept

/-- The trip judges sound sensors by their readings (R262). -/
theorem Dev.tripJudge_sound (h : e.trip = false) : e.tripJudge (soundReading raws) (allFailed (soundReading raws)) =
    e.when ((List.range 23).any fun i => decide (signed 12 (e.lg pTherm fTripThr) ≤ readingOf raws i)) (·.setTrip true) := by
  rw [Dev.tripJudge_off h, allFailed_soundReading, if_neg Bool.false_ne_true, usedOf_main_soundReading, List.any_map]
  rfl

theorem Dev.tripJudge_sound_below (h : e.trip = false) (hb : ∀ i < 23, readingOf raws i < signed 12 (e.lg pTherm fTripThr)) :
    e.tripJudge (soundReading raws) (allFailed (soundReading raws)) = e := by
  have hany : ((List.range 23).any fun i => decide (signed 12 (e.lg pTherm fTripThr) ≤ readingOf raws i)) = false :=
    List.any_eq_false.mpr fun i hi => by
      have := hb i (List.mem_range.mp hi)
      simpa using this
  rw [Dev.tripJudge_sound h, hany]
  rfl

theorem Dev.tripJudge_sound_above (h : e.trip = false) (ha : ∃ i ∈ List.range 23, signed 12 (e.lg pTherm fTripThr) ≤ readingOf raws i) :
    e.tripJudge (soundReading raws) (allFailed (soundReading raws)) = e.setTrip true := by
  have hany : ((List.range 23).any fun i => decide (signed 12 (e.lg pTherm fTripThr) ≤ readingOf raws i)) = true :=
    List.any_eq_true.mpr (ha.imp fun i hi => ⟨hi.1, decide_eq_true hi.2⟩)
  rw [Dev.tripJudge_sound h, hany]
  rfl

/-- Without the Coach Pace control does nothing (R261). -/
theorem Dev.readingFollowed_alone (h : e.coachUp = false) (l : List Sensor) (bad : List Nat) :
    e.readingFollowed l bad = (e.tripJudge l (allFailed l)).windowsShown l := by
  rw [Dev.readingFollowed, h]
  rfl

theorem Dev.readingFollowed_coach (h : e.coachUp = true) (l : List Sensor) (bad : List Nat) :
    e.readingFollowed l bad = ((e.paceControl l (allFailed l) bad).tripJudge l (allFailed l)).windowsShown l := by
  rw [Dev.readingFollowed, h]
  rfl

/-! Below the threshold -/

theorem reading_below {P : State → Prop} (hc : s.calm) (hok : s.dev.SensorsOk) (ha : ∀ i < 24, ¬ deviates raws i)
    (hcoach : s.dev.coachUp = false) (htrip : s.dev.trip = false) (hb : ∀ i < 23, readingOf raws i < signed 12 (s.dev.lg pTherm fTripThr))
    (hP : ∀ t : State, t.dev.ReadingSound raws → t.dev.trip = false →
      Kept s t { s.dev with free := s.dev.free + 48, therm := t.dev.therm } readingRegs ev → P t) :
    Yields (exec (.thermalReading raws) s) P := by
  have k := DevKept.readingEntered_sound (raws := raws) (ex := readingRegs) (ev := ev) s.dev fun _ hm => hm
  have hcoach' : (s.dev.readingEntered (soundReading raws)).coachUp = false := (congrArg Dev.coachUp k.hidden :).trans hcoach
  have htrip' : (s.dev.readingEntered (soundReading raws)).trip = false := (congrArg Dev.trip k.hidden :).trans htrip
  have hlg := k.lg pTherm fTripThr
  refine reading_yields_sound hc hok ha ?_ (.refl _) k (fun _ hm => hm) rfl readingRegs_trial
    fun t sound _ kept => hP t sound ((congrArg Dev.trip kept.hidden :).trans htrip) ?_
  · rw [Dev.readingFollowed_alone hcoach', Dev.tripJudge_sound_below htrip' (fun i hi => hlg.symm ▸ hb i hi)]
  · have htherm : t.dev.therm = s.dev.therm.read (soundReading raws) := (congrArg Dev.therm kept.hidden :)
    rw [htherm]
    exact kept

/-! At or above the threshold -/

/-- What a command that trips yields, beside the reading. -/
structure TripYields (s t : State) : Prop where
  trip : t.dev.trip = true
  shows : Tripped s.dev t.dev
  event : t.dev.evt pTherm 6 = true

theorem Tripped.before {a b c : Dev} (h : Tripped b c) (hcnt : b.rd pTherm 0x064 = a.rd pTherm 0x064)
    (hsq : ∀ n : Lane, b.rd (pLtx n) 0x044 = a.rd (pLtx n) 0x044) (hltx : b.ltx = a.ltx) : Tripped a c where
  status := h.status
  count := by rw [← Dev.g_congr (f := fTripCnt) hcnt]; exact h.count
  lane n := by
    have htx : b.tx n = a.tx n := congrArg (·.get n) hltx
    have hb : b.b (pLtx n) (fSq sqThermal) = a.b (pLtx n) (fSq sqThermal) := Dev.b_congr (hsq n)
    rw [← htx, ← hb]
    exact h.lane n

theorem Tripped.after {a b c : Dev} (h : Tripped a b)
    (hrd : ∀ q o, o < 4096 → o ≠ 0x010 → (q, o) ≠ (pTherm, 0x060) → c.rd q o = b.rd q o) (hltx : c.ltx = b.ltx) : Tripped a c where
  status := (Dev.b_congr (hrd _ _ (by decide) (by decide) (by decide))).trans h.status
  count := (Dev.g_congr (hrd _ _ (by decide) (by decide) (by decide))).trans h.count
  lane n := by
    obtain ⟨hset, htx⟩ := h.lane n
    exact ⟨(Dev.b_congr (hrd _ _ (by decide) (by decide) fun e => pTherm_ne_pLtx n (congrArg Prod.fst e).symm)).trans hset,
      fun hclear => (congrArg (·.get n) hltx).trans (htx hclear)⟩

/-- The registers of a reading with a trip. -/
abbrev tripReadRegs : List (Nat × Nat) := readingRegs ++ (pTherm, 0x064) :: lanes.map fun n => (pLtx n, 0x044)

theorem readingRegs_page {p o : Nat} (h : (p, o) ∈ readingRegs) : p = pTherm := (mem_regsOf.mp h).1

theorem tripRegs_subset : tripRegs ⊆ tripReadRegs :=
  List.cons_subset.mpr ⟨List.mem_append_left _ (mem_readingRegs (by decide)), fun _ hm => List.mem_append_right _ hm⟩

/-- What a trip after a reading shows: `c` is the device with the reading entered. -/
theorem tripYields {c : Dev} {t : State} (k : DevKept readingRegs [] s.dev h c) (hltx : h.ltx = s.dev.ltx) (hp : h.powered pTherm = true)
    (settled : Settled ((c.setTrip true).windowsShown l) t.dev) (hx : t.dev.ltx = (c.setTrip true).ltx) (htrip : t.dev.trip = true) :
    TripYields s t where
  trip := htrip
  shows := by
    have hc : c.ltx = s.dev.ltx := (congrArg Dev.ltx k.hidden :).trans hltx
    have hlane : ∀ n : Lane, (pLtx n, 0x044) ∉ readingRegs := fun n hm => pTherm_ne_pLtx n (readingRegs_page hm).symm
    have hshows : Tripped c (c.setTrip true) := c.tripped_shows.raise pTherm 6
    exact (hshows.before (k.regs _ _ (by decide) (by decide) (by decide)) (fun n => k.regs _ _ (by decide) (by decide) (hlane n)) hc).after
      (fun q o ho hne h60 => (settled.rd q o ho hne).trans (Dev.windowsShown_rd _ l ho h60)) hx
  event := by
    obtain ⟨y, ky⟩ := (DevKept.refl (ex := tripRegs) (ev := squelchEvents) c).tripped (fun _ hm => hm) fun _ hm => hm
    have hsig : c.tripped.Signals pTherm 9 := (Dev.signals_therm ((k.powered _).trans hp)).congr ky.offPages
    exact (settled.evt _ _ (by decide)).trans ((Dev.windowsShown_evt _ _ _ _).trans (hsig.raise (src := 6) (by decide)))

theorem reading_trips {P : State → Prop} (hc : s.calm) (hok : s.dev.SensorsOk) (hp : s.dev.powered pTherm = true)
    (ha : ∀ i < 24, ¬ deviates raws i) (hcoach : s.dev.coachUp = false) (htrip : s.dev.trip = false)
    (hb : ∃ i ∈ List.range 23, signed 12 (s.dev.lg pTherm fTripThr) ≤ readingOf raws i)
    (hP : ∀ t : State, t.dev.ReadingSound raws → TripYields s t →
      Kept s t { s.dev with free := s.dev.free + 48, therm := t.dev.therm, trip := true, ltx := t.dev.ltx } tripReadRegs tripEvents → P t) :
    Yields (exec (.thermalReading raws) s) P := by
  have k := DevKept.readingEntered_sound (raws := raws) (ex := readingRegs) (ev := []) s.dev fun _ hm => hm
  have hcoach' : (s.dev.readingEntered (soundReading raws)).coachUp = false := (congrArg Dev.coachUp k.hidden :).trans hcoach
  have htrip' : (s.dev.readingEntered (soundReading raws)).trip = false := (congrArg Dev.trip k.hidden :).trans htrip
  have hlg := k.lg pTherm fTripThr
  have kread := DevKept.readingEntered_sound (raws := raws) (ex := tripReadRegs) (ev := tripEvents) s.dev (List.subset_append_left _ _)
  obtain ⟨y, kt⟩ := kread.setTrip tripRegs_subset fun _ hm => hm
  refine reading_yields_sound hc hok ha ?_ (.setTrip _) kt (List.subset_append_left _ _) rfl (by decide)
    fun t sound settled kept => hP t sound ?_ ?_
  · rw [Dev.readingFollowed_alone hcoach', Dev.tripJudge_sound_above htrip' (hlg.symm ▸ hb)]
  · exact tripYields k rfl hp settled ((congrArg Dev.ltx kept.hidden :).trans (congrArg Dev.ltx kt.hidden :).symm)
      (congrArg Dev.trip kept.hidden :)
  · have htherm : t.dev.therm = { s.dev.therm.read (soundReading raws) with release := 0 } := (congrArg Dev.therm kept.hidden :)
    have hltx : t.dev.ltx = y := (congrArg Dev.ltx kept.hidden :)
    rw [htherm, hltx]
    exact kept

/-! The first step of Pace control -/

/-- The registers of a reading with a step of the levels. -/
abbrev paceReadRegs : List (Nat × Nat) := readingRegs ++ (pTherm, 0x04C) :: lanes.map fun n => (pPacer n, 0x05C)

/-- What a reading that steps every level yields, beside the reading. -/
structure PaceYields (s t : State) : Prop where
  lane : ∀ n : Lane, t.dev.pace n = (6, 6, min 6 (s.dev.g (pPacer n) fPaceMax), s.dev.g (pPacer n) fPaceMax)
  active : t.dev.b pTherm fPaceActive = true
  stepped : t.dev.evt pTherm 5 = true
  began : t.dev.evt pTherm 3 = true

/-- The device after the first step of all lanes. -/
def Dev.levelsBegun (d : Dev) : Dev := (((d.stepsNoted (List.replicate 8 (some d.therm.reads))).allSix).raise pTherm 5).raise pTherm 3

theorem DevKept.levelsBegun (k : DevKept ex ev d h e) (hx : levelRegs ⊆ ex) (h48 : (pTherm, 0x048) ∈ ex)
    (hv : [(pTherm, 3), (pTherm, 5)] ⊆ ev) :
    DevKept ex ev d (h.stepsNoted (List.replicate 8 (some e.therm.reads))) e.levelsBegun :=
  (((k.stepsNoted _).allSix hx h48).raise (p := pTherm) (src := 5) (hv (by decide))).raise (hv (by decide))

theorem SensorsKept.raise (h : SensorsKept d e) (p src : Nat) : SensorsKept d (e.raise p src) := by
  have htherm := (EvtFrame.raise e p src false).therm
  exact h.trans (.of_rd (fun o hlt hne _ => e.rd_raise p src _ o hlt hne) (congrArg _ htherm) (congrArg _ htherm))

theorem SensorsKept.levelsBegun (e : Dev) : SensorsKept e e.levelsBegun := by
  have hnoted : ∀ last, SensorsKept e (e.stepsNoted last) := fun last => .of_rd (fun _ _ _ _ => rfl) rfl rfl
  exact (((hnoted _).trans (.allSix _)).raise pTherm 5).raise pTherm 3

theorem Dev.pace_congr {a b : Dev} {n : Lane} (hlevel : b.rd pTherm 0x04C = a.rd pTherm 0x04C)
    (hpacer : ∀ o ∈ [0x058, 0x05C], b.rd (pPacer n) o = a.rd (pPacer n) o) : b.pace n = a.pace n := by
  rw [Dev.pace, Dev.g_congr (f := fLevel n) hlevel, Dev.g_congr (f := fPaceThermal) (hpacer _ (by decide)),
    Dev.g_congr (f := fPaceTarget) (hpacer _ (by decide)), Dev.g_congr (f := fPaceMax) (hpacer _ (by decide))]
  rfl

theorem Dev.levelsBegun_pace (h : ∀ n : Lane, d.g pTherm (fLevel n) = 7) (n : Lane) :
    d.levelsBegun.pace n = (6, 6, min 6 (d.g (pPacer n) fPaceMax), d.g (pPacer n) fPaceMax) := by
  have hraise : ∀ (c : Dev) (x : Nat), (c.raise pTherm x).pace n = c.pace n := fun c x =>
    Dev.pace_congr (c.rd_raise ..) fun o ho => c.rd_raise _ _ _ _ (by revert o; decide) (by revert o; decide)
  rw [Dev.levelsBegun, hraise, hraise]
  exact Dev.allSix_pace (d := d.stepsNoted (List.replicate 8 (some d.therm.reads))) h n

theorem Dev.levelsBegun_active (d : Dev) : d.levelsBegun.b pTherm fPaceActive = true :=
  (Dev.b_raise ..).trans ((Dev.b_raise ..).trans (Dev.allSix_active _))

theorem Dev.levelsBegun_events (h : d.powered pTherm = true) : d.levelsBegun.evt pTherm 5 = true ∧ d.levelsBegun.evt pTherm 3 = true := by
  have k := ((DevKept.refl (ex := (pTherm, 0x048) :: levelRegs) (ev := []) d).stepsNoted
    (List.replicate 8 (some d.therm.reads))).allSix (List.subset_cons_self _ _) List.mem_cons_self
  have hsig := (Dev.signals_therm h).congr k.offPages
  have hfive := hsig.congr (EvtFrame.raise _ pTherm 5 false).offPages
  exact ⟨(Dev.raise_evt_other (p := pTherm) (src := 3) _ false (by decide) hsig.page).trans (hsig.raise (src := 5) (by decide)),
    hfive.raise (src := 3) (by decide)⟩

/-- Every line lane is at level 7, and its sensors ask for less, with no step that waits (R259). -/
structure Dev.PaceDue (d : Dev) (raws : List (BitVec 12)) : Prop where
  idle : d.idleLanes
  level : ∀ n : Lane, d.g pTherm (fLevel n) = 7
  lastStep : d.therm.lastStep = List.replicate 8 none
  scope : d.lg pTherm fPaceScope = 0
  hot : ∀ n : Lane, 1 ≤ shed (max (readingOf raws n.val) (readingOf raws (coreSensor n.val)) - signed 12 (d.lg pTherm fTPace))
    (d.lg pTherm fPaceGain)

/-- The levels that are due step once the reading is entered. -/
theorem Dev.PaceDue.begins {l : List Sensor} (h : d.PaceDue raws) (k : DevKept readingRegs ev d (d.thermRead l) e) :
    e.paceControl (soundReading raws) (allFailed (soundReading raws)) [] = e.levelsBegun := by
  have hidle : e.idleLanes := fun m => by
    have hstate : e.laneState m = d.laneState m := Dev.g_congr (f := fLrxState) (k.regs _ _ (by decide) (by decide) fun hm =>
      absurd (readingRegs_page hm) (by unfold pLrx pTherm; omega))
    rw [hstate]
    exact h.idle m
  have hlevel : ∀ n : Lane, e.g pTherm (fLevel n) = 7 := fun n =>
    (Dev.g_congr (f := fLevel n) (k.regs _ _ (by simp [fLevel]) (by simp [fLevel]) (by decide : (pTherm, 0x04C) ∉ readingRegs))).trans
      (h.level n)
  have hlast : e.therm.lastStep = List.replicate 8 none := (congrArg ThermH.lastStep k.therm).trans h.lastStep
  rw [allFailed_soundReading]
  refine Dev.paceControl_first hidle hlevel fun n => Dev.paceLevel_first (hlevel n) hlast ((k.lg _ _).trans h.scope) ?_
  rw [k.lg, k.lg]
  exact h.hot n

/-- What the first step of the levels after a reading shows: `c` is the device with the reading entered. -/
theorem paceYields {c : Dev} {t : State} (k : DevKept readingRegs [] s.dev h c) (hp : h.powered pTherm = true)
    (hlevel : ∀ n : Lane, s.dev.g pTherm (fLevel n) = 7) (settled : Settled (c.levelsBegun.windowsShown l) t.dev) : PaceYields s t := by
  have hrd : ∀ q o, o < 4096 → o ≠ 0x010 → (q, o) ≠ (pTherm, 0x060) → t.dev.rd q o = c.levelsBegun.rd q o := fun q o ho hne h60 =>
    (settled.rd q o ho hne).trans (Dev.windowsShown_rd _ l ho h60)
  have hevt : ∀ x, t.dev.evt pTherm x = c.levelsBegun.evt pTherm x := fun x =>
    (settled.evt _ _ (by decide)).trans (Dev.windowsShown_evt ..)
  obtain ⟨hfive, hthree⟩ := Dev.levelsBegun_events ((k.powered _).trans hp)
  have hmax : ∀ n : Lane, c.g (pPacer n) fPaceMax = s.dev.g (pPacer n) fPaceMax := fun n =>
    Dev.g_congr (k.regs _ _ (by decide) (by decide) fun hm => pTherm_ne_pPacer n (readingRegs_page hm).symm)
  have hseven : ∀ n : Lane, c.g pTherm (fLevel n) = 7 := fun n =>
    (Dev.g_congr (f := fLevel n) (k.regs _ _ (by simp [fLevel]) (by simp [fLevel]) (by decide : (pTherm, 0x04C) ∉ readingRegs))).trans
      (hlevel n)
  refine ⟨fun n => ?_, (Dev.b_congr (hrd _ _ (by decide) (by decide) (by decide))).trans (Dev.levelsBegun_active _), (hevt 5).trans hfive,
    (hevt 3).trans hthree⟩
  have hpacer : ∀ o ∈ [0x058, 0x05C], o < 4096 ∧ o ≠ 0x010 ∧ o ≠ 0x060 := by decide
  rw [← hmax, ← Dev.levelsBegun_pace hseven n]
  exact Dev.pace_congr (hrd _ _ (by decide) (by decide) (by decide)) fun o ho =>
    hrd _ _ (hpacer o ho).1 (hpacer o ho).2.1 fun e => (hpacer o ho).2.2 (congrArg Prod.snd e)

theorem reading_paces {P : State → Prop} (hc : s.calm) (hok : s.dev.SensorsOk) (hp : s.dev.powered pTherm = true)
    (ha : ∀ i < 24, ¬ deviates raws i) (hcoach : s.dev.coachUp = true) (htrip : s.dev.trip = false)
    (hb : ∀ i < 23, readingOf raws i < signed 12 (s.dev.lg pTherm fTripThr)) (hdue : s.dev.PaceDue raws)
    (hP : ∀ t : State, t.dev.ReadingSound raws → PaceYields s t →
      Kept s t { s.dev with free := s.dev.free + 48, therm := t.dev.therm } paceReadRegs [(pTherm, 3), (pTherm, 5)] → P t) :
    Yields (exec (.thermalReading raws) s) P := by
  have k := DevKept.readingEntered_sound (raws := raws) (ex := readingRegs) (ev := []) s.dev fun _ hm => hm
  have kread := DevKept.readingEntered_sound (raws := raws) (ex := paceReadRegs) (ev := [(pTherm, 3), (pTherm, 5)]) s.dev
    (List.subset_append_left _ _)
  have kp := kread.levelsBegun (List.subset_append_right _ _) (List.mem_append_left _ (mem_readingRegs (by decide))) fun _ hm => hm
  have hcoach' : (s.dev.readingEntered (soundReading raws)).coachUp = true := (congrArg Dev.coachUp k.hidden :).trans hcoach
  have htrip' : (s.dev.readingEntered (soundReading raws)).levelsBegun.trip = false := (congrArg Dev.trip kp.hidden :).trans htrip
  have hlg := kp.lg pTherm fTripThr
  refine reading_yields_sound hc hok ha ?_ (.levelsBegun _) kp (List.subset_append_left _ _) rfl (by decide)
    fun t sound settled kept => hP t sound (paceYields k hp hdue.level settled) ?_
  · rw [Dev.readingFollowed_coach hcoach', hdue.begins k, Dev.tripJudge_sound_below htrip' fun i hi => hlg.symm ▸ hb i hi]
  · rw [show t.dev.therm = _ from (congrArg Dev.therm kept.hidden :)]
    exact kept

end

end Sys2Proof.Machine
end

section
/-! Readings and the clear of failed sensors (O36, R91, R255 to R260, R262, R264). -/

open Sys2Proof Sys2Proof.Machine

namespace Sys2Proof.Machine

/-! A reading in which sensors deviate -/

section
variable {d e : Dev} {s : State} {raws : List (BitVec 12)} {l : List Sensor}

theorem Sensor.substituted_state (x : Sensor) (free i : Nat) (near main : Option Int) :
    (x.substituted free i near main).state = x.state := by
  rw [Sensor.substituted_eq]

theorem Dev.SensorsOk.judge_state (h : d.SensorsOk) (raws : List (BitVec 12)) {i : Nat} (hi : i < 24) :
    (d.sensorJudge (raws.map fun x => signed 12 x.toNat) i).state < 4 := by
  rw [h.judge raws hi]
  split
  · dsimp only
    split <;> decide
  · show snOk < 4
    decide

/-- The state of a judged sensor fits its field. -/
theorem Dev.SensorsOk.judged_state (h : d.SensorsOk) (raws : List (BitVec 12)) {x : Sensor} (hx : x ∈ d.judged raws) : x.state < 4 := by
  obtain ⟨i, hi⟩ := List.getElem?_of_mem hx
  have hlt : i < 24 := by
    rw [← d.judged_length raws]
    exact (List.getElem?_eq_some_iff.mp hi).1
  rw [Dev.judged, sensorUse_getElem? _ _ hlt (judged_getElem? hlt)] at hi
  have hstate := h.judge_state raws hlt
  obtain rfl := Option.some.inj hi
  split
  · rw [Sensor.substituted_state]
    exact hstate
  · exact hstate

/-- A sensor that stands in another state than its register has entered it. -/
theorem Dev.entered_ne {j : Nat} {x : Sensor} (hj : j < 24) (hx : l[j]? = some x) (hne : d.g pTherm (fTempState j) ≠ x.state) :
    (!(d.entered l x.state).isEmpty) = true := by
  have hmem : j ∈ d.entered l x.state := List.mem_filter.mpr ⟨List.mem_range.mpr hj, by rw [hx]; simp [hne]⟩
  rw [List.isEmpty_eq_false_iff_exists_mem.mpr ⟨j, hmem⟩]
  rfl

/-! What follows where the Coach does not run -/

theorem DevKept.mayTrip {ex ev : List (Nat × Nat)} {h : Dev} (k : DevKept ex ev d h e) (hx : tripRegs ⊆ ex) (hv : tripEvents ⊆ ev)
    (c : Bool) : ∃ g, g.life = h.life ∧ DevKept ex ev d g (e.when c (·.setTrip true)) := by
  cases c with
  | false => exact ⟨h, rfl, k⟩
  | true =>
    obtain ⟨y, ky⟩ := k.setTrip hx hv
    exact ⟨{ h with trip := true, therm := { h.therm with release := 0 }, ltx := y }, rfl, ky⟩

theorem SensorsKept.mayTrip (d : Dev) (c : Bool) : SensorsKept d (d.when c (·.setTrip true)) := by
  cases c with
  | false => exact .refl d
  | true => exact .setTrip d

/-- A trip raises no event of a reading. -/
theorem Dev.mayTrip_evt (d : Dev) (c : Bool) {x : Nat} (hx : x ≠ 6) :
    (d.when c (·.setTrip true)).evt pTherm x = d.evt pTherm x := by
  have hpage : ∀ y, (pTherm, y) ∉ squelchEvents := fun y hm => by
    obtain ⟨n, -, hm⟩ := List.mem_flatMap.mp hm
    obtain ⟨z, -, he⟩ := List.mem_map.mp hm
    exact pTherm_ne_pLtx n (congrArg Prod.fst he).symm
  cases c with
  | false => rfl
  | true =>
    obtain ⟨y, ky⟩ := (DevKept.refl (ex := tripRegs) (ev := tripEvents) d).setTrip (fun _ hm => hm) fun _ hm => hm
    refine ky.events pTherm x (fun hm => ?_) (by decide)
    rcases List.mem_cons.mp hm with he | hm
    · exact hx (congrArg Prod.snd he)
    · exact hpage x hm

/-- What the command yields, without the Coach and with no trip before it: whatever trips, the reading stands, with its events. -/
theorem reading_yields {P : State → Prop} (hc : s.calm) (hok : s.dev.SensorsOk) (hcoach : s.dev.coachUp = false)
    (htrip : s.dev.trip = false) (hP : ∀ t : State, t.dev.Shows (s.dev.judged raws) →
      (∀ x, x ≠ 6 → t.dev.evt pTherm x = (s.dev.readingEntered (s.dev.judged raws)).evt pTherm x) → P t) :
    Yields (exec (.thermalReading raws) s) P := by
  have hx : readingRegs ⊆ tripReadRegs := List.subset_append_left _ _
  have k : DevKept tripReadRegs (tripEvents ++ [(pTherm, 0), (pTherm, 1), (pTherm, 2), (pTherm, 8)]) s.dev
      (s.dev.thermRead (s.dev.judged raws)) (s.dev.readingEntered (s.dev.judged raws)) :=
    ((DevKept.refl s.dev).readingStored hx _).readingTold (hx (mem_readingRegs (by decide)))
      (fun x hm => List.mem_append_right _ (by revert x; decide)) _ _ _ _ _
  have hshows := s.dev.readingEntered_shows fun x hm => hok.judged_state raws hm
  have hread := Dev.reading_eq (hok.runs 0) raws
  rw [Dev.readingFollowed_alone ((congrArg Dev.coachUp k.hidden :).trans hcoach),
    Dev.tripJudge_off ((congrArg Dev.trip k.hidden :).trans htrip)] at hread
  generalize hb : List.any _ _ = b at hread
  obtain ⟨g, hlife, kg⟩ := k.mayTrip tripRegs_subset (List.subset_append_left _ _) b
  have kwin := kg.windowsShown (hx (mem_readingRegs (by decide))) (s.dev.judged raws)
  rw [exec_thermalReading]
  refine kwin.yields hc hread hlife (by decide) fun t settled kept => hP t ?_ fun x hx6 => ?_
  · have htherm := (congrArg Dev.therm kept.hidden :).trans kwin.therm.symm
    exact hshows.kept (((SensorsKept.mayTrip _ b).trans (.windowsShown _ _)).trans (.settled settled htherm))
  · exact (settled.evt _ _ (by decide)).trans ((Dev.windowsShown_evt ..).trans (Dev.mayTrip_evt _ b hx6))

/-- Sources 0 and 1 of a reading in which a sensor enters SUSPECT or FAILED (R256, R257). -/
theorem Dev.readingEntered_events (hp : d.powered pTherm = true) (l : List Sensor) :
    ((d.readingEntered l).evt pTherm 0 = (d.evt pTherm 0 || !(d.entered l snSuspect).isEmpty)) ∧
    ((d.readingEntered l).evt pTherm 1 = (d.evt pTherm 1 || !(d.entered l snFailed).isEmpty)) := by
  have k := (DevKept.refl (ex := readingRegs) (ev := []) d).readingStored (fun _ hm => hm) l
  obtain ⟨h0, h1⟩ := Dev.readingTold_events ((Dev.signals_therm hp).congr k.offPages) (!(d.entered l snSuspect).isEmpty)
    (!(d.entered l snFailed).isEmpty) (sensorMap (·.unchecked) l &&& ~~~ d.rd pTherm 0x058 != 0) (allFailed l) (d.b pTherm fAllFailed)
  have hevt : ∀ x, (d.readingStored l).evt pTherm x = d.evt pTherm x := fun x => k.events _ _ List.not_mem_nil (by decide)
  rw [hevt] at h0 h1
  exact ⟨h0, h1⟩

theorem Dev.Shows.temp_of {j : Nat} {x : Sensor} (h : e.Shows l) (hj : j < 24) (hx : l[j]? = some x) : TempShows e j x := by
  have ht := h.temp j hj
  rwa [List.getD_eq_getElem?_getD, hx, Option.getD_some] at ht

/-- What the command shows of sensor `j`: it stands as `x`, with source `src` raised where it entered its state. -/
theorem reading_yields_at {j : Nat} {x : Sensor} {P : State → Prop} (hc : s.calm) (hok : s.dev.SensorsOk)
    (hp : s.dev.powered pTherm = true) (hcoach : s.dev.coachUp = false) (htrip : s.dev.trip = false) (hj : j < 24)
    (hx : (s.dev.judged raws)[j]? = some x) (hne : x.state ≠ snOk)
    (hP : ∀ t : State, TempShows t.dev j x → (x.state = snSuspect → (t.dev.rd pTherm 0x054).getLsbD j = true ∧ t.dev.evt pTherm 0 = true) →
      (x.state = snFailed → (t.dev.rd pTherm 0x050).getLsbD j = true ∧ t.dev.evt pTherm 1 = true) →
      t.dev.therm.count.getD j 0 = x.count → P t) : Yields (exec (.thermalReading raws) s) P := by
  have hentered := Dev.entered_ne (d := s.dev) hj hx (by rw [hok.state j hj]; exact Ne.symm hne)
  obtain ⟨h0, h1⟩ := Dev.readingEntered_events hp (s.dev.judged raws)
  refine reading_yields hc hok hcoach htrip fun t hshows hevt => hP t (hshows.temp_of hj hx) (fun hst => ⟨?_, ?_⟩) (fun hst => ⟨?_, ?_⟩) ?_
  · rw [hshows.suspect, sensorMap_bit hj hx, hst]
    rfl
  · rw [hevt 0 (by decide), h0, ← hst, hentered, Bool.or_true]
  · rw [hshows.failed, sensorMap_bit hj hx, hst]
    rfl
  · rw [hevt 1 (by decide), h1, ← hst, hentered, Bool.or_true]
  · rw [hshows.count, List.getD_eq_getElem?_getD, List.getElem?_map, hx]
    rfl

end

/-! SENS_CLR -/

/-- The named FAILED sensors are noted for the next reading (R256). -/
def Dev.clearsNoted (d : Dev) (v : Word) : Dev := { d with therm := { d.therm with clr := d.therm.clr ||| (v &&& d.rd pTherm 0x050) } }

theorem Dev.sensClrWrite_takes {d : Dev} {w : Who} (h : d.takes w pTherm 0x05C) (v : Word) :
    d.sensClrWrite w v = (d.clearsNoted v).answered := access_takes _ _ _ _ _ h

theorem not_deviates {raws : List (BitVec 12)}
    (h : ∀ i < 24, (2 * readingOf raws i - median2 ((neighbours i).map (readingOf raws))).natAbs ≤ 64) :
    ∀ i < 24, ¬ deviates raws i := fun i hi => Nat.not_lt.mpr (h i hi)

/-- Settles O36, by the judgement of a reading, and by what follows it: nothing, the trip, or the first step of the levels. -/
theorem sensorsPaceAndTrip : Obligations.SensorsPaceAndTrip := by
  refine ⟨?below, ?trips, ?paces, ?suspect, ?failed, ?clear⟩
  case below =>
    intro s raws r hc hawake hp hclr hstate ha hcoach htrip hb
    exact reading_below hc ⟨hawake, hclr, hstate⟩ (not_deviates ha) hcoach htrip hb fun t q ht kept =>
      ⟨q.temp, q.failed, q.suspect, q.unchecked, q.all, q.hottest_ge, q.hottest, q.hotIdx, q.flash, q.otp, ⟨q.count, q.lastOk⟩, ht, kept⟩
  case trips =>
    intro s raws r hc hawake hp hclr hstate ha hcoach htrip hb
    exact reading_trips hc ⟨hawake, hclr, hstate⟩ hp (not_deviates ha) hcoach htrip hb fun t q y kept =>
      ⟨q.temp, q.failed, q.suspect, q.unchecked, q.all, q.hottest_ge, q.hottest, q.hotIdx, q.flash, q.otp, ⟨q.count, q.lastOk⟩, y.trip,
        y.shows.status, y.shows.count, y.event, y.shows.lane, kept⟩
  case paces =>
    intro s raws r hc hawake hp hclr hstate ha hcoach htrip hb hlevels hlast hscope hhot
    have hdue : s.dev.PaceDue raws := ⟨fun n => (hlevels n).2, fun n => (hlevels n).1, hlast, hscope, hhot⟩
    refine reading_paces hc ⟨hawake, hclr, hstate⟩ hp (not_deviates ha) hcoach htrip hb hdue fun t q y kept =>
      ⟨q.temp, q.failed, q.suspect, q.unchecked, q.all, q.hottest_ge, q.hottest, q.hotIdx, q.flash, q.otp, ⟨q.count, q.lastOk⟩, fun n => ?_,
        y.active, y.stepped, y.began, kept⟩
    have hlane := y.lane n
    simp only [Dev.pace, Prod.mk.injEq] at hlane
    obtain ⟨hlevel, hthermal, htarget, -⟩ := hlane
    exact ⟨hlevel, hthermal, fun _ => htarget⟩
  case suspect =>
    intro s raws j r hc hawake hp hclr hstate hj hd hcoach htrip hcount
    have hok : s.dev.SensorsOk := ⟨hawake, hclr, hstate⟩
    refine reading_yields_at hc hok hp hcoach htrip hj (hok.judged_suspect hj hd hcount) (show snSuspect ≠ snOk by decide)
      fun t htemp hsus _ hcnt => ?_
    obtain ⟨hmap, hevt⟩ := hsus rfl
    refine ⟨htemp.state, htemp.raw, fun u hu => ?_, hmap, hevt, hcnt⟩
    rw [htemp.used, hu]
    rfl
  case failed =>
    intro s raws j r hc hawake hp hclr hstate hj hd hn hcoach htrip hcount
    have hok : s.dev.SensorsOk := ⟨hawake, hclr, hstate⟩
    obtain ⟨i, hi, hle, hx⟩ := hok.judged_failed hj hd hcount fun i hi => Nat.not_lt.mpr (hn i hi)
    refine reading_yields_at hc hok hp hcoach htrip hj hx (show snFailed ≠ snOk by decide) fun t htemp _ hfail _ => ?_
    obtain ⟨hmap, hevt⟩ := hfail rfl
    exact ⟨htemp.state, ⟨i, hi, htemp.used, hle⟩, hmap, hevt⟩
  case clear =>
    intro s w v hc ht
    refine yields_of_regs (f := (·.sensClrWrite w v)) hc (Dev.sensClrWrite_takes ht v) rfl rfl fun t kept => ?_
    have htherm : t.dev.therm = (s.dev.clearsNoted v).therm := (congrArg Dev.therm kept.hidden :)
    have hclr : t.dev.therm.clr = s.dev.therm.clr ||| (v &&& s.dev.rd pTherm 0x050) := congrArg ThermH.clr htherm
    rw [hclr]
    exact ⟨rfl, kept⟩

end Sys2Proof.Machine
end

section
/-! The pages of the transmitters, their hidden parts, and the fields that a write stores as written (R128, R136, R203). -/

open Sys2Proof Sys2Proof.Machine

namespace Sys2Proof.Machine

/-! Pages and their events -/

theorem sourcesOf_pLtx (n : Lane) : sourcesOf (pLtx n) = 16 := by revert n; decide

theorem sourcesOf_pHtx (n : Lane) : sourcesOf (pHtx n) = 4 := by revert n; decide

theorem pLtx_not_referee (n : Lane) : ¬ refereePage (pLtx n) := by unfold refereePage pLtx; omega

theorem pHtx_not_referee (n : Lane) : ¬ refereePage (pHtx n) := by unfold refereePage pHtx; omega

theorem Dev.signals_ltx {d : Dev} {n : Lane} (h : d.powered (pLtx n) = true) : d.Signals (pLtx n) 16 :=
  ⟨h, (sourcesOf_pLtx n).ge, by decide, pLtx_not_referee n⟩

theorem Dev.signals_htx {d : Dev} {n : Lane} (h : d.powered (pHtx n) = true) : d.Signals (pHtx n) 4 :=
  ⟨h, (sourcesOf_pHtx n).ge, by decide, pHtx_not_referee n⟩

@[simp] theorem trial_ne_ltx (n : Lane) : pTrial ≠ pLtx n := by unfold pTrial pLtx; omega

@[simp] theorem trial_ne_htx (n : Lane) : pTrial ≠ pHtx n := by unfold pTrial pHtx; omega

/-! The hidden part of a transmitter -/

section
variable {d : Dev} {n : Lane}

theorem Dev.updLtx_updLtx (d : Dev) (n : Lane) (f g : LtxH → LtxH) : (d.updLtx n f).updLtx n g = d.updLtx n fun h => g (f h) := by
  rw [Dev.updLtx, Dev.tx_updLtx_same]
  simp [Dev.updLtx]

theorem Dev.updLtx_congr {f g : LtxH → LtxH} (h : f (d.tx n) = g (d.tx n)) : d.updLtx n f = d.updLtx n g := by
  rw [Dev.updLtx, Dev.updLtx, h]

theorem Dev.updLtx_self {f : LtxH → LtxH} (h : f (d.tx n) = d.tx n) : d.updLtx n f = d := by
  have hset : d.ltx.set n.val (d.tx n) = d.ltx := Vector.set_getElem_self n.isLt
  rw [Dev.updLtx, h, hset]

theorem Dev.updHtx_self {f : HtxH → HtxH} (h : f (d.hx n) = d.hx n) : d.updHtx n f = d := by
  have hset : d.htx.set n.val (d.hx n) = d.htx := Vector.set_getElem_self n.isLt
  rw [Dev.updHtx, h, hset]

theorem Dev.g_updLtx (d : Dev) (n : Lane) (f : LtxH → LtxH) (q : Nat) (x : Fld) : (d.updLtx n f).g q x = d.g q x := rfl

theorem Dev.rd_updLtx (d : Dev) (n : Lane) (f : LtxH → LtxH) (q o : Nat) : (d.updLtx n f).rd q o = d.rd q o := rfl

end

section
variable {s t : State} {d h e : Dev} {ex ev : List (Nat × Nat)}

theorem DevKept.tx (k : DevKept ex ev d h e) (n : Lane) : e.tx n = h.tx n := (congrArg (fun x : Dev => x.tx n) k.hidden :)

theorem DevKept.hx (k : DevKept ex ev d h e) (n : Lane) : e.hx n = h.hx n := (congrArg (fun x : Dev => x.hx n) k.hidden :)

theorem Kept.tx (k : Kept s t d ex ev) (n : Lane) : t.dev.tx n = d.tx n := (congrArg (fun x : Dev => x.tx n) k.hidden :)

theorem Kept.hx (k : Kept s t d ex ev) (n : Lane) : t.dev.hx n = d.hx n := (congrArg (fun x : Dev => x.hx n) k.hidden :)

end

/-! Fields that a write stores as written (R5, R6) -/

/-- A field stores nothing outside its own bits. -/
theorem FSpec.write_outside {f : FSpec} {i : Nat} (h : f.mask.getLsbD i = false) (old v : Word) : (f.write old v).getLsbD i = false := by
  unfold FSpec.write
  split <;> simp [h]

/-- A one-bit RW field stores the bit that is written. -/
theorem FSpec.write_bit (i rst : Nat) (hi : i < 32) (old v : Word) : ((rw i i rst).write old v).getLsbD i = v.getLsbD i := by
  simp only [FSpec.write, rw, FSpec.mask, Norm.store, BitVec.ofNat_toNat, BitVec.setWidth_eq]
  simp [hi]

theorem foldl_or_getLsbD {α : Type} (g : α → Word) (i : Nat) (l : List α) (w : Word) :
    (l.foldl (fun w a => w ||| g a) w).getLsbD i = (w.getLsbD i || l.any fun a => (g a).getLsbD i) := by
  induction l generalizing w with
  | nil => simp
  | cons a t ih => rw [List.foldl_cons, ih, BitVec.getLsbD_or, List.any_cons, Bool.or_assoc]

/-- Where bit `i` of a register is an RW field of its own, a write stores it as written. -/
theorem storeWord_bit {p off i rst : Nat} {fs : List FSpec} (hfs : (regSpec p off).map (·.fs) = some fs) (hp : ¬ (p = 0x12 ∧ off = 0x050))
    (hi : i < 32) (hmem : rw i i rst ∈ fs) (hrest : ∀ f ∈ fs, f ≠ rw i i rst → f.mask.getLsbD i = false) (old v : Word) :
    (storeWord p off old v).getLsbD i = v.getLsbD i := by
  obtain ⟨r, hr, rfl⟩ := Option.map_eq_some_iff.mp hfs
  unfold storeWord
  rw [hr]
  simp only [if_neg hp, foldl_or_getLsbD]
  rw [show (0 : Word).getLsbD i = false from BitVec.getLsbD_zero, Bool.false_or, Bool.eq_iff_iff, List.any_eq_true]
  constructor
  · rintro ⟨f, hf, hbit⟩
    by_cases he : f = rw i i rst
    · rwa [he, FSpec.write_bit i rst hi] at hbit
    · rw [FSpec.write_outside (hrest f hf he)] at hbit
      cases hbit
  · exact fun hv => ⟨_, hmem, (FSpec.write_bit i rst hi old v).trans hv⟩

/-- The same, as the field reads after the write. -/
theorem Dev.store_bit {p off i rst : Nat} {fs : List FSpec} (hfs : (regSpec p off).map (·.fs) = some fs) (hp : ¬ (p = 0x12 ∧ off = 0x050))
    (hi : i < 32) (hmem : rw i i rst ∈ fs) (hrest : ∀ f ∈ fs, f ≠ rw i i rst → f.mask.getLsbD i = false) (d : Dev) (v : Word) :
    (d.store p off v).b p ⟨off, i, 1⟩ = v.getLsbD i := by
  rw [Dev.b, Dev.g, getBits_one, Dev.store, Dev.rd_wr_same]
  exact storeWord_bit hfs hp hi hmem hrest _ v

theorem Dev.store_ltxEn (d : Dev) (n : Lane) (v : Word) : (d.store (pLtx n) 0x040 v).b (pLtx n) fLtxEn = v.getLsbD 0 :=
  Dev.store_bit (fs := [rw 1 1 0, rw 0 0 0]) (rst := 0) (by revert n; decide) (by omega) (by decide) (by decide) (by decide) d v

theorem Dev.store_sqReq (d : Dev) (n : Lane) (v : Word) : (d.store (pLtx n) 0x050 v).b (pLtx n) fSqReq = v.getLsbD 0 :=
  Dev.store_bit (fs := [rw 1 1 1, rw 0 0 0]) (rst := 0) (by revert n; decide) (by unfold pLtx; omega) (by decide) (by decide) (by decide) d v

theorem Dev.store_followClr (d : Dev) (n : Lane) (v : Word) : (d.store (pLtx n) 0x050 v).b (pLtx n) fFollowClr = v.getLsbD 1 :=
  Dev.store_bit (fs := [rw 1 1 1, rw 0 0 0]) (rst := 1) (by revert n; decide) (by unfold pLtx; omega) (by decide) (by decide) (by decide) d v

theorem Dev.store_htxReq (d : Dev) (n : Lane) (v : Word) : (d.store (pHtx n) 0x050 v).b (pHtx n) fHtxReq = v.getLsbD 0 :=
  Dev.store_bit (fs := [rw 0 0 0]) (rst := 0) (by revert n; decide) (by unfold pHtx; omega) (by decide) (by decide) (by decide) d v

end Sys2Proof.Machine
end

section
/-! A squelch reason of a line transmitter sets or clears (R128, R129). -/

open Sys2Proof Sys2Proof.Machine

namespace Sys2Proof.Machine

/-! The reasons as bits of their field -/

theorem getBits_and_ne_zero (x : Word) (lo w m : Nat) :
    (getBits x lo w &&& m != 0) = true ↔ ∃ j, j < w ∧ m.testBit j = true ∧ x.getLsbD (lo + j) = true := by
  have hbit : ∀ j, (getBits x lo w &&& m).testBit j = true ↔ j < w ∧ m.testBit j = true ∧ x.getLsbD (lo + j) = true := fun j => by
    simp only [Nat.testBit_and, getBits_testBit, Bool.and_eq_true, decide_eq_true_eq, BitVec.getLsbD]
    tauto
  rw [bne_iff_ne]
  constructor
  · exact fun h => (Nat.exists_testBit_of_ne_zero h).imp fun j hj => (hbit j).mp hj
  · rintro ⟨j, hj⟩ h0
    have htrue := (hbit j).mpr hj
    rw [h0, Nat.zero_testBit] at htrue
    cases htrue

section
variable {d : Dev} {n : Lane} {j k : Nat}

theorem Dev.b_fSq (d : Dev) (n : Lane) (k : Nat) : d.b (pLtx n) (fSq k) = (d.rd (pLtx n) 0x044).getLsbD (24 + k) := getBits_one _ _

theorem fSq_off (k : Nat) : (fSq k).off < 4096 ∧ (fSq k).off ≠ 0x010 := by simp [fSq]

theorem fSq_apart (h : j ≠ k) (hk : k < 8) : (fSq j).apart (fSq k) := by
  simp only [Fld.apart, fSq]
  omega

/-- A reason other than start is set (R128). -/
theorem Dev.sqOthers_iff : d.sqOthers n = true ↔ ∃ j, j < 6 ∧ j ≠ sqStart ∧ d.b (pLtx n) (fSq j) = true := by
  have hmask : ∀ j < 6, Nat.testBit 0b101111 j = true ↔ j ≠ sqStart := by decide
  refine (getBits_and_ne_zero ..).trans (exists_congr fun j => and_congr_right fun hj => ?_)
  rw [hmask j hj, Dev.b_fSq]
  rfl

/-- Where host is the only reason, no other one is set. -/
theorem Dev.b_fSq_host (h : d.g (pLtx n) fSqSrc = 1) (hj : j < 6) : d.b (pLtx n) (fSq j) = decide (j = sqHost) := by
  have hbit : (d.g (pLtx n) fSqSrc).testBit j = d.b (pLtx n) (fSq j) := by
    rw [Dev.g, getBits_testBit, Dev.b_fSq]
    simp [fSqSrc, hj, BitVec.getLsbD]
  rw [← hbit, h, Bool.eq_iff_iff, decide_eq_true_eq]
  exact Nat.testBit_one_eq_true_iff_self_eq_zero

theorem Dev.ltxDriven_congr {e : Dev} (hrd : e.rd (pLtx n) 0x044 = d.rd (pLtx n) 0x044) (htx : e.tx n = d.tx n) :
    e.ltxDriven n = d.ltxDriven n := by
  rw [Dev.ltxDriven, Dev.ltxDriven, htx, Dev.txState, Dev.txState, Dev.g_congr (f := fTxState) hrd, Dev.g_congr (f := fSqSrc) hrd]

/-! Setting and clearing -/

/-- The event of a reason that sets (R135). -/
def Dev.sqTold (d : Dev) (n : Lane) (k : Nat) : Dev :=
  match sqSource k with
  | some s => d.raise (pLtx n) s
  | none => d

/-- Reason `k` set, and a ramp at its end, but for the events. -/
def Dev.sqMarked (d : Dev) (n : Lane) (k : Nat) : Dev :=
  (d.sb (pLtx n) (fSq k) true).updLtx n fun h => { h with ramping := false, ramp := 0 }

theorem Dev.sqMarked_g (d : Dev) (n : Lane) (k q : Nat) (f : Fld) : (d.sqMarked n k).g q f = (d.sb (pLtx n) (fSq k) true).g q f := rfl

/-- Reason `k` cleared makes the output rise again: nothing else holds it, and its stage works (R129). -/
def Dev.sqRises (d : Dev) (n : Lane) (k : Nat) : Bool :=
  !(d.sb (pLtx n) (fSq k) false).sqOthers n && (d.tx n).powered &&
    ((d.sb (pLtx n) (fSq k) false).txState n == txRun || (d.tx n).step5)

theorem Dev.ltxSq_same {on : Bool} (h : d.b (pLtx n) (fSq k) = on) : d.ltxSq n k on = d := if_pos h

theorem Dev.ltxSq_set (h : d.b (pLtx n) (fSq k) = false) :
    d.ltxSq n k true = ((d.sqMarked n k).sqTold n k).raiseIf (d.ltxDriven n) (pLtx n) 0 := by
  unfold Dev.ltxSq
  rw [if_neg (by simp [h]), if_pos rfl]
  rfl

theorem Dev.ltxSq_clear (h : d.b (pLtx n) (fSq k) = true) :
    d.ltxSq n k false = (d.sb (pLtx n) (fSq k) false).when (d.sqRises n k) (·.ltxRamp n) := by
  unfold Dev.ltxSq
  rw [if_neg (by simp [h]), if_neg (by decide)]
  rfl

theorem EvtFrame.sqTold (d : Dev) (n : Lane) (k : Nat) : EvtFrame d (d.sqTold n k) := by
  unfold Dev.sqTold
  split
  · exact .raise _ _ _ _
  · exact .refl d

theorem EvtFrame.sqSet (d : Dev) (n : Lane) (k : Nat) (c : Bool) : EvtFrame d ((d.sqTold n k).raiseIf c (pLtx n) 0) :=
  (EvtFrame.sqTold d n k).trans (.raiseIf _ _ _ _)

theorem EvtFrame.g {d e : Dev} (h : EvtFrame d e) (p : Nat) (f : Fld) (hlt : f.off < 4096 := by decide)
    (hne : f.off ≠ 0x010 := by decide) : e.g p f = d.g p f := Dev.g_congr (h.rd p f.off hlt hne)

theorem EvtFrame.tx {d e : Dev} (h : EvtFrame d e) (n : Lane) : e.tx n = d.tx n := congrArg (·.get n) h.ltx

/-! What a reason reaches -/

theorem Dev.ltxRamp_g {f : Fld} (hs : f.apart (fSq sqStart)) (d : Dev) (n : Lane) (q : Nat) : (d.ltxRamp n).g q f = d.g q f :=
  (Dev.g_updLtx ..).trans (Dev.g_s_apart hs ..)

/-- The reason and the start reason apart, STATUS stays. -/
theorem Dev.ltxSq_g {f : Fld} (hk : f.apart (fSq k)) (hs : f.apart (fSq sqStart)) (hne : f.off ≠ 0x010) (d : Dev) (n : Lane) (on : Bool)
    (q : Nat) : (d.ltxSq n k on).g q f = d.g q f := by
  by_cases hb : d.b (pLtx n) (fSq k) = on
  · rw [Dev.ltxSq_same hb]
  · cases on with
    | true =>
      rw [Dev.ltxSq_set (by simpa using hb), (EvtFrame.sqSet _ n k _).g q f hk.1 hne, Dev.sqMarked_g]
      exact Dev.g_s_apart hk ..
    | false =>
      rw [Dev.ltxSq_clear (by simpa using hb)]
      exact (Dev.g_when (f := (·.ltxRamp n)) (Dev.ltxRamp_g hs ..) _).trans (Dev.g_s_apart hk ..)

theorem Dev.ltxSq_b_other (hjk : j ≠ k) (hk : k < 6) (hs : j ≠ sqStart) (d : Dev) (n : Lane) (on : Bool) :
    (d.ltxSq n k on).b (pLtx n) (fSq j) = d.b (pLtx n) (fSq j) := by
  rw [Dev.b, Dev.ltxSq_g (fSq_apart hjk (by omega)) (fSq_apart hs (by decide)) (fSq_off j).2, Dev.b]

/-- The reason is as it was set. -/
theorem Dev.ltxSq_b (hk : k < 6) (hs : k ≠ sqStart) (d : Dev) (n : Lane) (on : Bool) : (d.ltxSq n k on).b (pLtx n) (fSq k) = on := by
  have hfld : (fSq k).lo + (fSq k).w ≤ 32 := by simp only [fSq]; omega
  by_cases hb : d.b (pLtx n) (fSq k) = on
  · rw [Dev.ltxSq_same hb, hb]
  · cases on with
    | true =>
      rw [Dev.ltxSq_set (by simpa using hb), Dev.b, (EvtFrame.sqSet _ n k _).g _ (fSq k) (fSq_off k).1 (fSq_off k).2,
        Dev.sqMarked_g]
      exact Dev.b_sb_same _ _ _ _ hfld rfl
    | false =>
      rw [Dev.ltxSq_clear (by simpa using hb), Dev.b,
        Dev.g_when (f := (·.ltxRamp n)) (Dev.ltxRamp_g (fSq_apart hs (by decide)) ..)]
      exact Dev.b_sb_same _ _ _ _ hfld rfl

/-- A reason that sets ends a ramp. -/
theorem Dev.ltxSq_set_tx (h : d.b (pLtx n) (fSq k) = false) :
    (d.ltxSq n k true).tx n = { d.tx n with ramping := false, ramp := 0 } := by
  rw [Dev.ltxSq_set h, (EvtFrame.sqSet _ n k _).tx]
  exact Dev.tx_updLtx_same ..

/-- A reason that clears starts a ramp where the output rises. -/
theorem Dev.ltxSq_clear_rises (h : d.b (pLtx n) (fSq k) = true) (hr : d.sqRises n k = true) :
    d.ltxSq n k false = (d.sb (pLtx n) (fSq k) false).ltxRamp n := by
  rw [Dev.ltxSq_clear h, hr]
  rfl

theorem Dev.ltxSq_clear_stays (h : d.b (pLtx n) (fSq k) = true) (hr : d.sqRises n k = false) :
    d.ltxSq n k false = d.sb (pLtx n) (fSq k) false := by
  rw [Dev.ltxSq_clear h, hr]
  rfl

/-- Nothing rises while another reason but start is set. -/
theorem Dev.sqRises_held (hjk : j ≠ k) (hj : j < 6) (hk : k < 6) (hs : j ≠ sqStart) (hb : d.b (pLtx n) (fSq j) = true) :
    d.sqRises n k = false := by
  have hothers : (d.sb (pLtx n) (fSq k) false).sqOthers n = true :=
    Dev.sqOthers_iff.mpr ⟨j, hj, hs, (Dev.b_s_apart (fSq_apart hjk (by omega)) ..).trans hb⟩
  rw [Dev.sqRises, hothers]
  rfl

/-- The output of a running stage rises when its only reason, host, clears. -/
theorem Dev.sqRises_host (hsrc : d.g (pLtx n) fSqSrc = 1) (hp : (d.tx n).powered = true) (hst : d.txState n = txRun) :
    d.sqRises n sqHost = true := by
  have hothers : (d.sb (pLtx n) (fSq sqHost) false).sqOthers n = false := by
    refine Bool.eq_false_iff.mpr fun h => ?_
    obtain ⟨j, hj, -, hb⟩ := Dev.sqOthers_iff.mp h
    by_cases h0 : j = sqHost
    · rw [h0, Dev.b_sb_same _ _ _ _ (by decide) rfl] at hb
      cases hb
    · rw [Dev.sb, Dev.b_s_apart (fSq_apart h0 (by decide)), Dev.b_fSq_host hsrc hj, decide_eq_false h0] at hb
      cases hb
  have hrun : (d.sb (pLtx n) (fSq sqHost) false).txState n = txRun := (Dev.g_s_apart (by decide) ..).trans hst
  rw [Dev.sqRises, hothers, hp, hrun]
  rfl

/-! Events -/

/-- A reason that sets on a driven output raises squelch_on (R129). -/
theorem Dev.ltxSq_evt_on (hs : d.Signals (pLtx n) 16) (on : Bool) :
    (d.ltxSq n k on).evt (pLtx n) 0 = (d.evt (pLtx n) 0 || (on && !d.b (pLtx n) (fSq k) && d.ltxDriven n)) := by
  have hmark : (d.sqMarked n k).Signals (pLtx n) 16 := hs.congr rfl
  have htold : ((d.sqMarked n k).sqTold n k).evt (pLtx n) 0 = d.evt (pLtx n) 0 := by
    have hsrc : ∀ s, sqSource k = some s → 0 ≠ s := by
      intro s h
      unfold sqSource at h
      split at h <;> cases h <;> decide
    have hevt : (d.sqMarked n k).evt (pLtx n) 0 = d.evt (pLtx n) 0 := Dev.evt_wr _ _ _ _ (fSq_off k).1 (fSq_off k).2
    unfold Dev.sqTold
    split
    case h_1 s h => exact (hmark.raiseIf_other (hsrc s h) true).trans hevt
    case h_2 => exact hevt
  by_cases hb : d.b (pLtx n) (fSq k) = on
  · rw [Dev.ltxSq_same hb, hb]
    cases on <;> simp
  · cases on with
    | true =>
      have hb' : d.b (pLtx n) (fSq k) = false := by simpa using hb
      rw [Dev.ltxSq_set hb', (hmark.congr (EvtFrame.sqTold _ n k).offPages).raiseIf (by decide), htold, hb']
      simp
    | false =>
      have hevt : ∀ v c, ((d.sb (pLtx n) (fSq k) v).when c (·.ltxRamp n)).evt (pLtx n) 0 = d.evt (pLtx n) 0 := fun v c =>
        (Dev.when_keeps (·.evt (pLtx n) 0) (f := (·.ltxRamp n)) (Dev.evt_wr _ _ _ _ (by decide) (by decide)) c).trans
          (Dev.evt_wr _ _ _ _ (fSq_off k).1 (fSq_off k).2)
      rw [Dev.ltxSq_clear (by simpa using hb), hevt]
      simp

/-- A reason that sets raises its own event (R135). -/
theorem Dev.ltxSq_set_evt {x : Nat} (hs : d.Signals (pLtx n) 16) (h : d.b (pLtx n) (fSq k) = false) (hx : sqSource k = some x)
    (hx0 : x ≠ 0) (hlt : x < 16) : (d.ltxSq n k true).evt (pLtx n) x = true := by
  have hmark : (d.sqMarked n k).Signals (pLtx n) 16 := hs.congr rfl
  have htold : ((d.sqMarked n k).sqTold n k).evt (pLtx n) x = true := by
    unfold Dev.sqTold
    rw [hx]
    exact hmark.raise hlt
  rw [Dev.ltxSq_set h, (hmark.congr (EvtFrame.sqTold _ n k).offPages).raiseIf_other hx0]
  exact htold

/-! What stays -/

section
variable {ex ev : List (Nat × Nat)} {h e : Dev}

theorem DevKept.sqTold (kp : DevKept ex ev d h e) (hv : ∀ s, sqSource k = some s → (pLtx n, s) ∈ ev) :
    DevKept ex ev d h (e.sqTold n k) := by
  unfold Dev.sqTold
  split
  case h_1 s hs => exact kp.raise (hv s hs)
  case h_2 => exact kp

/-- A reason that sets reaches STATUS, the ramp, its own event and squelch_on. -/
theorem DevKept.ltxSq_set (kp : DevKept ex ev d h e) (h44 : (pLtx n, 0x044) ∈ ex) (h0 : (pLtx n, 0) ∈ ev)
    (hv : ∀ s, sqSource k = some s → (pLtx n, s) ∈ ev) (hb : e.b (pLtx n) (fSq k) = false) :
    DevKept ex ev d (h.updLtx n fun x => { x with ramping := false, ramp := 0 }) (e.ltxSq n k true) := by
  rw [Dev.ltxSq_set hb]
  have kmark := (kp.sb (f := fSq k) true h44 (fSq_off k).1 (fSq_off k).2).updLtx n
    fun x => { x with ramping := false, ramp := 0 }
  exact (DevKept.sqTold (k := k) kmark hv).raiseIf _ h0

/-- Of the hidden state a reason reaches the ramp alone. -/
theorem DevKept.ltxSq (kp : DevKept ex ev d h e) (h44 : (pLtx n, 0x044) ∈ ex) (h0 : (pLtx n, 0) ∈ ev)
    (hv : ∀ s, sqSource k = some s → (pLtx n, s) ∈ ev) (on : Bool) :
    ∃ r m, DevKept ex ev d (h.updLtx n fun x => { x with ramping := r, ramp := m }) (e.ltxSq n k on) := by
  have hself : h.updLtx n (fun x => { x with ramping := (h.tx n).ramping, ramp := (h.tx n).ramp }) = h := Dev.updLtx_self rfl
  by_cases hb : e.b (pLtx n) (fSq k) = on
  · exact ⟨_, _, by rw [hself, Dev.ltxSq_same hb]; exact kp⟩
  · cases on with
    | true => exact ⟨false, 0, kp.ltxSq_set h44 h0 hv (by simpa using hb)⟩
    | false =>
      have kclear := kp.sb (f := fSq k) false h44 (fSq_off k).1 (fSq_off k).2
      rw [Dev.ltxSq_clear (by simpa using hb), Dev.when]
      split
      · exact ⟨true, 1, (kclear.sb (f := fSq sqStart) true h44).updLtx n _⟩
      · exact ⟨_, _, by rw [hself]; exact kclear⟩

end

end

end Sys2Proof.Machine
end

section
/-! A write to SQUELCH and an output fault of a line transmitter (R128, R129). -/

open Sys2Proof Sys2Proof.Machine

namespace Sys2Proof.Machine

section
variable {d e h : Dev} {n : Lane} {j k : Nat} {ex ev : List (Nat × Nat)}

theorem Dev.ltxSq_clrLow (d : Dev) (n : Lane) (k : Nat) (on : Bool) : (d.ltxSq n k on).clrLow = d.clrLow := by
  have hv : ∀ s, sqSource k = some s → (pLtx n, s) ∈ [(pLtx n, 0), (pLtx n, 2), (pLtx n, 3), (pLtx n, 15)] := by
    intro s hs
    unfold sqSource at hs
    split at hs <;> cases hs <;> simp
  obtain ⟨r, m, kp⟩ := (DevKept.refl (ex := [(pLtx n, 0x044)]) d).ltxSq (n := n) (by simp) (by simp) hv on
  exact (congrArg Dev.clrLow kp.hidden :)

/-- Behind another reason the output does not rise. -/
theorem Dev.ltxSq_held_ramping (hjk : j ≠ k) (hj : j < 6) (hk : k < 6) (hs : j ≠ sqStart) (hb : d.b (pLtx n) (fSq j) = true)
    (hr : (d.tx n).ramping = false) (on : Bool) : ((d.ltxSq n k on).tx n).ramping = false := by
  by_cases hsame : d.b (pLtx n) (fSq k) = on
  · rwa [Dev.ltxSq_same hsame]
  · cases on with
    | true => rw [Dev.ltxSq_set_tx (by simpa using hsame)]
    | false =>
      rw [Dev.ltxSq_clear_stays (by simpa using hsame) (Dev.sqRises_held hjk hj hk hs hb)]
      exact hr

/-! The two reasons of SQUELCH -/

/-- The transmitter with the reasons host and clr at new levels (R128). -/
def Dev.sqWritten (d : Dev) (n : Lane) (host clr : Bool) : Dev := (d.ltxSq n sqHost host).ltxSq n sqClr clr

theorem Dev.sqWritten_host (d : Dev) (n : Lane) (host clr : Bool) : (d.sqWritten n host clr).b (pLtx n) (fSq sqHost) = host :=
  (Dev.ltxSq_b_other (by decide) (by decide) (by decide) _ n clr).trans (Dev.ltxSq_b (by decide) (by decide) d n host)

theorem Dev.sqWritten_clr (d : Dev) (n : Lane) (host clr : Bool) : (d.sqWritten n host clr).b (pLtx n) (fSq sqClr) = clr :=
  Dev.ltxSq_b (by decide) (by decide) _ n clr

/-- A host reason that sets silences a driven output, whatever clr does. -/
theorem Dev.sqWritten_silenced (hs : d.Signals (pLtx n) 16) (hb : d.b (pLtx n) (fSq sqHost) = false) (hd : d.ltxDriven n = true)
    (clr : Bool) : (d.sqWritten n true clr).evt (pLtx n) 0 = true ∧ ((d.sqWritten n true clr).tx n).ramping = false := by
  have hoff : (d.ltxSq n sqHost true).offPages = d.offPages := by
    rw [Dev.ltxSq_set hb, (EvtFrame.sqSet _ n sqHost _).offPages]
    rfl
  have hevt : (d.ltxSq n sqHost true).evt (pLtx n) 0 = true := by
    rw [Dev.ltxSq_evt_on hs, hb, hd]
    simp
  have hramp : ((d.ltxSq n sqHost true).tx n).ramping = false := by rw [Dev.ltxSq_set_tx hb]
  refine ⟨?_, Dev.ltxSq_held_ramping (by decide) (by decide) (by decide) (by decide) (Dev.ltxSq_b (by decide) (by decide) d n true) hramp clr⟩
  rw [Dev.sqWritten, Dev.ltxSq_evt_on (hs.congr hoff), hevt, Bool.true_or]

/-- A clr reason that sets raises its event and ends a ramp, whatever host has done. -/
theorem Dev.sqWritten_cleared (hs : d.Signals (pLtx n) 16) (hb : d.b (pLtx n) (fSq sqClr) = false) (host : Bool) :
    (d.sqWritten n host true).evt (pLtx n) 3 = true ∧ ((d.sqWritten n host true).tx n).ramping = false := by
  have hclear : (d.ltxSq n sqHost host).b (pLtx n) (fSq sqClr) = false :=
    (Dev.ltxSq_b_other (by decide) (by decide) (by decide) d n host).trans hb
  obtain ⟨r, m, kp⟩ := (DevKept.refl (ex := [(pLtx n, 0x044)]) (ev := [(pLtx n, 0)]) d).ltxSq (n := n) (k := sqHost) (by simp) (by simp)
    (by nofun) host
  refine ⟨Dev.ltxSq_set_evt (hs.congr kp.offPages) hclear rfl (by decide) (by decide), ?_⟩
  rw [Dev.sqWritten, Dev.ltxSq_set_tx hclear]

/-- Where host is the only reason, its end on a running stage starts a ramp. -/
theorem Dev.sqWritten_rises (hsrc : d.g (pLtx n) fSqSrc = 1) (hp : (d.tx n).powered = true) (hst : d.txState n = txRun) :
    d.sqWritten n false false = (d.sb (pLtx n) (fSq sqHost) false).ltxRamp n := by
  have hhost : d.b (pLtx n) (fSq sqHost) = true := Dev.b_fSq_host hsrc (by decide)
  have hclr : d.b (pLtx n) (fSq sqClr) = false := Dev.b_fSq_host hsrc (by decide)
  rw [Dev.sqWritten, Dev.ltxSq_same ((Dev.ltxSq_b_other (by decide) (by decide) (by decide) d n false).trans hclr)]
  exact Dev.ltxSq_clear_rises hhost (Dev.sqRises_host hsrc hp hst)

theorem Dev.ltxRamp_reads (d : Dev) (n : Lane) : ((d.ltxRamp n).tx n).ramping = true ∧ ((d.ltxRamp n).tx n).ramp = 1 ∧
    (d.ltxRamp n).b (pLtx n) (fSq sqStart) = true := by
  rw [Dev.ltxRamp, Dev.tx_updLtx_same, Dev.b, Dev.g_updLtx]
  exact ⟨rfl, rfl, Dev.b_sb_same _ _ _ _ (by decide) rfl⟩

theorem DevKept.sqWritten (kp : DevKept ex ev d h e) (h44 : (pLtx n, 0x044) ∈ ex) (h0 : (pLtx n, 0) ∈ ev) (h3 : (pLtx n, 3) ∈ ev)
    (host clr : Bool) : ∃ r m, DevKept ex ev d (h.updLtx n fun x => { x with ramping := r, ramp := m }) (e.sqWritten n host clr) := by
  obtain ⟨r, m, kh⟩ := kp.ltxSq (k := sqHost) h44 h0 (by nofun) host
  obtain ⟨_, _, kc⟩ := kh.ltxSq (k := sqClr) h44 h0 (by rintro x ⟨⟩; exact h3) clr
  rw [Dev.updLtx_updLtx] at kc
  exact ⟨_, _, kc⟩

end

/-! The write -/

theorem Dev.ltxSquelchWrite_takes {d : Dev} {w : Who} {n : Lane} (ht : d.takes w (pLtx n) 0x050) (v : Word) : d.ltxSquelchWrite w n v =
    ((d.store (pLtx n) 0x050 v).sqWritten n (v.getLsbD 0) (d.clrLow && v.getLsbD 1)).answered := by
  have hfollow : ∀ on, ((d.store (pLtx n) 0x050 v).ltxSq n sqHost on).b (pLtx n) fFollowClr = v.getLsbD 1 := fun on => by
    rw [Dev.b, Dev.ltxSq_g (by decide) (by decide) (by decide), ← d.store_followClr n v, Dev.b]
  have hwrite : d.ltxSquelchWrite w n v = (((d.store (pLtx n) 0x050 v).ltxSq n sqHost
      ((d.store (pLtx n) 0x050 v).b (pLtx n) fSqReq)).ltxFollow n).answered := access_takes _ _ _ _ _ ht
  rw [hwrite, d.store_sqReq n v, Dev.ltxFollow, hfollow, Dev.ltxSq_clrLow]
  rfl

/-- What a write to SQUELCH of a line transmitter shows and keeps (R128, R129). -/
structure SquelchWritten (s t : State) (n : Lane) (v : Word) : Prop where
  word : t.dev.rd (pLtx n) 0x050 = storeWord (pLtx n) 0x050 (s.dev.rd (pLtx n) 0x050) v
  follow : t.dev.b (pLtx n) fFollowClr = v.getLsbD 1
  host : t.dev.b (pLtx n) (fSq sqHost) = v.getLsbD 0
  clr : t.dev.b (pLtx n) (fSq sqClr) = (s.dev.clrLow && v.getLsbD 1)
  silenced : s.dev.b (pLtx n) (fSq sqHost) = false → v.getLsbD 0 = true → s.dev.ltxDriven n = true →
    t.dev.evt (pLtx n) 0 = true ∧ (t.dev.tx n).ramping = false
  cleared : s.dev.b (pLtx n) (fSq sqClr) = false → s.dev.clrLow = true → v.getLsbD 1 = true →
    t.dev.evt (pLtx n) 3 = true ∧ (t.dev.tx n).ramping = false
  rises : s.dev.g (pLtx n) fSqSrc = 1 → v.getLsbD 0 = false → s.dev.clrLow = false → (s.dev.tx n).powered = true →
    s.dev.txState n = txRun → (t.dev.tx n).ramping = true ∧ (t.dev.tx n).ramp = 1 ∧ t.dev.b (pLtx n) (fSq sqStart) = true
  kept : Kept s t (s.dev.answered.updLtx n fun h => { h with ramping := (t.dev.tx n).ramping, ramp := (t.dev.tx n).ramp })
    [(pLtx n, 0x050), (pLtx n, 0x044)] [(pLtx n, 0), (pLtx n, 3)]

/-- SQUELCH_REQ and FOLLOW_CLR of a line transmitter. -/
theorem squelchWrite_line {s : State} {w : Who} {n : Lane} {v : Word} (hc : s.calm) (ht : s.dev.takes w (pLtx n) 0x050) :
    Yields (act s (·.ltxSquelchWrite w n v)) fun t => SquelchWritten s t n v := by
  have hs := Dev.signals_ltx ht.powered
  have hwrite := Dev.ltxSquelchWrite_takes ht v
  have kstore : DevKept [(pLtx n, 0x050), (pLtx n, 0x044)] [(pLtx n, 0), (pLtx n, 3)] s.dev s.dev (s.dev.store (pLtx n) 0x050 v) :=
    (DevKept.refl _).wr _ (by simp)
  have hword : (s.dev.store (pLtx n) 0x050 v).rd (pLtx n) 0x050 = _ := s.dev.rd_wr_same _ _ _
  have hfollow := s.dev.store_followClr n v
  have hstatus : (s.dev.store (pLtx n) 0x050 v).rd (pLtx n) 0x044 = s.dev.rd (pLtx n) 0x044 :=
    s.dev.rd_wr_off (by decide) (by decide) (by decide) _
  generalize s.dev.store (pLtx n) 0x050 v = e at *
  have hse : e.Signals (pLtx n) 16 := hs.congr kstore.offPages
  have htx : e.tx n = s.dev.tx n := kstore.tx n
  have hreason : ∀ k, e.b (pLtx n) (fSq k) = s.dev.b (pLtx n) (fSq k) := fun k => Dev.b_congr (f := fSq k) hstatus
  obtain ⟨r, m, kp⟩ := kstore.sqWritten (n := n) (by simp) (by simp) (by simp) (v.getLsbD 0) (s.dev.clrLow && v.getLsbD 1)
  obtain ⟨_, _, kw⟩ := (DevKept.refl (ex := [(pLtx n, 0x044)]) (ev := [(pLtx n, 0), (pLtx n, 3)]) e).sqWritten (n := n) (by simp) (by simp) (by simp)
    (v.getLsbD 0) (s.dev.clrLow && v.getLsbD 1)
  refine kp.answered.yields hc hwrite rfl (by simp) fun t hans kept => ?_
  have hset := hans.unanswered
  have htt : t.dev.tx n = (e.sqWritten n (v.getLsbD 0) (s.dev.clrLow && v.getLsbD 1)).tx n := (kept.tx n).trans (kp.tx n).symm
  have hramp : (t.dev.tx n).ramping = r ∧ (t.dev.tx n).ramp = m := by
    rw [htt, kp.tx, Dev.tx_updLtx_same]
    exact ⟨rfl, rfl⟩
  exact {
    word := (hset.rd _ _ (by decide) (by decide)).trans ((kw.regs _ _ (by decide) (by decide) (by simp)).trans hword)
    follow := (hset.b _ fFollowClr).trans ((kw.b (by simp [fFollowClr])).trans hfollow)
    host := (hset.b _ (fSq sqHost)).trans (e.sqWritten_host ..)
    clr := (hset.b _ (fSq sqClr)).trans (e.sqWritten_clr ..)
    silenced := fun hb hv hd => by
      rw [htt, hset.evt _ _ hs.not_three, hv]
      exact Dev.sqWritten_silenced hse ((hreason _).trans hb) ((Dev.ltxDriven_congr hstatus htx).trans hd) _
    cleared := fun hb hlow hv => by
      rw [htt, hset.evt _ _ hs.not_three, hlow, hv]
      exact Dev.sqWritten_cleared hse ((hreason _).trans hb) _
    rises := fun hsrc hv hlow hp hst => by
      rw [htt, hset.b _ (fSq sqStart), hlow, hv, Bool.false_and, Dev.sqWritten_rises ((Dev.g_congr hstatus).trans hsrc) (by rw [htx, hp])
        ((Dev.g_congr hstatus).trans hst)]
      exact Dev.ltxRamp_reads _ n
    kept := by
      rw [hramp.1, hramp.2]
      exact kept }

/-! The output fault -/

/-- OUT_FAULT of a line transmitter. -/
theorem outFault_line {s : State} {n : Lane} (hc : s.calm) (hr : s.dev.runs (pLtx n)) (hp : (s.dev.tx n).powered = true)
    (hb : s.dev.b (pLtx n) (fSq sqOutFault) = false) : Yields (exec (.outFault .line n) s) fun t =>
      t.dev.b (pLtx n) (fSq sqOutFault) = true ∧ t.dev.evt (pLtx n) 15 = true ∧
      t.dev.evt (pLtx n) 0 = (s.dev.evt (pLtx n) 0 || s.dev.ltxDriven n) ∧
      Kept s t (s.dev.updLtx n fun h => { h with ramping := false, ramp := 0 }) [(pLtx n, 0x044)] [(pLtx n, 0), (pLtx n, 15)] := by
  have hs := Dev.signals_ltx hr.powered
  have kp := (DevKept.refl (ex := [(pLtx n, 0x044)]) (ev := [(pLtx n, 0), (pLtx n, 15)]) s.dev).ltxSq_set (n := n) (k := sqOutFault)
    (by simp) (by simp) (by rintro x ⟨⟩; simp) hb
  refine kp.yieldsOn hc hr (f := fun d => d.when (d.tx n).powered (·.ltxSq n sqOutFault true)) (by rw [hp]; rfl) rfl (by simp)
    fun t hset kept => ⟨?_, ?_, ?_, kept⟩
  · exact (hset.b _ (fSq sqOutFault)).trans (Dev.ltxSq_b (by decide) (by decide) _ n true)
  · exact (hset.evt _ _ hs.not_three).trans (Dev.ltxSq_set_evt hs hb rfl (by decide) (by decide))
  · rw [hset.evt _ _ hs.not_three, Dev.ltxSq_evt_on hs, hb]
    rfl

end Sys2Proof.Machine
end

section
/-! Squelch and output fault of a host transmitter (R129, R180). -/

open Sys2Proof Sys2Proof.Machine

namespace Sys2Proof.Machine

section
variable {d e h : Dev} {n : Lane} {j k : Nat} {ex ev : List (Nat × Nat)}

theorem fHtxSq_off (k : Nat) : (fHtxSq k).off < 4096 ∧ (fHtxSq k).off ≠ 0x010 := by simp [fHtxSq]

theorem fHtxSq_apart (h : j ≠ k) (hk : k < 4) : (fHtxSq j).apart (fHtxSq k) := by
  simp only [Fld.apart, fHtxSq]
  omega

theorem Dev.b_fHtxSq (d : Dev) (n : Lane) (k : Nat) : d.b (pHtx n) (fHtxSq k) = (d.rd (pHtx n) 0x044).getLsbD (8 + k) := getBits_one _ _

/-- A reason other than start is set (R180). -/
theorem Dev.htxOthers_iff : d.htxOthers n = true ↔ ∃ j, j < 4 ∧ j ≠ 2 ∧ d.b (pHtx n) (fHtxSq j) = true := by
  have hmask : ∀ j < 4, Nat.testBit 0b1011 j = true ↔ j ≠ 2 := by decide
  refine (getBits_and_ne_zero ..).trans (exists_congr fun j => and_congr_right fun hj => ?_)
  rw [hmask j hj, Dev.b_fHtxSq]
  rfl

/-- Where host is the only reason, no other one is set. -/
theorem Dev.b_fHtxSq_host (h : d.g (pHtx n) fHtxSqSrc = 1) (hj : j < 4) : d.b (pHtx n) (fHtxSq j) = decide (j = 0) := by
  have hbit : (d.g (pHtx n) fHtxSqSrc).testBit j = d.b (pHtx n) (fHtxSq j) := by
    rw [Dev.g, getBits_testBit, Dev.b_fHtxSq]
    simp [fHtxSqSrc, hj, BitVec.getLsbD]
  rw [← hbit, h, Bool.eq_iff_iff, decide_eq_true_eq]
  exact Nat.testBit_one_eq_true_iff_self_eq_zero

theorem Dev.htxDriven_congr (hrd : e.rd (pHtx n) 0x044 = d.rd (pHtx n) 0x044) (hhx : e.hx n = d.hx n) :
    e.htxDriven n = d.htxDriven n := by
  rw [Dev.htxDriven, Dev.htxDriven, hhx, Dev.htxState, Dev.htxState, Dev.g_congr (f := fHtxState) hrd, Dev.g_congr (f := fHtxSqSrc) hrd]

/-! Setting and clearing -/

/-- Reason `k` set, and a ramp at its end, but for the events. -/
def Dev.htxMarked (d : Dev) (n : Lane) (k : Nat) : Dev :=
  (d.sb (pHtx n) (fHtxSq k) true).updHtx n fun h => { h with ramping := false, ramp := 0 }

/-- Reason `k` cleared makes the output rise again: nothing else holds it, and its stage is powered (R129, R180). -/
def Dev.htxRises (d : Dev) (n : Lane) (k : Nat) : Bool := !(d.sb (pHtx n) (fHtxSq k) false).htxOthers n && (d.hx n).powered

theorem Dev.htxMarked_b (hk : k < 4) (d : Dev) (n : Lane) : (d.htxMarked n k).b (pHtx n) (fHtxSq k) = true := by
  rw [Dev.htxMarked, Dev.b, Dev.g_updHtx]
  exact Dev.b_sb_same _ _ _ _ (by simp only [fHtxSq]; omega) rfl

theorem Dev.htxSq_same {on : Bool} (h : d.b (pHtx n) (fHtxSq k) = on) : d.htxSq n k on = d := if_pos h

theorem Dev.htxSq_set (h : d.b (pHtx n) (fHtxSq k) = false) :
    d.htxSq n k true = ((d.htxMarked n k).raiseIf (k == 3) (pHtx n) 2).raiseIf (d.htxDriven n) (pHtx n) 0 := by
  unfold Dev.htxSq
  rw [if_neg (by simp [h]), if_pos rfl]
  rfl

theorem Dev.htxSq_clear (h : d.b (pHtx n) (fHtxSq k) = true) :
    d.htxSq n k false = (d.sb (pHtx n) (fHtxSq k) false).when (d.htxRises n k) (·.htxRamp n) := by
  unfold Dev.htxSq
  rw [if_neg (by simp [h]), if_neg (by decide)]
  rfl

/-- The reason is as it was set. -/
theorem Dev.htxSq_b (hk : k < 4) (hs : k ≠ 2) (d : Dev) (n : Lane) (on : Bool) : (d.htxSq n k on).b (pHtx n) (fHtxSq k) = on := by
  by_cases hb : d.b (pHtx n) (fHtxSq k) = on
  · rw [Dev.htxSq_same hb, hb]
  · cases on with
    | true =>
      have hf := (EvtFrame.raiseIf (d.htxMarked n k) (k == 3) (pHtx n) 2).trans (.raiseIf _ (d.htxDriven n) (pHtx n) 0)
      rw [Dev.htxSq_set (by simpa using hb), Dev.b, hf.g _ (fHtxSq k) (fHtxSq_off k).1 (fHtxSq_off k).2]
      exact d.htxMarked_b hk n
    | false =>
      have hramp : ∀ c : Dev, (c.htxRamp n).g (pHtx n) (fHtxSq k) = c.g (pHtx n) (fHtxSq k) := fun c =>
        (Dev.g_updHtx ..).trans (Dev.g_s_apart (fHtxSq_apart hs (by decide)) ..)
      rw [Dev.htxSq_clear (by simpa using hb), Dev.b, Dev.g_when (f := (·.htxRamp n)) (hramp _)]
      exact Dev.b_sb_same _ _ _ _ (by simp only [fHtxSq]; omega) rfl

/-- A reason that sets ends a ramp. -/
theorem Dev.htxSq_set_hx (h : d.b (pHtx n) (fHtxSq k) = false) :
    (d.htxSq n k true).hx n = { d.hx n with ramping := false, ramp := 0 } := by
  have hf := (EvtFrame.raiseIf (d.htxMarked n k) (k == 3) (pHtx n) 2).trans (.raiseIf _ (d.htxDriven n) (pHtx n) 0)
  have hhx : _ = (d.htxMarked n k).hx n := congrArg (·.get n) hf.htx
  rw [Dev.htxSq_set h]
  exact hhx.trans (Dev.hx_updHtx_same ..)

/-- The only reason, host, clears on a powered stage: a ramp starts. -/
theorem Dev.htxSq_rises (hsrc : d.g (pHtx n) fHtxSqSrc = 1) (hp : (d.hx n).powered = true) :
    d.htxSq n 0 false = (d.sb (pHtx n) (fHtxSq 0) false).htxRamp n := by
  have hothers : (d.sb (pHtx n) (fHtxSq 0) false).htxOthers n = false := by
    refine Bool.eq_false_iff.mpr fun h => ?_
    obtain ⟨j, hj, -, hb⟩ := Dev.htxOthers_iff.mp h
    by_cases h0 : j = 0
    · rw [h0, Dev.b_sb_same _ _ _ _ (by decide) rfl] at hb
      cases hb
    · rw [Dev.sb, Dev.b_s_apart (fHtxSq_apart h0 (by decide)), Dev.b_fHtxSq_host hsrc hj, decide_eq_false h0] at hb
      cases hb
  rw [Dev.htxSq_clear (Dev.b_fHtxSq_host hsrc (by decide)), Dev.htxRises, hothers, hp]
  rfl

theorem Dev.htxRamp_reads (d : Dev) (n : Lane) : ((d.htxRamp n).hx n).ramping = true ∧ ((d.htxRamp n).hx n).ramp = 1 ∧
    (d.htxRamp n).b (pHtx n) (fHtxSq 2) = true := by
  rw [Dev.htxRamp, Dev.hx_updHtx_same, Dev.b, Dev.g_updHtx]
  exact ⟨rfl, rfl, Dev.b_sb_same _ _ _ _ (by decide) rfl⟩

/-! Events and what stays -/

theorem Dev.htxMarked_evt (d : Dev) (n : Lane) (k x : Nat) : (d.htxMarked n k).evt (pHtx n) x = d.evt (pHtx n) x :=
  Dev.evt_wr _ _ _ _ (fHtxSq_off k).1 (fHtxSq_off k).2

/-- A reason that sets raises squelch_on where the output was driven (R129). -/
theorem Dev.htxSq_set_evt_on (hs : d.Signals (pHtx n) 4) (hb : d.b (pHtx n) (fHtxSq k) = false) :
    (d.htxSq n k true).evt (pHtx n) 0 = (d.evt (pHtx n) 0 || d.htxDriven n) := by
  have hmark : (d.htxMarked n k).Signals (pHtx n) 4 := hs.congr rfl
  rw [Dev.htxSq_set hb, (hmark.congr (Dev.raiseIf_offPages ..)).raiseIf (by decide), hmark.raiseIf_other (by decide), Dev.htxMarked_evt]

/-- The output fault raises its own event (R180). -/
theorem Dev.htxSq_fault_evt (hs : d.Signals (pHtx n) 4) (hb : d.b (pHtx n) (fHtxSq 3) = false) :
    (d.htxSq n 3 true).evt (pHtx n) 2 = true := by
  have hmark : (d.htxMarked n 3).Signals (pHtx n) 4 := hs.congr rfl
  rw [Dev.htxSq_set hb, (hmark.congr (Dev.raiseIf_offPages ..)).raiseIf_other (by decide)]
  exact hmark.raise (by decide)

theorem DevKept.htxSq_set (kp : DevKept ex ev d h e) (h44 : (pHtx n, 0x044) ∈ ex) (h0 : (pHtx n, 0) ∈ ev)
    (h2 : k = 3 → (pHtx n, 2) ∈ ev) (hb : e.b (pHtx n) (fHtxSq k) = false) :
    DevKept ex ev d (h.updHtx n fun x => { x with ramping := false, ramp := 0 }) (e.htxSq n k true) := by
  have kmark := (kp.sb (f := fHtxSq k) true h44 (fHtxSq_off k).1 (fHtxSq_off k).2).updHtx n fun x => { x with ramping := false, ramp := 0 }
  rw [Dev.htxSq_set hb]
  by_cases hk : k = 3
  · exact (kmark.raiseIf _ (h2 hk)).raiseIf _ h0
  · rw [beq_false_of_ne hk]
    exact kmark.raiseIf _ h0

/-- Of the hidden state the host reason reaches the ramp alone. -/
theorem DevKept.htxSq_host (kp : DevKept ex ev d h e) (h44 : (pHtx n, 0x044) ∈ ex) (h0 : (pHtx n, 0) ∈ ev) (on : Bool) :
    ∃ r m, DevKept ex ev d (h.updHtx n fun x => { x with ramping := r, ramp := m }) (e.htxSq n 0 on) := by
  have hself : h.updHtx n (fun x => { x with ramping := (h.hx n).ramping, ramp := (h.hx n).ramp }) = h := Dev.updHtx_self rfl
  by_cases hb : e.b (pHtx n) (fHtxSq 0) = on
  · exact ⟨_, _, by rw [hself, Dev.htxSq_same hb]; exact kp⟩
  · cases on with
    | true => exact ⟨false, 0, kp.htxSq_set h44 h0 (by nofun) (by simpa using hb)⟩
    | false =>
      have kclear := kp.sb (f := fHtxSq 0) false h44
      rw [Dev.htxSq_clear (by simpa using hb), Dev.when]
      split
      · exact ⟨true, 1, (kclear.sb (f := fHtxSq 2) true h44).updHtx n _⟩
      · exact ⟨_, _, by rw [hself]; exact kclear⟩

end

/-! The commands -/

section
variable {s : State} {w : Who} {n : Lane} {v : Word}

theorem Dev.htxSquelchWrite_takes {d : Dev} (ht : d.takes w (pHtx n) 0x050) (v : Word) :
    d.htxSquelchWrite w n v = ((d.store (pHtx n) 0x050 v).htxSq n 0 (v.getLsbD 0)).answered := by
  rw [← d.store_htxReq n v]
  exact access_takes _ _ _ _ _ ht

/-- SQUELCH_REQ of a host transmitter. -/
theorem squelchReq_host (hc : s.calm) (ht : s.dev.takes w (pHtx n) 0x050) : Yields (exec (.squelchReq .host w n v) s) fun t =>
      t.dev.rd (pHtx n) 0x050 = storeWord (pHtx n) 0x050 (s.dev.rd (pHtx n) 0x050) v ∧
      t.dev.b (pHtx n) (fHtxSq 0) = v.getLsbD 0 ∧
      (s.dev.b (pHtx n) (fHtxSq 0) = false → v.getLsbD 0 = true → s.dev.htxDriven n = true →
        t.dev.evt (pHtx n) 0 = true ∧ (t.dev.hx n).ramping = false) ∧
      (s.dev.g (pHtx n) fHtxSqSrc = 1 → v.getLsbD 0 = false → (s.dev.hx n).powered = true →
        (t.dev.hx n).ramping = true ∧ (t.dev.hx n).ramp = 1 ∧ t.dev.b (pHtx n) (fHtxSq 2) = true) ∧
      Kept s t (s.dev.answered.updHtx n fun h => { h with ramping := (t.dev.hx n).ramping, ramp := (t.dev.hx n).ramp })
        [(pHtx n, 0x050), (pHtx n, 0x044)] [(pHtx n, 0)] := by
  have hs := Dev.signals_htx ht.powered
  have hwrite := Dev.htxSquelchWrite_takes ht v
  have kstore : DevKept [(pHtx n, 0x050), (pHtx n, 0x044)] [(pHtx n, 0)] s.dev s.dev (s.dev.store (pHtx n) 0x050 v) :=
    (DevKept.refl _).wr _ (by simp)
  have hword : (s.dev.store (pHtx n) 0x050 v).rd (pHtx n) 0x050 = _ := s.dev.rd_wr_same _ _ _
  have hstatus : (s.dev.store (pHtx n) 0x050 v).rd (pHtx n) 0x044 = s.dev.rd (pHtx n) 0x044 :=
    s.dev.rd_wr_off (by decide) (by decide) (by decide) _
  generalize s.dev.store (pHtx n) 0x050 v = e at *
  have hse : e.Signals (pHtx n) 4 := hs.congr kstore.offPages
  have hhx : e.hx n = s.dev.hx n := kstore.hx n
  obtain ⟨r, m, kp⟩ := kstore.htxSq_host (n := n) (by simp) (by simp) (v.getLsbD 0)
  obtain ⟨_, _, kw⟩ := (DevKept.refl (ex := [(pHtx n, 0x044)]) (ev := [(pHtx n, 0)]) e).htxSq_host (n := n) (by simp) (by simp) (v.getLsbD 0)
  refine kp.answered.yields hc (f := (·.htxSquelchWrite w n v)) hwrite rfl (by simp) fun t hans kept => ?_
  have hset := hans.unanswered
  have htt : t.dev.hx n = (e.htxSq n 0 (v.getLsbD 0)).hx n := (kept.hx n).trans (kp.hx n).symm
  have hramp : (t.dev.hx n).ramping = r ∧ (t.dev.hx n).ramp = m := by
    rw [htt, kp.hx, Dev.hx_updHtx_same]
    exact ⟨rfl, rfl⟩
  refine ⟨?_, ?_, fun hb hv hd => ?_, fun hsrc hv hp => ?_, ?_⟩
  · exact (hset.rd _ _ (by decide) (by decide)).trans ((kw.regs _ _ (by decide) (by decide) (by simp)).trans hword)
  · exact (hset.b _ (fHtxSq 0)).trans (Dev.htxSq_b (by decide) (by decide) ..)
  · have heb : e.b (pHtx n) (fHtxSq 0) = false := (Dev.b_congr (f := fHtxSq 0) hstatus).trans hb
    rw [htt, hset.evt _ _ hs.not_three, hv, Dev.htxSq_set_evt_on hse heb, Dev.htxDriven_congr hstatus hhx, hd, Dev.htxSq_set_hx heb]
    exact ⟨Bool.or_true _, rfl⟩
  · rw [htt, hset.b _ (fHtxSq 2), hv, Dev.htxSq_rises ((Dev.g_congr hstatus).trans hsrc) (by rw [hhx, hp])]
    exact Dev.htxRamp_reads _ n
  · rw [hramp.1, hramp.2]
    exact kept

/-- OUT_FAULT of a host transmitter. -/
theorem outFault_host (hc : s.calm) (hr : s.dev.runs (pHtx n)) (hp : (s.dev.hx n).powered = true)
    (hb : s.dev.b (pHtx n) (fHtxSq 3) = false) : Yields (exec (.outFault .host n) s) fun t =>
      t.dev.b (pHtx n) (fHtxSq 3) = true ∧ t.dev.evt (pHtx n) 2 = true ∧
      t.dev.evt (pHtx n) 0 = (s.dev.evt (pHtx n) 0 || s.dev.htxDriven n) ∧
      Kept s t (s.dev.updHtx n fun h => { h with ramping := false, ramp := 0 }) [(pHtx n, 0x044)] [(pHtx n, 0), (pHtx n, 2)] := by
  have hs := Dev.signals_htx hr.powered
  have kp := (DevKept.refl (ex := [(pHtx n, 0x044)]) (ev := [(pHtx n, 0), (pHtx n, 2)]) s.dev).htxSq_set (n := n) (k := 3)
    (by simp) (by simp) (by simp) hb
  refine kp.yieldsOn hc hr (f := fun d => d.when (d.hx n).powered (·.htxSq n 3 true)) (by rw [hp]; rfl) rfl (by simp)
    fun t hset kept => ⟨?_, ?_, ?_, kept⟩
  · exact (hset.b _ (fHtxSq 3)).trans (Dev.htxSq_b (by decide) (by decide) _ n true)
  · exact (hset.evt _ _ hs.not_three).trans (Dev.htxSq_fault_evt hs hb)
  · exact (hset.evt _ _ hs.not_three).trans (Dev.htxSq_set_evt_on hs hb)

end

end Sys2Proof.Machine
end

section
/-! Enable, start-up and OFF of a line transmitter, and the unsquelch ramps (O19, R124, R125, R127, R129, R132, R180). -/

open Sys2Proof Sys2Proof.Machine

namespace Sys2Proof.Machine

/-! LANE_CTRL -/

section
variable {d : Dev} {w : Who} {n : Lane}

theorem Dev.ltxCtrlWrite_set (ht : d.takes w (pLtx n) 0x040) (v : Word) :
    d.ltxCtrlWrite w n (v ||| 1) = ((d.store (pLtx n) 0x040 (v ||| 1)).ltxEnable n).answered := by
  have hen : (d.store (pLtx n) 0x040 (v ||| 1)).b (pLtx n) fLtxEn = true := by
    rw [Dev.store_ltxEn]
    simp
  rw [Dev.ltxCtrlWrite, access_takes _ _ _ _ _ ht]
  exact congrArg Dev.answered (if_pos hen)

theorem Dev.ltxCtrlWrite_clear (ht : d.takes w (pLtx n) 0x040) (v : Word) :
    d.ltxCtrlWrite w n (v &&& ~~~ 1) = ((d.store (pLtx n) 0x040 (v &&& ~~~ 1)).ltxOff n).answered := by
  have hen : (d.store (pLtx n) 0x040 (v &&& ~~~ 1)).b (pLtx n) fLtxEn = false := by
    rw [Dev.store_ltxEn]
    simp
  rw [Dev.ltxCtrlWrite, access_takes _ _ _ _ _ ht]
  exact congrArg Dev.answered (if_neg (by rw [hen]; decide))

end

/-! OFF to START -/

/-- The registers of a transmitter that enters START (R127 step 1). -/
def Dev.startMarked (d : Dev) (n : Lane) : Dev :=
  (((d.s (pLtx n) fTxState txStart).sb (pLtx n) (fSq sqStart) true).sb (pLtx n) (fSq sqOutFault) false).s (pLtx n) fSkewLiveCoarse
    (d.g (pLtx n) fSkewCoarse)

/-- The hidden part of a transmitter that enters START, with invert and cm taken (R127 step 1). -/
def LtxH.started (invert cm : Nat) (h : LtxH) : LtxH :=
  { h with powered := false, step5 := false, invert := invert, cm := cm, ramping := false, ramp := 0 }

section
variable {d h e : Dev} {n : Lane} {ex ev : List (Nat × Nat)}

theorem Dev.ltxEnable_on (hst : d.txState n ≠ txOff) : d.ltxEnable n = d := if_pos (by simpa using hst)

theorem Dev.startMarked_g (d : Dev) (n : Lane) {f : Fld} (h : ∀ x ∈ [fTxState, fSq sqStart, fSq sqOutFault, fSkewLiveCoarse], f.apart x)
    (q : Nat) : (d.startMarked n).g q f = d.g q f := by
  rw [Dev.startMarked, Dev.g_s_apart (h fSkewLiveCoarse (by simp)), Dev.sb, Dev.g_s_apart (h (fSq sqOutFault) (by simp)), Dev.sb,
    Dev.g_s_apart (h (fSq sqStart) (by simp)), Dev.g_s_apart (h fTxState (by simp))]

theorem Dev.ltxEnable_off (hst : d.txState n = txOff) : d.ltxEnable n =
    (d.startMarked n).updLtx n (LtxH.started (d.g (pLtx n) fLtxInvert) (d.g (pLtx n) fOutCm)) := by
  have hskew : (((d.s (pLtx n) fTxState txStart).sb (pLtx n) (fSq sqStart) true).sb (pLtx n) (fSq sqOutFault) false).g (pLtx n) fSkewCoarse =
      d.g (pLtx n) fSkewCoarse := by
    simp (disch := decide) only [Dev.sb, Dev.g_s_apart]
  have hinv := d.startMarked_g n (f := fLtxInvert) (by decide) (pLtx n)
  have hcm := d.startMarked_g n (f := fOutCm) (by decide) (pLtx n)
  rw [← hinv, ← hcm, Dev.startMarked, ← hskew]
  exact if_neg (by rw [hst]; decide)

theorem Dev.startMarked_reads (d : Dev) (n : Lane) : (d.startMarked n).txState n = txStart ∧ (d.startMarked n).b (pLtx n) (fSq sqStart) = true ∧
    (d.startMarked n).b (pLtx n) (fSq sqOutFault) = false ∧
    (d.startMarked n).g (pLtx n) fSkewLiveCoarse = d.g (pLtx n) fSkewCoarse := by
  rw [Dev.b, Dev.b, Dev.startMarked, Dev.txState]
  simp (disch := decide) only [Dev.sb, Dev.g_s_apart, Dev.g_s_same]
  exact ⟨rfl, rfl, rfl, Nat.mod_eq_of_lt (d.g_lt _ fSkewCoarse)⟩

theorem DevKept.startMarked (k : DevKept ex ev d h e) (h44 : (pLtx n, 0x044) ∈ ex) (h5C : (pLtx n, 0x05C) ∈ ex) :
    DevKept ex ev d h (e.startMarked n) :=
  (((k.s (f := fTxState) txStart h44).sb (f := fSq sqStart) true h44).sb (f := fSq sqOutFault) false h44).s (f := fSkewLiveCoarse) _ h5C

end

/-- LTX_EN_SET. -/
theorem ltxEnSet_starts {s : State} {w : Who} {n : Lane} {v : Word} (hc : s.calm) (ht : s.dev.takes w (pLtx n) 0x040) :
    Yields (exec (.ltxEnSet w n v) s) fun t =>
      t.dev.rd (pLtx n) 0x040 = storeWord (pLtx n) 0x040 (s.dev.rd (pLtx n) 0x040) (v ||| 1) ∧
      (s.dev.txState n = txOff → t.dev.txState n = txStart ∧ t.dev.b (pLtx n) (fSq sqStart) = true ∧
        t.dev.b (pLtx n) (fSq sqOutFault) = false ∧ t.dev.g (pLtx n) fSkewLiveCoarse = s.dev.g (pLtx n) fSkewCoarse) ∧
      (s.dev.txState n ≠ txOff → t.dev.rd (pLtx n) 0x044 = s.dev.rd (pLtx n) 0x044 ∧ t.dev.rd (pLtx n) 0x05C = s.dev.rd (pLtx n) 0x05C) ∧
      Kept s t (if s.dev.txState n = txOff then
        s.dev.answered.updLtx n (LtxH.started (t.dev.g (pLtx n) fLtxInvert) (s.dev.g (pLtx n) fOutCm)) else s.dev.answered)
        (regsOf (pLtx n) [0x040, 0x044, 0x05C]) [] := by
  have he := Dev.ltxCtrlWrite_set ht v
  have kstore : DevKept (regsOf (pLtx n) [0x040, 0x044, 0x05C]) [] s.dev s.dev (s.dev.store (pLtx n) 0x040 (v ||| 1)) :=
    (DevKept.refl _).wr _ (by simp [regsOf])
  have hword : (s.dev.store (pLtx n) 0x040 (v ||| 1)).rd (pLtx n) 0x040 = _ := s.dev.rd_wr_same _ _ _
  have hoff : ∀ o < 4096, o ≠ 0x040 → (s.dev.store (pLtx n) 0x040 (v ||| 1)).rd (pLtx n) o = s.dev.rd (pLtx n) o := fun o ho hne =>
    s.dev.rd_wr_off (by decide) ho hne _
  generalize s.dev.store (pLtx n) 0x040 (v ||| 1) = e at *
  have hst : e.txState n = s.dev.txState n := Dev.g_congr (f := fTxState) (hoff _ (by decide) (by decide))
  by_cases h0 : s.dev.txState n = txOff
  · rw [Dev.ltxEnable_off (hst.trans h0)] at he
    have kmark := kstore.startMarked (n := n) (by simp [regsOf]) (by simp [regsOf])
    have konly := (DevKept.refl (ex := [(pLtx n, 0x044), (pLtx n, 0x05C)]) (ev := []) e).startMarked (n := n) (by simp) (by simp)
    obtain ⟨hstate, hstart, hfault, hskew⟩ := e.startMarked_reads n
    have hcm : e.g (pLtx n) fOutCm = s.dev.g (pLtx n) fOutCm := Dev.g_congr (hoff _ (by decide) (by decide))
    refine (kmark.updLtx n (LtxH.started (e.g (pLtx n) fLtxInvert) (e.g (pLtx n) fOutCm))).answered.yields hc (f := (·.ltxCtrlWrite w n (v ||| 1))) he rfl
      (by simp [regsOf]) fun t hans kept => ?_
    have hset := hans.unanswered
    have hinv : t.dev.g (pLtx n) fLtxInvert = e.g (pLtx n) fLtxInvert := (hset.g _ fLtxInvert).trans (konly.g (by simp [fLtxInvert]))
    refine ⟨?_, fun _ => ⟨?_, ?_, ?_, ?_⟩, fun h => absurd h0 h, ?_⟩
    · exact (hset.rd _ _ (by decide) (by decide)).trans ((konly.regs _ _ (by decide) (by decide) (by simp)).trans hword)
    · exact (hset.g _ fTxState).trans hstate
    · exact (hset.b _ (fSq sqStart)).trans hstart
    · exact (hset.b _ (fSq sqOutFault)).trans hfault
    · exact (hset.g _ fSkewLiveCoarse).trans (hskew.trans (Dev.g_congr (hoff _ (by decide) (by decide))))
    · rw [if_pos h0, hinv, ← hcm]
      exact kept
  · rw [Dev.ltxEnable_on (hst ▸ h0)] at he
    refine kstore.answered.yields hc (f := (·.ltxCtrlWrite w n (v ||| 1))) he rfl (by simp [regsOf]) fun t hans kept => ?_
    have hset := hans.unanswered
    have hrd : ∀ o < 4096, o ≠ 0x010 → o ≠ 0x040 → t.dev.rd (pLtx n) o = s.dev.rd (pLtx n) o := fun o ho h10 h40 =>
      (hset.rd _ _ ho h10).trans (hoff o ho h40)
    exact ⟨(hset.rd _ _ (by decide) (by decide)).trans hword, fun h => absurd h h0,
      fun _ => ⟨hrd _ (by decide) (by decide) (by decide), hrd _ (by decide) (by decide) (by decide)⟩, by rw [if_neg h0]; exact kept⟩

/-! The enable run and the ramps -/

/-- A run that starts, with the settings it samples (R127, R130). -/
def Dev.ltxRun (d : Dev) (n : Lane) (forced : Bool) : CalRun :=
  ⟨forced, false, if forced then 0 else d.g (pLtx n) fDacStep, 1, d.rd (pLtx n) 0x064⟩

section
variable {d h e : Dev} {n : Lane} {ex ev : List (Nat × Nat)}

theorem DevKept.ltxRunBegin (k : DevKept ex ev d h e) (h44 : (pLtx n, 0x044) ∈ ex) (forced : Bool) :
    DevKept ex ev d (h.updLtx n fun x => { x with run := some (e.ltxRun n forced), again := false, wait := .none }) (e.ltxRunBegin n forced) :=
  ((k.updLtx n _).sb (f := fLtxCalBusy) true h44).sb (f := fLtxCalPending) false h44

theorem Dev.ltxRunBegin_reads (d : Dev) (n : Lane) (forced : Bool) : (d.ltxRunBegin n forced).b (pLtx n) fLtxCalBusy = true ∧
    (d.ltxRunBegin n forced).b (pLtx n) fLtxCalPending = false := by
  refine ⟨(Dev.b_s_apart (by decide) ..).trans ?_, Dev.b_sb_same _ _ _ _ (by decide) rfl⟩
  exact Dev.b_sb_same _ _ _ _ (by decide) rfl

end

/-- A command that begins a calibration run of a transmitter, on a device that differs in its hidden part alone. -/
theorem ltxRunBegin_yields {s : State} {n : Lane} {f : Dev → Dev} {g : LtxH → LtxH} {forced : Bool} (hc : s.calm) (hr : s.dev.runs (pLtx n))
    (he : f s.dev = (s.dev.updLtx n g).ltxRunBegin n forced) : Yields (actOn (pLtx n) s f) fun t =>
      t.dev.b (pLtx n) fLtxCalBusy = true ∧ t.dev.b (pLtx n) fLtxCalPending = false ∧
      Kept s t (s.dev.updLtx n fun h => { g h with run := some (s.dev.ltxRun n forced), again := false, wait := .none })
        [(pLtx n, 0x044)] [] := by
  have k := ((DevKept.refl (ex := [(pLtx n, 0x044)]) (ev := []) s.dev).updLtx n g).ltxRunBegin (n := n) (by simp) forced
  obtain ⟨hbusy, hpend⟩ := (s.dev.updLtx n g).ltxRunBegin_reads n forced
  rw [Dev.updLtx_updLtx] at k
  exact k.yieldsOn hc hr he rfl (by simp) fun t hset kept => ⟨(hset.b _ fLtxCalBusy).trans hbusy, (hset.b _ fLtxCalPending).trans hpend, kept⟩

section
variable {s : State} {n : Lane}

/-- LTX_START_POWERED. -/
theorem ltxStartPowered_runs (hc : s.calm) (hr : s.dev.runs (pLtx n)) (hst : s.dev.txState n = txStart) (hp : (s.dev.tx n).powered = false) :
    Yields (exec (.ltxStartPowered n) s) fun t => t.dev.b (pLtx n) fLtxCalBusy = true ∧ t.dev.b (pLtx n) fLtxCalPending = false ∧
      Kept s t (s.dev.updLtx n fun h => { h with powered := true, run := some ⟨true, false, 0, 1, s.dev.rd (pLtx n) 0x064⟩,
                                                 again := false, wait := .none }) [(pLtx n, 0x044)] [] :=
  ltxRunBegin_yields (g := fun h => { h with powered := true }) hc hr (if_pos ⟨hst, by rw [hp]; rfl⟩)

/-- UNSQUELCH_RAMP_STEP of a line transmitter. -/
theorem rampStep_line (hc : s.calm) (hr : s.dev.runs (pLtx n)) (hramp : (s.dev.tx n).ramping = true) (hlt : (s.dev.tx n).ramp < 16) :
    Yields (exec (.unsquelchRampStep .line n) s) fun t => Kept s t (s.dev.updLtx n fun h => { h with ramp := h.ramp + 1 }) [] [] :=
  ((DevKept.refl s.dev).updLtx n _).yieldsOn hc hr (f := (·.ltxRampStep n)) (if_pos ⟨hramp, hlt⟩) rfl (by simp) fun _ _ kept => kept

/-- UNSQUELCH_RAMP_STEP of a host transmitter. -/
theorem rampStep_host (hc : s.calm) (hr : s.dev.runs (pHtx n)) (hramp : (s.dev.hx n).ramping = true) (hlt : (s.dev.hx n).ramp < 16) :
    Yields (exec (.unsquelchRampStep .host n) s) fun t => Kept s t (s.dev.updHtx n fun h => { h with ramp := h.ramp + 1 }) [] [] :=
  ((DevKept.refl s.dev).updHtx n _).yieldsOn hc hr (f := (·.htxRampStep n)) (if_pos ⟨hramp, hlt⟩) rfl (by simp) fun _ _ kept => kept

/-- The line transmitter at the end of a ramp, before squelch_off (R129). -/
def Dev.rampEnded (d : Dev) (n : Lane) : Dev :=
  (d.updLtx n fun h => { h with ramping := false, ramp := 0 }).sb (pLtx n) (fSq sqStart) false

/-- UNSQUELCH_RAMP_END of a line transmitter. -/
theorem rampEnd_line (hc : s.calm) (hr : s.dev.runs (pLtx n)) (hramp : (s.dev.tx n).ramping = true) (h16 : (s.dev.tx n).ramp = 16) :
    Yields (exec (.unsquelchRampEnd .line n) s) fun t =>
      t.dev.b (pLtx n) (fSq sqStart) = false ∧ t.dev.evt (pLtx n) 1 = true ∧ t.dev.txState n = txRun ∧
      Kept s t (s.dev.updLtx n fun h => { h with ramping := false, ramp := 0 }) [(pLtx n, 0x044)] [(pLtx n, 1)] := by
  have hs := Dev.signals_ltx hr.powered
  have hse : (s.dev.rampEnded n).Signals (pLtx n) 16 := hs.congr rfl
  have hstart : (s.dev.rampEnded n).b (pLtx n) (fSq sqStart) = false := Dev.b_sb_same _ _ _ _ (by decide) rfl
  have k : DevKept [(pLtx n, 0x044)] [(pLtx n, 1)] s.dev _ (s.dev.rampEnded n) :=
    ((DevKept.refl s.dev).updLtx n fun h => { h with ramping := false, ramp := 0 }).sb (f := fSq sqStart) false (by simp [fSq])
  have he : s.dev.ltxRampEnd n = ((s.dev.rampEnded n).raise (pLtx n) 1).s (pLtx n) fTxState txRun := if_pos ⟨hramp, h16⟩
  generalize s.dev.rampEnded n = e at *
  refine ((k.raise (p := pLtx n) (src := 1) (by simp)).s (f := fTxState) txRun (by simp [fTxState])).yieldsOn hc hr (f := (·.ltxRampEnd n)) he rfl (by simp)
    fun t hset kept => ⟨?_, ?_, ?_, kept⟩
  · exact (hset.b _ (fSq sqStart)).trans ((Dev.b_s_apart (by decide) ..).trans ((Dev.b_raise ..).trans hstart))
  · exact (hset.evt _ _ hs.not_three).trans ((Dev.evt_wr _ _ _ _).trans (hse.raise (by decide)))
  · exact (hset.g _ fTxState).trans (Dev.g_s_same _ _ _ _ (by decide))

/-- The host transmitter at the end of a ramp, before squelch_off (R129, R180). -/
def Dev.htxRampEnded (d : Dev) (n : Lane) : Dev :=
  (d.updHtx n fun h => { h with ramping := false, ramp := 0 }).sb (pHtx n) (fHtxSq 2) false

/-- The state that a host transmitter in START leaves for (R180 step 4). -/
def Dev.servedState (d : Dev) (n : Lane) : Nat :=
  if d.htxState n = htStart then (if d.wuInForce n then htFrames else htData) else d.htxState n

theorem Dev.wuInForce_congr {d e : Dev} {n : Lane} (hst : e.hostState n = d.hostState n) (hen : e.b (pHrx n) fWuEn = d.b (pHrx n) fWuEn)
    (hlive : e.live = d.live) (hhr : e.hr n = d.hr n) : e.wuInForce n = d.wuInForce n := by
  have hnear : e.hostNear n = d.hostNear n := by rw [Dev.hostNear, Dev.hostNear, Dev.lg, Dev.lg, Dev.lrd, Dev.lrd, hlive]
  rw [Dev.wuInForce, Dev.wuInForce, hst, hen, hnear, hhr]

theorem Dev.htxServe_state (d : Dev) (n : Lane) : (d.htxServe n).htxState n = d.servedState n := by
  unfold Dev.htxServe Dev.servedState
  split
  · refine (Dev.g_s_same _ _ _ _ (by decide)).trans ?_
    split <;> rfl
  · rfl

theorem Dev.htxServe_b (d : Dev) (n : Lane) : (d.htxServe n).b (pHtx n) (fHtxSq 2) = d.b (pHtx n) (fHtxSq 2) := by
  unfold Dev.htxServe
  split
  · exact Dev.b_s_apart (by decide) ..
  · rfl

theorem Dev.htxServe_evt (d : Dev) (n : Lane) (x : Nat) : (d.htxServe n).evt (pHtx n) x = d.evt (pHtx n) x := by
  unfold Dev.htxServe
  split
  · exact Dev.evt_wr _ _ _ _
  · rfl

theorem DevKept.htxServe {ex ev : List (Nat × Nat)} {d h e : Dev} (k : DevKept ex ev d h e) (h44 : (pHtx n, 0x044) ∈ ex) :
    DevKept ex ev d h (e.htxServe n) := by
  unfold Dev.htxServe
  split
  · exact k.s (f := fHtxState) _ h44
  · exact k

/-- UNSQUELCH_RAMP_END of a host transmitter. -/
theorem rampEnd_host (hc : s.calm) (hr : s.dev.runs (pHtx n)) (hramp : (s.dev.hx n).ramping = true) (h16 : (s.dev.hx n).ramp = 16) :
    Yields (exec (.unsquelchRampEnd .host n) s) fun t =>
      t.dev.b (pHtx n) (fHtxSq 2) = false ∧ t.dev.evt (pHtx n) 1 = true ∧ t.dev.htxState n = s.dev.servedState n ∧
      Kept s t (s.dev.updHtx n fun h => { h with ramping := false, ramp := 0 }) [(pHtx n, 0x044)] [(pHtx n, 1)] := by
  have hs := Dev.signals_htx hr.powered
  have hse : (s.dev.htxRampEnded n).Signals (pHtx n) 4 := hs.congr rfl
  have hstart : (s.dev.htxRampEnded n).b (pHtx n) (fHtxSq 2) = false := Dev.b_sb_same _ _ _ _ (by decide) rfl
  have hstate : (s.dev.htxRampEnded n).htxState n = s.dev.htxState n := Dev.g_s_apart (by decide) ..
  have k : DevKept [(pHtx n, 0x044)] [(pHtx n, 1)] s.dev _ (s.dev.htxRampEnded n) :=
    ((DevKept.refl s.dev).updHtx n fun h => { h with ramping := false, ramp := 0 }).sb (f := fHtxSq 2) false (by simp [fHtxSq])
  have he : s.dev.htxRampEnd n = ((s.dev.htxRampEnded n).raise (pHtx n) 1).htxServe n := if_pos ⟨hramp, h16⟩
  generalize s.dev.htxRampEnded n = e at *
  have kr := k.raise (p := pHtx n) (src := 1) (by simp)
  have hwu : (e.raise (pHtx n) 1).wuInForce n = s.dev.wuInForce n :=
    Dev.wuInForce_congr (kr.g (by simp)) (kr.b (by simp)) (congrArg Dev.live kr.hidden :) (congrArg (fun x : Dev => x.hr n) kr.hidden :)
  refine (kr.htxServe (n := n) (by simp)).yieldsOn hc hr (f := (·.htxRampEnd n)) he rfl (by simp) fun t hset kept => ⟨?_, ?_, ?_, kept⟩
  · exact (hset.b _ (fHtxSq 2)).trans ((Dev.htxServe_b ..).trans ((Dev.b_raise ..).trans hstart))
  · exact (hset.evt _ _ hs.not_three).trans ((Dev.htxServe_evt ..).trans (hse.raise (by decide)))
  · refine (hset.g _ fHtxState).trans ((Dev.htxServe_state ..).trans ?_)
    have hraise : (e.raise (pHtx n) 1).htxState n = s.dev.htxState n := (Dev.g_raise ..).trans hstate
    rw [Dev.servedState, Dev.servedState, hwu, hraise]

end

end Sys2Proof.Machine
end

section
/-! A line transmitter goes to OFF, and O19 (R120, R124, R125, R127, R132). -/

open Sys2Proof Sys2Proof.Machine

namespace Sys2Proof.Machine

/-! Sets in banks -/

theorem ltxBank_range (bank : Nat) : 0x800 ≤ ltxBank bank ∧ ltxBank bank ≤ 0xC00 := by
  unfold ltxBank
  split <;> decide

theorem setOffs_lt : ∀ o ∈ setOffs, o < 0x200 := by decide

theorem setOffs_nodup : setOffs.Nodup := by decide

/-- The registers of a bank of a line transmitter. -/
abbrev ltxBankRegs (n : Lane) (bank : Nat) : List (Nat × Nat) := regsOf (pLtx n) (setOffs.map (ltxBank bank + ·))

theorem ltxBankRegs_range {n : Lane} {bank p o : Nat} (h : (p, o) ∈ ltxBankRegs n bank) : p = pLtx n ∧ 0x800 ≤ o := by
  obtain ⟨hp, ho⟩ := mem_regsOf.mp h
  obtain ⟨x, -, rfl⟩ := List.mem_map.mp ho
  exact ⟨hp, Nat.le_add_right_of_le (ltxBank_range bank).1⟩

section
variable {d h e : Dev} {ex ev : List (Nat × Nat)} {p base : Nat}

theorem DevKept.putWords (k : DevKept ex ev d h e) {offs : List Nat} (hx : ∀ o ∈ offs, (p, base + o) ∈ ex)
    (hlt : ∀ o ∈ offs, base + o < 4096) (hne : 0x010 < base) (ws : List Word) : DevKept ex ev d h (e.putWords p base offs ws) :=
  k.foldl fun _ x hm kc => kc.wr x.2 (hx _ (List.of_mem_zip hm).1) (hlt _ (List.of_mem_zip hm).1) (by omega)

/-- Words written at offsets apart read back. -/
theorem Dev.putWords_rd (d : Dev) {offs : List Nat} (hlt : ∀ o ∈ offs, base + o < 4096) (hne : 0x010 < base) (hnd : offs.Nodup)
    (ws : List Word) : ∀ x ∈ offs.zip ws, (d.putWords p base offs ws).rd p (base + x.1) = x.2 := by
  induction offs generalizing d ws with
  | nil => simp
  | cons o t ih =>
    cases ws with
    | nil => simp
    | cons w u =>
      obtain ⟨ho, ht⟩ := List.nodup_cons.mp hnd
      have hrest : ∀ y ∈ t, base + y < 4096 := fun y hy => hlt y (List.mem_cons_of_mem _ hy)
      rintro x hx
      rcases List.mem_cons.mp hx with rfl | hx
      · have kt := (DevKept.refl (ex := regsOf p (t.map (base + ·))) (ev := []) (d.wr p (base + o) w)).putWords (p := p)
          (fun y hy => mem_regsOf.mpr ⟨rfl, List.mem_map_of_mem hy⟩) hrest hne u
        refine (kt.regs p (base + o) (hlt o (.head _)) (by omega) fun hm => ?_).trans (d.rd_wr_same _ _ _)
        obtain ⟨y, hy, hyo⟩ := List.mem_map.mp (mem_regsOf.mp hm).2
        exact ho (Nat.add_left_cancel hyo ▸ hy)
      · exact ih (d.wr p (base + o) w) hrest ht u x hx

variable {n : Lane} {bank : Nat}

theorem DevKept.ltxPut (k : DevKept ex ev d h e) (hx : ltxBankRegs n bank ⊆ ex) (ws : List Word) :
    DevKept ex ev d h (e.ltxPut n bank ws) := by
  have hbank := ltxBank_range bank
  exact k.putWords (fun o ho => hx (mem_regsOf.mpr ⟨rfl, List.mem_map_of_mem ho⟩))
    (fun o ho => by have := setOffs_lt o ho; omega) (by omega) ws

/-- A bank holds the set that enters it (R120). -/
theorem Dev.ltxPut_rd (d : Dev) (n : Lane) (bank : Nat) (ws : List Word) :
    ∀ x ∈ setOffs.zip ws, (d.ltxPut n bank ws).rd (pLtx n) (ltxBank bank + x.1) = x.2 := by
  have hbank := ltxBank_range bank
  exact d.putWords_rd (fun o ho => by have := setOffs_lt o ho; omega) (by omega) setOffs_nodup ws

/-- Before the banks, a set that enters one shows nowhere. -/
theorem Dev.ltxPut_rd_before (d : Dev) (n : Lane) (bank : Nat) (ws : List Word) {q o : Nat} (ho : o < 0x800) (hne : o ≠ 0x010) :
    (d.ltxPut n bank ws).rd q o = d.rd q o :=
  ((DevKept.refl (ev := []) d).ltxPut (List.Subset.refl (ltxBankRegs n bank)) ws).regs q o (by omega) hne fun hm =>
    absurd (ltxBankRegs_range hm).2 (by omega)

theorem Dev.ltxFlip_live (d : Dev) (n : Lane) : (d.ltxFlip n).ltxLive n = 1 - d.ltxLive n :=
  (Dev.g_s_same _ _ _ _ (by decide)).trans (Nat.mod_eq_of_lt (Nat.lt_of_le_of_lt (Nat.sub_le _ _) (by decide)))

end

/-! Sets and fades end -/

/-- No set is on its way and no fade in progress (R132). -/
def Dev.setsDropped (d : Dev) (n : Lane) : Dev :=
  ((d.updLtx n fun h => { h with pend := none, copy := none, req := false }).sb (pLtx n) fLtxFade false).s (pLtx n) fFadeStep 0

/-- The hidden part of a line transmitter in OFF (R127, R132). -/
def LtxH.stopped (h : LtxH) : LtxH :=
  { h with pend := none, copy := none, req := false, run := none, again := false, wait := .none, powered := false, step5 := false,
           ramping := false, ramp := 0 }

/-- What a line transmitter in OFF shows (R124, R125, R127, R132). -/
structure Dev.TransmitterOff (d : Dev) (n : Lane) : Prop where
  state : d.txState n = txOff
  start : d.b (pLtx n) (fSq sqStart) = false
  fade : d.b (pLtx n) fLtxFade = false
  step : d.g (pLtx n) fFadeStep = 0
  busy : d.b (pLtx n) fLtxCalBusy = false
  pending : d.b (pLtx n) fLtxCalPending = false
  swing : d.g (pLtx n) fLiveSwing = d.g (pLtx n) fOutSwing
  fine : d.g (pLtx n) fSkewLiveFine = d.g (pLtx n) fSkewFine
  coarse : d.g (pLtx n) fSkewLiveCoarse = d.g (pLtx n) fSkewCoarse

section
variable {d h e : Dev} {n : Lane} {ex ev : List (Nat × Nat)}

theorem Dev.ltxSetsOff_none (hp : (d.tx n).pend = none) (hcopy : (d.tx n).copy = none) :
    d.ltxSetsOff n = (d.when (d.b (pLtx n) fLtxFade || (d.tx n).req) (·.ltxFlip n)).setsDropped n := by
  unfold Dev.ltxSetsOff
  dsimp only
  rw [hp, hcopy]
  rfl

theorem Dev.ltxSetsOff_pend {ws : List Word} (hp : (d.tx n).pend = some ws) :
    d.ltxSetsOff n = (d.ltxPut n (d.ltxLive n) ws).setsDropped n := by
  unfold Dev.ltxSetsOff
  dsimp only
  rw [hp]
  rfl

/-- The registers that OFF takes, but for the banks. -/
abbrev ltxOffRegs (n : Lane) : List (Nat × Nat) := regsOf (pLtx n) [0x044, 0x04C, 0x05C]

theorem DevKept.ltxStopped (k : DevKept ex ev d h e) (hx : ltxOffRegs n ⊆ ex) :
    DevKept ex ev d (h.updLtx n LtxH.stopped) ((e.setsDropped n).ltxStop n) := by
  have h44 : (pLtx n, 0x044) ∈ ex := hx (by simp [regsOf])
  have h4C : (pLtx n, 0x04C) ∈ ex := hx (by simp [regsOf])
  have h5C : (pLtx n, 0x05C) ∈ ex := hx (by simp [regsOf])
  have ksets := ((k.updLtx n fun x => { x with pend := none, copy := none, req := false }).sb (f := fLtxFade) false h44).s (f := fFadeStep) 0 h44
  have krun := ((ksets.updLtx n fun x => { x with run := none, again := false, wait := .none }).sb (f := fLtxCalBusy) false h44).sb
    (f := fLtxCalPending) false h44
  have koff := ((krun.updLtx n fun x => { x with powered := false, step5 := false, ramping := false, ramp := 0 }).s (f := fTxState) txOff h44).sb
    (f := fSq sqStart) false h44
  rw [Dev.updLtx_updLtx, Dev.updLtx_updLtx] at koff
  exact ((koff.s (f := fLiveSwing) _ h4C).s (f := fSkewLiveFine) _ h5C).s (f := fSkewLiveCoarse) _ h5C

theorem Dev.ltxStopped_off (d : Dev) (n : Lane) : ((d.setsDropped n).ltxStop n).TransmitterOff n := by
  constructor
  all_goals
    simp (disch := decide) only [Dev.ltxStop, Dev.skewTake, Dev.ltxCalDiscard, Dev.setsDropped, Dev.txState, Dev.b, Dev.sb, Dev.g_s_apart,
      Dev.g_s_same, Dev.g_updLtx]
  case state | start | fade | step | busy | pending => rfl
  case swing => exact Nat.mod_eq_of_lt (d.g_lt _ fOutSwing)
  case fine => exact Nat.mod_eq_of_lt (d.g_lt _ fSkewFine)
  case coarse => exact Nat.mod_eq_of_lt (d.g_lt _ fSkewCoarse)

theorem Dev.ltxStopped_live (d : Dev) (n : Lane) : ((d.setsDropped n).ltxStop n).ltxLive n = d.ltxLive n := by
  simp (disch := decide) only [Dev.ltxStop, Dev.skewTake, Dev.ltxCalDiscard, Dev.setsDropped, Dev.ltxLive, Dev.sb, Dev.g_s_apart, Dev.g_updLtx]

theorem Dev.TransmitterOff.settled {t : Dev} (a : e.TransmitterOff n) (hset : Settled e t) : t.TransmitterOff n where
  state := (hset.g _ fTxState).trans a.state
  start := (hset.b _ (fSq sqStart)).trans a.start
  fade := (hset.b _ fLtxFade).trans a.fade
  step := (hset.g _ fFadeStep).trans a.step
  busy := (hset.b _ fLtxCalBusy).trans a.busy
  pending := (hset.b _ fLtxCalPending).trans a.pending
  swing := (hset.g _ fLiveSwing).trans (a.swing.trans (hset.g _ fOutSwing).symm)
  fine := (hset.g _ fSkewLiveFine).trans (a.fine.trans (hset.g _ fSkewFine).symm)
  coarse := (hset.g _ fSkewLiveCoarse).trans (a.coarse.trans (hset.g _ fSkewCoarse).symm)

end

/-! LTX_EN_CLEAR -/

section
variable {s : State} {w : Who} {n : Lane} {v : Word} {c : Dev} {ex : List (Nat × Nat)}

theorem Dev.ltxOff_on {d : Dev} (hst : d.txState n ≠ txOff) : d.ltxOff n = (d.ltxSetsOff n).ltxStop n := if_neg hst

/-- LTX_EN_CLEAR of a lane that is on, where `c` is the device with the newest set live. -/
theorem ltxEnClear_stops (hc : s.calm) (ht : s.dev.takes w (pLtx n) 0x040) (hst : s.dev.txState n ≠ txOff)
    (hsets : (s.dev.store (pLtx n) 0x040 (v &&& ~~~ 1)).ltxSetsOff n = c.setsDropped n) (k : DevKept ex [] s.dev s.dev c)
    (hx : ltxOffRegs n ⊆ ex) (htrial : (pTrial, 0x048) ∉ ex) : Yields (exec (.ltxEnClear w n v) s) fun t =>
      t.dev.TransmitterOff n ∧ t.dev.ltxLive n = c.ltxLive n ∧
      (∀ o, 0x800 ≤ o → o < 4096 → t.dev.rd (pLtx n) o = c.rd (pLtx n) o) ∧
      Kept s t (s.dev.answered.updLtx n LtxH.stopped) ex [] := by
  have hon : (s.dev.store (pLtx n) 0x040 (v &&& ~~~ 1)).txState n ≠ txOff := fun h =>
    hst ((Dev.store_g s.dev (f := fTxState) (v &&& ~~~ 1) (by decide)).symm.trans h)
  have he := Dev.ltxCtrlWrite_clear ht v
  rw [Dev.ltxOff_on hon, hsets] at he
  have kc := (DevKept.refl (ex := ltxOffRegs n) (ev := []) c).ltxStopped (n := n) (List.Subset.refl _)
  refine (k.ltxStopped hx).answered.yields hc (f := (·.ltxCtrlWrite w n (v &&& ~~~ 1))) he rfl htrial fun t hans kept => ?_
  have hset := hans.unanswered
  refine ⟨(c.ltxStopped_off n).settled hset, (hset.g _ fLtxLive).trans (c.ltxStopped_live n), fun o hlo hlt => ?_, kept⟩
  exact (hset.rd _ _ hlt (by omega)).trans (kc.regs _ _ hlt (by omega) fun hm => by simp [mem_regsOf] at hm; omega)

/-- LTX_EN_CLEAR without a set that is pending or being copied. -/
theorem ltxEnClear_plain (hc : s.calm) (ht : s.dev.takes w (pLtx n) 0x040) (hst : s.dev.txState n ≠ txOff)
    (hp : (s.dev.tx n).pend = none) (hcopy : (s.dev.tx n).copy = none) : Yields (exec (.ltxEnClear w n v) s) fun t =>
      t.dev.TransmitterOff n ∧
      t.dev.ltxLive n = (if s.dev.b (pLtx n) fLtxFade || (s.dev.tx n).req then 1 - s.dev.ltxLive n else s.dev.ltxLive n) ∧
      Kept s t (s.dev.answered.updLtx n LtxH.stopped) (regsOf (pLtx n) [0x040, 0x044, 0x04C, 0x05C]) [] := by
  have kstore : DevKept (regsOf (pLtx n) [0x040, 0x044, 0x04C, 0x05C]) [] s.dev s.dev (s.dev.store (pLtx n) 0x040 (v &&& ~~~ 1)) :=
    (DevKept.refl _).wr _ (by simp [regsOf])
  have hsets := Dev.ltxSetsOff_none (d := s.dev.store (pLtx n) 0x040 (v &&& ~~~ 1)) (n := n) hp hcopy
  have kflip := kstore.when (f := (·.ltxFlip n)) (kstore.s (p := pLtx n) (f := fLtxLive)
    (1 - (s.dev.store (pLtx n) 0x040 (v &&& ~~~ 1)).ltxLive n) (by simp [regsOf, fLtxLive]))
    ((s.dev.store (pLtx n) 0x040 (v &&& ~~~ 1)).b (pLtx n) fLtxFade || ((s.dev.store (pLtx n) 0x040 (v &&& ~~~ 1)).tx n).req)
  obtain ⟨t, htn, hoff, hlive, -, kept⟩ := ltxEnClear_stops hc ht hst hsets kflip (by simp [List.subset_def, regsOf]) (by simp [regsOf])
  refine ⟨t, htn, hoff, hlive.trans ?_, kept⟩
  have hfade : (s.dev.store (pLtx n) 0x040 (v &&& ~~~ 1)).b (pLtx n) fLtxFade = s.dev.b (pLtx n) fLtxFade := Dev.store_b _ _ (by decide)
  have hold : (s.dev.store (pLtx n) 0x040 (v &&& ~~~ 1)).ltxLive n = s.dev.ltxLive n := Dev.store_g _ (f := fLtxLive) _ (by decide)
  have hreq : ((s.dev.store (pLtx n) 0x040 (v &&& ~~~ 1)).tx n).req = (s.dev.tx n).req := rfl
  rw [hfade, hreq, ← hold, Dev.when]
  split
  · exact Dev.ltxFlip_live _ n
  · rfl

/-- LTX_EN_CLEAR with a pending set: it enters the live bank. -/
theorem ltxEnClear_pending {ws : List Word} (hc : s.calm) (ht : s.dev.takes w (pLtx n) 0x040) (hst : s.dev.txState n ≠ txOff)
    (hp : (s.dev.tx n).pend = some ws) : Yields (exec (.ltxEnClear w n v) s) fun t =>
      t.dev.TransmitterOff n ∧ t.dev.ltxLive n = s.dev.ltxLive n ∧
      (∀ e ∈ setOffs.zip ws, t.dev.rd (pLtx n) (ltxBank (s.dev.ltxLive n) + e.1) = e.2) ∧
      Kept s t (s.dev.answered.updLtx n LtxH.stopped)
        (regsOf (pLtx n) ([0x040, 0x044, 0x04C, 0x05C] ++ setOffs.map (ltxBank (s.dev.ltxLive n) + ·))) [] := by
  have hlive : (s.dev.store (pLtx n) 0x040 (v &&& ~~~ 1)).ltxLive n = s.dev.ltxLive n := Dev.store_g _ (f := fLtxLive) _ (by decide)
  have hsets := Dev.ltxSetsOff_pend (d := s.dev.store (pLtx n) 0x040 (v &&& ~~~ 1)) (n := n) hp
  have kstore : DevKept (regsOf (pLtx n) ([0x040, 0x044, 0x04C, 0x05C] ++ setOffs.map (ltxBank (s.dev.ltxLive n) + ·))) [] s.dev s.dev
      (s.dev.store (pLtx n) 0x040 (v &&& ~~~ 1)) := (DevKept.refl _).wr _ (mem_regsOf.mpr ⟨rfl, by simp⟩)
  rw [hlive] at hsets
  have hbank : ltxBankRegs n (s.dev.ltxLive n) ⊆ regsOf (pLtx n) ([0x040, 0x044, 0x04C, 0x05C] ++ setOffs.map (ltxBank (s.dev.ltxLive n) + ·)) :=
    fun q hq => mem_regsOf.mpr ⟨(mem_regsOf.mp hq).1, List.mem_append_right _ (mem_regsOf.mp hq).2⟩
  have hregs : ltxOffRegs n ⊆ regsOf (pLtx n) ([0x040, 0x044, 0x04C, 0x05C] ++ setOffs.map (ltxBank (s.dev.ltxLive n) + ·)) :=
    fun q hq => mem_regsOf.mpr ⟨(mem_regsOf.mp hq).1, List.mem_append_left _ (List.mem_cons_of_mem _ (mem_regsOf.mp hq).2)⟩
  obtain ⟨t, htn, hoff, hl, hrd, kept⟩ := ltxEnClear_stops (v := v) hc ht hst hsets (kstore.ltxPut hbank ws) hregs
    fun hm => trial_ne_ltx n (mem_regsOf.mp hm).1
  refine ⟨t, htn, hoff, hl.trans ((Dev.g_congr (f := fLtxLive) (Dev.ltxPut_rd_before _ n _ ws (by decide) (by decide))).trans hlive), fun x hx => ?_, kept⟩
  have hbase := ltxBank_range (s.dev.ltxLive n)
  have hxlt := setOffs_lt x.1 (List.of_mem_zip hx).1
  exact (hrd _ (by omega) (by omega)).trans (Dev.ltxPut_rd _ n _ ws x hx)

end

/-- Settles O19: each command by what it leaves of the transmitter; the two squelch writes of a line transmitter are one
(`SquelchWritten`), and so is OFF with and without a pending set (`ltxEnClear_stops`). -/
theorem transmitterStartAndSquelch : Obligations.TransmitterStartAndSquelch := by
  refine ⟨?start, ?plain, ?pending, ?powered, ?stepLine, ?stepHost, ?endLine, ?endHost, ?reqLine, ?reqHost, ?follow, ?faultLine, ?faultHost⟩
  case start => exact fun s w n v hc ht => ltxEnSet_starts hc ht
  case plain =>
    intro s w n v hc ht hst hp hcopy
    obtain ⟨t, htn, off, hlive, kept⟩ := ltxEnClear_plain hc ht hst hp hcopy
    have hsame : ∀ o ∈ [0x048, 0x058], t.dev.rd (pLtx n) o = s.dev.rd (pLtx n) o := fun o ho =>
      kept.regs _ _ (by simp at ho; omega) (by simp at ho; omega) (by simp [mem_regsOf] at ho ⊢; omega)
    have hset : ∀ f : Fld, f.off ∈ [0x048, 0x058] → t.dev.g (pLtx n) f = s.dev.g (pLtx n) f := fun f hf => Dev.g_congr (hsame _ hf)
    refine ⟨t, htn, off.state, off.start, off.fade, off.step, off.busy, off.pending, hlive, off.swing.trans (hset fOutSwing (by decide)),
      off.fine.trans (hset fSkewFine (by decide)), off.coarse.trans (hset fSkewCoarse (by decide)), ?_⟩
    have hcongr := Dev.updLtx_congr (d := s.dev.answered) (n := n) (f := LtxH.stopped) (g := fun h => { h with
      req := false, run := none, again := false, wait := .none, powered := false, step5 := false, ramping := false, ramp := 0 })
      (by rw [LtxH.stopped, show (s.dev.answered.tx n).pend = none from hp, show (s.dev.answered.tx n).copy = none from hcopy])
    rw [← hcongr]
    exact kept
  case pending =>
    intro s w n v ws hc ht hst hp
    obtain ⟨t, htn, off, hlive, hbank, kept⟩ := ltxEnClear_pending hc ht hst hp
    exact ⟨t, htn, off.state, off.fade, hlive, hbank, kept⟩
  case powered => exact fun s n hc hr hst hp => ltxStartPowered_runs hc hr hst hp
  case stepLine => exact fun s n hc hr hramp hlt => rampStep_line hc hr hramp hlt
  case stepHost => exact fun s n hc hr hramp hlt => rampStep_host hc hr hramp hlt
  case endLine => exact fun s n hc hr hramp h16 => rampEnd_line hc hr hramp h16
  case endHost => exact fun s n hc hr hramp h16 => rampEnd_host hc hr hramp h16
  case reqLine =>
    intro s w n v hc ht
    obtain ⟨t, htn, q⟩ := squelchWrite_line (v := v) hc ht
    exact ⟨t, htn, q.word, q.host, q.clr, q.silenced, q.rises, q.kept⟩
  case reqHost => exact fun s w n v hc ht => squelchReq_host hc ht
  case follow =>
    intro s w n v hc ht
    obtain ⟨t, htn, q⟩ := squelchWrite_line (v := v) hc ht
    exact ⟨t, htn, q.follow, q.host, q.clr, q.cleared, q.kept⟩
  case faultLine => exact fun s n hc hr hp hb => outFault_line hc hr hp hb
  case faultHost => exact fun s n hc hr hp hb => outFault_host hc hr hp hb

end Sys2Proof.Machine
end

section
/-! Sets, slews, the clip window and error injection of a transmitter (O20, R119, R121 to R125, R133, R199). -/

open Sys2Proof Sys2Proof.Machine

namespace Sys2Proof.Machine

/-! Copies and cross-fades -/

/-- The committed set in the inactive bank (R121, R123). -/
def Dev.setCopied (d : Dev) (n : Lane) (ws : List Word) : Dev :=
  (d.ltxPut n (1 - d.ltxLive n) ws).updLtx n fun h => { h with copy := none }

/-- The registers that a copy reaches: STATUS and the inactive bank. -/
abbrev copyRegs (d : Dev) (n : Lane) : List (Nat × Nat) := (pLtx n, 0x044) :: ltxBankRegs n (1 - d.ltxLive n)

section
variable {d : Dev} {n : Lane} {ws : List Word}

theorem Dev.setCopied_g (d : Dev) (n : Lane) (ws : List Word) {f : Fld} (ho : f.off < 0x800) (hne : f.off ≠ 0x010) :
    (d.setCopied n ws).g (pLtx n) f = d.g (pLtx n) f :=
  Dev.g_congr (d.ltxPut_rd_before n _ ws ho hne)

theorem Dev.setCopied_kept (d : Dev) (n : Lane) (ws : List Word) :
    DevKept (copyRegs d n) [] d (d.updLtx n fun h => { h with copy := none }) (d.setCopied n ws) :=
  ((DevKept.refl d).ltxPut (List.subset_cons_self _ _) ws).updLtx n _

theorem Dev.fadeCopyDone_start (hcopy : (d.tx n).copy = some ws) (hst : d.txState n = txStart) :
    d.fadeCopyDone n = (d.setCopied n ws).ltxFlip n := by
  unfold Dev.fadeCopyDone
  rw [hcopy]
  exact if_pos ((d.setCopied_g n ws (f := fTxState) (by decide) (by decide)).trans hst)

theorem Dev.fadeCopyDone_run (hcopy : (d.tx n).copy = some ws) (hst : d.txState n = txRun) :
    d.fadeCopyDone n = (d.setCopied n ws).updLtx n fun h => { h with req := true } := by
  have hst' : (d.setCopied n ws).txState n = txRun := (d.setCopied_g n ws (f := fTxState) (by decide) (by decide)).trans hst
  unfold Dev.fadeCopyDone
  rw [hcopy]
  exact if_neg fun h => absurd (hst'.symm.trans h) (by decide)

end

section
variable {s : State} {n : Lane}

/-- FADE_COPY_DONE: what both states share, where `e` is the device after it. -/
theorem fadeCopyDone_yields {ws : List Word} {f : LtxH → LtxH} {e : Dev} (hc : s.calm) (hr : s.dev.runs (pLtx n))
    (he : s.dev.fadeCopyDone n = e) (k : DevKept (copyRegs s.dev n) [] s.dev (s.dev.updLtx n f) e)
    (hsame : ∀ o, 0x800 ≤ o → o < 4096 → e.rd (pLtx n) o = (s.dev.setCopied n ws).rd (pLtx n) o) (hst : e.txState n = s.dev.txState n) :
    Yields (exec (.fadeCopyDone n) s) fun t =>
      (∀ x ∈ setOffs.zip ws, t.dev.rd (pLtx n) (ltxBank (1 - s.dev.ltxLive n) + x.1) = x.2) ∧
      t.dev.ltxLive n = e.ltxLive n ∧ t.dev.txState n = s.dev.txState n ∧ Kept s t (s.dev.updLtx n f) (copyRegs s.dev n) [] := by
  have htrial : (pTrial, 0x048) ∉ copyRegs s.dev n := fun hm => (List.mem_cons.mp hm).elim (fun h => trial_ne_ltx n (Prod.mk.inj h).1)
    fun h => trial_ne_ltx n (mem_regsOf.mp h).1
  refine k.yieldsOn hc hr (f := (·.fadeCopyDone n)) he rfl htrial fun t hset kept =>
    ⟨fun x hx => ?_, hset.g _ fLtxLive, (hset.g _ fTxState).trans hst, kept⟩
  have hbase := ltxBank_range (1 - s.dev.ltxLive n)
  have hxlt := setOffs_lt x.1 (List.of_mem_zip hx).1
  exact (hset.rd _ _ (by omega) (by omega)).trans ((hsame _ (by omega) (by omega)).trans (s.dev.ltxPut_rd n _ ws x hx))

/-- FADE_COPY_DONE in START: the set is live at once. -/
theorem fadeCopyDone_live {ws : List Word} (hc : s.calm) (hr : s.dev.runs (pLtx n)) (hcopy : (s.dev.tx n).copy = some ws)
    (hst : s.dev.txState n = txStart) : Yields (exec (.fadeCopyDone n) s) fun t =>
      (∀ x ∈ setOffs.zip ws, t.dev.rd (pLtx n) (ltxBank (1 - s.dev.ltxLive n) + x.1) = x.2) ∧
      t.dev.ltxLive n = 1 - s.dev.ltxLive n ∧ t.dev.txState n = s.dev.txState n ∧
      Kept s t (s.dev.updLtx n fun h => { h with copy := none }) (copyRegs s.dev n) [] := by
  have hlive : (s.dev.setCopied n ws).ltxLive n = s.dev.ltxLive n := s.dev.setCopied_g n ws (f := fLtxLive) (by decide) (by decide)
  have hstate : (s.dev.setCopied n ws).txState n = s.dev.txState n := s.dev.setCopied_g n ws (f := fTxState) (by decide) (by decide)
  obtain ⟨t, ht, hbank, hl, hs, kept⟩ := fadeCopyDone_yields (e := (s.dev.setCopied n ws).ltxFlip n) (ws := ws) hc hr
    (Dev.fadeCopyDone_start hcopy hst) ((s.dev.setCopied_kept n ws).s (f := fLtxLive) _ (.head _))
    (fun o hlo hlt => Dev.rd_s_off _ fLtxLive _ (by decide) hlt (by simp only [fLtxLive]; omega)) ((Dev.g_s_apart (by decide) ..).trans hstate)
  exact ⟨t, ht, hbank, by rw [hl, Dev.ltxFlip_live, hlive], hs, kept⟩

/-- FADE_COPY_DONE in RUN: a cross-fade is requested. -/
theorem fadeCopyDone_requests {ws : List Word} (hc : s.calm) (hr : s.dev.runs (pLtx n)) (hcopy : (s.dev.tx n).copy = some ws)
    (hst : s.dev.txState n = txRun) : Yields (exec (.fadeCopyDone n) s) fun t =>
      (∀ x ∈ setOffs.zip ws, t.dev.rd (pLtx n) (ltxBank (1 - s.dev.ltxLive n) + x.1) = x.2) ∧
      t.dev.ltxLive n = s.dev.ltxLive n ∧ t.dev.txState n = s.dev.txState n ∧
      Kept s t (s.dev.updLtx n fun h => { h with copy := none, req := true }) (copyRegs s.dev n) [] := by
  have hlive : (s.dev.setCopied n ws).ltxLive n = s.dev.ltxLive n := s.dev.setCopied_g n ws (f := fLtxLive) (by decide) (by decide)
  have hstate : (s.dev.setCopied n ws).txState n = s.dev.txState n := s.dev.setCopied_g n ws (f := fTxState) (by decide) (by decide)
  have k := (s.dev.setCopied_kept n ws).updLtx n fun h => { h with req := true }
  rw [Dev.updLtx_updLtx] at k
  obtain ⟨t, ht, hbank, hl, hs, kept⟩ := fadeCopyDone_yields (ws := ws) hc hr (Dev.fadeCopyDone_run hcopy hst) k
    (fun _ _ _ => rfl) hstate
  exact ⟨t, ht, hbank, hl.trans hlive, hs, kept⟩

/-- FADE_START. -/
theorem fadeStart_begins (hc : s.calm) (hr : s.dev.runs (pLtx n)) (hq : (s.dev.tx n).req = true) (hf : s.dev.b (pLtx n) fLtxFade = false) :
    Yields (exec (.fadeStart n) s) fun t =>
      t.dev.b (pLtx n) fLtxFade = true ∧ t.dev.g (pLtx n) fFadeStep = 1 ∧ t.dev.ltxLive n = s.dev.ltxLive n ∧
      Kept s t (s.dev.updLtx n fun h => { h with req := false, zone := s.dev.g (pLtx n) fLtxZone }) [(pLtx n, 0x044)] [] := by
  have k := (((DevKept.refl (ex := [(pLtx n, 0x044)]) (ev := []) s.dev).updLtx n fun h =>
    { h with req := false, zone := s.dev.g (pLtx n) fLtxZone }).sb (f := fLtxFade) true (.head _)).s (f := fFadeStep) 1 (.head _)
  refine k.yieldsOn hc hr (f := (·.ltxFadeStart n)) (if_pos (by rw [hq, hf]; rfl)) rfl (by simp) fun t hset kept => ⟨?_, ?_, ?_, kept⟩
  · exact (hset.b _ fLtxFade).trans ((Dev.b_s_apart (by decide) ..).trans (Dev.b_sb_same _ _ _ _ (by decide) rfl))
  · exact (hset.g _ fFadeStep).trans (Dev.g_s_same _ _ _ _ (by decide))
  · exact (hset.g _ fLtxLive).trans ((Dev.g_s_apart (by decide) ..).trans (Dev.g_s_apart (by decide) ..))

/-- FADE_STEP. -/
theorem fadeStep_moves (hc : s.calm) (hr : s.dev.runs (pLtx n)) (hf : s.dev.b (pLtx n) fLtxFade = true)
    (hlt : s.dev.g (pLtx n) fFadeStep < 16) : Yields (exec (.fadeStep n) s) fun t =>
      t.dev.g (pLtx n) fFadeStep = s.dev.g (pLtx n) fFadeStep + 1 ∧ t.dev.b (pLtx n) fLtxFade = true ∧
      Kept s t s.dev [(pLtx n, 0x044)] [] := by
  have k := (DevKept.refl (ex := [(pLtx n, 0x044)]) (ev := []) s.dev).s (f := fFadeStep) (s.dev.g (pLtx n) fFadeStep + 1) (.head _)
  have hmod : (s.dev.g (pLtx n) fFadeStep + 1) % 2 ^ fFadeStep.w = s.dev.g (pLtx n) fFadeStep + 1 :=
    Nat.mod_eq_of_lt (show _ < 2 ^ 5 by omega)
  refine k.yieldsOn hc hr (f := (·.ltxFadeStep n)) (if_pos ⟨hf, hlt⟩) rfl (by simp) fun t hset kept => ⟨?_, ?_, kept⟩
  · exact (hset.g _ fFadeStep).trans ((Dev.g_s_same _ _ _ _ (by decide)).trans hmod)
  · exact (hset.b _ fLtxFade).trans ((Dev.b_s_apart (by decide) ..).trans hf)

/-- The banks at the end of a cross-fade, before source 4 (R121). -/
def Dev.fadeEnded (d : Dev) (n : Lane) : Dev := ((d.ltxFlip n).sb (pLtx n) fLtxFade false).s (pLtx n) fFadeStep 0

theorem Dev.fadeEnded_reads (d : Dev) (n : Lane) : (d.fadeEnded n).ltxLive n = 1 - d.ltxLive n ∧
    (d.fadeEnded n).b (pLtx n) fLtxFade = false ∧ (d.fadeEnded n).g (pLtx n) fFadeStep = 0 := by
  refine ⟨?_, ?_, Dev.g_s_same _ _ _ _ (by decide)⟩
  · exact (Dev.g_s_apart (by decide) ..).trans ((Dev.g_s_apart (by decide) ..).trans (d.ltxFlip_live n))
  · exact (Dev.b_s_apart (by decide) ..).trans (Dev.b_sb_same _ _ _ _ (by decide) rfl)

/-- FADE_DONE. -/
theorem fadeDone_ends (hc : s.calm) (hr : s.dev.runs (pLtx n)) (hf : s.dev.b (pLtx n) fLtxFade = true)
    (h16 : s.dev.g (pLtx n) fFadeStep = 16) : Yields (exec (.fadeDone n) s) fun t =>
      t.dev.ltxLive n = 1 - s.dev.ltxLive n ∧ t.dev.b (pLtx n) fLtxFade = false ∧ t.dev.g (pLtx n) fFadeStep = 0 ∧
      t.dev.evt (pLtx n) 4 = true ∧
      Kept s t (s.dev.updLtx n fun h => { h with copy := h.pend, pend := none }) [(pLtx n, 0x044)] [(pLtx n, 4)] := by
  have hs := Dev.signals_ltx hr.powered
  have hse : (s.dev.fadeEnded n).Signals (pLtx n) 16 := hs.congr rfl
  have k : DevKept [(pLtx n, 0x044)] [(pLtx n, 4)] s.dev s.dev (s.dev.fadeEnded n) :=
    (((DevKept.refl s.dev).s (f := fLtxLive) _ (.head _)).sb (f := fLtxFade) false (.head _)).s (f := fFadeStep) 0 (.head _)
  obtain ⟨hlive, hfade, hstep⟩ := s.dev.fadeEnded_reads n
  have he : s.dev.ltxFadeDone n = ((s.dev.fadeEnded n).raise (pLtx n) 4).updLtx n fun h => { h with copy := h.pend, pend := none } :=
    if_pos ⟨hf, h16⟩
  generalize s.dev.fadeEnded n = e at *
  refine ((k.raise (.head _)).updLtx n _).yieldsOn hc hr (f := (·.ltxFadeDone n)) he rfl (by simp) fun t hset kept => ⟨?_, ?_, ?_, ?_, kept⟩
  · exact (hset.g _ fLtxLive).trans ((Dev.g_raise ..).trans hlive)
  · exact (hset.b _ fLtxFade).trans ((Dev.b_raise ..).trans hfade)
  · exact (hset.g _ fFadeStep).trans ((Dev.g_raise ..).trans hstep)
  · exact (hset.evt _ _ hs.not_three).trans (hse.raise (by decide))

end

/-! Slews -/

theorem towards_lt {a b m : Nat} (ha : a < m) (hb : b < m) : towards a b < m := by
  unfold towards
  split
  · omega
  · split <;> omega

/-- A live value that has moved one step toward its setting. -/
theorem Dev.g_towards (d : Dev) (p : Nat) {f g : Fld} (hw : g.w = f.w) (h : f.lo + f.w ≤ 32 := by decide) :
    (d.s p f (towards (d.g p f) (d.g p g))).g p f = towards (d.g p f) (d.g p g) :=
  (d.g_s_same p f _ h).trans (Nat.mod_eq_of_lt (towards_lt (d.g_lt p f) (hw ▸ d.g_lt p g)))

section
variable {s : State} {n : Lane}

/-- SKEW_FINE_STEP. -/
theorem skewFineStep_moves (hc : s.calm) (hr : s.dev.runs (pLtx n)) (hst : s.dev.txState n ≠ txOff)
    (hne : s.dev.g (pLtx n) fSkewLiveFine ≠ s.dev.g (pLtx n) fSkewFine) : Yields (exec (.skewFineStep n) s) fun t =>
      t.dev.g (pLtx n) fSkewLiveFine = towards (s.dev.g (pLtx n) fSkewLiveFine) (s.dev.g (pLtx n) fSkewFine) ∧
      t.dev.evt (pLtx n) 12 = (s.dev.evt (pLtx n) 12 || t.dev.g (pLtx n) fSkewLiveFine == s.dev.g (pLtx n) fSkewFine) ∧
      Kept s t s.dev [(pLtx n, 0x05C)] [(pLtx n, 12)] := by
  have hs := Dev.signals_ltx hr.powered
  have hg := s.dev.g_towards (pLtx n) (f := fSkewLiveFine) (g := fSkewFine) rfl
  have k := (DevKept.refl (ex := [(pLtx n, 0x05C)]) (ev := [(pLtx n, 12)]) s.dev).s (f := fSkewLiveFine)
    (towards (s.dev.g (pLtx n) fSkewLiveFine) (s.dev.g (pLtx n) fSkewFine)) (.head _)
  have he : s.dev.skewStep n = (s.dev.s (pLtx n) fSkewLiveFine (towards (s.dev.g (pLtx n) fSkewLiveFine) (s.dev.g (pLtx n) fSkewFine))).raiseIf
      (towards (s.dev.g (pLtx n) fSkewLiveFine) (s.dev.g (pLtx n) fSkewFine) == s.dev.g (pLtx n) fSkewFine) (pLtx n) 12 :=
    if_neg (not_or.mpr ⟨hst, hne⟩)
  generalize towards (s.dev.g (pLtx n) fSkewLiveFine) (s.dev.g (pLtx n) fSkewFine) = x at *
  have hse : (s.dev.s (pLtx n) fSkewLiveFine x).Signals (pLtx n) 16 := hs.congr rfl
  have hevt : (s.dev.s (pLtx n) fSkewLiveFine x).evt (pLtx n) 12 = s.dev.evt (pLtx n) 12 := Dev.evt_wr _ _ _ _
  refine (k.raiseIf (p := pLtx n) (src := 12) (x == s.dev.g (pLtx n) fSkewFine) (.head _)).yieldsOn hc hr (f := (·.skewStep n)) he rfl (by simp)
    fun t hset kept => ?_
  have hlive : t.dev.g (pLtx n) fSkewLiveFine = x :=
    (hset.g _ fSkewLiveFine).trans ((Dev.g_congr (f := fSkewLiveFine) (Dev.rd_raiseIf ..)).trans hg)
  exact ⟨hlive, by rw [hlive, hset.evt _ _ hs.not_three, hse.raiseIf (by decide), hevt], kept⟩

theorem Dev.swingArrived_other {d : Dev} (hw : (d.tx n).wait ≠ .swing) : d.swingArrived n = d := if_neg fun h => hw h.1

/-- SWING_SLEW_STEP. -/
theorem swingSlewStep_moves (hc : s.calm) (hr : s.dev.runs (pLtx n)) (hst : s.dev.txState n ≠ txOff) (hw : (s.dev.tx n).wait ≠ .swing) :
    Yields (exec (.swingSlewStep n) s) fun t =>
      t.dev.g (pLtx n) fLiveSwing = towards (s.dev.g (pLtx n) fLiveSwing) (s.dev.g (pLtx n) fOutSwing) ∧
      Kept s t s.dev [(pLtx n, 0x04C)] [] := by
  have hg := s.dev.g_towards (pLtx n) (f := fLiveSwing) (g := fOutSwing) rfl
  have k := (DevKept.refl (ex := [(pLtx n, 0x04C)]) (ev := []) s.dev).s (f := fLiveSwing)
    (towards (s.dev.g (pLtx n) fLiveSwing) (s.dev.g (pLtx n) fOutSwing)) (.head _)
  exact k.yieldsOn hc hr (f := (·.swingStep n)) ((if_neg hst).trans (Dev.swingArrived_other hw)) rfl (by simp)
    fun t hset kept => ⟨(hset.g _ fLiveSwing).trans hg, kept⟩

/-! The clip window -/

/-- The clipped samples of a window (R119). -/
def Dev.clippedCount (d : Dev) (n : Lane) (ss : List TxSamples) : Nat :=
  ss.foldl (fun k x => if clipped (d.ltxCode n x.levels x.sub.val) then k + x.num else k) 0

/-- LTX_CLIP_WINDOW_END. -/
theorem ltxClipWindowEnd_counts {ss : List TxSamples} (hc : s.calm) (hr : s.dev.runs (pLtx n)) (hst : s.dev.txState n ≠ txOff) :
    Yields (exec (.ltxClipWindowEnd n ss) s) fun t =>
      t.dev.rd (pLtx n) 0x080 = s.dev.rd (pLtx n) 0x080 + BitVec.ofNat 32 (s.dev.clippedCount n ss) ∧
      t.dev.evt (pLtx n) 7 = (s.dev.evt (pLtx n) 7 || decide (2 ^ s.dev.g (pLtx n) fLtxClipExp ≤ s.dev.clippedCount n ss)) ∧
      Kept s t s.dev [(pLtx n, 0x080)] [(pLtx n, 7)] := by
  have hs := Dev.signals_ltx hr.powered
  have he : s.dev.ltxClipEnd n ss = (s.dev.add (pLtx n) 0x080 (s.dev.clippedCount n ss)).raiseIf
      (decide (2 ^ s.dev.g (pLtx n) fLtxClipExp ≤ s.dev.clippedCount n ss)) (pLtx n) 7 := if_neg hst
  have hse : (s.dev.add (pLtx n) 0x080 (s.dev.clippedCount n ss)).Signals (pLtx n) 16 := hs.congr rfl
  have hevt : (s.dev.add (pLtx n) 0x080 (s.dev.clippedCount n ss)).evt (pLtx n) 7 = s.dev.evt (pLtx n) 7 := Dev.evt_wr _ _ _ _
  have k : DevKept [(pLtx n, 0x080)] [(pLtx n, 7)] s.dev s.dev (s.dev.add (pLtx n) 0x080 (s.dev.clippedCount n ss)) :=
    (DevKept.refl s.dev).wr _ (.head _)
  refine (k.raiseIf (p := pLtx n) (src := 7) _ (.head _)).yieldsOn hc hr (f := (·.ltxClipEnd n ss)) he rfl (by simp)
    fun t hset kept => ⟨?_, ?_, kept⟩
  · exact (hset.rd _ _ (by decide) (by decide)).trans ((Dev.rd_raiseIf ..).trans (Dev.rd_wr_same ..))
  · rw [hset.evt _ _ hs.not_three, hse.raiseIf (by decide), hevt]

end

/-! Error injection -/

/-- One more error into the generated pattern, where it runs (R133). -/
def LtxH.injected (c : Prop) [Decidable c] (h : LtxH) : LtxH := { h with errInj := if c then h.errInj + 1 else h.errInj }

def HtxH.injected (c : Prop) [Decidable c] (h : HtxH) : HtxH := { h with errInj := if c then h.errInj + 1 else h.errInj }

section
variable {d : Dev} {w : Who} {n : Lane}

theorem Dev.ltxGenWrite_injects (ht : d.takes w (pLtx n) 0x084) (v : Word) : d.ltxGenWrite w n (v ||| 0x80) =
    ((d.store (pLtx n) 0x084 (v ||| 0x80)).updLtx n (LtxH.injected
      ((d.store (pLtx n) 0x084 (v ||| 0x80)).g (pLtx n) fGenPattern ≠ 0 ∧ d.txState n ≠ txOff))).answered := by
  have hinj : (v ||| 0x80).getLsbD 7 = true := by simp
  have hst : (d.store (pLtx n) 0x084 (v ||| 0x80)).txState n = d.txState n := Dev.store_g _ (f := fTxState) _ (by decide)
  rw [Dev.ltxGenWrite, access_takes _ _ _ _ _ ht, ← hst]
  dsimp only
  rw [hinj, Bool.true_and]
  generalize d.store (pLtx n) 0x084 (v ||| 0x80) = e
  refine congrArg Dev.answered ?_
  by_cases hpat : e.g (pLtx n) fGenPattern ≠ 0 ∧ e.txState n ≠ txOff
  · rw [Dev.when, if_pos (by simpa using hpat)]
    exact Dev.updLtx_congr (by rw [LtxH.injected, if_pos hpat])
  · rw [Dev.when, if_neg (by simpa using hpat), Dev.updLtx_self (by rw [LtxH.injected, if_neg hpat])]

theorem Dev.htxGenWrite_injects (ht : d.takes w (pHtx n) 0x064) (v : Word) : d.htxGenWrite w n (v ||| 0x80) =
    ((d.store (pHtx n) 0x064 (v ||| 0x80)).updHtx n (HtxH.injected
      ((d.store (pHtx n) 0x064 (v ||| 0x80)).g (pHtx n) fHtxPattern ≠ 0 ∧ d.htxState n = htData))).answered := by
  have hinj : (v ||| 0x80).getLsbD 7 = true := by simp
  have hst : (d.store (pHtx n) 0x064 (v ||| 0x80)).htxState n = d.htxState n := Dev.store_g _ (f := fHtxState) _ (by decide)
  rw [Dev.htxGenWrite, access_takes _ _ _ _ _ ht, ← hst]
  dsimp only
  rw [hinj, Bool.true_and]
  generalize d.store (pHtx n) 0x064 (v ||| 0x80) = e
  refine congrArg Dev.answered ?_
  by_cases hpat : e.g (pHtx n) fHtxPattern ≠ 0 ∧ e.htxState n = htData
  · rw [Dev.when, if_pos (by simpa using hpat), Dev.updHtx, Dev.updHtx, HtxH.injected, if_pos hpat]
  · rw [Dev.when, if_neg (by simpa using hpat), Dev.updHtx_self (by rw [HtxH.injected, if_neg hpat])]

end

section
variable {s : State} {w : Who} {n : Lane} {v : Word}

/-- ERR_INJ of a line transmitter. -/
theorem errInj_line (hc : s.calm) (ht : s.dev.takes w (pLtx n) 0x084) : Yields (exec (.errInj .line w n v) s) fun t =>
    t.dev.rd (pLtx n) 0x084 = storeWord (pLtx n) 0x084 (s.dev.rd (pLtx n) 0x084) (v ||| 0x80) ∧
    Kept s t (s.dev.answered.updLtx n (LtxH.injected (t.dev.g (pLtx n) fGenPattern ≠ 0 ∧ s.dev.txState n ≠ txOff))) [(pLtx n, 0x084)] [] := by
  have he := Dev.ltxGenWrite_injects ht v
  have hword : (s.dev.store (pLtx n) 0x084 (v ||| 0x80)).rd (pLtx n) 0x084 = _ := s.dev.rd_wr_same _ _ _
  have k : DevKept [(pLtx n, 0x084)] [] s.dev s.dev (s.dev.store (pLtx n) 0x084 (v ||| 0x80)) := (DevKept.refl _).wr _ (.head _)
  generalize s.dev.store (pLtx n) 0x084 (v ||| 0x80) = e at *
  refine (k.updLtx n _).answered.yields hc (f := (·.ltxGenWrite w n (v ||| 0x80))) he rfl (by simp) fun t hans kept => ?_
  have hpat : t.dev.g (pLtx n) fGenPattern = e.g (pLtx n) fGenPattern := hans.unanswered.g _ fGenPattern
  rw [hpat]
  exact ⟨(hans.unanswered.rd _ _ (by decide) (by decide)).trans hword, kept⟩

/-- ERR_INJ of a host transmitter. -/
theorem errInj_host (hc : s.calm) (ht : s.dev.takes w (pHtx n) 0x064) : Yields (exec (.errInj .host w n v) s) fun t =>
    t.dev.rd (pHtx n) 0x064 = storeWord (pHtx n) 0x064 (s.dev.rd (pHtx n) 0x064) (v ||| 0x80) ∧
    Kept s t (s.dev.answered.updHtx n (HtxH.injected (t.dev.g (pHtx n) fHtxPattern ≠ 0 ∧ s.dev.htxState n = htData))) [(pHtx n, 0x064)] [] := by
  have he := Dev.htxGenWrite_injects ht v
  have hword : (s.dev.store (pHtx n) 0x064 (v ||| 0x80)).rd (pHtx n) 0x064 = _ := s.dev.rd_wr_same _ _ _
  have k : DevKept [(pHtx n, 0x064)] [] s.dev s.dev (s.dev.store (pHtx n) 0x064 (v ||| 0x80)) := (DevKept.refl _).wr _ (.head _)
  generalize s.dev.store (pHtx n) 0x064 (v ||| 0x80) = e at *
  refine (k.updHtx n _).answered.yields hc (f := (·.htxGenWrite w n (v ||| 0x80))) he rfl (by simp) fun t hans kept => ?_
  have hpat : t.dev.g (pHtx n) fHtxPattern = e.g (pHtx n) fHtxPattern := hans.unanswered.g _ fHtxPattern
  rw [hpat]
  exact ⟨(hans.unanswered.rd _ _ (by decide) (by decide)).trans hword, kept⟩

end

/-- Settles O20: each command by what it moves of the transmitter; the copy by the state that it ends in. -/
theorem transmitterSetsAndSlews : Obligations.TransmitterSetsAndSlews := by
  refine ⟨?copy, ?start, ?step, ?done, ?skew, ?swing, ?clip, ?injLine, ?injHost⟩
  case copy =>
    intro s n ws hc hr hcopy hst
    obtain hst | hst := hst
    · have hrun : s.dev.txState n ≠ txRun := by rw [hst]; decide
      simp only [if_pos hst, if_neg hrun]
      exact fadeCopyDone_live hc hr hcopy hst
    · have hstart : s.dev.txState n ≠ txStart := by rw [hst]; decide
      simp only [if_neg hstart, if_pos hst]
      exact fadeCopyDone_requests hc hr hcopy hst
  case start => exact fun s n hc hr hq hf => fadeStart_begins hc hr hq hf
  case step => exact fun s n hc hr hf hlt => fadeStep_moves hc hr hf hlt
  case done => exact fun s n hc hr hf h16 => fadeDone_ends hc hr hf h16
  case skew =>
    intro s n hc hr hst hne
    obtain ⟨t, ht, hmove, hevt, kept⟩ := skewFineStep_moves hc hr hst hne
    refine ⟨t, ht, hmove.trans ?_, hevt, kept⟩
    unfold towards
    split
    · rfl
    · exact if_pos (by omega)
  case swing => exact fun s n hc hr hst hw => swingSlewStep_moves hc hr hst hw
  case clip => exact fun s n ss hc hr hst => ltxClipWindowEnd_counts hc hr hst
  case injLine => exact fun s w n v hc ht => errInj_line hc ht
  case injHost => exact fun s w n v hc ht => errInj_host hc ht

end Sys2Proof.Machine
end

section
/-! A calibration run of a line transmitter up to its targets: request, start, observation, abandon (O21, R127, R130, R132). -/

open Sys2Proof Sys2Proof.Machine

namespace Sys2Proof.Machine

/-! The request -/

section
variable {ex ev : List (Nat × Nat)} {d h e : Dev} {n : Lane}

theorem Dev.dacCalWrite_run {w : Who} (ht : d.takes w (pLtx n) 0x060) (v : Word) :
    d.dacCalWrite w n (v ||| 8) = ((d.store (pLtx n) 0x060 (v ||| 8)).ltxCalRequest n).answered := by
  have hrun : (v ||| 8).getLsbD 3 = true := by simp
  rw [Dev.dacCalWrite, access_takes _ _ _ _ _ ht, hrun]
  rfl

/-- A new request outside RUN (R132). -/
def Dev.runDeferred (d : Dev) (n : Lane) : Bool := !d.b (pLtx n) fLtxCalPending && d.txState n != txRun

theorem Dev.ltxCalRequest_eq (d : Dev) (n : Lane) :
    d.ltxCalRequest n = (d.sb (pLtx n) fLtxCalPending true).raiseIf (d.runDeferred n) (pLtx n) 11 := by
  have hst : (d.sb (pLtx n) fLtxCalPending true).txState n = d.txState n := Dev.g_s_apart (by decide) ..
  rw [Dev.runDeferred, ← hst]
  rfl

theorem DevKept.ltxCalRequest (k : DevKept ex ev d h e) (h44 : (pLtx n, 0x044) ∈ ex) (h11 : (pLtx n, 11) ∈ ev) :
    DevKept ex ev d h (e.ltxCalRequest n) := by
  rw [Dev.ltxCalRequest_eq]
  exact (k.sb (f := fLtxCalPending) true h44).raiseIf _ h11

theorem Dev.ltxCalRequest_pending (d : Dev) (n : Lane) : (d.ltxCalRequest n).b (pLtx n) fLtxCalPending = true := by
  rw [Dev.ltxCalRequest_eq, Dev.b_congr (Dev.rd_raiseIf _ _ _ _ _ fLtxCalPending.off)]
  exact Dev.b_sb_same _ _ _ _ (by decide) rfl

theorem Dev.ltxCalRequest_evt (hs : d.Signals (pLtx n) 16) :
    (d.ltxCalRequest n).evt (pLtx n) 11 = (d.evt (pLtx n) 11 || d.runDeferred n) := by
  have hs' : (d.sb (pLtx n) fLtxCalPending true).Signals (pLtx n) 16 := hs.congr rfl
  have hevt : (d.sb (pLtx n) fLtxCalPending true).evt (pLtx n) 11 = d.evt (pLtx n) 11 := Dev.evt_wr _ _ _ _
  rw [Dev.ltxCalRequest_eq, hs'.raiseIf (by decide), hevt]

end

/-- DAC_CAL_RUN. -/
theorem dacCalRun_requests {s : State} {w : Who} {n : Lane} {v : Word} (hc : s.calm) (ht : s.dev.takes w (pLtx n) 0x060) :
    Yields (exec (.dacCalRun w n v) s) fun t =>
      t.dev.rd (pLtx n) 0x060 = storeWord (pLtx n) 0x060 (s.dev.rd (pLtx n) 0x060) (v ||| 8) ∧
      t.dev.b (pLtx n) fLtxCalPending = true ∧ t.dev.evt (pLtx n) 11 = (s.dev.evt (pLtx n) 11 || s.dev.runDeferred n) ∧
      Kept s t s.dev.answered [(pLtx n, 0x060), (pLtx n, 0x044)] [(pLtx n, 11)] := by
  have hs := Dev.signals_ltx ht.powered
  have kstore : DevKept [(pLtx n, 0x060), (pLtx n, 0x044)] [(pLtx n, 11)] s.dev s.dev (s.dev.store (pLtx n) 0x060 (v ||| 8)) :=
    (DevKept.refl _).wr _ (.head _)
  have hword : (s.dev.store (pLtx n) 0x060 (v ||| 8)).rd (pLtx n) 0x060 = _ := s.dev.rd_wr_same _ _ _
  have hpend : (s.dev.store (pLtx n) 0x060 (v ||| 8)).b (pLtx n) fLtxCalPending = s.dev.b (pLtx n) fLtxCalPending :=
    Dev.store_b _ _ (by decide) (by decide) (by decide)
  have hstate : (s.dev.store (pLtx n) 0x060 (v ||| 8)).txState n = s.dev.txState n := Dev.store_g _ _ (by decide) (by decide) (by decide)
  have hevt : (s.dev.store (pLtx n) 0x060 (v ||| 8)).evt (pLtx n) 11 = s.dev.evt (pLtx n) 11 := Dev.evt_wr _ _ _ _
  have hse : (s.dev.store (pLtx n) 0x060 (v ||| 8)).Signals (pLtx n) 16 := hs.congr rfl
  have he := Dev.dacCalWrite_run ht v
  generalize s.dev.store (pLtx n) 0x060 (v ||| 8) = e at *
  have hdef : e.runDeferred n = s.dev.runDeferred n := by rw [Dev.runDeferred, Dev.runDeferred, hpend, hstate]
  have konly := (DevKept.refl (ex := [(pLtx n, 0x044)]) (ev := [(pLtx n, 11)]) e).ltxCalRequest (n := n) (.head _) (.head _)
  refine (kstore.ltxCalRequest (n := n) (by simp) (.head _)).answered.yields hc (f := (·.dacCalWrite w n (v ||| 8))) he
    (Dev.answered_life _) (by simp) fun t hans kept => have hset := hans.unanswered; ⟨?_, ?_, ?_, kept⟩
  · exact (hset.rd _ _ (by decide) (by decide)).trans ((konly.regs _ _ (by decide) (by decide) (by simp)).trans hword)
  · exact (hset.b _ fLtxCalPending).trans (e.ltxCalRequest_pending n)
  · rw [hset.evt _ _ hs.not_three, Dev.ltxCalRequest_evt hse, hevt, hdef]

/-! The start -/

theorem Dev.ltxCalStart_run {d : Dev} {n : Lane} (hrun : (d.tx n).run = none) (hw : (d.tx n).wait = .none) (hst : d.txState n = txRun)
    (hp : d.b (pLtx n) fLtxCalPending = true) : d.ltxCalStart n = d.ltxRunBegin n false :=
  (if_neg (by rw [hrun, hw]; decide)).trans ((if_neg fun h => absurd (hst.symm.trans h.1) (by decide)).trans (if_pos ⟨hst, hp⟩))

section
variable {s : State} {n : Lane}

/-- LTX_CAL_START in RUN. -/
theorem ltxCalStart_begins (hc : s.calm) (hr : s.dev.runs (pLtx n)) (hrun : (s.dev.tx n).run = none) (hw : (s.dev.tx n).wait = .none)
    (hst : s.dev.txState n = txRun) (hp : s.dev.b (pLtx n) fLtxCalPending = true) : Yields (exec (.ltxCalStart n) s) fun t =>
      t.dev.b (pLtx n) fLtxCalBusy = true ∧ t.dev.b (pLtx n) fLtxCalPending = false ∧
      Kept s t (s.dev.updLtx n fun h => { h with run := some (s.dev.ltxRun n false), again := false }) [(pLtx n, 0x044)] [] := by
  have he : s.dev.ltxCalStart n = (s.dev.updLtx n id).ltxRunBegin n false := by
    rw [Dev.updLtx_self rfl, Dev.ltxCalStart_run hrun hw hst hp]
  have hwait : (s.dev.updLtx n fun h => { h with run := some (s.dev.ltxRun n false), again := false, wait := .none }) =
      s.dev.updLtx n fun h => { h with run := some (s.dev.ltxRun n false), again := false } := Dev.updLtx_congr (by rw [hw])
  rw [← hwait]
  exact ltxRunBegin_yields (f := (·.ltxCalStart n)) hc hr he

/-- LTX_CAL_RETRY of a run in RUN. -/
theorem ltxCalRetry_begins (hc : s.calm) (hr : s.dev.runs (pLtx n)) (hrun : (s.dev.tx n).run = none) (hw : (s.dev.tx n).wait = .retry)
    (hst : s.dev.txState n = txRun) (hp : s.dev.b (pLtx n) fLtxCalPending = true) : Yields (exec (.ltxCalRetry n) s) fun t =>
      t.dev.b (pLtx n) fLtxCalBusy = true ∧ t.dev.b (pLtx n) fLtxCalPending = false ∧
      Kept s t (s.dev.updLtx n fun h => { h with run := some (s.dev.ltxRun n false), again := false, wait := .none })
        [(pLtx n, 0x044)] [] := by
  have he : s.dev.ltxCalRetry n = (s.dev.updLtx n fun h => { h with wait := .none }).ltxRunBegin n false :=
    (if_pos hw).trans (Dev.ltxCalStart_run (by rw [Dev.tx_updLtx_same]; exact hrun) (by rw [Dev.tx_updLtx_same]) hst hp)
  exact ltxRunBegin_yields (f := (·.ltxCalRetry n)) (g := fun h => { h with wait := .none }) hc hr he

end

/-! The observation -/

/-- The targets as LVL_MEAS holds them (R130). -/
def levelTargets (targets : List Word) : List Word := (List.range 8).map fun k => targets.getD k 0 &&& 0xFF

/-- The transmitter with its targets (R130 step 3). -/
def Dev.levelsObserved (d : Dev) (n : Lane) (r : CalRun) (targets : List Word) : Dev :=
  ((d.wrs (pLtx n) 0x320 (levelTargets targets)).updLtx n fun h => { h with run := some { r with computed := true } }).sb (pLtx n)
    fCalMeasValid true

/-- The transmitter that abandons run `r` for too few symbols, before source 9 (R132). -/
def Dev.runAbandoned (d : Dev) (n : Lane) (r : CalRun) : Dev :=
  (((d.updLtx n fun h => { h with run := none, again := r.forced, wait := .retry }).sb (pLtx n) fLtxCalBusy false).calResultAbandoned
    (pLtx n) 1).when (!r.forced) (·.sb (pLtx n) fLtxCalPending true)

/-- What CAL_RESULT and STATUS show of a run abandoned for too few symbols: `d` before it, `e` after. -/
structure RunAbandoned (d e : Dev) (n : Lane) (r : CalRun) : Prop where
  abandoned : e.b (pLtx n) fCalAbandoned = true
  applied : e.b (pLtx n) fCalApplied = false
  reason : e.g (pLtx n) fCalReason = 1
  busy : e.b (pLtx n) fLtxCalBusy = false
  pending : e.b (pLtx n) fLtxCalPending = (d.b (pLtx n) fLtxCalPending || !r.forced)

section
variable {d : Dev} {n : Lane} {r : CalRun} {counts : List Nat} {targets : List Word}

theorem Dev.ltxCalObserved_full (hr : (d.tx n).run = some r) (hc : r.computed = false) (hfull : ∀ k, k < 8 → 1024 ≤ counts.getD k 0) :
    d.ltxCalObserved n counts targets = d.levelsObserved n r targets := by
  have hfew : ¬ (List.range 8).any (fun i => decide (counts.getD i 0 < 1024)) = true := by
    rw [List.any_eq_true]
    rintro ⟨i, hi, hlt⟩
    exact absurd (of_decide_eq_true hlt) (Nat.not_lt.mpr (hfull i (List.mem_range.mp hi)))
  unfold Dev.ltxCalObserved
  rw [hr]
  exact (if_neg (by rw [hc]; decide)).trans (if_neg hfew)

theorem Dev.ltxCalObserved_few (hr : (d.tx n).run = some r) (hc : r.computed = false)
    (hfew : (List.range 8).any (fun k => decide (counts.getD k 0 < 1024)) = true) :
    d.ltxCalObserved n counts targets = (d.runAbandoned n r).raise (pLtx n) 9 := by
  have habandon : d.ltxCalObserved n counts targets = d.ltxCalAbandon n 1 true .retry := by
    unfold Dev.ltxCalObserved
    rw [hr]
    exact (if_neg (by rw [hc]; decide)).trans (if_pos hfew)
  rw [habandon, Dev.ltxCalAbandon, hr]
  simp only [Bool.and_true, Bool.true_and]
  rfl

theorem Dev.levelsObserved_target (d : Dev) (n : Lane) (r : CalRun) (targets : List Word) {k : Nat} (hk : k < 8) :
    (d.levelsObserved n r targets).rd (pLtx n) (0x320 + 4 * k) = targets.getD k 0 &&& 0xFF := by
  rw [Dev.levelsObserved, Dev.sb, Dev.rd_s_off _ fCalMeasValid _ (by decide) (by omega) (by simp only [fCalMeasValid]; omega),
    Dev.rd_updLtx, Dev.wrs_rd_at _ (by simpa [levelTargets] using hk) (by simp [levelTargets])]
  simp [levelTargets, hk]

theorem Dev.runAbandoned_kept (d : Dev) (n : Lane) (r : CalRun) (ev : List (Nat × Nat)) : DevKept [(pLtx n, 0x044), (pLtx n, 0x078)] ev d
    (d.updLtx n fun h => { h with run := none, again := r.forced, wait := .retry }) (d.runAbandoned n r) := by
  have kbusy := ((DevKept.refl (ex := [(pLtx n, 0x044), (pLtx n, 0x078)]) (ev := ev) d).updLtx n fun h =>
    { h with run := none, again := r.forced, wait := .retry }).sb (p := pLtx n) (f := fLtxCalBusy) false (.head _)
  have kres := ((kbusy.sb (p := pLtx n) (f := fCalAbandoned) true (by simp [fCalAbandoned])).sb (p := pLtx n) (f := fCalApplied) false
    (by simp [fCalApplied])).s (p := pLtx n) (f := fCalReason) 1 (by simp [fCalReason])
  exact kres.when (f := (·.sb (pLtx n) fLtxCalPending true)) (kres.sb (f := fLtxCalPending) true (.head _)) _

theorem Dev.runAbandoned_g (d : Dev) (n : Lane) (r : CalRun) {f : Fld} (h : f.apart fLtxCalPending) : (d.runAbandoned n r).g (pLtx n) f =
    ((d.sb (pLtx n) fLtxCalBusy false).calResultAbandoned (pLtx n) 1).g (pLtx n) f :=
  Dev.g_when_sb h _ (pLtx n) (pLtx n) true _

theorem Dev.runAbandoned_reads (d : Dev) (n : Lane) (r : CalRun) : RunAbandoned d (d.runAbandoned n r) n r where
  abandoned := by
    rw [Dev.b, d.runAbandoned_g n r (by decide), Dev.calResultAbandoned, Dev.g_s_apart (by decide), Dev.sb, Dev.g_s_apart (by decide)]
    exact Dev.b_sb_same _ _ _ _ (by decide) rfl
  applied := by
    rw [Dev.b, d.runAbandoned_g n r (by decide), Dev.calResultAbandoned, Dev.g_s_apart (by decide)]
    exact Dev.b_sb_same _ _ _ _ (by decide) rfl
  reason := (d.runAbandoned_g n r (by decide)).trans (Dev.g_s_same _ _ _ _ (by decide))
  busy := by
    rw [Dev.b, d.runAbandoned_g n r (by decide), Dev.calResultAbandoned, Dev.g_s_apart (by decide), Dev.sb, Dev.g_s_apart (by decide),
      Dev.sb, Dev.g_s_apart (by decide)]
    exact Dev.b_sb_same _ _ _ _ (by decide) rfl
  pending := by
    unfold Dev.runAbandoned Dev.when
    cases r.forced with
    | false => exact (Dev.b_sb_same _ _ _ _ (by decide) rfl).trans (Bool.or_true _).symm
    | true =>
      rw [Bool.not_true, if_neg (by decide), Bool.or_false, Dev.b, Dev.calResultAbandoned, Dev.g_s_apart (by decide), Dev.sb,
        Dev.g_s_apart (by decide), Dev.sb, Dev.g_s_apart (by decide), Dev.sb, Dev.g_s_apart (by decide), Dev.g_updLtx, Dev.b]

end

section
variable {s : State} {n : Lane} {counts : List Nat} {targets : List Word} {r : CalRun}

/-- LTX_CAL_OBSERVATION_END with enough symbols. -/
theorem ltxCalObservationEnd_targets (hc : s.calm) (hr : s.dev.runs (pLtx n)) (hrun : (s.dev.tx n).run = some r)
    (hcomp : r.computed = false) (hfull : ∀ k, k < 8 → 1024 ≤ counts.getD k 0) :
    Yields (exec (.ltxCalObservationEnd n counts targets) s) fun t =>
      (∀ k, k < 8 → t.dev.rd (pLtx n) (0x320 + 4 * k) = targets.getD k 0 &&& 0xFF) ∧ t.dev.b (pLtx n) fCalMeasValid = true ∧
      Kept s t (s.dev.updLtx n fun h => { h with run := some { r with computed := true } })
        ((pLtx n, 0x078) :: regsOf (pLtx n) (regRun 0x320 8)) [] := by
  have kmeas : DevKept ((pLtx n, 0x078) :: regsOf (pLtx n) (regRun 0x320 8)) [] s.dev s.dev
      (s.dev.wrs (pLtx n) 0x320 (levelTargets targets)) :=
    (DevKept.refl _).wrs (fun i hi => .tail _ (mem_regsOf.mpr ⟨rfl, mem_regRun.mpr ⟨i, by simpa [levelTargets] using hi, rfl⟩⟩))
      (by simp [levelTargets]) (by decide)
  refine ((kmeas.updLtx n _).sb (f := fCalMeasValid) true (.head _)).yieldsOn hc hr (Dev.ltxCalObserved_full hrun hcomp hfull) rfl
    (fun hm => (List.mem_cons.mp hm).elim (by simp) (not_trial_regRun (by decide))) fun t hset kept => ⟨fun k hk => ?_, ?_, kept⟩
  · exact (hset.rd _ _ (by omega) (by omega)).trans (s.dev.levelsObserved_target n r targets hk)
  · exact (hset.b _ fCalMeasValid).trans (Dev.b_sb_same _ _ _ _ (by decide) rfl)

/-- LTX_CAL_OBSERVATION_END with too few symbols. -/
theorem ltxCalObservationEnd_abandons (hc : s.calm) (hr : s.dev.runs (pLtx n)) (hrun : (s.dev.tx n).run = some r)
    (hcomp : r.computed = false) (hfew : (List.range 8).any (fun k => decide (counts.getD k 0 < 1024)) = true) :
    Yields (exec (.ltxCalObservationEnd n counts targets) s) fun t =>
      RunAbandoned s.dev t.dev n r ∧ t.dev.evt (pLtx n) 9 = true ∧
      Kept s t (s.dev.updLtx n fun h => { h with run := none, again := r.forced, wait := .retry }) [(pLtx n, 0x044), (pLtx n, 0x078)]
        [(pLtx n, 9)] := by
  have hs := Dev.signals_ltx hr.powered
  have k := s.dev.runAbandoned_kept n r [(pLtx n, 9)]
  have hse : (s.dev.runAbandoned n r).Signals (pLtx n) 16 := hs.congr k.offPages
  have hreads := s.dev.runAbandoned_reads n r
  have he := Dev.ltxCalObserved_few (targets := targets) hrun hcomp hfew
  generalize s.dev.runAbandoned n r = e at *
  refine (k.raise (.head _)).yieldsOn hc hr (f := (·.ltxCalObserved n counts targets)) he rfl (by simp) fun t hset kept =>
    ⟨⟨?_, ?_, ?_, ?_, ?_⟩, (hset.evt _ _ hs.not_three).trans (hse.raise (by decide)), kept⟩
  · exact (hset.b _ fCalAbandoned).trans ((Dev.b_raise ..).trans hreads.abandoned)
  · exact (hset.b _ fCalApplied).trans ((Dev.b_raise ..).trans hreads.applied)
  · exact (hset.g _ fCalReason).trans ((Dev.g_raise ..).trans hreads.reason)
  · exact (hset.b _ fLtxCalBusy).trans ((Dev.b_raise ..).trans hreads.busy)
  · exact (hset.b _ fLtxCalPending).trans ((Dev.b_raise ..).trans hreads.pending)

end

end Sys2Proof.Machine
end

section
/-! The application of a requested calibration run of a line transmitter, and O21 (R130, R131, R265, R267, R268). -/

open Sys2Proof Sys2Proof.Machine

namespace Sys2Proof.Machine

@[simp] theorem ltx_ne_cal (n : Lane) : pLtx n ≠ 0x17 := by unfold pLtx; omega

/-! The corrections -/

/-- A correction of level placement after a run, and whether its limit held it (R130, R131). -/
def levelMove (r : CalRun) (live target : Word) : Word × Bool :=
  let m := calMove r.mode 8 (getBits r.limit 0 6) (signed 8 live.toNat) (signed 8 target.toNat)
  (BitVec.ofNat 32 (unsigned 8 m.1), m.2)

def Dev.levelsMoved (d : Dev) (n : Lane) (r : CalRun) : List (Word × Bool) :=
  (List.range 8).map fun k => levelMove r ((d.rds (pLtx n) 0x300 8).getD k 0) ((d.rds (pLtx n) 0x320 8).getD k 0)

/-- A run that applies was held by its limit (R131). -/
def Dev.levelsHeld (d : Dev) (n : Lane) (r : CalRun) : Bool := r.applies && (d.levelsMoved n r).any (·.2)

/-- The corrections of a run, with the previous ones kept (R267). -/
def Dev.levelsWritten (d : Dev) (n : Lane) (r : CalRun) : Dev :=
  (d.wrs (pLtx n) 0x300 ((d.levelsMoved n r).map (·.1))).updLtx n fun h => { h with prev := some ⟨d.rds (pLtx n) 0x300 8⟩ }

/-- The run counted and stamped (R131). -/
def Dev.ltxRunCounted (d : Dev) (n : Lane) : Dev := (d.inc (pLtx n) 0x068).wr64 (pLtx n) 0x070 d.tk

/-- A run that applies (R130, R131, R267, R268). -/
def Dev.ltxRunApplied (d : Dev) (n : Lane) (r : CalRun) : Dev :=
  (((d.levelsWritten n r).ltxRunCounted n).sb (pLtx n) fCalClamped (d.levelsHeld n r)).calStoreMark

/-- A run that is complete: its result, its reference, and its end (R130, R265). -/
def Dev.ltxRunClosed (d : Dev) (n : Lane) (applied : Bool) : Dev :=
  (((((d.sb (pLtx n) fCalApplied applied).sb (pLtx n) fCalAbandoned false).s (pLtx n) fCalReason 0).updLtx n
    fun h => { h with run := none }).sb (pLtx n) fLtxCalBusy false).calReference n (fRefLtx n)

/-- What completes a run tells (R131). -/
def Dev.ltxRunTold (d : Dev) (n : Lane) (held : Bool) : Dev := (d.raise (pLtx n) 8).raiseIf held (pLtx n) 10

/-- A requested run outside a cross-fade: its corrections where it applies, then its end. -/
theorem Dev.ltxCalApply_eq {d : Dev} {n : Lane} {r : CalRun} (hr : (d.tx n).run = some r) (hc : r.computed = true)
    (hf : r.forced = false) (hfade : d.b (pLtx n) fLtxFade = false) : d.ltxCalApply n =
      ((if r.applies then d.ltxRunApplied n r else d).ltxRunClosed n r.applies).ltxRunTold n (d.levelsHeld n r) := by
  unfold Dev.ltxCalApply
  simp only [hr, hc, hf, hfade, Bool.not_true, Bool.or_self, Bool.false_eq_true, if_false]
  rfl

/-- The registers of a run's result and of its references (R131, R265). -/
abbrev ltxCloseRegs (n : Lane) : List (Nat × Nat) := [(pLtx n, 0x044), (pLtx n, 0x078), (0x17, 0x050 + 4 * n.val), (0x17, 0x04C)]

/-- What the application of a run may change. -/
abbrev ltxApplyRegs (n : Lane) : List (Nat × Nat) :=
  [(pLtx n, 0x044), (pLtx n, 0x068), (pLtx n, 0x070), (pLtx n, 0x074), (pLtx n, 0x078), (0x17, 0x050 + 4 * n.val), (0x17, 0x04C)] ++
    regsOf (pLtx n) (regRun 0x300 8)

section
variable {ex ev : List (Nat × Nat)} {d h e : Dev} {n : Lane} {r : CalRun}

theorem DevKept.ltxReference (k : DevKept ex ev d h e) (hx : (0x17, 0x050 + 4 * n.val) ∈ ex) :
    DevKept ex ev d h (e.calReference n (fRefLtx n)) :=
  k.when (k.s (f := fRefLtx n) _ hx (by simp only [fRefLtx]; omega) (by simp only [fRefLtx]; omega)) _

theorem DevKept.ltxRunClosed (k : DevKept ex ev d h e) (hx : ltxCloseRegs n ⊆ ex) (applied : Bool) :
    DevKept ex ev d (h.updLtx n fun x => { x with run := none }) (e.ltxRunClosed n applied) := by
  have h44 : (pLtx n, 0x044) ∈ ex := hx (by simp)
  have h78 : (pLtx n, 0x078) ∈ ex := hx (by simp)
  have kres := ((k.sb (f := fCalApplied) applied h78).sb (f := fCalAbandoned) false h78).s (f := fCalReason) 0 h78
  exact ((kres.updLtx n _).sb (f := fLtxCalBusy) false h44).ltxReference (hx (by simp))

theorem DevKept.ltxRunTold (k : DevKept ex ev d h e) (h8 : (pLtx n, 8) ∈ ev) (h10 : (pLtx n, 10) ∈ ev) (held : Bool) :
    DevKept ex ev d h (e.ltxRunTold n held) := (k.raise h8).raiseIf held h10

theorem DevKept.levelsWritten (k : DevKept ex ev d h e) (hx : regsOf (pLtx n) (regRun 0x300 8) ⊆ ex) :
    DevKept ex ev d (h.updLtx n fun x => { x with prev := some ⟨e.rds (pLtx n) 0x300 8⟩ }) (e.levelsWritten n r) :=
  (k.wrs (fun i hi => hx (mem_regsOf.mpr ⟨rfl, mem_regRun.mpr ⟨i, by simpa [Dev.levelsMoved] using hi, rfl⟩⟩))
    (by simp [Dev.levelsMoved]) (by decide)).updLtx n _

theorem DevKept.ltxRunCounted (k : DevKept ex ev d h e) (h68 : (pLtx n, 0x068) ∈ ex) (h70 : (pLtx n, 0x070) ∈ ex)
    (h74 : (pLtx n, 0x074) ∈ ex) : DevKept ex ev d h (e.ltxRunCounted n) :=
  (k.wr _ h68).wr64 _ h70 h74

theorem DevKept.ltxRunApplied (k : DevKept ex ev d h e) (hx : ltxApplyRegs n ⊆ ex) :
    DevKept ex ev d (h.updLtx n fun x => { x with prev := some ⟨e.rds (pLtx n) 0x300 8⟩ }) (e.ltxRunApplied n r) := by
  have kcor := k.levelsWritten (n := n) (r := r) (List.Subset.trans (List.subset_append_right _ _) hx)
  have kcount := kcor.ltxRunCounted (n := n) (hx (by simp)) (hx (by simp)) (hx (by simp))
  exact (kcount.sb (f := fCalClamped) _ (hx (by simp [fCalClamped]))).calStoreMark (hx (by simp))

end

/-! What the application shows -/

/-- Corrections, count and time stamp of a run that applies: `d` is the transmitter before it, `e` after (R130, R131). -/
structure LevelsWritten (d e : Dev) (n : Lane) (r : CalRun) : Prop where
  levels : ∀ k, k < 8 → e.rd (pLtx n) (0x300 + 4 * k) =
    (levelMove r (d.rd (pLtx n) (0x300 + 4 * k)) (d.rd (pLtx n) (0x320 + 4 * k))).1
  count : e.rd (pLtx n) 0x068 = d.rd (pLtx n) 0x068 + 1
  time : e.rd64 (pLtx n) 0x070 = d.tk

/-- The end of a run, as CAL_RESULT and STATUS show it. -/
structure LtxRunClosed (e : Dev) (n : Lane) (applied : Bool) : Prop where
  applied : e.b (pLtx n) fCalApplied = applied
  abandoned : e.b (pLtx n) fCalAbandoned = false
  busy : e.b (pLtx n) fLtxCalBusy = false

section
variable {d e : Dev} {n : Lane} {r : CalRun}

theorem Dev.levelsMoved_getD (d : Dev) (n : Lane) (r : CalRun) {k : Nat} (hk : k < 8) : ((d.levelsMoved n r).map (·.1)).getD k 0 =
    (levelMove r (d.rd (pLtx n) (0x300 + 4 * k)) (d.rd (pLtx n) (0x320 + 4 * k))).1 := by
  rw [← Dev.rds_getD d (off := 0x300) hk, ← Dev.rds_getD d (off := 0x320) hk]
  simp [Dev.levelsMoved, hk]

theorem Dev.levelsWritten_level (d : Dev) (n : Lane) (r : CalRun) {k : Nat} (hk : k < 8) :
    (d.levelsWritten n r).rd (pLtx n) (0x300 + 4 * k) =
      (levelMove r (d.rd (pLtx n) (0x300 + 4 * k)) (d.rd (pLtx n) (0x320 + 4 * k))).1 := by
  rw [Dev.levelsWritten, Dev.rd_updLtx, Dev.wrs_rd_at _ (by simpa [Dev.levelsMoved] using hk) (by simp [Dev.levelsMoved]),
    d.levelsMoved_getD n r hk]

theorem Dev.levelsWritten_kept (d : Dev) (n : Lane) (r : CalRun) : DevKept (regsOf (pLtx n) (regRun 0x300 8)) [] d
    (d.updLtx n fun x => { x with prev := some ⟨d.rds (pLtx n) 0x300 8⟩ }) (d.levelsWritten n r) :=
  (DevKept.refl d).levelsWritten (List.Subset.refl _)

theorem Dev.ltxRunCounted_reads (d : Dev) (n : Lane) :
    (d.ltxRunCounted n).rd (pLtx n) 0x068 = d.rd (pLtx n) 0x068 + 1 ∧ (d.ltxRunCounted n).rd64 (pLtx n) 0x070 = d.tk := by
  refine ⟨?_, Dev.rd64_wr64_same _ _ _ _⟩
  rw [Dev.ltxRunCounted, Dev.wr64, Dev.rd_wr_off _ (by decide) (by decide) (by decide), Dev.rd_wr_off _ (by decide) (by decide) (by decide),
    Dev.inc, Dev.rd_wr_same]

theorem Dev.ltxRunCounted_written (d : Dev) (n : Lane) (r : CalRun) : LevelsWritten d ((d.levelsWritten n r).ltxRunCounted n) n r where
  levels i hi := by
    have k := (DevKept.refl (ex := [(pLtx n, 0x068), (pLtx n, 0x070), (pLtx n, 0x074)]) (ev := []) (d.levelsWritten n r)).ltxRunCounted
      (n := n) (by simp) (by simp) (by simp)
    exact (k.regs _ _ (by omega) (by omega) (by simp; omega)).trans (d.levelsWritten_level n r hi)
  count := by
    rw [((d.levelsWritten n r).ltxRunCounted_reads n).1, (d.levelsWritten_kept n r).regs _ _ (by decide) (by decide)
      fun hm => not_mem_regRun (.inl (by decide)) (mem_regsOf.mp hm).2]
  time := ((d.levelsWritten n r).ltxRunCounted_reads n).2.trans (congrArg Dev.tk (d.levelsWritten_kept n r).hidden :)

/-- A step that touches neither corrections nor count nor time stamp keeps what the run wrote. -/
theorem LevelsWritten.kept {h c : Dev} {ev : List (Nat × Nat)} (a : LevelsWritten d e n r) (k : DevKept (ltxCloseRegs n) ev e h c) :
    LevelsWritten d c n r where
  levels i hi := (k.regs _ _ (by omega) (by omega) (by simp; omega)).trans (a.levels i hi)
  count := (k.regs _ _ (by decide) (by decide) (by simp)).trans a.count
  time := (Dev.rd64_congr fun o ho => k.regs _ _ (by simp at ho; omega) (by simp at ho; omega) (by simp at ho ⊢; omega)).trans a.time

theorem LevelsWritten.settled {t : Dev} (a : LevelsWritten d e n r) (hset : Settled e t) : LevelsWritten d t n r where
  levels i hi := (hset.rd _ _ (by omega) (by omega)).trans (a.levels i hi)
  count := (hset.rd _ _ (by decide) (by decide)).trans a.count
  time := (Dev.rd64_congr fun o ho => hset.rd _ _ (by simp at ho; omega) (by simp at ho; omega)).trans a.time

theorem Dev.ltxRunApplied_written (d : Dev) (n : Lane) (r : CalRun) : LevelsWritten d (d.ltxRunApplied n r) n r :=
  (d.ltxRunCounted_written n r).kept (ev := []) (((DevKept.refl _).sb (f := fCalClamped) _ (by simp [fCalClamped])).calStoreMark (by simp))

/-- A reference says nothing of a lane's page. -/
theorem Dev.ltxReference_g (d : Dev) (n : Lane) {f : Fld} (hlt : f.off < 4096) :
    (d.calReference n (fRefLtx n)).g (pLtx n) f = d.g (pLtx n) f :=
  Dev.g_when (f := fun d => d.s 0x17 (fRefLtx n) (d.g 0x06 (fTempUsed n.val)))
    (Dev.g_congr (d.rd_s_page (fRefLtx n) _ (by simp only [fRefLtx]; omega) hlt (ltx_ne_cal n))) _

theorem Dev.ltxRunClosed_closed (d : Dev) (n : Lane) (applied : Bool) : LtxRunClosed (d.ltxRunClosed n applied) n applied where
  applied := by
    rw [Dev.ltxRunClosed, Dev.b, Dev.ltxReference_g _ n (by decide), Dev.sb, Dev.g_s_apart (by decide), Dev.g_updLtx,
      Dev.g_s_apart (by decide), Dev.sb, Dev.g_s_apart (by decide)]
    exact Dev.b_sb_same _ _ _ _ (by decide) rfl
  abandoned := by
    rw [Dev.ltxRunClosed, Dev.b, Dev.ltxReference_g _ n (by decide), Dev.sb, Dev.g_s_apart (by decide), Dev.g_updLtx,
      Dev.g_s_apart (by decide)]
    exact Dev.b_sb_same _ _ _ _ (by decide) rfl
  busy := by
    rw [Dev.ltxRunClosed, Dev.b, Dev.ltxReference_g _ n (by decide)]
    exact Dev.b_sb_same _ _ _ _ (by decide) rfl

theorem LtxRunClosed.settled {t : Dev} {applied : Bool} (a : LtxRunClosed e n applied) (hset : Settled e t) : LtxRunClosed t n applied :=
  ⟨(hset.b _ fCalApplied).trans a.applied, (hset.b _ fCalAbandoned).trans a.abandoned, (hset.b _ fLtxCalBusy).trans a.busy⟩

theorem LtxRunClosed.told {applied : Bool} (a : LtxRunClosed e n applied) (held : Bool) : LtxRunClosed (e.ltxRunTold n held) n applied := by
  have k : DevKept [] [(pLtx n, 8), (pLtx n, 10)] e e (e.ltxRunTold n held) := (DevKept.refl e).ltxRunTold (by simp) (by simp) held
  exact ⟨(k.b List.not_mem_nil).trans a.applied, (k.b List.not_mem_nil).trans a.abandoned, (k.b List.not_mem_nil).trans a.busy⟩

theorem Dev.ltxRunTold_evt (hs : d.Signals (pLtx n) 16) (held : Bool) : (d.ltxRunTold n held).evt (pLtx n) 8 = true := by
  have hs' : (d.raise (pLtx n) 8).Signals (pLtx n) 16 := hs.congr (Dev.raiseIf_offPages d true _ _)
  rw [Dev.ltxRunTold, hs'.raiseIf_other (by decide), hs.raise (by decide)]

end

theorem not_trial_ltxApply (n : Lane) : (pTrial, 0x048) ∉ ltxApplyRegs n := fun hm =>
  (List.mem_append.mp hm).elim (by simp [pTrial]) (not_trial_regRun (by decide))

section
variable {s : State} {n : Lane} {r : CalRun}

/-- LTX_CAL_APPLY of a requested run that applies. -/
theorem ltxCalApply_applies (hc : s.calm) (hr : s.dev.runs (pLtx n)) (hrun : (s.dev.tx n).run = some r) (hcomp : r.computed = true)
    (hf : r.forced = false) (hfade : s.dev.b (pLtx n) fLtxFade = false) (ha : r.applies = true) :
    Yields (exec (.ltxCalApply n) s) fun t =>
      LevelsWritten s.dev t.dev n r ∧ LtxRunClosed t.dev n true ∧ t.dev.evt (pLtx n) 8 = true ∧
      Kept s t (s.dev.updLtx n fun h => { h with run := none, prev := some ⟨s.dev.rds (pLtx n) 0x300 8⟩ }) (ltxApplyRegs n)
        [(pLtx n, 8), (pLtx n, 10)] := by
  have hs := Dev.signals_ltx hr.powered
  have he := Dev.ltxCalApply_eq hrun hcomp hf hfade
  have hwritten := s.dev.ltxRunApplied_written n r
  have kwritten : DevKept (ltxApplyRegs n) [(pLtx n, 8), (pLtx n, 10)] s.dev _ (s.dev.ltxRunApplied n r) :=
    (DevKept.refl s.dev).ltxRunApplied (List.Subset.refl _)
  rw [ha, if_pos rfl] at he
  generalize s.dev.ltxRunApplied n r = e at *
  have kclosed := kwritten.ltxRunClosed (n := n) (by simp [List.subset_def]) true
  have hse : (e.ltxRunClosed n true).Signals (pLtx n) 16 := hs.congr kclosed.offPages
  have ktail : DevKept (ltxCloseRegs n) [(pLtx n, 8), (pLtx n, 10)] e _ ((e.ltxRunClosed n true).ltxRunTold n (s.dev.levelsHeld n r)) :=
    ((DevKept.refl e).ltxRunClosed (List.Subset.refl _) true).ltxRunTold (by simp) (by simp) _
  have kall := kclosed.ltxRunTold (n := n) (by simp) (by simp) (s.dev.levelsHeld n r)
  rw [Dev.updLtx_updLtx] at kall
  refine kall.yieldsOn hc hr he rfl (not_trial_ltxApply n) fun t hset kept =>
    ⟨(hwritten.kept ktail).settled hset, ((e.ltxRunClosed_closed n true).told _).settled hset, ?_, kept⟩
  exact (hset.evt _ _ hs.not_three).trans (Dev.ltxRunTold_evt hse _)

/-- LTX_CAL_APPLY of a requested run that applies nothing: its mode is above 1 (R130). -/
theorem ltxCalApply_nothing (hc : s.calm) (hr : s.dev.runs (pLtx n)) (hrun : (s.dev.tx n).run = some r) (hcomp : r.computed = true)
    (hf : r.forced = false) (hfade : s.dev.b (pLtx n) fLtxFade = false) (ha : r.applies = false) :
    Yields (exec (.ltxCalApply n) s) fun t =>
      (∀ o ∈ [0x068, 0x070, 0x074] ++ regRun 0x300 8, t.dev.rd (pLtx n) o = s.dev.rd (pLtx n) o) ∧ LtxRunClosed t.dev n false ∧
      t.dev.evt (pLtx n) 8 = true ∧
      Kept s t (s.dev.updLtx n fun h => { h with run := none }) (ltxCloseRegs n) [(pLtx n, 8), (pLtx n, 10)] := by
  have hs := Dev.signals_ltx hr.powered
  have he := Dev.ltxCalApply_eq hrun hcomp hf hfade
  rw [ha, if_neg (by decide)] at he
  have kclosed : DevKept (ltxCloseRegs n) [(pLtx n, 8), (pLtx n, 10)] s.dev _ (s.dev.ltxRunClosed n false) :=
    (DevKept.refl s.dev).ltxRunClosed (List.Subset.refl _) false
  have hse : (s.dev.ltxRunClosed n false).Signals (pLtx n) 16 := hs.congr kclosed.offPages
  refine (kclosed.ltxRunTold (n := n) (by simp) (by simp) _).yieldsOn hc hr he rfl (by simp [pTrial]) fun t hset kept =>
    ⟨fun o ho => ?_, ((s.dev.ltxRunClosed_closed n false).told _).settled hset, ?_, kept⟩
  · have hrange : 0x068 ≤ o ∧ o < 0x800 ∧ o ≠ 0x078 := by
      obtain ho | ho := List.mem_append.mp ho
      · simp at ho
        omega
      · obtain ⟨i, hi, rfl⟩ := mem_regRun.mp ho
        omega
    exact kept.regs _ _ (by omega) (by omega) (by simp; omega)
  · exact (hset.evt _ _ hs.not_three).trans (Dev.ltxRunTold_evt hse _)

end

/-- Settles O21: the request, the two starts, the two ends of the observation and the application by what each leaves of the
transmitter. -/
theorem levelPlacementCalibration : Obligations.LevelPlacementCalibration := by
  refine ⟨?request, ?start, ?retry, ?observe, ?abandon, ?apply⟩
  case request => exact fun s w n v hc ht => dacCalRun_requests hc ht
  case start => exact fun s n hc hr hrun hw hst hp => ltxCalStart_begins hc hr hrun hw hst hp
  case retry => exact fun s n hc hr hrun hw hst hp => ltxCalRetry_begins hc hr hrun hw hst hp
  case observe => exact fun s n counts targets r hc hr hrun hcomp hfull => ltxCalObservationEnd_targets hc hr hrun hcomp hfull
  case abandon =>
    intro s n counts targets r hc hr hrun hcomp hfew
    obtain ⟨t, ht, a, hevt, kept⟩ := ltxCalObservationEnd_abandons (targets := targets) hc hr hrun hcomp hfew
    exact ⟨t, ht, a.abandoned, a.applied, a.reason, a.busy, a.pending, hevt, kept⟩
  case apply =>
    intro s n r hc hr hrun hcomp hf hfade
    cases ha : r.applies with
    | true =>
      obtain ⟨t, ht, a, c, hevt, kept⟩ := ltxCalApply_applies hc hr hrun hcomp hf hfade ha
      exact ⟨t, ht, fun _ => ⟨a.levels, a.count, a.time⟩, nofun, c.applied, c.abandoned, c.busy, hevt, kept⟩
    | false =>
      obtain ⟨t, ht, hsame, c, hevt, kept⟩ := ltxCalApply_nothing hc hr hrun hcomp hf hfade ha
      exact ⟨t, ht, nofun, fun _ => hsame, c.applied, c.abandoned, c.busy, hevt,
        kept.mono (by simp [List.subset_def]) (List.Subset.refl _)⟩

end Sys2Proof.Machine
end

section
/-! The clear of the housekeeping DACs: a channel goes to its clear code and leaves it (R303, R304). -/

open Sys2Proof Sys2Proof.Machine

namespace Sys2Proof.Machine

/-! The blocks of the channels -/

theorem hdacBase_range (c : Fin 8) : 0x080 ≤ hdacBase c ∧ hdacBase c ≤ 0x160 := by
  unfold hdacBase
  omega

theorem hdacBase_apart {m c : Fin 8} (h : m ≠ c) : hdacBase c + 0x20 ≤ hdacBase m ∨ hdacBase m + 0x20 ≤ hdacBase c := by
  unfold hdacBase
  omega

/-- The LIVE registers. -/
abbrev liveRegs : List (Nat × Nat) := channels.map fun c => (pHdac, hdacBase c + 0x14)

theorem mem_liveRegs (c : Fin 8) : (pHdac, hdacBase c + 0x14) ∈ liveRegs := List.mem_map_of_mem (List.mem_finRange c)

theorem liveRegs_page {p o : Nat} (h : (p, o) ∈ liveRegs) : p = pHdac ∧ 0x094 ≤ o := by
  obtain ⟨c, -, hc⟩ := List.mem_map.mp h
  obtain ⟨rfl, rfl⟩ := Prod.mk.inj hc
  have hbase := hdacBase_range c
  exact ⟨rfl, by omega⟩

theorem not_trial_live : (pTrial, 0x048) ∉ liveRegs := fun h => absurd (liveRegs_page h).2 (by decide)

theorem Dev.signals_hdac {d : Dev} (h : d.powered pHdac = true) : d.Signals pHdac 6 :=
  ⟨h, by decide, by decide, by unfold refereePage pHdac; omega⟩

section
variable {ex ev : List (Nat × Nat)} {d h e : Dev} {c : Fin 8}

/-- A field of LIVE written. -/
theorem DevKept.sLive (k : DevKept ex ev d h e) (hx : (pHdac, hdacBase c + 0x14) ∈ ex) {f : Fld} (hf : f.off = hdacBase c + 0x14) (v : Nat) :
    DevKept ex ev d h (e.s pHdac f v) := by
  have hbase := hdacBase_range c
  exact k.s v (hf ▸ hx) (by omega) (by omega)

/-- The hidden part of a channel, where the housekeeping DACs are free. -/
theorem DevKept.updHdac {x : Vector HdacH 8} (k : DevKept ex ev d { h with hdac := x } e) (c : Fin 8) (f : HdacH → HdacH) :
    DevKept ex ev d { h with hdac := (e.updHdac c f).hdac } (e.updHdac c f) :=
  ⟨k.regs, k.events, congrArg (fun z : Dev => { z with hdac := (e.updHdac c f).hdac }) k.hidden⟩

/-! The clear -/

theorem DevKept.hdClear (k : DevKept ex ev d h e) (hx : (pHdac, hdacBase c + 0x14) ∈ ex) : DevKept ex ev d h (e.hdClear c) := by
  unfold Dev.hdClear
  split
  · exact k
  · exact (k.sLive (f := fHdState c) hx rfl _).sLive (f := fHdLive c) hx rfl _

theorem DevKept.allCleared (k : DevKept ex ev d h e) (hx : liveRegs ⊆ ex) : DevKept ex ev d h (e.eachHdac fun c d => d.hdClear c) :=
  k.foldl fun _ c _ kc => kc.hdClear (hx (mem_liveRegs c))

/-- LIVE of a channel that a clear has reached (R303). -/
def Dev.liveCleared (d : Dev) (c : Fin 8) : Word :=
  if d.hdState c = hdOff then d.rd pHdac (hdacBase c + 0x14)
  else setBits (setBits (d.rd pHdac (hdacBase c + 0x14)) 13 3 3) 0 12 (d.g pHdac (fHdClr c))

theorem Dev.hdClear_live (d : Dev) (c : Fin 8) : (d.hdClear c).rd pHdac (hdacBase c + 0x14) = d.liveCleared c := by
  unfold Dev.hdClear Dev.liveCleared
  split
  · rfl
  · rw [Dev.s, show (fHdLive c).off = hdacBase c + 0x14 from rfl, Dev.rd_wr_same, Dev.s, show (fHdState c).off = hdacBase c + 0x14 from rfl,
      Dev.rd_wr_same]
    rfl

theorem Dev.liveCleared_congr (h14 : e.rd pHdac (hdacBase c + 0x14) = d.rd pHdac (hdacBase c + 0x14))
    (h0C : e.rd pHdac (hdacBase c + 0x0C) = d.rd pHdac (hdacBase c + 0x0C)) : e.liveCleared c = d.liveCleared c := by
  have hst : e.hdState c = d.hdState c := Dev.g_congr (f := fHdState c) h14
  have hclr : e.g pHdac (fHdClr c) = d.g pHdac (fHdClr c) := Dev.g_congr (f := fHdClr c) h0C
  rw [Dev.liveCleared, Dev.liveCleared, hst, hclr, h14]

/-- The clear of all channels, at each. -/
theorem Dev.allCleared_live (d : Dev) (c : Fin 8) :
    (d.eachHdac fun c d => d.hdClear c).rd pHdac (hdacBase c + 0x14) = d.liveCleared c := by
  have hother : ∀ m x, m ≠ c → ((Dev.hdClear x m).rd pHdac (hdacBase c + 0x14), (Dev.hdClear x m).rd pHdac (hdacBase c + 0x0C)) =
      (x.rd pHdac (hdacBase c + 0x14), x.rd pHdac (hdacBase c + 0x0C)) := fun m x hm => by
    have k : DevKept [(pHdac, hdacBase m + 0x14)] [] x x (x.hdClear m) := (DevKept.refl x).hdClear (.head _)
    have hbase := hdacBase_range c
    have hapart := hdacBase_apart hm
    rw [k.regs _ _ (by omega) (by omega) (by simp; omega), k.regs _ _ (by omega) (by omega) (by simp; omega)]
  obtain ⟨x, hx, hall⟩ := Dev.eachLane_at (f := fun c d => d.hdClear c)
    (π := fun x => (x.rd pHdac (hdacBase c + 0x14), x.rd pHdac (hdacBase c + 0x0C))) hother d
  obtain ⟨h14, h0C⟩ := Prod.mk.inj hx
  exact (Prod.mk.inj hall).1.trans ((x.hdClear_live c).trans (Dev.liveCleared_congr h14 h0C))

/-- The channels at their clear codes, with source 2 (R303). -/
def Dev.clearBegun (d : Dev) : Dev := (d.eachHdac fun c d => d.hdClear c).raise pHdac 2

theorem DevKept.clearBegun (k : DevKept ex ev d h e) (hx : liveRegs ⊆ ex) (hv : (pHdac, 2) ∈ ev) : DevKept ex ev d h e.clearBegun :=
  (k.allCleared hx).raise hv

theorem Dev.clearBegun_live (d : Dev) (c : Fin 8) : d.clearBegun.rd pHdac (hdacBase c + 0x14) = d.liveCleared c := by
  have hbase := hdacBase_range c
  exact (Dev.rd_raise _ _ _ _ _ (by omega) (by omega)).trans (d.allCleared_live c)

theorem Dev.clearBegun_evt (hs : d.Signals pHdac 6) : d.clearBegun.evt pHdac 2 = true := by
  have k : DevKept liveRegs [] d d (d.eachHdac fun c d => d.hdClear c) := (DevKept.refl d).allCleared (List.Subset.refl _)
  exact (hs.congr k.offPages).raise (by decide)

/-! The release -/

theorem DevKept.spanBegin {x : Vector HdacH 8} (k : DevKept ex ev d { h with hdac := x } e) (hx : (pHdac, hdacBase c + 0x14) ∈ ex)
    (dest : Nat) : ∃ y, DevKept ex ev d { h with hdac := y } (e.spanBegin c dest) := by
  have kspan := k.updHdac c fun h => { h with span := some ⟨.slew, dest⟩ }
  unfold Dev.spanBegin
  dsimp only
  split
  · exact ⟨_, kspan⟩
  · have kstate := kspan.sLive (f := fHdState c) hx rfl hdSpan
    split
    · exact ⟨_, kstate.updHdac c _⟩
    · exact ⟨_, kstate⟩

theorem DevKept.hdRelease {x : Vector HdacH 8} (k : DevKept ex ev d { h with hdac := x } e) (hx : (pHdac, hdacBase c + 0x14) ∈ ex) :
    ∃ y, DevKept ex ev d { h with hdac := y } (e.hdRelease c) := by
  unfold Dev.hdRelease
  split
  · exact ⟨x, k⟩
  · have karm := (k.updHdac c fun h => { h with arm := true }).sLive (f := fHdState c) hx rfl hdTrack
    dsimp only
    split
    · exact karm.spanBegin hx _
    · exact ⟨_, karm⟩

theorem DevKept.allReleased (k : DevKept ex ev d h e) (hx : liveRegs ⊆ ex) :
    ∃ y, DevKept ex ev d { h with hdac := y } (e.eachHdac fun c d => d.hdRelease c) :=
  List.foldlRecOn (motive := fun x => ∃ y, DevKept ex ev d { h with hdac := y } x) _ _ ⟨h.hdac, k⟩ fun _ ⟨_, kc⟩ c _ =>
    kc.hdRelease (hx (mem_liveRegs c))

theorem Dev.hd_s (d : Dev) (p : Nat) (f : Fld) (v : Nat) (c : Fin 8) : (d.s p f v).hd c = d.hd c := rfl

theorem Dev.spanBegin_hd {m : Fin 8} (hm : m ≠ c) (d : Dev) (dest : Nat) : (d.spanBegin m dest).hd c = d.hd c := by
  have hspan : ∀ (x : Dev) (f : HdacH → HdacH), (x.updHdac m f).hd c = x.hd c := fun x f => Dev.hd_updHdac_other x (Ne.symm hm) f
  unfold Dev.spanBegin
  dsimp only
  split
  · exact hspan ..
  · split
    · exact (hspan ..).trans ((Dev.hd_s ..).trans (hspan ..))
    · exact (Dev.hd_s ..).trans (hspan ..)

theorem Dev.hdRelease_hd {m : Fin 8} (hm : m ≠ c) (d : Dev) : (d.hdRelease m).hd c = d.hd c := by
  have harm : ((d.updHdac m fun h => { h with arm := true }).s pHdac (fHdState m) hdTrack).hd c = d.hd c :=
    (Dev.hd_s ..).trans (Dev.hd_updHdac_other d (Ne.symm hm) _)
  unfold Dev.hdRelease
  split
  · rfl
  · dsimp only
    split
    · exact (Dev.spanBegin_hd hm ..).trans harm
    · exact harm

/-- LIVE of a channel after a clear has ended (R304). -/
def Dev.liveReleased (d : Dev) (c : Fin 8) : Word :=
  if d.hdState c = hdCleared then setBits (d.rd pHdac (hdacBase c + 0x14)) 13 3 1 else d.rd pHdac (hdacBase c + 0x14)

/-- The hidden part of a channel after a clear has ended (R304). -/
def Dev.hdReleased (d : Dev) (c : Fin 8) : HdacH := if d.hdState c = hdCleared then { d.hd c with arm := true } else d.hd c

theorem Dev.hdRelease_at (hspan : (d.hd c).span = none) : (d.hdRelease c).rd pHdac (hdacBase c + 0x14) = d.liveReleased c ∧
    (d.hdRelease c).hd c = d.hdReleased c := by
  have harm : ((d.updHdac c fun h => { h with arm := true }).s pHdac (fHdState c) hdTrack).hd c = { d.hd c with arm := true } :=
    (Dev.hd_s ..).trans (Dev.hd_updHdac_same d c _)
  have hnone : (((d.updHdac c fun h => { h with arm := true }).s pHdac (fHdState c) hdTrack).hd c).span = none := by
    rw [harm]
    exact hspan
  unfold Dev.hdRelease Dev.liveReleased Dev.hdReleased
  by_cases hst : d.hdState c = hdCleared
  · simp only [hnone]
    rw [if_neg (by simp [hst]), if_pos hst, if_pos hst]
    exact ⟨Dev.rd_wr_same .., harm⟩
  · rw [if_pos (by simpa using hst), if_neg hst, if_neg hst]
    exact ⟨rfl, rfl⟩

/-- The release of all channels, at each. -/
theorem Dev.allReleased_at (hspan : (d.hd c).span = none) :
    (d.eachHdac fun c d => d.hdRelease c).rd pHdac (hdacBase c + 0x14) = d.liveReleased c ∧
    (d.eachHdac fun c d => d.hdRelease c).hd c = d.hdReleased c := by
  have hother : ∀ m x, m ≠ c → ((Dev.hdRelease x m).rd pHdac (hdacBase c + 0x14), (Dev.hdRelease x m).hd c) =
      (x.rd pHdac (hdacBase c + 0x14), x.hd c) := fun m x hm => by
    obtain ⟨y, k⟩ := DevKept.hdRelease (h := x) (c := m) (x := x.hdac) (DevKept.refl (ex := [(pHdac, hdacBase m + 0x14)]) (ev := []) x) (.head _)
    have hbase := hdacBase_range c
    have hapart := hdacBase_apart hm
    rw [k.regs _ _ (by omega) (by omega) (by simp; omega), Dev.hdRelease_hd hm]
  obtain ⟨x, hx, hall⟩ := Dev.eachLane_at (f := fun c d => d.hdRelease c) (π := fun x => (x.rd pHdac (hdacBase c + 0x14), x.hd c)) hother d
  obtain ⟨h14, hhd⟩ := Prod.mk.inj hx
  obtain ⟨hlive, hhid⟩ := Prod.mk.inj hall
  obtain ⟨hat, hatHd⟩ := Dev.hdRelease_at (d := x) (c := c) (by rw [hhd]; exact hspan)
  have hst : x.hdState c = d.hdState c := Dev.g_congr (f := fHdState c) h14
  rw [Dev.liveReleased, hst, h14] at hat
  rw [Dev.hdReleased, hst, hhd] at hatHd
  exact ⟨hlive.trans hat, hhid.trans hatHd⟩

/-- The channels that track again, with source 3 (R304). -/
def Dev.clearEnded (d : Dev) : Dev := (d.raise pHdac 3).eachHdac fun c d => d.hdRelease c

theorem DevKept.clearEnded (k : DevKept ex ev d h e) (hx : liveRegs ⊆ ex) (hv : (pHdac, 3) ∈ ev) :
    ∃ y, DevKept ex ev d { h with hdac := y } e.clearEnded := (k.raise hv).allReleased hx

theorem Dev.clearEnded_at (hspan : (d.hd c).span = none) :
    d.clearEnded.rd pHdac (hdacBase c + 0x14) = d.liveReleased c ∧ d.clearEnded.hd c = d.hdReleased c := by
  have hbase := hdacBase_range c
  have k : DevKept [] [(pHdac, 3)] d d (d.raise pHdac 3) := (DevKept.refl d).raise (.head _)
  have hrd : (d.raise pHdac 3).rd pHdac (hdacBase c + 0x14) = d.rd pHdac (hdacBase c + 0x14) :=
    k.regs _ _ (by omega) (by omega) List.not_mem_nil
  have hst : (d.raise pHdac 3).hdState c = d.hdState c := Dev.g_congr (f := fHdState c) hrd
  have hhd : (d.raise pHdac 3).hd c = d.hd c := (congrArg (fun x : Dev => x.hd c) k.hidden :)
  obtain ⟨hlive, hhid⟩ := Dev.allReleased_at (d := d.raise pHdac 3) (c := c) (by rw [hhd]; exact hspan)
  rw [Dev.liveReleased, hst, hrd] at hlive
  rw [Dev.hdReleased, hst, hhd] at hhid
  exact ⟨hlive, hhid⟩

theorem Dev.clearEnded_evt (hs : d.Signals pHdac 6) : d.clearEnded.evt pHdac 3 = true := by
  obtain ⟨y, k⟩ := (DevKept.refl (ev := []) (d.raise pHdac 3)).allReleased (List.Subset.refl _)
  exact (k.events _ _ List.not_mem_nil (by decide)).trans (hs.raise (by decide))

/-! A change of the causes -/

variable {f : Dev → Dev}

theorem Dev.clrChange_begins (hw : (f d).walks = false) (hwas : d.clrActive = false) (hnow : (f d).clrActive = true) :
    d.clrChange f = (f d).clearBegun := by
  unfold Dev.clrChange
  simp only [hw, hwas, hnow, Bool.not_false, Bool.and_self, Bool.false_eq_true, if_false, if_true]
  rfl

theorem Dev.clrChange_ends (hw : (f d).walks = false) (hwas : d.clrActive = true) (hnow : (f d).clrActive = false) :
    d.clrChange f = (f d).clearEnded := by
  unfold Dev.clrChange
  simp only [hw, hwas, hnow, Bool.not_true, Bool.not_false, Bool.and_self, Bool.false_eq_true, if_false, if_true]
  rfl

/-- While a clear holds, only its causes change. -/
theorem Dev.clrChange_holds (hwas : d.clrActive = true) (hnow : (f d).clrActive = true) : d.clrChange f = f d := by
  unfold Dev.clrChange
  simp only [hwas, hnow, Bool.not_true, Bool.and_false, Bool.false_and, Bool.false_eq_true, if_false, ite_self]

end

end Sys2Proof.Machine
end

section
/-! sw_clr, DAC_CLR_N and the current limit: the clauses of O43 (R128, R298, R303, R304). -/

open Sys2Proof Sys2Proof.Machine

namespace Sys2Proof.Machine

/-! SW_CLR -/

/-- A clear has reached the channels: `d` before it, `t` after (R303). -/
structure ClearBegun (d t : Dev) : Prop where
  event : t.evt pHdac 2 = true
  live : ∀ c : Fin 8, t.rd pHdac (hdacBase c + 0x14) = d.liveCleared c

/-- A clear has ended: `d` before it, `t` after (R304). -/
structure ClearEnded (d t : Dev) : Prop where
  event : t.evt pHdac 3 = true
  live : ∀ c : Fin 8, t.rd pHdac (hdacBase c + 0x14) = d.liveReleased c
  hidden : ∀ c : Fin 8, t.hd c = d.hdReleased c

section
variable {d e t : Dev}

theorem Dev.clearBegun_begun (hs : d.Signals pHdac 6) : ClearBegun d d.clearBegun := ⟨Dev.clearBegun_evt hs, d.clearBegun_live⟩

theorem ClearBegun.settled (a : ClearBegun d e) (hset : Settled e t) : ClearBegun d t where
  event := (hset.evt _ _ (by decide)).trans a.event
  live c := by
    have hbase := hdacBase_range c
    exact (hset.rd _ _ (by omega) (by omega)).trans (a.live c)

theorem Dev.clearEnded_ended (hs : d.Signals pHdac 6) (hspan : ∀ c : Fin 8, (d.hd c).span = none) : ClearEnded d d.clearEnded :=
  ⟨Dev.clearEnded_evt hs, fun c => (Dev.clearEnded_at (hspan c)).1, fun c => (Dev.clearEnded_at (hspan c)).2⟩

theorem ClearEnded.settled (a : ClearEnded d e) (hset : Settled e t) (hhd : t.hdac = e.hdac) : ClearEnded d t where
  event := (hset.evt _ _ (by decide)).trans a.event
  live c := by
    have hbase := hdacBase_range c
    exact (hset.rd _ _ (by omega) (by omega)).trans (a.live c)
  hidden c := (congrArg (·.get c) hhd).trans (a.hidden c)

theorem Dev.store_swClr (d : Dev) (v : Word) : (d.store pHdac 0x040 v).b pHdac fSwClr = v.getLsbD 0 :=
  Dev.store_bit (fs := [rw 0 0 0]) (rst := 0) (by decide) (by decide) (by decide) (by decide) (by decide) d v

/-- sw_clr as a write leaves it, whatever the clear then makes of the channels. -/
theorem DevKept.swClr {ev : List (Nat × Nat)} {h : Dev} {v : Word} (k : DevKept liveRegs ev (d.store pHdac 0x040 v) h e) :
    e.b pHdac fSwClr = v.getLsbD 0 :=
  (k.b (f := fSwClr) fun hm => absurd (liveRegs_page hm).2 (by decide)).trans (d.store_swClr v)

theorem Dev.store_live (d : Dev) (v : Word) (c : Fin 8) {x : Nat} (hx : x < 0x20) :
    (d.store pHdac 0x040 v).rd pHdac (hdacBase c + x) = d.rd pHdac (hdacBase c + x) := by
  have hbase := hdacBase_range c
  exact d.rd_wr_off (by decide) (by omega) (by omega) _

theorem Dev.store_liveCleared (d : Dev) (v : Word) (c : Fin 8) : (d.store pHdac 0x040 v).liveCleared c = d.liveCleared c :=
  Dev.liveCleared_congr (d.store_live v c (by decide)) (d.store_live v c (by decide))

theorem Dev.store_hdState (d : Dev) (v : Word) (c : Fin 8) : (d.store pHdac 0x040 v).hdState c = d.hdState c :=
  Dev.g_congr (f := fHdState c) (d.store_live v c (by decide))

theorem Dev.store_liveReleased (d : Dev) (v : Word) (c : Fin 8) : (d.store pHdac 0x040 v).liveReleased c = d.liveReleased c := by
  rw [Dev.liveReleased, Dev.liveReleased, d.store_hdState, d.store_live v c (by decide)]

theorem Dev.store_hdReleased (d : Dev) (v : Word) (c : Fin 8) : (d.store pHdac 0x040 v).hdReleased c = d.hdReleased c := by
  rw [Dev.hdReleased, Dev.hdReleased, d.store_hdState]
  rfl

/-- A write of CTRL shows nowhere else. -/
theorem Dev.store_walks (d : Dev) (v : Word) : (d.store pHdac 0x040 v).walks = d.walks :=
  congrArg (· == 2) (Dev.g_congr (f := ⟨0x044, 0, 2⟩) (d.rd_wr_off (by decide) (by decide) (by decide) _))

theorem Dev.store_clrActive (d : Dev) (v : Word) : (d.store pHdac 0x040 v).clrActive = (d.clrLow || v.getLsbD 0) := by
  rw [Dev.clrActive, d.store_swClr]
  rfl

theorem not_trial_ctrlLive : (pTrial, 0x048) ∉ (pHdac, 0x040) :: liveRegs := fun hm =>
  (List.mem_cons.mp hm).elim (by decide) not_trial_live

end

section
variable {s : State} {w : Who} {v : Word}

/-- SW_CLR with 1 and no clear active. -/
theorem swClr_begins (hc : s.calm) (ht : s.dev.takes w pHdac 0x040) (hw : s.dev.walks = false) (ha : s.dev.clrActive = false)
    (hv : v.getLsbD 0 = true) : Yields (exec (.swClr w v) s) fun t =>
      t.dev.b pHdac fSwClr = true ∧ ClearBegun s.dev t.dev ∧ Kept s t s.dev.answered ((pHdac, 0x040) :: liveRegs) [(pHdac, 2)] := by
  have hs : (s.dev.store pHdac 0x040 v).Signals pHdac 6 := (Dev.signals_hdac ht.powered).congr rfl
  have he : s.dev.swClrWrite w v = (s.dev.store pHdac 0x040 v).clearBegun.answered :=
    (access_takes _ _ _ _ _ ht).trans (congrArg Dev.answered (Dev.clrChange_begins ((s.dev.store_walks v).trans hw) ha
      ((s.dev.store_clrActive v).trans (by rw [hv, Bool.or_true]))))
  have kstore : DevKept ((pHdac, 0x040) :: liveRegs) [(pHdac, 2)] s.dev s.dev (s.dev.store pHdac 0x040 v) := (DevKept.refl _).wr _ (.head _)
  have konly := (DevKept.refl (ev := [(pHdac, 2)]) (s.dev.store pHdac 0x040 v)).clearBegun (List.Subset.refl _) (.head _)
  refine (kstore.clearBegun (List.subset_cons_self _ _) (.head _)).answered.yields hc (f := (·.swClrWrite w v)) he (Dev.answered_life _)
    not_trial_ctrlLive fun t hans kept => have hset := hans.unanswered; ?_
  obtain ⟨hevt, hlive⟩ := (Dev.clearBegun_begun hs).settled hset
  exact ⟨(hset.b _ fSwClr).trans (konly.swClr.trans hv), ⟨hevt, fun c => (hlive c).trans (s.dev.store_liveCleared v c)⟩, kept⟩

/-- SW_CLR with 0 and no other cause. -/
theorem swClr_ends (hc : s.calm) (ht : s.dev.takes w pHdac 0x040) (hw : s.dev.walks = false) (hsw : s.dev.b pHdac fSwClr = true)
    (hlow : s.dev.clrLow = false) (hv : v.getLsbD 0 = false) (hspan : ∀ c : Fin 8, (s.dev.hd c).span = none) :
    Yields (exec (.swClr w v) s) fun t =>
      t.dev.b pHdac fSwClr = false ∧ ClearEnded s.dev t.dev ∧
      Kept s t { s.dev.answered with hdac := t.dev.hdac } ((pHdac, 0x040) :: liveRegs) [(pHdac, 3)] := by
  have hs : (s.dev.store pHdac 0x040 v).Signals pHdac 6 := (Dev.signals_hdac ht.powered).congr rfl
  have he : s.dev.swClrWrite w v = (s.dev.store pHdac 0x040 v).clearEnded.answered :=
    (access_takes _ _ _ _ _ ht).trans (congrArg Dev.answered (Dev.clrChange_ends ((s.dev.store_walks v).trans hw)
      (by rw [Dev.clrActive, hsw, Bool.or_true]) ((s.dev.store_clrActive v).trans (by rw [hv, hlow]; rfl))))
  have kstore : DevKept ((pHdac, 0x040) :: liveRegs) [(pHdac, 3)] s.dev s.dev (s.dev.store pHdac 0x040 v) := (DevKept.refl _).wr _ (.head _)
  obtain ⟨y, kend⟩ := kstore.clearEnded (List.subset_cons_self _ _) (.head _)
  obtain ⟨_, konly⟩ := (DevKept.refl (ev := [(pHdac, 3)]) (s.dev.store pHdac 0x040 v)).clearEnded (List.Subset.refl _) (.head _)
  have hy : (s.dev.store pHdac 0x040 v).clearEnded.hdac = y := (congrArg Dev.hdac kend.hidden :)
  refine kend.answered.yields hc (f := (·.swClrWrite w v)) he (Dev.answered_life _) not_trial_ctrlLive fun t hans kept =>
    have hset := hans.unanswered; ?_
  have hty : t.dev.hdac = y := (congrArg Dev.hdac kept.hidden :)
  obtain ⟨hevt, hlive, hhid⟩ := (Dev.clearEnded_ended hs hspan).settled hset (hty.trans hy.symm)
  refine ⟨(hset.b _ fSwClr).trans (konly.swClr.trans hv), ⟨hevt, fun c => (hlive c).trans (s.dev.store_liveReleased v c),
    fun c => (hhid c).trans (s.dev.store_hdReleased v c)⟩, ?_⟩
  rw [hty]
  exact kept

/-- SW_CLR while DAC_CLR_N is low. -/
theorem swClr_holds (hc : s.calm) (ht : s.dev.takes w pHdac 0x040) (hlow : s.dev.clrLow = true) : Yields (exec (.swClr w v) s) fun t =>
    t.dev.b pHdac fSwClr = v.getLsbD 0 ∧ Kept s t s.dev.answered [(pHdac, 0x040)] [] := by
  have he : s.dev.swClrWrite w v = (s.dev.store pHdac 0x040 v).answered :=
    (access_takes _ _ _ _ _ ht).trans (congrArg Dev.answered (Dev.clrChange_holds (by rw [Dev.clrActive, hlow]; rfl)
      ((s.dev.store_clrActive v).trans (by rw [hlow]; rfl))))
  have kstore : DevKept [(pHdac, 0x040)] [] s.dev s.dev (s.dev.store pHdac 0x040 v) := (DevKept.refl _).wr _ (.head _)
  exact kstore.answered.yields hc (f := (·.swClrWrite w v)) he (Dev.answered_life _) (by decide) fun t hans kept =>
    ⟨(hans.unanswered.b _ fSwClr).trans (s.dev.store_swClr v), kept⟩

end

/-! The ball -/

/-- In operation a ball's change acts as a command does. -/
theorem actPin_calm {s : State} (hc : s.calm) (f g : Dev → Dev) : actPin s f g = act s f :=
  (actPin_on s f g hc.1).trans (act_on s f hc.1).symm

theorem dacClrNFall_act {s : State} (hc : s.calm) : exec .dacClrNFall s = act s (·.clrBall true) :=
  actPin_calm hc (·.clrBall true) fun d => { d with clrLow := true }

theorem dacClrNRise_act {s : State} (hc : s.calm) : exec .dacClrNRise s = act s (·.clrBall false) :=
  actPin_calm hc (·.clrBall false) fun d => { d with clrLow := false }

/-- What each step leaves alone, all steps leave alone. -/
theorem Dev.eachLane_self {f : Lane → Dev → Dev} {d : Dev} (h : ∀ n, f n d = d) : d.eachLane f = d :=
  List.foldlRecOn (motive := fun c => c = d) _ _ rfl fun _ hc n _ => by rw [hc]; exact h n

section
variable {ex ev : List (Nat × Nat)} {d h e : Dev} {n : Lane}

/-- A line transmitter whose clr reason is as DAC_CLR_N asks. -/
theorem Dev.ltxFollow_same (hb : d.b (pLtx n) (fSq sqClr) = (d.clrLow && d.b (pLtx n) fFollowClr)) : d.ltxFollow n = d :=
  Dev.ltxSq_same hb

/-- A line transmitter that does not follow DAC_CLR_N, with its clr reason clear, keeps it clear. -/
theorem Dev.follow_none (hf : ∀ n : Lane, d.b (pLtx n) fFollowClr = false ∧ d.b (pLtx n) (fSq sqClr) = false)
    (k : DevKept liveRegs ev d h e) : e.eachLane (fun n d => d.ltxFollow n) = e := by
  refine Dev.eachLane_self fun n => Dev.ltxFollow_same ?_
  have hout : ∀ o, (pLtx n, o) ∉ liveRegs := fun o hm => absurd (liveRegs_page hm).1 (by unfold pLtx pHdac; omega)
  rw [k.b (f := fSq sqClr) (hout _), k.b (f := fFollowClr) (hout _), (hf n).1, (hf n).2, Bool.and_false]

theorem DevKept.ltxFollow {x : Vector LtxH 8} (k : DevKept ex ev d { h with ltx := x } e) (h44 : (pLtx n, 0x044) ∈ ex)
    (h0 : (pLtx n, 0) ∈ ev) (h3 : (pLtx n, 3) ∈ ev) : ∃ y, DevKept ex ev d { h with ltx := y } (e.ltxFollow n) := by
  obtain ⟨_, _, kfollow⟩ := k.ltxSq (k := sqClr) h44 h0 (by rintro x ⟨⟩; exact h3) (e.clrLow && e.b (pLtx n) fFollowClr)
  exact ⟨_, kfollow⟩

/-- The events of the line transmitters that a fall of DAC_CLR_N may raise, with the reasons beside them. -/
abbrev followEvents : List (Nat × Nat) := lanes.flatMap fun n => (List.range 10).map fun e => (pLtx n, e)

theorem mem_followEvents (n : Lane) {x : Nat} (hx : x < 10) : (pLtx n, x) ∈ followEvents :=
  List.mem_flatMap.mpr ⟨n, List.mem_finRange n, List.mem_map_of_mem (List.mem_range.mpr hx)⟩

/-- The line transmitters that follow DAC_CLR_N are all that they reach. -/
theorem DevKept.allFollow (k : DevKept ex ev d h e) (hx : squelchRegs ⊆ ex) (hv : followEvents ⊆ ev) :
    ∃ y, DevKept ex ev d { h with ltx := y } (e.eachLane fun n d => d.ltxFollow n) :=
  List.foldlRecOn (motive := fun c => ∃ y, DevKept ex ev d { h with ltx := y } c) _ _ ⟨h.ltx, k⟩ fun _ ⟨_, kc⟩ n _ =>
    kc.ltxFollow (hx (mem_squelchRegs n)) (hv (mem_followEvents n (by decide))) (hv (mem_followEvents n (by decide)))

/-- While DAC_CLR_N is low, a line transmitter that follows it has its clr reason (R128). -/
theorem Dev.allFollow_clr (hlow : d.clrLow = true) (hf : d.b (pLtx n) fFollowClr = true) :
    (d.eachLane fun n d => d.ltxFollow n).b (pLtx n) (fSq sqClr) = true := by
  have hother : ∀ m x, m ≠ n → ((Dev.ltxFollow x m).b (pLtx n) (fSq sqClr), (Dev.ltxFollow x m).b (pLtx n) fFollowClr,
      (Dev.ltxFollow x m).clrLow) = (x.b (pLtx n) (fSq sqClr), x.b (pLtx n) fFollowClr, x.clrLow) := fun m x hm => by
    obtain ⟨y, k⟩ := DevKept.ltxFollow (n := m) (h := x) (x := x.ltx)
      (DevKept.refl (ex := [(pLtx m, 0x044)]) (ev := [(pLtx m, 0), (pLtx m, 3)]) x) (.head _) (.head _) (by simp)
    have hout : ∀ o, (pLtx n, o) ∉ [(pLtx m, 0x044)] := fun o hmem => pLtx_inj hm (Prod.mk.inj (List.mem_singleton.mp hmem)).1
    rw [k.b (f := fSq sqClr) (hout _), k.b (f := fFollowClr) (hout _), show (x.ltxFollow m).clrLow = x.clrLow from (congrArg Dev.clrLow k.hidden :)]
  obtain ⟨x, hx, hall⟩ := Dev.eachLane_at (f := fun n d => d.ltxFollow n)
    (π := fun x => (x.b (pLtx n) (fSq sqClr), x.b (pLtx n) fFollowClr, x.clrLow)) hother d
  obtain ⟨-, hrest⟩ := Prod.mk.inj hx
  obtain ⟨hfollow, hclr⟩ := Prod.mk.inj hrest
  refine (Prod.mk.inj hall).1.trans ?_
  rw [Dev.ltxFollow, hclr, hlow, hfollow, hf]
  exact Dev.ltxSq_b (by decide) (by decide) ..

end

section
variable {s : State}

/-- DAC_CLR_N_FALL with no clear active, where no line transmitter follows. -/
theorem dacClrNFall_begins (hc : s.calm) (hw : s.dev.walks = false) (ha : s.dev.clrActive = false)
    (hf : ∀ n : Lane, s.dev.b (pLtx n) fFollowClr = false ∧ s.dev.b (pLtx n) (fSq sqClr) = false) (hp : s.dev.powered pHdac = true) :
    Yields (exec .dacClrNFall s) fun t =>
      ClearBegun s.dev t.dev ∧ Kept s t { s.dev with clrLow := true } liveRegs [(pHdac, 2)] := by
  have hs : ({ s.dev with clrLow := true } : Dev).Signals pHdac 6 := Dev.signals_hdac hp
  have klow : DevKept liveRegs [(pHdac, 2)] s.dev { s.dev with clrLow := true } { s.dev with clrLow := true } :=
    ⟨fun _ _ _ _ _ => rfl, fun _ _ _ _ => rfl, rfl⟩
  have kbegun := klow.clearBegun (List.Subset.refl _) (.head _)
  have he : s.dev.clrBall true = ({ s.dev with clrLow := true } : Dev).clearBegun := by
    rw [Dev.clrBall, Dev.clrChange_begins (f := fun d => { d with clrLow := true }) hw ha rfl]
    exact Dev.follow_none hf kbegun
  rw [dacClrNFall_act hc]
  refine kbegun.yields hc (f := (·.clrBall true)) he rfl not_trial_live fun t hset kept => ?_
  obtain ⟨hevt, hlive⟩ := (Dev.clearBegun_begun hs).settled hset
  exact ⟨⟨hevt, hlive⟩, kept⟩

/-- DAC_CLR_N_FALL with sw_clr 1, where every line transmitter follows. -/
theorem dacClrNFall_follows (hc : s.calm) (hsw : s.dev.b pHdac fSwClr = true) (hf : ∀ n : Lane, s.dev.b (pLtx n) fFollowClr = true) :
    Yields (exec .dacClrNFall s) fun t =>
      (∀ n : Lane, t.dev.b (pLtx n) (fSq sqClr) = true) ∧
      Kept s t { s.dev with clrLow := true, ltx := t.dev.ltx } squelchRegs followEvents := by
  have klow : DevKept squelchRegs followEvents s.dev { s.dev with clrLow := true } { s.dev with clrLow := true } :=
    ⟨fun _ _ _ _ _ => rfl, fun _ _ _ _ => rfl, rfl⟩
  have he : s.dev.clrBall true = ({ s.dev with clrLow := true } : Dev).eachLane fun n d => d.ltxFollow n := by
    rw [Dev.clrBall, Dev.clrChange_holds (f := fun d => { d with clrLow := true }) (by rw [Dev.clrActive, hsw, Bool.or_true]) rfl]
  have htrial : (pTrial, 0x048) ∉ squelchRegs := fun hm => by
    obtain ⟨n, -, hn⟩ := List.mem_map.mp hm
    exact trial_ne_ltx n (Prod.mk.inj hn).1.symm
  obtain ⟨y, kall⟩ := klow.allFollow (List.Subset.refl _) (List.Subset.refl _)
  rw [dacClrNFall_act hc]
  refine kall.yields hc (f := (·.clrBall true)) he rfl htrial fun t hset kept => ⟨fun n => ?_, ?_⟩
  · exact (hset.b _ (fSq sqClr)).trans (Dev.allFollow_clr (d := { s.dev with clrLow := true }) rfl (hf n))
  · rw [show t.dev.ltx = y from (congrArg Dev.ltx kept.hidden :)]
    exact kept

/-- DAC_CLR_N_RISE with no other cause, where no line transmitter follows. -/
theorem dacClrNRise_ends (hc : s.calm) (hw : s.dev.walks = false) (hlow : s.dev.clrLow = true) (hsw : s.dev.b pHdac fSwClr = false)
    (hf : ∀ n : Lane, s.dev.b (pLtx n) fFollowClr = false ∧ s.dev.b (pLtx n) (fSq sqClr) = false)
    (hspan : ∀ c : Fin 8, (s.dev.hd c).span = none) (hp : s.dev.powered pHdac = true) : Yields (exec .dacClrNRise s) fun t =>
      ClearEnded s.dev t.dev ∧ Kept s t { s.dev with clrLow := false, hdac := t.dev.hdac } liveRegs [(pHdac, 3)] := by
  have hs : ({ s.dev with clrLow := false } : Dev).Signals pHdac 6 := Dev.signals_hdac hp
  have khigh : DevKept liveRegs [(pHdac, 3)] s.dev { s.dev with clrLow := false } { s.dev with clrLow := false } :=
    ⟨fun _ _ _ _ _ => rfl, fun _ _ _ _ => rfl, rfl⟩
  obtain ⟨y, kend⟩ := khigh.clearEnded (List.Subset.refl _) (.head _)
  have he : s.dev.clrBall false = ({ s.dev with clrLow := false } : Dev).clearEnded := by
    rw [Dev.clrBall, Dev.clrChange_ends (f := fun d => { d with clrLow := false }) hw (by rw [Dev.clrActive, hlow]; rfl) hsw]
    exact Dev.follow_none hf kend
  have hy : ({ s.dev with clrLow := false } : Dev).clearEnded.hdac = y := (congrArg Dev.hdac kend.hidden :)
  rw [dacClrNRise_act hc]
  refine kend.yields hc (f := (·.clrBall false)) he rfl not_trial_live fun t hset kept => ?_
  have hty : t.dev.hdac = y := (congrArg Dev.hdac kept.hidden :)
  obtain ⟨hevt, hlive, hhid⟩ := (Dev.clearEnded_ended hs hspan).settled hset (hty.trans hy.symm)
  refine ⟨⟨hevt, hlive, hhid⟩, ?_⟩
  rw [hty]
  exact kept

/-! The current limit -/

/-- CURRENT_LIMIT of a channel that is on. -/
theorem currentLimit_marks {c : Fin 8} {on : Bool} (hc : s.calm) (hr : s.dev.runs pHdac) (hst : s.dev.hdState c ≠ hdOff) :
    Yields (exec (.currentLimit c on) s) fun t =>
      t.dev.rd pHdac 0x044 = setBits (s.dev.rd pHdac 0x044) (16 + c.val) 1 (if on then 1 else 0) ∧
      t.dev.evt pHdac 5 = (s.dev.evt pHdac 5 || (on && !s.dev.b pHdac (fIlim c))) ∧
      Kept s t s.dev [(pHdac, 0x044)] [(pHdac, 5)] := by
  have hs := Dev.signals_hdac hr.powered
  have hse : (s.dev.sb pHdac (fIlim c) on).Signals pHdac 6 := hs.congr rfl
  have hevt : (s.dev.sb pHdac (fIlim c) on).evt pHdac 5 = s.dev.evt pHdac 5 := Dev.evt_wr _ (off := 0x044) _ _ _
  have k : DevKept [(pHdac, 0x044)] [(pHdac, 5)] s.dev s.dev (s.dev.sb pHdac (fIlim c) on) :=
    (DevKept.refl s.dev).sb (f := fIlim c) on (.head _) (by simp only [fIlim]; omega) (by simp only [fIlim]; omega)
  refine (k.raiseIf (p := pHdac) (src := 5) (on && !s.dev.b pHdac (fIlim c)) (.head _)).yieldsOn hc hr (f := (·.hdLimit c on)) (if_neg hst) rfl
    (by decide) fun t hset kept => ⟨?_, ?_, kept⟩
  · exact (hset.rd _ _ (by decide) (by decide)).trans ((Dev.rd_raiseIf ..).trans (Dev.rd_wr_same ..))
  · rw [hset.evt _ _ hs.not_three, hse.raiseIf (by decide), hevt]

end

/-- Settles O43: the beginning, the end and the hold of a clear, each for sw_clr and for the ball, the line transmitters that follow the
ball, and the current limit. -/
theorem clearDrivesTheClearCode : Obligations.ClearDrivesTheClearCode := by
  refine ⟨?begin, ?stop, ?hold, ?fall, ?follow, ?rise, ?limit⟩
  case begin =>
    intro s w v hc ht hw ha hv
    obtain ⟨t, htn, hsw, a, kept⟩ := swClr_begins hc ht hw ha hv
    exact ⟨t, htn, hsw, a.event, a.live, kept⟩
  case stop =>
    intro s w v hc ht hw hsw hlow hv hspan
    obtain ⟨t, htn, hsw', a, kept⟩ := swClr_ends hc ht hw hsw hlow hv hspan
    exact ⟨t, htn, hsw', a.event, fun c => ⟨a.live c, a.hidden c⟩, kept⟩
  case hold => exact fun s w v hc ht hlow => swClr_holds hc ht hlow
  case fall =>
    intro s hc hw ha hf hp
    obtain ⟨t, htn, a, kept⟩ := dacClrNFall_begins hc hw ha hf hp
    exact ⟨t, htn, a.event, a.live, kept⟩
  case follow => exact fun s hc hsw hf => dacClrNFall_follows hc hsw hf
  case rise =>
    intro s hc hw hlow hsw hf hspan hp
    obtain ⟨t, htn, a, kept⟩ := dacClrNRise_ends hc hw hlow hsw hf hspan hp
    exact ⟨t, htn, a.event, fun c => ⟨a.live c, a.hidden c⟩, kept⟩
  case limit => exact fun s c on hc hr hst => currentLimit_marks hc hr hst

end Sys2Proof.Machine
end

section
/-! The inner code (O24, R138, R140): check word and parity are linear in the bits, both vanish on a codeword, and a single flipped bit
leaves its own check column. -/

open Sys2Proof Sys2Proof.Machine

namespace Sys2Proof.Machine

/-! Linearity -/

theorem syndromeFrom_xor (x y j : Nat) (l : List Nat) : syndromeFrom (x ^^^ y) j l = syndromeFrom x j l ^^^ syndromeFrom y j l := by
  induction l generalizing j with
  | nil => simp [syndromeFrom]
  | cons v t ih =>
    rw [syndromeFrom, syndromeFrom, syndromeFrom, ih, Nat.testBit_xor]
    cases x.testBit j <;> cases y.testBit j <;> simp [Nat.xor_assoc, Nat.xor_left_comm]

theorem syndrome_xor (x y : Nat) : syndrome (x ^^^ y) = syndrome x ^^^ syndrome y := syndromeFrom_xor x y 0 checkCols

theorem parity_xor (x y k : Nat) : parity (x ^^^ y) k = (parity x k ^^ parity y k) := by
  induction k with
  | zero => rfl
  | succ k ih =>
    rw [parity, parity, parity, ih, Nat.testBit_xor]
    cases x.testBit k <;> cases y.testBit k <;> simp

/-! Only the bits in view count -/

theorem syndromeFrom_congr {x y j : Nat} {l : List Nat} (h : ∀ i < l.length, x.testBit (j + i) = y.testBit (j + i)) :
    syndromeFrom x j l = syndromeFrom y j l := by
  induction l generalizing j with
  | nil => rfl
  | cons v t ih =>
    have hhead : x.testBit j = y.testBit j := h 0 (Nat.succ_pos _)
    have htail : syndromeFrom x (j + 1) t = syndromeFrom y (j + 1) t := ih fun i hi => by
      have := h (i + 1) (Nat.succ_lt_succ hi)
      rwa [show j + (i + 1) = j + 1 + i by omega] at this
    rw [syndromeFrom, syndromeFrom, hhead, htail]

theorem syndromeFrom_append (x j : Nat) (l m : List Nat) :
    syndromeFrom x j (l ++ m) = syndromeFrom x j l ^^^ syndromeFrom x (j + l.length) m := by
  induction l generalizing j with
  | nil => simp [syndromeFrom]
  | cons v t ih =>
    rw [List.cons_append, syndromeFrom, syndromeFrom, ih, Nat.xor_assoc, List.length_cons,
      show j + 1 + t.length = j + (t.length + 1) by omega]

theorem parity_congr {x y k : Nat} (h : ∀ i < k, x.testBit i = y.testBit i) : parity x k = parity y k := by
  induction k with
  | zero => rfl
  | succ k ih => rw [parity, parity, h k (Nat.lt_succ_self k), ih fun i hi => h i (Nat.lt_succ_of_lt hi)]

/-! No bit, and a single bit -/

theorem syndromeFrom_zero (j : Nat) (l : List Nat) : syndromeFrom 0 j l = 0 := by
  induction l generalizing j with
  | nil => rfl
  | cons v t ih => simp [syndromeFrom, ih]

theorem parity_zero (k : Nat) : parity 0 k = false := by
  induction k with
  | zero => rfl
  | succ k ih => simp [parity, ih]

theorem syndromeFrom_two_pow (j k : Nat) (l : List Nat) : syndromeFrom (2 ^ (k + j)) k l = l.getD j 0 := by
  induction l generalizing j k with
  | nil => rfl
  | cons v t ih =>
    cases j with
    | zero =>
      have hbeyond : syndromeFrom (2 ^ k) (k + 1) t = syndromeFrom 0 (k + 1) t := syndromeFrom_congr fun i _ => by
        rw [Nat.testBit_two_pow_of_ne (by omega), Nat.zero_testBit]
      rw [Nat.add_zero, syndromeFrom, hbeyond, syndromeFrom_zero, Nat.testBit_two_pow_self]
      exact Nat.xor_zero v
    | succ j =>
      rw [syndromeFrom, Nat.testBit_two_pow_of_ne (by omega), show k + (j + 1) = k + 1 + j by omega, ih]
      exact Nat.zero_xor _

theorem parity_two_pow {j k : Nat} (h : j < k) : parity (2 ^ j) k = true := by
  induction k with
  | zero => omega
  | succ k ih =>
    rw [parity]
    by_cases hk : j = k
    · subst hk
      have hbelow : parity (2 ^ j) j = parity 0 j := parity_congr fun i hi => by
        rw [Nat.testBit_two_pow_of_ne (by omega), Nat.zero_testBit]
      rw [hbelow, parity_zero, Nat.testBit_two_pow_self]
      rfl
    · rw [ih (by omega), Nat.testBit_two_pow_of_ne (by omega)]
      rfl

/-! The check columns -/

theorem length_payloadCols : payloadCols.length = 120 := by decide +kernel

theorem length_checkCols : checkCols.length = 127 := by rw [checkCols, List.length_append, length_payloadCols]; rfl

theorem mem_payloadCols {v : Nat} (h : v ∈ payloadCols) : 3 ≤ v ∧ v ∉ [4, 8, 16, 32, 64] := by
  simpa [payloadCols] using (List.mem_filter.mp h).2

/-- No two of the bits 0 to 126 have the same check column (R138). -/
theorem nodup_checkCols : checkCols.Nodup := by
  refine List.Nodup.append (List.nodup_range.filter _) (by decide) fun v hpay hcheck => ?_
  obtain ⟨hge, hpow⟩ := mem_payloadCols hpay
  have hsmall : ∀ c ∈ [1, 2, 4, 8, 16, 32, 64], c < 3 ∨ c ∈ [4, 8, 16, 32, 64] := by decide
  exact (hsmall v hcheck).elim (Nat.not_lt.mpr hge) hpow

theorem zero_notMem_checkCols : 0 ∉ checkCols := fun h => by
  rcases List.mem_append.mp h with hpay | hcheck
  · exact absurd (mem_payloadCols hpay).1 (by decide)
  · exact absurd hcheck (by decide)

/-- The 128 bits have different check columns, bit 127 the column 0 (R138). -/
theorem bitOfCol_column {j : Nat} (h : j < 128) : bitOfCol (checkCols.getD j 0) = j := by
  by_cases hlast : j < checkCols.length
  · have hne : checkCols[j] ≠ 0 := fun he => zero_notMem_checkCols (he ▸ List.getElem_mem hlast)
    rw [List.getD_eq_getElem _ _ hlast, bitOfCol, if_neg hne]
    exact nodup_checkCols.idxOf_getElem j hlast
  · rw [List.getD_eq_default _ _ (by omega), bitOfCol, if_pos rfl]
    rw [length_checkCols] at hlast
    omega

/-- The check word of a single bit tells which bit it is (R140). -/
theorem bitOfCol_syndrome_two_pow {j : Nat} (h : j < 128) : bitOfCol (syndrome (2 ^ j)) = j := by
  have hcol : syndrome (2 ^ j) = checkCols.getD j 0 := by
    have := syndromeFrom_two_pow j 0 checkCols
    rwa [Nat.zero_add] at this
  rw [hcol, bitOfCol_column h]

/-! Codewords -/

/-- Check words have seven bits. -/
theorem syndromeFrom_lt {l : List Nat} (h : ∀ v ∈ l, v < 2 ^ 7) (x j : Nat) : syndromeFrom x j l < 2 ^ 7 := by
  induction l generalizing j with
  | nil => exact Nat.two_pow_pos 7
  | cons v t ih =>
    refine Nat.xor_lt_two_pow ?_ (ih (fun a ha => h a (.tail _ ha)) (j + 1))
    split
    · exact h v (.head _)
    · decide

theorem payloadCols_lt : ∀ v ∈ payloadCols, v < 2 ^ 7 := fun _ h => List.mem_range.mp (List.mem_filter.mp h).1

/-- The check word of a payload (R138). -/
def checkWord (x : BitVec 120) : Nat := syndromeFrom x.toNat 0 payloadCols

theorem checkWord_lt (x : BitVec 120) : checkWord x < 2 ^ 7 := syndromeFrom_lt payloadCols_lt _ _

/-- Bits 0 to 126 of a codeword: the payload and its check word above it. -/
def uncheckedWord (x : BitVec 120) : Nat := x.toNat + checkWord x * 2 ^ 120

theorem uncheckedWord_testBit (x : BitVec 120) (i : Nat) :
    (uncheckedWord x).testBit i = if i < 120 then x.toNat.testBit i else (checkWord x).testBit (i - 120) := by
  rw [uncheckedWord, Nat.add_comm, Nat.mul_comm]
  exact Nat.testBit_two_pow_mul_add (checkWord x) x.isLt i

theorem uncheckedWord_lt (x : BitVec 120) : uncheckedWord x < 2 ^ 127 := by
  have := checkWord_lt x
  have := x.isLt
  unfold uncheckedWord
  omega

theorem innerEncode_toNat (x : BitVec 120) :
    (innerEncode x).toNat = 2 ^ 127 * (parity (uncheckedWord x) 127).toNat + uncheckedWord x := by
  have hlt := uncheckedWord_lt x
  have hword : innerEncode x = BitVec.ofNat 128 (uncheckedWord x + if parity (uncheckedWord x) 127 then 2 ^ 127 else 0) := rfl
  rw [hword, BitVec.toNat_ofNat]
  cases parity (uncheckedWord x) 127 <;> simp <;> omega

theorem innerEncode_testBit (x : BitVec 120) {i : Nat} (h : i < 127) : (innerEncode x).toNat.testBit i = (uncheckedWord x).testBit i := by
  rw [innerEncode_toNat, Nat.testBit_two_pow_mul_add _ (uncheckedWord_lt x), if_pos h]

theorem innerEncode_testBit_last (x : BitVec 120) : (innerEncode x).toNat.testBit 127 = parity (uncheckedWord x) 127 := by
  rw [innerEncode_toNat, Nat.testBit_two_pow_mul_add _ (uncheckedWord_lt x), if_neg (Nat.lt_irrefl _)]
  cases parity (uncheckedWord x) 127 <;> rfl

/-- The payload stands in bits 0 to 119 of its codeword (R138). -/
theorem innerEncode_testBit_payload (x : BitVec 120) {i : Nat} (h : i < 120) : (innerEncode x).toNat.testBit i = x.toNat.testBit i := by
  rw [innerEncode_testBit x (by omega), uncheckedWord_testBit, if_pos h]

/-- Seven bits whose check columns are the powers of two are their own check word. -/
theorem syndromeFrom_powers {x c : Nat} (hc : c < 2 ^ 7) (h : ∀ i < 7, x.testBit (120 + i) = c.testBit i) :
    syndromeFrom x 120 [1, 2, 4, 8, 16, 32, 64] = c := by
  have hsmall : ∀ c < 2 ^ 7, syndromeFrom c 0 [1, 2, 4, 8, 16, 32, 64] = c := by decide +kernel
  have hshift : syndromeFrom x 120 [1, 2, 4, 8, 16, 32, 64] = syndromeFrom c 0 [1, 2, 4, 8, 16, 32, 64] := by
    simp only [syndromeFrom, h 0 (by decide), h 1 (by decide), h 2 (by decide), h 3 (by decide), h 4 (by decide), h 5 (by decide),
      h 6 (by decide)]
  rw [hshift, hsmall c hc]

theorem syndrome_innerEncode (x : BitVec 120) : syndrome (innerEncode x).toNat = 0 := by
  have hpay : syndromeFrom (innerEncode x).toNat 0 payloadCols = checkWord x := syndromeFrom_congr fun i hi => by
    rw [length_payloadCols] at hi
    rw [Nat.zero_add, innerEncode_testBit_payload x hi]
  have hcheck : syndromeFrom (innerEncode x).toNat 120 [1, 2, 4, 8, 16, 32, 64] = checkWord x :=
    syndromeFrom_powers (checkWord_lt x) fun i hi => by
      rw [innerEncode_testBit x (by omega), uncheckedWord_testBit, if_neg (by omega), Nat.add_sub_cancel_left]
  rw [syndrome, checkCols, syndromeFrom_append, length_payloadCols, Nat.zero_add, hpay, hcheck, Nat.xor_self]

theorem parity_innerEncode (x : BitVec 120) : parity (innerEncode x).toNat 128 = false := by
  have hlow : parity (innerEncode x).toNat 127 = parity (uncheckedWord x) 127 := parity_congr fun i hi => innerEncode_testBit x hi
  rw [parity, hlow, innerEncode_testBit_last, bne_self_eq_false]

/-! Hard decoding -/

theorem hardDecode_innerEncode (x : BitVec 120) : hardDecode (innerEncode x).toNat = some (innerEncode x).toNat := by
  simp [hardDecode, parity_innerEncode, syndrome_innerEncode]

/-- A flipped bit makes the parity odd and leaves its own check column, so the decoder flips it back. -/
theorem hardDecode_flipped (x : BitVec 120) {j : Nat} (h : j < 128) :
    hardDecode ((innerEncode x).toNat ^^^ 2 ^ j) = some (innerEncode x).toNat := by
  have hodd : parity ((innerEncode x).toNat ^^^ 2 ^ j) 128 = true := by
    rw [parity_xor, parity_innerEncode, parity_two_pow h]
    rfl
  have hcol : bitOfCol (syndrome ((innerEncode x).toNat ^^^ 2 ^ j)) = j := by
    rw [syndrome_xor, syndrome_innerEncode, Nat.zero_xor, bitOfCol_syndrome_two_pow h]
  rw [hardDecode, hodd, hcol, if_pos rfl, Nat.xor_assoc, Nat.xor_self, Nat.xor_zero]

/-- Settles O24: a codeword has check word 0 and even parity; one flipped bit shows as odd parity with its own check column. -/
theorem innerCodeCorrectsOneError : Obligations.InnerCodeCorrectsOneError :=
  ⟨hardDecode_innerEncode, fun x _ h => hardDecode_flipped x h⟩

end Sys2Proof.Machine
end

section
/-! The coding path: its hidden part, its 64-bit counters and its pages (R20 to R25, R138 to R171). -/

open Sys2Proof Sys2Proof.Machine

namespace Sys2Proof.Machine

/-! The hidden part of a lane and of a group -/

section
variable {d h e : Dev} {ex ev : List (Nat × Nat)} {s t : State} {n : Lane}

@[simp] theorem Dev.cl_updCl_same (d : Dev) (n : Lane) (f : CodeLane → CodeLane) : (d.updCl n f).cl n = f (d.cl n) := vget_set_same _ _ _

theorem Dev.cl_updCl_other (d : Dev) {n k : Lane} (h : k ≠ n) (f : CodeLane → CodeLane) : (d.updCl n f).cl k = d.cl k :=
  vget_set_other _ h _

@[simp] theorem Dev.cg_updCg_same (d : Dev) (n : Lane) (f : CodeGroup → CodeGroup) : (d.updCg n f).cg n = f (d.cg n) :=
  vget_set_same _ _ _

theorem Dev.updCl_updCl (d : Dev) (n : Lane) (f g : CodeLane → CodeLane) : (d.updCl n f).updCl n g = d.updCl n fun c => g (f c) := by
  rw [Dev.updCl, Dev.cl_updCl_same]
  simp [Dev.updCl]

theorem Dev.updCl_congr {f g : CodeLane → CodeLane} (h : f (d.cl n) = g (d.cl n)) : d.updCl n f = d.updCl n g := by
  rw [Dev.updCl, Dev.updCl, h]

theorem Dev.updCl_self {f : CodeLane → CodeLane} (h : f (d.cl n) = d.cl n) : d.updCl n f = d := by
  have hset : d.code.lanes.set n.val (d.cl n) = d.code.lanes := Vector.set_getElem_self n.isLt
  rw [Dev.updCl, h, hset]

theorem DevKept.code (k : DevKept ex ev d h e) : e.code = h.code := (congrArg Dev.code k.hidden :)

theorem DevKept.cl (k : DevKept ex ev d h e) (n : Lane) : e.cl n = h.cl n := congrArg (·.lanes.get n) k.code

theorem DevKept.live (k : DevKept ex ev d h e) : e.live = h.live := (congrArg Dev.live k.hidden :)

theorem DevKept.updCl (k : DevKept ex ev d h e) (n : Lane) (f : CodeLane → CodeLane) :
    DevKept ex ev d (h.updCl n f) (e.updCl n f) where
  regs := k.regs
  events := k.events
  hidden := by
    unfold Dev.updCl Dev.cl
    rw [k.code]
    exact congrArg (fun x : Dev => { x with code := { h.code with lanes := h.code.lanes.set n.val (f (h.code.lanes.get n)) } }) k.hidden

/-- The coding path set on both sides. -/
theorem DevKept.setCode (k : DevKept ex ev d h e) (x : CodeH) : DevKept ex ev d { h with code := x } { e with code := x } :=
  ⟨k.regs, k.events, congrArg (fun y : Dev => { y with code := x }) k.hidden⟩

theorem Kept.code (k : Kept s t d ex ev) : t.dev.code = d.code := (congrArg Dev.code k.hidden :)

theorem Kept.cl (k : Kept s t d ex ev) (n : Lane) : t.dev.cl n = d.cl n := congrArg (·.lanes.get n) k.code

theorem Kept.updCl_congr {f g : CodeLane → CodeLane} (k : Kept s t (d.updCl n f) ex ev) (h : f (d.cl n) = g (d.cl n)) :
    Kept s t (d.updCl n g) ex ev := by
  rwa [← Dev.updCl_congr h]

/-- What is applied says which lanes are Segmented. -/
theorem Dev.segmented_congr (h : e.live = d.live) (n : Lane) : e.segmented n = d.segmented n := by
  rw [Dev.segmented, Dev.segmented, Dev.lrd, Dev.lrd, h]

end

/-! Counters -/

/-- A register of a run. -/
theorem mem_run {p off k : Nat} (i : Nat) (h : i < k) : (p, off + 4 * i) ∈ regsOf p (regRun off k) :=
  mem_regsOf.mpr ⟨rfl, mem_regRun.mpr ⟨i, h, rfl⟩⟩

theorem not_mem_counters {p q off k o : Nat} (h : q ≠ p ∨ o < off ∨ off + 4 * k ≤ o) : (q, o) ∉ regsOf p (regRun off k) := fun hm =>
  h.elim (fun hp => hp (mem_regsOf.mp hm).1) fun ho => not_mem_regRun ho (mem_regsOf.mp hm).2

/-- A block of counters at `c`, `w` bytes long, above the registers of events and within its page (R171). -/
structure CounterBlock (c w : Nat) : Prop where
  above : 0x010 < c
  within : c + w ≤ 4096

section
variable {d h e t : Dev} {ex ev : List (Nat × Nat)} {p k q o c w x y : Nat}

theorem Dev.rd64_eq (hlo : e.rd q o = d.rd q o) (hhi : e.rd q (o + 4) = d.rd q (o + 4)) : e.rd64 q o = d.rd64 q o := by
  rw [Dev.rd64, Dev.rd64, hlo, hhi]

theorem Dev.rd64_when {f : Dev → Dev} (h : (f d).rd64 q o = d.rd64 q o) (c : Bool) : (d.when c f).rd64 q o = d.rd64 q o :=
  Dev.when_keeps (·.rd64 q o) h c

theorem Dev.rd64_raise (d : Dev) (p src q : Nat) {o : Nat} (ho : o + 4 < 4096) (hne : 0x010 < o) :
    (d.raise p src).rd64 q o = d.rd64 q o :=
  Dev.rd64_eq (d.rd_raise p src q o (Nat.lt_of_add_right_lt ho) hne.ne') (d.rd_raise p src q (o + 4) ho (Nat.lt_add_right 4 hne).ne')

theorem Dev.rd64_raiseIf (d : Dev) (c : Bool) (p src q : Nat) {o : Nat} (ho : o + 4 < 4096) (hne : 0x010 < o) :
    (d.raiseIf c p src).rd64 q o = d.rd64 q o := Dev.rd64_when (f := (·.raise p src)) (d.rd64_raise p src q ho hne) c

theorem Settled.rd64 (h : Settled e t) (p : Nat) {o : Nat} (ho : o + 4 < 4096) (hne : 0x010 < o) : t.rd64 p o = e.rd64 p o :=
  Dev.rd64_eq (h.rd p o (Nat.lt_of_add_right_lt ho) hne.ne') (h.rd p (o + 4) ho (Nat.lt_add_right 4 hne).ne')

namespace CounterBlock

theorem lt (hb : CounterBlock c w) (hx : x + 8 ≤ w) : c + x + 4 < 4096 := by
  have := hb.within
  omega

theorem gt (hb : CounterBlock c w) : 0x010 < c + x := Nat.lt_add_right x hb.above

theorem same (hb : CounterBlock c w) (d : Dev) (p : Nat) {x : Nat} (hx : x + 8 ≤ w) (k : Nat) :
    (d.add64 p (c + x) k).rd64 p (c + x) = d.rd64 p (c + x) + BitVec.ofNat 64 k := Dev.rd64_wr64_same _ _ _ _ (hb.lt hx)

theorem other (hb : CounterBlock c w) (d : Dev) {x y : Nat} (h : x + 8 ≤ y ∨ y + 8 ≤ x) (hx : x + 8 ≤ w) (hy : y + 8 ≤ w) (k : Nat) :
    (d.add64 p (c + x) k).rd64 p (c + y) = d.rd64 p (c + y) :=
  Dev.rd64_wr64_other _ _ (h.imp (Nat.add_le_add_left · c) (Nat.add_le_add_left · c)) (hb.lt hx) (hb.lt hy)

theorem when_same (hb : CounterBlock c w) (d : Dev) (b : Bool) (p : Nat) {x : Nat} (hx : x + 8 ≤ w) (k : Nat) :
    (d.when b (·.add64 p (c + x) k)).rd64 p (c + x) = d.rd64 p (c + x) + if b then BitVec.ofNat 64 k else 0 := by
  cases b with
  | false => exact (BitVec.add_zero _).symm
  | true => exact hb.same d p hx k

theorem raise (hb : CounterBlock c w) (d : Dev) (p src q : Nat) {x : Nat} (hx : x + 8 ≤ w) :
    (d.raise p src).rd64 q (c + x) = d.rd64 q (c + x) := d.rd64_raise p src q (hb.lt hx) hb.gt

theorem settled (hb : CounterBlock c w) (h : Settled e t) (q : Nat) {x : Nat} (hx : x + 8 ≤ w) : t.rd64 q (c + x) = e.rd64 q (c + x) :=
  h.rd64 q (hb.lt hx) hb.gt

end CounterBlock

/-- A counter of a block, where both its registers may be written. -/
theorem DevKept.counted (kp : DevKept ex ev d h e) (hb : CounterBlock c w) {x : Nat} (hx : x + 8 ≤ w) (k : Nat) (hlo : (p, c + x) ∈ ex)
    (hhi : (p, c + x + 4) ∈ ex) : DevKept ex ev d h (e.add64 p (c + x) k) := kp.wr64 _ hlo hhi (hb.lt hx) hb.gt

/-- Counter `i` of a run of registers that may be written. -/
theorem DevKept.count {r : Nat} (kp : DevKept ex ev d h e) (hb : CounterBlock c w) (hx : regsOf p (regRun c r) ⊆ ex) {i : Nat}
    (hi : 2 * i + 1 < r) (hw : 8 * i + 8 ≤ w) (k : Nat) : DevKept ex ev d h (e.add64 p (c + 8 * i) k) := by
  have hlo : c + 8 * i = c + 4 * (2 * i) := by rw [← Nat.mul_assoc]
  refine kp.counted hb hw k (hx ?_) (hx (?_ : (p, c + 8 * i + 4) ∈ _))
  · exact hlo ▸ mem_run (2 * i) (Nat.lt_of_succ_lt hi)
  · exact hlo ▸ mem_run (2 * i + 1) hi

end

/-! Pages and their events -/

section
variable {d : Dev}

theorem Dev.signals_fecLtx (h : d.powered pFecLtx = true) : d.Signals pFecLtx 4 := ⟨h, by decide, by decide, by decide⟩

theorem Dev.signals_fecLrx (h : d.powered pFecLrx = true) : d.Signals pFecLrx 10 := ⟨h, by decide, by decide, by decide⟩

theorem Dev.signals_fecHrx (h : d.powered pFecHrx = true) : d.Signals pFecHrx 6 := ⟨h, by decide, by decide, by decide⟩

theorem Dev.signals_fecHtx (h : d.powered pFecHtx = true) : d.Signals pFecHtx 5 := ⟨h, by decide, by decide, by decide⟩

theorem Dev.signals_framer (h : d.powered pFramer = true) : d.Signals pFramer 7 := ⟨h, by decide, by decide, by decide⟩

end

/-! The counter blocks of a lane (R171) -/

theorem cLrx_block (n : Lane) : CounterBlock (cLrx n) 0x50 := ⟨by decide +revert, by decide +revert⟩

theorem cHrx_block (n : Lane) : CounterBlock (cHrx n) 0x20 := ⟨by decide +revert, by decide +revert⟩

theorem cFramer_block (n : Lane) : CounterBlock (cFramer n) 0x20 := ⟨by decide +revert, by decide +revert⟩

/-! Bits of a payload -/

/-- A number built from bits, lowest first. -/
theorem foldl_bits {f : Nat → Nat} (hf : ∀ j, f j < 2) (k : Nat) :
    (List.range k).foldl (fun x j => x + f j * 2 ^ j) 0 < 2 ^ k ∧
      ∀ i < k, ((List.range k).foldl (fun x j => x + f j * 2 ^ j) 0).testBit i = decide (f i = 1) := by
  induction k with
  | zero => exact ⟨Nat.two_pow_pos 0, fun i hi => absurd hi (Nat.not_lt_zero i)⟩
  | succ k ih =>
    obtain ⟨hlt, hbits⟩ := ih
    have hk := hf k
    rw [List.range_succ, List.foldl_append, List.foldl_cons, List.foldl_nil]
    generalize (List.range k).foldl (fun x j => x + f j * 2 ^ j) 0 = x at hlt hbits
    have hcomm : x + f k * 2 ^ k = 2 ^ k * f k + x := by rw [Nat.mul_comm, Nat.add_comm]
    rw [hcomm]
    refine ⟨?_, fun i hi => ?_⟩
    · have : 2 ^ k * f k ≤ 2 ^ k * 1 := Nat.mul_le_mul_left _ (by omega)
      rw [Nat.pow_succ]
      omega
    · rw [Nat.testBit_two_pow_mul_add _ hlt]
      split
      case isTrue hik => exact hbits i hik
      case isFalse hik =>
        obtain rfl : i = k := by omega
        rw [Nat.sub_self]
        interval_cases f i <;> rfl

end Sys2Proof.Machine
end

section
/-! The inner code of a lane: what it sends and what it makes of a received codeword (R138 to R143, R148, R151, R154). -/

open Sys2Proof Sys2Proof.Machine

namespace Sys2Proof.Machine

/-! Sending -/

section
variable {d : Dev} {n : Lane} {bits : BitVec 120} {s : State}

/-- The payload bits of header codeword `pos`, header bits in order from the lowest (R149). -/
def headerPayload (h : BitVec 480) (pos : Nat) : BitVec 120 :=
  BitVec.ofNat 120 ((List.range 120).foldl (fun x j => x + h.toNat / 2 ^ (479 - (120 * pos + j)) % 2 * 2 ^ j) 0)

theorem headerPayload_getLsbD (h : BitVec 480) (pos : Nat) {j : Nat} (hj : j < 120) :
    (headerPayload h pos).getLsbD j = h.getLsbD (479 - (120 * pos + j)) := by
  have hbits := (foldl_bits (f := fun j => h.toNat / 2 ^ (479 - (120 * pos + j)) % 2) (fun j => Nat.mod_lt _ (by decide)) 120).2 j hj
  rw [headerPayload, BitVec.getLsbD_ofNat, hbits, decide_eq_true hj, Bool.true_and, BitVec.getLsbD, Nat.testBit_eq_decide_div_mod_eq]

theorem innerEncode_truncate (x : BitVec 120) : (innerEncode x).truncate 120 = x := by
  refine BitVec.eq_of_getLsbD_eq fun i hi => ?_
  rw [BitVec.truncate, BitVec.getLsbD_setWidth, decide_eq_true hi, Bool.true_and]
  exact innerEncode_testBit_payload x hi

theorem innerEncode_getLsbD (x : BitVec 120) {j : Nat} (h : j < 120) : (innerEncode x).getLsbD j = x.getLsbD j :=
  innerEncode_testBit_payload x h

theorem Dev.innerEncodeLane_concatenated (hseg : d.segmented n = false) : d.innerEncodeLane n bits =
    d.updCl n fun c => if d.hostValid n && !(d.tx n).glide then { c with sent := innerEncode bits }
      else { c with sent := innerEncode (BitVec.ofNat 120 (prbs31 120 c.prbsTx).1), prbsTx := (prbs31 120 c.prbsTx).2 } := by
  unfold Dev.innerEncodeLane
  rw [if_neg (by simp [hseg])]
  split
  · rfl
  · exact (Dev.updCl_updCl ..).trans (Dev.updCl_congr rfl)

theorem Dev.innerEncodeLane_header (hseg : d.segmented n = true) (hpos : (d.cl n).pos < 4) : d.innerEncodeLane n bits =
    d.updCl n fun c => { c with pos := c.pos + 1, sent := innerEncode (headerPayload c.hdr c.pos) } :=
  (if_pos hseg).trans ((if_pos hpos).trans ((Dev.updCl_updCl ..).trans (Dev.updCl_congr rfl)))

theorem Dev.innerEncodeLane_block (hseg : d.segmented n = true) (hlo : 4 ≤ (d.cl n).pos) (hhi : (d.cl n).pos < 1092)
    (hblk : (d.cg (d.groupBase n)).blk = some (((d.cl n).pos - 4) / 136)) : d.innerEncodeLane n bits =
    d.updCl n fun c =>
      let r := blockPayload (d.groupSize n) (n.val - (d.groupBase n).val) (d.cg (d.groupBase n)).places ((c.pos - 4) % 136) c.prbsTx
      { c with pos := c.pos + 1, prbsTx := r.2, sent := innerEncode r.1 } := by
  refine (if_pos hseg).trans ((if_neg (Nat.not_lt.mpr hlo)).trans ((if_pos hhi).trans ?_))
  simp only [hblk, if_true]
  exact (Dev.updCl_updCl ..).trans (Dev.updCl_congr rfl)

/-- What is sent reaches no register. -/
theorem innerEncode_yields {e : Dev} {P : State → Prop} (hc : s.calm) (hr : s.dev.runs pFecLtx)
    (he : s.dev.innerEncodeLane n bits = e) (hregs : e.regs = s.dev.regs) (hlife : e.life = s.dev.life)
    (hP : ∀ t : State, Kept s t e [] [] → P t) : Yields (exec (.innerEncode n bits) s) P :=
  (DevKept.of_regs hregs).yieldsOn hc hr (f := (·.innerEncodeLane n bits)) he hlife List.not_mem_nil fun t _ kept => hP t kept

/-- INNER_ENCODE of one of the four header codewords. -/
theorem innerEncode_header (hc : s.calm) (hr : s.dev.runs pFecLtx) (hseg : s.dev.segmented n = true) (hpos : (s.dev.cl n).pos < 4) :
    Yields (exec (.innerEncode n bits) s) fun t =>
      (∀ j, j < 120 → (t.dev.cl n).sent.getLsbD j = (s.dev.cl n).hdr.getLsbD (479 - (120 * (s.dev.cl n).pos + j))) ∧
      (t.dev.cl n).sent = innerEncode ((t.dev.cl n).sent.truncate 120) ∧
      Kept s t (s.dev.updCl n fun c => { c with pos := c.pos + 1, sent := (t.dev.cl n).sent }) [] [] := by
  refine innerEncode_yields hc hr (Dev.innerEncodeLane_header hseg hpos) rfl rfl fun t kept => ?_
  have hsent : (t.dev.cl n).sent = innerEncode (headerPayload (s.dev.cl n).hdr (s.dev.cl n).pos) := by
    rw [kept.cl, Dev.cl_updCl_same]
  rw [hsent]
  exact ⟨fun j hj => (innerEncode_getLsbD _ hj).trans (headerPayload_getLsbD _ _ hj), by rw [innerEncode_truncate],
    kept.updCl_congr rfl⟩

end

/-! Receiving -/

section
variable {d h e : Dev} {ex ev : List (Nat × Nat)} {n : Lane} {fixed failed flagged : Bool}

/-- The counters of a received codeword: all, corrected, failed, and flagged symbols (R141, R154). -/
def Dev.codewordCounted (d : Dev) (n : Lane) (fixed failed flagged : Bool) : Dev :=
  (((d.add64 pFecLrx (cLrx n) 1).when fixed (·.add64 pFecLrx (cLrx n + 8) 1)).when failed (·.add64 pFecLrx (cLrx n + 0x10) 1)).when
    flagged (·.add64 pFecLrx (cLrx n + 0x18) 12)

theorem DevKept.codewordCounted (k : DevKept ex ev d h e) (hx : regsOf pFecLrx (regRun (cLrx n) 8) ⊆ ex) :
    DevKept ex ev d h (e.codewordCounted n fixed failed flagged) := by
  have hcount : ∀ {e : Dev}, DevKept ex ev d h e → ∀ i m, 2 * i + 1 < 8 → 8 * i + 8 ≤ 0x50 →
      DevKept ex ev d h (e.add64 pFecLrx (cLrx n + 8 * i) m) := fun ke i m hi hw => ke.count (cLrx_block n) hx hi hw m
  have k0 := hcount k 0 1 (by decide) (by decide)
  have k1 := k0.when (f := (·.add64 pFecLrx (cLrx n + 8 * 1) 1)) (hcount k0 1 1 (by decide) (by decide)) fixed
  have k2 := k1.when (f := (·.add64 pFecLrx (cLrx n + 8 * 2) 1)) (hcount k1 2 1 (by decide) (by decide)) failed
  exact k2.when (f := (·.add64 pFecLrx (cLrx n + 8 * 3) 12)) (hcount k2 3 12 (by decide) (by decide)) flagged

theorem Dev.codewordCounted_reads (d : Dev) (n : Lane) (fixed failed flagged : Bool) :
    (d.codewordCounted n fixed failed flagged).rd64 pFecLrx (cLrx n) = d.rd64 pFecLrx (cLrx n) + 1 ∧
    (d.codewordCounted n fixed failed flagged).rd64 pFecLrx (cLrx n + 8) = d.rd64 pFecLrx (cLrx n + 8) + (if fixed then 1 else 0) ∧
    (d.codewordCounted n fixed failed flagged).rd64 pFecLrx (cLrx n + 0x10) =
      d.rd64 pFecLrx (cLrx n + 0x10) + (if failed then 1 else 0) := by
  have hb := cLrx_block n
  have hother : ∀ (e : Dev) (c : Bool) {x y : Nat} (m : Nat), (y + 8 ≤ x ∨ x + 8 ≤ y) → y + 8 ≤ 0x50 → x + 8 ≤ 0x50 →
      (e.when c (·.add64 pFecLrx (cLrx n + y) m)).rd64 pFecLrx (cLrx n + x) = e.rd64 pFecLrx (cLrx n + x) :=
    fun e c x y m h hy hx => Dev.rd64_when (f := (·.add64 pFecLrx (cLrx n + y) m)) (hb.other e h hy hx m) c
  have hflagged : ∀ {x : Nat} (e : Dev), x + 8 ≤ 0x18 → x + 8 ≤ 0x50 →
      (e.when flagged (·.add64 pFecLrx (cLrx n + 0x18) 12)).rd64 pFecLrx (cLrx n + x) = e.rd64 pFecLrx (cLrx n + x) :=
    fun e h hx => hother e flagged 12 (.inr h) (by decide) hx
  refine ⟨?_, ?_, ?_⟩
  · exact (hflagged (x := 0) _ (by decide) (by decide)).trans ((hother (x := 0) _ failed 1 (by decide) (by decide) (by decide)).trans
      ((hother (x := 0) _ fixed 1 (by decide) (by decide) (by decide)).trans (hb.same d _ (x := 0) (by decide) 1)))
  · exact (hflagged _ (by decide) (by decide)).trans ((hother _ failed 1 (by decide) (by decide) (by decide)).trans
      ((hb.when_same _ fixed _ (by decide) 1).trans (congrArg (· + _) (hother (y := 0) d true 1 (by decide) (by decide) (by decide)))))
  · exact (hflagged _ (by decide) (by decide)).trans ((hb.when_same _ failed _ (by decide) 1).trans (congrArg (· + _)
      ((hother _ fixed 1 (by decide) (by decide) (by decide)).trans (hother (y := 0) d true 1 (by decide) (by decide) (by decide)))))

/-- The registers that a page holds one a lane, from `b` on. -/
theorem laneReg_lt (n : Lane) {b : Nat} (h : b < 0x800) : b + 4 * n.val < 4096 := by omega

theorem laneReg_ne (n : Lane) {b : Nat} (h : 0x010 < b) : b + 4 * n.val ≠ 0x010 := (Nat.lt_add_right _ h).ne'

theorem fCwLock_below : ∀ n : Lane, (fCwLock n).off < cLrx n := by decide

theorem pLrx_ne_pFecLrx : ∀ n : Lane, pLrx n ≠ pFecLrx := by decide

/-- The counters say nothing of what E0 flags. -/
theorem Dev.codewordCounted_e0 (d : Dev) (n : Lane) (fixed failed flagged : Bool) :
    (d.codewordCounted n fixed failed flagged).e0 n = d.e0 n := by
  have k : DevKept (regsOf pFecLrx (regRun (cLrx n) 8)) [] d d (d.codewordCounted n fixed failed flagged) :=
    (DevKept.refl d).codewordCounted (List.Subset.refl _)
  have hstate : (d.codewordCounted n fixed failed flagged).laneState n = d.laneState n :=
    k.g (f := fLrxState) (not_mem_counters (.inl (pLrx_ne_pFecLrx n)))
  have hlock : (d.codewordCounted n fixed failed flagged).cwLocked n = d.cwLocked n :=
    k.b (f := fCwLock n) (not_mem_counters (.inr (.inl (fCwLock_below n)))) (laneReg_lt n (by decide)) (laneReg_ne n (by decide))
  have hlap : (d.codewordCounted n fixed failed flagged).g pFramer (fLapState n) = d.g pFramer (fLapState n) :=
    k.g (f := fLapState n) (not_mem_counters (.inl (by decide))) (laneReg_lt n (by decide)) (laneReg_ne n (by decide))
  rw [Dev.e0, Dev.e0, Dev.laneValid, Dev.laneValid, hstate, hlock, hlap]

/-- E1 and E2 of a lane for what Chase decoding delivers (R154). -/
def Dev.e1 (d : Dev) (n : Lane) (r : Chase) : Bool := !r.found && d.lg pFecLrx (fE1En n) == 1

def Dev.e2 (d : Dev) (n : Lane) (r : Chase) : Bool :=
  r.found && decide (r.margin ≤ d.lg pFecLrx (fMarginThr n)) && d.lg pFecLrx (fE2En n) == 1

/-- The rule that flags the symbols of a codeword, 0 for none (R154). -/
def Dev.flagRule (d : Dev) (n : Lane) (r : Chase) : Nat :=
  if d.e0 n then 1 else if d.e1 n r then 2 else if d.e2 n r then 3 else 0

theorem Dev.flagRule_one (d : Dev) (n : Lane) (r : Chase) : d.flagRule n r = 1 ↔ d.e0 n = true := by
  unfold Dev.flagRule
  split
  · simp [*]
  · split_ifs <;> simp [*]

/-- What a lane holds of a received codeword. -/
def CodeLane.receive (r : Chase) (valid : Bool) (rule : Nat) (c : CodeLane) : CodeLane :=
  { c with got := BitVec.ofNat 120 r.word, gotValid := valid, flag := rule, margin := r.margin }

/-- The device with a received codeword counted, before the lane takes it. -/
def Dev.decodeCounted (d : Dev) (n : Lane) (soft : List (BitVec 4)) (r : Chase) : Dev :=
  d.codewordCounted n (r.found && r.word % 2 ^ 120 != hardBits soft % 2 ^ 120) (!r.found) (d.e0 n || d.e1 n r || d.e2 n r)

theorem Dev.innerDecode_segmented {soft : List (BitVec 4)} {r : Chase} (hseg : d.segmented n = true) (hlock : d.cwLocked n = true)
    (hr : r = chase (hardBits soft) (reliabilities soft) (2 + d.lg pFecLrx (fTp n))) :
    d.innerDecode n soft = (d.decodeCounted n soft r).updCl n (.receive r (d.laneValid n) (d.flagRule n r)) := by
  have hflag : d.flagRule n r = if (d.decodeCounted n soft r).e0 n then 1 else if d.e1 n r then 2 else if d.e2 n r then 3 else 0 := by
    rw [Dev.decodeCounted, Dev.codewordCounted_e0]
    rfl
  have hlocked : ¬ (!d.cwLocked n) = true := by rw [hlock]; decide
  rw [hflag, hr, Dev.innerDecode, if_neg hlocked, hseg]
  rfl

end

/-- INNER_CODEWORD_DECODE of a locked Segmented lane. -/
theorem innerDecode_counts {s : State} {n : Lane} {soft : List (BitVec 4)} {r : Chase} (hc : s.calm) (hrun : s.dev.runs pFecLrx)
    (hseg : s.dev.segmented n = true) (hlock : s.dev.cwLocked n = true)
    (hr : r = chase (hardBits soft) (reliabilities soft) (2 + s.dev.lg pFecLrx (fTp n))) :
    Yields (exec (.innerCodewordDecode n soft) s) fun t =>
      (t.dev.cl n).got = BitVec.ofNat 120 r.word ∧
      (t.dev.cl n).gotValid = s.dev.laneValid n ∧
      (t.dev.cl n).margin = r.margin ∧
      ((t.dev.cl n).flag = 1 ↔ s.dev.e0 n = true) ∧
      t.dev.rd64 pFecLrx (cLrx n) = s.dev.rd64 pFecLrx (cLrx n) + 1 ∧
      t.dev.rd64 pFecLrx (cLrx n + 8) = s.dev.rd64 pFecLrx (cLrx n + 8) +
        (if r.found ∧ r.word % 2 ^ 120 ≠ hardBits soft % 2 ^ 120 then 1 else 0) ∧
      t.dev.rd64 pFecLrx (cLrx n + 0x10) = s.dev.rd64 pFecLrx (cLrx n + 0x10) + (if r.found then 0 else 1) ∧
      Kept s t (s.dev.updCl n fun c => { c with got := (t.dev.cl n).got, gotValid := s.dev.laneValid n, flag := (t.dev.cl n).flag, margin := r.margin })
        (regsOf pFecLrx (regRun (cLrx n) 8)) [] := by
  have hb := cLrx_block n
  have k : DevKept (regsOf pFecLrx (regRun (cLrx n) 8)) [] s.dev s.dev (s.dev.decodeCounted n soft r) :=
    (DevKept.refl s.dev).codewordCounted (List.Subset.refl _)
  refine (k.updCl n _).yieldsOn hc hrun (f := (·.innerDecode n soft)) (Dev.innerDecode_segmented hseg hlock hr) rfl
    (not_mem_counters (.inl (by decide))) fun t hset kept => ?_
  have hcl : t.dev.cl n = (s.dev.cl n).receive r (s.dev.laneValid n) (s.dev.flagRule n r) := (kept.cl n).trans (Dev.cl_updCl_same _ _ _)
  obtain ⟨hall, hfixed, hfailed⟩ := s.dev.codewordCounted_reads n (r.found && r.word % 2 ^ 120 != hardBits soft % 2 ^ 120)
    (!r.found) (s.dev.e0 n || s.dev.e1 n r || s.dev.e2 n r)
  rw [hcl]
  refine ⟨rfl, rfl, rfl, s.dev.flagRule_one n r, ?_, ?_, ?_, kept.updCl_congr rfl⟩
  · exact (hb.settled hset _ (x := 0) (by decide)).trans hall
  · refine ((hb.settled hset _ (by decide)).trans hfixed).trans ?_
    simp
  · refine ((hb.settled hset _ (by decide)).trans hfailed).trans ?_
    cases r.found <;> rfl

end Sys2Proof.Machine
end

section
/-! The locks of the inner code and of the host code, and O22 (R142, R147, R158, R160, R166, R170). -/

open Sys2Proof Sys2Proof.Machine

namespace Sys2Proof.Machine

section
variable {s : State} {n : Lane} {d h e : Dev} {ex ev : List (Nat × Nat)}

/-! Codeword lock -/

/-- The device with codeword lock at an offset, and its event (R142). -/
def Dev.cwFound (d : Dev) (n : Lane) (offset : Nat) : Dev :=
  ((d.sb pFecLrx (fCwLock n) true).s pFecLrx (fCwOffset n) offset).raise pFecLrx 0

theorem DevKept.cwFound (k : DevKept ex ev d h e) (hx : (pFecLrx, 0x0A0 + 4 * n.val) ∈ ex) (hv : (pFecLrx, 0) ∈ ev) (offset : Nat) :
    DevKept ex ev d h (e.cwFound n offset) := by
  have hlt := laneReg_lt n (b := 0x0A0) (by decide)
  have hne := laneReg_ne n (b := 0x0A0) (by decide)
  exact ((k.sb (f := fCwLock n) true hx hlt hne).s (f := fCwOffset n) offset hx hlt hne).raise hv

/-- Lap lock is searched for from the beginning (R166). -/
def Dev.lapSearch (d : Dev) (n : Lane) : Dev := (d.s pFramer (fLapState n) 1).updCl n fun c => { c with firstMatch := false }

theorem Dev.cwLock_found (hv : d.laneValid n = true) (hl : d.cwLocked n = false) (offset : Nat) :
    d.cwLock n offset = if d.segmented n then (d.cwFound n offset).lapSearch n else d.cwFound n offset := by
  have hseg : (d.cwFound n offset).segmented n = d.segmented n :=
    Dev.segmented_congr (EvtFrame.raise _ _ _ _).live n
  rw [← hseg]
  exact if_pos (by simp [hv, hl])

theorem DevKept.lapSearch (k : DevKept ex ev d h e) (hx : (pFramer, 0x080 + 4 * n.val) ∈ ex) :
    DevKept ex ev d (h.updCl n fun c => { c with firstMatch := false }) (e.lapSearch n) :=
  (k.s (f := fLapState n) 1 hx (laneReg_lt n (by decide)) (laneReg_ne n (by decide))).updCl n _

theorem Dev.lapSearch_lapState (d : Dev) (n : Lane) : (d.lapSearch n).g pFramer (fLapState n) = 1 :=
  Dev.g_s_same d pFramer (fLapState n) 1 (by simp [fLapState])

theorem Dev.cwFound_cwLocked (d : Dev) (n : Lane) (offset : Nat) : (d.cwFound n offset).cwLocked n = true := by
  have hlt := laneReg_lt n (b := 0x0A0) (by decide)
  refine (Dev.b_raise _ _ _ _ (fCwLock n) hlt (laneReg_ne n (by decide))).trans ((Dev.b_s_apart ?_ _ _ _ _).trans
    (Dev.b_sb_same _ _ _ _ (by simp [fCwLock]) rfl))
  exact ⟨hlt, hlt, by simp [fCwOffset], fun _ => by simp [fCwLock, fCwOffset]⟩

theorem Dev.cwFound_cwOffset (d : Dev) (n : Lane) (offset : Nat) : (d.cwFound n offset).g pFecLrx (fCwOffset n) = offset % 64 :=
  (Dev.g_raise _ _ _ _ (fCwOffset n) (laneReg_lt n (by decide)) (laneReg_ne n (by decide))).trans
    (Dev.g_s_same _ _ (fCwOffset n) _ (by simp [fCwOffset]))

theorem Dev.cwFound_evt (hs : d.Signals pFecLrx 10) (offset : Nat) : (d.cwFound n offset).evt pFecLrx 0 = true :=
  Dev.Signals.raise (d := (d.sb pFecLrx (fCwLock n) true).s pFecLrx (fCwOffset n) offset) (hs.congr rfl) (by decide)

theorem not_trial_locks (n : Lane) : (pTrial, 0x048) ∉ [(pFecLrx, 0x0A0 + 4 * n.val), (pFramer, 0x080 + 4 * n.val)] := by
  simp [pTrial, pFecLrx, pFramer]

/-- CW_LOCK of a valid lane without lock. -/
theorem cwLock_locks {offset : Nat} (hc : s.calm) (hr : s.dev.runs pFecLrx) (hv : s.dev.laneValid n = true)
    (hl : s.dev.cwLocked n = false) : Yields (exec (.cwLock n offset) s) fun t =>
      t.dev.cwLocked n = true ∧
      t.dev.g pFecLrx (fCwOffset n) = offset % 64 ∧
      t.dev.evt pFecLrx 0 = true ∧
      (s.dev.segmented n = true → t.dev.g pFramer (fLapState n) = 1) ∧
      (s.dev.segmented n = false → t.dev.rd pFramer (0x080 + 4 * n.val) = s.dev.rd pFramer (0x080 + 4 * n.val)) ∧
      Kept s t (s.dev.updCl n fun c => { c with firstMatch := if s.dev.segmented n then false else c.firstMatch })
        [(pFecLrx, 0x0A0 + 4 * n.val), (pFramer, 0x080 + 4 * n.val)] [(pFecLrx, 0)] := by
  have hs := Dev.signals_fecLrx hr.powered
  have hlt := laneReg_lt n (b := 0x0A0) (by decide)
  have hne := laneReg_ne n (b := 0x0A0) (by decide)
  have kf : DevKept [(pFecLrx, 0x0A0 + 4 * n.val), (pFramer, 0x080 + 4 * n.val)] [(pFecLrx, 0)] s.dev s.dev (s.dev.cwFound n offset) :=
    (DevKept.refl _).cwFound (by simp) (by simp) offset
  cases hseg : s.dev.segmented n with
  | true =>
    have he : s.dev.cwLock n offset = (s.dev.cwFound n offset).lapSearch n := by rw [Dev.cwLock_found hv hl, hseg]; rfl
    have ks : DevKept [(pFramer, 0x080 + 4 * n.val)] [] (s.dev.cwFound n offset) _ ((s.dev.cwFound n offset).lapSearch n) :=
      (DevKept.refl _).lapSearch (.head _)
    have hword : ((s.dev.cwFound n offset).lapSearch n).rd pFecLrx (0x0A0 + 4 * n.val) = _ :=
      ks.regs _ _ hlt hne (by simp [pFramer, pFecLrx])
    refine (kf.lapSearch (by simp)).yieldsOn hc hr (f := (·.cwLock n offset)) he rfl (not_trial_locks n)
      fun t hset kept => ⟨?_, ?_, ?_, fun _ => ?_, nofun, kept.updCl_congr rfl⟩
    · exact (hset.b _ (fCwLock n) hlt hne).trans ((Dev.b_congr (f := fCwLock n) hword).trans (s.dev.cwFound_cwLocked n offset))
    · exact (hset.g _ (fCwOffset n) hlt hne).trans ((Dev.g_congr (f := fCwOffset n) hword).trans (s.dev.cwFound_cwOffset n offset))
    · exact (hset.evt _ _ (by decide)).trans ((ks.events _ _ (by simp) hs.page).trans (Dev.cwFound_evt hs offset))
    · exact (hset.g _ (fLapState n) (laneReg_lt n (by decide)) (laneReg_ne n (by decide))).trans (Dev.lapSearch_lapState _ n)
  | false =>
    have he : s.dev.cwLock n offset = s.dev.cwFound n offset := by rw [Dev.cwLock_found hv hl, hseg]; rfl
    have ks : DevKept [(pFecLrx, 0x0A0 + 4 * n.val)] [(pFecLrx, 0)] s.dev s.dev (s.dev.cwFound n offset) :=
      (DevKept.refl _).cwFound (by simp) (by simp) offset
    refine kf.yieldsOn hc hr (f := (·.cwLock n offset)) he rfl (not_trial_locks n) fun t hset kept => ⟨?_, ?_, ?_, nofun, fun _ => ?_, ?_⟩
    · exact (hset.b _ (fCwLock n) hlt hne).trans (s.dev.cwFound_cwLocked n offset)
    · exact (hset.g _ (fCwOffset n) hlt hne).trans (s.dev.cwFound_cwOffset n offset)
    · exact (hset.evt _ _ (by decide)).trans (Dev.cwFound_evt hs offset)
    · exact (hset.rd _ _ (laneReg_lt n (by decide)) (laneReg_ne n (by decide))).trans
        (ks.regs _ _ (laneReg_lt n (by decide)) (laneReg_ne n (by decide)) (by simp [pFramer, pFecLrx]))
    · rwa [Dev.updCl_self rfl]

/-- CW_LOCK_LOST of a locked lane. -/
theorem cwLockLost_unlocks (hc : s.calm) (hr : s.dev.runs pFecLrx) (hl : s.dev.cwLocked n = true) :
    Yields (exec (.cwLockLost n) s) fun t =>
      t.dev.cwLocked n = false ∧
      t.dev.g pFramer (fLapState n) = 0 ∧
      t.dev.evt pFecLrx 1 = true ∧
      Kept s t s.dev [(pFecLrx, 0x0A0 + 4 * n.val), (pFramer, 0x080 + 4 * n.val)] [(pFecLrx, 1)] := by
  have hlt := laneReg_lt n (b := 0x0A0) (by decide)
  have hne := laneReg_ne n (b := 0x0A0) (by decide)
  have hlap := laneReg_lt n (b := 0x080) (by decide)
  have hlap' := laneReg_ne n (b := 0x080) (by decide)
  have hs := Dev.signals_fecLrx hr.powered
  refine ((((DevKept.refl s.dev).sb (f := fCwLock n) false (by simp [fCwLock]) hlt hne).s (f := fLapState n) 0 (by simp [fLapState])
    hlap hlap').raise (by simp)).yieldsOn hc hr (f := (·.cwLockLost n)) (if_pos hl) rfl (not_trial_locks n)
    fun t hset kept => ⟨?_, ?_, ?_, kept⟩
  · refine (hset.b _ (fCwLock n) hlt hne).trans ((Dev.b_raise _ _ _ _ (fCwLock n) hlt hne).trans ?_)
    exact (Dev.b_congr (Dev.rd_s_page _ (fLapState n) 0 hlap hlt (by decide))).trans (Dev.b_sb_same _ _ _ _ (by simp [fCwLock]) rfl)
  · refine (hset.g _ (fLapState n) hlap hlap').trans ((Dev.g_raise _ _ _ _ (fLapState n) hlap hlap').trans ?_)
    exact Dev.g_s_same _ _ (fLapState n) 0 (by simp [fLapState])
  · have hs' : ((s.dev.sb pFecLrx (fCwLock n) false).s pFramer (fLapState n) 0).Signals pFecLrx 10 := hs.congr rfl
    rw [hset.evt _ _ hs.not_three, hs'.raise (by decide)]

/-- INNER_FAIL_THR. -/
theorem innerFailThr_raises {fails : Nat} (hc : s.calm) (hr : s.dev.runs pFecLrx) : Yields (exec (.innerFailThr n fails) s) fun t =>
    t.dev.evt pFecLrx 5 = (s.dev.evt pFecLrx 5 || decide (2 ^ s.dev.g pFecLrx fFailExp ≤ fails)) ∧ Kept s t s.dev [] [(pFecLrx, 5)] := by
  have hs := Dev.signals_fecLrx hr.powered
  refine ((DevKept.refl s.dev).raiseIf _ (.head _)).yieldsOn hc hr (f := (·.innerFailThr n fails)) rfl rfl (by decide)
    fun t hset kept => ⟨?_, kept⟩
  rw [hset.evt _ _ hs.not_three, hs.raiseIf (by decide)]

/-! Alignment-marker lock -/

theorem fAmLock_apart : ∀ {k n : Lane}, k ≠ n → (fAmLock k).apart (fAmLock n) := by decide

/-- A lane whose alignment-marker lock changes, with its event (R147). -/
theorem amLock_set {v : Bool} {src : Nat} {f : Dev → Dev} (hc : s.calm) (hr : s.dev.runs pFecHrx) (hsrc : src < 6)
    (he : f s.dev = (s.dev.sb pFecHrx (fAmLock n) v).raise pFecHrx src) : Yields (actOn pFecHrx s f) fun t =>
      t.dev.b pFecHrx (fAmLock n) = v ∧
      (∀ k : Lane, k ≠ n → t.dev.b pFecHrx (fAmLock k) = s.dev.b pFecHrx (fAmLock k)) ∧
      t.dev.evt pFecHrx src = true ∧
      Kept s t s.dev [(pFecHrx, 0x044)] [(pFecHrx, src)] := by
  have hs : (s.dev.sb pFecHrx (fAmLock n) v).Signals pFecHrx 6 := (Dev.signals_fecHrx hr.powered).congr rfl
  have hoff : ∀ k : Lane, (fAmLock k).off = 0x044 := fun _ => rfl
  have hlt : ∀ k : Lane, (fAmLock k).off < 4096 := fun k => by rw [hoff]; decide
  have hne : ∀ k : Lane, (fAmLock k).off ≠ 0x010 := fun k => by rw [hoff]; decide
  refine (((DevKept.refl s.dev).sb (f := fAmLock n) v (by simp [hoff]) (hlt n) (hne n)).raise (.head _)).yieldsOn hc hr he rfl (by decide)
    fun t hset kept => ⟨?_, fun k hk => ?_, ?_, kept⟩
  · refine (hset.b _ (fAmLock n) (hlt n) (hne n)).trans ((Dev.b_raise _ _ _ _ (fAmLock n) (hlt n) (hne n)).trans
      (Dev.b_sb_same _ _ _ _ ?_ rfl))
    simp only [fAmLock]
    omega
  · exact (hset.b _ (fAmLock k) (hlt k) (hne k)).trans ((Dev.b_raise _ _ _ _ (fAmLock k) (hlt k) (hne k)).trans
      (Dev.b_s_apart (fAmLock_apart hk) _ _ _ _))
  · rw [hset.evt _ _ hs.not_three, hs.raise hsrc]

end

end Sys2Proof.Machine
end

section
/-! The host code, and O22 (R147, R158, R160, R169, R170). -/

open Sys2Proof Sys2Proof.Machine

namespace Sys2Proof.Machine

section
variable {d h e : Dev} {ex ev : List (Nat × Nat)} {n : Lane} {data : BitVec 5440} {errs : Nat}

/-- The counters of a host codeword that is corrected: all, corrected and symbols (R147). -/
def Dev.hostCounted (d : Dev) (n : Lane) (errs : Nat) : Dev :=
  (d.add64 pFecHrx (cHrx n) 1).when (errs != 0) fun d => (d.add64 pFecHrx (cHrx n + 8) 1).add64 pFecHrx (cHrx n + 0x10) errs

/-- The event rs_corr_thr, at most once per millisecond (R170). -/
def Dev.hostCorrThr (d : Dev) (errs : Nat) : Dev :=
  if decide (d.g pFecHrx fCorrThrHrx ≤ errs) && msPassed d.tk d.code.corrHrx then
    ({ d with code := { d.code with corrHrx := some d.tk } }).raise pFecHrx 3
  else d

/-- The counters and the event of a host codeword that is not corrected (R147). -/
def Dev.hostFailed (d : Dev) (n : Lane) : Dev := ((d.add64 pFecHrx (cHrx n) 1).add64 pFecHrx (cHrx n + 0x18) 1).raise pFecHrx 2

/-- A Segmented lane buffers a codeword (R158). -/
def Dev.buffered (d : Dev) (n : Lane) (data : BitVec 5440) : Dev := d.updCl n fun c => { c with fifo := c.fifo ++ [data] }

/-- Where a codeword goes once it is counted (R158): nowhere, to the drop counter, or into the buffer of its lane. -/
def Dev.wordStored (d : Dev) (n : Lane) (bad : Bool) (data : BitVec 5440) : Dev :=
  if !d.segmented n then d
  else if 16 ≤ (d.cl n).fifo.length then (d.add64 pFecLtx (0x108 + 0x10 * n.val) 1).raise pFecLtx 0
  else if bad then d.drawn.buffered n (Config.erroredWord d.free)
  else d.buffered n data

theorem Dev.wordStored_room (hseg : d.segmented n = true) (hf : (d.cl n).fifo.length < 16) (bad : Bool) :
    d.wordStored n bad data = if bad then d.drawn.buffered n (Config.erroredWord d.free) else d.buffered n data := by
  rw [Dev.wordStored, if_neg (by simp [hseg]), if_neg (by omega)]

theorem DevKept.hostCounted (k : DevKept ex ev d h e) (hx : regsOf pFecHrx (regRun (cHrx n) 6) ⊆ ex) :
    DevKept ex ev d h (e.hostCounted n errs) := by
  have hcount : ∀ {e : Dev}, DevKept ex ev d h e → ∀ i m, 2 * i + 1 < 6 → 8 * i + 8 ≤ 0x20 →
      DevKept ex ev d h (e.add64 pFecHrx (cHrx n + 8 * i) m) := fun ke i m hi hw => ke.count (cHrx_block n) hx hi hw m
  have k0 := hcount k 0 1 (by decide) (by decide)
  exact k0.when (hcount (hcount k0 1 1 (by decide) (by decide)) 2 errs (by decide) (by decide)) _

theorem Dev.hostCounted_reads (d : Dev) (n : Lane) (errs : Nat) :
    (d.hostCounted n errs).rd64 pFecHrx (cHrx n) = d.rd64 pFecHrx (cHrx n) + 1 ∧
    (d.hostCounted n errs).rd64 pFecHrx (cHrx n + 8) = d.rd64 pFecHrx (cHrx n + 8) + (if errs = 0 then 0 else 1) ∧
    (d.hostCounted n errs).rd64 pFecHrx (cHrx n + 0x10) = d.rd64 pFecHrx (cHrx n + 0x10) + BitVec.ofNat 64 errs := by
  have hb := cHrx_block n
  have h0 := hb.same d pFecHrx (x := 0) (by decide) 1
  have h1 := hb.other d (p := pFecHrx) (x := 0) (y := 8) (by decide) (by decide) (by decide) 1
  have h2 := hb.other d (p := pFecHrx) (x := 0) (y := 0x10) (by decide) (by decide) (by decide) 1
  unfold Dev.hostCounted Dev.when
  by_cases he : errs = 0
  · subst he
    exact ⟨h0, h1.trans (BitVec.add_zero _).symm, h2.trans (BitVec.add_zero _).symm⟩
  · rw [if_pos (bne_iff_ne.mpr he), if_neg he]
    refine ⟨?_, ?_, ?_⟩
    · exact (hb.other _ (y := 0) (by decide) (by decide) (by decide) errs).trans
        ((hb.other _ (y := 0) (by decide) (by decide) (by decide) 1).trans h0)
    · exact (hb.other _ (by decide) (by decide) (by decide) errs).trans ((hb.same _ _ (by decide) 1).trans (congrArg (· + 1) h1))
    · exact (hb.same _ _ (by decide) errs).trans (congrArg (· + _) ((hb.other _ (by decide) (by decide) (by decide) 1).trans h2))

theorem DevKept.hostCorrThr (k : DevKept ex ev d h e) (hv : (pFecHrx, 3) ∈ ev) (errs : Nat) :
    ∃ x, DevKept ex ev d { h with code := { h.code with corrHrx := x } } (e.hostCorrThr errs) := by
  unfold Dev.hostCorrThr
  split
  · have kset : DevKept ex ev d { h with code := { h.code with corrHrx := some e.tk } }
        { e with code := { e.code with corrHrx := some e.tk } } := by
      rw [k.code]
      exact k.setCode _
    exact ⟨_, kset.raise hv⟩
  · exact ⟨h.code.corrHrx, k⟩

theorem Dev.hostCorrThr_rd64 (d : Dev) (errs q : Nat) {o : Nat} (ho : o + 4 < 4096) (hne : 0x010 < o) :
    (d.hostCorrThr errs).rd64 q o = d.rd64 q o := by
  unfold Dev.hostCorrThr
  split
  · exact Dev.rd64_raise _ _ _ q ho hne
  · rfl

/-- Below the threshold there is no event. -/
theorem Dev.hostCorrThr_below (h : errs < d.g pFecHrx fCorrThrHrx) : d.hostCorrThr errs = d := by
  rw [Dev.hostCorrThr, if_neg (by simp [h])]

/-- The registers of the counters of all and of uncorrected host codewords. -/
abbrev hostFailRegs (n : Lane) : List (Nat × Nat) := regsOf pFecHrx [cHrx n, cHrx n + 4, cHrx n + 0x18, cHrx n + 0x1C]

theorem Dev.hostFailed_kept (d : Dev) (n : Lane) : DevKept (hostFailRegs n) [(pFecHrx, 2)] d d (d.hostFailed n) :=
  (((DevKept.refl d).counted (cHrx_block n) (x := 0) (by decide) 1 (.head _) (.tail _ (.head _))).counted (cHrx_block n) (x := 0x18)
    (by decide) 1 (.tail _ (.tail _ (.head _))) (.tail _ (.tail _ (.tail _ (.head _))))).raise (.head _)

/-- The counters and the events of a host codeword, as it is corrected or not. -/
def Dev.hostTallied (d : Dev) (n : Lane) (errs : Nat) (bad : Bool) : Dev :=
  let d := d.add64 pFecHrx (cHrx n) 1
  let d := d.when (!bad && errs != 0) fun d => (d.add64 pFecHrx (cHrx n + 8) 1).add64 pFecHrx (cHrx n + 0x10) errs
  let d := d.when bad fun d => (d.add64 pFecHrx (cHrx n + 0x18) 1).raise pFecHrx 2
  if !bad && decide (d.g pFecHrx fCorrThrHrx ≤ errs) && msPassed d.tk d.code.corrHrx then
    ({ d with code := { d.code with corrHrx := some d.tk } }).raise pFecHrx 3
  else d

theorem Dev.hostTallied_corrected (d : Dev) (n : Lane) (errs : Nat) : d.hostTallied n errs false = (d.hostCounted n errs).hostCorrThr errs := rfl

theorem Dev.hostTallied_failed (d : Dev) (n : Lane) (errs : Nat) : d.hostTallied n errs true = d.hostFailed n := rfl

theorem Dev.hostRsDecode_stored (hl : d.b pFecHrx (fAmLock n) = true) :
    d.hostRsDecode n data errs = (d.hostTallied n errs (decide (15 < errs))).wordStored n (decide (15 < errs)) data := by
  have hlocked : ¬ (!d.b pFecHrx (fAmLock n)) = true := by rw [hl]; decide
  exact if_neg hlocked

theorem Dev.hostRsDecode_corrected (hl : d.b pFecHrx (fAmLock n) = true) (hseg : d.segmented n = true) (hf : (d.cl n).fifo.length < 16)
    (he : errs ≤ 15) : d.hostRsDecode n data errs = ((d.hostCounted n errs).hostCorrThr errs).buffered n data := by
  obtain ⟨x, k⟩ := ((DevKept.refl (ev := [(pFecHrx, 3)]) d).hostCounted (n := n) (errs := errs) (List.Subset.refl _)).hostCorrThr (.head _) errs
  have hroom : (((d.hostCounted n errs).hostCorrThr errs).cl n).fifo.length < 16 := (congrArg (·.fifo.length) (k.cl n)).trans_lt hf
  rw [Dev.hostRsDecode_stored hl, decide_eq_false (Nat.not_lt.mpr he), Dev.hostTallied_corrected,
    Dev.wordStored_room ((Dev.segmented_congr k.live n).trans hseg) hroom]
  rfl

theorem Dev.hostRsDecode_failed (hl : d.b pFecHrx (fAmLock n) = true) (hseg : d.segmented n = true) (hf : (d.cl n).fifo.length < 16)
    (he : 15 < errs) : d.hostRsDecode n data errs = (d.hostFailed n).drawn.buffered n (Config.erroredWord d.free) := by
  have k := d.hostFailed_kept n
  have hroom : ((d.hostFailed n).cl n).fifo.length < 16 := (congrArg (·.fifo.length) (k.cl n)).trans_lt hf
  have hfree : (d.hostFailed n).free = d.free := (congrArg Dev.free k.hidden :)
  rw [Dev.hostRsDecode_stored hl, decide_eq_true he, Dev.hostTallied_failed,
    Dev.wordStored_room ((Dev.segmented_congr k.live n).trans hseg) hroom, if_pos rfl, hfree]

end

section
variable {s : State} {n : Lane} {data : BitVec 5440} {errs : Nat}

theorem fCorrThrHrx_below : ∀ n : Lane, fCorrThrHrx.off < cHrx n := by decide

/-- HOST_RS_DECODE of a Segmented lane, corrected. -/
theorem hostRsDecode_counts (hc : s.calm) (hr : s.dev.runs pFecHrx) (hl : s.dev.b pFecHrx (fAmLock n) = true)
    (hseg : s.dev.segmented n = true) (hf : (s.dev.cl n).fifo.length < 16) (he : errs ≤ 15) :
    Yields (exec (.hostRsDecode n data errs) s) fun t =>
      t.dev.rd64 pFecHrx (cHrx n) = s.dev.rd64 pFecHrx (cHrx n) + 1 ∧
      t.dev.rd64 pFecHrx (cHrx n + 8) = s.dev.rd64 pFecHrx (cHrx n + 8) + (if errs = 0 then 0 else 1) ∧
      t.dev.rd64 pFecHrx (cHrx n + 0x10) = s.dev.rd64 pFecHrx (cHrx n + 0x10) + BitVec.ofNat 64 errs ∧
      (errs < s.dev.g pFecHrx fCorrThrHrx → t.dev.evt pFecHrx 3 = s.dev.evt pFecHrx 3) ∧
      (t.dev.cl n).fifo = (s.dev.cl n).fifo ++ [data] ∧
      Kept s t { (s.dev.buffered n data) with code := { (s.dev.buffered n data).code with corrHrx := t.dev.code.corrHrx } }
        (regsOf pFecHrx (regRun (cHrx n) 6)) [(pFecHrx, 3)] := by
  have hb := cHrx_block n
  have kcount : ∀ ev, DevKept (regsOf pFecHrx (regRun (cHrx n) 6)) ev s.dev s.dev (s.dev.hostCounted n errs) := fun _ =>
    (DevKept.refl _).hostCounted (List.Subset.refl _)
  obtain ⟨x, kthr⟩ := (kcount [(pFecHrx, 3)]).hostCorrThr (.head _) errs
  obtain ⟨hall, hfixed, hsyms⟩ := s.dev.hostCounted_reads n errs
  refine (kthr.updCl n fun c => { c with fifo := c.fifo ++ [data] }).yieldsOn hc hr (f := (·.hostRsDecode n data errs))
    (Dev.hostRsDecode_corrected hl hseg hf he) rfl (not_mem_counters (.inl (by decide))) fun t hset kept => ?_
  have hread : ∀ {x : Nat}, x + 8 ≤ 0x20 →
      t.dev.rd64 pFecHrx (cHrx n + x) = (s.dev.hostCounted n errs).rd64 pFecHrx (cHrx n + x) := fun hx =>
    (hb.settled hset _ hx).trans (Dev.hostCorrThr_rd64 _ _ _ (hb.lt hx) hb.gt)
  have hx : t.dev.code.corrHrx = x := congrArg CodeH.corrHrx kept.code
  refine ⟨(hread (x := 0) (by decide)).trans hall, (hread (by decide)).trans hfixed, (hread (by decide)).trans hsyms, fun hlt => ?_, ?_, ?_⟩
  · have hthr : (s.dev.hostCounted n errs).g pFecHrx fCorrThrHrx = s.dev.g pFecHrx fCorrThrHrx :=
      (kcount []).g (not_mem_counters (.inr (.inl (fCorrThrHrx_below n))))
    have hsame := Dev.hostCorrThr_below (hthr.symm ▸ hlt)
    exact (hset.evt _ _ (by decide)).trans ((congrArg (Dev.evt · pFecHrx 3) hsame).trans ((kcount []).events _ _ (by simp) (by decide)))
  · rw [kept.cl, Dev.cl_updCl_same]
    rfl
  · rw [hx]
    exact kept

/-- HOST_RS_DECODE of a Segmented lane, uncorrectable. -/
theorem hostRsDecode_fails (hc : s.calm) (hr : s.dev.runs pFecHrx) (hl : s.dev.b pFecHrx (fAmLock n) = true)
    (hseg : s.dev.segmented n = true) (hf : (s.dev.cl n).fifo.length < 16) (he : 15 < errs) :
    Yields (exec (.hostRsDecode n data errs) s) fun t =>
      t.dev.rd64 pFecHrx (cHrx n) = s.dev.rd64 pFecHrx (cHrx n) + 1 ∧
      t.dev.rd64 pFecHrx (cHrx n + 0x18) = s.dev.rd64 pFecHrx (cHrx n + 0x18) + 1 ∧
      t.dev.evt pFecHrx 2 = true ∧
      Kept s t { (s.dev.buffered n (Config.erroredWord s.dev.free)) with free := s.dev.free + 1 }
        (regsOf pFecHrx [cHrx n, cHrx n + 4, cHrx n + 0x18, cHrx n + 0x1C]) [(pFecHrx, 2)] := by
  have hb := cHrx_block n
  have hs := Dev.signals_fecHrx hr.powered
  have hs' : ((s.dev.add64 pFecHrx (cHrx n) 1).add64 pFecHrx (cHrx n + 0x18) 1).Signals pFecHrx 6 := hs.congr rfl
  refine ((s.dev.hostFailed_kept n).drawn.updCl n fun c => { c with fifo := c.fifo ++ [Config.erroredWord s.dev.free] }).yieldsOn hc hr
    (f := (·.hostRsDecode n data errs)) (Dev.hostRsDecode_failed hl hseg hf he) rfl (by simp [regsOf, pTrial, pFecHrx])
    fun t hset kept => ⟨?_, ?_, ?_, kept⟩
  · refine (hb.settled hset _ (x := 0) (by decide)).trans ((hb.raise _ _ _ _ (x := 0) (by decide)).trans ?_)
    exact (hb.other _ (y := 0) (by decide) (by decide) (by decide) 1).trans (hb.same _ _ (x := 0) (by decide) 1)
  · refine (hb.settled hset _ (by decide)).trans ((hb.raise _ _ _ _ (by decide)).trans ?_)
    exact (hb.same _ _ (by decide) 1).trans (congrArg (· + 1) (hb.other _ (x := 0) (by decide) (by decide) (by decide) 1))
  · exact (hset.evt _ _ hs.not_three).trans (hs'.raise (by decide))

end

/-- Settles O22: a lemma a clause; the two alignment-marker locks are one operation with its value and its source. -/
theorem innerCodeAndLocks : Obligations.InnerCodeAndLocks := by
  refine ⟨?concatenated, ?header, ?block, ?decode, ?lock, ?lost, ?fail, ?amLock, ?amLost, ?corrected, ?failed⟩
  case concatenated =>
    exact fun s n bits hc hr hseg => innerEncode_yields hc hr (Dev.innerEncodeLane_concatenated hseg) rfl rfl fun t kept => kept
  case header => exact fun s n bits hc hr hseg hpos => innerEncode_header hc hr hseg hpos
  case block =>
    exact fun s n bits hc hr hseg hlo hhi hblk =>
      innerEncode_yields hc hr (Dev.innerEncodeLane_block hseg hlo hhi hblk) rfl rfl fun t kept => kept
  case decode => exact fun s n soft r hc hrun hseg hlock hr => innerDecode_counts hc hrun hseg hlock hr
  case lock => exact fun s n offset hc hr hv hl => cwLock_locks hc hr hv hl
  case lost => exact fun s n hc hr hl => cwLockLost_unlocks hc hr hl
  case fail => exact fun s n fails hc hr => innerFailThr_raises hc hr
  case amLock =>
    exact fun s n hc hr hv hl => amLock_set (f := (·.amLock n)) hc hr (by decide) (if_pos (by simp [hv, hl]))
  case amLost => exact fun s n hc hr hl => amLock_set (f := (·.amLost n)) hc hr (by decide) (if_pos hl)
  case corrected => exact fun s n data errs hc hr hl hseg hf he => hostRsDecode_counts hc hr hl hseg hf he
  case failed => exact fun s n data errs hc hr hl hseg hf he => hostRsDecode_fails hc hr hl hseg hf he

end Sys2Proof.Machine
end

section
/-! Rate matching toward the host (R162, R163, R171). -/

open Sys2Proof Sys2Proof.Machine

namespace Sys2Proof.Machine

/-! The fill of the buffer -/

/-- The fill after one block arrives, the blocks inserted and the blocks deleted (R162). -/
def rateFill (lo hi fill : Nat) (b : Blk) : Nat × Nat × Nat :=
  if fill < lo ∧ (b = .idle ∨ b = .term) then (fill + 2, 1, 0)
  else if hi < fill ∧ b = .idle then (fill, 0, 1)
  else (fill + 1, 0, 0)

/-- The marks do not cross, so a block is not inserted and deleted at once. -/
theorem rateFill_eq {lo hi fill ins del : Nat} {b : Blk} (h : lo ≤ hi) (hins : ins = if fill < lo ∧ b ≠ .other then 1 else 0)
    (hdel : del = if hi < fill ∧ b = .idle then 1 else 0) : rateFill lo hi fill b = (fill + 1 + ins - del, ins, del) := by
  have hkind : (b = .idle ∨ b = .term) ↔ b ≠ .other := by cases b <;> decide
  unfold rateFill
  simp only [hkind]
  by_cases hlow : fill < lo ∧ b ≠ .other
  · have hnot : ¬ (hi < fill ∧ b = .idle) := fun hd => by omega
    rw [if_pos hlow] at hins ⊢
    rw [if_neg hnot] at hdel
    rw [hins, hdel]
    rfl
  · rw [if_neg hlow] at hins ⊢
    by_cases hhigh : hi < fill ∧ b = .idle
    · rw [if_pos hhigh] at hdel ⊢
      rw [hins, hdel]
      rfl
    · rw [if_neg hhigh] at hdel ⊢
      rw [hins, hdel]
      rfl

/-! The buffer of a lane -/

section
variable {d h e : Dev} {ex ev : List (Nat × Nat)} {n : Lane} {b : Blk} {taken ins del fill : Nat}

/-- The fill to which a buffer restarts: half way between its marks (R162). -/
def Dev.rateMid (d : Dev) (n : Lane) : Nat := (80 * d.lg pFecHtx (fRateLo n) + 80 * d.lg pFecHtx (fRateHi n)) / 2

/-- A buffer that has run empty or over restarts (R162). -/
def Dev.rateRestart (d : Dev) (n : Lane) (mid : Nat) : Dev :=
  ((d.updCl n fun c => { c with buf := mid }).add64 pFecHtx (cHrx n + 0x18) 1).raise pFecHtx 2

theorem DevKept.rateRestart (k : DevKept ex ev d h e) (h18 : (pFecHtx, cHrx n + 0x18) ∈ ex) (h1C : (pFecHtx, cHrx n + 0x1C) ∈ ex)
    (hv : (pFecHtx, 2) ∈ ev) (mid : Nat) :
    DevKept ex ev d (h.updCl n fun c => { c with buf := mid }) (e.rateRestart n mid) :=
  ((k.updCl n _).counted (cHrx_block n) (by decide) 1 h18 h1C).raise hv

theorem Dev.rateRestart_count (d : Dev) (n : Lane) (mid : Nat) :
    (d.rateRestart n mid).rd64 pFecHtx (cHrx n + 0x18) = d.rd64 pFecHtx (cHrx n + 0x18) + 1 :=
  ((cHrx_block n).raise _ _ _ _ (by decide)).trans ((cHrx_block n).same _ _ (by decide) 1)

theorem Dev.rateRestart_rd64 (d : Dev) (n : Lane) (mid : Nat) {x : Nat} (hx : x + 8 ≤ 0x18) :
    (d.rateRestart n mid).rd64 pFecHtx (cHrx n + x) = d.rd64 pFecHtx (cHrx n + x) := by
  have hin : x + 8 ≤ 0x20 := hx.trans (by decide)
  exact ((cHrx_block n).raise _ _ _ _ hin).trans ((cHrx_block n).other _ (.inr hx) (by decide) hin 1)

theorem Dev.rateRestart_evt (hs : d.Signals pFecHtx 5) (mid : Nat) : (d.rateRestart n mid).evt pFecHtx 2 = true :=
  Dev.Signals.raise (d := (d.updCl n fun c => { c with buf := mid }).add64 pFecHtx (cHrx n + 0x18) 1) (hs.congr rfl) (by decide)

/-- The device with the inserted and the deleted blocks counted. -/
def Dev.rateCounted (d : Dev) (n : Lane) (ins del : Nat) : Dev := (d.add64 pFecHtx (cHrx n) ins).add64 pFecHtx (cHrx n + 8) del

theorem Dev.rateCounted_reads (d : Dev) (n : Lane) (ins del : Nat) :
    (d.rateCounted n ins del).rd64 pFecHtx (cHrx n) = d.rd64 pFecHtx (cHrx n) + BitVec.ofNat 64 ins ∧
    (d.rateCounted n ins del).rd64 pFecHtx (cHrx n + 8) = d.rd64 pFecHtx (cHrx n + 8) + BitVec.ofNat 64 del := by
  have hb := cHrx_block n
  refine ⟨?_, ?_⟩
  · exact (hb.other _ (y := 0) (by decide) (by decide) (by decide) del).trans (hb.same d _ (x := 0) (by decide) ins)
  · exact (hb.same _ _ (by decide) del).trans (congrArg (· + _) (hb.other d (x := 0) (by decide) (by decide) (by decide) ins))

/-- The device with the block taken in. -/
def Dev.rateTaken (d : Dev) (n : Lane) (mid new : Nat) : Dev :=
  if 80 * Config.rateBuffer < new then d.rateRestart n mid else d.updCl n fun c => { c with buf := new }

theorem DevKept.rateTaken (k : DevKept ex ev d h e) (h18 : (pFecHtx, cHrx n + 0x18) ∈ ex) (h1C : (pFecHtx, cHrx n + 0x1C) ∈ ex)
    (hv : (pFecHtx, 2) ∈ ev) (mid new : Nat) : DevKept ex ev d
      (h.updCl n fun c => { c with buf := if 80 * Config.rateBuffer < new then mid else new }) (e.rateTaken n mid new) := by
  unfold Dev.rateTaken
  split
  · exact k.rateRestart h18 h1C hv mid
  · exact k.updCl n _

theorem Dev.rateTaken_rd64 (d : Dev) (n : Lane) (mid new : Nat) {x : Nat} (hx : x + 8 ≤ 0x18) :
    (d.rateTaken n mid new).rd64 pFecHtx (cHrx n + x) = d.rd64 pFecHtx (cHrx n + x) := by
  unfold Dev.rateTaken
  split
  · exact d.rateRestart_rd64 n mid hx
  · rfl

theorem Dev.rateMatch_block (hseg : d.segmented n = true) (hlf : d.b pFecHtx (fLf n) = false) (ht : taken ≤ (d.cl n).buf)
    (hr : rateFill (80 * d.lg pFecHtx (fRateLo n)) (80 * d.lg pFecHtx (fRateHi n)) ((d.cl n).buf - taken) b = (fill, ins, del)) :
    d.rateMatch n b taken = (d.rateCounted n ins del).rateTaken n (d.rateMid n) fill := by
  have htake : d.rateMatch n b taken =
      (d.rateCounted n (rateFill (80 * d.lg pFecHtx (fRateLo n)) (80 * d.lg pFecHtx (fRateHi n)) ((d.cl n).buf - taken) b).2.1
        (rateFill (80 * d.lg pFecHtx (fRateLo n)) (80 * d.lg pFecHtx (fRateHi n)) ((d.cl n).buf - taken) b).2.2).rateTaken n (d.rateMid n)
        (rateFill (80 * d.lg pFecHtx (fRateLo n)) (80 * d.lg pFecHtx (fRateHi n)) ((d.cl n).buf - taken) b).1 := by
    exact (if_neg (by simp [hseg])).trans ((if_neg (by simp [hlf])).trans (if_neg (Nat.not_lt.mpr ht)))
  rw [htake, hr]

theorem Dev.rateMatch_empty (hseg : d.segmented n = true) (hlf : d.b pFecHtx (fLf n) = false) (ht : (d.cl n).buf < taken) :
    d.rateMatch n b taken = d.rateRestart n (d.rateMid n) :=
  (if_neg (by simp [hseg])).trans ((if_neg (by simp [hlf])).trans (if_pos ht))

theorem Dev.rateMatch_fault (hseg : d.segmented n = true) (hlf : d.b pFecHtx (fLf n) = true) : d.rateMatch n b taken =
    (d.updCl n fun c => { c with lfBlocks := (c.lfBlocks + taken) % 80 }).add64 pFecHtx (cHrx n + 0x10)
      (((d.cl n).lfBlocks + taken) / 80) := by
  have hmark : d.updCl n (fun c => { c with lfBlocks := ((d.cl n).lfBlocks + taken) % 80 }) =
      d.updCl n fun c => { c with lfBlocks := (c.lfBlocks + taken) % 80 } := Dev.updCl_congr rfl
  rw [← hmark]
  exact (if_neg (by simp [hseg])).trans (if_pos hlf)

end

/-! RATE_MATCH_BLOCK -/

section
variable {s : State} {n : Lane} {b : Blk} {taken new ins del : Nat}

/-- RATE_MATCH_BLOCK from a buffer that holds what is taken. -/
theorem rateMatch_counts (hc : s.calm) (hr : s.dev.runs pFecHtx) (hseg : s.dev.segmented n = true)
    (hlf : s.dev.b pFecHtx (fLf n) = false) (ht : taken ≤ (s.dev.cl n).buf)
    (hmarks : 80 * s.dev.lg pFecHtx (fRateLo n) ≤ 80 * s.dev.lg pFecHtx (fRateHi n))
    (hins : ins = (if (s.dev.cl n).buf - taken < 80 * s.dev.lg pFecHtx (fRateLo n) ∧ b ≠ .other then 1 else 0))
    (hdel : del = (if 80 * s.dev.lg pFecHtx (fRateHi n) < (s.dev.cl n).buf - taken ∧ b = .idle then 1 else 0))
    (hnew : new = (s.dev.cl n).buf - taken + 1 + ins - del) : Yields (exec (.rateMatchBlock n b taken) s) fun t =>
      t.dev.rd64 pFecHtx (cHrx n) = s.dev.rd64 pFecHtx (cHrx n) + BitVec.ofNat 64 ins ∧
      t.dev.rd64 pFecHtx (cHrx n + 8) = s.dev.rd64 pFecHtx (cHrx n + 8) + BitVec.ofNat 64 del ∧
      (t.dev.cl n).buf = (if 80 * Config.rateBuffer < new then s.dev.rateMid n else new) ∧
      Kept s t (s.dev.updCl n fun c => { c with buf := (t.dev.cl n).buf }) (regsOf pFecHtx [cHrx n, cHrx n + 4, cHrx n + 8,
        cHrx n + 0xC, cHrx n + 0x18, cHrx n + 0x1C]) [(pFecHtx, 2)] := by
  have hb := cHrx_block n
  have hfill := rateFill_eq hmarks hins hdel
  rw [← hnew] at hfill
  have kcount : DevKept (regsOf pFecHtx [cHrx n, cHrx n + 4, cHrx n + 8, cHrx n + 0xC, cHrx n + 0x18, cHrx n + 0x1C]) [(pFecHtx, 2)]
      s.dev s.dev (s.dev.rateCounted n ins del) :=
    ((DevKept.refl s.dev).counted hb (x := 0) (by decide) ins (.head _) (.tail _ (.head _))).counted hb (by decide) del
      (.tail _ (.tail _ (.head _))) (.tail _ (.tail _ (.tail _ (.head _))))
  obtain ⟨hi, hd⟩ := s.dev.rateCounted_reads n ins del
  refine (kcount.rateTaken (n := n) (by simp [regsOf]) (by simp [regsOf]) (.head _) (s.dev.rateMid n) new).yieldsOn hc hr
    (f := (·.rateMatch n b taken)) (Dev.rateMatch_block hseg hlf ht hfill) rfl (by simp [regsOf, pTrial, pFecHtx])
    fun t hset kept => ?_
  have hbuf : (t.dev.cl n).buf = if 80 * Config.rateBuffer < new then s.dev.rateMid n else new := by
    rw [kept.cl, Dev.cl_updCl_same]
  rw [hbuf]
  refine ⟨?_, ?_, rfl, kept⟩
  · exact (hb.settled hset _ (x := 0) (by decide)).trans ((Dev.rateTaken_rd64 _ n _ _ (x := 0) (by decide)).trans hi)
  · exact (hb.settled hset _ (by decide)).trans ((Dev.rateTaken_rd64 _ n _ _ (by decide)).trans hd)

/-- RATE_MATCH_BLOCK from a buffer that holds less than is taken. -/
theorem rateMatch_restarts (hc : s.calm) (hr : s.dev.runs pFecHtx) (hseg : s.dev.segmented n = true)
    (hlf : s.dev.b pFecHtx (fLf n) = false) (ht : (s.dev.cl n).buf < taken) : Yields (exec (.rateMatchBlock n b taken) s) fun t =>
      t.dev.rd64 pFecHtx (cHrx n + 0x18) = s.dev.rd64 pFecHtx (cHrx n + 0x18) + 1 ∧
      t.dev.evt pFecHtx 2 = true ∧
      Kept s t (s.dev.updCl n fun c => { c with buf := s.dev.rateMid n })
        (regsOf pFecHtx [cHrx n + 0x18, cHrx n + 0x1C]) [(pFecHtx, 2)] := by
  have hs := Dev.signals_fecHtx hr.powered
  refine ((DevKept.refl s.dev).rateRestart (n := n) (by simp [regsOf]) (by simp [regsOf]) (.head _) _).yieldsOn hc hr
    (f := (·.rateMatch n b taken)) (Dev.rateMatch_empty hseg hlf ht) rfl (by simp [regsOf, pTrial, pFecHtx])
    fun t hset kept => ⟨?_, ?_, kept⟩
  · exact ((cHrx_block n).settled hset _ (by decide)).trans (s.dev.rateRestart_count n _)
  · exact (hset.evt _ _ hs.not_three).trans (Dev.rateRestart_evt hs _)

/-- RATE_MATCH_BLOCK while Local Fault is sent. -/
theorem rateMatch_localFault (hc : s.calm) (hr : s.dev.runs pFecHtx) (hseg : s.dev.segmented n = true)
    (hlf : s.dev.b pFecHtx (fLf n) = true) : Yields (exec (.rateMatchBlock n b taken) s) fun t =>
      t.dev.rd64 pFecHtx (cHrx n + 0x10) =
        s.dev.rd64 pFecHtx (cHrx n + 0x10) + BitVec.ofNat 64 (((s.dev.cl n).lfBlocks + taken) / 80) ∧
      Kept s t (s.dev.updCl n fun c => { c with lfBlocks := (c.lfBlocks + taken) % 80 })
        (regsOf pFecHtx [cHrx n + 0x10, cHrx n + 0x14]) [] := by
  have hb := cHrx_block n
  refine (((DevKept.refl s.dev).updCl n _).counted hb (by decide) _ (.head _) (.tail _ (.head _))).yieldsOn hc hr
    (f := (·.rateMatch n b taken)) (Dev.rateMatch_fault hseg hlf) rfl (by simp [pTrial, pFecHtx])
    fun t hset kept => ⟨?_, kept⟩
  exact (hb.settled hset _ (by decide)).trans (hb.same _ _ (by decide) _)

end

end Sys2Proof.Machine
end

section
/-! RS codewords of a Segmented group, and the clear of the counters of a CODING page (R155, R156, R170, R171). -/

open Sys2Proof Sys2Proof.Machine

namespace Sys2Proof.Machine

/-! Decoding -/

section
variable {d h e : Dev} {ex ev : List (Nat × Nat)} {n base : Lane} {fs : List Flag} {errs fixed : Nat}

/-- The counter blocks of all lanes of FEC_LRX. -/
abbrev lrxCounters : List (Nat × Nat) := regsOf pFecLrx (regRun 0x200 160)

theorem DevKept.lrxCount (k : DevKept ex ev d h e) (hx : lrxCounters ⊆ ex) (n : Lane) (i : Fin 10) (m : Nat) :
    DevKept ex ev d h (e.add64 pFecLrx (cLrx n + 8 * i.val) m) := by
  have hmem : ∀ (n : Lane) (i : Fin 10), 8 * i.val + 8 ≤ 0x50 ∧ (cLrx n + 8 * i.val - 0x200) / 4 + 1 < 160 ∧
      cLrx n + 8 * i.val = 0x200 + 4 * ((cLrx n + 8 * i.val - 0x200) / 4) := by decide
  obtain ⟨hin, hlt, heq⟩ := hmem n i
  refine k.counted (cLrx_block n) hin m (hx ?_) (hx ?_)
  · exact heq ▸ mem_run _ (Nat.lt_of_succ_lt hlt)
  · exact heq ▸ mem_run _ hlt

/-- An erased symbol counts at its lane, as a hit or as a false alarm (R156). -/
def Dev.erasureCounted (d : Dev) (f : Flag) : Dev := d.add64 pFecLrx (cLrx f.lane + (if f.wrong then 0x20 else 0x28)) 1

theorem DevKept.erasuresCounted (k : DevKept ex ev d h e) (hx : lrxCounters ⊆ ex) (fs : List Flag) :
    DevKept ex ev d h (fs.foldl Dev.erasureCounted e) :=
  k.foldl fun e f _ kf => by
    unfold Dev.erasureCounted
    split
    · exact kf.lrxCount hx f.lane 4 1
    · exact kf.lrxCount hx f.lane 5 1

/-- Erasures leave the counters of codewords and of errors alone. -/
theorem Dev.erasuresCounted_rd64 (d : Dev) (fs : List Flag) (m : Lane) {i : Fin 10} (hi : 6 ≤ i) :
    (fs.foldl Dev.erasureCounted d).rd64 pFecLrx (cLrx m + 8 * i.val) = d.rd64 pFecLrx (cLrx m + 8 * i.val) := by
  have happart : ∀ (f m : Lane) (b : Bool) (i : Fin 10), 6 ≤ i → cLrx f + (if b then 0x20 else 0x28) + 8 ≤ cLrx m + 8 * i.val ∨
      cLrx m + 8 * i.val + 8 ≤ cLrx f + (if b then 0x20 else 0x28) := by decide
  have hin : ∀ b : Bool, (if b then 0x20 else 0x28) + 8 ≤ 0x50 := by decide
  have hin' : ∀ i : Fin 10, 8 * i.val + 8 ≤ 0x50 := by decide
  exact List.foldlRecOn (motive := fun e : Dev => e.rd64 pFecLrx (cLrx m + 8 * i.val) = d.rd64 pFecLrx (cLrx m + 8 * i.val)) fs _ rfl
    fun e he f _ => (Dev.rd64_wr64_other _ _ (happart f.lane m f.wrong i hi) ((cLrx_block f.lane).lt (hin _))
      ((cLrx_block m).lt (hin' i))).trans he

/-- The event rs_corr_thr of FEC_LRX, at most once per millisecond (R170). -/
def Dev.lineCorrThr (d : Dev) (fixed : Nat) : Dev :=
  if decide (d.g pFecLrx fCorrThrLrx ≤ fixed) && msPassed d.tk d.code.corrLrx then
    ({ d with code := { d.code with corrLrx := some d.tk } }).raise pFecLrx 6
  else d

theorem DevKept.lineCorrThr (k : DevKept ex ev d h e) (hv : (pFecLrx, 6) ∈ ev) (fixed : Nat) :
    ∃ x, DevKept ex ev d { h with code := { h.code with corrLrx := x } } (e.lineCorrThr fixed) := by
  unfold Dev.lineCorrThr
  split
  · have kset : DevKept ex ev d { h with code := { h.code with corrLrx := some e.tk } }
        { e with code := { e.code with corrLrx := some e.tk } } := by
      rw [k.code]
      exact k.setCode _
    exact ⟨_, kset.raise hv⟩
  · exact ⟨h.code.corrLrx, k⟩

theorem Dev.lineCorrThr_rd64 (d : Dev) (fixed q : Nat) {o : Nat} (ho : o + 4 < 4096) (hne : 0x010 < o) :
    (d.lineCorrThr fixed).rd64 q o = d.rd64 q o := by
  unfold Dev.lineCorrThr
  split
  · exact Dev.rd64_raise _ _ _ q ho hne
  · rfl

/-- A codeword counts at the lowest lane of its group; more flags than erasures raise an event (R155). -/
def Dev.rsCounted (d : Dev) (base : Lane) (overflow : Bool) : Dev := (d.add64 pFecLrx (cLrx base + 0x30) 1).raiseIf overflow pFecLrx 3

/-- What a corrected codeword adds (R156). -/
def Dev.rsFixed (d : Dev) (base : Lane) (erased : Bool) (fs : List Flag) (fixed : Nat) : Dev :=
  ((d.add64 pFecLrx (cLrx base + 0x38) fixed).when erased (fs.foldl Dev.erasureCounted)).lineCorrThr fixed

/-- What an uncorrectable codeword adds (R156). -/
def Dev.rsFailed (d : Dev) (base : Lane) : Dev := (d.add64 pFecLrx (cLrx base + 0x40) 1).raise pFecLrx 2

theorem DevKept.rsCounted (k : DevKept ex ev d h e) (hx : lrxCounters ⊆ ex) (hv : (pFecLrx, 3) ∈ ev) (base : Lane) (overflow : Bool) :
    DevKept ex ev d h (e.rsCounted base overflow) := (k.lrxCount hx base 6 1).raiseIf _ hv

theorem DevKept.rsFixed (k : DevKept ex ev d h e) (hx : lrxCounters ⊆ ex) (hv : (pFecLrx, 6) ∈ ev) (base : Lane) (erased : Bool)
    (fs : List Flag) (fixed : Nat) :
    ∃ x, DevKept ex ev d { h with code := { h.code with corrLrx := x } } (e.rsFixed base erased fs fixed) := by
  have kcount := k.lrxCount hx base 7 fixed
  exact (kcount.when (f := fs.foldl Dev.erasureCounted) (kcount.erasuresCounted hx fs) erased).lineCorrThr hv fixed

theorem DevKept.rsFailed (k : DevKept ex ev d h e) (hx : lrxCounters ⊆ ex) (hv : (pFecLrx, 2) ∈ ev) (base : Lane) :
    DevKept ex ev d h (e.rsFailed base) := (k.lrxCount hx base 8 1).raise hv

theorem Dev.rsCounted_rd64 (d : Dev) (base : Lane) (overflow : Bool) :
    (d.rsCounted base overflow).rd64 pFecLrx (cLrx base + 0x30) = d.rd64 pFecLrx (cLrx base + 0x30) + 1 ∧
    ∀ {x}, 0x38 ≤ x → x + 8 ≤ 0x50 → (d.rsCounted base overflow).rd64 pFecLrx (cLrx base + x) = d.rd64 pFecLrx (cLrx base + x) := by
  have hb := cLrx_block base
  have hread : ∀ {x}, x + 8 ≤ 0x50 → (d.rsCounted base overflow).rd64 pFecLrx (cLrx base + x) =
      (d.add64 pFecLrx (cLrx base + 0x30) 1).rd64 pFecLrx (cLrx base + x) := fun hx => Dev.rd64_raiseIf _ _ _ _ _ (hb.lt hx) hb.gt
  exact ⟨(hread (by decide)).trans (hb.same d _ (by decide) 1), fun h1 h2 => (hread h2).trans (hb.other d (.inl h1) (by decide) h2 1)⟩

theorem Dev.rsFixed_rd64 (d : Dev) (base : Lane) (erased : Bool) (fs : List Flag) (fixed : Nat) :
    (d.rsFixed base erased fs fixed).rd64 pFecLrx (cLrx base + 0x30) = d.rd64 pFecLrx (cLrx base + 0x30) ∧
    (d.rsFixed base erased fs fixed).rd64 pFecLrx (cLrx base + 0x38) = d.rd64 pFecLrx (cLrx base + 0x38) + BitVec.ofNat 64 fixed := by
  have hb := cLrx_block base
  have hread : ∀ {i : Fin 10}, 6 ≤ i → 8 * i.val + 8 ≤ 0x50 → (d.rsFixed base erased fs fixed).rd64 pFecLrx (cLrx base + 8 * i.val) =
      (d.add64 pFecLrx (cLrx base + 0x38) fixed).rd64 pFecLrx (cLrx base + 8 * i.val) := fun hi hx =>
    (Dev.lineCorrThr_rd64 _ _ _ (hb.lt hx) hb.gt).trans
      (Dev.rd64_when (f := fs.foldl Dev.erasureCounted) (Dev.erasuresCounted_rd64 _ fs base hi) erased)
  exact ⟨(hread (i := 6) (by decide) (by decide)).trans (hb.other d (y := 0x30) (by decide) (by decide) (by decide) fixed),
    (hread (i := 7) (by decide) (by decide)).trans (hb.same d _ (by decide) fixed)⟩

theorem Dev.rsFailed_rd64 (d : Dev) (base : Lane) :
    (d.rsFailed base).rd64 pFecLrx (cLrx base + 0x30) = d.rd64 pFecLrx (cLrx base + 0x30) ∧
    (d.rsFailed base).rd64 pFecLrx (cLrx base + 0x40) = d.rd64 pFecLrx (cLrx base + 0x40) + 1 := by
  have hb := cLrx_block base
  exact ⟨(hb.raise _ _ _ _ (by decide)).trans (hb.other d (by decide) (by decide) (by decide) 1),
    (hb.raise _ _ _ _ (by decide)).trans (hb.same d _ (by decide) 1)⟩

/-- What decoding makes of a codeword outside slot 23 (R155, R156). -/
theorem Dev.rsCodeword_decoded {r : RsResult} (hseg : d.segmented n = true) (ha : d.aligned n = true)
    (hr : rsDecode (d.lg pFecLrx (fMaxEra (d.groupBase n))) errs fs = r) : d.rsCodeword n fs errs none =
    if r.ok then (d.rsCounted (d.groupBase n) r.overflow).rsFixed (d.groupBase n) r.erasures fs (errs + wrongOnes fs)
    else (d.rsCounted (d.groupBase n) r.overflow).rsFailed (d.groupBase n) := by
  rw [← hr]
  exact if_neg (by simp [hseg, ha])

end

/-- RS_CODEWORD_DECODE of an aligned group, outside slot 23. -/
theorem rsCodewordDecode_counts {s : State} {n : Lane} {fs : List Flag} {errs : Nat} {r : RsResult} (hc : s.calm) (hrun : s.dev.runs pFecLrx)
    (hseg : s.dev.segmented n = true) (ha : s.dev.aligned n = true)
    (hr : rsDecode (s.dev.lg pFecLrx (fMaxEra (s.dev.groupBase n))) errs fs = r) :
    Yields (exec (.rsCodewordDecode n fs errs none) s) fun t =>
      t.dev.rd64 pFecLrx (cLrx (s.dev.groupBase n) + 0x30) = s.dev.rd64 pFecLrx (cLrx (s.dev.groupBase n) + 0x30) + 1 ∧
      (r.ok = true →
        t.dev.rd64 pFecLrx (cLrx (s.dev.groupBase n) + 0x38) =
          s.dev.rd64 pFecLrx (cLrx (s.dev.groupBase n) + 0x38) + BitVec.ofNat 64 (errs + wrongOnes fs) ∧
        t.dev.evt pFecLrx 2 = s.dev.evt pFecLrx 2) ∧
      (r.ok = false →
        t.dev.rd64 pFecLrx (cLrx (s.dev.groupBase n) + 0x40) = s.dev.rd64 pFecLrx (cLrx (s.dev.groupBase n) + 0x40) + 1 ∧
        t.dev.evt pFecLrx 2 = true) ∧
      Kept s t { s.dev with code := { s.dev.code with corrLrx := t.dev.code.corrLrx } } lrxCounters
        [(pFecLrx, 2), (pFecLrx, 3), (pFecLrx, 6)] := by
  have hs := Dev.signals_fecLrx hrun.powered
  have he := Dev.rsCodeword_decoded hseg ha hr
  generalize s.dev.groupBase n = base at he ⊢
  obtain ⟨hall, hrest⟩ := s.dev.rsCounted_rd64 base r.overflow
  have hb := cLrx_block base
  cases hok : r.ok with
  | true =>
    rw [hok, if_pos rfl] at he
    have kcount : ∀ ev, (pFecLrx, 3) ∈ ev → DevKept lrxCounters ev s.dev s.dev (s.dev.rsCounted base r.overflow) := fun ev h3 =>
      (DevKept.refl _).rsCounted (List.Subset.refl _) h3 base _
    obtain ⟨x, k⟩ := (kcount [(pFecLrx, 2), (pFecLrx, 3), (pFecLrx, 6)] (by simp)).rsFixed (List.Subset.refl _) (by simp) base r.erasures fs
      (errs + wrongOnes fs)
    obtain ⟨_, kevt⟩ := (kcount [(pFecLrx, 3), (pFecLrx, 6)] (by simp)).rsFixed (List.Subset.refl _) (by simp) base r.erasures fs
      (errs + wrongOnes fs)
    obtain ⟨h30, h38⟩ := (s.dev.rsCounted base r.overflow).rsFixed_rd64 base r.erasures fs (errs + wrongOnes fs)
    refine k.yieldsOn hc hrun (f := (·.rsCodeword n fs errs none)) he rfl (not_mem_counters (.inl (by decide))) fun t hset kept =>
      ⟨?_, fun _ => ⟨?_, ?_⟩, nofun, ?_⟩
    · exact (hb.settled hset _ (by decide)).trans (h30.trans hall)
    · exact (hb.settled hset _ (by decide)).trans (h38.trans (congrArg (· + _) (hrest (by decide) (by decide))))
    · exact (hset.evt _ _ hs.not_three).trans (kevt.events _ _ (by decide) hs.page)
    · rw [show t.dev.code.corrLrx = x from congrArg CodeH.corrLrx kept.code]
      exact kept
  | false =>
    rw [hok, if_neg (by decide)] at he
    have k := ((DevKept.refl s.dev).rsCounted (ev := [(pFecLrx, 2), (pFecLrx, 3), (pFecLrx, 6)]) (List.Subset.refl _) (by simp) base
      r.overflow).rsFailed (List.Subset.refl _) (by simp) base
    obtain ⟨h30, h40⟩ := (s.dev.rsCounted base r.overflow).rsFailed_rd64 base
    have hs' : ((s.dev.rsCounted base r.overflow).add64 pFecLrx (cLrx base + 0x40) 1).Signals pFecLrx 10 :=
      hs.congr (Dev.raiseIf_offPages ..)
    refine k.yieldsOn hc hrun (f := (·.rsCodeword n fs errs none)) he rfl (not_mem_counters (.inl (by decide))) fun t hset kept =>
      ⟨?_, nofun, fun _ => ⟨?_, ?_⟩, ?_⟩
    · exact (hb.settled hset _ (by decide)).trans (h30.trans hall)
    · exact (hb.settled hset _ (by decide)).trans (h40.trans (congrArg (· + 1) (hrest (by decide) (by decide))))
    · exact (hset.evt _ _ hs.not_three).trans (hs'.raise (by decide))
    · rw [show t.dev.code.corrLrx = s.dev.code.corrLrx from congrArg CodeH.corrLrx kept.code]
      exact kept

/-! The clear of the counters -/

theorem codingCnt_range {p off base k : Nat} (h : codingCnt p = some (off, base, k)) : 0x048 < base ∧ base + 4 * k ≤ 4096 := by
  unfold codingCnt at h
  split at h
  all_goals cases h
  all_goals decide

/-- The starts of the tuning windows return to 0 with the counters of FEC_LRX. -/
def Dev.tuneCleared (d : Dev) (p : Nat) : Dev :=
  if p = pFecLrx then d.eachLane fun n d => d.updCl n fun c => { c with tuneHit := 0, tuneFalse := 0 } else d

/-- Only the hidden part of the lanes is touched. -/
theorem Dev.tuneCleared_eq (d : Dev) (p : Nat) : ∃ x, d.tuneCleared p = { d with code := x } := by
  unfold Dev.tuneCleared
  split
  · exact List.foldlRecOn (motive := fun e : Dev => ∃ x, e = { d with code := x }) _ _ ⟨d.code, rfl⟩ fun e he n _ => by
      obtain ⟨x, rfl⟩ := he
      exact ⟨_, rfl⟩
  · exact ⟨d.code, rfl⟩

theorem Dev.cntCtrlWrite_clear {d : Dev} {w : Who} {p off base k : Nat} (h : codingCnt p = some (off, base, k)) (ht : d.takes w p off)
    (v : Word) : d.cntCtrlWrite w p (v ||| 1) = ((d.wrs p base (List.replicate k 0)).tuneCleared p).answered := by
  have hbit : (v ||| 1).getLsbD 0 = true := by simp
  unfold Dev.cntCtrlWrite
  rw [h]
  dsimp only
  rw [access_takes _ _ _ _ _ ht, if_pos hbit]
  rfl

/-- CODING_CNT_CLR. -/
theorem codingCntClr_zeroes {s : State} {w : Who} {p : Fin 5} {v : Word} {off base k : Nat} (hc : s.calm)
    (h : codingCnt (0x40 + p.val) = some (off, base, k)) (ht : s.dev.takes w (0x40 + p.val) off) :
    Yields (exec (.codingCntClr w p v) s) fun t =>
      (∀ o ∈ regRun base k, t.dev.rd (0x40 + p.val) o = 0) ∧
      Kept s t { s.dev.answered with code := t.dev.code } (regsOf (0x40 + p.val) (regRun base k)) [] := by
  obtain ⟨hlo, hhi⟩ := codingCnt_range h
  obtain ⟨x, hx⟩ := (s.dev.wrs (0x40 + p.val) base (List.replicate k 0)).tuneCleared_eq (0x40 + p.val)
  have he := Dev.cntCtrlWrite_clear h ht v
  rw [hx] at he
  have kz : DevKept (regsOf (0x40 + p.val) (regRun base k)) [] s.dev s.dev (s.dev.wrs (0x40 + p.val) base (List.replicate k 0)) :=
    (DevKept.refl _).wrs (fun i hi => mem_run i (hi.trans_eq List.length_replicate)) (by rwa [List.length_replicate]) (by omega)
  have k0 : DevKept (regsOf (0x40 + p.val) (regRun base k)) [] s.dev { s.dev with code := x }
      { s.dev.wrs (0x40 + p.val) base (List.replicate k 0) with code := x } := kz.setCode x
  refine k0.answered.yields hc (f := (·.cntCtrlWrite w (0x40 + p.val) (v ||| 1))) he (Dev.answered_life _)
    (not_trial_regRun hlo) fun t hset kept => ⟨fun o ho => ?_, ?_⟩
  · obtain ⟨i, hi, rfl⟩ := mem_regRun.mp ho
    refine (hset.rd _ _ (by omega) (by omega)).trans ?_
    refine (Dev.wrs_rd_at s.dev (l := List.replicate k 0) (by rwa [List.length_replicate]) (by rwa [List.length_replicate])).trans ?_
    rw [List.getD_eq_getElem _ _ (by rwa [List.length_replicate]), List.getElem_replicate]
  · rw [show t.dev.code = x from kept.code]
    exact kept

end Sys2Proof.Machine
end

section
/-! The end of a tuning window (R47, R157). -/

open Sys2Proof Sys2Proof.Machine

namespace Sys2Proof.Machine

/-! A field of several bits stores what is written (R5, R6) -/

theorem FSpec.write_field (hi lo rst : Nat) {i : Nat} (hlo : lo ≤ i) (hhi : i ≤ hi) (h32 : hi < 32) (old v : Word) :
    ((rw hi lo rst).write old v).getLsbD i = v.getLsbD i := by
  have h1 : i - lo < hi + 1 - lo := Nat.sub_lt_sub_right hlo (Nat.lt_succ_of_le hhi)
  have h3 : i < 32 := hhi.trans_lt h32
  have h2 : i - lo < 32 := (Nat.sub_le i lo).trans_lt h3
  have h4 : lo + (i - lo) = i := Nat.add_sub_cancel' hlo
  simp only [FSpec.write, rw, FSpec.mask, Norm.store, BitVec.ofNat_toNat, BitVec.setWidth_eq, BitVec.getLsbD_and, BitVec.getLsbD_shiftLeft,
    BitVec.getLsbD_ushiftRight, BitVec.getLsbD_ofNat, Nat.testBit_two_pow_sub_one, h4]
  simp [h1, h2, h3, Nat.not_lt.mpr hlo]

/-- Where bit `i` of a register lies in an RW field, a write stores it as written. -/
theorem storeWord_fieldBit {p off hi lo rst i : Nat} {fs : List FSpec} (hfs : (regSpec p off).map (·.fs) = some fs)
    (hp : ¬ (p = 0x12 ∧ off = 0x050)) (hlo : lo ≤ i) (hhi : i ≤ hi) (h32 : hi < 32) (hmem : rw hi lo rst ∈ fs)
    (hrest : ∀ f ∈ fs, f ≠ rw hi lo rst → f.mask.getLsbD i = false) (old v : Word) :
    (storeWord p off old v).getLsbD i = v.getLsbD i := by
  obtain ⟨r, hr, rfl⟩ := Option.map_eq_some_iff.mp hfs
  unfold storeWord
  rw [hr]
  simp only [if_neg hp, foldl_or_getLsbD]
  rw [show (0 : Word).getLsbD i = false from BitVec.getLsbD_zero, Bool.false_or, Bool.eq_iff_iff, List.any_eq_true]
  constructor
  · rintro ⟨f, hf, hbit⟩
    by_cases he : f = rw hi lo rst
    · rwa [he, FSpec.write_field hi lo rst hlo hhi h32] at hbit
    · rw [FSpec.write_outside (hrest f hf he)] at hbit
      cases hbit
  · exact fun hv => ⟨_, hmem, (FSpec.write_field hi lo rst hlo hhi h32 old v).trans hv⟩

/-- margin_thr is stored as written (R171). -/
theorem storeWord_marginThr (n : Lane) (old v : Word) :
    getBits (storeWord pFecLrx (0x060 + 4 * n.val) old v) 4 4 = getBits v 4 4 := by
  have hfs : (regSpec pFecLrx (0x060 + 4 * n.val)).map (·.fs) = some [rw 13 8 0x1E (.clamp 0 30), rw 7 4 3, rw 1 1 1, rw 0 0 1] := by
    revert n; decide
  have hrest : ∀ i < 4, ∀ f ∈ [rw 13 8 0x1E (.clamp 0 30), rw 7 4 3, rw 1 1 1, rw 0 0 1], f ≠ rw 7 4 3 → f.mask.getLsbD (4 + i) = false := by
    decide
  refine Nat.eq_of_testBit_eq fun i => ?_
  rw [getBits_testBit, getBits_testBit]
  by_cases hi : i < 4
  · refine congrArg (decide (i < 4) && ·) ?_
    exact storeWord_fieldBit hfs (by simp [pFecLrx]) (by omega) (by omega) (by decide) (by decide) (hrest i hi) old v
  · rw [decide_eq_false hi, Bool.false_and, Bool.false_and]

/-! The move of the threshold -/

section
variable {d h e : Dev} {ex ev : List (Nat × Nat)} {n : Lane} {new : Nat}

/-- With no decision pending a page is not noted as late. -/
theorem Dev.storeShadow_idle (hi : d.commit = .idle) (p off : Nat) (v : Word) : d.storeShadow p off v = d.shadowStored p off v := by
  have hidle : (((d.store p off v).sb p fArm false).sb p fApplied false).commit = .idle := hi
  unfold Dev.storeShadow
  dsimp only
  rw [hidle]
  rfl

theorem DevKept.shadowStored (k : DevKept ex ev d h e) {p off : Nat} (v : Word) (hoff : (p, off) ∈ ex) (harm : (p, 0x028) ∈ ex)
    (happ : (p, 0x004) ∈ ex) (hlt : off < 4096) (hne : off ≠ 0x010) : DevKept ex ev d h (e.shadowStored p off v) :=
  ((k.wr _ hoff hlt hne).sb (f := fArm) false harm).sb (f := fApplied) false happ

/-- A request of a commit on the way from `d`. -/
theorem DevKept.commitRequested (k : DevKept ex ev d h e) (targets : Nat) (hx : (0x16, 0x044) ∈ ex) :
    DevKept ex ev d { h with commit := (e.commitRequest targets).commit, unapplied := (e.commitRequest targets).unapplied }
      (e.commitRequest targets) := by
  have kr : DevKept ex ev e _ (e.commitRequest targets) := DevKept.commitRequest e targets hx
  refine ⟨fun p off h1 h2 h3 => (kr.regs p off h1 h2 h3).trans (k.regs p off h1 h2 h3),
    fun p src h1 h2 => (kr.events p src h1 h2).trans (k.events p src h1 h2), ?_⟩
  generalize (e.commitRequest targets).commit = c, (e.commitRequest targets).unapplied = u at kr ⊢
  exact Kept.hidden_trans (congrArg (fun x : Dev => { x with commit := c, unapplied := u }) k.hidden) kr.hidden

theorem Dev.commitRequest_commit (hi : d.commit = .idle) {targets : Nat} (ht : targets ≠ 0) :
    (d.commitRequest targets).commit = .undecided targets := by
  obtain ⟨u, hu⟩ := Dev.commitRequest_named hi ht
  exact congrArg Dev.commit hu

/-- The starts of a lane's tuning window at the counters (R157). -/
def Dev.tuneMarked (d : Dev) (n : Lane) : Dev :=
  d.updCl n fun c => { c with tuneHit := d.rd64 pFecLrx (cLrx n + 0x20), tuneFalse := d.rd64 pFecLrx (cLrx n + 0x28) }

/-- The firmware writes margin_thr, arms FEC_LRX, commits it and tells (R157). -/
def Dev.marginWritten (d : Dev) (n : Lane) (new : Nat) : Dev :=
  (d.shadowStored pFecLrx (0x060 + 4 * n.val) (setBits (d.rd pFecLrx (0x060 + 4 * n.val)) 4 4 new)).sb pFecLrx fArm true

def Dev.marginMoved (d : Dev) (n : Lane) (new : Nat) : Dev := ((d.marginWritten n new).commitRequest (2 ^ 18)).raise pFecLrx 4

/-- What the counts of the window ask for (R157). -/
def Dev.tuneAsks (d : Dev) (n : Lane) (new : Nat) : Prop :=
  let dh := (d.rd64 pFecLrx (cLrx n + 0x20) - (d.cl n).tuneHit).toNat
  let df := (d.rd64 pFecLrx (cLrx n + 0x28) - (d.cl n).tuneFalse).toNat
  (0 < df ∧ dh ≤ df ∧ new + 1 = d.g pFecLrx (fMarginThr n)) ∨ (0 < dh ∧ 4 * df ≤ dh ∧ new = d.g pFecLrx (fMarginThr n) + 1 ∧ new ≤ 15)

theorem Dev.tuneAsks.lt (h : d.tuneAsks n new) : new < 16 := by
  have hthr : d.g pFecLrx (fMarginThr n) < 2 ^ 4 := Nat.mod_lt _ (Nat.two_pow_pos 4)
  rcases h with ⟨_, _, hnew⟩ | ⟨_, _, _, hnew⟩ <;> omega

/-- What the firmware does to move the threshold, where it may write it and no decision is pending. -/
theorem Dev.marginMoved_eq (hi : d.commit = .idle) (ht : d.takes ⟨0, 0, false⟩ pFecLrx (0x060 + 4 * n.val)) (new : Nat) :
    (if d.writeStatus ⟨0, 0, false⟩ pFecLrx (0x060 + 4 * n.val) != .ok then d else
      (((d.storeShadow pFecLrx (0x060 + 4 * n.val) (setBits (d.rd pFecLrx (0x060 + 4 * n.val)) 4 4 new)).sb pFecLrx fArm true).commitRequest
        (2 ^ 18)).raise pFecLrx 4) = d.marginMoved n new := by
  have htake : ¬ (d.writeStatus ⟨0, 0, false⟩ pFecLrx (0x060 + 4 * n.val) != .ok) = true := ne_true_of_eq_false (bne_eq_false_iff_eq.mpr ht)
  rw [if_neg htake, Dev.storeShadow_idle hi]
  rfl

theorem Dev.tuneWindowEnd_moves (hseg : d.segmented n = true) (hup : d.coachUp = true) (hen : d.b pFecLrx (fTuneEn n) = true)
    (ht : d.takes ⟨0, 0, false⟩ pFecLrx (0x060 + 4 * n.val)) (hi : d.commit = .idle) (h : d.tuneAsks n new) :
    d.tuneWindowEnd n = (d.tuneMarked n).marginMoved n new := by
  refine (if_neg (by simp [hseg, hup, hen])).trans ?_
  have hmove := Dev.marginMoved_eq (d := d.tuneMarked n) hi ht
  rcases h with ⟨hf, hle, hnew⟩ | ⟨hh, hle, hnew, hmax⟩
  · obtain rfl := Nat.sub_eq_of_eq_add hnew.symm
    exact (if_pos ⟨hf, hle⟩).trans ((if_neg (hnew ▸ Nat.succ_ne_zero _)).trans (hmove _))
  · have hnot : d.g pFecLrx (fMarginThr n) ≠ 15 := fun h15 => absurd (hnew.symm.trans_le hmax) (by rw [h15]; decide)
    subst hnew
    exact (if_neg (fun hc => by omega)).trans ((if_pos ⟨hh, hle⟩).trans ((if_neg hnot).trans (hmove _)))

end

theorem laneCfg_ne_arm (n : Lane) : (pFecLrx, 0x060 + 4 * n.val) ≠ (pFecLrx, fArm.off) := by decide +revert

/-- TUNE_WINDOW_END where the counts ask for another threshold. -/
theorem tuneWindowEnd_moves {s : State} {n : Lane} {new : Nat} (hc : s.calm) (hr : s.dev.runs pFecLrx) (hseg : s.dev.segmented n = true)
    (hup : s.dev.coachUp = true) (hen : s.dev.b pFecLrx (fTuneEn n) = true)
    (ht : s.dev.takes ⟨0, 0, false⟩ pFecLrx (0x060 + 4 * n.val)) (hi : s.dev.commit = .idle) (ha : s.dev.tuneAsks n new) :
    Yields (exec (.tuneWindowEnd n) s) fun t =>
      t.dev.g pFecLrx (fMarginThr n) = new ∧
      t.dev.b pFecLrx fArm = true ∧
      t.dev.b pFecLrx fApplied = false ∧
      t.dev.commit = .undecided (2 ^ 18) ∧
      t.dev.evt pFecLrx 4 = true ∧
      Kept s t { s.dev.tuneMarked n with commit := .undecided (2 ^ 18), unapplied := t.dev.unapplied }
        [(pFecLrx, 0x060 + 4 * n.val), (pFecLrx, 0x028), (pFecLrx, 0x004), (0x16, 0x044)] [(pFecLrx, 4)] := by
  have hlt := laneReg_lt n (b := 0x060) (by decide)
  have hne := laneReg_ne n (b := 0x060) (by decide)
  have hs := Dev.signals_fecLrx hr.powered
  generalize hmarked : s.dev.tuneMarked n = m
  have hm : DevKept [(pFecLrx, 0x060 + 4 * n.val), (pFecLrx, 0x028), (pFecLrx, 0x004), (0x16, 0x044)] [(pFecLrx, 4)] s.dev m m :=
    hmarked ▸ DevKept.of_regs rfl
  have hmi : m.commit = .idle := hmarked ▸ hi
  have he : s.dev.tuneWindowEnd n = m.marginMoved n new := hmarked ▸ Dev.tuneWindowEnd_moves hseg hup hen ht hi ha
  have hlife : m.life = s.dev.life := hmarked ▸ rfl
  have hse : m.Signals pFecLrx 10 := hs.congr (hmarked ▸ rfl)
  have kw : DevKept [(pFecLrx, 0x060 + 4 * n.val), (pFecLrx, 0x028), (pFecLrx, 0x004), (0x16, 0x044)] [(pFecLrx, 4)] s.dev m
      (m.marginWritten n new) :=
    (hm.shadowStored _ (by simp) (by simp) (by simp) hlt hne).sb (f := fArm) true (by simp [fArm])
  have kr := kw.commitRequested (2 ^ 18) (by simp)
  have hrequest : ∀ o, o < 4096 → o ≠ 0x010 → (m.marginMoved n new).rd pFecLrx o = (m.marginWritten n new).rd pFecLrx o := fun o h1 h2 =>
    (Dev.rd_raise _ _ _ _ _ h1 h2).trans ((DevKept.commitRequest (ex := [(0x16, 0x044)]) (ev := []) (m.marginWritten n new) (2 ^ 18)
      (.head _)).regs _ _ h1 h2 (by simp [pFecLrx]))
  have hcommit : ((m.marginWritten n new).commitRequest (2 ^ 18)).commit = .undecided (2 ^ 18) :=
    Dev.commitRequest_commit ((congrArg Dev.commit kw.hidden).trans hmi) (Nat.two_pow_pos 18).ne'
  refine (kr.raise (.head _)).yieldsOn hc hr (f := (·.tuneWindowEnd n)) he hlife (by simp [pTrial, pFecLrx]) fun t hset kept =>
    ⟨?_, ?_, ?_, ?_, ?_, ?_⟩
  · refine ((hset.g _ (fMarginThr n) hlt hne).trans (Dev.g_congr (hrequest _ hlt hne))).trans ?_
    have hword : (m.marginWritten n new).rd pFecLrx (0x060 + 4 * n.val) = _ :=
      (Dev.rd_sb_ne (f := fArm) _ (by decide) hlt (laneCfg_ne_arm n) true).trans
        (Dev.shadowStored_rd_same m _ (Nat.le_add_right_of_le (by decide)) hlt)
    rw [Dev.g, show (fMarginThr n).off = 0x060 + 4 * n.val from rfl, hword]
    exact (storeWord_marginThr n _ _).trans ((getBits_setBits_same _ 4 4 new (by decide)).trans (Nat.mod_eq_of_lt ha.lt))
  · exact ((hset.b _ fArm).trans (Dev.b_congr (hrequest _ (by decide) (by decide)))).trans (Dev.b_sb_same _ _ _ _ (by decide) rfl)
  · refine ((hset.b _ fApplied).trans (Dev.b_congr (hrequest _ (by decide) (by decide)))).trans ?_
    exact (Dev.b_s_apart (by decide) _ _ _ _).trans (Dev.shadowStored_applied m _ _ _)
  · exact kept.commit.trans hcommit
  · exact (hset.evt _ _ hs.not_three).trans ((hse.congr kr.offPages).raise (by decide))
  · rw [hcommit] at kept
    rw [kept.unapplied]
    exact kept

end Sys2Proof.Machine
end

section
/-! The Lap header as a word, and the start of a Lap toward the line (R149, R158, R165). -/

open Sys2Proof Sys2Proof.Machine

namespace Sys2Proof.Machine

/-! The header -/

/-- A word in front of another, without the low bits of the pair. -/
theorem toNat_append_div {v w : Nat} (x : BitVec v) (y : BitVec w) (k : Nat) : (x ++ y).toNat / 2 ^ (w + k) = x.toNat / 2 ^ k := by
  rw [Nat.pow_add, ← Nat.div_div_eq_div_mul, BitVec.toNat_append, ← Nat.shiftLeft_add_eq_or_of_lt y.isLt, Nat.shiftLeft_eq,
    Nat.mul_comm, Nat.mul_add_div (Nat.two_pow_pos w), Nat.div_eq_of_lt y.isLt, Nat.add_zero]

theorem toNat_append_mod {v w : Nat} (x : BitVec v) (y : BitVec w) : (x ++ y).toNat % 2 ^ w = y.toNat := by
  rw [BitVec.toNat_append, ← Nat.shiftLeft_add_eq_or_of_lt y.isLt, Nat.shiftLeft_eq, Nat.mul_comm, Nat.mul_add_mod,
    Nat.mod_eq_of_lt y.isLt]

theorem crc16Bits_lt (x k : Nat) {c : Nat} (h : c < 2 ^ 16) : crc16Bits x k c < 2 ^ 16 := by
  induction k generalizing c with
  | zero => exact h
  | succ k ih =>
    refine ih (Nat.xor_lt_two_pow (Nat.mod_lt _ (by decide)) ?_)
    split <;> decide

section
variable (size : BitVec 2) (idx phys : BitVec 3) (lap : BitVec 32) (map : BitVec 24) (srcOk rxOk : Bool) (lat : BitVec 24)

/-- The header without its check word. -/
def lapBody : BitVec 464 :=
  lapMarker ++ size ++ idx ++ phys ++ lap ++ map ++ BitVec.ofBool srcOk ++ BitVec.ofBool rxOk ++ 0#6 ++ lat ++ 0#304

theorem lapHeader_eq : lapHeader size idx phys lap map srcOk rxOk lat = lapBody size idx phys lap map srcOk rxOk lat ++
    BitVec.ofNat 16 (crc16Bits (lapBody size idx phys lap map srcOk rxOk lat).toNat 464 0xFFFF) := rfl

/-- A field of the header that lies in the body, by the bits below it there. -/
theorem hdrField_append (b : BitVec 464) (c : BitVec 16) {i j k : Nat} (h : 479 - j = 16 + k) :
    hdrField (b ++ c) i j = b.toNat / 2 ^ k % 2 ^ (j + 1 - i) := by
  rw [hdrField, h, toNat_append_div]

theorem hdrCrcOk_append (b : BitVec 464) : hdrCrcOk (b ++ BitVec.ofNat 16 (crc16Bits b.toNat 464 0xFFFF)) = true := by
  have hbody : (b ++ BitVec.ofNat 16 (crc16Bits b.toNat 464 0xFFFF)).toNat / 2 ^ 16 = b.toNat :=
    (toNat_append_div b _ 0).trans (by rw [Nat.pow_zero, Nat.div_one])
  have hcheck : hdrField (b ++ BitVec.ofNat 16 (crc16Bits b.toNat 464 0xFFFF)) 464 479 = crc16Bits b.toNat 464 0xFFFF := by
    have hmod := toNat_append_mod b (BitVec.ofNat 16 (crc16Bits b.toNat 464 0xFFFF))
    rw [BitVec.toNat_ofNat, Nat.mod_eq_of_lt (crc16Bits_lt b.toNat 464 (by decide))] at hmod
    rw [hdrField, show 479 - 479 = 0 from rfl, show 479 + 1 - 464 = 16 from rfl, Nat.pow_zero, Nat.div_one, hmod]
  rw [hdrCrcOk, hbody, hcheck, beq_self_eq_true]

theorem lapBody_marker : (lapBody size idx phys lap map srcOk rxOk lat).toNat / 2 ^ 400 = lapMarker.toNat := by
  rw [lapBody, show 400 = 304 + (24 + (6 + (1 + (1 + (24 + (32 + (3 + (3 + (2 + 0))))))))) from rfl]
  simp only [toNat_append_div]
  rw [Nat.pow_zero, Nat.div_one]

theorem lapBody_lap : (lapBody size idx phys lap map srcOk rxOk lat).toNat / 2 ^ 360 % 2 ^ 32 = lap.toNat := by
  rw [lapBody, show 360 = 304 + (24 + (6 + (1 + (1 + (24 + 0))))) from rfl]
  simp only [toNat_append_div]
  rw [Nat.pow_zero, Nat.div_one, toNat_append_mod]

theorem lapBody_map : (lapBody size idx phys lap map srcOk rxOk lat).toNat / 2 ^ 336 % 2 ^ 24 = map.toNat := by
  rw [lapBody, show 336 = 304 + (24 + (6 + (1 + (1 + 0)))) from rfl]
  simp only [toNat_append_div]
  rw [Nat.pow_zero, Nat.div_one, toNat_append_mod]

end

/-- A lane stands at the beginning of a Lap with this number and this filler map (R149). -/
structure CodeLane.AtLap (c : CodeLane) (lap : BitVec 32) (map : BitVec 24) : Prop where
  pos : c.pos = 0
  marker : hdrField c.hdr 0 63 = lapMarker.toNat
  lap : hdrField c.hdr 72 103 = lap.toNat
  map : hdrField c.hdr 104 127 = map.toNat
  crc : hdrCrcOk c.hdr = true

theorem atLap_of_header {c : CodeLane} {size : BitVec 2} {idx phys : BitVec 3} {lap : BitVec 32} {map : BitVec 24} {srcOk rxOk : Bool}
    {lat : BitVec 24} (hpos : c.pos = 0) (h : c.hdr = lapHeader size idx phys lap map srcOk rxOk lat) : c.AtLap lap map where
  pos := hpos
  marker := by
    rw [h, lapHeader_eq, hdrField_append _ _ (k := 400) rfl, lapBody_marker]
    exact Nat.mod_eq_of_lt lapMarker.isLt
  lap := by rw [h, lapHeader_eq, hdrField_append _ _ (k := 360) rfl, lapBody_lap]
  map := by rw [h, lapHeader_eq, hdrField_append _ _ (k := 336) rfl, lapBody_map]
  crc := by rw [h, lapHeader_eq, hdrCrcOk_append]

/-! The start of a Lap -/

/-- From `d` to `e` only the coding path changes beside the registers of `ex` and the events of `ev`. -/
abbrev CodeKept (ex ev : List (Nat × Nat)) (d e : Dev) : Prop := DevKept ex ev d { d with code := e.code } e

section
variable {d e : Dev} {ex ev : List (Nat × Nat)}

theorem CodeKept.updCl (k : CodeKept ex ev d e) (n : Lane) (f : CodeLane → CodeLane) : CodeKept ex ev d (e.updCl n f) :=
  ⟨k.regs, k.events, congrArg (fun x : Dev => { x with code := (e.updCl n f).code }) k.hidden⟩

theorem CodeKept.updCg (k : CodeKept ex ev d e) (n : Lane) (f : CodeGroup → CodeGroup) : CodeKept ex ev d (e.updCg n f) :=
  ⟨k.regs, k.events, congrArg (fun x : Dev => { x with code := (e.updCg n f).code }) k.hidden⟩

theorem CodeKept.raise (k : CodeKept ex ev d e) {p src : Nat} (hv : (p, src) ∈ ev) : CodeKept ex ev d (e.raise p src) := by
  unfold CodeKept
  rw [(EvtFrame.raise e p src false).code]
  exact DevKept.raise k hv

theorem CodeKept.raiseIf (k : CodeKept ex ev d e) (c : Bool) {p src : Nat} (hv : (p, src) ∈ ev) : CodeKept ex ev d (e.raiseIf c p src) := by
  unfold Dev.raiseIf
  split
  · exact k.raise hv
  · exact k

theorem CodeKept.when (k : CodeKept ex ev d e) {f : Dev → Dev} (kf : CodeKept ex ev d (f e)) (c : Bool) : CodeKept ex ev d (e.when c f) := by
  unfold Dev.when
  split
  · exact kf
  · exact k

theorem CodeKept.foldl {α : Type} {f : Dev → α → Dev} (hf : ∀ e a, CodeKept ex ev d e → CodeKept ex ev d (f e a)) (l : List α)
    (k : CodeKept ex ev d e) : CodeKept ex ev d (l.foldl f e) :=
  List.foldlRecOn (motive := CodeKept ex ev d) l f k fun e ke a _ => hf e a ke

theorem Dev.raiseIf_code (d : Dev) (c : Bool) (p src : Nat) : (d.raiseIf c p src).code = d.code := (EvtFrame.raiseIf d c p src).code

end

/-- What a command does to a lane holds of every lane of a list once it has been done to each, if it is lasting. -/
theorem foldl_lanes {P : Lane → Dev → Prop} {f : Lane → Dev → Dev} (hset : ∀ k d, P k (f k d))
    (hkeep : ∀ k m d, m ≠ k → P k d → P k (f m d)) (l : List Lane) (d : Dev) : ∀ k ∈ l, P k (l.foldl (fun d m => f m d) d) := by
  induction l generalizing d with
  | nil => exact fun k hk => absurd hk List.not_mem_nil
  | cons a l ih =>
    intro k hk
    by_cases hl : k ∈ l
    · exact ih (f a d) k hl
    · obtain rfl : k = a := (List.mem_cons.mp hk).resolve_right hl
      exact List.foldlRecOn (motive := P k) l _ (hset k d) fun e he m hm => hkeep k m e (fun h => hl (h ▸ hm)) he

section
variable {d e : Dev} {ex ev : List (Nat × Nat)} {n : Lane} {lat : BitVec 24}

/-- Every slot of the next Lap is filler (R158). -/
def Dev.lapAll (d : Dev) (n : Lane) : Bool := !d.srcOk n || d.b pFecLtx fForceFill

/-- The last slot of the next Lap is filler (R158). -/
def Dev.lapLast (d : Dev) (n : Lane) : Bool :=
  decide (((d.groupLanes n).map fun k => (d.cl k).fifo.length).foldl min 16 < d.lg pFecLtx (fFillThr (d.groupBase n)))

/-- The filler map of the next Lap (R149, R158). -/
def Dev.lapMap (d : Dev) (n : Lane) : BitVec 24 := if d.lapAll n then 0xFFFFFF else if d.lapLast n then 1 else 0

/-- What the registers of FEC_LTX show of a lane at the start of a Lap (R171). -/
def Dev.lapShown (d : Dev) (all last : Bool) (k : Lane) : Dev :=
  ((d.s pFecLtx (fFifoOcc k) (d.cl k).fifo.length).sb pFecLtx (fAllFiller k) all).sb pFecLtx (fFillerLast k) (all || last)

/-- Lane `k` of the group of lane `n` at the start of a Lap; `s` is the device when the Lap is decided (R149). -/
def Dev.lapBegun (s : Dev) (n : Lane) (lat : BitVec 24) (k : Lane) (d : Dev) : Dev :=
  (d.lapShown (s.lapAll n) (s.lapLast n) k).updCl k fun c => { c with
    pos := 0
    hdr := Machine.lapHeader (BitVec.ofNat 2 ((d.lapShown (s.lapAll n) (s.lapLast n) k).sizeCode n)) (BitVec.ofNat 3 (k.val - (s.groupBase n).val))
      (BitVec.ofNat 3 k.val) (s.cg (s.groupBase n)).lap (s.lapMap n)
      (s.srcOk n && !(d.lapShown (s.lapAll n) (s.lapLast n) k).b pFecLtx fForceFill) ((d.lapShown (s.lapAll n) (s.lapLast n) k).aligned n) lat }

/-- What a group takes over and shows at the start of a Lap: number, filler map, filler count, and the latency toward the line. -/
def Dev.lapGroup (s : Dev) (n : Lane) (lat : BitVec 24) (d : Dev) : Dev :=
  let base := s.groupBase n
  let d := d.updCg base fun g => { g with lap := (s.cg base).lap + 1, map := s.lapMap n, blk := none, latTx := !s.lapAll n }
  let d := d.add64 pFecLtx (0x100 + 0x10 * base.val) (ones (s.lapMap n).toNat 24)
  (d.wr pFramer (0x0C0 + 4 * base.val) (((s.cg base).lap.truncate 8 : BitVec 8) ++ lat)).sb pFramer (fLatValid base)
    (!s.lapAll n && (d.cg base).latRx)

theorem Dev.lapStart_eq (hseg : d.segmented n = true) : d.lapStart n lat =
    (d.lapGroup n lat (d.onLanes (d.groupLanes n) (d.lapBegun n lat))).raiseIf
      (d.lapAll n && !d.b pFecLtx (fAllFiller (d.groupBase n))) pFecLtx 1 :=
  if_neg (by simp [hseg])

/-- The registers that the start of a Lap writes. -/
abbrev lapStartRegs (base : Lane) : List (Nat × Nat) :=
  (pFecLtx, 0x044) :: regsOf pFecLtx ([0x100 + 0x10 * base.val, 0x104 + 0x10 * base.val] ++ regRun 0x080 8) ++
    regsOf pFramer [0x0C0 + 4 * base.val, 0x0A0 + 4 * base.val]

theorem mem_lapStartRegs (base : Lane) : (pFecLtx, 0x100 + 0x10 * base.val) ∈ lapStartRegs base ∧
    (pFecLtx, 0x100 + 0x10 * base.val + 4) ∈ lapStartRegs base ∧ (pFramer, 0x0C0 + 4 * base.val) ∈ lapStartRegs base ∧
    (pFramer, 0x0A0 + 4 * base.val) ∈ lapStartRegs base := by
  decide +revert

theorem mem_lapStartRegs_fifo (base k : Lane) : (pFecLtx, 0x080 + 4 * k.val) ∈ lapStartRegs base :=
  .tail _ (List.mem_append_left _ (mem_regsOf.mpr ⟨rfl, List.mem_append_right _ (mem_regRun.mpr ⟨k.val, k.isLt, rfl⟩)⟩))

theorem CodeKept.lapBegun {s : Dev} {base : Lane} (k : CodeKept (lapStartRegs base) ev d e) (m : Lane) :
    CodeKept (lapStartRegs base) ev d (s.lapBegun n lat m e) := by
  have hlt := laneReg_lt m (b := 0x080) (by decide)
  have hne := laneReg_ne m (b := 0x080) (by decide)
  have k1 : CodeKept (lapStartRegs base) ev d (e.s pFecLtx (fFifoOcc m) (e.cl m).fifo.length) :=
    DevKept.s (f := fFifoOcc m) k _ (mem_lapStartRegs_fifo base m) hlt hne
  have k2 : CodeKept (lapStartRegs base) ev d (e.lapShown (s.lapAll n) (s.lapLast n) m) :=
    DevKept.sb (f := fFillerLast m) (DevKept.sb (f := fAllFiller m) k1 _ (.head _) (by simp [fAllFiller]) (by simp [fAllFiller])) _ (.head _)
      (by simp [fFillerLast]) (by simp [fFillerLast])
  exact k2.updCl m _

/-- The count of filler slots of a group (R171). -/
theorem fillerCount_block (base : Lane) : CounterBlock (0x100 + 0x10 * base.val) 8 := ⟨by decide +revert, by decide +revert⟩

theorem CodeKept.lapGroup {s : Dev} (k : CodeKept (lapStartRegs (s.groupBase n)) ev d e) :
    CodeKept (lapStartRegs (s.groupBase n)) ev d (s.lapGroup n lat e) := by
  have k1 := k.updCg (s.groupBase n) fun g =>
    { g with lap := (s.cg (s.groupBase n)).lap + 1, map := s.lapMap n, blk := none, latTx := !s.lapAll n }
  obtain ⟨hfill, hfill', hlat, hvalid⟩ := mem_lapStartRegs (s.groupBase n)
  have k2 := DevKept.counted (p := pFecLtx) k1 (fillerCount_block (s.groupBase n)) (x := 0) (by decide) (ones (s.lapMap n).toNat 24)
    hfill hfill'
  exact (k2.wr (p := pFramer) _ hlat (laneReg_lt _ (by decide)) (laneReg_ne _ (by decide))).sb (f := fLatValid (s.groupBase n)) _ hvalid
    (laneReg_lt _ (by decide)) (laneReg_ne _ (by decide))

/-- Every lane of the group stands at the Lap once it has begun on each. -/
theorem Dev.lapBegun_atLap (s : Dev) (n : Lane) (lat : BitVec 24) : ∀ k ∈ s.groupLanes n,
    ((s.onLanes (s.groupLanes n) (s.lapBegun n lat)).cl k).AtLap (s.cg (s.groupBase n)).lap (s.lapMap n) := by
  refine foldl_lanes (P := fun k d => (d.cl k).AtLap (s.cg (s.groupBase n)).lap (s.lapMap n)) (fun k d => ?_) (fun k m d hm h => ?_) _ s
  · have hlane := Dev.cl_updCl_same (d.lapShown (s.lapAll n) (s.lapLast n) k) k
    exact atLap_of_header (congrArg CodeLane.pos (hlane _)) (congrArg CodeLane.hdr (hlane _))
  · rw [Dev.lapBegun, Dev.cl_updCl_other _ hm.symm]
    exact h

/-- The device at the start of a Lap, before its event. -/
def Dev.lapStarted (s : Dev) (n : Lane) (lat : BitVec 24) : Dev := s.lapGroup n lat (s.onLanes (s.groupLanes n) (s.lapBegun n lat))

theorem Dev.lapStarted_kept (s : Dev) (n : Lane) (lat : BitVec 24) (ev : List (Nat × Nat)) :
    CodeKept (lapStartRegs (s.groupBase n)) ev s (s.lapStarted n lat) :=
  CodeKept.lapGroup (CodeKept.foldl (fun _ m k => CodeKept.lapBegun k m) _ (DevKept.refl _))

theorem Dev.lapGroup_code (s : Dev) (n : Lane) (lat : BitVec 24) (d : Dev) : (s.lapGroup n lat d).code = (d.updCg (s.groupBase n) fun g =>
    { g with lap := (s.cg (s.groupBase n)).lap + 1, map := s.lapMap n, blk := none, latTx := !s.lapAll n }).code := rfl

theorem Dev.lapStarted_group (s : Dev) (n : Lane) (lat : BitVec 24) :
    ((s.lapStarted n lat).cg (s.groupBase n)).lap = (s.cg (s.groupBase n)).lap + 1 ∧
    ((s.lapStarted n lat).cg (s.groupBase n)).map = s.lapMap n := by
  have hgroup := congrArg (·.groups.get (s.groupBase n)) (s.lapGroup_code n lat (s.onLanes (s.groupLanes n) (s.lapBegun n lat)))
  have hset := hgroup.trans (Dev.cg_updCg_same _ _ _)
  exact ⟨congrArg CodeGroup.lap hset, congrArg CodeGroup.map hset⟩

theorem Dev.lapStarted_atLap (s : Dev) (n : Lane) (lat : BitVec 24) : ∀ k ∈ s.groupLanes n,
    ((s.lapStarted n lat).cl k).AtLap (s.cg (s.groupBase n)).lap (s.lapMap n) := fun k hk => by
  have hlane : (s.lapStarted n lat).cl k = (s.onLanes (s.groupLanes n) (s.lapBegun n lat)).cl k :=
    congrArg (·.lanes.get k) (s.lapGroup_code n lat (s.onLanes (s.groupLanes n) (s.lapBegun n lat)))
  rw [hlane]
  exact s.lapBegun_atLap n lat k hk

end

/-- LAP_START of a Segmented group. -/
theorem lapStart_begins {s : State} {n : Lane} {lat : BitVec 24} (hc : s.calm) (hr : s.dev.runs pFecLtx) (hseg : s.dev.segmented n = true) :
    Yields (exec (.lapStart n lat) s) fun t =>
      (t.dev.cg (s.dev.groupBase n)).lap = (s.dev.cg (s.dev.groupBase n)).lap + 1 ∧
      (t.dev.cg (s.dev.groupBase n)).map = s.dev.lapMap n ∧
      (∀ k ∈ s.dev.groupLanes n, (t.dev.cl k).AtLap (s.dev.cg (s.dev.groupBase n)).lap (s.dev.lapMap n)) ∧
      t.dev.evt pFecLtx 1 =
        (s.dev.evt pFecLtx 1 || (s.dev.lapAll n && !s.dev.b pFecLtx (fAllFiller (s.dev.groupBase n)))) ∧
      Kept s t { s.dev with code := t.dev.code } (lapStartRegs (s.dev.groupBase n)) [(pFecLtx, 1)] := by
  have hs := Dev.signals_fecLtx hr.powered
  have kg := s.dev.lapStarted_kept n lat
  have hatLap := s.dev.lapStarted_atLap n lat
  obtain ⟨hlap, hmap⟩ := s.dev.lapStarted_group n lat
  have he : s.dev.lapStart n lat = (s.dev.lapStarted n lat).raiseIf
      (s.dev.lapAll n && !s.dev.b pFecLtx (fAllFiller (s.dev.groupBase n))) pFecLtx 1 := Dev.lapStart_eq hseg
  generalize s.dev.lapStarted n lat = e at kg hatLap hlap hmap he
  refine ((kg [(pFecLtx, 1)]).raiseIf _ (.head _)).yieldsOn hc hr (f := (·.lapStart n lat)) he rfl
    (by simp [regsOf, pTrial, pFecLtx, pFramer]) fun t hset kept => ?_
  have hcode : t.dev.code = e.code := kept.code.trans (Dev.raiseIf_code _ _ _ _)
  have hlane : ∀ k, t.dev.cl k = e.cl k := fun k => congrArg (·.lanes.get k) hcode
  have hgroup : ∀ k, t.dev.cg k = e.cg k := fun k => congrArg (·.groups.get k) hcode
  refine ⟨(congrArg CodeGroup.lap (hgroup _)).trans hlap, (congrArg CodeGroup.map (hgroup _)).trans hmap, fun k hk => ?_, ?_, ?_⟩
  · rw [hlane]
    exact hatLap k hk
  · rw [hset.evt _ _ hs.not_three, (hs.congr (kg []).offPages).raiseIf (by decide), (kg []).events _ _ List.not_mem_nil hs.page]
  · rw [kept.code]
    exact kept

end Sys2Proof.Machine
end

section
/-! Lap headers received: the marker, Lap lock, and what a valid header gives, and O23 (R149, R161, R163, R165 to R167). -/

open Sys2Proof Sys2Proof.Machine

namespace Sys2Proof.Machine

section
variable {d e : Dev} {ex ev : List (Nat × Nat)} {n : Lane} {h : BitVec 480} {arrival : Int} {latRx : BitVec 24}

/-- The counters of headers stand above the registers of the lanes and of the groups (R171). -/
theorem laneReg_lt_cFramer : ∀ n m : Lane, 0x080 + 4 * n.val < cFramer m := by decide

/-- A field of a lane's register holds no counter. -/
theorem Dev.cFramer_s (d : Dev) (p v : Nat) {q x : Nat} {f : Fld} {n : Lane} (hf : f.off = 0x080 + 4 * n.val) (hx : x + 8 ≤ 0x20) :
    (d.s p f v).rd64 q (cFramer n + x) = d.rd64 q (cFramer n + x) := by
  have hlt : f.off < 4096 := hf ▸ laneReg_lt n (by decide)
  have hoff : f.off < cFramer n + x := hf ▸ Nat.lt_add_right x (laneReg_lt_cFramer n n)
  have ho := (cFramer_block n).lt hx
  exact Dev.rd64_eq (d.rd_s_off f v hlt (Nat.lt_of_add_right_lt ho) hoff.ne') (d.rd_s_off f v hlt ho (Nat.lt_add_right 4 hoff).ne')

/-! Outside Lap lock, and in Lap lock without a valid header -/

theorem Dev.lapHeader_first (hseg : d.segmented n = true) (hl : (d.cl n).lapLock = false) (hcw : d.cwLocked n = true)
    (hm : markerMatches h = true) {spaced : Bool} (hf : ((d.cl n).firstMatch && spaced) = false) :
    d.lapHeader n h spaced arrival latRx = d.updCl n fun c => { c with firstMatch := true } :=
  (if_neg (by simp [hseg])).trans ((if_neg (by simp [hl])).trans ((if_pos (by simp [hcw, hm])).trans (if_neg (by simp [hf]))))

theorem Dev.lapHeader_second (hseg : d.segmented n = true) (hl : (d.cl n).lapLock = false) (hf : (d.cl n).firstMatch = true)
    (hcw : d.cwLocked n = true) (hm : markerMatches h = true) (hcrc : hdrCrcOk h = true) : d.lapHeader n h true arrival latRx =
      (((d.updCl n fun c => { c with lapLock := true, miss := 0 }).raise pFramer 0).add64 pFramer (cFramer n) 1).lapFields n h arrival
        latRx :=
  (if_neg (by simp [hseg])).trans ((if_neg (by simp [hl])).trans ((if_pos (by simp [hcw, hm])).trans
    ((if_pos (by simp [hf])).trans (if_pos hcrc))))

theorem Dev.lapHeader_badCrc (hseg : d.segmented n = true) (hl : (d.cl n).lapLock = true) (hcw : d.cwLocked n = true)
    (hm : markerMatches h = true) (hcrc : hdrCrcOk h = false) : d.lapHeader n h true arrival latRx =
      ((((d.updCl n fun c => { c with miss := 0 }).add64 pFramer (cFramer n) 1).s pFramer (fLapState n) 2).add64 pFramer
        (cFramer n + 0x10) 1).raise pFramer 6 :=
  (if_neg (by simp [hseg])).trans ((if_pos hl).trans ((if_pos (by simp [hm])).trans ((if_pos hcw).trans (if_neg (by simp [hcrc])))))

theorem Dev.lapHeader_miss (hseg : d.segmented n = true) (hl : (d.cl n).lapLock = true) (hm : markerMatches h = false)
    (hmiss : (d.cl n).miss < 3) : d.lapHeader n h true arrival latRx = d.updCl n fun c => { c with miss := c.miss + 1 } := by
  have hfew : ((d.updCl n fun c => { c with miss := c.miss + 1 }).cl n).miss < 4 := by
    rw [Dev.cl_updCl_same]
    exact Nat.succ_lt_succ hmiss
  exact (if_neg (by simp [hseg])).trans ((if_pos hl).trans ((if_neg (by simp [hm])).trans ((if_pos rfl).trans (if_pos hfew))))

end

section
variable {s : State} {n : Lane} {h : BitVec 480} {arrival : Int} {latRx : BitVec 24}

/-- LAP_HEADER_RECEIVED with a match and a bad crc, in Lap lock. -/
theorem lapHeader_badCrc_counts (hc : s.calm) (hr : s.dev.runs pFramer) (hseg : s.dev.segmented n = true)
    (hl : (s.dev.cl n).lapLock = true) (hcw : s.dev.cwLocked n = true) (hm : markerMatches h = true) (hcrc : hdrCrcOk h = false) :
    Yields (exec (.lapHeaderReceived n h true arrival latRx) s) fun t =>
      t.dev.rd64 pFramer (cFramer n) = s.dev.rd64 pFramer (cFramer n) + 1 ∧
      t.dev.rd64 pFramer (cFramer n + 0x10) = s.dev.rd64 pFramer (cFramer n + 0x10) + 1 ∧
      t.dev.evt pFramer 6 = true ∧
      Kept s t (s.dev.updCl n fun c => { c with miss := 0 }) ((pFramer, 0x080 + 4 * n.val) :: regsOf pFramer [cFramer n, cFramer n + 4,
        cFramer n + 0x10, cFramer n + 0x14]) [(pFramer, 6)] := by
  have hb := cFramer_block n
  have hs := Dev.signals_framer hr.powered
  have k1 := ((DevKept.refl (ex := (pFramer, 0x080 + 4 * n.val) :: regsOf pFramer [cFramer n, cFramer n + 4, cFramer n + 0x10,
    cFramer n + 0x14]) (ev := [(pFramer, 6)]) s.dev).updCl n fun c => { c with miss := 0 }).counted hb (p := pFramer) (x := 0) (by decide) 1
    (.tail _ (.head _)) (.tail _ (.tail _ (.head _)))
  have k2 := k1.s (f := fLapState n) 2 (.head _) (laneReg_lt n (by decide)) (laneReg_ne n (by decide))
  have k3 := k2.counted hb (p := pFramer) (x := 0x10) (by decide) 1 (.tail _ (.tail _ (.tail _ (.head _))))
    (.tail _ (.tail _ (.tail _ (.tail _ (.head _)))))
  refine (k3.raise (.head _)).yieldsOn hc hr (f := (·.lapHeader n h true arrival latRx)) (Dev.lapHeader_badCrc hseg hl hcw hm hcrc) rfl
    (by simp [regsOf, pTrial, pFramer]) fun t hset kept => ⟨?_, ?_, ?_, kept⟩
  · refine (hb.settled hset _ (x := 0) (by decide)).trans ((hb.raise _ _ _ _ (x := 0) (by decide)).trans ?_)
    refine (hb.other _ (y := 0) (by decide) (by decide) (by decide) 1).trans ((Dev.cFramer_s _ _ _ rfl (x := 0) (by decide)).trans ?_)
    exact hb.same _ _ (x := 0) (by decide) 1
  · refine (hb.settled hset _ (by decide)).trans ((hb.raise _ _ _ _ (by decide)).trans ((hb.same _ _ (by decide) 1).trans ?_))
    exact congrArg (· + 1) ((Dev.cFramer_s _ _ _ rfl (by decide)).trans (hb.other _ (x := 0) (by decide) (by decide) (by decide) 1))
  · exact (hset.evt _ _ hs.not_three).trans ((hs.congr k3.offPages).raise (by decide))

end

/-! What a step of a header leaves of the lanes -/

/-- From `d` to `e` the coding path changes in its groups only. -/
abbrev LanesKept (ex ev : List (Nat × Nat)) (d e : Dev) : Prop :=
  DevKept ex ev d { d with code := { d.code with groups := e.code.groups } } e

section
variable {a b c d e : Dev} {ex ev ex' ev' : List (Nat × Nat)} {n : Lane}

theorem LanesKept.updCg (k : LanesKept ex ev d e) (n : Lane) (f : CodeGroup → CodeGroup) : LanesKept ex ev d (e.updCg n f) := by
  refine ⟨k.regs, k.events, ?_⟩
  have hlanes : (e.updCg n f).code = { d.code with groups := (e.updCg n f).code.groups } := by
    unfold Dev.updCg
    rw [k.code]
  have hk := congrArg (fun x : Dev => { x with code := (e.updCg n f).code }) k.hidden
  exact hk.trans (congrArg (fun x : CodeH => { d with code := x, regs := e.regs, ecc := e.ecc, ref := e.ref, faultN := e.faultN }) hlanes)

theorem LanesKept.raise (k : LanesKept ex ev d e) {p src : Nat} (hv : (p, src) ∈ ev) : LanesKept ex ev d (e.raise p src) := by
  unfold LanesKept
  rw [(EvtFrame.raise e p src false).code]
  exact DevKept.raise k hv

theorem LanesKept.raiseIf (k : LanesKept ex ev d e) (c : Bool) {p src : Nat} (hv : (p, src) ∈ ev) :
    LanesKept ex ev d (e.raiseIf c p src) := by
  unfold Dev.raiseIf
  split
  · exact k.raise hv
  · exact k

theorem LanesKept.foldl {α : Type} {f : Dev → α → Dev} (hf : ∀ e a, LanesKept ex ev d e → LanesKept ex ev d (f e a)) (l : List α)
    (k : LanesKept ex ev d e) : LanesKept ex ev d (l.foldl f e) :=
  List.foldlRecOn (motive := LanesKept ex ev d) l f k fun e ke a _ => hf e a ke

theorem LanesKept.cl (k : LanesKept ex ev d e) (n : Lane) : e.cl n = d.cl n := DevKept.cl k n

theorem LanesKept.codeKept (k : LanesKept ex ev d e) (hx : ex ⊆ ex') (hv : ev ⊆ ev') : CodeKept ex' ev' d e := by
  refine ⟨fun p off h1 h2 h3 => k.regs p off h1 h2 fun hm => h3 (hx hm), fun p src h1 h2 => k.events p src (fun hm => h1 (hv hm)) h2, ?_⟩
  rw [k.code]
  exact k.hidden

theorem CodeKept.trans (h : CodeKept ex ev a b) (k : CodeKept ex ev b c) : CodeKept ex ev a c := by
  refine ⟨fun p off h1 h2 h3 => (k.regs p off h1 h2 h3).trans (h.regs p off h1 h2 h3),
    fun p src h1 h2 => (k.events p src h1 h2).trans (h.events p src h1 h2), ?_⟩
  exact Kept.hidden_trans (congrArg (fun x : Dev => { x with code := c.code }) h.hidden) k.hidden

/-! Skew, alignment and Local Fault -/

/-- The skew fields stand in the upper half of the LANE_STAT registers (R171). -/
theorem Dev.skewUpdate_g (d : Dev) (n : Lane) (q : Nat) {f : Fld} (hlt : f.off < 4096) (hlow : f.lo + f.w ≤ 16) :
    (d.skewUpdate n).g q f = d.g q f := by
  have hap : ∀ j : Lane, f.apart (fLapSkew j) := fun j =>
    ⟨hlt, laneReg_lt j (by decide), by simp [fLapSkew], fun _ => .inl hlow⟩
  unfold Dev.skewUpdate
  dsimp only
  split
  · rfl
  · exact List.foldlRecOn (motive := fun e : Dev => e.g q f = d.g q f) _ _ rfl fun e he j _ => (Dev.g_s_apart (hap j) e _ _ _).trans he

theorem LanesKept.skewUpdate (k : LanesKept ex ev d e) (hx : regsOf pFramer (regRun 0x080 8) ⊆ ex) (n : Lane) :
    LanesKept ex ev d (e.skewUpdate n) := by
  unfold Dev.skewUpdate
  dsimp only
  split
  · exact k
  · exact LanesKept.foldl (fun e j ke => DevKept.s (f := fLapSkew j) ke _ (hx (mem_run j.val j.isLt))
      (laneReg_lt j (by decide)) (laneReg_ne j (by decide))) _ k

/-- The registers that alignment, Local Fault, the latency and the filler count of a group write. -/
abbrev lapGroupRegs : List (Nat × Nat) :=
  (pFecHtx, 0x060) :: regsOf pFramer (regRun 0x0A0 24) ++ lanes.flatMap fun m => [(pFramer, cFramer m + 8), (pFramer, cFramer m + 0xC)]

/-- The events of alignment and of Local Fault. -/
abbrev lapGroupEvents : List (Nat × Nat) := [(pFramer, 2), (pFramer, 3), (pFramer, 4), (pFecHtx, 0), (pFecHtx, 1)]

/-- What a group shows, and its count of filler slots. -/
theorem mem_lapGroupRegs (base : Lane) : (pFramer, 0x0A0 + 4 * base.val) ∈ lapGroupRegs ∧ (pFramer, 0x0E0 + 4 * base.val) ∈ lapGroupRegs ∧
    (pFramer, cFramer base + 8) ∈ lapGroupRegs ∧ (pFramer, cFramer base + 8 + 4) ∈ lapGroupRegs := by
  decide +revert

/-- Neither the registers of the lanes nor the counters of headers are among them. -/
theorem notMem_lapGroupRegs (n : Lane) : (pFramer, 0x080 + 4 * n.val) ∉ lapGroupRegs ∧ (pFramer, cFramer n) ∉ lapGroupRegs ∧
    (pFramer, cFramer n + 4) ∉ lapGroupRegs := by
  decide +revert

section
variable (hx : lapGroupRegs ⊆ ex) (hv : lapGroupEvents ⊆ ev)
include hx hv

theorem LanesKept.lfUpdate (k : LanesKept ex ev d e) (n : Lane) : LanesKept ex ev d (e.lfUpdate n) := by
  have kf : ∀ on : Bool, LanesKept ex ev d (e.onLanes (e.groupLanes n) fun j d => d.sb pFecHtx (fLf j) on) := fun on =>
    LanesKept.foldl (fun e j ke => DevKept.sb (f := fLf j) ke on (hx (.head _)) (by simp [fLf]) (by simp [fLf])) _ k
  unfold Dev.lfUpdate
  dsimp only
  split
  · exact kf _
  · refine (kf _).raise (hv ?_)
    split <;> simp

omit hv in
theorem LanesKept.groupStatus (k : LanesKept ex ev d e) {f : Fld} (base : Lane) (hf : f.off = 0x0A0 + 4 * base.val) (v : Nat) :
    LanesKept ex ev d (e.s pFramer f v) :=
  DevKept.s (f := f) k v (hx (hf ▸ (mem_lapGroupRegs base).1)) (hf ▸ laneReg_lt base (by decide)) (hf ▸ laneReg_ne base (by decide))

theorem LanesKept.alignUpdate (k : LanesKept ex ev d e) (n : Lane) (slipped : Bool) : LanesKept ex ev d (e.alignUpdate n slipped) := by
  unfold Dev.alignUpdate
  dsimp only
  refine LanesKept.lfUpdate hx hv ?_ n
  have kb := (k.raiseIf (!e.skewInRange n && !(e.cg (e.groupBase n)).skewBad) (hv (by simp) : (pFramer, 4) ∈ ev)).updCg (e.groupBase n)
    fun g => { g with skewBad := !e.skewInRange n }
  have ka : ∀ on, LanesKept ex ev d (Dev.sb _ pFramer (fAligned (e.groupBase n)) on) := fun on =>
    LanesKept.groupStatus hx kb (f := fAligned (e.groupBase n)) _ rfl _
  split
  · exact (ka _).raise (hv (by simp))
  · split
    · exact (ka _).raise (hv (by simp))
    · exact kb

end

/-! A valid header -/

/-- Whether header `h` says that its lane is the one at `n`'s place of the group (R149). -/
def Dev.lapIdOk (d : Dev) (n : Lane) (h : BitVec 480) : Bool :=
  hdrField h 64 65 == d.sizeCode n && hdrField h 66 68 == n.val - (d.groupBase n).val

/-- The place that a header says, on the page. -/
def Dev.lapPlaced (d : Dev) (n : Lane) (far : Nat) (idOk : Bool) : Dev :=
  (d.s pFramer (fFarIdx n) far).sb pFramer (fIdOk n) idOk

/-- The place and the phase of a header, in the lane's hidden part. -/
def CodeLane.placed (c : CodeLane) (idOk : Bool) (phase : Int) : CodeLane := { c with idBad := !idOk, phase := phase }

/-- What a valid header says of its lane: identity and phase, with the skew not yet known (R149, R167). -/
def Dev.lapIdentified (d : Dev) (n : Lane) (h : BitVec 480) (arrival : Int) : Dev :=
  let idOk := d.lapIdOk n h
  let d := d.lapPlaced n (hdrField h 66 68) idOk
  let d := d.raiseIf (!idOk && !(d.cl n).idBad) pFramer 5
  (d.updCl n (·.placed idOk (arrival - 69888 * (hdrField h 72 103 : Nat)))).s pFramer (fLapState n) 2

/-- What a valid header says to its group: the far end's state, the filler slots of its Lap and the latency (R161, R165). -/
def Dev.lapShared (d : Dev) (base n : Lane) (h : BitVec 480) (latRx : BitVec 24) : Dev :=
  let lap := hdrField h 72 103
  let d := (d.s pFramer (fFarSrcOk base) (hdrField h 128 128)).s pFramer (fFarRxOk base) (hdrField h 129 129)
  let d := if (d.cg base).fillLap = some (BitVec.ofNat 32 lap) then d else
    (d.add64 pFramer (cFramer base + 8) (ones (hdrField h 104 127) 24)).updCg base fun g =>
      { g with fillLap := some (BitVec.ofNat 32 lap), latRx := !(hdrField h 104 127).testBit 23 }
  d.when (n == base) fun d =>
    (d.wr pFramer (0x0E0 + 4 * base.val) (BitVec.ofNat 8 lap ++ latRx)).sb pFramer (fLatValid base)
      ((d.cg base).latTx && (d.cg base).latRx)

theorem Dev.lapFields_eq (d : Dev) (n : Lane) (h : BitVec 480) (arrival : Int) (latRx : BitVec 24) : ∃ slipped,
    d.lapFields n h arrival latRx =
      (((d.lapIdentified n h arrival).skewUpdate n).lapShared (d.groupBase n) n h latRx).alignUpdate n slipped := ⟨_, rfl⟩

theorem LanesKept.lapShared (k : LanesKept ex ev d e) (hx : lapGroupRegs ⊆ ex) (base n : Lane) (h : BitVec 480)
    (latRx : BitVec 24) : LanesKept ex ev d (e.lapShared base n h latRx) := by
  obtain ⟨-, hlat, hfill, hfill'⟩ := mem_lapGroupRegs base
  have kfar := LanesKept.groupStatus hx (LanesKept.groupStatus hx k (f := fFarSrcOk base) base rfl (hdrField h 128 128))
    (f := fFarRxOk base) base rfl (hdrField h 129 129)
  unfold Dev.lapShared
  dsimp only
  generalize (e.s pFramer (fFarSrcOk base) (hdrField h 128 128)).s pFramer (fFarRxOk base) (hdrField h 129 129) = x at kfar ⊢
  have kfill : LanesKept ex ev d (if (x.cg base).fillLap = some (BitVec.ofNat 32 (hdrField h 72 103)) then x else
      (x.add64 pFramer (cFramer base + 8) (ones (hdrField h 104 127) 24)).updCg base fun g =>
        { g with fillLap := some (BitVec.ofNat 32 (hdrField h 72 103)), latRx := !(hdrField h 104 127).testBit 23 }) := by
    split
    · exact kfar
    · exact LanesKept.updCg (DevKept.counted kfar (cFramer_block base) (by decide) _ (hx hfill) (hx hfill')) base _
  generalize (if (x.cg base).fillLap = some (BitVec.ofNat 32 (hdrField h 72 103)) then x else _) = y at kfill ⊢
  unfold Dev.when
  split
  · exact LanesKept.groupStatus hx (DevKept.wr kfill _ (hx hlat) (laneReg_lt base (by decide)) (laneReg_ne base (by decide)))
      (f := fLatValid base) base rfl _
  · exact kfill

end

end Sys2Proof.Machine
end

section
/-! The header that gives Lap lock, and O23 (R149, R161, R165 to R167). -/

open Sys2Proof Sys2Proof.Machine

namespace Sys2Proof.Machine

/-! What is applied says the groups. -/

theorem Dev.sizeCode_congr {d e : Dev} (h : e.live = d.live) (n : Lane) : e.sizeCode n = d.sizeCode n := by
  rw [Dev.sizeCode, Dev.sizeCode, Dev.lrd, Dev.lrd, h]

theorem Dev.lapIdOk_congr {d e : Dev} (h : e.live = d.live) (n : Lane) (hd : BitVec 480) : e.lapIdOk n hd = d.lapIdOk n hd := by
  unfold Dev.lapIdOk Dev.groupBase Dev.groupSize
  rw [Dev.sizeCode_congr h]

/-- Lane `n` is in Lap lock after a valid header `h`, whose Lap began at `arrival`; `count` headers are counted (R166, R167). -/
structure Dev.InLap (d : Dev) (n : Lane) (h : BitVec 480) (arrival : Int) (idOk : Bool) (count : Long) : Prop where
  lock : (d.cl n).lapLock = true
  miss : (d.cl n).miss = 0
  phase : (d.cl n).phase = arrival - 69888 * (hdrField h 72 103 : Nat)
  event : d.evt pFramer 0 = true
  state : d.g pFramer (fLapState n) = 2
  farIdx : d.g pFramer (fFarIdx n) = hdrField h 66 68
  identity : d.b pFramer (fIdOk n) = idOk
  headers : d.rd64 pFramer (cFramer n) = count

/-- The registers and the events of a header on a lane outside Lap lock. -/
abbrev lapRegs : List (Nat × Nat) := (pFecHtx, 0x060) :: regsOf pFramer (regRun 0x080 160)

abbrev lapEvents : List (Nat × Nat) := (pFramer, 0) :: (pFramer, 5) :: lapGroupEvents

/-- The register of a lane and its count of headers. -/
theorem mem_lapRegs (n : Lane) : (pFramer, 0x080 + 4 * n.val) ∈ lapRegs ∧ (pFramer, cFramer n) ∈ lapRegs ∧
    (pFramer, cFramer n + 4) ∈ lapRegs := by
  decide +revert

theorem lapGroupRegs_subset : lapGroupRegs ⊆ lapRegs := by decide +kernel

theorem laneRegs_subset : regsOf pFramer (regRun 0x080 8) ⊆ lapRegs := by decide +kernel

theorem lapGroupEvents_subset : lapGroupEvents ⊆ lapEvents := fun _ hx => .tail _ (.tail _ hx)

section
variable {d e : Dev} {n : Lane} {h : BitVec 480} {arrival : Int} {idOk : Bool} {count : Long}

theorem Dev.InLap.congr (hd : d.InLap n h arrival idOk count) (hcl : e.cl n = d.cl n) (hv : e.evt pFramer 0 = d.evt pFramer 0)
    (hg : ∀ f : Fld, f.off = 0x080 + 4 * n.val → f.lo + f.w ≤ 16 → e.g pFramer f = d.g pFramer f)
    (hcnt : e.rd64 pFramer (cFramer n) = d.rd64 pFramer (cFramer n)) : e.InLap n h arrival idOk count where
  lock := (congrArg CodeLane.lapLock hcl).trans hd.lock
  miss := (congrArg CodeLane.miss hcl).trans hd.miss
  phase := (congrArg CodeLane.phase hcl).trans hd.phase
  event := hv.trans hd.event
  state := (hg (fLapState n) rfl (by simp [fLapState])).trans hd.state
  farIdx := (hg (fFarIdx n) rfl (by simp [fFarIdx])).trans hd.farIdx
  identity := (congrArg (· == 1) (hg (fIdOk n) rfl (by simp [fIdOk]))).trans hd.identity
  headers := hcnt.trans hd.headers

/-- What else a header says, to its group, leaves the lane as it is. -/
theorem Dev.InLap.kept (hd : d.InLap n h arrival idOk count) (k : LanesKept lapGroupRegs lapGroupEvents d e) :
    e.InLap n h arrival idOk count := by
  obtain ⟨hstat, hcnt, hcnt'⟩ := notMem_lapGroupRegs n
  have hb := cFramer_block n
  refine hd.congr (k.cl n) (k.events _ _ (by decide) (by decide)) (fun f hf _ => Dev.g_congr ?_) (Dev.rd64_eq ?_ ?_)
  · exact hf ▸ k.regs _ _ (laneReg_lt n (by decide)) (laneReg_ne n (by decide)) hstat
  · exact k.regs _ _ (Nat.lt_of_add_right_lt (hb.lt (x := 0) (by decide))) hb.above.ne' hcnt
  · exact k.regs _ _ (hb.lt (x := 0) (by decide)) (Nat.lt_add_right 4 hb.above).ne' hcnt'

theorem laneRegs_end_le (n : Lane) : 0x080 + 4 * 8 ≤ cFramer n := by decide +revert

/-- The skew stands beside what the lane shows. -/
theorem Dev.InLap.skewUpdate (hd : d.InLap n h arrival idOk count) : (d.skewUpdate n).InLap n h arrival idOk count := by
  have hb := cFramer_block n
  have k : LanesKept (regsOf pFramer (regRun 0x080 8)) [] d (d.skewUpdate n) := LanesKept.skewUpdate (DevKept.refl d) (fun _ => id) n
  have hbeyond := laneRegs_end_le n
  refine hd.congr (k.cl n) (k.events _ _ List.not_mem_nil (by decide))
    (fun f hf hlow => d.skewUpdate_g n _ (hf ▸ laneReg_lt n (by decide)) hlow) (Dev.rd64_eq ?_ ?_)
  · exact k.regs _ _ (Nat.lt_of_add_right_lt (hb.lt (x := 0) (by decide))) hb.above.ne' (not_mem_counters (.inr (.inr hbeyond)))
  · exact k.regs _ _ (hb.lt (x := 0) (by decide)) (Nat.lt_add_right 4 hb.above).ne'
      (not_mem_counters (.inr (.inr (Nat.le_add_right_of_le hbeyond))))

theorem Dev.InLap.settled (hd : d.InLap n h arrival idOk count) (hset : Settled d e) (hcl : e.cl n = d.cl n) :
    e.InLap n h arrival idOk count :=
  hd.congr hcl (hset.evt _ _ (by decide)) (fun f hf _ => hset.g _ f (hf ▸ laneReg_lt n (by decide)) (hf ▸ laneReg_ne n (by decide)))
    ((cFramer_block n).settled hset _ (x := 0) (by decide))

/-- What the page shows of a header's place. -/
theorem Dev.lapPlaced_fields (d : Dev) (n : Lane) {far : Nat} (idOk : Bool) (hfar : far < 2 ^ 3) :
    (d.lapPlaced n far idOk).g pFramer (fFarIdx n) = far ∧ (d.lapPlaced n far idOk).b pFramer (fIdOk n) = idOk ∧
    (d.lapPlaced n far idOk).evt pFramer 0 = d.evt pFramer 0 ∧
    (d.lapPlaced n far idOk).rd64 pFramer (cFramer n) = d.rd64 pFramer (cFramer n) := by
  have hlt := laneReg_lt n (b := 0x080) (by decide)
  have hne := laneReg_ne n (b := 0x080) (by decide)
  refine ⟨?_, Dev.b_sb_same _ _ _ _ (by simp [fIdOk]) rfl, (Dev.evt_wr _ _ _ _ hlt hne).trans (Dev.evt_wr _ _ _ _ hlt hne), ?_⟩
  · refine (Dev.g_s_apart ⟨hlt, hlt, by simp [fIdOk], fun _ => .inl (by simp [fFarIdx, fIdOk])⟩ _ _ _ _).trans ?_
    exact (Dev.g_s_same _ _ _ _ (by simp [fFarIdx])).trans (Nat.mod_eq_of_lt hfar)
  · exact (Dev.cFramer_s (f := fIdOk n) _ _ _ rfl (x := 0) (by decide)).trans
      (Dev.cFramer_s (f := fFarIdx n) _ _ _ rfl (x := 0) (by decide))

/-- A header in Lap lock says its lane's place. -/
theorem Dev.lapIdentified_inLap (hs : d.Signals pFramer 7) (hl : (d.cl n).lapLock = true) (hm : (d.cl n).miss = 0)
    (hv : d.evt pFramer 0 = true) :
    (d.lapIdentified n h arrival).InLap n h arrival (d.lapIdOk n h) (d.rd64 pFramer (cFramer n)) := by
  have hlt := laneReg_lt n (b := 0x080) (by decide)
  have hne := laneReg_ne n (b := 0x080) (by decide)
  unfold Dev.lapIdentified
  dsimp only
  generalize d.lapIdOk n h = idOk
  obtain ⟨hfar, hident, hevt, hcnt⟩ := d.lapPlaced_fields n (far := hdrField h 66 68) idOk (Nat.mod_lt _ (by decide))
  have hcl : (d.lapPlaced n (hdrField h 66 68) idOk).cl n = d.cl n := rfl
  have hsig : (d.lapPlaced n (hdrField h 66 68) idOk).Signals pFramer 7 := hs.congr rfl
  generalize d.lapPlaced n (hdrField h 66 68) idOk = x at hcl hsig hfar hident hevt hcnt
  generalize (!idOk && !(x.cl n).idBad) = new
  have hlane : (x.raiseIf new pFramer 5).cl n = d.cl n := (congrArg (·.lanes.get n) (Dev.raiseIf_code _ _ _ _)).trans hcl
  have hread : (x.raiseIf new pFramer 5).rd pFramer (0x080 + 4 * n.val) = x.rd pFramer (0x080 + 4 * n.val) :=
    Dev.rd_raiseIf _ _ _ _ _ _ hlt hne
  have hcount := x.rd64_raiseIf new pFramer 5 pFramer ((cFramer_block n).lt (x := 0) (by decide)) (cFramer_block n).above
  have hevent := hsig.raiseIf_other (x := 0) (src := 5) (by decide) new
  generalize x.raiseIf new pFramer 5 = y at hlane hread hcount hevent
  have happart : ∀ f : Fld, f.off = 0x080 + 4 * n.val → 2 ≤ f.lo → f.apart (fLapState n) := fun f hf hlo =>
    ⟨hf ▸ hlt, hlt, by simp [fLapState], fun _ => .inr hlo⟩
  generalize hph : arrival - 69888 * (hdrField h 72 103 : Nat) = phase
  have hcl' : ((y.updCl n (·.placed idOk phase)).s pFramer (fLapState n) 2).cl n = (d.cl n).placed idOk phase := by
    rw [← hlane]
    exact y.cl_updCl_same n (·.placed idOk phase)
  exact {
    lock := (congrArg CodeLane.lapLock hcl').trans hl
    miss := (congrArg CodeLane.miss hcl').trans hm
    phase := (congrArg CodeLane.phase hcl').trans hph.symm
    event := (Dev.evt_wr _ _ _ _ hlt hne).trans (hevent.trans (hevt.trans hv))
    state := Dev.g_s_same _ _ _ _ (by simp [fLapState])
    farIdx := (Dev.g_s_apart (happart _ rfl (by simp [fFarIdx])) _ _ _ _).trans ((Dev.g_congr (f := fFarIdx n) hread).trans hfar)
    identity := (Dev.b_s_apart (happart _ rfl (by simp [fIdOk])) _ _ _ _).trans ((Dev.b_congr (f := fIdOk n) hread).trans hident)
    headers := (Dev.cFramer_s (f := fLapState n) _ _ _ rfl (x := 0) (by decide)).trans (hcount.trans hcnt) }

theorem Dev.lapIdentified_kept (d : Dev) (n : Lane) (h : BitVec 480) (arrival : Int) :
    CodeKept lapRegs lapEvents d (d.lapIdentified n h arrival) := by
  have hlt := laneReg_lt n (b := 0x080) (by decide)
  have hne := laneReg_ne n (b := 0x080) (by decide)
  have hreg := (mem_lapRegs n).1
  have k : CodeKept lapRegs lapEvents d d := DevKept.refl d
  have kplaced : CodeKept lapRegs lapEvents d (d.lapPlaced n (hdrField h 66 68) (d.lapIdOk n h)) :=
    DevKept.sb (f := fIdOk n) (DevKept.s (f := fFarIdx n) k _ hreg hlt hne) _ hreg hlt hne
  unfold Dev.lapIdentified
  dsimp only
  have klane := (kplaced.raiseIf (!d.lapIdOk n h && !((d.lapPlaced n (hdrField h 66 68) (d.lapIdOk n h)).cl n).idBad)
    (.tail _ (.head _) : (pFramer, 5) ∈ lapEvents)).updCl n (·.placed (d.lapIdOk n h) (arrival - 69888 * (hdrField h 72 103 : Nat)))
  exact DevKept.s (f := fLapState n) klane 2 hreg hlt hne

/-- What a valid header says leaves nothing else but the groups' hidden parts free. -/
theorem Dev.lapFields_kept (d : Dev) (n : Lane) (h : BitVec 480) (arrival : Int) (latRx : BitVec 24) :
    CodeKept lapRegs lapEvents d (d.lapFields n h arrival latRx) := by
  obtain ⟨slipped, he⟩ := d.lapFields_eq n h arrival latRx
  have kskew : LanesKept lapRegs lapEvents (d.lapIdentified n h arrival) ((d.lapIdentified n h arrival).skewUpdate n) :=
    LanesKept.skewUpdate (DevKept.refl _) laneRegs_subset n
  have kgroup := LanesKept.alignUpdate lapGroupRegs_subset lapGroupEvents_subset
    (kskew.lapShared lapGroupRegs_subset (d.groupBase n) n h latRx) n slipped
  rw [he]
  exact (d.lapIdentified_kept n h arrival).trans (kgroup.codeKept (fun _ => id) fun _ => id)

theorem Dev.lapFields_inLap (hs : d.Signals pFramer 7) (hl : (d.cl n).lapLock = true) (hm : (d.cl n).miss = 0)
    (hv : d.evt pFramer 0 = true) (latRx : BitVec 24) : (d.lapFields n h arrival latRx).InLap n h arrival
      (d.lapIdOk n h) (d.rd64 pFramer (cFramer n)) := by
  obtain ⟨slipped, he⟩ := d.lapFields_eq n h arrival latRx
  rw [he]
  refine (Dev.lapIdentified_inLap hs hl hm hv).skewUpdate.kept ?_
  exact LanesKept.alignUpdate (fun _ => id) (fun _ => id) (LanesKept.lapShared (DevKept.refl _) (fun _ => id) _ n h latRx) n slipped

end

section
variable {s : State} {n : Lane} {h : BitVec 480} {arrival : Int} {latRx : BitVec 24}

/-- The lane's hidden part, event and count at the second match. -/
def Dev.lapLocked (d : Dev) (n : Lane) : Dev :=
  ((d.updCl n fun c => { c with lapLock := true, miss := 0 }).raise pFramer 0).add64 pFramer (cFramer n) 1

theorem Dev.lapLocked_kept (d : Dev) (n : Lane) : CodeKept lapRegs lapEvents d (d.lapLocked n) := by
  have k : CodeKept lapRegs lapEvents d d := DevKept.refl d
  exact DevKept.counted ((k.updCl n _).raise (.head _)) (cFramer_block n) (x := 0) (by decide) 1 (mem_lapRegs n).2.1 (mem_lapRegs n).2.2

theorem Dev.lapLocked_lane (d : Dev) (n : Lane) : ((d.lapLocked n).cl n).lapLock = true ∧ ((d.lapLocked n).cl n).miss = 0 := by
  have hcl : (d.lapLocked n).cl n = (d.updCl n fun c => { c with lapLock := true, miss := 0 }).cl n :=
    congrArg (·.lanes.get n) (EvtFrame.raise _ pFramer 0 false).code
  rw [hcl, Dev.cl_updCl_same]
  exact ⟨rfl, rfl⟩

theorem Dev.lapLocked_evt {d : Dev} (n : Lane) (hs : d.Signals pFramer 7) : (d.lapLocked n).evt pFramer 0 = true := by
  have hs' : (d.updCl n fun c => { c with lapLock := true, miss := 0 }).Signals pFramer 7 := hs.congr rfl
  have hraise := hs'.raise (src := 0) (by decide)
  unfold Dev.lapLocked
  generalize (d.updCl n fun c => { c with lapLock := true, miss := 0 }).raise pFramer 0 = e at hraise
  have hb := cFramer_block n
  have hlt := hb.lt (x := 0) (by decide)
  exact (Dev.evt_wr _ _ _ _ hlt (Nat.lt_add_right 4 hb.above).ne').trans
    ((Dev.evt_wr _ _ _ _ (Nat.lt_of_add_right_lt hlt) hb.above.ne').trans hraise)

theorem Dev.lapLocked_headers (d : Dev) (n : Lane) : (d.lapLocked n).rd64 pFramer (cFramer n) = d.rd64 pFramer (cFramer n) + 1 :=
  ((cFramer_block n).same _ _ (x := 0) (by decide) 1).trans (congrArg (· + 1) ((cFramer_block n).raise _ _ _ _ (x := 0) (by decide)))

/-- The second match gives Lap lock. -/
theorem lapHeader_second_locks (hc : s.calm) (hr : s.dev.runs pFramer) (hseg : s.dev.segmented n = true)
    (hl : (s.dev.cl n).lapLock = false) (hf : (s.dev.cl n).firstMatch = true) (hcw : s.dev.cwLocked n = true)
    (hm : markerMatches h = true) (hcrc : hdrCrcOk h = true) :
    Yields (exec (.lapHeaderReceived n h true arrival latRx) s) fun t =>
      t.dev.InLap n h arrival (s.dev.lapIdOk n h)
        (s.dev.rd64 pFramer (cFramer n) + 1) ∧ t.mem = s.mem ∧ t.pending = s.pending := by
  have ka := s.dev.lapLocked_kept n
  have hs := (Dev.signals_framer hr.powered).congr ka.offPages
  have hin := Dev.lapFields_inLap (h := h) (arrival := arrival) hs (s.dev.lapLocked_lane n).1 (s.dev.lapLocked_lane n).2
    (s.dev.lapLocked_evt n (Dev.signals_framer hr.powered)) latRx
  rw [s.dev.lapLocked_headers n, Dev.lapIdOk_congr ka.live n h] at hin
  refine (ka.trans ((s.dev.lapLocked n).lapFields_kept n h arrival latRx)).yieldsOn hc hr (f := (·.lapHeader n h true arrival latRx))
    (Dev.lapHeader_second hseg hl hf hcw hm hcrc) rfl (by decide) fun t hset kept => ⟨hin.settled hset (kept.cl n), kept.mem, kept.pending⟩

end

/-! O23 -/

/-- What LAP_START sends to a lane says its map as a choice between three. -/
theorem Dev.lapMap_eq (d : Dev) (n : Lane) : d.lapMap n =
    (if !d.srcOk n || d.b pFecLtx fForceFill then 0xFFFFFF else if ((d.groupLanes n).map fun k => (d.cl k).fifo.length).foldl min 16 <
      d.lg pFecLtx (fFillThr (d.groupBase n)) then 1 else 0 : BitVec 24) := by
  simp [Dev.lapMap, Dev.lapAll, Dev.lapLast]

/-- Settles O23: each command by what its page and its lane become; a header in Lap lock by the steps of `Dev.lapFields_eq`. -/
theorem lapsCodewordsAndRates : Obligations.LapsCodewordsAndRates := by
  refine ⟨?start, ?second, ?first, ?badCrc, ?miss, ?decode, ?rate, ?restart, ?fault, ?tune, ?clear⟩
  case start =>
    intro s n lat hc hr hseg
    obtain ⟨t, ht, hlap, hmap, hlanes, hevt, hkept⟩ := lapStart_begins (lat := lat) hc hr hseg
    refine ⟨t, ht, hlap, hmap.trans (s.dev.lapMap_eq n), fun k hk => ?_, hevt, hkept⟩
    obtain ⟨hpos, hmarker, hnum, hfill, hcrc⟩ := hlanes k hk
    exact ⟨hpos, hmarker, hnum, hmap ▸ hfill, hcrc⟩
  case second =>
    rintro s n h _ arrival latRx hc hr hseg hl hf rfl hcw hm hcrc
    obtain ⟨t, ht, hin, hmem, hpend⟩ := lapHeader_second_locks (arrival := arrival) (latRx := latRx) hc hr hseg hl hf hcw hm hcrc
    exact ⟨t, ht, hin.lock, hin.miss, hin.event, hin.state, hin.farIdx, hin.identity, hin.headers, hin.phase, hmem, hpend⟩
  case first =>
    intro s n h spaced arrival latRx hc hr hseg hl hcw hm hf
    exact ((DevKept.refl s.dev).updCl n _).yieldsOn hc hr (f := (·.lapHeader n h spaced arrival latRx))
      (Dev.lapHeader_first hseg hl hcw hm hf) rfl List.not_mem_nil fun _ _ kept => kept
  case badCrc =>
    rintro s n h _ arrival latRx hc hr hseg hl hcw hm rfl hcrc
    exact lapHeader_badCrc_counts hc hr hseg hl hcw hm hcrc
  case miss =>
    rintro s n h _ arrival latRx hc hr hseg hl hm rfl hmiss
    exact ((DevKept.refl s.dev).updCl n _).yieldsOn hc hr (f := (·.lapHeader n h true arrival latRx))
      (Dev.lapHeader_miss hseg hl hm hmiss) rfl List.not_mem_nil fun _ _ kept => kept
  case decode =>
    intro s n fs errs hc hr hseg ha
    exact rsCodewordDecode_counts hc hr hseg ha rfl
  case rate =>
    intro s n b taken new ins del hc hr hseg hlf ht hmarks hins hdel hnew
    exact rateMatch_counts hc hr hseg hlf ht hmarks hins hdel hnew
  case restart =>
    intro s n b taken hc hr hseg hlf ht
    exact rateMatch_restarts hc hr hseg hlf ht
  case fault =>
    intro s n b taken hc hr hseg hlf
    exact rateMatch_localFault hc hr hseg hlf
  case tune =>
    intro s n new hc hr hseg hup hen ht hi ha
    exact tuneWindowEnd_moves hc hr hseg hup hen ht hi ha
  case clear =>
    intro s w p v off base k hc h ht
    exact codingCntClr_zeroes hc h ht

end Sys2Proof.Machine
end
